-- ==== Sys2Proof/Word.lean ====
section
/-! DEFINITION. The word types of the model, and the shape of a register field. -/

namespace Sys2Proof

/-- A 32-bit register (R48, R412). -/
abbrev Word := BitVec 32

/-- One byte of host memory. -/
abbrev Byte := BitVec 8

namespace Machine

/-- The access codes of R9. -/
inductive Acc where
  | ro | rw | w1c | wo | rc
  deriving DecidableEq, Repr

/-- A register field: the register's byte offset, the field's lowest bit, its width (R7). -/
structure Fld where
  off : Nat
  lo  : Nat
  len : Nat
  deriving DecidableEq, Repr

/-- A field of a register description: lowest bit, width, access code, reset value. -/
structure FieldDesc where
  lo  : Nat
  len : Nat
  acc : Acc
  rst : Nat
  deriving DecidableEq, Repr

/-- A row of a register table of the spec: the register (or `cnt` registers, `stride` bytes apart). -/
structure RegDesc where
  off    : Nat
  stride : Nat
  cnt    : Nat
  fields : List FieldDesc
  deriving DecidableEq, Repr

end Machine
end Sys2Proof
end

