-- ==== Sys2Proof/Syntax.lean ====
section
/-! DEFINITION. The commands of the block: one constructor per row of spec/opcode_table.json, in the table's order.
A command that is a Plynpax instruction carries `n`, the issue number of the issued instruction that starts execution;
every operand of it (LOC, OPA, OPB, flags) lies in the issued entry itself (R52). An event carries the instance it
happens at and what was observed there. -/

namespace Sys2Proof

/-- What a boot attempt meets outside the part's state: the flash, and the two results of the algorithms that R338 names and
no rule lays out (log entry 11). -/
structure Image where
  found     : Bool                -- a JESD216 flash was found (R341)
  bytes     : List (BitVec 8)     -- what lies in the flash from the image's first byte (R336, R337)
  keyHash   : Nat                 -- SHA-384 of PUBKEY
  sigOk     : Bool                -- SIGNATURE valid under PUBKEY (R338)
  deriving DecidableEq, Repr

/-- What a start from power-good or a reset release meets (R318, R334). -/
structure BootEnv where
  bootsel    : Nat        -- BOOTSEL1, BOOTSEL0
  xaXtal     : Bool
  xbXtal     : Bool
  image      : Image      -- the SPI NOR image, or the host's
  xaStable   : Bool
  xbStable   : Bool
  memOk      : Bool       -- table and descriptor memory passed its self-test
  badCells   : List Nat   -- cells that failed memory initialisation, as package cell pointers (R334)
  taTest     : Nat        -- headstock self-test codes, 0 = pass (R177)
  tbTest     : Nat
  deriving DecidableEq, Repr

/-- The clock sources that are monitored (R317, R324). -/
inductive ClkSrc where
  | xa | xb | fast
  deriving DecidableEq, Repr

/-- Where a supply drop is seen (R465). -/
inductive Rail where
  | hub | timeTA | timeTB
  deriving DecidableEq, Repr

/-- What one gate measured of one reference slot (R153 to R157). The offsets of IEEE 1588 and Relka references, and what
follows from them, come from the state of their ports. -/
structure GateMeas where
  slot : Nat
  foff : Int                  -- mean frequency against LREF, 0.01 ppb
  offs : List (Nat × Int)     -- offsets against the timescale: ticks before the end of the gate, 2^-16 ns; newest first
  fail : Bool                 -- an activity condition was present that the state does not show
  deriving DecidableEq, Repr

/-- How a calibration run ended (R385): a failure code, or the values measured. -/
inductive CalEnd where
  | ok (values : List Int)
  | fail (code : Nat)
  deriving DecidableEq, Repr

/-- A fault report arriving at the collector (R364); the kind fixes the severity (R366). -/
structure FaultMsg where
  loc    : Nat
  kind   : Nat
  inj    : Bool
  detail : Nat
  deriving DecidableEq, Repr

/-- What the line showed of a frame beside its octets (R236, R237, R254). -/
structure RxLine where
  heads : List Nat    -- sync headers of its 66-bit blocks: 1 data, 2 control; 0 and 3 become an error block
  badCw : Nat         -- its codewords that the decoder could not correct
  part  : Bool        -- only part of it has arrived so far
  deriving DecidableEq, Repr

/-- What one lane of a port showed when it locked (R246). -/
structure LaneLock where
  inv     : Bool
  logical : Nat
  deriving DecidableEq, Repr

/-- What a port showed when lock completed on every lane: its lanes, and how far apart they lie, in ps (R239, R246). -/
structure LockSeen where
  lanes : List LaneLock
  skew  : Nat
  deriving DecidableEq, Repr

/-- A port whose negotiation completes, and the modes that its partner advertises (R240). -/
structure AnEnd where
  port    : Nat
  partner : List Nat
  deriving DecidableEq, Repr

/-- What 2^20 codewords brought: symbols corrected, codewords with corrections, and codewords beyond correction besides
those of received frames (R237). -/
structure FecCount where
  syms   : Nat
  corr   : Nat
  uncorr : Nat
  deriving DecidableEq, Repr

/-- The measured terms of a lock (R89, R247): slips in half-UI, words, fs. -/
structure LockMeas where
  pRxHalf : Nat
  nGbRx   : Nat
  nGbTx   : Nat
  nDsk    : Nat
  phiTx   : Int
  agree   : Bool      -- all 4,096 samples of each occupancy equal
  deriving DecidableEq, Repr

/-- The commands. -/
inductive Instr where
  -- CTL
  | nop (n : Nat)
  | fenceUnit (n : Nat)
  | fenceCluster (n : Nat)
  | fenceRegion (n : Nat)
  | fenceDie (n : Nat)
  | fencePkg (n : Nat)
  | fenceSys (n : Nat)
  | fenceSetComplete (n : Nat)
  | fenceSysTimeout (n : Nat)
  | waitTime (n : Nat)
  | waitTimeDue (n : Nat)
  | waitEvent (n : Nat)
  | waitEventTimeout (n : Nat)
  -- CFG
  | cfgRead (n : Nat)
  | cfgWrite (n : Nat)
  | cfgModify (n : Nat)
  | tasCancelWrite (n : Nat)
  -- TBL
  | tblWrite (n : Nat)
  | tblDelete (n : Nat)
  | tblRead (n : Nat)
  | tblSearch (n : Nat)
  | tblCommit (n : Nat)
  -- PORT
  | portSetMode (n : Nat)
  | portSetRate (n : Nat)
  | portSetSpan (n : Nat)
  | portSetPtp (n : Nat)
  | portSetRelka (n : Nat)
  | portSetIngress (n : Nat)
  | portSetDscp (n : Nat)
  | portUp (n : Nat)
  | portDown (n : Nat)
  | portLoopStart (n : Nat)
  | portLoopEnd (n : Nat)
  | portPrbsStart (n : Nat)
  | portPrbsStop (n : Nat)
  | portInject (n : Nat)
  | portInjectTimeout (n : Nat)
  -- QUE, MIR
  | queSetScheduling (n : Nat)
  | queSetClassShaper (n : Nat)
  | queSetAdmission (n : Nat)
  | queSetPortShaper (n : Nat)
  | queSetPortFlow (n : Nat)
  | queGatelistLoad (n : Nat)
  | queGatelistOpen (n : Nat)
  | queFlush (n : Nat)
  | mirSet (n : Nat)
  -- TIME
  | timeSet (n : Nat)
  | timeStep (n : Nat)
  | timeSlew (n : Nat)
  | timeAlign (n : Nat)
  | timeAlignApply (n : Nat)
  | timeArm (n : Nat)
  | timeArmDisarm (n : Nat)
  | timeCaptureDrain (n : Nat)
  | timeCaptureFlush (n : Nat)
  | tsqDrain (n : Nat)
  -- LINK
  | linkSoundBegin (n : Nat)
  | linkSoundMeasure (n : Nat)
  | soundMeasureTimeout (n : Nat)
  | linkSoundSolve (n : Nat)
  | linkSoundEnd (n : Nat)
  | linkSoundAbort (n : Nat)
  | linkAsymSetCfg (n : Nat)
  | linkAsymSetCmis (n : Nat)
  | linkAsymSetWavelengths (n : Nat)
  | linkAsymSetConfig (n : Nat)
  -- REF
  | refSetNominate (n : Nat)
  | refSetWithdraw (n : Nat)
  | refSelect (n : Nat)
  | refForce (n : Nat)
  | refRelease (n : Nat)
  | refAcceptStep (n : Nat)
  -- OUT
  | outSet (n : Nat)
  | outFreq (n : Nat)
  | outRelockDone (k : Nat)
  | synthUnlock (k : Nat)
  -- HST
  | hstSwap (n : Nat)
  | hstRevive (n : Nat)
  | hstSelftestDone (tb : Bool) (code : Nat)
  | hstCheckpoint (n : Nat)
  -- POW
  | powWake (n : Nat)
  | powSleep (n : Nat)
  | powSleepTimeout (n : Nat)
  | powBudget (n : Nat)
  -- FLT
  | fltInject (n : Nat)
  | fltInjectTimeout (n : Nat)
  | fltClearKind (n : Nat)
  | fltClearAll (n : Nat)
  | fltClearLatches (n : Nat)
  | fltClearSafe (n : Nat)
  | fltReact (n : Nat)
  -- CAL
  | calRun (n : Nat)
  | calRunDone (n : Nat) (e : CalEnd)
  | calRead (n : Nat)
  | calWrite (n : Nat)
  | calFactory (n : Nat)
  | calFactoryAll (n : Nat)
  -- DIAG
  | diagTally (n : Nat)
  | diagLoop (n : Nat)
  | diagLoopDone (n : Nat) (bad : Nat) (resid : List Int)
  -- issuer and rings
  | issue
  | timedPark (n : Nat)
  | timedActionDue (n : Nat)
  | completionRecordWrite (n : Nat)
  | backgroundBudgetTimeout (n : Nat)
  | doorbellWrite (ring : Nat) (value : Nat) (writes : List Host.Cell)
  | ringCtrlWrite (ring : Nat) (value : Nat)
  | ringResume (ring : Nat)
  | commandRingReset (ring : Nat)
  | ringResetDone (ring : Nat)
  | completionRingReset (ring : Nat)
  | packetRingReset (ring : Nat)
  -- faceplate
  | faceplateWrite (off : Nat) (value : Nat) (wide : Bool)
  | faceplateBadAccess (write : Bool)
  | rcRegisterRead (off : Nat)
  | fpIntWrite (off : Nat) (value : Nat)
  | msixUnmask (vec : Nat)
  | ringIntTimer (ring : Nat)
  | fpBootGo (value : Nat) (env : BootEnv)
  | fpReset (value : Nat) (env : BootEnv)
  -- power and resets
  | powerGoodRise (env : BootEnv)
  | powerGoodFall
  | rstN (env : BootEnv)
  | wrstN (env : BootEnv)
  | hostPortReset
  | supplyDrop (rail : Rail)
  -- clocks
  | sourceStable (src : ClkSrc)
  | sourceFail (src : ClkSrc)
  | tailstockLrefFreeze (t : Nat)
  | phaseBuildOutDone
  | pllCoast (p : Nat)
  | pllRelockDone (p : Nat)
  | pllRelockTimeout (p : Nat)
  | fastOscTimeout
  | sysReturn
  | sysToLref (n : Nat)
  | lrefSelWrite (n : Nat)
  | pllRatioWrite (n : Nat)
  | gateIdle (loc : Nat)
  | gateTimeout (loc : Nat)
  -- spindle and headstocks
  | spindleWord
  | spindleWordReceive (t : Nat) (tb : Bool) (flips : Nat)
  | spindleSilent (t : Nat)
  | stepApply
  | stepCommit
  | slewDone
  | heartbeat (tb : Bool) (selfOk : Bool)
  | heartbeatTimeout (tb : Bool)
  | warmingFirstWord
  | warmingTimeout
  | dualActiveEnd
  | hstLinkFail
  | standbyFail
  | checkpointWrite
  | ckptStale
  -- references
  | todMessage (bytes : List (BitVec 8))
  | refActivityFail (slot : Nat)
  | refGateEnd (meas : List GateMeas)
  | settleWindowEnd (residual : Int)
  | servoLock
  -- frames
  | frameReceive (die port : Nat) (bytes : List (BitVec 8)) (line : RxLine)
  | pipelineFrame (die port : Nat)
  | frameTransmit (die port : Nat)
  | pktFromHostEntry (ring : Nat)
  | pfcFrameReceive (die port : Nat) (enable : Nat) (quanta : List Nat)
  | pfcPauseExpiry (die port prio : Nat)
  | pfcRefresh (die port prio : Nat)
  | egressStatusBroadcast (die : Nat)
  | bridgeFlitReceive (die ep : Nat) (badLane : Option Nat)
  | bridgeLaneFail (die ep lane : Nat)
  | bridgeFailoverDone (die ep : Nat)
  | bridgeDown (die ep : Nat)
  | bridgeUp (die ep : Nat)
  | drainGapEnd (die bucket far : Nat)
  | drainGapExpiry (die bucket far : Nat)
  | flapHoldExpiry (die port : Nat)
  | frerResetTimeout (die stream : Nat)
  | duplicateEntryForget (die stream : Nat) (src seq : Nat)
  -- link bring-up
  | signalDetect (die port : Nat)
  | autonegComplete (die : Nat) (an : AnEnd)
  | trainingComplete (die port : Nat)
  | trainingFail (die port : Nat)
  | lockComplete (die port : Nat) (seen : LockSeen)
  | lockTimeout (die port : Nat)
  | measuringDone (die port : Nat) (m : LockMeas)
  | lossCondition (die port cause : Nat)
  | lossConditionClear (die port : Nat)
  | debounceExpiry (die port : Nat)
  | remoteFaultReceived (die port : Nat)
  | remoteFaultCleared (die port : Nat)
  | transmitShort (die port lane : Nat)
  | transmitOpenSense (die port lane : Nat) (isOpen : Bool)
  | fecDegradeCheck (die port : Nat) (fec : FecCount)
  | prbsCheckerLock (die unit lane : Nat)
  | prbsCheckerUnlock (die unit lane : Nat)
  -- IEEE 1588
  | announceTimeout (die port : Nat)
  | ptpSyncSend (die port : Nat)
  | ptpDelayReqSend (die port : Nat)
  | ptpPdelayReqSend (die port : Nat)
  | ptpMessageReceive (die port : Nat) (bytes : List (BitVec 8))
  -- Relka
  | relkaReqSend (die port : Nat)
  | relkaReqReceive (die port : Nat) (blocks : List Nat)
  | relkaRspSend (die port : Nat)
  | relkaRspReceive (die port : Nat) (blocks : List Nat)
  | relkaResponseMiss (die port : Nat)
  | relkaSilentPeriods (die port : Nat)
  | relkaMessageTimeout (die port : Nat)
  | phaseDelivery (die port : Nat) (codes : List Nat)
  | spanCheck (die port : Nat)
  | censusReceive (die port : Nat) (blocks : List Nat)
  | creditSend (die port cls : Nat)
  | creditReceive (die port : Nat) (blocks : List Nat)
  | markReceive (die port : Nat) (blocks : List Nat)
  | markAckSend (die port : Nat)
  | markAckReceive (die port : Nat) (blocks : List Nat)
  -- ledger, gates, heat
  | wakeGrant
  | pipelineWakeReady (die clu : Nat)
  | autoSleep (die clu : Nat)
  | gatePrewake (die port : Nat)
  | gatelistStart (die port : Nat)
  | gateChange (die port : Nat)
  | thermalSample (readings : List Int)
  -- timing I/O
  | captureEdge (ch : Nat) (falling : Bool) (code : Nat)
  | triggerFire (ch : Nat)
  | pulseEdge (k o : Nat)
  -- faults and the rest
  | faultMessage (msgs : List FaultMsg)
  | hstLinkUp
  | warmingSelfCheckFail (code : Nat)
  | portInjectDone (n : Nat)
  | outputRestart (k o : Nat)
  | autonegRestart (die port : Nat)
  | referencePulse (inp : Nat) (offset : Int)
  | busMasteringEnable
  | tapInstructionLoad (ir : Nat)
  deriving DecidableEq, Repr

end Sys2Proof
end

