-- ==== Sys2Proof/Decode.lean ====
section
/-! DEFINITION. Words of commands. The table of the spec gives no row any bits: a command of this block is not an
encoded word (the 128-bit entry of R52 is data that ISSUE reads from a ring), so no word spells one. -/

namespace Sys2Proof

/-- The command a word spells by the table's bits: none, since no row of the table has bits. -/
def decodeTableWord (_nbits _w : Nat) : Option Instr := none

end Sys2Proof
end

