-- ==== Sys2Proof/Machine/Bits.lean ====
section
/-! DEFINITION. Bit fields, signed values, byte order, CRCs and sorted association lists. -/

namespace Sys2Proof.Machine

/-- Bits `lo` to `lo + len - 1` of a number (R7). -/
def bits (x lo len : Nat) : Nat := x / 2 ^ lo % 2 ^ len

/-- One bit of a number (R7). -/
def bit (x i : Nat) : Bool := x / 2 ^ i % 2 == 1

/-- A flag as a number. -/
def b2n (b : Bool) : Nat := if b then 1 else 0

/-- The value of a field of a register (R7). -/
def fget (w : Word) (lo len : Nat) : Nat := bits w.toNat lo len

/-- A register with one field replaced; the value is cut to the field (R7). -/
def fset (w : Word) (lo len v : Nat) : Word :=
  BitVec.ofNat 32 (w.toNat / 2 ^ (lo + len) * 2 ^ (lo + len) + v % 2 ^ len * 2 ^ lo + w.toNat % 2 ^ lo)

/-- A `len`-bit number read as two's complement. -/
def sx (v len : Nat) : Int := if v < 2 ^ (len - 1) then (v : Int) else (v : Int) - 2 ^ len

/-- An integer as a `len`-bit two's complement number, wrapping. -/
def toBits (i : Int) (len : Nat) : Nat := (i % (2 ^ len : Nat)).toNat

/-- An integer as a `len`-bit two's complement number, saturating. -/
def satBits (i : Int) (len : Nat) : Nat :=
  if i ≥ 2 ^ (len - 1) then 2 ^ (len - 1) - 1
  else if i < -(2 ^ (len - 1)) then 2 ^ (len - 1)
  else toBits i len

/-- A count kept at the full scale of `len` bits (saturating). -/
def satNat (v len : Nat) : Nat := min v (2 ^ len - 1)

/-- Rounded division, halves rounded up (R84). -/
def roundDiv (a : Int) (b : Nat) : Int := Int.fdiv (2 * a + b) (2 * b)

/-- Division rounded up. -/
def ceilDiv (a b : Nat) : Nat := (a + b - 1) / b

/-- The bits set among the lowest `n`, in ascending order. -/
def bitList (x n : Nat) : List Nat := (List.range n).filter (fun i => bit x i)

/-- `n` little-endian bytes of a number (R7). -/
def leBytes : Nat → Nat → List Byte
  | 0, _ => []
  | n + 1, v => BitVec.ofNat 8 v :: leBytes n (v / 256)

/-- The number that little-endian bytes hold (R7). -/
def leNat : List Byte → Nat
  | [] => 0
  | b :: bs => b.toNat + 256 * leNat bs

/-- The number that big-endian bytes hold. -/
def beNat (bs : List Byte) : Nat := bs.foldl (fun a b => a * 256 + b.toNat) 0

/-- `n` big-endian bytes of a number. -/
def beBytes (n v : Nat) : List Byte := (leBytes n v).reverse

/-- `n` bytes of a byte sequence from position `i`; positions past the end read 0. -/
def sub (bs : List Byte) (i n : Nat) : List Byte :=
  let t := (bs.drop i).take n
  t ++ List.replicate (n - t.length) 0

/-- Little-endian field of a byte sequence. -/
def leAt (bs : List Byte) (i n : Nat) : Nat := leNat (sub bs i n)

/-- Big-endian field of a byte sequence. -/
def beAt (bs : List Byte) (i n : Nat) : Nat := beNat (sub bs i n)

/-- Bytes replaced in a byte sequence from position `i`. -/
def putAt (bs : List Byte) (i : Nat) (v : List Byte) : List Byte :=
  bs.take i ++ v ++ bs.drop (i + v.length)

/-- CRC-16 of R123: polynomial 0x1021, initial value 0xFFFF, bit 0 of the covered number first. -/
def crc16Step : Nat → Nat → Nat → Nat
  | 0, _, r => r
  | n + 1, x, r =>
    let top := r / 32768 % 2
    let r' := r * 2 % 65536
    crc16Step n (x / 2) (if (top + x) % 2 = 1 then Nat.xor r' 0x1021 else r')

/-- CRC-16 as in R123 over the lowest `n` bits of `x`. -/
def crc16 (x n : Nat) : Nat := crc16Step n x 0xFFFF

/-- One byte into the reflected CRC-32 of R186. -/
def crc32Byte (r : Nat) (b : Byte) : Nat :=
  (List.range 8).foldl (fun r _ => if r % 2 = 1 then Nat.xor (r / 2) 0xEDB88320 else r / 2) (Nat.xor r b.toNat)

/-- CRC-32 of R186: polynomial 0x04C1_1DB7 reflected, initial value and final XOR 0xFFFF_FFFF. -/
def crc32 (bs : List Byte) : Nat := Nat.xor (bs.foldl crc32Byte 0xFFFFFFFF) 0xFFFFFFFF

/-- A table by number: pairs with strictly rising keys. -/
abbrev Tab (α : Type) := List (Nat × α)

/-- The entry under a key. -/
def Tab.get? {α : Type} : Tab α → Nat → Option α
  | [], _ => none
  | (k', v) :: t, k => if k' = k then some v else Tab.get? t k

/-- The entry under a key, or the given default. -/
def Tab.get {α : Type} (d : α) (t : Tab α) (k : Nat) : α := (Tab.get? t k).getD d

/-- Puts an entry in its place by key. -/
def Tab.set {α : Type} : Tab α → Nat → α → Tab α
  | [], k, v => [(k, v)]
  | (k', v') :: t, k, v =>
    if k < k' then (k, v) :: (k', v') :: t
    else if k' = k then (k, v) :: t
    else (k', v') :: Tab.set t k v

/-- Removes the entry under a key. -/
def Tab.del {α : Type} : Tab α → Nat → Tab α
  | [], _ => []
  | (k', v') :: t, k => if k' = k then t else (k', v') :: Tab.del t k

/-- The keys rise strictly (the one form of a table). -/
def Tab.wf {α : Type} : Tab α → Bool
  | [] => true
  | [_] => true
  | (k, _) :: (k', v') :: t => decide (k < k') && Tab.wf ((k', v') :: t)

/-- The whole part of a square root, for numbers below 2^128: bit by bit from the top. -/
def isqrt (n : Nat) : Nat :=
  (List.range 64).foldr (fun i r => if (r + 2 ^ i) * (r + 2 ^ i) ≤ n then r + 2 ^ i else r) 0

end Sys2Proof.Machine
end

