-- ==== Sys2Proof/Config.lean ====
section
/-! DEFINITION. The free values: constants without a body, applied to the model's counter or to the operands they
depend on. Nothing in Lean can evaluate one, so a statement about one holds for every value (log entry 6). -/

namespace Sys2Proof.Config

/-- Which of the free slot tags is taken (R56 fixes only the range). -/
opaque tagPick : Nat → Nat
/-- Bytes of a checkpoint whose layout inside their area R186 leaves open: the content of the area, offset in it. -/
opaque ckptByte : List Int → Nat → BitVec 8
/-- Factory values of a calibratable instance, by location and item (R383, R384); in fs. -/
opaque factory : Nat → Nat → Nat → Int
/-- The servo's change of FCW at a spindle word (no rule gives the loop). -/
opaque steer : Nat → Int
/-- The rank at which an item enters the flow hash, by its number: 0 HASH_SEED, then the fields as R275 names them. -/
opaque hashRank : Nat → Nat
/-- A value a rule leaves open where none of the above applies, by a counter. -/
opaque free : Nat → Nat

end Sys2Proof.Config
end

