-- ==== Sys2Proof/Machine/RegMap.lean ====
section
/-! DEFINITION. The register map of the configuration space and of the faceplate: every field the register tables
of spec/ name (file and rule beside each block), at its offset, with its access code and reset value. -/

namespace Sys2Proof.Machine

def R.FP_ID_PART : Fld := ⟨0x0, 16, 16⟩
def R.FP_ID_GRADE : Fld := ⟨0x0, 12, 4⟩
def R.FP_ID_REV_MAJOR : Fld := ⟨0x0, 8, 4⟩
def R.FP_ID_REV_MINOR : Fld := ⟨0x0, 4, 4⟩
def R.FP_ID_S_DIES : Fld := ⟨0x0, 0, 4⟩
def R.TAS_CANCEL_COOKIE : Fld := ⟨0x100, 0, 16⟩
def R.TAS_CANCEL_RING : Fld := ⟨0x100, 16, 5⟩
def R.TAS_STAT_USED : Fld := ⟨0x104, 0, 11⟩
def R.TAS_STAT_FULL_COUNT : Fld := ⟨0x104, 16, 16⟩
def R.DLY_RX_MEAS_SUM : Fld := ⟨0x200, 0, 32⟩
def R.DLY_TX_MEAS_SUM : Fld := ⟨0x204, 0, 32⟩
def R.DLY_RX_EXT_EXT : Fld := ⟨0x208, 0, 32⟩
def R.DLY_TX_EXT_EXT : Fld := ⟨0x20C, 0, 32⟩
def R.DLY_STAT_VALID : Fld := ⟨0x210, 0, 1⟩
def R.DLY_STAT_CHANGED : Fld := ⟨0x210, 1, 1⟩
def R.DLY_STAT_CHANGES : Fld := ⟨0x210, 8, 8⟩
def R.DLY_STAT_LOCKS : Fld := ⟨0x210, 16, 16⟩
def R.TS_CTRL_TSQ_MODE : Fld := ⟨0x220, 0, 1⟩
def R.TS_CTRL_STAMP_ALL_RX : Fld := ⟨0x220, 1, 1⟩
def R.TS_CTRL_TC_EN : Fld := ⟨0x220, 2, 1⟩
def R.TSQ_STAT_USED : Fld := ⟨0x224, 0, 5⟩
def R.TSQ_STAT_DROP : Fld := ⟨0x224, 16, 16⟩
def R.TS_CNT_TSQ_BADID : Fld := ⟨0x228, 0, 8⟩
def R.TS_CNT_TC_OVF : Fld := ⟨0x228, 8, 8⟩
def R.TS_CNT_TC_NOMATCH : Fld := ⟨0x228, 16, 16⟩
def R.RLK_CTRL_EN : Fld := ⟨0x300, 0, 1⟩
def R.RLK_CTRL_SOUND_CAP : Fld := ⟨0x300, 1, 1⟩
def R.RLK_CTRL_MARK_CAP : Fld := ⟨0x300, 2, 1⟩
def R.RLK_CTRL_FALLBACK_PROFILE : Fld := ⟨0x300, 4, 3⟩
def R.RLK_CTRL_PARTNER_PKG : Fld := ⟨0x300, 16, 5⟩
def R.RLK_STAT_STATE : Fld := ⟨0x304, 0, 3⟩
def R.RLK_STAT_ASYM_SRC : Fld := ⟨0x304, 4, 2⟩
def R.RLK_STAT_REASON : Fld := ⟨0x304, 8, 4⟩
def R.RLK_STAT_MISSED : Fld := ⟨0x304, 12, 4⟩
def R.RLK_STAT_EXCHANGES : Fld := ⟨0x304, 16, 16⟩
def R.RLK_PDELAY_LO_PDELAY : Fld := ⟨0x308, 0, 32⟩
def R.RLK_PDELAY_HI_PDELAY : Fld := ⟨0x30C, 0, 16⟩
def R.RLK_OFFSET_THETA : Fld := ⟨0x310, 0, 32⟩
def R.RLK_ASYM_CFG_CFG : Fld := ⟨0x314, 0, 32⟩
def R.RLK_LAMBDA_TX_LAMBDA : Fld := ⟨0x318, 0, 22⟩
def R.RLK_LAMBDA_RX_LAMBDA : Fld := ⟨0x31C, 0, 22⟩
def R.RLK_DISP_DMID : Fld := ⟨0x320, 0, 20⟩
def R.RLK_DL_DL : Fld := ⟨0x324, 0, 32⟩
def R.RLK_ASYM_EFF_A : Fld := ⟨0x328, 0, 32⟩
def R.RLK_CNT_MISS : Fld := ⟨0x32C, 0, 8⟩
def R.RLK_CNT_BADMSG : Fld := ⟨0x32C, 8, 8⟩
def R.RLK_CNT_DISCARD : Fld := ⟨0x32C, 16, 8⟩
def R.RLK_CNT_PHASE_HIT : Fld := ⟨0x32C, 24, 8⟩
def R.RLK_PHASE_PHASE_ACC : Fld := ⟨0x330, 0, 32⟩
def R.RLK_SND_RTT_A_RTT_LO : Fld := ⟨0x340, 0, 32⟩
def R.RLK_SND_RTT_A_RTT_HI : Fld := ⟨0x344, 0, 16⟩
def R.RLK_SND_RTT_B_RTT_LO : Fld := ⟨0x348, 0, 32⟩
def R.RLK_SND_RTT_B_RTT_HI : Fld := ⟨0x34C, 0, 16⟩
def R.RLK_SYS_PKG_NUM : Fld := ⟨0x400, 0, 5⟩
def R.RLK_SYS_SYS_EPOCH : Fld := ⟨0x400, 16, 16⟩
def R.RLK_ORGID_ORGID : Fld := ⟨0x404, 0, 24⟩
def R.CC_CTRL_LOCKED_CC : Fld := ⟨0x5C4, 0, 8⟩
def R.CC_CTRL_HOLD_CC : Fld := ⟨0x5C4, 8, 8⟩
def R.CC_CTRL_HOLD_OUT_CC : Fld := ⟨0x5C4, 16, 8⟩
def R.CC_CTRL_FREE_CC : Fld := ⟨0x5C4, 24, 8⟩
def R.CC_SAFE_SAFE_CC : Fld := ⟨0x5C8, 0, 8⟩
def R.CC_SAFE_HOLD_SPEC_S : Fld := ⟨0x5C8, 16, 16⟩
def R.CC_NOW_CLOCK_CLASS : Fld := ⟨0x5CC, 0, 8⟩
def R.REF_CTRL_REVERTIVE : Fld := ⟨0x500, 0, 1⟩
def R.REF_CTRL_ACCEPT_LARGE : Fld := ⟨0x500, 1, 1⟩
def R.REF_CTRL_LOOKAHEAD_EN : Fld := ⟨0x500, 2, 1⟩
def R.REF_CTRL_VOTE_EN : Fld := ⟨0x500, 3, 1⟩
def R.REF_CTRL_TOD_BAUD : Fld := ⟨0x500, 4, 1⟩
def R.REF_CTRL_ACCEPT_UNTRACED : Fld := ⟨0x500, 5, 1⟩
def R.REF_QUAL_ACCEPT : Fld := ⟨0x504, 0, 10⟩
def R.REF_QUAL_WARN : Fld := ⟨0x504, 10, 10⟩
def R.REF_QUAL_REJECT : Fld := ⟨0x504, 20, 10⟩
def R.REF_TIMES_QUALIFY_S : Fld := ⟨0x508, 0, 8⟩
def R.REF_TIMES_LOOKAHEAD_S : Fld := ⟨0x508, 8, 8⟩
def R.REF_TIMES_WTR_S : Fld := ⟨0x508, 16, 16⟩
def R.REF_PHASE_SLEW_THR : Fld := ⟨0x50C, 0, 8⟩
def R.REF_PHASE_SLEW_RATE : Fld := ⟨0x50C, 8, 16⟩
def R.REF_SANITY_SANITY : Fld := ⟨0x510, 0, 32⟩
def R.REF_VOTE_VOTE : Fld := ⟨0x514, 0, 16⟩
def R.REF_CHAT_CHAT_1S : Fld := ⟨0x518, 0, 16⟩
def R.REF_CHAT_CHAT_100S : Fld := ⟨0x518, 16, 16⟩
def R.REF_SEL_SELECTED : Fld := ⟨0x520, 0, 3⟩
def R.REF_SEL_NONE : Fld := ⟨0x520, 3, 1⟩
def R.REF_SEL_SERVO_STATE : Fld := ⟨0x520, 4, 3⟩
def R.REF_SEL_TRACEABLE : Fld := ⟨0x520, 7, 1⟩
def R.REF_SEL_MODE : Fld := ⟨0x520, 8, 2⟩
def R.REF_SEL_SETTLING : Fld := ⟨0x520, 10, 1⟩
def R.REF_SEL_TS_TRACED : Fld := ⟨0x520, 11, 1⟩
def R.REF_STAT_STATE (i : Nat) : Fld := ⟨0x540 + 4 * i, 0, 3⟩
def R.REF_STAT_WARN (i : Nat) : Fld := ⟨0x540 + 4 * i, 3, 1⟩
def R.REF_STAT_FORECAST (i : Nat) : Fld := ⟨0x540 + 4 * i, 4, 1⟩
def R.REF_STAT_CAUSE (i : Nat) : Fld := ⟨0x540 + 4 * i, 5, 3⟩
def R.REF_STAT_WARN_COUNT (i : Nat) : Fld := ⟨0x540 + 4 * i, 8, 8⟩
def R.REF_STAT_WTR_LEFT (i : Nat) : Fld := ⟨0x540 + 4 * i, 16, 16⟩
def R.REF_FOFF_FOFF (i : Nat) : Fld := ⟨0x560 + 4 * i, 0, 32⟩
def R.REF_TOFF_TOFF (i : Nat) : Fld := ⟨0x580 + 4 * i, 0, 32⟩
def R.REF_PEND_LO_PEND : Fld := ⟨0x5A0, 0, 32⟩
def R.REF_PEND_HI_PEND : Fld := ⟨0x5A4, 0, 32⟩
def R.REF_STEP_LAST_LO_STEP : Fld := ⟨0x5A8, 0, 32⟩
def R.REF_STEP_LAST_HI_STEP : Fld := ⟨0x5AC, 0, 32⟩
def R.SR_STAT_HIST_VALID : Fld := ⟨0x5B0, 0, 1⟩
def R.SR_STAT_DRIFT_VALID : Fld := ⟨0x5B0, 1, 1⟩
def R.SR_STAT_LOCKED_MIN : Fld := ⟨0x5B0, 16, 16⟩
def R.SR_CTRL_LONG_H : Fld := ⟨0x5B4, 0, 8⟩
def R.SR_CTRL_GUARD_S : Fld := ⟨0x5B4, 8, 8⟩
def R.SR_CTRL_HIST_MIN_S : Fld := ⟨0x5B4, 16, 16⟩
def R.SR_FCW_NOM_LO_FCW : Fld := ⟨0x5B8, 0, 32⟩
def R.SR_FCW_NOM_HI_FCW : Fld := ⟨0x5BC, 0, 16⟩
def R.SR_DURATION_SECONDS : Fld := ⟨0x5C0, 0, 32⟩
def R.REF_CFG_CFG (i : Nat) : Fld := ⟨0x600 + 4 * i, 0, 18⟩
def R.HST_CTRL_PREFER_TB : Fld := ⟨0x700, 0, 1⟩
def R.HST_CTRL_STALE_MS : Fld := ⟨0x700, 8, 8⟩
def R.HST_STAT_TA_STATE : Fld := ⟨0x704, 0, 3⟩
def R.HST_STAT_TB_STATE : Fld := ⟨0x704, 4, 3⟩
def R.HST_STAT_ACTIVE_TB : Fld := ⟨0x704, 8, 1⟩
def R.HST_STAT_DUAL_ACTIVE : Fld := ⟨0x704, 9, 1⟩
def R.HST_STAT_LINK_UP : Fld := ⟨0x704, 10, 1⟩
def R.HST_STAT_CKPT_STALE : Fld := ⟨0x704, 11, 1⟩
def R.HST_STAT_TAKEOVERS : Fld := ⟨0x704, 16, 16⟩
def R.HST_EPOCH_EPOCH : Fld := ⟨0x708, 0, 16⟩
def R.HST_CKPT_SEQ_SEQ : Fld := ⟨0x70C, 0, 32⟩
def R.HST_CKPT_AGE_AGE : Fld := ⟨0x710, 0, 32⟩
def R.HST_LAST_DURATION : Fld := ⟨0x714, 0, 16⟩
def R.HST_LAST_CAUSE : Fld := ⟨0x714, 16, 8⟩
def R.HST_LAST_CKPT_TORN : Fld := ⟨0x714, 24, 8⟩
def R.HST_LAST_AGE_AGE : Fld := ⟨0x718, 0, 32⟩
def R.HST_HB_MISS_TA : Fld := ⟨0x71C, 0, 16⟩
def R.HST_HB_MISS_TB : Fld := ⟨0x71C, 16, 16⟩
def R.SPN_CNT_EPOCH_DISCARD : Fld := ⟨0x0, 0, 16⟩
def R.SPN_CNT_BAD_WORD : Fld := ⟨0x0, 16, 16⟩
def R.OUT_SYN_RATIO_LO_M : Fld := ⟨0x0, 0, 32⟩
def R.OUT_SYN_RATIO_HI_M : Fld := ⟨0x4, 0, 16⟩
def R.OUT_SYN_STAT_LOCKED : Fld := ⟨0x8, 0, 1⟩
def R.OUT_SYN_STAT_MUTED : Fld := ⟨0x8, 1, 1⟩
def R.OUT_SYN_STAT_RELOCKS : Fld := ⟨0x8, 16, 16⟩
def R.OUT_DITHER_CTRL_EN : Fld := ⟨0xC, 0, 1⟩
def R.OUT_DITHER_SEED_SEED : Fld := ⟨0x10, 0, 32⟩
def R.OUT_CFG_FORMAT : Fld := ⟨0x0, 0, 3⟩
def R.OUT_CFG_INVERT : Fld := ⟨0x0, 3, 1⟩
def R.OUT_CFG_MODE : Fld := ⟨0x0, 4, 1⟩
def R.OUT_CFG_HS : Fld := ⟨0x0, 5, 4⟩
def R.OUT_CFG_SAFE_MUTE : Fld := ⟨0x0, 9, 1⟩
def R.OUT_DIV_N : Fld := ⟨0x4, 0, 32⟩
def R.OUT_PULSE_PERIOD_PERIOD : Fld := ⟨0x8, 0, 32⟩
def R.OUT_PULSE_WIDTH_WIDTH : Fld := ⟨0xC, 0, 32⟩
def R.OUT_PULSE_OFS_OFS : Fld := ⟨0x10, 0, 32⟩
def R.OUT_STAT_LIVE : Fld := ⟨0x14, 0, 1⟩
def R.OUT_STAT_MUTED : Fld := ⟨0x14, 1, 1⟩
def R.OUT_STAT_MUTES : Fld := ⟨0x14, 16, 16⟩
def R.CAP_CTRL_EN : Fld := ⟨0x0, 0, 1⟩
def R.CAP_CTRL_STD : Fld := ⟨0x0, 1, 1⟩
def R.CAP_CTRL_EDGE : Fld := ⟨0x0, 2, 2⟩
def R.CAP_CTRL_MODE : Fld := ⟨0x0, 4, 1⟩
def R.CAP_CTRL_LOOP : Fld := ⟨0x0, 5, 1⟩
def R.CAP_CTRL_LOOP_TRG : Fld := ⟨0x0, 6, 3⟩
def R.CAP_CTRL_DEAD : Fld := ⟨0x0, 16, 16⟩
def R.CAP_STAT_USED : Fld := ⟨0x4, 0, 9⟩
def R.CAP_STAT_DROP : Fld := ⟨0x4, 16, 16⟩
def R.CAP_EXT_EXT : Fld := ⟨0x8, 0, 32⟩
def R.CAP_SEQ_SEQ : Fld := ⟨0xC, 0, 16⟩
def R.TRG_CTRL_STD : Fld := ⟨0x0, 0, 1⟩
def R.TRG_CTRL_POLARITY : Fld := ⟨0x0, 1, 1⟩
def R.TRG_CTRL_STEP_MODE : Fld := ⟨0x0, 2, 1⟩
def R.TRG_CTRL_SAFE_MUTE : Fld := ⟨0x0, 3, 1⟩
def R.TRG_PERIOD_LO_NS : Fld := ⟨0x4, 0, 32⟩
def R.TRG_PERIOD_HI_NS : Fld := ⟨0x8, 0, 16⟩
def R.TRG_FRAC_NUM : Fld := ⟨0xC, 0, 16⟩
def R.TRG_FRAC_DEN : Fld := ⟨0xC, 16, 16⟩
def R.TRG_WIDTH_WIDTH : Fld := ⟨0x10, 0, 32⟩
def R.TRG_COUNT_COUNT : Fld := ⟨0x14, 0, 32⟩
def R.TRG_BURST_B_M1 : Fld := ⟨0x18, 0, 8⟩
def R.TRG_BURST_S : Fld := ⟨0x18, 8, 24⟩
def R.TRG_EXT_EXT : Fld := ⟨0x1C, 0, 32⟩
def R.TRG_STAT_STATE : Fld := ⟨0x20, 0, 2⟩
def R.TRG_STAT_CAUSE : Fld := ⟨0x20, 2, 2⟩
def R.TRG_STAT_SKIPPED : Fld := ⟨0x20, 16, 16⟩
def R.TRG_FIRED_FIRED : Fld := ⟨0x24, 0, 32⟩
def R.PORT_STAT_STATE : Fld := ⟨0x0, 0, 4⟩
def R.PORT_STAT_DOWN_CAUSE : Fld := ⟨0x0, 4, 4⟩
def R.PORT_STAT_RF_RX : Fld := ⟨0x0, 8, 1⟩
def R.PORT_STAT_TX_ON : Fld := ⟨0x0, 9, 1⟩
def R.PORT_STAT_LOOP : Fld := ⟨0x0, 10, 3⟩
def R.PORT_STAT_LINK_DOWNS : Fld := ⟨0x0, 16, 16⟩
def R.PORT_LINK_CFG_AN_EN : Fld := ⟨0x4, 0, 1⟩
def R.PORT_LINK_CFG_TRAIN_EN : Fld := ⟨0x4, 1, 1⟩
def R.PORT_LINK_CFG_MAX_FRAME : Fld := ⟨0x4, 16, 14⟩
def R.PORT_DEBOUNCE_DEBOUNCE : Fld := ⟨0x8, 0, 14⟩
def R.PORT_GLITCH_GLITCHES : Fld := ⟨0xC, 0, 16⟩
def R.PORT_GLITCH_AN_RESTARTS : Fld := ⟨0xC, 16, 16⟩
def R.FEC_CW_CW : Fld := ⟨0x10, 0, 32⟩
def R.FEC_CORR_CORR : Fld := ⟨0x14, 0, 32⟩
def R.FEC_UNCORR_UNCORR : Fld := ⟨0x18, 0, 32⟩
def R.FEC_SYM_SYM : Fld := ⟨0x1C, 0, 32⟩
def R.FEC_DEGRADE_THRESH : Fld := ⟨0x20, 0, 24⟩
def R.RX_ERR_ERRORED : Fld := ⟨0x24, 0, 16⟩
def R.RX_ERR_OVERSIZE : Fld := ⟨0x24, 16, 16⟩
def R.LANDING_OCC_BYTES : Fld := ⟨0x28, 0, 15⟩
def R.LANDING_OCC_HWM : Fld := ⟨0x28, 16, 16⟩
def R.DIAG_LOOP_MIN_MIN : Fld := ⟨0x30, 0, 32⟩
def R.DIAG_LOOP_MAX_MAX : Fld := ⟨0x34, 0, 32⟩
def R.DIAG_LOOP_MEAN_MEAN : Fld := ⟨0x38, 0, 32⟩
def R.LANDING_DISCARD_COUNT (i : Nat) : Fld := ⟨0x40 + 4 * i, 0, 32⟩
def R.LANE_CTRL_TX_INV : Fld := ⟨0x0, 0, 1⟩
def R.LANE_STAT_LOS : Fld := ⟨0x4, 0, 1⟩
def R.LANE_STAT_CDR_LOCK : Fld := ⟨0x4, 1, 1⟩
def R.LANE_STAT_LOCK : Fld := ⟨0x4, 2, 1⟩
def R.LANE_STAT_RX_INV : Fld := ⟨0x4, 3, 1⟩
def R.LANE_STAT_RX_LOGICAL : Fld := ⟨0x4, 4, 2⟩
def R.LANE_STAT_TX_OPEN : Fld := ⟨0x4, 6, 1⟩
def R.LANE_STAT_TX_SHORT : Fld := ⟨0x4, 7, 1⟩
def R.LANE_STAT_LOCK_LOSSES : Fld := ⟨0x4, 16, 16⟩
def R.PRBS_STAT_GEN_ON : Fld := ⟨0x8, 0, 1⟩
def R.PRBS_STAT_CHK_ON : Fld := ⟨0x8, 1, 1⟩
def R.PRBS_STAT_CHK_LOCK : Fld := ⟨0x8, 2, 1⟩
def R.PRBS_STAT_PATTERN : Fld := ⟨0x8, 3, 4⟩
def R.PRBS_STAT_RATE : Fld := ⟨0x8, 7, 3⟩
def R.PRBS_STAT_RELOCKS : Fld := ⟨0x8, 16, 16⟩
def R.PRBS_ERR_LO_ERR : Fld := ⟨0xC, 0, 32⟩
def R.PRBS_ERR_HI_ERR : Fld := ⟨0x10, 0, 16⟩
def R.PRBS_BITS_LO_BITS : Fld := ⟨0x14, 0, 32⟩
def R.PRBS_BITS_HI_BITS : Fld := ⟨0x18, 0, 16⟩
def R.PU_MODE_MODE : Fld := ⟨0x0, 0, 3⟩
def R.PU_MODE_TX_MAP : Fld := ⟨0x0, 8, 8⟩
def R.PU_MODE_SVC_25G : Fld := ⟨0x0, 16, 8⟩
def R.FWD_STAT_AWAKE : Fld := ⟨0x0, 0, 1⟩
def R.FWD_STAT_WAKES : Fld := ⟨0x0, 16, 16⟩
def R.FWD_CNT_PARSE_SHORT : Fld := ⟨0x4, 0, 8⟩
def R.FWD_CNT_NO_ROUTE : Fld := ⟨0x4, 8, 8⟩
def R.FWD_CNT_TBL_ECC : Fld := ⟨0x4, 16, 8⟩
def R.FWD_CNT_LAG_EMPTY : Fld := ⟨0x4, 24, 8⟩
def R.FWD_FRAMES_LO_FRAMES : Fld := ⟨0x8, 0, 32⟩
def R.FWD_FRAMES_HI_FRAMES : Fld := ⟨0xC, 0, 16⟩
def R.TC_ATTR_TIME_BOUND (i : Nat) : Fld := ⟨0x0 + 4 * i, 0, 1⟩
def R.TC_ATTR_LOSSLESS (i : Nat) : Fld := ⟨0x0 + 4 * i, 1, 1⟩
def R.TC_ATTR_YIELDING (i : Nat) : Fld := ⟨0x0 + 4 * i, 2, 1⟩
def R.HASH_SEED_SEED : Fld := ⟨0x40, 0, 32⟩
def R.PIN_CFG_DRAIN_GAP : Fld := ⟨0x44, 0, 16⟩
def R.PIN_STAT_IN_GAP : Fld := ⟨0x48, 0, 10⟩
def R.PIN_STAT_GAP_EXPIRED : Fld := ⟨0x48, 16, 16⟩
def R.PRP_CFG_ENTRY_FORGET : Fld := ⟨0x4C, 0, 16⟩
def R.TBL_BANK_LIVE : Fld := ⟨0x50, 0, 10⟩
def R.TBL_BANK_COMMITS : Fld := ⟨0x50, 16, 16⟩
def R.MIR_STAT_EN (i : Nat) : Fld := ⟨0x60 + 4 * i, 0, 1⟩
def R.MIR_STAT_LOST (i : Nat) : Fld := ⟨0x60 + 4 * i, 16, 16⟩
def R.BRG_STAT_UP : Fld := ⟨0x0, 0, 1⟩
def R.BRG_STAT_FAILOVER : Fld := ⟨0x0, 1, 1⟩
def R.BRG_STAT_SPARES_LEFT : Fld := ⟨0x0, 2, 2⟩
def R.BRG_STAT_DEGRADED : Fld := ⟨0x0, 4, 1⟩
def R.BRG_STAT_REPLAYS : Fld := ⟨0x0, 16, 16⟩
def R.BRG_CNT_LOST : Fld := ⟨0x4, 0, 16⟩
def R.BRG_CNT_CRC_ERR : Fld := ⟨0x4, 16, 16⟩
def R.QUE_STAT_IN_HOLD : Fld := ⟨0x800, 0, 1⟩
def R.QUE_STAT_GATES_OPER : Fld := ⟨0x800, 1, 1⟩
def R.QUE_STAT_GATES_PENDING : Fld := ⟨0x800, 2, 1⟩
def R.QUE_STAT_HOLD_LEFT : Fld := ⟨0x800, 16, 16⟩
def R.QUE_GATES_OPEN : Fld := ⟨0x804, 0, 16⟩
def R.QUE_CUT_CUT : Fld := ⟨0x808, 0, 16⟩
def R.QUE_CUT_ABORT : Fld := ⟨0x808, 16, 16⟩
def R.QUE_HEADROOM_CELLS : Fld := ⟨0x80C, 0, 20⟩
def R.CRD_STAT_GEN : Fld := ⟨0x810, 0, 8⟩
def R.CRD_STAT_READY : Fld := ⟨0x810, 8, 1⟩
def R.CRD_STAT_RESYNC : Fld := ⟨0x810, 16, 16⟩
def R.CRD_WINDOW_W : Fld := ⟨0x814, 0, 20⟩
def R.PFC_STAT_TX_XOFF : Fld := ⟨0x818, 0, 8⟩
def R.PFC_STAT_RX_XOFF : Fld := ⟨0x818, 8, 8⟩
def R.PFC_STAT_PFC_RX : Fld := ⟨0x818, 16, 16⟩
def R.QUE_DEPTH_CELLS (i : Nat) : Fld := ⟨0x840 + 4 * i, 0, 20⟩
def R.QUE_REFUSE_COUNT (i : Nat) : Fld := ⟨0x880 + 4 * i, 0, 32⟩
def R.QUE_DISCARD_FLUSHED (i : Nat) : Fld := ⟨0x8C0 + 4 * i, 0, 16⟩
def R.QUE_DISCARD_DOWN_DISCARD (i : Nat) : Fld := ⟨0x8C0 + 4 * i, 16, 16⟩
def R.CRD_AVAIL_AVAIL (i : Nat) : Fld := ⟨0x900 + 4 * i, 0, 20⟩
def R.QUE_CLASS_CFG_STRICT (i : Nat) : Fld := ⟨0xA00 + 16 * i, 0, 1⟩
def R.QUE_CLASS_CFG_PFC_PRIO (i : Nat) : Fld := ⟨0xA00 + 16 * i, 1, 3⟩
def R.QUE_CLASS_CFG_ALPHA (i : Nat) : Fld := ⟨0xA00 + 16 * i, 4, 4⟩
def R.QUE_CLASS_CFG_QUANTUM (i : Nat) : Fld := ⟨0xA00 + 16 * i, 16, 16⟩
def R.QUE_CLASS_CFG_MIN_CELLS (i : Nat) : Fld := ⟨0xA04 + 16 * i, 0, 20⟩
def R.QUE_CLASS_CFG_RATE (i : Nat) : Fld := ⟨0xA08 + 16 * i, 0, 32⟩
def R.QUE_CLASS_CFG_BURST (i : Nat) : Fld := ⟨0xA0C + 16 * i, 0, 24⟩
def R.QUE_PORT_CFG_LOSSLESS_EN : Fld := ⟨0xB00, 0, 1⟩
def R.QUE_PORT_CFG_CREDIT : Fld := ⟨0xB00, 1, 1⟩
def R.QUE_PORT_CFG_FLAP_HOLD : Fld := ⟨0xB00, 16, 14⟩
def R.QUE_PORT_SHAPER_RATE : Fld := ⟨0xB04, 0, 32⟩
def R.QUE_PORT_SHAPER_BURST : Fld := ⟨0xB08, 0, 24⟩
def R.BUF_SLICE_USED : Fld := ⟨0x0, 0, 17⟩
def R.BUF_SLICE_AWAKE : Fld := ⟨0x0, 17, 1⟩
def R.BUF_FREE_CELLS : Fld := ⟨0x0, 0, 19⟩
def R.BUF_USED_CELLS : Fld := ⟨0x4, 0, 19⟩
def R.BUF_QUAR_CELLS : Fld := ⟨0x8, 0, 19⟩
def R.BUF_RESERVED_CELLS : Fld := ⟨0xC, 0, 19⟩
def R.BUF_SHARED_MIN_CELLS : Fld := ⟨0x10, 0, 19⟩
def R.BUF_ECC_CORRECTED : Fld := ⟨0x14, 0, 16⟩
def R.BUF_ECC_UNCORRECTED : Fld := ⟨0x14, 16, 16⟩
def R.CLK_CTRL_LREF_SEL : Fld := ⟨0x0, 0, 1⟩
def R.CLK_CTRL_LREF_AUTO : Fld := ⟨0x0, 1, 1⟩
def R.CLK_CTRL_XB_EN : Fld := ⟨0x0, 2, 1⟩
def R.CLK_CTRL_FAST_KEEP : Fld := ⟨0x0, 3, 1⟩
def R.CLK_CTRL_SYS_RETURN : Fld := ⟨0x0, 4, 1⟩
def R.CLK_CTRL_SYS_TO_LREF : Fld := ⟨0x0, 5, 1⟩
def R.CLK_STAT_XA_STABLE : Fld := ⟨0x4, 0, 1⟩
def R.CLK_STAT_XB_STABLE : Fld := ⟨0x4, 1, 1⟩
def R.CLK_STAT_FAST_STABLE : Fld := ⟨0x4, 2, 1⟩
def R.CLK_STAT_LREF_XB : Fld := ⟨0x4, 3, 1⟩
def R.CLK_STAT_LREF_LOST : Fld := ⟨0x4, 4, 1⟩
def R.CLK_STAT_SYS_ON_FAST : Fld := ⟨0x4, 5, 1⟩
def R.CLK_STAT_XA_FAIL : Fld := ⟨0x4, 8, 1⟩
def R.CLK_STAT_XB_FAIL : Fld := ⟨0x4, 9, 1⟩
def R.CLK_STAT_LREF_SWITCHED : Fld := ⟨0x4, 10, 1⟩
def R.CLK_EVT_XA_FAILS : Fld := ⟨0x8, 0, 8⟩
def R.CLK_EVT_XB_FAILS : Fld := ⟨0x8, 8, 8⟩
def R.CLK_EVT_LREF_SWITCHES : Fld := ⟨0x8, 16, 8⟩
def R.CLK_XFREQ_A_HZ : Fld := ⟨0xC, 0, 28⟩
def R.CLK_XFREQ_B_HZ : Fld := ⟨0x10, 0, 28⟩
def R.CLK_XDIFF_DIFF : Fld := ⟨0x14, 0, 32⟩
def R.CLK_PLL_LOCKED (i : Nat) : Fld := ⟨0x100 + 4 * i, 0, 1⟩
def R.CLK_PLL_COAST (i : Nat) : Fld := ⟨0x100 + 4 * i, 1, 1⟩
def R.CLK_PLL_ON_FAST (i : Nat) : Fld := ⟨0x100 + 4 * i, 2, 1⟩
def R.CLK_PLL_SRC_FAST (i : Nat) : Fld := ⟨0x100 + 4 * i, 3, 1⟩
def R.CLK_PLL_RATIO (i : Nat) : Fld := ⟨0x100 + 4 * i, 4, 2⟩
def R.CLK_PLL_RELOCK_BUSY (i : Nat) : Fld := ⟨0x100 + 4 * i, 6, 1⟩
def R.CLK_PLL_COASTS (i : Nat) : Fld := ⟨0x100 + 4 * i, 16, 16⟩
def R.FP_BOOT_STATE : Fld := ⟨0x4, 0, 4⟩
def R.FP_BOOT_SRC : Fld := ⟨0x4, 4, 2⟩
def R.FP_BOOT_KEY_SLOT : Fld := ⟨0x4, 6, 1⟩
def R.FP_BOOT_CODE : Fld := ⟨0x4, 8, 8⟩
def R.FP_BOOT_RST_CAUSE : Fld := ⟨0x4, 16, 4⟩
def R.FP_BOOT_RST_VIA : Fld := ⟨0x4, 20, 4⟩
def R.FP_BOOT_INFO_INFO : Fld := ⟨0x8, 0, 32⟩
def R.FP_BOOT_ADDR_LO_ADDR : Fld := ⟨0xC, 0, 32⟩
def R.FP_BOOT_ADDR_HI_ADDR : Fld := ⟨0x10, 0, 32⟩
def R.FP_BOOT_LEN_LEN : Fld := ⟨0x14, 0, 22⟩
def R.FP_BOOT_GO_GO : Fld := ⟨0x18, 0, 1⟩
def R.FP_RESET_WARM : Fld := ⟨0x1C, 0, 1⟩
def R.POW_POOL_POOL : Fld := ⟨0x0, 0, 14⟩
def R.POW_POOL_FIXED : Fld := ⟨0x0, 16, 14⟩
def R.POW_TOKENS_FREE : Fld := ⟨0x4, 0, 14⟩
def R.POW_TOKENS_GRANTED : Fld := ⟨0x4, 16, 14⟩
def R.POW_RESV_RESERVED : Fld := ⟨0x8, 0, 14⟩
def R.POW_DIE_BUDGET (i : Nat) : Fld := ⟨0x100 + 4 * i, 0, 14⟩
def R.POW_DIE_USED (i : Nat) : Fld := ⟨0x100 + 4 * i, 16, 14⟩
def R.POW_REG_BUDGET (i : Nat) : Fld := ⟨0x120 + 8 * i, 0, 14⟩
def R.POW_REG_EFFECTIVE (i : Nat) : Fld := ⟨0x120 + 8 * i, 16, 14⟩
def R.POW_REG_USED (i : Nat) : Fld := ⟨0x124 + 8 * i, 0, 14⟩
def R.POW_REG_STEP (i : Nat) : Fld := ⟨0x124 + 8 * i, 16, 3⟩
def R.POW_REG_OVER (i : Nat) : Fld := ⟨0x124 + 8 * i, 24, 1⟩
def R.POW_CLU_BUDGET (i : Nat) : Fld := ⟨0x160 + 8 * i, 0, 14⟩
def R.POW_CLU_EFFECTIVE (i : Nat) : Fld := ⟨0x160 + 8 * i, 16, 14⟩
def R.POW_CLU_USED (i : Nat) : Fld := ⟨0x164 + 8 * i, 0, 14⟩
def R.POW_CLU_OVER (i : Nat) : Fld := ⟨0x164 + 8 * i, 24, 1⟩
def R.POW_REG_TEMP_SENSOR0 (i : Nat) : Fld := ⟨0x200 + 8 * i, 0, 16⟩
def R.POW_REG_TEMP_SENSOR1 (i : Nat) : Fld := ⟨0x200 + 8 * i, 16, 16⟩
def R.POW_REG_TEMP_SENSOR2 (i : Nat) : Fld := ⟨0x204 + 8 * i, 0, 16⟩
def R.POW_REG_TEMP_SENSOR3 (i : Nat) : Fld := ⟨0x204 + 8 * i, 16, 16⟩
def R.POW_THERM_KNEE : Fld := ⟨0x300, 0, 16⟩
def R.POW_THERM_HYST : Fld := ⟨0x300, 16, 8⟩
def R.POW_CNT_DENIED : Fld := ⟨0x304, 0, 16⟩
def R.POW_CNT_WAKE_WAITS : Fld := ⟨0x304, 16, 16⟩
def R.POW_WAIT_HWM_NS : Fld := ⟨0x308, 0, 32⟩
def R.PWR_CTRL_AUTO_SLEEP : Fld := ⟨0x20, 0, 1⟩
def R.PWR_CTRL_PINNED : Fld := ⟨0x20, 1, 1⟩
def R.PWR_CTRL_ON_RESERVE : Fld := ⟨0x20, 2, 1⟩
def R.PWR_CTRL_RESERVED_HELD : Fld := ⟨0x20, 3, 1⟩
def R.PWR_CTRL_IDLE_US : Fld := ⟨0x20, 16, 16⟩
def R.PU_POW_STATE : Fld := ⟨0x4, 0, 2⟩
def R.FLT_CTRL_FAULTN_SEV : Fld := ⟨0x0, 0, 2⟩
def R.FLT_CTRL_LATCH_SEV : Fld := ⟨0x0, 2, 2⟩
def R.FLT_CTRL_EVT_SEV : Fld := ⟨0x0, 4, 2⟩
def R.FLT_CTRL_INJ_LIVE : Fld := ⟨0x0, 6, 1⟩
def R.FLT_STAT_SAFE : Fld := ⟨0x4, 0, 1⟩
def R.FLT_STAT_FAULT_N_LOW : Fld := ⟨0x4, 1, 1⟩
def R.FLT_STAT_RESET_ONLY : Fld := ⟨0x4, 2, 1⟩
def R.FLT_STAT_SAFE_KIND : Fld := ⟨0x4, 8, 8⟩
def R.FLT_STAT_SAFE_ENTRIES : Fld := ⟨0x4, 16, 16⟩
def R.FLT_FIRST_LO_MSG : Fld := ⟨0x10, 0, 32⟩
def R.FLT_FIRST_REAL_LO_MSG : Fld := ⟨0x30, 0, 32⟩
def R.FLT_FIRST_HI_MSG : Fld := ⟨0x14, 0, 32⟩
def R.FLT_FIRST_REAL_HI_MSG : Fld := ⟨0x34, 0, 32⟩
def R.FLT_FIRST_TIME_LO_TIME : Fld := ⟨0x18, 0, 32⟩
def R.FLT_FIRST_REAL_TIME_LO_TIME : Fld := ⟨0x38, 0, 32⟩
def R.FLT_FIRST_TIME_HI_TIME : Fld := ⟨0x1C, 0, 32⟩
def R.FLT_FIRST_REAL_TIME_HI_TIME : Fld := ⟨0x3C, 0, 32⟩
def R.FLT_FIRST_CTL_VALID : Fld := ⟨0x20, 0, 1⟩
def R.FLT_FIRST_REAL_CTL_VALID : Fld := ⟨0x40, 0, 1⟩
def R.FLT_FIRST_CTL_OVF : Fld := ⟨0x20, 1, 1⟩
def R.FLT_FIRST_REAL_CTL_OVF : Fld := ⟨0x40, 1, 1⟩
def R.FLT_FIRST_CTL_PARITY_ERR : Fld := ⟨0x20, 2, 1⟩
def R.FLT_FIRST_REAL_CTL_PARITY_ERR : Fld := ⟨0x40, 2, 1⟩
def R.FLT_FIRST_CTL_OVF_COUNT : Fld := ⟨0x20, 16, 16⟩
def R.FLT_FIRST_REAL_CTL_OVF_COUNT : Fld := ⟨0x40, 16, 16⟩
def R.FLT_LOG_PTR_NEXT : Fld := ⟨0x50, 0, 10⟩
def R.FLT_LOG_PTR_OVERWRITTEN : Fld := ⟨0x50, 16, 16⟩
def R.SAFE_DISCARD_COUNT (i : Nat) : Fld := ⟨0x60 + 4 * i, 0, 32⟩
def R.FLT_PEND_REAL (i : Nat) : Fld := ⟨0x400 + 4 * i, 0, 1⟩
def R.FLT_PEND_INJ (i : Nat) : Fld := ⟨0x400 + 4 * i, 1, 1⟩
def R.FLT_PEND_SEV_MAX (i : Nat) : Fld := ⟨0x400 + 4 * i, 2, 2⟩
def R.FLT_PEND_LEVEL (i : Nat) : Fld := ⟨0x400 + 4 * i, 4, 3⟩
def R.FLT_PEND_COUNT (i : Nat) : Fld := ⟨0x400 + 4 * i, 16, 16⟩
def R.FLT_LOG_W0 (i : Nat) : Fld := ⟨0x10000 + 16 * i, 0, 32⟩
def R.FLT_LOG_W1 (i : Nat) : Fld := ⟨0x10004 + 16 * i, 0, 32⟩
def R.FLT_LOG_W2 (i : Nat) : Fld := ⟨0x10008 + 16 * i, 0, 32⟩
def R.FLT_LOG_W3 (i : Nat) : Fld := ⟨0x1000C + 16 * i, 0, 32⟩
def R.CAL_STAT_VALID : Fld := ⟨0xF00, 0, 1⟩
def R.CAL_STAT_SOURCE : Fld := ⟨0xF00, 1, 2⟩
def R.CAL_STAT_BUSY : Fld := ⟨0xF00, 3, 1⟩
def R.CAL_STAT_LAST : Fld := ⟨0xF00, 8, 8⟩
def R.CAL_STAT_COUNT : Fld := ⟨0xF00, 16, 16⟩
def R.CAL_TIME_LO_TIME : Fld := ⟨0xF04, 0, 32⟩
def R.CAL_TIME_HI_TIME : Fld := ⟨0xF08, 0, 32⟩
def R.CAL_TEMP_TEMP : Fld := ⟨0xF0C, 0, 16⟩
def R.FP_STATUS_HOST_READY : Fld := ⟨0x20, 0, 1⟩
def R.FP_STATUS_SAFE : Fld := ⟨0x20, 1, 1⟩
def R.FP_STATUS_FAULT_N_LOW : Fld := ⟨0x20, 2, 1⟩
def R.FP_STATUS_REDUCED : Fld := ⟨0x20, 3, 1⟩
def R.FP_STATUS_SERVO_STATE : Fld := ⟨0x20, 4, 3⟩
def R.FP_STATUS_TRACEABLE : Fld := ⟨0x20, 7, 1⟩
def R.FP_STATUS_ACTIVE_TB : Fld := ⟨0x20, 8, 1⟩
def R.FP_STATUS_STANDBY_OK : Fld := ⟨0x20, 9, 1⟩
def R.FP_STATUS_LREF_XB : Fld := ⟨0x20, 10, 1⟩
def R.FP_STATUS_SYS_ON_FAST : Fld := ⟨0x20, 11, 1⟩
def R.FP_STATUS_LEDGER_OVER : Fld := ⟨0x20, 12, 1⟩
def R.FP_STATUS_SELECTED : Fld := ⟨0x20, 16, 3⟩
def R.FP_STATUS_NONE : Fld := ⟨0x20, 19, 1⟩
def R.FP_INT_STAT_BOOT : Fld := ⟨0x24, 0, 1⟩
def R.FP_INT_STAT_SAFE_ENTRY : Fld := ⟨0x24, 1, 1⟩
def R.FP_INT_STAT_SAFE_EXIT : Fld := ⟨0x24, 2, 1⟩
def R.FP_INT_STAT_FAULT_N : Fld := ⟨0x24, 3, 1⟩
def R.FP_INT_STAT_CFG_ERR : Fld := ⟨0x24, 4, 1⟩
def R.FP_INT_STAT_EVT_OVF : Fld := ⟨0x24, 5, 1⟩
def R.FP_INT_STAT_HALTED : Fld := ⟨0x24, 6, 1⟩
def R.FP_INT_EN_EN : Fld := ⟨0x28, 0, 7⟩
def R.FP_INT_MAP_VECTOR : Fld := ⟨0x2C, 0, 8⟩
def R.FP_FLT_SUM_INFO : Fld := ⟨0x30, 0, 8⟩
def R.FP_FLT_SUM_WARN : Fld := ⟨0x30, 8, 8⟩
def R.FP_FLT_SUM_ERROR : Fld := ⟨0x30, 16, 8⟩
def R.FP_FLT_SUM_FATAL : Fld := ⟨0x30, 24, 8⟩
def R.FP_ACC_ERR_COUNT : Fld := ⟨0x34, 0, 16⟩
def R.FP_INT_CNT_COUNT (i : Nat) : Fld := ⟨0x40 + 4 * i, 0, 16⟩
def R.EVT_ROUTE_RING (i : Nat) : Fld := ⟨0x200 + 4 * i, 0, 5⟩
def R.EVT_ROUTE_EN (i : Nat) : Fld := ⟨0x200 + 4 * i, 8, 1⟩
def R.EVT_ROUTE_TSQ_RING (i : Nat) : Fld := ⟨0x220 + 4 * i, 0, 5⟩
def R.EVT_ROUTE_TSQ_OVR (i : Nat) : Fld := ⟨0x220 + 4 * i, 8, 1⟩
def R.EVT_ROUTE_CAP_RING (i : Nat) : Fld := ⟨0x240 + 4 * i, 0, 5⟩
def R.EVT_ROUTE_CAP_OVR (i : Nat) : Fld := ⟨0x240 + 4 * i, 8, 1⟩
def R.RING_INT_VECTOR (i : Nat) : Fld := ⟨0x400 + 4 * i, 0, 8⟩
def R.RING_INT_EN (i : Nat) : Fld := ⟨0x400 + 4 * i, 8, 1⟩
def R.RING_INT_ARMED (i : Nat) : Fld := ⟨0x400 + 4 * i, 9, 1⟩
def R.RING_INT_COUNT (i : Nat) : Fld := ⟨0x400 + 4 * i, 16, 8⟩
def R.RING_INT_TIME (i : Nat) : Fld := ⟨0x400 + 4 * i, 24, 8⟩
def R.HOST_RING_RING : Fld := ⟨0x80, 0, 5⟩
def R.HOST_RING_PTP_TRAP : Fld := ⟨0x80, 8, 1⟩
def R.ROUTER_MAC_LO_MAC (i : Nat) : Fld := ⟨0x100 + 8 * i, 0, 32⟩
def R.ROUTER_MAC_HI_MAC (i : Nat) : Fld := ⟨0x104 + 8 * i, 0, 16⟩
def R.ROUTER_MAC_HI_EN (i : Nat) : Fld := ⟨0x104 + 8 * i, 16, 1⟩

/-- R5, R344, R429, R432, R434. -/
def regs_fp : List RegDesc := [
  ⟨0x0, 0, 1, [⟨16, 16, .ro, 0x0⟩, ⟨12, 4, .ro, 0x0⟩, ⟨8, 4, .ro, 0x1⟩, ⟨4, 4, .ro, 0x1⟩, ⟨0, 4, .ro, 0x0⟩]⟩,
  ⟨0x4, 0, 1, [⟨0, 4, .ro, 0x0⟩, ⟨4, 2, .ro, 0x0⟩, ⟨6, 1, .ro, 0x0⟩, ⟨8, 8, .ro, 0x0⟩, ⟨16, 4, .ro, 0x0⟩, ⟨20, 4, .ro, 0x0⟩]⟩,
  ⟨0x8, 0, 1, [⟨0, 32, .ro, 0x0⟩]⟩,
  ⟨0xC, 0, 1, [⟨0, 32, .rw, 0x0⟩]⟩,
  ⟨0x10, 0, 1, [⟨0, 32, .rw, 0x0⟩]⟩,
  ⟨0x14, 0, 1, [⟨0, 22, .rw, 0x0⟩]⟩,
  ⟨0x18, 0, 1, [⟨0, 1, .wo, 0x0⟩]⟩,
  ⟨0x1C, 0, 1, [⟨0, 1, .wo, 0x0⟩]⟩,
  ⟨0x20, 0, 1, [⟨0, 1, .ro, 0x0⟩, ⟨1, 1, .ro, 0x0⟩, ⟨2, 1, .ro, 0x0⟩, ⟨3, 1, .ro, 0x0⟩, ⟨4, 3, .ro, 0x0⟩, ⟨7, 1, .ro, 0x0⟩, ⟨8, 1, .ro, 0x0⟩, ⟨9, 1, .ro, 0x0⟩, ⟨10, 1, .ro, 0x0⟩, ⟨11, 1, .ro, 0x0⟩, ⟨12, 1, .ro, 0x0⟩, ⟨16, 3, .ro, 0x0⟩, ⟨19, 1, .ro, 0x1⟩]⟩,
  ⟨0x24, 0, 1, [⟨0, 1, .w1c, 0x0⟩, ⟨1, 1, .w1c, 0x0⟩, ⟨2, 1, .w1c, 0x0⟩, ⟨3, 1, .w1c, 0x0⟩, ⟨4, 1, .w1c, 0x0⟩, ⟨5, 1, .w1c, 0x0⟩, ⟨6, 1, .w1c, 0x0⟩]⟩,
  ⟨0x28, 0, 1, [⟨0, 7, .rw, 0x0⟩]⟩,
  ⟨0x2C, 0, 1, [⟨0, 8, .rw, 0x0⟩]⟩,
  ⟨0x30, 0, 1, [⟨0, 8, .ro, 0x0⟩, ⟨8, 8, .ro, 0x0⟩, ⟨16, 8, .ro, 0x0⟩, ⟨24, 8, .ro, 0x0⟩]⟩,
  ⟨0x34, 0, 1, [⟨0, 16, .rc, 0x0⟩]⟩,
  ⟨0x40, 4, 7, [⟨0, 16, .rc, 0x0⟩]⟩,
  ⟨0x200, 4, 8, [⟨0, 5, .rw, 0x0⟩, ⟨8, 1, .rw, 0x0⟩]⟩,
  ⟨0x220, 4, 4, [⟨0, 5, .rw, 0x0⟩, ⟨8, 1, .rw, 0x0⟩]⟩,
  ⟨0x240, 4, 8, [⟨0, 5, .rw, 0x0⟩, ⟨8, 1, .rw, 0x0⟩]⟩,
  ⟨0x400, 4, 128, [⟨0, 8, .rw, 0x0⟩, ⟨8, 1, .rw, 0x0⟩, ⟨9, 1, .ro, 0x1⟩, ⟨16, 8, .rw, 0x1⟩, ⟨24, 8, .rw, 0x0⟩]⟩]

/-- R80. -/
def regs_tas : List RegDesc := [
  ⟨0x100, 0, 1, [⟨0, 16, .wo, 0x0⟩, ⟨16, 5, .wo, 0x0⟩]⟩,
  ⟨0x104, 0, 1, [⟨0, 11, .ro, 0x0⟩, ⟨16, 16, .rc, 0x0⟩]⟩]

/-- R92, R140, R256, R315. -/
def regs_port_0 : List RegDesc := [
  ⟨0x0, 0, 1, [⟨0, 4, .ro, 0x0⟩, ⟨4, 4, .ro, 0x0⟩, ⟨8, 1, .ro, 0x0⟩, ⟨9, 1, .ro, 0x0⟩, ⟨10, 3, .ro, 0x0⟩, ⟨16, 16, .ro, 0x0⟩]⟩,
  ⟨0x4, 0, 1, [⟨0, 1, .rw, 0x0⟩, ⟨1, 1, .rw, 0x1⟩, ⟨16, 14, .rw, 0x2400⟩]⟩,
  ⟨0x8, 0, 1, [⟨0, 14, .rw, 0xA⟩]⟩,
  ⟨0xC, 0, 1, [⟨0, 16, .rc, 0x0⟩, ⟨16, 16, .rc, 0x0⟩]⟩,
  ⟨0x10, 0, 1, [⟨0, 32, .rc, 0x0⟩]⟩,
  ⟨0x14, 0, 1, [⟨0, 32, .rc, 0x0⟩]⟩,
  ⟨0x18, 0, 1, [⟨0, 32, .rc, 0x0⟩]⟩,
  ⟨0x1C, 0, 1, [⟨0, 32, .rc, 0x0⟩]⟩,
  ⟨0x20, 0, 1, [⟨0, 24, .rw, 0x0⟩]⟩,
  ⟨0x24, 0, 1, [⟨0, 16, .rc, 0x0⟩, ⟨16, 16, .rc, 0x0⟩]⟩,
  ⟨0x28, 0, 1, [⟨0, 15, .ro, 0x0⟩, ⟨16, 16, .rc, 0x0⟩]⟩,
  ⟨0x30, 0, 1, [⟨0, 32, .ro, 0x0⟩]⟩,
  ⟨0x34, 0, 1, [⟨0, 32, .ro, 0x0⟩]⟩,
  ⟨0x38, 0, 1, [⟨0, 32, .ro, 0x0⟩]⟩,
  ⟨0x40, 4, 16, [⟨0, 32, .rc, 0x0⟩]⟩,
  ⟨0x200, 0, 1, [⟨0, 32, .ro, 0x0⟩]⟩,
  ⟨0x204, 0, 1, [⟨0, 32, .ro, 0x0⟩]⟩,
  ⟨0x208, 0, 1, [⟨0, 32, .rw, 0x0⟩]⟩,
  ⟨0x20C, 0, 1, [⟨0, 32, .rw, 0x0⟩]⟩,
  ⟨0x210, 0, 1, [⟨0, 1, .ro, 0x0⟩, ⟨1, 1, .w1c, 0x0⟩, ⟨8, 8, .rc, 0x0⟩, ⟨16, 16, .ro, 0x0⟩]⟩,
  ⟨0x220, 0, 1, [⟨0, 1, .rw, 0x0⟩, ⟨1, 1, .rw, 0x1⟩, ⟨2, 1, .rw, 0x0⟩]⟩,
  ⟨0x224, 0, 1, [⟨0, 5, .ro, 0x0⟩, ⟨16, 16, .rc, 0x0⟩]⟩,
  ⟨0x228, 0, 1, [⟨0, 8, .rc, 0x0⟩, ⟨8, 8, .rc, 0x0⟩, ⟨16, 16, .rc, 0x0⟩]⟩,
  ⟨0x300, 0, 1, [⟨0, 1, .rw, 0x0⟩, ⟨1, 1, .rw, 0x0⟩, ⟨2, 1, .rw, 0x0⟩, ⟨4, 3, .rw, 0x1⟩, ⟨16, 5, .rw, 0x0⟩]⟩,
  ⟨0x304, 0, 1, [⟨0, 3, .ro, 0x0⟩, ⟨4, 2, .ro, 0x0⟩, ⟨8, 4, .ro, 0x0⟩, ⟨12, 4, .ro, 0x0⟩, ⟨16, 16, .ro, 0x0⟩]⟩]

/-- R92, R140, R256, R315. -/
def regs_port_1 : List RegDesc := [
  ⟨0x308, 0, 1, [⟨0, 32, .ro, 0x0⟩]⟩,
  ⟨0x30C, 0, 1, [⟨0, 16, .ro, 0x0⟩]⟩,
  ⟨0x310, 0, 1, [⟨0, 32, .ro, 0x0⟩]⟩,
  ⟨0x314, 0, 1, [⟨0, 32, .rw, 0x0⟩]⟩,
  ⟨0x318, 0, 1, [⟨0, 22, .rw, 0x0⟩]⟩,
  ⟨0x31C, 0, 1, [⟨0, 22, .rw, 0x0⟩]⟩,
  ⟨0x320, 0, 1, [⟨0, 20, .rw, 0x0⟩]⟩,
  ⟨0x324, 0, 1, [⟨0, 32, .ro, 0x0⟩]⟩,
  ⟨0x328, 0, 1, [⟨0, 32, .ro, 0x0⟩]⟩,
  ⟨0x32C, 0, 1, [⟨0, 8, .rc, 0x0⟩, ⟨8, 8, .rc, 0x0⟩, ⟨16, 8, .rc, 0x0⟩, ⟨24, 8, .rc, 0x0⟩]⟩,
  ⟨0x330, 0, 1, [⟨0, 32, .ro, 0x0⟩]⟩,
  ⟨0x340, 0, 1, [⟨0, 32, .ro, 0x0⟩]⟩,
  ⟨0x344, 0, 1, [⟨0, 16, .ro, 0x0⟩]⟩,
  ⟨0x348, 0, 1, [⟨0, 32, .ro, 0x0⟩]⟩,
  ⟨0x34C, 0, 1, [⟨0, 16, .ro, 0x0⟩]⟩,
  ⟨0x800, 0, 1, [⟨0, 1, .ro, 0x0⟩, ⟨1, 1, .ro, 0x0⟩, ⟨2, 1, .ro, 0x0⟩, ⟨16, 16, .ro, 0x0⟩]⟩,
  ⟨0x804, 0, 1, [⟨0, 16, .ro, 0xFFFF⟩]⟩,
  ⟨0x808, 0, 1, [⟨0, 16, .rc, 0x0⟩, ⟨16, 16, .rc, 0x0⟩]⟩,
  ⟨0x80C, 0, 1, [⟨0, 20, .ro, 0x0⟩]⟩,
  ⟨0x810, 0, 1, [⟨0, 8, .ro, 0x0⟩, ⟨8, 1, .ro, 0x0⟩, ⟨16, 16, .rc, 0x0⟩]⟩,
  ⟨0x814, 0, 1, [⟨0, 20, .ro, 0x0⟩]⟩,
  ⟨0x818, 0, 1, [⟨0, 8, .ro, 0x0⟩, ⟨8, 8, .ro, 0x0⟩, ⟨16, 16, .rc, 0x0⟩]⟩,
  ⟨0x840, 4, 16, [⟨0, 20, .ro, 0x0⟩]⟩,
  ⟨0x880, 4, 4, [⟨0, 32, .rc, 0x0⟩]⟩,
  ⟨0x8C0, 4, 16, [⟨0, 16, .rc, 0x0⟩, ⟨16, 16, .rc, 0x0⟩]⟩]

/-- R92, R140, R256, R315. -/
def regs_port_2 : List RegDesc := [
  ⟨0x900, 4, 16, [⟨0, 20, .ro, 0x0⟩]⟩,
  ⟨0xA00, 16, 16, [⟨0, 1, .ro, 0x0⟩, ⟨1, 3, .ro, 0x0⟩, ⟨4, 4, .ro, 0x6⟩, ⟨16, 16, .ro, 0x800⟩]⟩,
  ⟨0xA04, 16, 16, [⟨0, 20, .ro, 0x0⟩]⟩,
  ⟨0xA08, 16, 16, [⟨0, 32, .ro, 0x0⟩]⟩,
  ⟨0xA0C, 16, 16, [⟨0, 24, .ro, 0x0⟩]⟩,
  ⟨0xB00, 0, 1, [⟨0, 1, .ro, 0x0⟩, ⟨1, 1, .ro, 0x0⟩, ⟨16, 14, .ro, 0x7D0⟩]⟩,
  ⟨0xB04, 0, 1, [⟨0, 32, .ro, 0x0⟩]⟩,
  ⟨0xB08, 0, 1, [⟨0, 24, .ro, 0x0⟩]⟩]

/-- R92, R140, R256, R315. -/
def regs_port : List RegDesc := regs_port_0 ++ regs_port_1 ++ regs_port_2

/-- R141, R170, R175, R204. -/
def regs_arb_0 : List RegDesc := [
  ⟨0x400, 0, 1, [⟨0, 5, .rw, 0x0⟩, ⟨16, 16, .ro, 0x0⟩]⟩,
  ⟨0x404, 0, 1, [⟨0, 24, .ro, 0x4AE71D⟩]⟩,
  ⟨0x500, 0, 1, [⟨0, 1, .rw, 0x0⟩, ⟨1, 1, .rw, 0x0⟩, ⟨2, 1, .rw, 0x0⟩, ⟨3, 1, .rw, 0x1⟩, ⟨4, 1, .rw, 0x0⟩, ⟨5, 1, .rw, 0x0⟩]⟩,
  ⟨0x504, 0, 1, [⟨0, 10, .rw, 0xC8⟩, ⟨10, 10, .rw, 0x15E⟩, ⟨20, 10, .rw, 0x1CC⟩]⟩,
  ⟨0x508, 0, 1, [⟨0, 8, .rw, 0xA⟩, ⟨8, 8, .rw, 0x3C⟩, ⟨16, 16, .rw, 0x12C⟩]⟩,
  ⟨0x50C, 0, 1, [⟨0, 8, .rw, 0x4⟩, ⟨8, 16, .rw, 0x2⟩]⟩,
  ⟨0x510, 0, 1, [⟨0, 32, .rw, 0x3E8⟩]⟩,
  ⟨0x514, 0, 1, [⟨0, 16, .rw, 0x32⟩]⟩,
  ⟨0x518, 0, 1, [⟨0, 16, .rw, 0x14⟩, ⟨16, 16, .rw, 0xC8⟩]⟩,
  ⟨0x520, 0, 1, [⟨0, 3, .ro, 0x0⟩, ⟨3, 1, .ro, 0x1⟩, ⟨4, 3, .ro, 0x0⟩, ⟨7, 1, .ro, 0x0⟩, ⟨8, 2, .ro, 0x0⟩, ⟨10, 1, .ro, 0x0⟩, ⟨11, 1, .ro, 0x0⟩]⟩,
  ⟨0x540, 4, 8, [⟨0, 3, .ro, 0x0⟩, ⟨3, 1, .w1c, 0x0⟩, ⟨4, 1, .ro, 0x0⟩, ⟨5, 3, .ro, 0x0⟩, ⟨8, 8, .rc, 0x0⟩, ⟨16, 16, .ro, 0x0⟩]⟩,
  ⟨0x560, 4, 8, [⟨0, 32, .ro, 0x0⟩]⟩,
  ⟨0x580, 4, 8, [⟨0, 32, .ro, 0x0⟩]⟩,
  ⟨0x5A0, 0, 1, [⟨0, 32, .ro, 0x0⟩]⟩,
  ⟨0x5A4, 0, 1, [⟨0, 32, .ro, 0x0⟩]⟩,
  ⟨0x5A8, 0, 1, [⟨0, 32, .ro, 0x0⟩]⟩,
  ⟨0x5AC, 0, 1, [⟨0, 32, .ro, 0x0⟩]⟩,
  ⟨0x5B0, 0, 1, [⟨0, 1, .ro, 0x0⟩, ⟨1, 1, .ro, 0x0⟩, ⟨16, 16, .ro, 0x0⟩]⟩,
  ⟨0x5B4, 0, 1, [⟨0, 8, .rw, 0x18⟩, ⟨8, 8, .rw, 0x8⟩, ⟨16, 16, .rw, 0x12C⟩]⟩,
  ⟨0x5B8, 0, 1, [⟨0, 32, .rw, 0x0⟩]⟩,
  ⟨0x5BC, 0, 1, [⟨0, 16, .rw, 0x0⟩]⟩,
  ⟨0x5C0, 0, 1, [⟨0, 32, .ro, 0x0⟩]⟩,
  ⟨0x5C4, 0, 1, [⟨0, 8, .rw, 0x6⟩, ⟨8, 8, .rw, 0x7⟩, ⟨16, 8, .rw, 0x8C⟩, ⟨24, 8, .rw, 0xF8⟩]⟩,
  ⟨0x5C8, 0, 1, [⟨0, 8, .rw, 0xF8⟩, ⟨16, 16, .rw, 0xE10⟩]⟩,
  ⟨0x5CC, 0, 1, [⟨0, 8, .ro, 0xF8⟩]⟩]

/-- R141, R170, R175, R204. -/
def regs_arb_1 : List RegDesc := [
  ⟨0x600, 4, 8, [⟨0, 18, .ro, 0x0⟩]⟩,
  ⟨0x700, 0, 1, [⟨0, 1, .rw, 0x0⟩, ⟨8, 8, .rw, 0x3⟩]⟩,
  ⟨0x704, 0, 1, [⟨0, 3, .ro, 0x0⟩, ⟨4, 3, .ro, 0x0⟩, ⟨8, 1, .ro, 0x0⟩, ⟨9, 1, .ro, 0x0⟩, ⟨10, 1, .ro, 0x0⟩, ⟨11, 1, .ro, 0x0⟩, ⟨16, 16, .ro, 0x0⟩]⟩,
  ⟨0x708, 0, 1, [⟨0, 16, .ro, 0x0⟩]⟩,
  ⟨0x70C, 0, 1, [⟨0, 32, .ro, 0x0⟩]⟩,
  ⟨0x710, 0, 1, [⟨0, 32, .ro, 0x0⟩]⟩,
  ⟨0x714, 0, 1, [⟨0, 16, .ro, 0x0⟩, ⟨16, 8, .ro, 0x0⟩, ⟨24, 8, .rc, 0x0⟩]⟩,
  ⟨0x718, 0, 1, [⟨0, 32, .ro, 0x0⟩]⟩,
  ⟨0x71C, 0, 1, [⟨0, 16, .rc, 0x0⟩, ⟨16, 16, .rc, 0x0⟩]⟩]

/-- R141, R170, R175, R204. -/
def regs_arb : List RegDesc := regs_arb_0 ++ regs_arb_1

/-- R204. -/
def regs_spn : List RegDesc := [
  ⟨0x0, 0, 1, [⟨0, 16, .rc, 0x0⟩, ⟨16, 16, .rc, 0x0⟩]⟩]

/-- R213. -/
def regs_syn : List RegDesc := [
  ⟨0x0, 0, 1, [⟨0, 32, .ro, 0x0⟩]⟩,
  ⟨0x4, 0, 1, [⟨0, 16, .ro, 0x800⟩]⟩,
  ⟨0x8, 0, 1, [⟨0, 1, .ro, 0x0⟩, ⟨1, 1, .ro, 0x0⟩, ⟨16, 16, .rc, 0x0⟩]⟩,
  ⟨0xC, 0, 1, [⟨0, 1, .rw, 0x1⟩]⟩,
  ⟨0x10, 0, 1, [⟨0, 32, .rw, 0x1⟩]⟩]

/-- R214. -/
def regs_out : List RegDesc := [
  ⟨0x0, 0, 1, [⟨0, 3, .rw, 0x0⟩, ⟨3, 1, .rw, 0x0⟩, ⟨4, 1, .rw, 0x0⟩, ⟨5, 4, .rw, 0x4⟩, ⟨9, 1, .rw, 0x0⟩]⟩,
  ⟨0x4, 0, 1, [⟨0, 32, .rw, 0x1⟩]⟩,
  ⟨0x8, 0, 1, [⟨0, 32, .rw, 0x3B9ACA00⟩]⟩,
  ⟨0xC, 0, 1, [⟨0, 32, .rw, 0x2710⟩]⟩,
  ⟨0x10, 0, 1, [⟨0, 32, .rw, 0x0⟩]⟩,
  ⟨0x14, 0, 1, [⟨0, 1, .ro, 0x0⟩, ⟨1, 1, .ro, 0x0⟩, ⟨16, 16, .rc, 0x0⟩]⟩]

/-- R221. -/
def regs_cap : List RegDesc := [
  ⟨0x0, 0, 1, [⟨0, 1, .rw, 0x0⟩, ⟨1, 1, .rw, 0x0⟩, ⟨2, 2, .rw, 0x0⟩, ⟨4, 1, .rw, 0x0⟩, ⟨5, 1, .rw, 0x0⟩, ⟨6, 3, .rw, 0x0⟩, ⟨16, 16, .rw, 0x64⟩]⟩,
  ⟨0x4, 0, 1, [⟨0, 9, .ro, 0x0⟩, ⟨16, 16, .rc, 0x0⟩]⟩,
  ⟨0x8, 0, 1, [⟨0, 32, .rw, 0x0⟩]⟩,
  ⟨0xC, 0, 1, [⟨0, 16, .ro, 0x0⟩]⟩]

/-- R227. -/
def regs_trg : List RegDesc := [
  ⟨0x0, 0, 1, [⟨0, 1, .rw, 0x0⟩, ⟨1, 1, .rw, 0x0⟩, ⟨2, 1, .rw, 0x0⟩, ⟨3, 1, .rw, 0x0⟩]⟩,
  ⟨0x4, 0, 1, [⟨0, 32, .rw, 0xF4240⟩]⟩,
  ⟨0x8, 0, 1, [⟨0, 16, .rw, 0x0⟩]⟩,
  ⟨0xC, 0, 1, [⟨0, 16, .rw, 0x0⟩, ⟨16, 16, .rw, 0x1⟩]⟩,
  ⟨0x10, 0, 1, [⟨0, 32, .rw, 0x2710⟩]⟩,
  ⟨0x14, 0, 1, [⟨0, 32, .rw, 0x0⟩]⟩,
  ⟨0x18, 0, 1, [⟨0, 8, .rw, 0x0⟩, ⟨8, 24, .rw, 0x64⟩]⟩,
  ⟨0x1C, 0, 1, [⟨0, 32, .rw, 0x0⟩]⟩,
  ⟨0x20, 0, 1, [⟨0, 2, .ro, 0x0⟩, ⟨2, 2, .ro, 0x0⟩, ⟨16, 16, .rc, 0x0⟩]⟩,
  ⟨0x24, 0, 1, [⟨0, 32, .ro, 0x0⟩]⟩]

/-- R257. -/
def regs_lane : List RegDesc := [
  ⟨0x0, 0, 1, [⟨0, 1, .rw, 0x0⟩]⟩,
  ⟨0x4, 0, 1, [⟨0, 1, .ro, 0x1⟩, ⟨1, 1, .ro, 0x0⟩, ⟨2, 1, .ro, 0x0⟩, ⟨3, 1, .ro, 0x0⟩, ⟨4, 2, .ro, 0x0⟩, ⟨6, 1, .ro, 0x0⟩, ⟨7, 1, .ro, 0x0⟩, ⟨16, 16, .rc, 0x0⟩]⟩,
  ⟨0x8, 0, 1, [⟨0, 1, .ro, 0x0⟩, ⟨1, 1, .ro, 0x0⟩, ⟨2, 1, .ro, 0x0⟩, ⟨3, 4, .ro, 0x0⟩, ⟨7, 3, .ro, 0x0⟩, ⟨16, 16, .rc, 0x0⟩]⟩,
  ⟨0xC, 0, 1, [⟨0, 32, .ro, 0x0⟩]⟩,
  ⟨0x10, 0, 1, [⟨0, 16, .ro, 0x0⟩]⟩,
  ⟨0x14, 0, 1, [⟨0, 32, .ro, 0x0⟩]⟩,
  ⟨0x18, 0, 1, [⟨0, 16, .ro, 0x0⟩]⟩]

/-- R258, R363. -/
def regs_unit : List RegDesc := [
  ⟨0x0, 0, 1, [⟨0, 3, .ro, 0x0⟩, ⟨8, 8, .rw, 0xE4⟩, ⟨16, 8, .ro, 0x0⟩]⟩,
  ⟨0x4, 0, 1, [⟨0, 2, .ro, 0x0⟩]⟩]

/-- R285, R363. -/
def regs_fwd : List RegDesc := [
  ⟨0x0, 0, 1, [⟨0, 1, .ro, 0x0⟩, ⟨16, 16, .rc, 0x0⟩]⟩,
  ⟨0x4, 0, 1, [⟨0, 8, .rc, 0x0⟩, ⟨8, 8, .rc, 0x0⟩, ⟨16, 8, .rc, 0x0⟩, ⟨24, 8, .rc, 0x0⟩]⟩,
  ⟨0x8, 0, 1, [⟨0, 32, .ro, 0x0⟩]⟩,
  ⟨0xC, 0, 1, [⟨0, 16, .ro, 0x0⟩]⟩,
  ⟨0x20, 0, 1, [⟨0, 1, .rw, 0x1⟩, ⟨1, 1, .ro, 0x0⟩, ⟨2, 1, .ro, 0x0⟩, ⟨3, 1, .ro, 0x0⟩, ⟨16, 16, .rw, 0xA⟩]⟩]

/-- R286, R446. -/
def regs_cls : List RegDesc := [
  ⟨0x0, 4, 16, [⟨0, 1, .rw, 0x0⟩, ⟨1, 1, .rw, 0x0⟩, ⟨2, 1, .rw, 0x0⟩]⟩,
  ⟨0x40, 0, 1, [⟨0, 32, .rw, 0x1⟩]⟩,
  ⟨0x44, 0, 1, [⟨0, 16, .rw, 0xFA0⟩]⟩,
  ⟨0x48, 0, 1, [⟨0, 10, .ro, 0x0⟩, ⟨16, 16, .rc, 0x0⟩]⟩,
  ⟨0x4C, 0, 1, [⟨0, 16, .rw, 0x190⟩]⟩,
  ⟨0x50, 0, 1, [⟨0, 10, .ro, 0x0⟩, ⟨16, 16, .ro, 0x0⟩]⟩,
  ⟨0x60, 4, 8, [⟨0, 1, .ro, 0x0⟩, ⟨16, 16, .rc, 0x0⟩]⟩,
  ⟨0x80, 0, 1, [⟨0, 5, .rw, 0x0⟩, ⟨8, 1, .rw, 0x0⟩]⟩,
  ⟨0x100, 8, 16, [⟨0, 32, .rw, 0x0⟩]⟩,
  ⟨0x104, 8, 16, [⟨0, 16, .rw, 0x0⟩, ⟨16, 1, .rw, 0x0⟩]⟩]

/-- R287. -/
def regs_brg : List RegDesc := [
  ⟨0x0, 0, 1, [⟨0, 1, .ro, 0x0⟩, ⟨1, 1, .ro, 0x0⟩, ⟨2, 2, .ro, 0x2⟩, ⟨4, 1, .ro, 0x0⟩, ⟨16, 16, .rc, 0x0⟩]⟩,
  ⟨0x4, 0, 1, [⟨0, 16, .rc, 0x0⟩, ⟨16, 16, .rc, 0x0⟩]⟩]

/-- R316. -/
def regs_slc : List RegDesc := [
  ⟨0x0, 0, 1, [⟨0, 17, .ro, 0x0⟩, ⟨17, 1, .ro, 0x0⟩]⟩]

/-- R316. -/
def regs_buf : List RegDesc := [
  ⟨0x0, 0, 1, [⟨0, 19, .ro, 0x40000⟩]⟩,
  ⟨0x4, 0, 1, [⟨0, 19, .ro, 0x0⟩]⟩,
  ⟨0x8, 0, 1, [⟨0, 19, .ro, 0x0⟩]⟩,
  ⟨0xC, 0, 1, [⟨0, 19, .ro, 0x0⟩]⟩,
  ⟨0x10, 0, 1, [⟨0, 19, .rw, 0x8000⟩]⟩,
  ⟨0x14, 0, 1, [⟨0, 16, .rc, 0x0⟩, ⟨16, 16, .rc, 0x0⟩]⟩]

/-- R343. -/
def regs_clk : List RegDesc := [
  ⟨0x0, 0, 1, [⟨0, 1, .rw, 0x0⟩, ⟨1, 1, .rw, 0x1⟩, ⟨2, 1, .rw, 0x1⟩, ⟨3, 1, .rw, 0x0⟩, ⟨4, 1, .rw, 0x1⟩, ⟨5, 1, .wo, 0x0⟩]⟩,
  ⟨0x4, 0, 1, [⟨0, 1, .ro, 0x0⟩, ⟨1, 1, .ro, 0x0⟩, ⟨2, 1, .ro, 0x0⟩, ⟨3, 1, .ro, 0x0⟩, ⟨4, 1, .ro, 0x0⟩, ⟨5, 1, .ro, 0x0⟩, ⟨8, 1, .w1c, 0x0⟩, ⟨9, 1, .w1c, 0x0⟩, ⟨10, 1, .w1c, 0x0⟩]⟩,
  ⟨0x8, 0, 1, [⟨0, 8, .rc, 0x0⟩, ⟨8, 8, .rc, 0x0⟩, ⟨16, 8, .rc, 0x0⟩]⟩,
  ⟨0xC, 0, 1, [⟨0, 28, .rw, 0x0⟩]⟩,
  ⟨0x10, 0, 1, [⟨0, 28, .rw, 0x0⟩]⟩,
  ⟨0x14, 0, 1, [⟨0, 32, .ro, 0x0⟩]⟩,
  ⟨0x100, 4, 23, [⟨0, 1, .ro, 0x0⟩, ⟨1, 1, .w1c, 0x0⟩, ⟨2, 1, .ro, 0x0⟩, ⟨3, 1, .ro, 0x0⟩, ⟨4, 2, .rw, 0x0⟩, ⟨6, 1, .ro, 0x0⟩, ⟨16, 16, .rc, 0x0⟩]⟩]

/-- R362. -/
def regs_led : List RegDesc := [
  ⟨0x0, 0, 1, [⟨0, 14, .ro, 0x0⟩, ⟨16, 14, .ro, 0x0⟩]⟩,
  ⟨0x4, 0, 1, [⟨0, 14, .ro, 0x0⟩, ⟨16, 14, .ro, 0x0⟩]⟩,
  ⟨0x8, 0, 1, [⟨0, 14, .ro, 0x0⟩]⟩,
  ⟨0x100, 4, 4, [⟨0, 14, .ro, 0xB54⟩, ⟨16, 14, .ro, 0x190⟩]⟩,
  ⟨0x120, 8, 8, [⟨0, 14, .ro, 0x4D8⟩, ⟨16, 14, .ro, 0x4D8⟩]⟩,
  ⟨0x124, 8, 8, [⟨0, 14, .ro, 0x0⟩, ⟨16, 3, .ro, 0x0⟩, ⟨24, 1, .ro, 0x0⟩]⟩,
  ⟨0x160, 8, 16, [⟨0, 14, .ro, 0x26C⟩, ⟨16, 14, .ro, 0x26C⟩]⟩,
  ⟨0x164, 8, 16, [⟨0, 14, .ro, 0x0⟩, ⟨24, 1, .ro, 0x0⟩]⟩,
  ⟨0x200, 8, 8, [⟨0, 16, .ro, 0x0⟩, ⟨16, 16, .ro, 0x0⟩]⟩,
  ⟨0x204, 8, 8, [⟨0, 16, .ro, 0x0⟩, ⟨16, 16, .ro, 0x0⟩]⟩,
  ⟨0x300, 0, 1, [⟨0, 16, .rw, 0x0⟩, ⟨16, 8, .rw, 0x10⟩]⟩,
  ⟨0x304, 0, 1, [⟨0, 16, .rc, 0x0⟩, ⟨16, 16, .rc, 0x0⟩]⟩,
  ⟨0x308, 0, 1, [⟨0, 32, .rc, 0x0⟩]⟩]

/-- R382. -/
def regs_col : List RegDesc := [
  ⟨0x0, 0, 1, [⟨0, 2, .rw, 0x2⟩, ⟨2, 2, .rw, 0x2⟩, ⟨4, 2, .rw, 0x1⟩, ⟨6, 1, .rw, 0x0⟩]⟩,
  ⟨0x4, 0, 1, [⟨0, 1, .ro, 0x0⟩, ⟨1, 1, .ro, 0x0⟩, ⟨2, 1, .ro, 0x0⟩, ⟨8, 8, .ro, 0x0⟩, ⟨16, 16, .rc, 0x0⟩]⟩,
  ⟨0x10, 0, 1, [⟨0, 32, .ro, 0x0⟩]⟩,
  ⟨0x14, 0, 1, [⟨0, 32, .ro, 0x0⟩]⟩,
  ⟨0x18, 0, 1, [⟨0, 32, .ro, 0x0⟩]⟩,
  ⟨0x1C, 0, 1, [⟨0, 32, .ro, 0x0⟩]⟩,
  ⟨0x20, 0, 1, [⟨0, 1, .ro, 0x0⟩, ⟨1, 1, .ro, 0x0⟩, ⟨2, 1, .ro, 0x0⟩, ⟨16, 16, .rc, 0x0⟩]⟩,
  ⟨0x30, 0, 1, [⟨0, 32, .ro, 0x0⟩]⟩,
  ⟨0x34, 0, 1, [⟨0, 32, .ro, 0x0⟩]⟩,
  ⟨0x38, 0, 1, [⟨0, 32, .ro, 0x0⟩]⟩,
  ⟨0x3C, 0, 1, [⟨0, 32, .ro, 0x0⟩]⟩,
  ⟨0x40, 0, 1, [⟨0, 1, .ro, 0x0⟩, ⟨1, 1, .ro, 0x0⟩, ⟨2, 1, .ro, 0x0⟩, ⟨16, 16, .rc, 0x0⟩]⟩,
  ⟨0x50, 0, 1, [⟨0, 10, .ro, 0x0⟩, ⟨16, 16, .rc, 0x0⟩]⟩,
  ⟨0x60, 4, 4, [⟨0, 32, .rc, 0x0⟩]⟩,
  ⟨0x400, 4, 256, [⟨0, 1, .ro, 0x0⟩, ⟨1, 1, .ro, 0x0⟩, ⟨2, 2, .ro, 0x0⟩, ⟨4, 3, .ro, 0x0⟩, ⟨16, 16, .rc, 0x0⟩]⟩,
  ⟨0x10000, 16, 1024, [⟨0, 32, .ro, 0x0⟩]⟩,
  ⟨0x10004, 16, 1024, [⟨0, 32, .ro, 0x0⟩]⟩,
  ⟨0x10008, 16, 1024, [⟨0, 32, .ro, 0x0⟩]⟩,
  ⟨0x1000C, 16, 1024, [⟨0, 32, .ro, 0x0⟩]⟩]

/-- R393. -/
def regs_cal : List RegDesc := [
  ⟨0xF00, 0, 1, [⟨0, 1, .ro, 0x0⟩, ⟨1, 2, .ro, 0x0⟩, ⟨3, 1, .ro, 0x0⟩, ⟨8, 8, .ro, 0x0⟩, ⟨16, 16, .ro, 0x0⟩]⟩,
  ⟨0xF04, 0, 1, [⟨0, 32, .ro, 0x0⟩]⟩,
  ⟨0xF08, 0, 1, [⟨0, 32, .ro, 0x0⟩]⟩,
  ⟨0xF0C, 0, 1, [⟨0, 16, .ro, 0x0⟩]⟩]

end Sys2Proof.Machine
end

