-- ==== Sys2Proof/Machine/State.lean ====
section
/-! DEFINITION. The state of the block: plain data, every piece of state the spec names. Configuration-space and
faceplate registers lie in `regs`, each under its location and offset; what the spec gives the part beside registers
(rings, issued instructions, tailstocks, headstocks, ports, tables, buffers, schedules) has structures of its own. -/

namespace Sys2Proof.Machine

/-- Why a step can stop with a fault: no rule of the spec stops the block, so there is no constructor in use
but this one, which no meaning raises (safe). -/
inductive Fault where
  | unreachable
  deriving DecidableEq, Repr

/-- Why a step has no answer. -/
inductive Refusal where
  /-- An arm of `exec` that has no meaning yet (safe: the run stops). -/
  | notModelled (mnemonic : String)
  deriving DecidableEq, Repr

/-- The ordering codes of R2. -/
inductive Part where
  | ft5120E | ft5120C | ft2560E
  deriving DecidableEq, Repr

/-- The host and PCIe side the part sees (R333, R401, R443). -/
structure Env where
  mem       : List Host.Cell   -- host memory
  bulk      : List Host.Cell   -- bulk window SRAM (R443), by offset
  bar2      : Option Nat       -- PCIe base assigned to BAR2
  busMaster : Bool             -- the host has enabled bus mastering
  dmaBad    : List Nat         -- 4 KiB pages whose accesses end in a PCIe completion error (R401)
  deriving DecidableEq, Repr

/-- The registers of one ring (R48 to R51, R434, R438). -/
structure Ring where
  base       : Nat := 0
  en         : Bool := false
  hoe        : Bool := false
  prio       : Bool := false
  sizeLog2   : Nat := 6
  group      : Nat := 0
  cq         : Nat := 0
  grace      : Nat := 0
  head       : Nat := 0
  tail       : Nat := 0
  halted     : Bool := false
  stalled    : Bool := false
  resetBusy  : Bool := false
  cfgErr     : Bool := false
  evtOvf     : Bool := false
  blocked    : Bool := false
  haltStatus : Nat := 0
  retired    : Nat := 0
  count1c    : Nat := 0        -- SLOT_STALL, EVT_DROP, PKT_DROP or PKT_BAD
  errCnt     : Nat := 0        -- RING_ERR_CNT
  fenceFrom  : Nat := 0        -- issue number after the ring's last fence, enable or reset (R71)
  sinceArm   : Nat := 0        -- rings 96-127: entries since last armed (R435)
  armedAt    : Nat := 0        -- tick of the last arming (R435)
  pendAt     : List Nat := []  -- ticks at which the pending entries were written (R435)
  pktBase    : Nat := 0        -- PKT_BUF
  slotLog2   : Nat := 0xB      -- PKT_CFG
  deriving DecidableEq, Repr

/-- A command entry (R52). -/
structure Cmd where
  opcode : Nat := 0
  timed  : Bool := false
  late   : Nat := 0
  bg     : Bool := false
  always : Bool := false
  rsvd   : Nat := 0
  loc    : Nat := 0
  cookie : Nat := 0
  opa    : Nat := 0
  opb    : Nat := 0
  deriving DecidableEq, Repr

/-- A time descriptor (R53); PERIOD in 2^-16 ns. -/
structure TimeDesc where
  time   : Nat := 0
  period : Nat := 0
  rep    : Nat := 0
  deriving DecidableEq, Repr

/-- The states of an issued instruction (R62). -/
inductive Phase where
  | issued                                              -- in its execution queue
  | parked (due : Nat)                                  -- action time of the next execution, TX64
  | tokens (deadline : Nat)                             -- background, waits for tokens (R64)
  | exec (deadline : Nat)                               -- effect under way
  | record (status detail result time : Nat)            -- completed, its record not yet written (R55)
  | retired
  deriving DecidableEq, Repr

/-- An issued instruction (R57, R62). Retired ones are kept for the sets of later fences (R68). -/
structure Flight where
  num   : Nat
  ring  : Nat
  cmd   : Cmd
  td    : TimeDesc
  tags  : List (Nat × Nat)     -- die, slot tag; empty when no slot is held
  tag0  : Nat                  -- the tag its records report (R54, R56)
  phase : Phase
  at_   : Nat := 0             -- tick of its issue (R70, R410)
  idx   : Nat := 0             -- boundary index of the next execution (R78)
  execs : Nat := 0             -- executions made, whatever their status (R80)
  started : Option Nat := none -- TX64 of the tick on which a parked action started (R76)
  entry : Bool := false        -- holds an entry of its timed-action stores (R75)
  cancel : Bool := false       -- cancelled; the execution already due is still made (R80)
  late  : Option Nat := none   -- lateness in ns of an execution that is LATE (R77)
  bad   : Bool := false        -- some completion was neither OK nor LATE (R71)
  mute  : Bool := false        -- writes no record (R333)
  deriving DecidableEq, Repr

/-- The tracker of an outstanding fence (R68 to R71, R144, R145). -/
structure Fence where
  members : List Nat                  -- issue numbers in its set
  report  : List Nat                  -- those of its reported part
  mask    : Nat := 0                  -- partners named
  marked  : Bool := false             -- MARKs sent
  marker  : Nat := 0
  wait    : List (Nat × Nat) := []    -- partner, port key: MARK_ACK awaited
  acked   : List (Nat × Nat) := []    -- partner, port key: MARK_ACK returned
  deriving DecidableEq, Repr

/-- The issuer and its execution queues (R58, R61). -/
structure Plyn where
  flights  : List Flight := []
  nextNum  : Nat := 0
  rrHi     : Nat := 0            -- next ring to serve, PRIO 1
  rrLo     : Nat := 0            -- next ring to serve, PRIO 0
  markerId : Nat := 0            -- R144
  fences   : Tab Fence := []
  deriving DecidableEq, Repr

/-- A committed step (R94, R95): offset in 2^-16 ns, or seconds and sub-second part. -/
structure StepC where
  set    : Bool := false
  offset : Int := 0
  secs   : Nat := 0
  sub    : Nat := 0
  tick   : Nat := 0              -- APPLY_TICK
  bound  : Option Nat := none    -- TIME.SET: the second boundary chosen at its execution, 2^-16 ns (R93)
  num    : Option Nat := none    -- the instruction that asked for it
  slot   : Option Nat := none    -- the selected slot that asked for it
  deriving DecidableEq, Repr

/-- A tailstock (R82 to R85, R98, R29). `n` counts ticks from TAI second 0, so the seconds register is its whole
seconds; `f` is F in fifths of 2^-16 ns. -/
structure Tailstock where
  n         : Nat := 0
  f         : Nat := 0
  m         : Nat := 0
  stepGen   : Nat := 0
  epoch     : Nat := 0
  fcw       : Int := 0
  hold      : Bool := false
  heardAt   : Nat := 0           -- tick of the last word obeyed, HOLD words with them (R30)
  frozen    : Bool := false      -- loop control frozen on its own oscillator (R321)
  step      : Option StepC := none
  slewLeft  : Int := 0
  slewRate  : Nat := 0
  traceable : Bool := false
  wordTick  : Nat := 0           -- monotonic tick of the slot of the last word obeyed, HOLD words apart
  deriving DecidableEq, Repr

/-- The fields of a spindle word (R182); with a seconds-form step, `slewLeft` is its sub-second part. -/
structure SpWord where
  fcw       : Int
  epoch     : Nat
  seq       : Nat
  hold      : Bool
  step      : Option StepC
  traceable : Bool
  servo     : Nat
  tb        : Bool
  slewLeft  : Int
  slewRate  : Nat
  tick      : Nat
  deriving DecidableEq, Repr

/-- A step that an instruction asked for and not every tailstock has applied yet (R94). -/
structure StepWait where
  num    : Nat
  tick   : Nat                   -- APPLY_TICK
  left   : List Nat              -- tailstocks that have still to apply it
  result : Option Nat            -- RESULT16, once the timescale has taken the step
  deriving DecidableEq, Repr

/-- One hourly bin of the long history (R186). -/
structure Bin where
  count : Nat := 0
  st    : Int := 0
  sf    : Int := 0
  st2   : Int := 0
  stf   : Int := 0
  deriving DecidableEq, Repr

/-- The history Steady Rest predicts from (R171, R186). -/
structure SrHist where
  short   : List Int := []     -- one-second FCW values, oldest first, at most 80
  accMean : Int := 0
  accTc   : Nat := 0
  bins    : List Bin := []     -- at most 48, oldest first
  secs    : Nat := 0           -- seconds locked without interruption
  shortAt : Nat := 0           -- tick at which the newest of `short` was recorded
  deriving DecidableEq, Repr

/-- A reference slot beside REF_STAT, REF_FOFF, REF_TOFF, REF_CFG (R150 to R165). -/
structure RefSlot where
  qual    : Nat := 0
  left    : Bool := false          -- has left QUALIFIED since nomination
  accept  : Bool := false          -- REF.ACCEPT_STEP outstanding
  delta   : Int := 0               -- Delta last measured, 2^-16 ns
  toff    : Int := 0               -- offset of the last gate, unlimited, 2^-16 ns
  offs    : List (Nat × Int) := [] -- measurement filter: tick and offset of each sample of the last 101 s, newest first
  gates   : List Int := []         -- gate means, newest first, at most 100
  dead    : Bool := false          -- an activity condition is present, or was in the present gate
  shut    : Bool := false          -- its Delta was refused and it has not been taken into use since (R164)
  phase   : Option Int := none     -- PHASE_ACC as delivered in the last gate (R129)
  deriving DecidableEq, Repr

/-- The servo block of a checkpoint (R186). -/
structure CkptServo where
  state    : Nat
  mode     : Nat
  slot     : Nat
  settle   : Nat                   -- settle time left, ticks
  fcw      : Int                   -- loop filter and FCW
  traced   : Bool                  -- TS_TRACED
  step     : Option StepC
  slewLeft : Int
  slewRate : Nat
  pend     : Int                   -- REF_PEND
  deriving DecidableEq, Repr

/-- A reference slot in a checkpoint, with its fits, windows and filter state (R186). -/
structure CkptSlot where
  state    : Nat
  cause    : Nat
  wtr      : Nat
  forecast : Bool
  slot     : RefSlot
  deriving DecidableEq, Repr

/-- A checkpoint slot (R186, R187). -/
structure Ckpt where
  seq   : Nat
  tb    : Bool
  time  : Nat
  torn  : Bool                     -- its COMMIT has not been written
  hist  : SrHist
  servo : CkptServo
  refs  : List CkptSlot
  deriving DecidableEq, Repr

/-- A checkpoint that is being written (R186, R189). -/
structure CkptWrite where
  key : Nat                        -- its slot
  seq : Nat
  at_ : Nat                        -- tick of its COMMIT
  num : Option Nat                 -- the HST.CHECKPOINT that asked for it
  deriving DecidableEq, Repr

/-- The arbiter's copy of a heartbeat of the ACTIVE headstock (R179). -/
structure Beat where
  state  : Nat                     -- headstock state
  selfOk : Bool
  servo  : Nat
  slot   : Option Nat              -- selected slot
  refs   : List (Nat × Nat)        -- state and WTR_LEFT of every slot
  settle : Nat                     -- settle time left, ticks
  pend   : Int                     -- REF_PEND
  seq    : Nat                     -- WORD_SEQ of the last word sent
  deriving DecidableEq, Repr

/-- The headstocks and the arbiter beside its registers (R176 to R203). -/
structure Hst where
  driveA  : Bool := false
  driveB  : Bool := false
  epochA  : Nat := 0            -- epoch each headstock was given
  epochB  : Nat := 0
  hbA     : Nat := 0            -- tick of the last heartbeat
  hbB     : Nat := 0
  causeA  : Nat := 0            -- cause each failed for
  causeB  : Nat := 0
  pgA     : Bool := true        -- VDD_TIME power-good (R180)
  pgB     : Bool := true
  wordSeq : Nat := 0
  wordAt  : Nat := 0            -- monotonic tick of the last word slot
  laneA   : Option Nat := none  -- the last word on each lane, 320 bits
  laneB   : Option Nat := none
  warmAt  : Nat := 0            -- tick at which the WARMING headstock is powered; STANDBY is shown until then
  declAt  : Nat := 0            -- tick of the declaration
  takeover : Bool := false
  swap    : Option Nat := none  -- the running HST.SWAP
  swapAt  : Nat := 0
  reviveA : Option Nat := none  -- the running HST.REVIVE of each
  reviveB : Option Nat := none
  starting : Option Bool := none -- a headstock becoming ACTIVE with none other (R199): TB?
  startAt : Nat := 0            -- tick at which its self-test ended
  beat    : Option Beat := none -- the last heartbeat of the ACTIVE headstock (R179)
  slots   : Tab Ckpt := []      -- 2 * tb + slot
  seq     : Nat := 0
  commitAt : Nat := 0           -- tick of the last commit
  ckptMs  : Nat := 0            -- the whole millisecond of the timescale checkpointed last
  writes  : List CkptWrite := [] -- checkpoints being written, oldest first
  crcRun  : Nat := 0            -- consecutive words rejected for CRC by every tailstock (R180)
  crcSeen : Nat := 0            -- tailstocks that rejected the present word for CRC
  deriving DecidableEq, Repr

/-- The servo and the selector beside their registers (R159 to R173). -/
structure Servo where
  fcw      : Int := 0
  hist     : SrHist := {}
  slewLeft : Int := 0
  slewRate : Nat := 0
  slewEnd  : Nat := 0               -- tick at which the whole offset has been applied
  step     : Option StepC := none   -- the step in the spindle words
  next     : List StepC := []       -- TIME.STEP and TIME.SET behind a committed step, oldest first
  due      : Option (Nat × Int) := none  -- slot and Delta of a selector step not yet committed
  slews    : List (Nat × Nat) := [] -- each TIME.SLEW that waits until its rate is obeyed; words after this tick carry it
  settleEnd : Nat := 0
  settled  : Bool := false          -- the window has passed its one step (R160)
  paused   : Nat := 0               -- settle time left when a takeover began, ticks
  lockAt   : Nat := 0               -- tick from which the 10 s of R168 count
  before   : Nat := 0               -- the state before states 6 and 7
  hidAt    : Nat := 0               -- tick at which state 6 or 7 began
  owed     : Option (Nat × Nat) := none  -- a reference-change event that waits for their end: previous slot, cause
  gateBad  : Bool := false          -- the gate that runs is discarded (R198)
  applying : List StepWait := []    -- instructions whose step not all tailstocks have applied
  fShort   : Int := 0               -- Steady Rest model (R171)
  drift    : Int := 0               -- a_drift, 2^-60 per 2^16 s
  tc       : Nat := 0               -- tick
  cal      : Option Nat := none     -- the CAL.RUN that sends HOLD words
  align    : List (Nat × Nat) := [] -- TIME.ALIGN outstanding: issue number, A in 2^-16 ns
  alignA   : Nat := 0               -- the last A that took effect, and the offset then moved
  alignP   : Int := 0
  gateAt   : Nat := 0               -- tick at which the last gate ended
  pendEpoch : Option Nat := none    -- R143
  epochBySlew : Bool := false       -- the pending epoch waits for the slew
  todSecs  : Nat := 0               -- ToD message (R152)
  todFlags : Nat := 0
  todOk    : Bool := false          -- a counting message arrived since the last pulse
  pulse0   : Nat := 0               -- tick of the last pulse on each input (R153)
  pulse1   : Nat := 0
  ccKept   : Nat := 0xF8            -- clockClass in force before states 6, 7 (R170)
  deriving DecidableEq, Repr

/-- An IEEE 1588 engine's settings (R420). -/
structure PtpCfg where
  en       : Bool := false
  state    : Nat := 0
  profile  : Nat := 0
  p2p      : Bool := false
  twoStep  : Bool := false
  domain   : Nat := 0
  logSync  : Int := 0
  logDreq  : Int := 0
  logPdel  : Int := 0
  logAnn   : Int := 0
  timeout  : Nat := 0
  autoPass : Bool := false
  transp   : Nat := 0
  altDa    : Bool := false
  defs     : Bool := false         -- DEFAULTS was 1
  deriving DecidableEq, Repr

/-- What an IEEE 1588 engine keeps (R110 to R113); times in 2^-16 ns. -/
structure PtpEng where
  seqSync  : Nat := 0
  seqDreq  : Nat := 0
  seqPdel  : Nat := 0
  syncWait : Option (Nat × Int × Nat) := none   -- a Sync that waits for its Follow_Up: sequenceId, correction, t2
  sync     : Option (Int × Nat) := none         -- t1 with its corrections, t2
  t3       : Option Nat := none                 -- of the outstanding Delay_Req
  p1       : Option Nat := none                 -- t1 of the outstanding Pdelay_Req
  pWait    : Option (Int × Nat) := none         -- a Pdelay_Resp that waits for its Follow_Up: t2 less correction, t4
  meanPath : Int := 0                           -- mean path delay
  inPath   : Int := 0                           -- path delay towards this port, with the asymmetry (R88)
  handed   : List Int := []                     -- t1 to t4 of the exchange last handed to the headstock (R112)
  gate     : List (Nat × Int) := []             -- tick and twice the offset of each exchange since the last gate
  syncAt   : Option Nat := none                 -- ticks at which the last Sync, Delay_Req and Pdelay_Req left (R112)
  dreqAt   : Option Nat := none
  pdelAt   : Option Nat := none
  heardAt  : Nat := 0                           -- tick of the last Sync, or of the start of the wait for one (R153)
  announce : Nat := 0                           -- tick at which the Announce monitor last restarted (R113)
  expired  : Bool := false                      -- it has expired since
  parent   : Option Nat := none                 -- sourcePortIdentity of the current parent
  deriving DecidableEq, Repr

/-- A frame and what travels with it (R25, R106, R288). -/
structure Frame where
  bytes   : List (BitVec 8)
  die     : Nat                    -- ingress
  port    : Nat
  stamp   : Nat                    -- compensated receive stamp, 2^-16 ns from TAI 0
  mono    : Nat                    -- M at the receive stamp, 2^-16 ns
  stepGen : Nat
  uncal   : Bool
  bad     : Bool := false          -- failed its FCS while being cut through (R309)
  inject  : Bool := false          -- entered by the host with DIRECT 0 (R442)
  deriving DecidableEq, Repr

/-- A queued descriptor (R294, R304). -/
structure QEnt where
  fid    : Nat
  frame  : Frame
  cls    : Nat
  queue  : Nat
  cells  : Nat
  src    : Nat                     -- ingress die
  vlan   : Nat                     -- egress VLAN
  cut    : Bool := false
  own    : Nat := 0                -- cells charged to the queue's minimum
  attr   : Nat := 0                -- TC_ATTR of its class on this die when it entered P1 (R271)
  deriving DecidableEq, Repr

/-- What waits for the end of the frame in transmission: a PFC frame, the blocks of a Relka message (R121, R302). -/
inductive Ctl where
  | pfc (prio quanta : Nat)
  | relka (kind : Nat) (blocks : List Nat)
  deriving DecidableEq, Repr

/-- A host DIRECT frame (R441, R442). -/
structure HostFrame where
  bytes : List (BitVec 8)
  cls   : Nat
  tsReq : Bool
  tsId  : Nat
  fid   : Nat
  deriving DecidableEq, Repr

/-- A transmit-timestamp queue entry (R102). -/
structure TsqEnt where
  stamp   : Nat
  tsId    : Nat
  stepGen : Nat
  uncal   : Bool
  dropped : Bool
  msgType : Nat
  seqId   : Nat
  deriving DecidableEq, Repr

/-- A residence held for a Follow_Up (R109). -/
structure TcRes where
  key  : Nat                       -- sourcePortIdentity and sequenceId
  corr : Int
  tick : Nat
  deriving DecidableEq, Repr

/-- A gate list (R307); a list without entries opens all gates from its start. -/
structure GateList where
  base    : Nat                    -- 2^-16 ns from TAI second 0
  cycle   : Nat                    -- ns
  ext     : Nat                    -- ns
  entries : List (Nat × Nat)       -- GATES, INTERVAL in ns
  start   : Nat                    -- S, 2^-16 ns from TAI second 0
  deriving DecidableEq, Repr

/-- A sounding in progress (R137). -/
structure Sound where
  num    : Option Nat := none      -- the MEASURE running
  pairB  : Bool := false
  need   : Nat := 0
  got    : Nat := 0
  bad    : Nat := 0
  sum    : Int := 0
  tx     : Nat := 0
  rx     : Nat := 0
  doneA  : Option (Nat × Nat) := none
  doneB  : Option (Nat × Nat) := none
  nA     : Nat := 0
  nB     : Nat := 0
  solved : Bool := false
  deriving DecidableEq, Repr

/-- An outstanding REQ (R124, R126). -/
structure RlkReq where
  exseq : Nat
  t1    : Nat                      -- 2^-16 ns from TAI 0
  gen   : Nat
  tick  : Nat
  sound : Bool
  hit   : Nat                      -- PHASE_HIT count when sent
  a     : Int                      -- a at the start (R136)
  meas  : Option Nat := none       -- the MEASURE that ran when it was sent (R138)
  deriving DecidableEq, Repr

/-- A RSP that is due (R125). -/
structure RlkDue where
  exseq : Nat
  t2    : Nat
  gen   : Nat                      -- STEP_GEN at t2
  at_   : Nat                      -- tick of the first block position that R121 allows
  deriving DecidableEq, Repr

/-- A Relka link beside its registers (R124 to R145). -/
structure Relka where
  req     : Option RlkReq := none
  due     : List RlkDue := []      -- oldest first
  answered : Nat := 0              -- consecutive answered exchanges in the present state
  misses  : Nat := 0               -- consecutive misses in the present state
  silent  : Nat := 0               -- consecutive periods without a valid RSP in the present state
  meas    : List (Int × Int) := [] -- twice theta and twice d of the last valid exchanges, at most 1,024, newest first
  valid   : Nat := 0               -- valid exchanges since the last check of the span (R130)
  last    : Option (Nat × Nat) := none  -- the last period begun: its number 1,024 s + n, STEP_GEN then (R124)
  snd     : Sound := {}
  epoch   : Nat := 0               -- from the latest valid RSP
  cc      : Nat := 0
  traced  : Bool := false
  safe    : Bool := false
  phase   : Option Nat := none     -- last 12-bit phase
  hits    : Nat := 0               -- phase hits
  phAt    : Nat := 0               -- tick of the last delivery of PHASE_ACC to the headstock
  phHs    : Int := 0               -- PHASE_ACC as last delivered
  gate    : List (Nat × Int) := [] -- tick and twice theta of each exchange delivered since the last gate, newest first
  marks   : List (Nat × Nat) := [] -- MARKER_ID of each MARK not yet answered, frames ahead of it; oldest first
  part    : List Nat := []         -- blocks of the message that is arriving (R122), in INDEX order
  begunAt : Nat := 0               -- tick of its mark block
  mkStamp : Nat := 0               -- stamp of that block
  mkGen   : Nat := 0               -- STEP_GEN there
  lost    : Bool := false          -- the message under way is discarded: its further blocks are dropped
  deriving DecidableEq, Repr

/-- Credits of one class on a port (R296, R297). -/
structure Credit where
  sent   : Nat := 0
  limIn  : Nat := 0                -- LIMIT received
  recv   : Nat := 0
  limOut : Nat := 0                -- LIMIT granted
  lastTx : Nat := 0                -- LIMIT last sent in a CREDIT
  held   : Nat := 0                -- cells of the class still held, of every generation
  init   : Bool := false           -- INIT received for the present generation
  txAt   : Nat := 0                -- tick of the last CREDIT sent (R297)
  advAt  : Nat := 0                -- tick of the first advance of LIMIT since then (R297)
  deriving DecidableEq, Repr

/-- A PORT.INJECT that runs (R250): its first tick, injections made, frames still to pass unaffected. -/
structure Inj where
  num  : Nat
  at_  : Nat := 0
  made : Nat := 0
  skip : Nat := 0
  deriving DecidableEq, Repr

/-- A port beside its registers. -/
structure Port where
  span     : Nat := 0
  priMap   : Nat := 0x76543210
  pvid     : Nat := 1
  trustDscp : Bool := false
  frerKeep : Bool := false
  ptpClass : Nat := 0
  dscpMap  : Nat := 0
  ptp      : PtpCfg := {}
  landing  : List Frame := []
  queue    : List QEnt := []
  sending  : Option QEnt := none
  sendAt   : Nat := 0              -- tick at which the frame in transmission started
  ctl      : List Ctl := []        -- wait for its end (R121, R302), oldest first
  looped   : List (List (BitVec 8)) := []  -- frames on the path of a near loop (R251), oldest first
  rxPart   : Bool := false         -- a frame has arrived in part (R254)
  cwAt     : Option Nat := none    -- while locked: tick up to which codewords are counted (R237)
  cwWin    : Nat := 0              -- tick at which the present 2^20 codewords began (R237)
  injSym   : Nat := 0              -- symbols that injections had corrected in them (R237, R250)
  hostQ    : List HostFrame := []
  oper     : Option GateList := none
  pend     : Option GateList := none
  gateAt   : Nat := 0              -- index of the gate-list entry in force
  deficit  : Tab Int := []
  shTok    : Tab Int := []         -- shaper tokens per class, 16 = port
  shAt     : Nat := 0
  rrCls    : Nat := 0              -- class whose turn it is (R305)
  credit   : Tab Credit := []
  txGen    : Nat := 0              -- partner's present GEN
  reduced  : Bool := false         -- the sleep window is in force
  ackWait  : Option Nat := none    -- tick of the reduced CREDIT that the partner has yet to acknowledge (R34)
  pause    : Tab Nat := []         -- received pause of a priority: tick it ends
  xoffAt   : Tab Nat := []         -- tick of the last PFC frame per priority
  headUsed : Nat := 0              -- headroom cells charged (R302)
  shared   : Tab Nat := []         -- cells charged to the shared part per class (R302)
  lossAt   : Option (Nat × Nat) := none  -- tick and cause of a loss condition
  enteredAt : Nat := 0             -- tick the present state was entered
  holdEnd  : Option Nat := none    -- flap hold
  tsq      : List TsqEnt := []
  tc       : List TcRes := []
  sums     : Option (Nat × Nat) := none  -- sums at the previous lock
  refLane  : Nat := 0              -- R90
  inj      : Option Inj := none    -- PORT.INJECT running; a lane's lies under the port of its number
  relka    : Relka := {}
  eng      : PtpEng := {}
  lastQ    : Tab Nat := []         -- queue of each class served last (R305)
  deriving DecidableEq, Repr

/-- A table entry (R415, R416): fields as little-endian numbers. -/
structure TEnt where
  idx  : Nat
  key  : Nat
  mask : Nat
  res  : Nat
  deriving DecidableEq, Repr

/-- Cells of one frame on a die and their references (R294, R40). -/
structure CellGrp where
  fid   : Nat
  cells : Nat
  refs  : Nat
  port  : Nat                      -- ingress port key
  cls   : Nat
  head  : Nat := 0                 -- cells charged to ingress headroom
  slices : List (Nat × Nat) := []  -- slice, cells held in it
  bad   : Option Nat := none       -- pointer of a cell with an uncorrectable error (R312)
  deriving DecidableEq, Repr

/-- A mirror session (R280, R281). -/
structure Mir where
  ring   : Nat
  n      : Nat
  trunc  : Nat
  sel    : Nat
  port   : Nat
  cls    : Nat
  count  : Nat := 0
  sample : Nat := 0
  deriving DecidableEq, Repr

/-- Recovery or generation state of a sequence stream (R273, R274). -/
structure Stream where
  next   : Nat := 0                -- next sequence number generated
  high   : Nat := 0                -- highest accepted
  seen   : List Nat := []          -- accepted numbers within the history
  fresh  : Bool := true            -- the next frame is accepted
  last   : Nat := 0                -- tick of the last accepted frame
  dups   : Nat := 0                -- discarded and counted
  deriving DecidableEq, Repr

/-- A PRP or HSR duplicate entry (R274). -/
structure Dup where
  stream : Nat
  src    : Nat
  seq    : Nat
  tick   : Nat
  deriving DecidableEq, Repr

/-- A flit: one cell of a frame crossing bridges (R282, R293). -/
structure Flit where
  seq    : Nat
  src    : Nat                     -- ingress die
  fid    : Nat                     -- the frame there
  ents   : List (Nat × QEnt)       -- target ports on the far die, and what is queued there
  far    : Nat
  bucket : Nat
  left   : Nat                     -- cells of the frame that follow this one
  deriving DecidableEq, Repr

/-- A frame with targets on another die, not yet sent (R278, R293). -/
structure Remote where
  fid    : Nat
  ents   : List (Nat × QEnt)
  far    : Nat
  bucket : Nat
  code   : Nat := 0                -- the path decided at P8 (R267, R276)
  cells  : Nat
  admits  : Bool                    -- waits for the egress status (R293)
  deriving DecidableEq, Repr

/-- A drain gap of a bucket towards a die (R278). -/
structure Gap where
  until_ : Nat
  held   : List Remote := []
  deriving DecidableEq, Repr

/-- A frame whose cells are arriving on an egress die (R293). -/
structure Arrival where
  src  : Nat
  fid  : Nat                       -- on the ingress die
  lfid : Nat                       -- here
  deriving DecidableEq, Repr

/-- The queue status that an egress die broadcasts (R293, R308). -/
structure Status where
  free : Nat := 0                  -- free shared cells
  up   : List Nat := []            -- ports UP
  hold : List Nat := []            -- ports in flap hold
  idle : List Nat := []            -- ports UP with nothing queued or in transmission
  use  : Tab (Nat × Nat) := []     -- by 64 * port + queue: cells on its minimum, shared cells
  deriving DecidableEq, Repr

/-- A bridge endpoint beside its registers. -/
structure Bridge where
  txSeq   : Nat := 0
  rxSeq   : Nat := 0
  replay  : List Flit := []        -- unacknowledged, oldest first
  credits : Nat := 2048            -- bridge credits held (R293)
  lanes   : Nat := 16
  badLane : Nat := 0
  failAt  : Option Nat := none     -- tick at which the lane failure that runs was detected (R283)
  errs    : List (Nat × Nat) := [] -- lane and tick of the flit CRC errors of the last microsecond (R283)
  deriving DecidableEq, Repr

/-- An S-die's forwarding and buffer state beside its registers. -/
structure Die where
  tables  : Tab (List TEnt) := []  -- 2 * table ID + bank
  cells   : List CellGrp := []
  nextFid : Nat := 0
  pin     : Tab Nat := []          -- unacknowledged cells, 4 * bucket + far die
  gaps    : Tab Gap := []          -- 4 * bucket + far die
  mirs    : Tab Mir := []
  streams : Tab Stream := []
  dups    : List Dup := []
  brg     : Tab Bridge := []       -- by unit 24 to 26
  status  : Tab Status := []       -- last broadcast of each other die (R293)
  waits   : List Remote := []      -- wait for bridge credits or for the egress status (R293)
  arrive  : List Arrival := []
  prbsInv : List Nat := []         -- lanes whose pattern is inverted, 8 * unit + lane (R248)
  prbsLock : Tab Nat := []         -- locked checkers, 8 * unit + lane: tick of the lock (R249)
  prbsSeen : Tab Nat := []         -- the same: bits since the lock whose errors are counted (R249)
  tblBad  : List (Nat × Nat) := [] -- entries with an uncorrectable error: 2 * table ID + bank, index (R269)
  quarMap : List Nat := []         -- quarantined cell pointers (R332)
  deriving DecidableEq, Repr

/-- A request for tokens that waits (R353). -/
structure WakeReq where
  die    : Nat
  clu    : Nat
  prio   : Nat
  tick   : Nat
  num    : Option Nat              -- the instruction that asks
  slice  : Bool := false           -- a buffer slice alone (R358)
  unit   : Option Nat := none      -- a port unit that leaves OFF (R346)
  resv   : Bool := false           -- a reservation for the cluster (R356)
  deriving DecidableEq, Repr

/-- A wake under way (R33, R359). -/
structure Waking where
  ready : Nat
  num   : Option Nat := none
  got   : Nat := 0                 -- tokens granted
  resv  : Bool := false            -- drawn on the reservation
  deriving DecidableEq, Repr

/-- An attempt to sleep (R357, R360). -/
structure Sleeping where
  deadline : Nat
  num      : Option Nat := none
  deriving DecidableEq, Repr

/-- The heat ledger beside its registers (R345 to R363); clusters by 4 * die + index, in `waking`
and `sleep` plus 16 for a slice alone. -/
structure Ledger where
  reqs   : List WakeReq := []
  waking : Tab Waking := []
  sleep  : Tab Sleeping := []
  resv   : List Nat := []          -- clusters that hold a reservation
  sliceResv : List Nat := []       -- clusters whose slice was woken on the reservation
  lastP1 : Tab Nat := []           -- tick the last frame entered P1
  deriving DecidableEq, Repr

/-- A containment in force (R368). -/
structure Cont where
  kind  : Nat
  level : Nat
  loc   : Nat
  deriving DecidableEq, Repr

/-- A check-bit injection that waits for an access (R378). -/
structure Armed where
  num  : Nat
  loc  : Nat
  kind : Nat
  off  : Nat
  until_ : Nat
  deriving DecidableEq, Repr

/-- The collector beside its registers (R364 to R382). -/
structure Faults where
  conts   : List Cont := []
  armed   : List Armed := []
  only    : List Nat := []         -- warm-reset-only kinds that caused safe state
  reduced : Bool := false          -- reduced safe state (R325)
  deriving DecidableEq, Repr

/-- A synthesizer's lock state (R206 to R213). -/
structure Synth where
  num    : Option Nat := none      -- the OUT.FREQ that waits for its relock
  small  : Option Nat := none      -- the OUT.FREQ that it follows in lock (R210)
  counts : Bool := false           -- the relock under way is one of R210 or R211, which RELOCKS counts
  muteAt : Nat := 0
  seed   : Nat := 1                -- seed and enable loaded at the last lock (R212)
  dither : Bool := true
  deriving DecidableEq, Repr

/-- The live setting of an output (R208, R214). -/
structure OutLive where
  cfg    : Nat := 0x80
  div    : Nat := 1
  period : Nat := 1000000000
  width  : Nat := 10000
  ofs    : Nat := 0
  num    : Option Nat := none      -- OUT.SET that waits for its restart
  startAt : Nat := 0               -- timescale instant of the restart, TX64
  setAt  : Nat := 0
  next   : Nat := 0                -- PULSE: next nominal instant, 2^-16 ns from TAI 0
  deriving DecidableEq, Repr

/-- A trigger's schedule (R222 to R226). -/
structure Trig where
  mode  : Nat := 0
  t0    : Nat := 0                 -- 2^-16 ns from TAI 0
  k     : Nat := 0                 -- next instant
  b     : Nat := 0                 -- next pulse of a burst
  now   : Bool := false            -- a late first pulse fires on the next tick
  deriving DecidableEq, Repr

/-- A capture queue entry (R219). -/
structure CapEnt where
  stamp   : Nat
  fall    : Bool
  stepGen : Nat
  uncal   : Bool
  lost    : Bool
  safe    : Bool
  loop    : Bool
  dropped : Bool
  seq     : Nat
  deriving DecidableEq, Repr

/-- A capture channel beside its registers. -/
structure Cap where
  queue : List CapEnt := []
  lost  : Bool := false
  last  : Option Nat := none       -- tick of the last stamped edge
  deriving DecidableEq, Repr

/-- Clock generation beside its registers (R317 to R328). -/
structure Clk where
  fastOn   : Bool := false
  lrefOn   : Bool := false
  tripAt   : Option Nat := none    -- first trip while FAST_OSC is not stable (R325)
  lrefAt   : Nat := 0              -- tick since which LREF has been stable
  relockAt : Tab Nat := []         -- tick each relock began
  relockTo : Tab Bool := []        -- the reference of each relock that runs: FAST_OSC or LREF (R327)
  num      : Tab (Nat × Nat) := [] -- CFG instruction that waits for the relock, its RESULT16
  buildOut : Bool := false         -- a phase build-out is under way
  xdiffDue : Bool := false         -- CLK_XDIFF is to enter the FCW at the next word (R321)
  deriving DecidableEq, Repr

/-- Fuses, straps and pins (R5, R318, R338, R331). -/
structure Boot where
  keyHash0 : Nat := 0
  keyHash1 : Nat := 0
  revoked  : Nat := 0
  svnMin   : Nat := 0
  uids     : Tab Nat := []
  bootsel  : Nat := 0
  xaXtal   : Bool := false
  xbXtal   : Bool := false
  pgood    : Bool := false
  rstN     : Bool := true
  deriving DecidableEq, Repr

/-- A calibratable instance (R383, R384). -/
structure Cal where
  live    : List Int := []         -- empty: the factory set's values
  factOk  : Bool := true
  num     : Option Nat := none     -- the CAL.RUN in progress
  since   : Nat := 0               -- tick at which it began to measure
  deriving DecidableEq, Repr

/-- What has left the package: the model's own log. -/
inductive Sent where
  | msix (vec : Nat)
  | frame (die port : Nat) (bytes : List (BitVec 8))
  | relka (die port kind : Nat) (blocks : List Nat)
  | autoneg (die port mode : Nat) (fec : Bool)
  | ptp (die port kind : Nat) (seq : Nat) (stamp : Nat) (corr : Int) (domain transp : Nat) (altDa : Bool)
  | pfc (die port prio quanta : Nat)
  | edge (unit : Nat) (tick code : Nat)
  | outEdge (k o tick code : Nat) (falling : Bool)
  | fpRead (off value : Nat)
  deriving DecidableEq, Repr

/-- The state of the block. -/
structure State where
  pending : List Instr := []       -- commands waiting, first in, first out
  freeCtr : Nat := 0               -- the model's own: free values taken so far
  part    : Part := .ft5120E
  env     : Env
  regs    : Tab Word := []         -- location * 2^24 + offset
  rings   : Tab Ring := []
  plyn    : Plyn := {}
  tails   : Tab Tailstock := []    -- 0-3 S-dies, 4 output, 5 event
  hst     : Hst := {}
  servo   : Servo := {}
  refs    : Tab RefSlot := []
  ports   : Tab Port := []         -- 128 * die + port
  dies    : Tab Die := []
  ledger  : Ledger := {}
  faults  : Faults := {}
  synths  : Tab Synth := []
  outs    : Tab OutLive := []      -- 3 * synthesizer + output
  trigs   : Tab Trig := []
  caps    : Tab Cap := []
  clk     : Clk := {}
  boot    : Boot := {}
  cals    : Tab Cal := []          -- by location * 16 + item
  msixTab : Tab Nat := []          -- MSI-X table entries, 128 bits
  msixPend : List Nat := []
  tapIr   : Nat := 0
  sent    : List Sent := []        -- newest first
  deriving DecidableEq, Repr

/-- The part right after a cold reset, before power-good rises (R331, R342, the Reset column of every register table):
every register at its reset value, nothing queued, host memory with nothing listed. -/
def State.reset : State :=
  { env := { mem := [], bulk := [], bar2 := none, busMaster := false, dmaBad := [] } }

end Sys2Proof.Machine
end

