-- ==== Sys2Proof/Machine/Ops.lean ====
section
/-! DEFINITION. The named operations over the state: locations, registers, time, host memory, free values. -/

namespace Sys2Proof.Machine

/-! ### Locations (R16 to R21) -/

/-- A location code (R16). -/
def mkLoc (die region cluster unit sub : Nat) : Nat :=
  die * 8192 + region * 4096 + cluster * 2048 + unit * 64 + sub

def locDie (l : Nat) : Nat := bits l 13 3
def locRegion (l : Nat) : Nat := bits l 12 1
def locCluster (l : Nat) : Nat := bits l 11 1
def locUnit (l : Nat) : Nat := bits l 6 5
def locSub (l : Nat) : Nat := bits l 0 6

/-- The cluster index of a location on an S-die: 2 * region + cluster (R17). -/
def locClu (l : Nat) : Nat := 2 * locRegion l + locCluster l

/-- A hub location (R21). -/
def hubLoc (unit : Nat) : Nat := mkLoc 6 0 0 unit 0

def locIss : Nat := 0xC040
def locCol : Nat := 0xC080
def locArb : Nat := 0xC0C0
def locLed : Nat := 0xC100
def locClk : Nat := 0xC180
/-- The faceplate, which no location code names (R426). -/
def locFp : Nat := 0x10000

/-- Sub-block `sub` of a unit of cluster `clu` of a die. -/
def cluLoc (die clu unit sub : Nat) : Nat := mkLoc die (clu / 2) (clu % 2) unit sub

/-- Sub-block `sub` of a port unit (R17). -/
def unitLoc (die unit sub : Nat) : Nat :=
  if unit < 16 then cluLoc die (unit / 4) unit sub else mkLoc die 0 0 unit sub

/-- The port unit that carries a port (R19). -/
def portUnit (port : Nat) : Nat := if port < 64 then port / 4 else 16

/-- The sub-block of a port within its unit (R92). -/
def portSub (port : Nat) : Nat := if port < 64 then port % 4 else port - 64

/-- The location of a port (R92). -/
def portLoc (die port : Nat) : Nat := unitLoc die (portUnit port) (portSub port)

/-- The key of a port in `ports`. -/
def portKey (die port : Nat) : Nat := 128 * die + port

/-- The cluster index whose pipeline serves a port (R17, R261). -/
def portClu (port : Nat) : Nat := if port < 64 then port / 16 else (port - 64) / 2

/-- The port a location names: die, port (R19). -/
def locPort (l : Nat) : Nat × Nat :=
  (locDie l, if locUnit l < 16 then 4 * locUnit l + locSub l else 64 + locSub l)

/-- The sub-block of a lane of a port unit (R248). -/
def laneLoc (die unit lane : Nat) : Nat := unitLoc die unit (8 + lane)

/-- The location of tailstock `t` in the order S0 to S3, output, event (R27). -/
def tailLoc (t : Nat) : Nat := if t < 4 then mkLoc t 0 0 28 0 else hubLoc (24 + t)

/-! ### The ordering code (R2, R3) -/

/-- Whether a die is fitted (R2). -/
def dieOn (p : Part) (die : Nat) : Bool :=
  match p with
  | .ft2560E => decide (die < 7) && die != 2 && die != 3
  | _ => decide (die < 7)

/-- The enabled S-dies. -/
def sDies (p : Part) : List Nat := (List.range 4).filter (dieOn p)

/-- FP_ID at revision A1 (R5). -/
def fpId : Part → Nat
  | .ft5120E => 0x5120111F
  | .ft5120C => 0x5120211F
  | .ft2560E => 0x25601113

/-- The full draw of the package (R347). -/
def fullDraw (p : Part) : Nat := if p = .ft2560E then 6400 else 12200

/-- The fixed charge of the package (R347, R362). -/
def fixedCharge (p : Part) : Nat := if p = .ft2560E then 1400 else 2200

/-- The grade's maximum junction temperature in 1/16 degree (R2). -/
def gradeMax (p : Part) : Int := if p = .ft5120C then 1680 else 1760

/-! ### The S-dies among each other (R17, R276) -/

/-- The other S-dies of a die, ascending (R276). -/
def otherDies (d : Nat) : List Nat := (List.range 4).filter (· != d)
/-- The rank of another die among them: its endpoint is unit 24 + rank, its pinning field bits 2 * rank (R17, R276). -/
def rankOf (d far : Nat) : Nat := if far < d then far else far - 1
/-- The endpoint of a die that faces another. -/
def brgLoc (d far : Nat) : Nat := mkLoc d 0 0 (24 + rankOf d far) 0
/-- The die that an endpoint faces (R17). -/
def facingDie (d ep : Nat) : Nat := (otherDies d).getD ep 0

/-! ### Fault kinds (R366) -/

/-- Severity and default reaction of each kind: 0 info, 1 warn, 2 error, 3 fatal. -/
def kindTable : Tab (Nat × Nat) :=
  [(0x01, (1, 0)), (0x02, (1, 0)), (0x03, (3, 5)), (0x04, (3, 5)), (0x05, (1, 0)), (0x10, (2, 3)), (0x11, (1, 0)),
   (0x20, (1, 0)), (0x21, (2, 0)), (0x22, (3, 5)), (0x23, (2, 0)), (0x24, (1, 0)), (0x25, (1, 0)), (0x26, (1, 0)),
   (0x27, (2, 4)), (0x28, (2, 0)), (0x30, (1, 0)), (0x31, (2, 0)), (0x40, (2, 0)), (0x41, (1, 0)), (0x42, (2, 0)),
   (0x43, (2, 0)), (0x50, (1, 0)), (0x51, (2, 0)), (0x52, (1, 0)), (0x53, (3, 5)), (0x54, (3, 5)), (0x60, (2, 0)),
   (0x61, (1, 0)), (0x62, (3, 5))]

/-- Severity of a kind; none for a reserved code. -/
def kindSev (k : Nat) : Option Nat := (Tab.get? kindTable k).map Prod.fst

/-- Default reaction level of a kind. -/
def kindReact (k : Nat) : Nat := ((Tab.get? kindTable k).map Prod.snd).getD 0

/-- Kinds whose safe state only a warm reset ends (R366). -/
def resetOnly (k : Nat) : Bool := k == 0x53 || k == 0x54 || k == 0x62

/-! ### The register file (R9, R412, R444) -/

/-- The register tables of a location (R444). -/
def blockRegs (loc : Nat) : List RegDesc :=
  let d := locDie loc
  let u := locUnit loc
  let sb := locSub loc
  if loc = locFp then regs_fp
  else if loc ≥ 65536 then []
  else if d < 4 then
    if u ≤ 16 then
      if sb < 8 ∧ (u = 16 ∨ sb < 4) then regs_port
      else if 8 ≤ sb ∧ sb < 16 ∧ (u = 16 ∨ sb < 12) then regs_lane
      else if sb = 16 then regs_unit ++ regs_cal else []
    else if u = 20 then
      if sb = 0 then regs_fwd else if sb = 1 ∧ locClu loc = 0 then regs_cls else []
    else if u = 21 then
      if sb = 0 then regs_slc else if sb = 1 ∧ locClu loc = 0 then regs_buf else []
    else if 24 ≤ u ∧ u ≤ 26 then if sb = 0 then regs_brg else []
    else if u = 28 then if sb = 0 then regs_spn else if sb = 1 then regs_tas else []
    else []
  else if d = 6 then
    if u = 1 then if sb = 1 then regs_tas else []
    else if u = 2 then if sb = 0 then regs_col else []
    else if u = 3 then if sb = 0 then regs_arb ++ regs_cal else []
    else if u = 4 then if sb = 0 then regs_led else []
    else if u = 6 then if sb = 0 then regs_clk else []
    else if 8 ≤ u ∧ u ≤ 11 then
      if sb = 0 then regs_syn ++ regs_cal else if sb ≤ 3 then regs_out else []
    else if 12 ≤ u ∧ u ≤ 19 then if sb = 0 then regs_cap ++ regs_cal else []
    else if 20 ≤ u ∧ u ≤ 27 then if sb = 0 then regs_trg ++ regs_cal else []
    else if u = 28 ∨ u = 29 then if sb = 0 then regs_spn else []
    else []
  else if d = 4 ∨ d = 5 then if u = 2 ∧ sb = 0 then regs_cal else []
  else []

/-- Whether a register description covers an offset. -/
def RegDesc.covers (r : RegDesc) (off : Nat) : Bool :=
  if r.stride = 0 then off == r.off
  else decide (r.off ≤ off) && (off - r.off) % r.stride == 0 && decide ((off - r.off) / r.stride < r.cnt)

/-- The fields of the register at an offset of a location; none where no register lies there. -/
def fieldsAt (loc off : Nat) : Option (List FieldDesc) :=
  ((blockRegs loc).find? (fun r => r.covers off)).map RegDesc.fields

/-- The reset word of a register: the Reset column, and the values given per ordering code, grade or kind. -/
def resetWord (p : Part) (loc off : Nat) : Word :=
  if loc = locFp ∧ off = 0 then BitVec.ofNat 32 (fpId p)
  else if loc = locLed ∧ off = 0 then BitVec.ofNat 32 (fullDraw p + fixedCharge p * 65536)
  else if loc = locLed ∧ off = 4 then BitVec.ofNat 32 (fullDraw p - fixedCharge p + fixedCharge p * 65536)
  else if loc = locLed ∧ off = 0x300 then BitVec.ofNat 32 ((if p = .ft5120C then 0x05A0 else 0x05F0) + 0x100000)
  else if loc = locCol ∧ 0x400 ≤ off ∧ off < 0x800 then BitVec.ofNat 32 (kindReact ((off - 0x400) / 4) * 16)
  else if locDie loc < 4 ∧ locUnit loc = 16 ∧ locSub loc = 16 ∧ off = 0 then 0
  else if locDie loc < 4 ∧ locUnit loc = 21 ∧ locSub loc = 1 ∧ off = 0xC then
    BitVec.ofNat 32 (if p = .ft2560E then 0x800 else 0x1800)
  else
    match fieldsAt loc off with
    | none => 0
    | some fs => BitVec.ofNat 32 (fs.foldl (fun a f => a + f.rst * 2 ^ f.lo) 0)

/-- The key of a register in `regs`. -/
def regKey (loc off : Nat) : Nat := loc * 16777216 + off

/-- The word a register holds. -/
def State.reg (s : State) (loc off : Nat) : Word :=
  match Tab.get? s.regs (regKey loc off) with
  | some w => w
  | none => resetWord s.part loc off

/-- Stores a register's word. -/
def State.setReg (s : State) (loc off : Nat) (w : Word) : State :=
  { s with regs := Tab.set s.regs (regKey loc off) w }

/-- A register field's value. -/
def State.fld (s : State) (loc : Nat) (f : Fld) : Nat := fget (s.reg loc f.off) f.lo f.len

/-- A one-bit field as a flag. -/
def State.flag (s : State) (loc : Nat) (f : Fld) : Bool := s.fld loc f == 1

/-- Stores a register field. -/
def State.put (s : State) (loc : Nat) (f : Fld) (v : Nat) : State :=
  s.setReg loc f.off (fset (s.reg loc f.off) f.lo f.len v)

/-- Stores a one-bit field. -/
def State.putB (s : State) (loc : Nat) (f : Fld) (b : Bool) : State := s.put loc f (b2n b)

/-- Adds to a saturating counter field. -/
def State.bumpBy (s : State) (loc : Nat) (f : Fld) (n : Nat) : State :=
  s.put loc f (satNat (s.fld loc f + n) f.len)

/-- Adds one to a saturating counter field. -/
def State.bump (s : State) (loc : Nat) (f : Fld) : State := s.bumpBy loc f 1

/-- Adds one to a counter field that wraps. -/
def State.incr (s : State) (loc : Nat) (f : Fld) : State := s.put loc f (s.fld loc f + 1)

/-- A 64-bit value from a _LO and _HI pair. -/
def State.pair (s : State) (loc : Nat) (lo hi : Fld) : Nat := s.fld loc lo + s.fld loc hi * 2 ^ 32

/-- Stores a _LO and _HI pair. -/
def State.putPair (s : State) (loc : Nat) (lo hi : Fld) (v : Nat) : State :=
  (s.put loc lo v).put loc hi (v / 2 ^ 32)

/-! ### Tables of structures -/

def State.ring (s : State) (n : Nat) : Ring := Tab.get {} s.rings n
def State.setRing (s : State) (n : Nat) (r : Ring) : State := { s with rings := Tab.set s.rings n r }
def State.tail (s : State) (t : Nat) : Tailstock := Tab.get {} s.tails t
def State.setTail (s : State) (t : Nat) (x : Tailstock) : State := { s with tails := Tab.set s.tails t x }
def State.port (s : State) (die port : Nat) : Port := Tab.get {} s.ports (portKey die port)
def State.setPort (s : State) (die port : Nat) (x : Port) : State :=
  { s with ports := Tab.set s.ports (portKey die port) x }
/-- Changes a port's record. -/
def State.updPort (s : State) (die port : Nat) (f : Port → Port) : State := s.setPort die port (f (s.port die port))
def State.die (s : State) (d : Nat) : Die := Tab.get {} s.dies d
def State.setDie (s : State) (d : Nat) (x : Die) : State := { s with dies := Tab.set s.dies d x }
/-- Changes a die's record. -/
def State.updDie (s : State) (d : Nat) (f : Die → Die) : State := s.setDie d (f (s.die d))
def State.ref (s : State) (i : Nat) : RefSlot := Tab.get {} s.refs i
def State.setRef (s : State) (i : Nat) (x : RefSlot) : State := { s with refs := Tab.set s.refs i x }
def State.synth (s : State) (k : Nat) : Synth := Tab.get {} s.synths k
def State.setSynth (s : State) (k : Nat) (x : Synth) : State := { s with synths := Tab.set s.synths k x }
def State.out (s : State) (i : Nat) : OutLive := Tab.get {} s.outs i
def State.setOut (s : State) (i : Nat) (x : OutLive) : State := { s with outs := Tab.set s.outs i x }
def State.trig (s : State) (i : Nat) : Trig := Tab.get {} s.trigs i
def State.setTrig (s : State) (i : Nat) (x : Trig) : State := { s with trigs := Tab.set s.trigs i x }
def State.cap (s : State) (i : Nat) : Cap := Tab.get {} s.caps i
def State.setCap (s : State) (i : Nat) (x : Cap) : State := { s with caps := Tab.set s.caps i x }
def State.relka (s : State) (die port : Nat) : Relka := (s.port die port).relka
def State.setRelka (s : State) (die port : Nat) (x : Relka) : State :=
  s.setPort die port { s.port die port with relka := x }
/-- Changes a Relka link's record. -/
def State.updRelka (s : State) (die port : Nat) (f : Relka → Relka) : State :=
  s.updPort die port (fun x => { x with relka := f x.relka })
def State.setServo (s : State) (x : Servo) : State := { s with servo := x }
def State.setHst (s : State) (x : Hst) : State := { s with hst := x }
def State.setLedger (s : State) (x : Ledger) : State := { s with ledger := x }
def State.setClk (s : State) (x : Clk) : State := { s with clk := x }
def State.setFaults (s : State) (x : Faults) : State := { s with faults := x }
def State.send (s : State) (x : Sent) : State := { s with sent := x :: s.sent }

/-- A free value, fresh at every use (log entry 6). -/
def State.freeNat (s : State) : Nat × State := (Config.free s.freeCtr, { s with freeCtr := s.freeCtr + 1 })

/-! ### Time (R12 to R15, R82 to R85) -/

/-- Fifths of 2^-16 ns in a tick of 1.6 ns. -/
def fuTick : Nat := 524288
/-- Fifths of 2^-16 ns in a second. -/
def fuSec : Nat := 327680000000000
/-- Units of 2^-16 ns in a second. -/
def uSec : Nat := 65536000000000
/-- The horizon in 2^-16 ns: 2^47 ns (R14). -/
def horizon : Int := 2 ^ 63

/-- The timescale of a tailstock in fifths of 2^-16 ns from TAI second 0 (R82). -/
def Tailstock.fu (t : Tailstock) : Nat := t.n * fuTick + t.f

/-- The timescale of a tailstock in 2^-16 ns from TAI second 0, rounded as R84. -/
def Tailstock.u (t : Tailstock) : Nat := (t.fu + 2) / 5

/-- TX64 of a time in 2^-16 ns from TAI second 0 (R13). -/
def tx64 (u : Nat) : Nat := u % 2 ^ 64

/-- The seconds register (R83). -/
def Tailstock.secs (t : Tailstock) : Nat := t.fu / fuSec % 2 ^ 48

/-- The signed 64-bit difference of two TX64 values (R14). -/
def sdiff (a b : Nat) : Int := sx (toBits ((a : Int) - b) 64) 64

/-- The time in 2^-16 ns from TAI second 0 that a TX64 value means, relative to `ref` (R13, R15). -/
def fromTx64 (ref tx : Nat) : Nat := ((ref : Int) + sdiff tx (tx64 ref)).toNat

/-- The full-time format of a time in 2^-16 ns from TAI second 0 (R12). -/
def fullTime (u : Nat) : Nat :=
  u / uSec % 2 ^ 48 * 2 ^ 48 + u % uSec / 65536 * 65536 + u % 65536

/-- The tailstock that stamps records of a die (R54): the hub's event tailstock for hub and headstocks. -/
def dieTail (die : Nat) : Nat := if die < 4 then die else 5

/-- The present timescale of a die in 2^-16 ns from TAI second 0. -/
def State.nowU (s : State) (die : Nat) : Nat := (s.tail (dieTail die)).u

/-- The monotonic count of the event tailstock, in ticks: the base of every wait and timeout (R85). -/
def State.now (s : State) : Nat := (s.tail 5).m

/-- The hub event tailstock's TX64. -/
def State.txNow (s : State) : Nat := tx64 (s.nowU 6)

/-- Ticks in a number of microseconds. -/
def usTicks (us : Nat) : Nat := 625 * us

/-- Ticks in a number of nanoseconds, rounded up. -/
def nsTicks (ns : Nat) : Nat := ceilDiv (5 * ns) 8

/-- Every tailstock counts `k` ticks (R82, R85). -/
def State.advance (s : State) (k : Nat) : State :=
  { s with tails := (List.range 6).map (fun t =>
      (t, { s.tail t with n := (s.tail t).n + k, m := (s.tail t).m + k })) }

/-- Time passes up to a tick of the monotonic count; a tick already past leaves it (log entry 5). -/
def State.advanceTo (s : State) (tick : Nat) : State := s.advance (tick - s.now)

/-- Time passes until the event tailstock reaches a time in 2^-16 ns from TAI second 0. -/
def State.advanceToU (s : State) (u : Nat) : State :=
  s.advance (ceilDiv (5 * u - (s.tail 5).fu) fuTick)

/-- Time passes to the event tailstock's next second boundary, unless it stands on one (R154). -/
def State.toSecond (s : State) : State :=
  s.advanceToU (ceilDiv (s.tail 5).fu fuSec * uSec)

/-- The first second boundary at least `ns` after the present, in 2^-16 ns from TAI second 0 (R93, R216). -/
def State.boundaryAfter (s : State) (ns : Nat) : Nat :=
  ceilDiv ((s.tail 5).u + ns * 65536) uSec * uSec

/-- Ticks of one second. -/
def secTicks : Nat := 625000000

/-- Ticks of an interval given as a log2 of seconds (R112). -/
def logTicks (l : Int) : Nat :=
  if 0 ≤ l then secTicks * 2 ^ l.toNat else ceilDiv secTicks (2 ^ (-l).toNat)

/-! ### Host memory (R7, R401, R443) -/

/-- A byte of a memory that reads 0 where nothing is listed. -/
def memByte (m : List Host.Cell) (a : Nat) : Byte := Tab.get 0 m a

/-- Writes one byte, keeping the one form: no listed byte is 0. -/
def memPut (m : List Host.Cell) (a : Nat) (b : Byte) : List Host.Cell :=
  if b = 0 then Tab.del m a else Tab.set m a b

/-- Writes consecutive bytes. -/
def memPuts (m : List Host.Cell) (a : Nat) : List Byte → List Host.Cell
  | [] => m
  | b :: bs => memPuts (memPut m a b) (a + 1) bs

/-- The one form of a memory: addresses rise strictly, no listed byte is 0. -/
def Memory.wf (m : List Host.Cell) : Bool := Tab.wf m && m.all (fun c => c.2 != 0)

/-- Size of the bulk window (R443). -/
def bulkSize : Nat := 16777216

/-- Where a transfer of `n` bytes goes: bulk memory, host memory, or nowhere because it fails (R333, R401, R443). -/
inductive Route where
  | bulk (off : Nat) | host | fails
  deriving DecidableEq, Repr

/-- The route of a transfer (R443). -/
def State.route (s : State) (a n : Nat) : Route :=
  let hostRoute :=
    if s.env.busMaster && !(s.env.dmaBad.any (fun p => decide (a / 4096 ≤ p) && decide (p ≤ (a + n - 1) / 4096)))
    then Route.host else Route.fails
  match s.env.bar2 with
  | none => hostRoute
  | some b =>
    if b ≤ a ∧ a + n ≤ b + bulkSize then .bulk (a - b)
    else if a + n ≤ b ∨ b + bulkSize ≤ a then hostRoute
    else .fails

/-- Reads `n` bytes by DMA; none when the access fails. -/
def State.dmaRead (s : State) (a n : Nat) : Option (List Byte) :=
  match s.route a n with
  | .bulk o => some ((List.range n).map (fun i => memByte s.env.bulk (o + i)))
  | .host => some ((List.range n).map (fun i => memByte s.env.mem (a + i)))
  | .fails => none

/-- Writes bytes by DMA; none when the access fails. -/
def State.dmaWrite (s : State) (a : Nat) (bs : List Byte) : Option State :=
  match s.route a bs.length with
  | .bulk o => some { s with env := { s.env with bulk := memPuts s.env.bulk o bs } }
  | .host => some { s with env := { s.env with mem := memPuts s.env.mem a bs } }
  | .fails => none

/-- Writes bytes by DMA; a failed access is lost. -/
def State.dmaPut (s : State) (a : Nat) (bs : List Byte) : State := (s.dmaWrite a bs).getD s

/-! ### Shorthands for port registers -/

def State.pfld (s : State) (d p : Nat) (f : Fld) : Nat := s.fld (portLoc d p) f
def State.pflag (s : State) (d p : Nat) (f : Fld) : Bool := s.flag (portLoc d p) f
def State.pput (s : State) (d p : Nat) (f : Fld) (v : Nat) : State := s.put (portLoc d p) f v
def State.pbump (s : State) (d p : Nat) (f : Fld) : State := s.bump (portLoc d p) f

/-- The mode of a port unit (R233). -/
def State.unitMode (s : State) (d u : Nat) : Nat := s.fld (unitLoc d u 16) R.PU_MODE_MODE

/-- Whether a mode provides port `sub` of its unit (R233). -/
def modeHas (mode sub : Nat) : Bool :=
  match mode with
  | 0 => false
  | 1 => sub == 0
  | 2 => sub == 0 || sub == 2
  | _ => decide (sub < 4)

/-- Whether a port is present (R233, R235). -/
def State.present (s : State) (d p : Nat) : Bool :=
  dieOn s.part d && decide (d < 4) && decide (p < 72) &&
    (decide (64 ≤ p) || modeHas (s.unitMode d (p / 4)) (p % 4))

/-- The lanes of a port within its unit (R233, R235). -/
def State.portLanes (s : State) (d p : Nat) : List Nat :=
  if 64 ≤ p then [p - 64]
  else match s.unitMode d (p / 4) with
    | 0 => []
    | 1 => [0, 1, 2, 3]
    | 2 => [p % 4, p % 4 + 1]
    | _ => [p % 4]

/-- The ports of a port unit that its mode provides. -/
def State.unitPorts (s : State) (d u : Nat) : List Nat :=
  if u = 16 then (List.range 8).map (64 + ·)
  else ((List.range 4).filter (modeHas (s.unitMode d u))).map (4 * u + ·)

/-- The present ports of a die. -/
def State.diePorts (s : State) (d : Nat) : List Nat :=
  ((List.range 17).map (s.unitPorts d)).flatten

/-- A port's state code (R241). -/
def State.pstate (s : State) (d p : Nat) : Nat := s.pfld d p R.PORT_STAT_STATE

/-- Port rate in Mb/s (R233, R235). -/
def State.rate (s : State) (d p : Nat) : Nat :=
  if 64 ≤ p then
    if bit (s.fld (unitLoc d 16 16) R.PU_MODE_SVC_25G) (p - 64) then 25000 else 10000
  else match s.unitMode d (p / 4) with
    | 1 => 800000 | 2 => 400000 | 3 => 200000 | 4 => 100000 | 5 => 50000 | 6 => 25000 | 7 => 10000 | _ => 0

/-- The landing share of a port in bytes (R233, R235). -/
def State.landShare (s : State) (d p : Nat) : Nat :=
  if 64 ≤ p then 4096
  else match s.unitMode d (p / 4) with
    | 1 => 32768 | 2 => 16384 | 0 => 0 | _ => 8192

/-- Whether a port's PCS has RS-FEC (R233). -/
def State.hasFec (s : State) (d p : Nat) : Bool :=
  decide (p < 64) && decide (1 ≤ s.unitMode d (p / 4)) && decide (s.unitMode d (p / 4) ≤ 5)

/-! ### Bridge endpoints (R283) -/

/-- A bridge endpoint beside its registers. -/
def State.brg (s : State) (d far : Nat) : Bridge := Tab.get {} (s.die d).brg (24 + rankOf d far)
def State.setBrg (s : State) (d far : Nat) (x : Bridge) : State :=
  s.setDie d { s.die d with brg := Tab.set (s.die d).brg (24 + rankOf d far) x }
/-- The tick at which the lane failure of a bridge that runs was detected, at either end (R283). -/
def State.brgFail (s : State) (d far : Nat) : Option Nat :=
  match (s.brg d far).failAt with
  | some t => some t
  | none => (s.brg far d).failAt
/-- Ticks from the detection of a lane failure to a row of R283's table, in ns. -/
def State.failFor (s : State) (d far ns : Nat) : Bool :=
  (s.brgFail d far).any (fun t => decide (t + nsTicks ns ≤ s.now))

/-! ### Containment (R22, R367) -/

/-- Whether a location lies in no cluster and no region of its S-die (R367). -/
def dieWide (loc : Nat) : Bool :=
  locUnit loc == 16 || decide (24 ≤ locUnit loc) || ((locUnit loc == 20 || locUnit loc == 21) && locSub loc == 1)

/-- Whether a containment covers a location (R367). -/
def Cont.covers (c : Cont) (loc : Nat) : Bool :=
  match c.level with
  | 1 => c.loc / 64 == loc / 64
  | 2 => c.loc / 2048 == loc / 2048 && !dieWide loc
  | 3 => c.loc / 4096 == loc / 4096 && !dieWide loc
  | 4 => locDie c.loc == locDie loc
  | _ => false

/-- Whether a location lies in a contained instance (R367, R402). -/
def State.contained (s : State) (loc : Nat) : Bool := s.faults.conts.any (fun c => c.covers loc)

/-- Whether a unit's gate is closed by a containment: its own, or that of its region without power (R367). -/
def State.gatedOff (s : State) (loc : Nat) : Bool :=
  s.faults.conts.any (fun c => (c.level == 1 || c.level == 3) && c.covers loc)

/-- Whether a whole die is contained (R22). -/
def State.dieContained (s : State) (d : Nat) : Bool :=
  s.faults.conts.any (fun c => c.level == 4 && locDie c.loc == d)

/-- A port that is present and whose unit works (R233, R367). -/
def State.portLive (s : State) (d p : Nat) : Bool := s.present d p && !s.gatedOff (portLoc d p)

/-- A field of the arbiter. -/
def State.arb (s : State) (f : Fld) : Nat := s.fld locArb f
/-- Stores a field of the arbiter. -/
def State.arbPut (s : State) (f : Fld) (v : Nat) : State := s.put locArb f v

/-- Whether the part is in safe state (R376). -/
def State.safe (s : State) : Bool := s.flag locCol R.FLT_STAT_SAFE

/-- The servo state code (R168). -/
def State.servoState (s : State) : Nat := s.fld locArb R.REF_SEL_SERVO_STATE

/-- The LOSSLESS classes of a die (R271). -/
def State.lossless (s : State) (d : Nat) : List Nat :=
  (List.range 16).filter (fun c => s.flag (mkLoc d 0 0 20 1) (R.TC_ATTR_LOSSLESS c))

/-- Whether a class is time-bound on a die (R271). -/
def State.timeBound (s : State) (d c : Nat) : Bool := s.flag (mkLoc d 0 0 20 1) (R.TC_ATTR_TIME_BOUND c)

/-- TC_ATTR of a class on a die: bit 0 TIME_BOUND, bit 1 LOSSLESS, bit 2 YIELDING (R271). -/
def State.tcAttr (s : State) (d c : Nat) : Nat := (s.reg (mkLoc d 0 0 20 1) (4 * c)).toNat % 8

/-- Whether the pipeline of a cluster is awake (R345). -/
def State.awake (s : State) (d clu : Nat) : Bool := s.flag (cluLoc d clu 20 0) R.FWD_STAT_AWAKE

/-- Whether the buffer slice of a cluster is awake (R345). -/
def State.sliceAwake (s : State) (d clu : Nat) : Bool := s.flag (cluLoc d clu 21 0) R.BUF_SLICE_AWAKE

end Sys2Proof.Machine
end

