-- ==== Sys2Proof/Machine/Rings.lean ====
section
/-! DEFINITION. Rings, records, interrupts, events and the completion of instructions (R44 to R81, R404 to R410,
R429 to R437): everything that passes between an executing instruction and the host. -/

namespace Sys2Proof.Machine

/-! ### Interrupts (R429, R431, R435, R436) -/

/-- A faceplate field. -/
def State.fp (s : State) (f : Fld) : Nat := s.fld locFp f
/-- Stores a faceplate field. -/
def State.fpPut (s : State) (f : Fld) (v : Nat) : State := s.put locFp f v

/-- An MSI-X table entry; masked until the host unmasks it, as PCIe 5.0 has it (R436; log entry 3). -/
def State.msixEntry (s : State) (v : Nat) : Nat := Tab.get (2 ^ 96) s.msixTab v

/-- Sends an MSI-X message, or sets the pending bit of a masked vector (R436). -/
def State.msix (s : State) (v : Nat) : State :=
  if bit (s.msixEntry v) 96 then
    { s with msixPend := if s.msixPend.contains v then s.msixPend else v :: s.msixPend }
  else s.send (.msix v)

/-- FP_INT_STAT bits. -/
def intBoot : Nat := 0
def intSafeEntry : Nat := 1
def intSafeExit : Nat := 2
def intFaultN : Nat := 3
def intCfgErr : Nat := 4
def intEvtOvf : Nat := 5
def intHalted : Nat := 6

/-- Hardware sets FP_INT_STAT bit `b`: its counter counts, and a rise of an enabled bit sends a message (R431). -/
def State.fpInt (s : State) (b : Nat) : State :=
  let was := bit (s.reg locFp 0x24).toNat b
  let s := (s.put locFp ⟨0x24, b, 1⟩ 1).bump locFp (R.FP_INT_CNT_COUNT b)
  if !was && bit (s.fp R.FP_INT_EN_EN) b then s.msix (s.fp R.FP_INT_MAP_VECTOR) else s

/-- FP_BOOT.STATE takes a value; a change sets FP_INT_STAT.BOOT (R344, R429). -/
def State.bootState (s : State) (v : Nat) : State :=
  if s.fp R.FP_BOOT_STATE = v then s else (s.fpPut R.FP_BOOT_STATE v).fpInt intBoot

/-- The part has reached host-ready (R335, R429). -/
def State.hostReady (s : State) : Bool := s.fp R.FP_BOOT_STATE == 6

/-! ### Rings (R44 to R51) -/

/-- Indices count modulo 2^(k+1) (R46). -/
def Ring.span (r : Ring) : Nat := 2 ^ (r.sizeLog2 + 1)
/-- Entries held (R46). -/
def Ring.used (r : Ring) : Nat := (r.tail + r.span - r.head) % r.span
/-- Whether the ring is full (R46). -/
def Ring.full (r : Ring) : Bool := decide (2 ^ r.sizeLog2 ≤ r.used)
/-- Enabled, not halted, not in reset (R51). -/
def Ring.running (r : Ring) : Bool := r.en && !r.halted && !r.resetBusy

/-- Whether the entry of `len` bytes at a ring's TAIL can be written to host memory (R333, R443). -/
def State.ringReach (s : State) (n len : Nat) : Bool :=
  s.route ((s.ring n).base + len * ((s.ring n).tail % 2 ^ (s.ring n).sizeLog2)) len != .fails

/-- A ring that takes an entry of `len` bytes: enabled, with room (R55), and its place in host memory can be written, so
that TAIL never covers a record that was not (R47; log entry 65). -/
def State.ringOpen (s : State) (n : Nat) (len : Nat := 16) : Bool :=
  (s.ring n).en && !(s.ring n).full && s.ringReach n len

/-- An illegal write to a ring is ignored and sets STAT.CFG_ERR (R46, R50). -/
def State.ringErr (s : State) (n : Nat) : State :=
  (s.setRing n { s.ring n with cfgErr := true, errCnt := satNat ((s.ring n).errCnt + 1) 16 }).fpInt intCfgErr

/-- The pending count of a ring (R435). -/
def State.ringPending (s : State) (n : Nat) : Nat :=
  if n < 96 then (s.ring n).used else (s.ring n).sinceArm

/-- Sends the message of a ring and disarms it (R435). -/
def State.ringFire (s : State) (n : Nat) : State :=
  (s.msix (s.fp (R.RING_INT_VECTOR n))).fpPut (R.RING_INT_ARMED n) 0

/-- Tests the COUNT condition of a ring's interrupt (R435). -/
def State.ringTest (s : State) (n : Nat) : State :=
  if s.flag locFp (R.RING_INT_EN n) && s.flag locFp (R.RING_INT_ARMED n)
    && decide (s.fp (R.RING_INT_COUNT n) ≤ s.ringPending n) && decide (1 ≤ s.ringPending n)
  then s.ringFire n else s

/-- Writes one entry of `len` bytes at TAIL, then advances TAIL, then tests the interrupt (R46, R47, R435). -/
def State.pushEntry (s : State) (n len entry : Nat) : State :=
  let r := s.ring n
  let s := s.dmaPut (r.base + len * (r.tail % 2 ^ r.sizeLog2)) (leBytes len entry)
  (s.setRing n { r with tail := (r.tail + 1) % r.span, pendAt := r.pendAt ++ [s.now] }).ringTest n

/-- The 128-bit record of R54. -/
def recWord (cookie status detail ring tag result time : Nat) : Nat :=
  cookie * 2 ^ 112 + status % 256 * 2 ^ 104 + detail % 256 * 2 ^ 96 + ring * 2 ^ 89 + tag * 2 ^ 80
    + result % 65536 * 2 ^ 64 + time % 2 ^ 64

/-! ### Issued instructions (R56 to R66, R75 to R81) -/

/-- The issued instruction of a number. -/
def State.flight (s : State) (n : Nat) : Option Flight := s.plyn.flights.find? (fun f => f.num == n)

/-- Replaces an issued instruction. -/
def State.setFlight (s : State) (f : Flight) : State :=
  { s with plyn := { s.plyn with flights := s.plyn.flights.map (fun g => if g.num = f.num then f else g) } }

/-- Moves an issued instruction to another state (R62). -/
def State.setPhase (s : State) (n : Nat) (p : Phase) : State :=
  match s.flight n with
  | none => s
  | some f => s.setFlight { f with phase := p }

/-- The six fences (R69). -/
def isFence (op : Nat) : Bool := decide (1 ≤ op) && decide (op ≤ 6)
/-- Fences, WAIT.TIME and WAIT.EVENT, which block their ring (R61). -/
def isBlocking (op : Nat) : Bool := isFence op || op == 8 || op == 9

/-- The die whose tailstock stamps an instruction's records (R54). -/
def Cmd.timeDie (c : Cmd) : Nat :=
  if isBlocking c.opcode then 6 else if locDie c.loc = 7 then 0 else locDie c.loc

/-- The dies whose slots an instruction takes (R32, R57). -/
def slotDies (p : Part) (c : Cmd) : List Nat :=
  if isBlocking c.opcode then [6] else if locDie c.loc = 7 then sDies p else [locDie c.loc]

/-- The slot tags of a die (R56). -/
def dieTags (die : Nat) : List Nat :=
  if die < 4 then (List.range 96).map (96 * die + ·)
  else if die < 6 then (List.range 32).map (384 + 32 * (die - 4) + ·)
  else (List.range 64).map (448 + ·)

/-- The free slot tags of a die (R56, R57). -/
def State.freeTags (s : State) (die : Nat) : List Nat :=
  let held := (s.plyn.flights.map (fun f => f.tags.map Prod.snd)).flatten
  (dieTags die).filter (fun t => !held.contains t)

/-- The stores a parked action occupies (R75). -/
def storeDies (p : Part) (c : Cmd) : List Nat :=
  if locDie c.loc = 7 then sDies p else if locDie c.loc < 4 then [locDie c.loc] else [6]

/-- Whether an instruction is parked. -/
def Phase.isParked : Phase → Bool
  | .parked _ => true
  | _ => false

/-- Whether an instruction has not yet completed (R62). -/
def Phase.isOpen : Phase → Bool
  | .issued => true
  | .tokens _ => true
  | .exec _ => true
  | _ => false

/-- Entries taken in a store (R75, R80): by its parked actions, and by those whose execution is under way and whose series
goes on, so that they can be parked again (R62; log entry 66). -/
def State.parkedIn (s : State) (die : Nat) : Nat :=
  (s.plyn.flights.filter (fun f => f.entry && (storeDies s.part f.cmd).contains die)).length

/-- Entries of a timed-action store (R75). -/
def storeSize (die : Nat) : Nat := if die < 4 then 1024 else 512

/-- Two location codes that are the same location (R66). -/
def sameLoc (a b : Nat) : Bool :=
  a == b || (a % 8192 == b % 8192 &&
    ((locDie a == 7 && decide (locDie b < 4)) || (locDie b == 7 && decide (locDie a < 4))))

/-- Whether an instruction holds back later ones to its location: an untimed one until it completes, a timed one until it
is parked, as only its parking is ordered (R62, R66), and any one that waits for tokens in the background (R64). -/
def Flight.holdsBack (f : Flight) : Bool :=
  match f.phase with
  | .issued => true
  | .tokens _ => true
  | .exec _ => !f.cmd.timed
  | _ => false

/-- Whether no earlier instruction to the same location holds this one back (R62, R64, R66). -/
def State.mayStart (s : State) (f : Flight) : Bool :=
  isBlocking f.cmd.opcode ||
    !(s.plyn.flights.any (fun g =>
        decide (g.num < f.num) && !isBlocking g.cmd.opcode && sameLoc g.cmd.loc f.cmd.loc && g.holdsBack))

/-- What parking an action at a boundary decides (R77). -/
inductive ParkRes where
  | park (idx due : Nat) (late : Option Nat)
  | expired
  deriving DecidableEq, Repr

/-- The time of boundary `j`, TX64 (R78). -/
def TimeDesc.at (td : TimeDesc) (j : Nat) : Nat := (td.time + j * td.period) % 2 ^ 64

/-- Whether a series has a boundary `j` (R53, R77). -/
def TimeDesc.has (td : TimeDesc) (j : Nat) : Bool := td.rep == 0xFFFF || decide (j ≤ td.rep)

/-- A lateness in 2^-16 ns as RESULT16 gives it: ns, halves rounded up, saturating (R77). -/
def lateNs (l : Int) : Nat := min ((l + 32768).toNat / 65536) 0xFFFF

/-- The late policy at boundary `j`, with the timescale at `now` and the grace window `g` in 2^-16 ns (R77). -/
def parkDecide (now : Nat) (late : Nat) (td : TimeDesc) (g : Nat) (j : Nat) : ParkRes :=
  let l := sdiff now (td.at j)
  if l ≤ (g : Int) then .park j (td.at j) none
  else if late = 0 then .expired
  else if late = 1 then .park j (td.at j) (some (lateNs l))
  else
    let j' := j + ceilDiv (l - g).toNat (max td.period 1)
    if td.has j' then .park j' (td.at j') none else .expired

/-- How an instruction completes (R401); `time` where it is not the present. -/
structure Compl where
  status : Nat
  detail : Nat := 0
  result : Nat := 0
  time   : Option Nat := none
  deriving DecidableEq, Repr

/-- The status codes of R401. -/
def stOk : Nat := 0x00
def stLate : Nat := 0x01
def stExpired : Nat := 0x02
def stConflict : Nat := 0x03
def stBadOperand : Nat := 0x04
def stNoTarget : Nat := 0x05
def stBusyGate : Nat := 0x06
def stHorizon : Nat := 0x07
def stDenied : Nat := 0x08
def stFault : Nat := 0x09
def stAborted : Nat := 0x0A
def stTimeout : Nat := 0x0B

/-- Completion with OK and a result. -/
def okC (result : Nat) : Compl := { status := stOk, result := result % 65536 }
/-- Completion with STATE_CONFLICT. -/
def conflictC (detail : Nat) : Compl := { status := stConflict, detail := detail % 256 }
/-- Completion with BAD_OPERAND. -/
def badC (detail : Nat) : Compl := { status := stBadOperand, detail := detail }
/-- Completion of a failed host-memory access (R401). -/
def dmaFaultC : Compl := { status := stFault, detail := 0xE0 }

/-- What an instruction does when it starts: the new state, and its completion unless it goes on (R62). -/
abbrev Eff := State × Option Compl

/-- No further boundary, or an end that ends the series (R77, R78). -/
def Flight.next (f : Flight) (now : Nat) : Nat :=
  match f.late with
  | none => f.idx + 1
  | some _ => f.idx + (sdiff now (f.td.at f.idx)).toNat / max f.td.period 1 + 1

/-- Whether a completion ends the instruction (R62, R78, R333). A finite series whose RUN execution leaves no boundary
retires with that LATE record: R78 has the last execution retire it, and no record of its own says EXPIRED (DESIGN CHOICE,
log entry 67). -/
def State.lastOf (s : State) (f : Flight) (status : Nat) : Bool :=
  f.mute || !f.cmd.timed || f.td.rep == 0 || status == stAborted || status == stExpired ||
    (s.ring f.ring).resetBusy || !f.td.has (f.next (tx64 (s.nowU f.cmd.timeDie)))

/-- An instruction retires: RETIRED counts and its slot is released (R57, R62). -/
def State.retire (s : State) (f : Flight) : State :=
  let s := s.setFlight { f with phase := .retired, tags := [], entry := false }
  s.setRing f.ring { s.ring f.ring with retired := ((s.ring f.ring).retired + 1) % 2 ^ 32 }

/-- Whether a completion writes a record (R52, R55). -/
def Flight.wantsRec (f : Flight) (status : Nat) : Bool := !f.mute && (status != stOk || f.cmd.always)

/-- The ring that takes an instruction's records (R45). -/
def State.cqOf (s : State) (ring : Nat) : Nat := 32 + (s.ring ring).cq

/-- Writes an instruction's record (R54). -/
def State.putRec (s : State) (f : Flight) (status detail result time : Nat) : State :=
  s.pushEntry (s.cqOf f.ring) 16 (recWord f.cmd.cookie status detail f.ring f.tag0 result time)

/-- Whether a status halts a ring with HOE (R72) and is reported by a fence (R71). -/
def isBad (status : Nat) : Bool := status != stOk && status != stLate

/-- Halts a ring on a completion (R72). -/
def State.haltOn (s : State) (ring status : Nat) : State :=
  if (s.ring ring).hoe && isBad status && !(s.ring ring).halted then
    (s.setRing ring { s.ring ring with halted := true, haltStatus := status }).fpInt intHalted
  else s

/-- A series ends between two executions, with a record of its own (R55, R72, R77, R80). -/
def State.endSeries (s : State) (f : Flight) (status detail : Nat) : State :=
  let f := { f with bad := true, started := none, entry := false }
  let now := tx64 (s.nowU f.cmd.timeDie)
  let s := s.haltOn f.ring status
  if s.ringOpen (s.cqOf f.ring) then (s.putRec f status detail 0 now).retire f
  else s.setFlight { f with phase := .record status detail 0 now }

/-- An action is parked for a boundary (R62, R75). -/
def State.park (s : State) (f : Flight) (idx due : Nat) (late : Option Nat) : State :=
  s.setFlight { f with phase := .parked due, idx := idx, late := late, tags := [], started := none, entry := true }

/-- After its record: retired, or parked for the next boundary (R62, R78); a series with no boundary left ends EXPIRED
(R77), one that was cancelled while this execution was due ends ABORTED (R80). -/
def State.afterRec (s : State) (f : Flight) (status : Nat) : State :=
  if s.lastOf f status then s.retire f
  else if f.cancel then s.endSeries f stAborted (f.execs % 256)
  else
    let now := tx64 (s.nowU f.cmd.timeDie)
    match parkDecide now f.cmd.late f.td ((s.ring f.ring).grace * 1000 * 65536) (f.next now) with
    | .park j due late => s.park f j due late
    | .expired => s.endSeries f stExpired 0

/-- Writes the record of a completion, or keeps it until the ring has room (R55). -/
def State.deliver (s : State) (f : Flight) (status detail result time : Nat) : State :=
  if f.wantsRec status then
    if s.ringOpen (s.cqOf f.ring) then (s.putRec f status detail result time).afterRec f status
    else s.setFlight { f with phase := .record status detail result time }
  else s.afterRec f status

/-- An execution completes (R62): lateness (R77), boundary index (R78), halt (R72), the count of R362, release of BLOCKED
(R61), record. The completion time of an action that was parked is the tick on which it started (R76). -/
def State.complete (s : State) (n : Nat) (c : Compl) : State :=
  match s.flight n with
  | none => s
  | some f =>
    let status := if c.status = stOk ∧ f.late.isSome then stLate else c.status
    let result := if status = stLate then f.late.getD c.result else c.result
    let detail := if f.cmd.timed && !isBad status then f.idx % 256 else c.detail
    let f := { f with bad := f.bad || isBad status, execs := f.execs + b2n f.started.isSome }
    let time := f.started.getD (c.time.getD (tx64 (s.nowU f.cmd.timeDie)))
    let s := if status = stDenied then s.bump locLed R.POW_CNT_DENIED else s
    let s := s.haltOn f.ring status
    let s := if isBlocking f.cmd.opcode then s.setRing f.ring { s.ring f.ring with blocked := false } else s
    s.deliver f status detail result time

/-- An instruction ends ABORTED (R73, R80, R99, R178): what waits for it and its store entry are given up; DETAIL holds the
executions made. -/
def State.abortFlight (s : State) (f : Flight) : State :=
  let s := s.setLedger { s.ledger with
    reqs := s.ledger.reqs.filter (fun r => r.num != some f.num),
    waking := s.ledger.waking.map (fun x => (x.1, if x.2.num = some f.num then { x.2 with num := none } else x.2)) }
  let s := { s with plyn := { s.plyn with fences := Tab.del s.plyn.fences f.num } }
  let made := match f.phase with
    | .exec _ => f.started
    | _ => none
  (s.setFlight { f with started := made, entry := false }).complete f.num
    { status := stAborted, detail := if f.cmd.timed then f.execs % 256 else 0 }

/-- Completes an instruction that may be none. -/
def State.completeOpt (s : State) (n : Option Nat) (c : Compl) : State :=
  match n with
  | none => s
  | some n => s.complete n c

/-! ### Events (R406, R410, R433) -/

/-- Completes every wait for an event kind (R410). -/
def State.wakeWaits (s : State) (kind result time : Nat) : State :=
  (s.plyn.flights.filter (fun f => f.cmd.opcode == 9 && f.phase.isOpen && f.cmd.opb != 0
      && f.cmd.opa % 16 == kind)).foldl
    (fun s f => s.complete f.num { status := stOk, detail := kind, result := result, time := some time }) s

/-- The ring an event record goes to (R433). -/
def State.eventRing (s : State) (kind : Nat) (ovr : Option Nat) : Option Nat :=
  match ovr with
  | some r => some (32 + r)
  | none => if s.flag locFp (R.EVT_ROUTE_EN kind) then some (32 + s.fp (R.EVT_ROUTE_RING kind)) else none

/-- An event is raised: waits complete and its record is written, dropped or never written (R410, R433, R55). EVT_DROP keeps
its greatest value (DESIGN CHOICE, log entry 68). The flag says whether the record was written. -/
def State.event (s : State) (kind result time : Nat) (ovr : Option Nat := none) : State × Bool :=
  let s := s.wakeWaits kind result time
  match s.eventRing kind ovr with
  | none => (s, false)
  | some n =>
    if s.ringOpen n then (s.pushEntry n 16 (recWord 0 0x80 kind n 0 result time), true)
    else
      let r := s.ring n
      ((s.setRing n { r with evtOvf := true, count1c := satNat (r.count1c + 1) 32 }).fpInt intEvtOvf, false)

/-- An event whose source keeps nothing. -/
def State.event' (s : State) (kind result time : Nat) : State := (s.event kind result time).1

end Sys2Proof.Machine
end

