-- ==== Sys2Proof/Machine/Servo.lean ====
section
/-! DEFINITION. The servo: states and traceability (R168, R169), slews and steps (R93 to R96, R163, R166), Steady Rest
and its history (R171, R172), and the reference selector (R159 to R164). -/

namespace Sys2Proof.Machine

/-! ### Sources (R151) -/

/-- The configuration word of a slot: KIND, DIE, PORT, PRIO, HOST_TRACEABLE (R150). -/
def State.refCfg (s : State) (i : Nat) : Nat := s.arb (R.REF_CFG_CFG i)
/-- The source kind of a slot. -/
def State.refKind (s : State) (i : Nat) : Nat := s.refCfg i % 16
/-- The port of a slot's source: die, port. -/
def State.refPort (s : State) (i : Nat) : Nat × Nat := (bits (s.refCfg i) 4 2, bits (s.refCfg i) 6 7)
/-- The priority of a slot. -/
def State.refPrio (s : State) (i : Nat) : Nat := bits (s.refCfg i) 13 4
/-- The state of a slot (R158): 0 OFF, 1 FAILED, 2 QUALIFYING, 3 QUALIFIED, 4 REFUSED. -/
def State.refState (s : State) (i : Nat) : Nat := s.arb (R.REF_STAT_STATE i)
/-- Stores the state of a slot. -/
def State.setRefState (s : State) (i v : Nat) : State := s.arbPut (R.REF_STAT_STATE i) v

/-- Frequency kinds, which steer rate only (R151). -/
def freqKind (k : Nat) : Bool := k == 2 || k == 3 || k == 4
/-- Phase kinds, whose offsets are wrapped into half a second (R151, R153). -/
def phaseKind (k : Nat) : Bool := k == 1 || k == 7

/-- The selected slot. -/
def State.selected (s : State) : Option Nat :=
  if s.flag locArb R.REF_SEL_NONE then none else some (s.arb R.REF_SEL_SELECTED)

/-- Whether a time or phase reference is selected. -/
def State.selTime (s : State) : Bool := s.selected.any (fun i => !freqKind (s.refKind i))

/-- Whether the selected reference is a Relka link. -/
def State.selRelka (s : State) : Bool := s.selected.any (fun i => s.refKind i == 6)

/-- Whether a slot's source is traceable (R151). -/
def State.refTraceable (s : State) (i : Nat) : Bool :=
  match s.refKind i with
  | 0 => bit s.servo.todFlags 1
  | 5 => bit (s.refCfg i) 17
  | 7 => bit (s.refCfg i) 17
  | 6 => (s.relka (s.refPort i).1 (s.refPort i).2).traced
  | _ => false

/-- TRACEABLE follows the servo state and the source; Steady Rest, takeover and HOLD keep it (R169, R185). -/
def State.traceSync (s : State) : State :=
  let st := s.servoState
  if st = 3 ∨ st = 5 then s.putB locArb R.REF_SEL_TRACEABLE (s.selected.any s.refTraceable)
  else if st < 4 then s.putB locArb R.REF_SEL_TRACEABLE false
  else s

/-- The servo enters a state (R168); PHASE_LOCKED sets TS_TRACED (log entry 24), and ACQUIRE interrupts the locked time
(R172). -/
def State.toServo (s : State) (v : Nat) : State :=
  let s := (s.arbPut R.REF_SEL_SERVO_STATE v).traceSync
  if v = 3 then s.arbPut R.REF_SEL_TS_TRACED 1
  else if v = 1 then s.setServo { s.servo with hist := { s.servo.hist with secs := 0 } }
  else s

/-- Whether TIME.SET, TIME.STEP and TIME.SLEW are refused (R97). -/
def State.timeRefused (s : State) : Bool :=
  let st := s.servoState
  st == 3 || ((st == 1 || st == 5) && s.selTime) || st == 6 || st == 7 || s.hst.swap.isSome

/-! ### Steps and slews -/

/-- The size of a committed step against a timescale value, in 2^-16 ns (R94, R95). -/
def StepC.size (x : StepC) (u : Nat) : Int := if x.set then (x.secs * uSec + x.sub : Int) - u else x.offset

/-- Ticks of the monotonic count to the next word slot (R182). -/
def State.toSlot (s : State) : Nat := ceilDiv s.now 400 * 400 - s.now

/-- The tick N at or after which the timescale reads a time in 2^-16 ns (R82). While F is not 0 no tick lies on a second
boundary, and a step for one applies on the first tick behind it (DESIGN CHOICE, log entry 25). -/
def State.tickOf (s : State) (u : Nat) : Nat := ceilDiv (5 * u - (s.tail 5).f) fuTick

/-- A slew stops (R95). -/
def State.slewStop (s : State) : State :=
  s.setServo { s.servo with slewLeft := 0, slewRate := 0, slewEnd := s.now, epochBySlew := false }

/-- What the words carry of a step (R182). -/
def StepC.wire (x : StepC) : StepC :=
  { set := x.set, offset := if x.set then 0 else x.offset, secs := if x.set then x.secs else 0,
    sub := if x.set then x.sub else 0, tick := x.tick }

/-- The instruction of a committed step waits until all six tailstocks have applied it (R94). -/
def Servo.awaitStep (v : Servo) (x : StepC) : Servo :=
  match x.num with
  | none => v
  | some n =>
    { v with applying := v.applying.filter (fun w => w.num != n) ++
        [{ num := n, tick := x.tick, left := List.range 6, result := none }] }

/-- A step is committed: it goes into the spindle words (R94). -/
def State.commit (s : State) (x : StepC) : State :=
  let s := s.setServo ({ s.servo with step := some x }.awaitStep x)
  if x.set then s.slewStop else s

/-- The apply tick of an instruction's step: for a TIME.SET the second boundary that it chose, or the first at least
1,280 ns ahead where that one is too near by now; else 1,280 ns after the next word slot (R93, R94; log entry 25). -/
def State.stepTick (s : State) (x : StepC) : Nat :=
  if x.set then s.tickOf (max (s.boundaryAfter 1280) (x.bound.getD 0)) else (s.tail 5).n + s.toSlot + 800

/-- Commits an instruction's step, or keeps it behind the steps already committed (log entry 25); a TIME.SET chooses its
boundary now (R93). -/
def State.askStep (s : State) (x : StepC) : State :=
  let x := if x.set then { x with bound := some (s.boundaryAfter 1280) } else x
  if s.servo.step.isSome then s.setServo { s.servo with next := s.servo.next ++ [x] }
  else s.commit { x with tick := s.stepTick x }

/-- The step in the words has been applied: the next one that waits is committed (log entry 25). -/
def State.nextStep (s : State) : State :=
  match s.servo.next with
  | [] => s
  | y :: rest => (s.setServo { s.servo with next := rest }).commit { y with tick := s.stepTick y }

/-- The part of the running slew not yet applied (R96). -/
def State.slewRemain (s : State) : Int :=
  let m : Nat := min s.servo.slewLeft.natAbs (s.servo.slewRate * (s.servo.slewEnd - s.now) * 1048576 / 10 ^ 10)
  if s.servo.slewLeft < 0 then -(m : Int) else m

/-- Adds an offset to the part of a slew not yet applied, at a rate in ns/s (R96). -/
def State.slewBy (s : State) (off : Int) (rate : Nat) : State :=
  let left := s.slewRemain + off
  s.setServo { s.servo with slewLeft := left, slewRate := if left = 0 then 0 else rate,
                            slewEnd := s.now + ceilDiv (left.natAbs * 10 ^ 10) (1048576 * rate) }

/-! ### Steady Rest (R171, R172) -/

/-- The mean of a list, to the nearest; 0 for none. -/
def meanOf (l : List Int) : Int := if l = [] then 0 else roundDiv l.sum l.length

/-- The bins of the long window: those of the last LONG_H hours (R171). -/
def State.longBins (s : State) : List Bin :=
  let h := s.now / secTicks / 3600
  s.servo.hist.bins.filter (fun b => decide (h < (b.st / max b.count 1).toNat / 3600 + s.arb R.SR_CTRL_LONG_H))

/-- The slope of the linear fit over the long window, per 2^16 s (R171). -/
def fitDrift (bs : List Bin) : Int :=
  let n : Int := ((bs.map Bin.count).sum : Nat)
  let t := (bs.map Bin.st).sum
  let f := (bs.map Bin.sf).sum
  let d := n * (bs.map Bin.st2).sum - t * t
  if d ≤ 0 then 0 else roundDiv ((n * (bs.map Bin.stf).sum - t * f) * 65536) d.toNat

/-- One second of locked history (R171, R172); `inAcc` where the selected reference's gate lay inside accept. -/
def State.record (s : State) (inAcc : Bool) : State :=
  let sv := s.servo
  let t := s.now / secTicks
  let f := sv.fcw
  let short := (sv.hist.short ++ [f]).drop ((sv.hist.short.length + 1) - 80)
  let add (b : Bin) : Bin :=
    { count := b.count + 1, st := b.st + t, sf := b.sf + f, st2 := b.st2 + t * t, stf := b.stf + t * f }
  let bins := match sv.hist.bins.getLast? with
    | none => [add {}]
    | some b => if (b.st / max b.count 1).toNat / 3600 = t / 3600 then sv.hist.bins.dropLast ++ [add b]
        else (sv.hist.bins ++ [add {}]).drop ((sv.hist.bins.length + 1) - 48)
  let win := short.drop (short.length - 64)
  let h : SrHist := { sv.hist with short := short, shortAt := s.now, bins := bins, secs := sv.hist.secs + 1 }
  let h := if inAcc then { h with accMean := meanOf win, accTc := s.now - 32 * secTicks } else h
  let s := s.setServo { sv with hist := h }
  let s := if s.arb R.SR_CTRL_HIST_MIN_S ≤ h.secs then s.arbPut R.SR_STAT_HIST_VALID 1 else s
  let s := s.putB locArb R.SR_STAT_DRIFT_VALID (decide (3600 ≤ (s.longBins.map Bin.count).sum))
  s.arbPut R.SR_STAT_LOCKED_MIN (satNat ((bins.map Bin.count).sum / 60) 16)

/-- The short window at present: the values recorded up to GUARD_S ago, at most 64, and the tick at which they end; the
recording may itself have stopped before (R171; log entry 62). -/
def State.shortWindow (s : State) : List Int × Nat :=
  let h := s.servo.hist
  let g := s.arb R.SR_CTRL_GUARD_S - (s.now - h.shortAt) / secTicks
  let old := h.short.take (h.short.length - g)
  (old.drop (old.length - 64), h.shortAt - g * secTicks)

/-- The Steady Rest model's terms (R171); `byGate` for an entry caused by a frequency failure or a forecast. -/
def State.restModel (s : State) (byGate : Bool) : State :=
  let sv := s.servo
  let (win, till) := s.shortWindow
  let drift := if s.flag locArb R.SR_STAT_DRIFT_VALID then fitDrift s.longBins else 0
  s.setServo { sv with
    fShort := if byGate then sv.hist.accMean else meanOf win
    tc := if byGate then sv.hist.accTc else till - win.length * secTicks / 2
    drift := drift }

/-- FCW of the Steady Rest model at present (R171). -/
def State.restFcw (s : State) : Int :=
  s.servo.fShort + roundDiv (s.servo.drift * ((s.now : Int) - s.servo.tc)) (65536 * secTicks)

/-- The free-run FCW (R168, R172). -/
def State.nomFcw (s : State) : Int := sx (s.pair locArb R.SR_FCW_NOM_LO_FCW R.SR_FCW_NOM_HI_FCW) 48

/-- No reference is selectable: Steady Rest with valid history, else free run (R168, R172). -/
def State.toRest (s : State) (byGate : Bool) : State :=
  let s := (s.arbPut R.REF_SEL_NONE 1).arbPut R.REF_SEL_SETTLING 0
  let s := s.setServo { s.servo with due := none, pendEpoch := none, epochBySlew := false,
                                     hist := { s.servo.hist with secs := 0 } }
  if s.servoState = 0 ∨ s.servoState = 4 then s
  else if s.flag locArb R.SR_STAT_HIST_VALID then
    ((s.restModel byGate).arbPut R.SR_DURATION_SECONDS 0).toServo 4
  else (s.setServo { s.servo with fcw := s.nomFcw }).toServo 0

/-! ### Selection (R159 to R167) -/

/-- A reference-change event (R167). -/
def State.refEvent (s : State) (prev cause : Nat) (warn : Bool) : State :=
  s.event' 3 ((s.selected.getD 0) + b2n s.selected.isNone * 8 + s.servoState * 16 + prev * 256 + cause * 4096
    + b2n warn * 32768) s.txNow

/-- A slot fails with a cause (R158): it leaves QUALIFIED or REFUSED with the cause recorded, its acceptance lapses and
its step not yet committed is cancelled (R163, R165). -/
def State.failSlot (s : State) (i cause : Nat) : State :=
  let st := s.refState i
  let x := s.ref i
  if st < 2 then s
  else
    let s := (s.setRef i { x with qual := 0, accept := false, shut := false,
                                  left := x.left || decide (3 ≤ st) }).setRefState i 1
    let s := if 3 ≤ st then s.arbPut (R.REF_STAT_CAUSE i) cause else s
    if s.servo.due.any (fun d => d.1 == i) then s.setServo { s.servo with due := none } else s

/-- Whether a Delta of a slot is refused (R163, R164). -/
def State.tooFar (s : State) (i : Nat) (delta : Int) : Bool :=
  decide (((s.arb R.REF_SANITY_SANITY * 65536 : Nat) : Int) < delta.natAbs) &&
    !(s.flag locArb R.REF_CTRL_ACCEPT_LARGE || !s.flag locArb R.REF_SEL_TS_TRACED || (s.ref i).accept)

/-- A slot whose Delta is refused (R158, R164). -/
def State.refuseSlot (s : State) (i : Nat) (delta : Int) : State :=
  let s := s.setRef i { s.ref i with delta := delta, left := true, accept := false, shut := true }
  let s := (s.setRefState i 4).arbPut (R.REF_STAT_CAUSE i) 5
  if s.servo.due.any (fun d => d.1 == i) then s.setServo { s.servo with due := none } else s

/-- A Delta that is not refused: slewed out, or a step that falls due (R163); one that REF.ACCEPT_STEP covers is a step
whatever its size (R165). No slew changes during a swap (R201). -/
def State.passDelta (s : State) (i : Nat) (delta : Int) : State :=
  let acc := (s.ref i).accept
  let s := s.setRef i { s.ref i with delta := delta, accept := false }
  if delta.natAbs ≤ s.arb R.REF_PHASE_SLEW_THR * 65536 ∧ acc = false then
    if delta = 0 ∨ s.hst.swap.isSome then s
    else
      let s := s.slewBy delta (s.arb R.REF_PHASE_SLEW_RATE)
      s.setServo { s.servo with epochBySlew := s.servo.pendEpoch.isSome }
  else s.setServo { s.servo with due := some (i, delta) }

/-- A slot becomes the selected reference and opens its settle window (R143, R160, R163, R168). -/
def State.choose (s : State) (i : Nat) : State :=
  let st := if s.servoState = 0 ∨ s.servoState = 4 then 1 else 5
  let s := ((s.arbPut R.REF_SEL_SELECTED i).arbPut R.REF_SEL_NONE 0).arbPut R.REF_SEL_SETTLING 1
  let pend := if s.refKind i = 6 then some (s.relka (s.refPort i).1 (s.refPort i).2).epoch else none
  let s := s.setServo { s.servo with
    settleEnd := s.now + secTicks, settled := false, due := none, lockAt := s.now, pendEpoch := pend,
    epochBySlew := false }
  let s := (s.setRef i { s.ref i with shut := false }).toServo st
  if freqKind (s.refKind i) then s else s.passDelta i (s.ref i).toff

/-- A slot that automatic selection may take (R157, R159). -/
def State.free (s : State) (i : Nat) : Bool := s.refState i == 3 && !s.flag locArb (R.REF_STAT_FORECAST i)

/-- The slot of lowest PRIO, then lowest number, among those that pass a test (R159). -/
def State.bestRef (s : State) (ok : Nat → Bool) : Option Nat :=
  ((List.range 8).filter ok).foldl (fun b i => match b with
    | none => some i
    | some j => if s.refPrio i < s.refPrio j then some i else some j) none

/-- The slot that selection asks for now; a forced one is used whatever its state, unless its activity has failed or its
Delta was refused (R157, R159 to R161, R164; log entry 26). -/
def State.target (s : State) : Option Nat :=
  let slot := s.arb R.REF_SEL_SELECTED
  match s.arb R.REF_SEL_MODE with
  | 3 => none
  | 2 => if (s.ref slot).dead || s.refState slot == 0 || (s.ref slot).shut then none else some slot
  | m =>
    match s.selected with
    | none => s.bestRef s.free
    | some i =>
      if s.refState i = 3 then
        if m = 1 ∨ s.flag locArb R.REF_SEL_SETTLING then some i
        else if s.flag locArb (R.REF_STAT_FORECAST i) then some ((s.bestRef s.free).getD i)
        else if s.flag locArb R.REF_CTRL_REVERTIVE then
          some ((s.bestRef (fun j => s.free j && decide (s.refPrio j < s.refPrio i)
            && s.arb (R.REF_STAT_WTR_LEFT j) == 0)).getD i)
        else some i
      else (s.bestRef s.free).or (s.bestRef (fun j => s.refState j == 3))

/-- Makes the selection that is due (R159, R164); `why` is the cause that the event reports, and `must` says that an
event is due although the selection stays. A candidate whose Delta is refused brings an event of its own, with that slot in
the place of the previous one. Nothing is decided in TAKEOVER and HOLD, whose end the event awaits (log entry 26). -/
def State.decideN : Nat → Nat → Nat → Bool → State → State
  | 0, _, _, _, s => s
  | k + 1, prev, why, must, s =>
    if 6 ≤ s.servoState then (if must then s.setServo { s.servo with owed := some (prev, why) } else s)
    else
      let s := if s.arb R.REF_SEL_MODE = 1 ∧ s.refState (s.arb R.REF_SEL_SELECTED) ≠ 3 then
        s.arbPut R.REF_SEL_MODE 0 else s
      let t := s.target
      if t = s.selected then (if must then s.refEvent prev why false else s)
      else
        match t with
        | none => (s.toRest (why == 2 || (why == 0 && s.flag locArb (R.REF_STAT_FORECAST prev)))).refEvent prev why false
        | some j =>
          if !freqKind (s.refKind j) && s.tooFar j (s.ref j).toff then
            State.decideN k prev why must ((s.refuseSlot j (s.ref j).toff).refEvent j 5 false)
          else (s.choose j).refEvent prev why false

/-- Makes the selection that is due, with the event that waited for the end of TAKEOVER or HOLD. -/
def State.reselect (s : State) (must : Bool := false) : State :=
  let cur := s.arb R.REF_SEL_SELECTED
  let why := if s.selected.isSome ∧ s.refState cur ≠ 3 then s.arb (R.REF_STAT_CAUSE cur) else 0
  match s.servo.owed with
  | some (prev, cause) => (s.setServo { s.servo with owed := none }).decideN 10 prev cause true
  | none => s.decideN 10 cur why must

/-- The Delta of the selected reference after a jump (R163, R164). -/
def State.jump (s : State) (i : Nat) (delta : Int) : State :=
  if s.tooFar i delta then (s.refuseSlot i delta).reselect true else s.passDelta i delta

/-- Adopts the pending system epoch (R143). -/
def State.adoptEpoch (s : State) : State :=
  match s.servo.pendEpoch with
  | none => s
  | some e => (s.arbPut R.RLK_SYS_SYS_EPOCH e).setServo { s.servo with pendEpoch := none, epochBySlew := false }

/-! ### Activity (R153) -/

/-- A port kind (R151). -/
def portKind (k : Nat) : Bool := k == 4 || k == 5 || k == 6

/-- An activity failure at the instant its condition arises (R153); in TAKEOVER it is declared at the first word
(R198). -/
def State.activityFail (s : State) (i : Nat) : State :=
  if 8 ≤ i ∨ s.refState i = 0 then s
  else
    let s := s.setRef i { s.ref i with dead := true }
    if s.servoState = 6 then s
    else
      let must := s.selected == some i && s.refState i == 3
      (s.failSlot i 1).reselect must

/-- The nominated slots whose source is a port, of kinds that pass a test (R151). -/
def State.portSlots (s : State) (d p : Nat) (ok : Nat → Bool) : List Nat :=
  (List.range 8).filter (fun i => ok (s.refKind i) && s.refPort i == (d, p))

/-- The activity condition of a source that lies on a port arises there (R153). -/
def State.sourceLost (s : State) (d p : Nat) (ok : Nat → Bool) : State :=
  (s.portSlots d p ok).foldl State.activityFail s

end Sys2Proof.Machine
end

