-- ==== Sys2Proof/Machine/LedgerOps.lean ====
section
/-! DEFINITION. Token arithmetic of the heat ledger (R345 to R356, R362, R408). -/

namespace Sys2Proof.Machine

/-- The cluster number 4d + 2r + c (R362). -/
def cluNo (d clu : Nat) : Nat := 4 * d + clu
/-- The region number of a cluster number (R362). -/
def regOf (j : Nat) : Nat := j / 2

/-- A field of the ledger. -/
def State.led (s : State) (f : Fld) : Nat := s.fld locLed f
/-- Stores a field of the ledger. -/
def State.ledPut (s : State) (f : Fld) (v : Nat) : State := s.put locLed f v

/-- The derating factor of a step in per cent (R351). -/
def derate (step : Nat) : Nat :=
  match step with
  | 0 => 100 | 1 => 90 | 2 => 80 | 3 => 65 | 4 => 50 | 5 => 35 | _ => 25

/-- The threshold of step `k` above T_KNEE in 1/16 degree: 2.5 degrees apart (R351). -/
def stepAt (knee : Int) (k : Nat) : Int := knee + 40 * ((k : Int) - 1)

/-- Recomputes EFFECTIVE and OVER of a region and its clusters; a change writes a LEDGER event (R351, R352, R408). -/
def State.regSync (s : State) (i : Nat) (stepped : Bool := false) : State :=
  let f := derate (s.led (R.POW_REG_STEP i))
  let eff (b : Nat) : Nat := b * f / 100
  let s1 := s.ledPut (R.POW_REG_EFFECTIVE i) (eff (s.led (R.POW_REG_BUDGET i)))
  let s1 := s1.ledPut (R.POW_CLU_EFFECTIVE (2 * i)) (eff (s.led (R.POW_CLU_BUDGET (2 * i))))
  let s1 := s1.ledPut (R.POW_CLU_EFFECTIVE (2 * i + 1)) (eff (s.led (R.POW_CLU_BUDGET (2 * i + 1))))
  let rOver := decide (s1.led (R.POW_REG_EFFECTIVE i) < s1.led (R.POW_REG_USED i))
  let cOver (j : Nat) : Bool := decide (s1.led (R.POW_CLU_EFFECTIVE j) < s1.led (R.POW_CLU_USED j))
  let s2 := ((s1.ledPut (R.POW_REG_OVER i) (b2n rOver)).ledPut (R.POW_CLU_OVER (2 * i)) (b2n (cOver (2 * i)))).ledPut
    (R.POW_CLU_OVER (2 * i + 1)) (b2n (cOver (2 * i + 1)))
  let changed := stepped || s2.led (R.POW_REG_OVER i) != s.led (R.POW_REG_OVER i)
    || s2.led (R.POW_CLU_OVER (2 * i)) != s.led (R.POW_CLU_OVER (2 * i))
    || s2.led (R.POW_CLU_OVER (2 * i + 1)) != s.led (R.POW_CLU_OVER (2 * i + 1))
  if changed then
    s2.event' 6 (s2.led (R.POW_REG_STEP i) + b2n rOver * 8 + b2n (cOver (2 * i)) * 16 + b2n (cOver (2 * i + 1)) * 32
      + i * 64) s2.txNow
  else s2

/-- FREE follows invariant 4: free + granted + reserved = pool (R40). -/
def State.freeSync (s : State) : State :=
  s.ledPut R.POW_TOKENS_FREE
    (s.led R.POW_POOL_POOL - s.led R.POW_TOKENS_GRANTED - s.led R.POW_RESV_RESERVED)

/-- USED of the enclosing instances of a unit moves by a number of tokens (R348). -/
def State.useBy (s : State) (d : Nat) (clu : Option Nat) (n : Int) : State :=
  let s := s.ledPut (R.POW_DIE_USED d) ((s.led (R.POW_DIE_USED d) : Int) + n).toNat
  match clu with
  | none => s
  | some c =>
    let j := cluNo d c
    let s := s.ledPut (R.POW_REG_USED (regOf j)) ((s.led (R.POW_REG_USED (regOf j)) : Int) + n).toNat
    (s.ledPut (R.POW_CLU_USED j) ((s.led (R.POW_CLU_USED j) : Int) + n).toNat).regSync (regOf j)

/-- Tokens move from free to granted, or back when `n` is negative, across all enclosing instances at once (R349). -/
def State.charge (s : State) (d : Nat) (clu : Option Nat) (n : Int) : State :=
  if n = 0 then s
  else
    ((s.ledPut R.POW_TOKENS_GRANTED ((s.led R.POW_TOKENS_GRANTED : Int) + n).toNat).useBy d clu n).freeSync

/-- Tokens reserved to a cluster, or released when `n` is negative (R356). -/
def State.reserveBy (s : State) (d clu : Nat) (n : Int) : State :=
  ((s.ledPut R.POW_RESV_RESERVED ((s.led R.POW_RESV_RESERVED : Int) + n).toNat).useBy d (some clu) n).freeSync

/-- The instances that refuse a grant: (level, index), level 1 cluster to 4 package, lowest first; `extra` is
drawn from the die (R349, R352). -/
def State.refusals (s : State) (d : Nat) (clu : Option Nat) (n : Nat) (extra : Nat := 0) : List (Nat × Nat) :=
  let c := match clu with
    | none => []
    | some c =>
      let j := cluNo d c
      (if s.led (R.POW_CLU_USED j) + n ≤ s.led (R.POW_CLU_EFFECTIVE j) then [] else [(1, j)]) ++
      (if s.led (R.POW_REG_USED (regOf j)) + n ≤ s.led (R.POW_REG_EFFECTIVE (regOf j)) then [] else [(2, regOf j)])
  c ++ (if s.led (R.POW_DIE_USED d) + n + extra ≤ s.led (R.POW_DIE_BUDGET d) then [] else [(3, d)]) ++
    (if s.led R.POW_TOKENS_GRANTED + s.led R.POW_RESV_RESERVED + n + extra ≤ s.led R.POW_POOL_POOL then [] else [(4, 0)])

/-- The instances that enclose a unit. -/
def enclosing (d : Nat) (clu : Option Nat) : List (Nat × Nat) :=
  (match clu with
    | none => []
    | some c => [(1, cluNo d c), (2, regOf (cluNo d c))]) ++ [(3, d), (4, 0)]

/-- Whether a cluster holds a reservation (R356). -/
def State.hasResv (s : State) (d clu : Nat) : Bool := s.ledger.resv.contains (cluNo d clu)

/-- The power state of a port unit (R346). -/
def State.unitPow (s : State) (d u : Nat) : Nat := s.fld (unitLoc d u 16) R.PU_POW_STATE

/-- Tokens of a port unit's state (R345). -/
def unitTokens (u st : Nat) : Nat :=
  match st with
  | 0 => 0
  | 1 => if u = 16 then 16 else 64
  | _ => if u = 16 then 20 else 80

/-- The cluster a port unit draws from; the service unit draws from its die (R346). -/
def unitClu (u : Nat) : Option Nat := if u = 16 then none else some (u / 4)

/-- Whether a cluster's pipeline is awake on its reservation (R356). -/
def State.onReserve (s : State) (d clu : Nat) : Bool := s.flag (cluLoc d clu 20 0) R.PWR_CTRL_ON_RESERVE

/-- Whether the pipeline that decides a unit's LINK or TRAFFIC state is awake (R346). -/
def State.unitAwake (s : State) (d u : Nat) : Bool :=
  if u = 16 then (List.range 8).any (fun k => s.pstate d (64 + k) != 0 && s.awake d (k / 2)) else s.awake d (u / 4)

/-- Tokens a port unit has drawn in a state: on a reserved wake the step from LINK to TRAFFIC is covered (R356). -/
def State.unitDraw (s : State) (d u st : Nat) : Nat :=
  if u < 16 ∧ s.onReserve d (u / 4) then unitTokens u (min st 1) else unitTokens u st

/-- Whether a unit has an enabled port, or a generator or checker on its lanes (R346). -/
def State.unitBusy (s : State) (d u : Nat) : Bool :=
  (s.unitPorts d u).any (fun p => s.pstate d p != 0) ||
    (List.range (if u = 16 then 8 else 4)).any (fun l =>
      s.flag (laneLoc d u l) R.PRBS_STAT_GEN_ON || s.flag (laneLoc d u l) R.PRBS_STAT_CHK_ON)

/-- A unit takes a power state, its charge already made. -/
def State.setUnitPow (s : State) (d u st : Nat) : State := s.put (unitLoc d u 16) R.PU_POW_STATE st

/-- A unit whose last port is DISABLED and whose lanes run no pattern goes OFF and releases its tokens (R346, R350). -/
def State.unitRest (s : State) (d u : Nat) : State :=
  let st := s.unitPow d u
  if st ≠ 0 ∧ !s.unitBusy d u then
    (s.setUnitPow d u 0).charge d (unitClu u) (-(s.unitDraw d u st : Int))
  else s

/-- Tokens of the service unit's step to TRAFFIC that a pipeline's wake draws with it (R346). -/
def State.svcStep (s : State) (d clu : Nat) : Nat :=
  if s.unitPow d 16 = 1 ∧ (List.range 2).any (fun k => s.pstate d (64 + 2 * clu + k) != 0) then 4 else 0

/-- The key under which a wake or a sleep of a pipeline, or of a slice alone, is kept. -/
def gateKey (d clu : Nat) (slice : Bool) : Nat := cluNo d clu + if slice then 16 else 0

/-- Whether a pipeline's wake is under way. -/
def State.pipeWaking (s : State) (d clu : Nat) : Bool := (Tab.get? s.ledger.waking (gateKey d clu false)).isSome

/-- Whether a slice's wake is under way, alone or with its pipeline (R33, R358). -/
def State.sliceWaking (s : State) (d clu : Nat) : Bool := (Tab.get? s.ledger.waking (gateKey d clu true)).isSome

/-- Tokens of that step that this wake draws: none where another pipeline on its way to wake has drawn it (R346). -/
def State.svcDraw (s : State) (d clu : Nat) : Nat :=
  if (List.range 4).any (fun k => s.pipeWaking d k && s.svcStep d k != 0) then 0 else s.svcStep d clu

/-- Tokens of a slice's wake (R345, R358). -/
def State.sliceCost (s : State) (d clu : Nat) : Nat := if s.sliceAwake d clu || s.sliceWaking d clu then 0 else 100

/-- Tokens of a cluster's pipeline wake: the pipeline, its slice, the step of its LINK units (R345, R347). -/
def State.wakeCost (s : State) (d clu : Nat) : Nat :=
  (if s.awake d clu || s.pipeWaking d clu then 0
    else 200 + 16 * ((List.range 4).filter (fun k => s.unitPow d (4 * clu + k) == 1)).length) + s.sliceCost d clu

/-- A port unit leaves OFF for LINK, or for TRAFFIC where its pipeline is awake (R346): the tokens it needs. -/
def State.unitNeed (s : State) (d u : Nat) : Nat :=
  if s.unitPow d u ≠ 0 then 0 else s.unitDraw d u (if s.unitAwake d u then 2 else 1)

/-- The tokens that a request needs now (R345, R346, R347, R356). -/
def State.reqCost (s : State) (r : WakeReq) : Nat :=
  match r.unit with
  | some u => s.unitNeed r.die u
  | none => if r.resv then (if s.hasResv r.die r.clu then 0 else 364) else if s.hasResv r.die r.clu then 0 else if r.slice then s.sliceCost r.die r.clu else s.wakeCost r.die r.clu

/-- The tokens that it needs of its die besides: the service unit's step (R346). -/
def State.reqExtra (s : State) (r : WakeReq) : Nat :=
  if r.unit.isSome || r.resv || r.slice || s.awake r.die r.clu || s.pipeWaking r.die r.clu then 0 else s.svcDraw r.die r.clu

/-- The cluster a request draws from. -/
def WakeReq.cluOf (r : WakeReq) : Option Nat :=
  match r.unit with
  | some u => unitClu u
  | none => some r.clu

/-- The requests that wait ahead of one: of higher priority, or of the same and earlier (R353). The requests of one
instruction are granted together (R64), so none of them is ahead of another. -/
def State.ahead (s : State) (r : WakeReq) : List WakeReq :=
  s.ledger.reqs.filter (fun q => decide (q.prio < r.prio)) ++
    (s.ledger.reqs.takeWhile (fun q => decide (q ≠ r) && !(r.num.isSome && q.num == r.num))).filter
      (fun q => q.prio == r.prio)

/-- The requests of an instruction are withdrawn. -/
def State.dropReqs (s : State) (n : Nat) : State :=
  s.setLedger { s.ledger with reqs := s.ledger.reqs.filter (fun r => r.num != some n) }

/-- What refuses a request: its own budgets, and a request ahead of it that waits at a shared instance (R349, R353). -/
def State.refuse (s : State) (r : WakeReq) (ahead : List WakeReq) : List (Nat × Nat) :=
  let own := if s.reqCost r = 0 then [] else s.refusals r.die r.cluOf (s.reqCost r) (s.reqExtra r)
  let held := (ahead.map (fun q => s.refusals q.die q.cluOf (s.reqCost q) (s.reqExtra q))).flatten
  own ++ (enclosing r.die r.cluOf).filter (fun x => decide (s.reqCost r ≠ 0) && held.contains x)

/-- DENIED_BUDGET with the lowest level that refused (R403); POW_CNT.DENIED counts it. -/
def deniedC (rs : List (Nat × Nat)) (expired : Bool) : Compl :=
  { status := stDenied, detail := (rs.foldl (fun m x => min m x.1) 4) + b2n expired * 128 }

/-- Ticks of the pipeline's wake, 250 ns, and of a slice's wake, 200 ns, alone or with its pipeline (R33, R358). -/
def wakeTicks (slice : Bool) : Nat := nsTicks (if slice then 200 else 250)

/-- Grants a cluster's wake (R349, R353, R356): the tokens move, and the wake runs until it is ready. A slice that sleeps
wakes in parallel with its pipeline and is ready before it (R33). -/
def State.grantWake (s : State) (d clu : Nat) (slice : Bool) (num : Option Nat) : State :=
  let resv := s.hasResv d clu
  let n := if slice then s.sliceCost d clu else s.wakeCost d clu
  let cover := resv && s.sliceCost d clu != 0
  let s := if resv then s else s.charge d (some clu) n
  let s := if slice then s else s.charge d none (s.svcDraw d clu)
  let both := !slice && !s.sliceAwake d clu && !s.sliceWaking d clu
  let wakes := if both then
      Tab.set s.ledger.waking (gateKey d clu true) { ready := s.now + wakeTicks true, resv := resv } else s.ledger.waking
  s.setLedger { s.ledger with
    waking := Tab.set wakes (gateKey d clu slice)
      { ready := s.now + wakeTicks slice, num := num, got := if resv then 0 else n, resv := resv },
    sliceResv := if cover then cluNo d clu :: s.ledger.sliceResv else s.ledger.sliceResv }

/-- Whether a pipeline or a slice is awake, or on its way. -/
def State.upOrWaking (s : State) (d clu : Nat) (slice : Bool) : Bool :=
  if slice then s.sliceAwake d clu || s.sliceWaking d clu else s.awake d clu || s.pipeWaking d clu

/-- A demand wake (R33, R353 to R356): on a reservation it is granted at once; otherwise it waits for its grant, and
WAKE_WAITS counts one that is not granted at once. A request that already waits only rises in priority (R354). -/
def State.demandWake (s : State) (d clu prio : Nat) (slice : Bool := false) : State :=
  if s.upOrWaking d clu slice then s
  else if s.hasResv d clu then s.grantWake d clu slice none
  else
    let mine (r : WakeReq) : Bool := r.die == d && r.clu == clu && r.num.isNone && r.unit.isNone
    if s.ledger.reqs.any mine then
      s.setLedger { s.ledger with reqs := s.ledger.reqs.map (fun r =>
        if mine r then { r with prio := min r.prio prio, slice := r.slice && slice } else r) }
    else
      let r : WakeReq := { die := d, clu := clu, prio := prio, tick := s.now, num := none, slice := slice }
      let s := if s.refuse r (s.ahead r) = [] then s else s.bump locLed R.POW_CNT_WAKE_WAITS
      s.setLedger { s.ledger with reqs := s.ledger.reqs ++ [r] }

/-- A wake has completed: the slice is awake, or the pipeline, with the cluster's LINK units in TRAFFIC (R33, R346,
R358). -/
def State.wakeReady (s : State) (d clu : Nat) (slice : Bool) (w : Waking) : State :=
  let s := if slice then s.putB (cluLoc d clu 21 0) R.BUF_SLICE_AWAKE true else
    let first := !s.awake d clu
    let s := (List.range 4).foldl (fun s k =>
      if s.unitPow d (4 * clu + k) = 1 then s.setUnitPow d (4 * clu + k) 2 else s) s
    let s := if s.svcStep d clu = 0 then s else s.setUnitPow d 16 2
    let s := s.putB (cluLoc d clu 20 0) R.FWD_STAT_AWAKE true
    let s := if first then s.bump (cluLoc d clu 20 0) R.FWD_STAT_WAKES else s
    if w.resv && first then s.putB (cluLoc d clu 20 0) R.PWR_CTRL_ON_RESERVE true else s
  s.setLedger { s.ledger with
    waking := Tab.del s.ledger.waking (gateKey d clu slice),
    lastP1 := if slice then s.ledger.lastP1 else Tab.set s.ledger.lastP1 (cluNo d clu) s.now }

/-- A pipeline's gate has closed: its units fall to LINK and the tokens are released; the number released (R350, R360). -/
def State.pipeSleep (s : State) (d clu : Nat) : State × Nat :=
  let onR := s.onReserve d clu
  let units := (List.range 4).filter (fun k => s.unitPow d (4 * clu + k) == 2)
  let n : Nat := if onR then 0 else 200 + 16 * units.length
  let s := units.foldl (fun s k => s.setUnitPow d (4 * clu + k) 1) s
  let s := s.putB (cluLoc d clu 20 0) R.FWD_STAT_AWAKE false
  let s := s.putB (cluLoc d clu 20 0) R.PWR_CTRL_ON_RESERVE false
  let s := s.charge d (some clu) (-(n : Int))
  if s.unitPow d 16 = 2 ∧ !s.unitAwake d 16 then ((s.setUnitPow d 16 1).charge d none (-4), n) else (s, n)

/-- A slice's gate has closed; the tokens released (R358). -/
def State.sliceSleep (s : State) (d clu : Nat) : State × Nat :=
  let j := cluNo d clu
  let cov := s.ledger.sliceResv.contains j
  let s := s.putB (cluLoc d clu 21 0) R.BUF_SLICE_AWAKE false
  let s := s.setLedger { s.ledger with sliceResv := s.ledger.sliceResv.filter (· != j) }
  let n : Nat := if cov then 0 else 100
  (s.charge d (some clu) (-(n : Int)), n)

/-- Takes a reservation of 364 tokens for a cluster (R356). -/
def State.takeResv (s : State) (d clu : Nat) : State :=
  let s := s.reserveBy d clu 364
  (s.setLedger { s.ledger with resv := cluNo d clu :: s.ledger.resv }).putB (cluLoc d clu 20 0)
    R.PWR_CTRL_RESERVED_HELD true

/-- Releases a cluster's reservation; what is awake on it becomes an ordinary charge (R356). -/
def State.dropResv (s : State) (d clu : Nat) : State :=
  let j := cluNo d clu
  let onR := s.onReserve d clu
  let n := (if onR then 200 + 16 * ((List.range 4).filter (fun k => s.unitPow d (4 * clu + k) == 2)).length else 0)
    + (if s.ledger.sliceResv.contains j then 100 else 0)
  let s := s.reserveBy d clu (-364)
  let s := s.setLedger { s.ledger with resv := s.ledger.resv.filter (· != j),
                                       sliceResv := s.ledger.sliceResv.filter (· != j) }
  let s := s.putB (cluLoc d clu 20 0) R.PWR_CTRL_RESERVED_HELD false
  let s := s.putB (cluLoc d clu 20 0) R.PWR_CTRL_ON_RESERVE false
  s.charge d (some clu) n

/-- The unit leaves OFF, its tokens granted (R346). -/
def State.unitOn (s : State) (d u : Nat) : State :=
  if s.unitPow d u ≠ 0 then s
  else (s.charge d (unitClu u) (s.unitNeed d u)).setUnitPow d u (if s.unitAwake d u then 2 else 1)

end Sys2Proof.Machine
end

