-- ==== Sys2Proof/Machine/PortOps.lean ====
section
/-! DEFINITION. Cells, reservations, credits and the passage of a port in and out of UP (R242, R288 to R303, R310). -/

namespace Sys2Proof.Machine

/-- The class block of a die (R286). -/
def clsLoc (d : Nat) : Nat := mkLoc d 0 0 20 1
/-- The buffer block of a die (R316). -/
def bufLoc (d : Nat) : Nat := mkLoc d 0 0 21 1
/-- Cells of a die (R288). -/
def dieCells : Nat := 262144
/-- Cells of a slice (R288). -/
def sliceCells : Nat := 65536

/-- Cells that a frame of `l` bytes occupies (R288). -/
def cellsOf (l : Nat) : Nat := ceilDiv l 256

/-! ### Headroom and reservations (R289 to R291, R295) -/

/-- The headroom of a port in cells: rate in Mb/s, span in m, MAX_FRAME in bytes (R291). -/
def headroomCells (rate span mf : Nat) : Nat :=
  ceilDiv (rate * (98 * span + 12000) + 160000 * mf) 20480000

/-- A port's MAX_FRAME (R256). -/
def State.maxFrame (s : State) (d p : Nat) : Nat := s.pfld d p R.PORT_LINK_CFG_MAX_FRAME
/-- Whether a port has LOSSLESS_EN (R306). -/
def State.losslessEn (s : State) (d p : Nat) : Bool := s.pflag d p R.QUE_PORT_CFG_LOSSLESS_EN
/-- Whether a port runs credit flow control, that is faces a Relka partner (R34, R295). -/
def State.creditOn (s : State) (d p : Nat) : Bool := s.pflag d p R.QUE_PORT_CFG_CREDIT

/-- H_p: 0 without LOSSLESS_EN or on an absent port (R233, R291, R315). -/
def State.hp (s : State) (d p : Nat) : Nat :=
  if s.present d p && s.losslessEn d p then headroomCells (s.rate d p) (s.port d p).span (s.maxFrame d p) else 0

/-- The window W_c of each credited class (R295). -/
def State.window (s : State) (d p : Nat) : Nat :=
  if s.creditOn d p then s.hp d p / max (s.lossless d).length 1 else 0

/-- Queues per class of a main port: Q / 16 (R304). -/
def State.perClass (s : State) (d p : Nat) : Nat :=
  match s.unitMode d (p / 4) with
  | 1 => 4
  | 2 => 2
  | _ => 1

/-- The class whose settings a class uses: the odd one of its pair on a service port (R304). -/
def cfgClass (p c : Nat) : Nat := if 64 ≤ p then 2 * (c / 2) + 1 else c

/-- MIN_CELLS of a class (R306). -/
def State.minCells (s : State) (d p c : Nat) : Nat := s.pfld d p (R.QUE_CLASS_CFG_MIN_CELLS c)

/-- The queue minimums of a port (R289, R304). -/
def State.portMins (s : State) (d p : Nat) : Nat :=
  if 64 ≤ p then ((List.range 8).map (fun q => s.minCells d p (2 * q + 1))).sum
  else s.perClass d p * ((List.range 16).map (s.minCells d p)).sum

/-- The remote landing part of a die (R289). -/
def State.remoteLanding (s : State) : Nat := 2048 * ((sDies s.part).length - 1)

/-- The reservations of a die (R289). -/
def State.reserved (s : State) (d : Nat) : Nat :=
  s.remoteLanding + ((s.diePorts d).map (fun p => s.portMins d p + s.hp d p)).sum

/-- Quarantined cells of a die (R312). -/
def State.quar (s : State) (d : Nat) : Nat := (s.die d).quarMap.length

/-- Whether the reservations stand above their limit (R290). -/
def State.overLimit (s : State) (d : Nat) : Bool :=
  decide (dieCells < s.reserved d + s.fld (bufLoc d) R.BUF_SHARED_MIN_CELLS + s.quar d)

/-- Whether a change from `s` to `t` is one that R290 refuses. -/
def State.raisesOver (s t : State) (d : Nat) : Bool := t.overLimit d && decide (s.reserved d < t.reserved d)

/-! ### Cells (R288, R294, R40) -/

/-- Cells in use on a die. -/
def State.cellsUsed (s : State) (d : Nat) : Nat := ((s.die d).cells.map CellGrp.cells).sum
/-- Free cells of a die: invariant 1 of R40. -/
def State.cellsFree (s : State) (d : Nat) : Nat := dieCells - s.cellsUsed d - s.quar d

/-- Cells in use in a slice (R316). -/
def State.sliceUsed (s : State) (d clu : Nat) : Nat :=
  (((s.die d).cells.map CellGrp.slices).flatten.map (fun x => if x.1 = clu then x.2 else 0)).sum

/-- Cells of queues' minimums that a frame's cells take (R292). -/
def State.ownOf (s : State) (d fid : Nat) : Nat :=
  ((s.diePorts d).map (fun p => ((s.port d p).queue.map (fun e => if e.fid = fid then e.own else 0)).sum)).sum

/-- Cells charged to the shared part (R289, R292, R302). -/
def State.sharedUsed (s : State) (d : Nat) : Nat :=
  ((s.die d).cells.map (fun g => g.cells - g.head - s.ownOf d g.fid)).sum

/-- The free shared cells of a die (R289). -/
def State.sharedFree (s : State) (d : Nat) : Nat := dieCells - s.reserved d - s.quar d - s.sharedUsed d

/-- Where `n` cells are found: the cluster's own slice first, then any other awake slice (R288); a contained slice admits
nothing (R22, R367). -/
def State.findCells (s : State) (d clu n : Nat) : Option (List (Nat × Nat)) :=
  let order := clu :: (List.range 4).filter (· != clu)
  let r := (order.filter (fun c => s.sliceAwake d c && !s.contained (cluLoc d c 21 0))).foldl (fun (acc : List (Nat × Nat) × Nat) c =>
    let k := min acc.2 (sliceCells - s.sliceUsed d c)
    if k = 0 then acc else (acc.1 ++ [(c, k)], acc.2 - k)) ([], n)
  if r.2 = 0 then some r.1 else none

/-- Stores a frame's cells (R288, R294). -/
def State.addCells (s : State) (d : Nat) (g : CellGrp) : State :=
  s.setDie d { s.die d with cells := (s.die d).cells ++ [g], nextFid := (s.die d).nextFid + 1 }

/-! ### Credits (R295 to R299) -/

/-- The credit counters of a class. -/
def State.credit (s : State) (d p c : Nat) : Credit := Tab.get {} (s.port d p).credit c
/-- Stores the credit counters of a class. -/
def State.setCredit (s : State) (d p c : Nat) (x : Credit) : State :=
  s.setPort d p { s.port d p with credit := Tab.set (s.port d p).credit c x }

/-- The credited classes of a port (R295). -/
def State.credited (s : State) (d p : Nat) : List Nat := if s.creditOn d p then s.lossless d else []

/-- The port's share of the sleep window in cells (R34, R255). -/
def State.sleepShare (s : State) (d p : Nat) : Nat :=
  match s.unitMode d (p / 4) with
  | 1 => 128
  | 2 => 64
  | _ => 32

/-- The window that the receiver lets stand open for a class: reduced while the cluster sleeps or is about to (R34,
R296); the reduced window is divided evenly among the credited classes (log entry 15). -/
def State.openWindow (s : State) (d p : Nat) : Nat :=
  if (s.port d p).reduced || (decide (p < 64) && !s.awake d (portClu p)) then min (s.window d p) (s.sleepShare d p / max (s.lossless d).length 1) else s.window d p

/-- 20-bit counters and their signed differences (R296). -/
def m20 (n : Nat) : Nat := n % 2 ^ 20
/-- The signed 20-bit difference a - b (R296). -/
def d20 (a b : Nat) : Int := sx (toBits ((a : Int) - b) 20) 20

/-- The class that a received frame counts in (R254): the ingress priority map's for its VLAN priority; 0 untagged. -/
def State.rxClass (s : State) (d p : Nat) (bytes : List Byte) : Nat :=
  let ty := beAt bytes 12 2
  if ty = 0x8100 ∨ ty = 0x88A8 then bits (s.port d p).priMap (4 * (beAt bytes 14 1 / 32)) 4 else 0

/-- Cells of a class in the port's landing share. -/
def State.landed (s : State) (d p c : Nat) : Nat :=
  ((s.port d p).landing.map (fun f => if s.rxClass d p f.bytes = c then cellsOf f.bytes.length else 0)).sum

/-- Stores a LIMIT granted; the first advance since the last CREDIT is noted (R297). -/
def State.putLimit (s : State) (d p c lim : Nat) : State :=
  let x := s.credit d p c
  s.setCredit d p c { x with limOut := lim, advAt := if x.limOut = x.lastTx then s.now else x.advAt }

/-- The receiver advances LIMIT to what the held cells and the window in force allow; it never moves back (R296,
R299). -/
def State.creditSync (s : State) (d p c : Nat) : State :=
  let x := s.credit d p c
  let room := min (s.window d p - x.held) (s.openWindow d p - s.landed d p c)
  let goal := m20 (x.recv + room)
  if 0 < d20 goal x.limOut then s.putLimit d p c goal else s

/-! ### Relka blocks and what waits for the end of a frame (R119 to R121, R302) -/

/-- Block `i` of a message of a KIND: its 64 bits before scrambling (R119). -/
def relkaBlock (kind msg i : Nat) : Nat :=
  0x4B + kind % 16 * 2 ^ 8 + i % 16 * 2 ^ 12 + bits msg (44 * i) 16 * 2 ^ 16 + 0xA * 2 ^ 32
    + bits msg (44 * i + 16) 28 * 2 ^ 36

/-- Blocks of a message of a KIND; 0 for a KIND that R120 does not name (R120, R297, R300). -/
def relkaLen (kind : Nat) : Nat :=
  match kind with
  | 1 => 4 | 2 => 6 | 3 => 9 | 4 => 2 | 5 => 1 | 6 => 1 | _ => 0

/-- The blocks of a message in INDEX order (R119, R121). -/
def relkaBlocks (kind msg : Nat) : List Nat := (List.range (relkaLen kind)).map (relkaBlock kind msg)

/-- The 44 message bits that a block carries (R119). -/
def blockData (b : Nat) : Nat := bits b 16 16 + bits b 36 28 * 2 ^ 16
/-- KIND and INDEX of a block (R119). -/
def blockKind (b : Nat) : Nat := bits b 8 4
def blockIndex (b : Nat) : Nat := bits b 12 4

/-- The message that blocks carry, the first one's bits lowest (R119). -/
def blocksMsg : List Nat → Nat
  | [] => 0
  | b :: bs => blockData b + 2 ^ 44 * blocksMsg bs

/-- Ticks of a number of quanta of 512 bit times at the port rate (R303). -/
def State.quantaTicks (s : State) (d p q : Nat) : Nat := ceilDiv (320000 * q) (max (s.rate d p) 1)

/-- One priority of a received PFC frame (R303). -/
def State.pfcOne (s : State) (d p i q : Nat) : State :=
  let x := s.port d p
  if q = 0 then (s.setPort d p { x with pause := Tab.del x.pause i }).pput d p ⟨0x818, 8 + i, 1⟩ 0
  else (s.setPort d p { x with pause := Tab.set x.pause i (s.now + s.quantaTicks d p q) }).pput d p ⟨0x818, 8 + i, 1⟩ 1

/-- A received PFC frame pauses or resumes the classes of the priorities it names (R303). -/
def State.pfcRx (s : State) (d p enable : Nat) (quanta : List Nat) : State :=
  (bitList enable 8).foldl (fun s i => s.pfcOne d p i (quanta.getD i 0)) (s.pbump d p R.PFC_STAT_PFC_RX)

/-- Whether a port is in a near loop: what its MAC sends comes back to it (R251). -/
def State.nearLoop (s : State) (d p : Nat) : Bool :=
  decide (1 ≤ s.pfld d p R.PORT_STAT_LOOP) && decide (s.pfld d p R.PORT_STAT_LOOP ≤ 3)

/-- What waited for the end of a frame leaves the port; in a near loop a PFC frame comes back to it (R251). -/
def State.emitCtl (s : State) (d p : Nat) (x : Ctl) : State :=
  match x with
  | .pfc prio quanta =>
    if s.nearLoop d p then s.pfcRx d p (2 ^ prio) ((List.range 8).map (fun i => if i = prio then quanta else 0))
    else s.send (.pfc d p prio quanta)
  | .relka kind blocks => s.send (.relka d p kind blocks)

/-- A PFC frame or the blocks of a message leave at once, or at the end of the frame in transmission (R121, R302). -/
def State.sendCtl (s : State) (d p : Nat) (x : Ctl) : State :=
  if (s.port d p).sending.isSome then s.setPort d p { s.port d p with ctl := (s.port d p).ctl ++ [x] }
  else s.emitCtl d p x

/-- Sends a message of a KIND (R119 to R121). While a loop depth is set no Relka block leaves (R252). -/
def State.sendRelka (s : State) (d p kind msg : Nat) : State :=
  if s.pfld d p R.PORT_STAT_LOOP = 0 then s.sendCtl d p (.relka kind (relkaBlocks kind msg)) else s

/-- The tick at which the frame in transmission ends (R305). -/
def State.txEnd (s : State) (d p : Nat) : Nat :=
  match (s.port d p).sending with
  | none => s.now
  | some e => (s.port d p).sendAt + ceilDiv (5000 * e.frame.bytes.length) (max (s.rate d p) 1)

/-- A CREDIT message (R297). -/
def creditMsg (cls : Nat) (init : Bool) (gen limit : Nat) : Nat :=
  let body := cls + b2n init * 16 + 1 * 32 + gen * 256 + m20 limit * 65536
  body + crc16 body 36 * 2 ^ 36

/-- Sends a CREDIT for a class (R297, R299); KIND 4 (R120). Without Relka no block leaves (R131), and none in a loop
(R252). -/
def State.sendCredit (s : State) (d p c : Nat) (init : Bool) : State :=
  let x := s.credit d p c
  if s.pflag d p R.RLK_CTRL_EN && s.pfld d p R.PORT_STAT_LOOP == 0 then
    (s.setCredit d p c { x with lastTx := x.limOut, txAt := s.now }).sendRelka d p 4
      (creditMsg c init (s.pfld d p R.CRD_STAT_GEN) x.limOut)
  else s

/-- Sends the INIT CREDITs on entry to UP (R299); with CREDIT 0, or no credited class, the handshake is complete at
once. -/
def State.sendInits (s : State) (d p : Nat) : State :=
  if s.credited d p != [] then
    (s.credited d p).foldl (fun s c =>
      let x := s.credit d p c
      let lim := min (s.window d p - x.held) (s.openWindow d p)
      (s.setCredit d p c { x with limOut := lim }).sendCredit d p c true) s
  else s.pput d p R.CRD_STAT_READY 1

/-- Voids the credits of a port that leaves UP (R298). -/
def State.voidCredits (s : State) (d p : Nat) : State :=
  let s := s.setPort d p { s.port d p with
    credit := (s.port d p).credit.map (fun x =>
      (x.1, { x.2 with sent := 0, limIn := 0, recv := 0, limOut := 0, lastTx := 0, init := false })) }
  (s.pput d p R.CRD_STAT_GEN (s.pfld d p R.CRD_STAT_GEN + 1)).pput d p R.CRD_STAT_READY 0

/-! ### Release of cells (R294, R296, R302, R312) -/

/-- A PFC frame leaves the port (R302). -/
def State.sendPfc (s : State) (d p prio quanta : Nat) : State :=
  let x := s.port d p
  let at_ := if quanta = 0 then Tab.del x.xoffAt prio else Tab.set x.xoffAt prio s.now
  (s.setPort d p { x with xoffAt := at_ }).sendCtl d p (.pfc prio quanta)

/-- Cells of a class from a port that are charged to its headroom (R302). -/
def State.classHead (s : State) (d p c : Nat) : Nat :=
  ((s.die d).cells.map (fun g => if g.port = portKey d p ∧ g.cls = c then g.head else 0)).sum

/-- The shared cells that a class from a PFC port may use: α of the free shared cells (R292, R302). -/
def State.pfcLimit (s : State) (d p c : Nat) : Nat :=
  2 ^ s.pfld d p (R.QUE_CLASS_CFG_ALPHA (cfgClass p c)) * s.sharedFree d / 64

/-- The PFC priority of a class (R302). -/
def State.pfcPrio (s : State) (d p c : Nat) : Nat := s.pfld d p (R.QUE_CLASS_CFG_PFC_PRIO (cfgClass p c))

/-- XON for each priority held paused whose lossless classes hold no headroom cells and stand 64 cells below their
limit (R302). -/
def State.xonTest (s : State) (d p : Nat) : State :=
  (bitList (s.pfld d p R.PFC_STAT_TX_XOFF) 8).foldl (fun s i =>
    let mine := (s.lossless d).filter (fun c => s.pfcPrio d p c == i)
    if mine.all (fun c => s.classHead d p c == 0 && decide (Tab.get 0 (s.port d p).shared c + 64 ≤ s.pfcLimit d p c)) then
      (s.pput d p ⟨0x818, i, 1⟩ 0).sendPfc d p i 0
    else s) s

/-- The cells of a frame leave their ingress accounting: credits advance, PFC charges fall (R296, R302). -/
def State.ingressRelease (s : State) (d : Nat) (g : CellGrp) : State :=
  let p := g.port % 128
  if g.port / 128 ≠ d ∨ 72 ≤ p then s
  else
    let x := s.port d p
    let shared := Tab.get 0 x.shared g.cls
    let s := s.setPort d p { x with
      headUsed := x.headUsed - g.head,
      shared := Tab.set x.shared g.cls (shared - (g.cells - g.head)) }
    let cr := s.credit d p g.cls
    if 0 < cr.held then (s.setCredit d p g.cls { cr with held := cr.held - g.cells }).creditSync d p g.cls
    else s.xonTest d p

/-- Decrements the refcount of a frame; at 0 its cells are freed, and a bad cell is quarantined (R294, R312). -/
def State.releaseRef (s : State) (d fid : Nat) : State :=
  match (s.die d).cells.find? (fun g => g.fid == fid) with
  | none => s
  | some g =>
    if 1 < g.refs then
      s.setDie d { s.die d with
        cells := (s.die d).cells.map (fun h => if h.fid = fid then { h with refs := h.refs - 1 } else h) }
    else
      let x := s.die d
      let s := s.setDie d { x with
        cells := x.cells.filter (fun h => h.fid != fid),
        quarMap := match g.bad with
          | some c => if x.quarMap.contains c then x.quarMap else c :: x.quarMap
          | none => x.quarMap }
      s.ingressRelease d g

/-! ### Flush and discard (R310, R311) -/

/-- Removes the queued frames of a port that satisfy a test; each is counted in a counter of its class (R310). -/
def State.dropQueued (s : State) (d p : Nat) (test : QEnt → Bool) (ctr : Nat → Fld) : State × Nat :=
  let out := (s.port d p).queue.filter test
  let s := s.setPort d p { s.port d p with queue := (s.port d p).queue.filter (fun e => !test e) }
  (out.foldl (fun s e => (s.releaseRef d e.fid).pbump d p (ctr e.cls)) s, out.length)

/-- Flushes every queued frame of a port, DIRECT frames with them (R310). -/
def State.flushPort (s : State) (d p : Nat) : State :=
  let host := (s.port d p).hostQ
  let s := (s.dropQueued d p (fun _ => true) R.QUE_DISCARD_FLUSHED).1
  let s := s.setPort d p { s.port d p with hostQ := [] }
  host.foldl (fun s h => (s.releaseRef d h.fid).pbump d p (R.QUE_DISCARD_FLUSHED h.cls)) s

/-- A flap hold ends (R310). -/
def State.endHold (s : State) (d p : Nat) : State :=
  (s.setPort d p { s.port d p with holdEnd := none }).pput d p R.QUE_STAT_IN_HOLD 0

/-! ### Link events and Relka states (R131, R242, R407) -/

/-- A LINK event (R407); TIME is the tick of the cause. -/
def State.linkEvent (s : State) (d p val src : Nat) : State :=
  s.event' 7 (p + d * 128 + val * 512 + src * 8192) (tx64 (s.nowU d))

/-- The Relka state of a port (R131). -/
def State.rlkState (s : State) (d p : Nat) : Nat := s.pfld d p R.RLK_STAT_STATE
def rlkOff : Nat := 0
def rlkAcquire : Nat := 1
def rlkLinked : Nat := 2
def rlkDegraded : Nat := 3
def rlkSounding : Nat := 4
def rlkFallback : Nat := 5

/-- A port dropped from the waits for MARK_ACKs (R145). -/
def State.dropMark (s : State) (d p : Nat) : State :=
  { s with plyn := { s.plyn with fences := s.plyn.fences.map (fun x =>
      (x.1, { x.2 with wait := x.2.wait.filter (fun w => w.2 != portKey d p) })) } }

/-- Whether Relka may run on a port (R116). -/
def State.rlkFit (s : State) (d p : Nat) : Bool :=
  s.hasFec d p && decide ((s.port d p).span ≤ 44000)

/-- Moves a Relka link to a state; every count of R131 starts at 0; one that leaves LINKED
and DEGRADED drops out of the waits for MARK_ACKs (R145), and one that is not LINKED is no reference (R153). -/
def State.rlkMove (s : State) (d p st : Nat) : State :=
  let x := s.relka d p
  let s := (s.setRelka d p { x with answered := 0, misses := 0, silent := 0 }).pput d p R.RLK_STAT_STATE st
  let s := if st = rlkLinked ∨ st = rlkDegraded then s else s.dropMark d p
  if st = rlkLinked then s else s.sourceLost d p (· == 6)

/-- The same, with a REASON (R131). -/
def State.rlkMoveR (s : State) (d p st reason : Nat) : State :=
  (s.rlkMove d p st).pput d p R.RLK_STAT_REASON reason

/-- The Relka side of a port that goes down (R131, R139, R145). A REQ that is outstanding stays so until its response is
missed (R126). -/
def State.rlkPortDown (s : State) (d p : Nat) : State :=
  let st := s.rlkState d p
  let s := s.setRelka d p { s.relka d p with due := [], marks := [] }
  let s := if st = rlkLinked ∨ st = rlkDegraded then s.rlkMove d p rlkAcquire else s
  s.dropMark d p

/-! ### Entering and leaving UP (R241, R242, R298, R299, R303, R310) -/

/-- The port state codes of R241. -/
def psDisabled : Nat := 0
def psSignal : Nat := 1
def psAutoneg : Nat := 2
def psTraining : Nat := 3
def psLocking : Nat := 4
def psMeasuring : Nat := 5
def psUp : Nat := 6
def psRemote : Nat := 7
def psTest : Nat := 8

/-- A port enters a state (R241); in AUTONEG it advertises its mode and the FEC that the mode requires, and nothing else
(R240). -/
def State.setPState (s : State) (d p st : Nat) : State :=
  let s := (s.setPort d p { s.port d p with enteredAt := s.now }).pput d p R.PORT_STAT_STATE st
  if st = psAutoneg then s.send (.autoneg d p (s.unitMode d (portUnit p)) (s.hasFec d p)) else s

/-- Whether the receive path of a port in UP or REMOTE_FAULT has lost its lock: a loss condition other than the high-error
condition runs (R243 to R245). -/
def State.rxUnlocked (s : State) (d p : Nat) : Bool := (s.port d p).lossAt.any (fun x => x.2 != 9)

/-- What the line transmitter of a port sends (R241, R245, R251). -/
inductive LineOut where
  | static | frames | idle | remoteFault | localFault | partner | pattern | autoneg | training
  deriving DecidableEq, Repr

/-- The line transmitter of a port: in a loop as R251 lists; Remote Fault ordered sets while the receive path is not
locked; idles only in REMOTE_FAULT; frames in UP; a static level while it does not drive (R241, R245, R248, R251). -/
def State.lineOut (s : State) (d p : Nat) : LineOut :=
  let loop := s.pfld d p R.PORT_STAT_LOOP
  let st := s.pstate d p
  if loop = 1 ∨ loop = 2 then .localFault
  else if loop = 3 then .static
  else if loop = 4 ∨ loop = 5 then .partner
  else if !s.pflag d p R.PORT_STAT_TX_ON then .static
  else if st = psAutoneg then .autoneg
  else if st = psTraining then .training
  else if st = psTest then .pattern
  else if st = psSignal ∨ st = psLocking ∨ s.rxUnlocked d p then .remoteFault
  else if st = psUp then .frames
  else .idle

/-- The frame in transmission ends, when its time has come: it has left on the line, or stands on the path of a near loop
(R251); what waited for its end follows (R121, R302); its cells are released (R294). -/
def State.endTx (s : State) (d p : Nat) : State :=
  match (s.port d p).sending with
  | none => s
  | some e =>
    let s := s.advanceTo (s.txEnd d p)
    let ctl := (s.port d p).ctl
    let near := s.pfld d p R.PORT_STAT_LOOP != 0
    let s := if near then
        s.updPort d p (fun x => { x with sending := none, ctl := [], looped := x.looped ++ [e.frame.bytes] })
      else (s.updPort d p (fun x => { x with sending := none, ctl := [] })).send (.frame d p e.frame.bytes)
    (ctl.foldl (fun s c => s.emitCtl d p c) s).releaseRef d e.fid

/-- What a port that leaves UP had received only in part is discarded (R254); pauses, waiting blocks and the wait for the
partner's acknowledgement end (R34, R303). -/
def State.dropPartial (s : State) (d p : Nat) : State :=
  let n := (s.port d p).looped.length + b2n (s.port d p).rxPart
  let s := if n = 0 then s else s.bumpBy (portLoc d p) R.RX_ERR_ERRORED n
  s.updPort d p (fun x => { x with
    pause := [], xoffAt := [], ctl := [], looped := [], rxPart := false, ackWait := none })

/-- A frame in transmission is lost with the link (R310). -/
def State.loseTx (s : State) (d p : Nat) : State :=
  match (s.port d p).sending with
  | none => s
  | some e =>
    ((s.updPort d p (fun x => { x with sending := none })).releaseRef d e.fid).pbump d p (R.QUE_DISCARD_FLUSHED e.cls)

/-- The flap hold of a port begins; with FLAP_HOLD 0 its queues are flushed at once (R310). -/
def State.beginHold (s : State) (d p : Nat) : State :=
  let hold := s.pfld d p R.QUE_PORT_CFG_FLAP_HOLD
  if hold = 0 then s.flushPort d p
  else (s.updPort d p (fun x => { x with holdEnd := some (s.now + usTicks hold) })).pput d p R.QUE_STAT_IN_HOLD 1

/-- The effects of leaving UP on queues, credits, pauses and the Relka link, and the link-down event
(R242, R298, R303, R310); a source on it fails (R153). -/
def State.leaveUp (s : State) (d p st : Nat) : State :=
  let s := s.setPState d p st
  let s := (s.pput d p R.PORT_STAT_LINK_DOWNS (s.pfld d p R.PORT_STAT_LINK_DOWNS + 1)).linkEvent d p st 0
  let s := (s.voidCredits d p).dropPartial d p
  let s := (s.pput d p R.PFC_STAT_TX_XOFF 0).pput d p R.PFC_STAT_RX_XOFF 0
  let s := (s.dropQueued d p (fun e => bit e.attr 0) R.QUE_DISCARD_DOWN_DISCARD).1
  let s := (s.loseTx d p).beginHold d p
  (s.rlkPortDown d p).sourceLost d p (fun k => k == 4 || k == 5)

/-- A port enters UP: link-up event, INIT CREDITs; without credits a running hold ends at once (R242, R299, R310). -/
def State.enterUp (s : State) (d p : Nat) : State :=
  let s := (s.setPState d p psUp).linkEvent d p psUp 0
  let s := s.sendInits d p
  if s.credited d p != [] then s else s.endHold d p

/-- The start state of a port (R240, R241). -/
def State.startState (s : State) (d p : Nat) : Nat :=
  let loop := s.pfld d p R.PORT_STAT_LOOP
  if p < 64 ∧ loop = 0 ∧ s.pflag d p R.PORT_LINK_CFG_AN_EN then psAutoneg else psSignal

/-- A port moves to a state other than UP, leaving UP where it was in it (R241). -/
def State.portTo (s : State) (d p st : Nat) : State :=
  if s.pstate d p = psUp then s.leaveUp d p st else s.setPState d p st

/-- Sets DOWN_CAUSE (R241). -/
def State.setCause (s : State) (d p cause : Nat) : State := s.pput d p R.PORT_STAT_DOWN_CAUSE cause
/-- Clears DLY_STAT.VALID (R244). -/
def State.clearValid (s : State) (d p : Nat) : State := s.pput d p R.DLY_STAT_VALID 0

/-- Quarter bits per tick of a lane rate code (R232). -/
def laneQuarters (code : Nat) : Nat :=
  match code with
  | 0 => 8 | 1 => 66 | 2 => 165 | 3 => 340 | 4 => 680 | _ => 1360

/-- The bits a checker has compared: every bit from its lock on, saturating (R249). -/
def State.prbsBits (s : State) (d u l : Nat) : Nat :=
  let loc := laneLoc d u l
  let held := s.pair loc R.PRBS_BITS_LO_BITS R.PRBS_BITS_HI_BITS
  match Tab.get? (s.die d).prbsLock (8 * u + l) with
  | none => held
  | some t => satNat (held + laneQuarters (s.fld loc R.PRBS_STAT_RATE) * (s.now - t) / 4) 48

/-- The errors among the bits compared since the counter was last brought up to date are counted: `least` of them at
least, as far as there are so many bits. How many the line made is open (R249; log entry 6). -/
def State.prbsSync (s : State) (d u l least : Nat) : State :=
  let loc := laneLoc d u l
  match Tab.get? (s.die d).prbsLock (8 * u + l) with
  | none => s
  | some t =>
    let all := laneQuarters (s.fld loc R.PRBS_STAT_RATE) * (s.now - t) / 4
    let new := all - Tab.get 0 (s.die d).prbsSeen (8 * u + l)
    if new = 0 then s
    else
      let (v, s) := s.freeNat
      let low := min least new
      let err := low + v % (new - low + 1)
      let s := s.putPair loc R.PRBS_ERR_LO_ERR R.PRBS_ERR_HI_ERR
        (satNat (s.pair loc R.PRBS_ERR_LO_ERR R.PRBS_ERR_HI_ERR + err) 48)
      s.setDie d { s.die d with prbsSeen := Tab.set (s.die d).prbsSeen (8 * u + l) all }

/-- A checker that is locked stops counting (R249). -/
def State.prbsUnlock (s : State) (d u l : Nat) (least : Nat := 0) : State :=
  let loc := laneLoc d u l
  let s := s.prbsSync d u l least
  let s := s.putPair loc R.PRBS_BITS_LO_BITS R.PRBS_BITS_HI_BITS (s.prbsBits d u l)
  (s.setDie d { s.die d with prbsLock := Tab.del (s.die d).prbsLock (8 * u + l),
                             prbsSeen := Tab.del (s.die d).prbsSeen (8 * u + l) }).put loc R.PRBS_STAT_CHK_LOCK 0

/-- Stops a lane's generator and checker (R248). -/
def State.prbsStop (s : State) (d u l : Nat) : State :=
  let loc := laneLoc d u l
  (((s.prbsUnlock d u l).put loc R.PRBS_STAT_GEN_ON 0).put loc R.PRBS_STAT_CHK_ON 0)

/-- Stops generators, checkers and loops of a port (R241). -/
def State.stopTests (s : State) (d p : Nat) : State :=
  let s := (s.portLanes d p).foldl (fun s l => s.prbsStop d (portUnit p) l) s
  s.pput d p R.PORT_STAT_LOOP 0

/-- Ticks of one codeword of a port with RS-FEC: 5,440 bits on each of its lanes (R237, R232). -/
def State.cwTicks (s : State) (d p : Nat) : Nat := 3200000 / max (s.rate d p) 1

/-- FEC_CW counts the codewords received up to now (R237). -/
def State.cwSync (s : State) (d p : Nat) : State :=
  match (s.port d p).cwAt with
  | none => s
  | some t =>
    let n := (s.now - t) / max (s.cwTicks d p) 1
    (s.bumpBy (portLoc d p) R.FEC_CW_CW n).setPort d p { s.port d p with cwAt := some (t + n * s.cwTicks d p) }

/-- A port has codeword lock: codewords count from now, and 2^20 of them begin (R237). -/
def State.cwStart (s : State) (d p : Nat) : State :=
  if s.hasFec d p then s.setPort d p { s.port d p with cwAt := some s.now, cwWin := s.now, injSym := 0 } else s

/-- A port has no codeword lock any more (R237). -/
def State.cwStop (s : State) (d p : Nat) : State :=
  let s := s.cwSync d p
  s.setPort d p { s.port d p with cwAt := none }

/-- The lanes of a port hold no lock (R244). -/
def State.lanesUnlock (s : State) (d p : Nat) : State :=
  (s.portLanes d p).foldl (fun s l =>
    (s.put (laneLoc d (portUnit p) l) R.LANE_STAT_LOCK 0).put (laneLoc d (portUnit p) l) R.LANE_STAT_CDR_LOCK 0) (s.cwStop d p)

/-- Every entry to DISABLED: leaving UP if in it, generators, checkers and loops stopped, VALID cleared, the transmitter
off and the unit's tokens released (R241, R244, R245, R346). -/
def State.disable (s : State) (d p : Nat) : State :=
  let s := s.portTo d p psDisabled
  let s := ((s.stopTests d p).clearValid d p).lanesUnlock d p
  let s := s.setPort d p { s.port d p with lossAt := none }
  ((s.pput d p R.PORT_STAT_TX_ON 0).pput d p R.PORT_STAT_RF_RX 0).unitRest d (portUnit p)

end Sys2Proof.Machine
end

