-- ==== Sys2Proof/Machine/Collect.lean ====
section
/-! DEFINITION. The fault collector: log, latches, pending flags, FAULT_N, containment and safe state (R364 to R377). -/

namespace Sys2Proof.Machine

/-! ### The advertised clockClass (R170) -/

/-- The clockClass of the first row of R170 that applies. -/
def State.clockClass (s : State) : Nat :=
  let st := s.servoState
  let tr := s.flag locArb R.REF_SEL_TRACEABLE
  let sel := s.fld locArb R.REF_SEL_SELECTED
  if s.safe then s.fld locArb R.CC_SAFE_SAFE_CC
  else if st = 6 ∨ st = 7 then s.servo.ccKept
  else if (st = 3 ∨ st = 5) ∧ tr then
    if !s.flag locArb R.REF_SEL_NONE ∧ s.fld locArb (R.REF_CFG_CFG sel) % 16 = 6 then
        (s.relka (bits (s.fld locArb (R.REF_CFG_CFG sel)) 4 2) (bits (s.fld locArb (R.REF_CFG_CFG sel)) 6 7)).cc
    else s.fld locArb R.CC_CTRL_LOCKED_CC
  else if st = 4 ∧ tr then
    if s.fld locArb R.SR_DURATION_SECONDS ≤ s.fld locArb R.CC_SAFE_HOLD_SPEC_S then s.fld locArb R.CC_CTRL_HOLD_CC
    else s.fld locArb R.CC_CTRL_HOLD_OUT_CC
  else s.fld locArb R.CC_CTRL_FREE_CC

/-- CC_NOW takes the value in force (R170). -/
def State.ccSync (s : State) : State := s.put locArb R.CC_NOW_CLOCK_CLASS s.clockClass

/-! ### FAULT_N (R375) -/

/-- Whether a condition holds that drives FAULT_N low (R375): a boot that waits for the host after no failure is none
(R340, R341). -/
def State.faultNCond (s : State) : Bool :=
  let lim := s.fld locCol R.FLT_CTRL_FAULTN_SEV
  s.safe || s.faults.reduced || s.fp R.FP_BOOT_STATE == 7 || (s.fp R.FP_BOOT_STATE == 8 && s.fp R.FP_BOOT_CODE != 0) ||
    kindTable.any (fun x => decide (lim ≤ x.2.1) &&
      (s.flag locCol (R.FLT_PEND_REAL x.1) || (s.flag locCol R.FLT_CTRL_INJ_LIVE && s.flag locCol (R.FLT_PEND_INJ x.1))))

/-- FAULT_N follows its conditions; FP_INT_STAT.FAULT_N is set as it goes low (R375, R429). -/
def State.faultNSync (s : State) : State :=
  let was := s.flag locCol R.FLT_STAT_FAULT_N_LOW
  let low := s.faultNCond
  let s := s.putB locCol R.FLT_STAT_FAULT_N_LOW low
  if low && !was then s.fpInt intFaultN else s

/-! ### Logging (R364, R370, R372 to R374) -/

/-- The 64-bit message of a fault (R364). -/
def faultWord (m : FaultMsg) : Nat :=
  m.loc * 2 ^ 48 + m.kind * 2 ^ 40 + (kindSev m.kind).getD 0 * 2 ^ 38 + b2n m.inj * 2 ^ 37 + m.detail % 2 ^ 32

/-- The order in which faults of one clock are taken: real first, higher SEV, lower LOC, lower KIND (R370, R373). -/
def faultBefore (a b : FaultMsg) : Bool :=
  let key (m : FaultMsg) : Nat :=
    b2n m.inj * 2 ^ 28 + (3 - (kindSev m.kind).getD 0) * 2 ^ 26 + m.loc * 2 ^ 8 + m.kind
  decide (key a ≤ key b)

/-- Inserts a message in that order. -/
def faultInsert (m : FaultMsg) : List FaultMsg → List FaultMsg
  | [] => [m]
  | x :: xs => if faultBefore m x then m :: x :: xs else x :: faultInsert m xs

/-- A latch takes a qualifying fault, or counts it where it is VALID (R370); `base` is 0x10 or 0x30. -/
def State.latch (s : State) (base msg time : Nat) : State :=
  let ctl := base + 0x10
  if s.fld locCol ⟨ctl, 0, 1⟩ = 1 then (s.put locCol ⟨ctl, 1, 1⟩ 1).bump locCol ⟨ctl, 16, 16⟩
  else
    ((s.putPair locCol ⟨base, 0, 32⟩ ⟨base + 4, 0, 32⟩ msg).putPair locCol ⟨base + 8, 0, 32⟩ ⟨base + 12, 0, 32⟩ time).put
      locCol ⟨ctl, 0, 1⟩ 1

/-- Logs one fault: log entry, pending flag, latches, event record (R370, R372, R373, R374). -/
def State.logFault (s : State) (m : FaultMsg) : State :=
  let sev := (kindSev m.kind).getD 0
  let t := s.txNow
  let w := faultWord m
  let i := s.fld locCol R.FLT_LOG_PTR_NEXT
  let s := if s.fld locCol (R.FLT_LOG_W1 i) ≠ 0 then s.bump locCol R.FLT_LOG_PTR_OVERWRITTEN else s
  let s := s.putPair locCol (R.FLT_LOG_W0 i) (R.FLT_LOG_W1 i) w
  let s := s.putPair locCol (R.FLT_LOG_W2 i) (R.FLT_LOG_W3 i) t
  let s := s.put locCol R.FLT_LOG_PTR_NEXT (i + 1)
  let s := s.put locCol (if m.inj then R.FLT_PEND_INJ m.kind else R.FLT_PEND_REAL m.kind) 1
  let s := s.put locCol (R.FLT_PEND_SEV_MAX m.kind) (max sev (s.fld locCol (R.FLT_PEND_SEV_MAX m.kind)))
  let s := s.bump locCol (R.FLT_PEND_COUNT m.kind)
  let q := decide (s.fld locCol R.FLT_CTRL_LATCH_SEV ≤ sev)
  let s := if q then s.latch 0x10 w t else s
  let s := if q && !m.inj then s.latch 0x30 w t else s
  let s := if s.fld locCol R.FLT_CTRL_EVT_SEV ≤ sev then
      s.event' 5 (i + sev * 1024 + b2n m.inj * 4096 + locDie m.loc * 8192) t
    else s
  s.faultNSync

/-! ### Safe state (R229, R376) -/

/-- Mutes an output: it finishes its cycle and holds its static level (R210, R214). -/
def State.muteOut (s : State) (k o : Nat) : State :=
  let loc := mkLoc 6 0 0 (8 + k) o
  if s.flag loc R.OUT_STAT_MUTED then s
  else ((s.put loc R.OUT_STAT_MUTED 1).put loc R.OUT_STAT_LIVE 0).bump loc R.OUT_STAT_MUTES

/-- Index of an output's live setting. -/
def outIdx (k o : Nat) : Nat := 3 * k + (o - 1)

/-- Moves a trigger to MUTED (R226). -/
def State.muteTrig (s : State) (n : Nat) : State :=
  let loc := hubLoc (20 + n)
  let st := s.fld loc R.TRG_STAT_STATE
  if st = 1 ∨ st = 2 then s.put loc R.TRG_STAT_STATE 3 else s

/-- A trigger that safe state mutes moves to MUTED: with SAFE_MUTE = 1, in reduced safe state every one (R226, R229). -/
def State.trgSafe (s : State) (n : Nat) : State :=
  if s.faults.reduced || (s.safe && s.flag (hubLoc (20 + n)) R.TRG_CTRL_SAFE_MUTE) then s.muteTrig n else s

/-- All outputs of the package: synthesizer, sub-block. -/
def allOuts : List (Nat × Nat) := ((List.range 4).map (fun k => [(k, 1), (k, 2), (k, 3)])).flatten

/-- Mutes the outputs and triggers that safe state mutes; all of them where `every` (R229, R325). -/
def State.safeMutes (s : State) (every : Bool) : State :=
  let s := allOuts.foldl (fun s x =>
    if every || bit (s.out (outIdx x.1 x.2)).cfg 9 then s.muteOut x.1 x.2 else s) s
  (List.range 8).foldl (fun s n =>
    if every || s.flag (hubLoc (20 + n)) R.TRG_CTRL_SAFE_MUTE then s.muteTrig n else s) s

/-- A fault of a kind brings the part to safe state (R376, R382). -/
def State.enterSafe (s : State) (kind : Nat) : State :=
  let s := if resetOnly kind then
      (s.setFaults { s.faults with only := if s.faults.only.contains kind then s.faults.only else kind :: s.faults.only }).put
        locCol R.FLT_STAT_RESET_ONLY 1
    else s
  if s.safe then s
  else
    let s := (s.put locCol R.FLT_STAT_SAFE 1).put locCol R.FLT_STAT_SAFE_KIND kind
    let s := (s.bump locCol R.FLT_STAT_SAFE_ENTRIES).fpInt intSafeEntry
    ((s.safeMutes false).ccSync).faultNSync

/-! ### Containment (R367, R368) -/

/-- The level at which a reaction set to `level` acts for a location (R367, R480). -/
def actLevel (level loc : Nat) : Nat :=
  if level = 0 then 0
  else if level = 5 then 5
  else if locDie loc = 6 then 5
  else if locDie loc = 4 ∨ locDie loc = 5 then 4
  else if locUnit loc = 20 ∧ locSub loc = 2 then max level 3
  else if dieWide loc ∧ (level = 2 ∨ level = 3) then 4
  else level

/-- The ports of a die that a containment covers. -/
def Cont.ports (c : Cont) : List (Nat × Nat) :=
  let d := locDie c.loc
  if d < 4 then ((List.range 72).filter (fun p => c.covers (portLoc d p))).map (fun p => (d, p)) else []

/-- The clusters of a die whose pipeline a containment covers. -/
def Cont.clusters (c : Cont) : List Nat :=
  let d := locDie c.loc
  if d < 4 then (List.range 4).filter (fun k => c.covers (cluLoc d k 20 0)) else []

/-- Brings the units of a contained instance to OFF and SLEEP, its ports to DISABLED (R367, R368). -/
def State.instOff (s : State) (c : Cont) : State :=
  let d := locDie c.loc
  let s := c.ports.foldl (fun s x => if s.present x.1 x.2 ∧ s.pstate x.1 x.2 ≠ 0 then s.disable x.1 x.2 else s) s
  c.clusters.foldl (fun s k =>
    let s := if s.awake d k then (s.pipeSleep d k).1 else s
    if s.sliceAwake d k && decide (s.sliceUsed d k = 0) then (s.sliceSleep d k).1 else s) s

/-- Flushes every frame that holds cells in the slices of a region (R367). -/
def State.flushRegion (s : State) (d r : Nat) : State :=
  let hit (s : State) (fid : Nat) : Bool :=
    (s.die d).cells.any (fun g => g.fid == fid && g.slices.any (fun x => x.1 / 2 == r))
  (s.diePorts d).foldl (fun s p => (s.dropQueued d p (fun e => hit s e.fid) R.QUE_DISCARD_FLUSHED).1) s

/-- A frame bound for a contained die is discarded on its ingress die: its share of the refcount is released, and each of
its targets is counted as refused for reason 0 (R22, R292, R294). -/
def State.dropRemote (s : State) (d : Nat) (r : Remote) : State :=
  r.ents.foldl (fun s e => s.pbump r.far e.1 (R.QUE_REFUSE_COUNT 0)) (s.releaseRef d r.fid)

/-- What a die holds towards and from a contained die goes: unacknowledged cells, lost as in R284, frames that wait to be
sent, and frames of which only part has arrived (R22). -/
def State.fenceFrom (s : State) (d e : Nat) : State :=
  let x := s.die e
  let b := s.brg e d
  let lost := (b.replay.map (fun w => (w.src, w.fid))).eraseDups
  let gone := x.waits.filter (fun r => r.far == d) ++
    ((x.gaps.filter (fun g => g.1 % 4 == d)).map (fun g => g.2.held)).flatten
  let half := x.arrive.filter (fun a => a.src == d)
  let s := (s.setBrg e d { b with replay := [], credits := 2048, failAt := none }).bumpBy (brgLoc e d) R.BRG_CNT_LOST
    b.replay.length
  let s := s.updDie e (fun x => { x with
    waits := x.waits.filter (fun r => r.far != d), gaps := x.gaps.filter (fun g => g.1 % 4 != d),
    pin := x.pin.filter (fun k => k.1 % 4 != d), arrive := x.arrive.filter (fun a => a.src != d),
    cells := x.cells.filter (fun g => !half.any (fun a => a.lfid == g.fid)) })
  gone.foldl (fun s r => s.dropRemote e r) (lost.foldl (fun s w => s.releaseRef w.1 w.2) s)

/-- A die's bridges are fenced off (R22). -/
def State.fenceDie (s : State) (d : Nat) : State :=
  ((otherDies d).filter (dieOn s.part)).foldl (fun s e => s.fenceFrom d e) s

/-- An instance is contained (R367). -/
def State.contain (s : State) (c : Cont) : State :=
  let s := if c.level = 3 then (s.flushRegion (locDie c.loc) (locRegion c.loc)).instOff c
    else if c.level = 4 then s.fenceDie (locDie c.loc)
    else if c.level = 1 ∧ locUnit c.loc = 20 ∧ s.awake (locDie c.loc) (locClu c.loc) then
      (s.pipeSleep (locDie c.loc) (locClu c.loc)).1
    else s
  s.setFaults { s.faults with conts := c :: s.faults.conts }

/-- A contained instance restarts from its reset state (R368): ports DISABLED, units OFF, registers at reset. The
tables, which only the region level removes, are kept by the other levels (log entry 16). -/
def State.restart (s : State) (c : Cont) : State :=
  let d := locDie c.loc
  if d < 4 then
    let s := s.instOff c
    let s := c.clusters.foldl (fun s k => if s.hasResv d k then s.dropResv d k else s) s
    let s := c.ports.foldl (fun s x => (s.flushPort x.1 x.2).setPort x.1 x.2 {}) s
    let s := { s with regs := s.regs.filter (fun x => !(c.covers (x.1 / 16777216) && decide (x.1 / 16777216 < 65536))) }
    if c.level = 3 then s.updDie d (fun x => { x with tables := [], tblBad := [] })
    else if c.level = 4 then
      s.updDie d (fun x => { tables := x.tables, tblBad := x.tblBad, nextFid := x.nextFid, quarMap := x.quarMap })
    else s
  else s

/-- FLT.CLEAR releases the containments of a kind (R368, R380). -/
def State.releaseKind (s : State) (kind : Nat) : State :=
  let mine := s.faults.conts.filter (fun c => c.kind == kind)
  let s := s.setFaults { s.faults with conts := s.faults.conts.filter (fun c => c.kind != kind) }
  mine.foldl State.restart s

/-- The reaction level in force for a fault (R366, R369): 0 for an injected fault unless INJ_LIVE. -/
def State.levelOf (s : State) (m : FaultMsg) : Nat :=
  if m.inj && !s.flag locCol R.FLT_CTRL_INJ_LIVE then 0
  else if kindSev m.kind = some 3 then 5
  else actLevel (s.fld locCol (R.FLT_PEND_LEVEL m.kind)) m.loc

/-- The reaction of a fault, but for the failure of a headstock (R367, R369, R376). -/
def State.react (s : State) (m : FaultMsg) : State :=
  match s.levelOf m with
  | 0 => s
  | 5 => s.enterSafe m.kind
  | l => if locDie m.loc < 4 then s.contain { kind := m.kind, level := l, loc := m.loc } else s

/-- Logs a real fault of a unit other than a headstock and runs its reaction. -/
def State.faultBase (s : State) (loc kind detail : Nat) : State :=
  let m : FaultMsg := { loc := loc, kind := kind, inj := false, detail := detail }
  (s.logFault m).react m

end Sys2Proof.Machine
end

