-- ==== Sys2Proof/Machine/Takeover.lean ====
section
/-! DEFINITION. Declaring a headstock failed (R178, R180, R190, R197, R198), and the entry of every fault (R365 to R369). -/

namespace Sys2Proof.Machine

/-- The headstock state codes of R177. -/
def hsOff : Nat := 0
def hsSelftest : Nat := 1
def hsStandby : Nat := 2
def hsWarming : Nat := 3
def hsActive : Nat := 4
def hsFailed : Nat := 5

/-- The state of a headstock as it is stored, WARMING from a declaration or the execution of HST.SWAP on. -/
def State.hsRaw (s : State) (tb : Bool) : Nat := s.arb (if tb then R.HST_STAT_TB_STATE else R.HST_STAT_TA_STATE)
/-- The state of a headstock (R177, R204): WARMING from the tick on which its logic is powered (R191, R201), STANDBY before. -/
def State.hs (s : State) (tb : Bool) : Nat :=
  if s.hsRaw tb = hsWarming ∧ s.now < s.hst.warmAt then hsStandby else s.hsRaw tb
/-- Moves a headstock to a state. -/
def State.setHs (s : State) (tb : Bool) (v : Nat) : State :=
  s.arbPut (if tb then R.HST_STAT_TB_STATE else R.HST_STAT_TA_STATE) v

/-- The die of a headstock. -/
def hsDie (tb : Bool) : Nat := if tb then 5 else 4

/-- The headstock in a state, if there is one. -/
def State.hsIn (s : State) (st : Nat) : Option Bool :=
  if s.hs false = st then some false else if s.hs true = st then some true else none

/-- The ACTIVE headstock, if there is one (R176). -/
def State.activeHs (s : State) : Option Bool := s.hsIn hsActive

/-- The headstock that is WARMING, or whose power is about to come. -/
def State.warmingHs (s : State) : Option Bool :=
  if s.hsRaw false = hsWarming then some false else if s.hsRaw true = hsWarming then some true else none

/-- Ticks from the declaration to the power of the new headstock: 6,000 ns (R191). -/
def powerTicks : Nat := 3750

/-- The epoch a headstock was given (R183). -/
def State.epochOf (s : State) (tb : Bool) : Nat := if tb then s.hst.epochB else s.hst.epochA
/-- Gives a headstock the present epoch (R183). -/
def State.giveEpoch (s : State) (tb : Bool) : State :=
  let e := s.arb R.HST_EPOCH_EPOCH
  s.setHst (if tb then { s.hst with epochB := e } else { s.hst with epochA := e })

/-- The arbiter increments the epoch; every tailstock holds the new value (R183). -/
def State.bumpEpoch (s : State) : State :=
  let s := s.arbPut R.HST_EPOCH_EPOCH (s.arb R.HST_EPOCH_EPOCH + 1)
  { s with tails := (List.range 6).map (fun t => (t, { s.tail t with epoch := s.arb R.HST_EPOCH_EPOCH })) }

/-- A headstock's spindle drive (R190, R194). -/
def State.drive (s : State) (tb : Bool) : Bool := if tb then s.hst.driveB else s.hst.driveA
/-- Sets a headstock's spindle drive. -/
def State.setDrive (s : State) (tb on : Bool) : State :=
  s.setHst (if tb then { s.hst with driveB := on } else { s.hst with driveA := on })

/-- Completes ABORTED every instruction issued to a die that has not completed (R178). -/
def State.abortDie (s : State) (die : Nat) : State :=
  (s.plyn.flights.filter (fun f => locDie f.cmd.loc == die && !isBlocking f.cmd.opcode
      && (f.phase.isOpen || f.phase.isParked))).foldl State.abortFlight s

/-- The detail of a STATE_CONFLICT of the HST group (R202). -/
def State.hstDetail (s : State) : Nat := s.hs false + s.hs true * 16

/-- The calibrations that run on a headstock die end with it (R178, R390). -/
def State.stopCals (s : State) (die : Nat) : State :=
  let mine := s.cals.filter (fun x => decide (locDie (x.1 / 16) = die) && x.2.num.isSome)
  let s := mine.foldl (fun s x =>
    (s.put (x.1 / 16) R.CAL_STAT_BUSY 0).put (x.1 / 16) R.CAL_STAT_LAST stAborted) s
  { s with cals := s.cals.map (fun x => if locDie (x.1 / 16) = die then (x.1, { x.2 with num := none }) else x) }

/-- The servo enters state 6 or 7, keeping its state, its timers and the advertised clockClass (R168, R170). -/
def State.servoHide (s : State) (st : Nat) : State :=
  let cur := s.servoState
  let s := if cur < 6 then
      s.setServo { s.servo with before := cur, ccKept := s.clockClass, hidAt := s.now, paused := s.servo.settleEnd - s.now }
    else s
  s.arbPut R.REF_SEL_SERVO_STATE st

/-- The settle time left: that of the last heartbeat (R179, R198), and without one the present one. -/
def State.settleCopy (s : State) : Nat :=
  match s.hst.beat with
  | some b => if s.flag locArb R.REF_SEL_SETTLING ∧ 0 < b.settle then b.settle else s.servo.settleEnd - s.now
  | none => s.servo.settleEnd - s.now

/-! ### Checkpoints under way (R186, R187, R189) -/

/-- The checkpoint that a headstock uses: the newest of its slots that is not torn (R187). -/
def State.pickCkpt (s : State) (tb : Bool) : Option Ckpt :=
  let a := Tab.get? s.hst.slots (2 * b2n tb)
  let b := Tab.get? s.hst.slots (2 * b2n tb + 1)
  match a.filter (fun c => !c.torn), b.filter (fun c => !c.torn) with
  | some x, some y => if 0 < sx (toBits ((x.seq : Int) - y.seq) 32) 32 then some x else some y
  | some x, none => some x
  | none, y => y

/-- The COMMIT of a checkpoint is written: the slot is valid (R186 to R189). -/
def State.commitCkpt (s : State) (w : CkptWrite) : State :=
  match Tab.get? s.hst.slots w.key with
  | none => s
  | some c =>
    let s := s.setHst { s.hst with slots := Tab.set s.hst.slots w.key { c with torn := c.torn && c.seq != w.seq }, commitAt := w.at_ }
    (s.arbPut R.HST_STAT_CKPT_STALE 0).completeOpt w.num (okC (w.seq % 65536))

/-- The checkpoints whose COMMIT has been written by now. -/
def State.settleCkpts (s : State) : State :=
  (s.hst.writes.filter (fun w => decide (w.at_ ≤ s.now))).foldl State.commitCkpt
    (s.setHst { s.hst with writes := s.hst.writes.filter (fun w => !decide (w.at_ ≤ s.now)) })

/-- The checkpoints that are still being written stay torn, and their instruction completes ABORTED (R187, R189). -/
def State.dropCkpts (s : State) : State :=
  let s := s.settleCkpts
  s.hst.writes.foldl (fun s w => s.completeOpt w.num { status := stAborted }) (s.setHst { s.hst with writes := [] })

/-- The arbiter declares the ACTIVE headstock failed (R180, R190, R197, R198). -/
def State.declareFailed (s : State) (tb : Bool) (cause : Nat) : State :=
  if s.hs tb ≠ hsActive then s
  else
    let s := s.dropCkpts
    let left := s.settleCopy
    let inHold := decide (6 ≤ s.servoState)
    let warm := s.hsRaw (!tb) = hsWarming
    let standby := s.hs (!tb) = hsStandby
    let s := (s.bumpEpoch.setHs tb hsFailed).arbPut R.HST_STAT_DUAL_ACTIVE 1
    let s := s.setHst (if tb then { s.hst with causeB := cause } else { s.hst with causeA := cause })
    let s := (s.arbPut R.HST_LAST_CAUSE cause).arbPut R.HST_STAT_TAKEOVERS (s.arb R.HST_STAT_TAKEOVERS + 1)
    let s := s.servoHide 6
    let s := s.setServo { s.servo with paused := if inHold then s.servo.paused else left, cal := none, gateBad := true }
    let s := s.faultBase locArb 0x21 (cause + b2n tb * 256)
    let s := (s.abortDie (hsDie tb)).stopCals (hsDie tb)
    let s := s.completeOpt s.hst.swap { status := stAborted }
    let s := s.setHst { s.hst with swap := none, declAt := s.now, takeover := true,
                                   warmAt := if warm then min s.hst.warmAt (s.now + powerTicks) else s.now + powerTicks }
    if warm ∨ standby then (s.setHs (!tb) hsWarming).giveEpoch (!tb)
    else (s.setHst { s.hst with takeover := false }).faultBase locArb 0x22 0

/-- A STANDBY fails (R177, R180): what it was being written is lost (R189). One that a takeover or a swap was about to power
ends that as a WARMING headstock does (R197, R201; log entry 29). -/
def State.failStandby (s : State) (tb : Bool) : State :=
  let s := s.dropCkpts
  let num := s.hst.swap
  let none_ := s.hst.takeover && s.hsRaw tb == hsWarming && s.activeHs.isNone
  let s := (s.setHs tb hsFailed).faultBase locArb 0x24 0
  let s := (s.setHst { s.hst with swap := none, takeover := s.hst.takeover && !none_ }).completeOpt num { status := stAborted }
  if none_ then s.faultBase locArb 0x22 0 else s

/-- A HST.REVIVE whose headstock takes a fault or loses power before its self-test ends (R200). -/
def State.failRevive (s : State) (tb : Bool) (code : Nat) : State :=
  let num := if tb then s.hst.reviveB else s.hst.reviveA
  if s.hs tb = hsSelftest then
    let s := (s.setHs tb hsFailed).setHst
      (if tb then { s.hst with reviveB := none } else { s.hst with reviveA := none })
    s.completeOpt num { status := stFault, result := code }
  else s

/-- What a fault located on a headstock die does to that headstock (R180, R200, R367). -/
def State.hstFault (s : State) (m : FaultMsg) : State :=
  let tb := locDie m.loc == 5
  let sev := (kindSev m.kind).getD 0
  let live := !m.inj || s.flag locCol R.FLT_CTRL_INJ_LIVE
  let s := if live && decide (2 ≤ sev) then s.failRevive tb 0xFF02 else s
  if live && decide (sev = 3) then s.declareFailed tb 3
  else if s.levelOf m = 4 then s.declareFailed tb 2 else s

/-- A fault message at the collector: logged, then its reaction (R365 to R369). -/
def State.fault (s : State) (m : FaultMsg) : State :=
  let s := (s.logFault m).react m
  if locDie m.loc = 4 ∨ locDie m.loc = 5 then s.hstFault m else s

/-- A real fault raised by a block's own detector. -/
def State.raise (s : State) (loc kind detail : Nat) : State :=
  s.fault { loc := loc, kind := kind, inj := false, detail := detail }

/-- An access of checked memory, or of a checked link, for a kind, at a place that `here` accepts and at offset `off`
(R378, R379; log entry 34): an injection that waits for it is consumed, logged with INJ and the detector's DETAIL, and
its instruction completes. The flag says that the access is then handled as a real error. -/
def State.checked (s : State) (kind : Nat) (here : Nat → Bool) (off detail : Nat) : State × Bool :=
  match s.faults.armed.find? (fun a => a.kind == kind && here a.loc && (a.off == 0 || a.off == off)) with
  | none => (s, false)
  | some a =>
    let s := s.setFaults { s.faults with armed := s.faults.armed.erase a }
    let i := s.fld locCol R.FLT_LOG_PTR_NEXT
    let live := s.flag locCol R.FLT_CTRL_INJ_LIVE
    ((s.fault { loc := a.loc, kind := kind, inj := true, detail := detail }).complete a.num
      { status := stOk, result := i }, live)

/-- The same where a real error has no effect of its own beyond the fault. -/
def State.touch (s : State) (kind : Nat) (here : Nat → Bool) (off detail : Nat) : State :=
  (s.checked kind here off detail).1

end Sys2Proof.Machine
end

