-- ==== Sys2Proof/Machine/Start.lean ====
section
/-! DEFINITION. How an issued instruction starts (R62, R63, R66, R376, R402): the operand check, the legal-state check
that every instruction shares, the broadcast to the enabled S-dies. -/

namespace Sys2Proof.Machine

/-- What a command answers. -/
abbrev Out := Host.Outcome State Fault Refusal

/-- Opcodes that safe state forbids: TBL, MIR, POW.WAKE, PORT.UP, PORT.SET, PORT.LOOP, QUE.SET, QUE.GATELIST (R376). -/
def safeForbids (op : Nat) : Bool :=
  op / 16 == 2 || op == 0x50 || op == 0xB0 || op == 0x31 || op == 0x30 || op == 0x33 || op == 0x40 || op == 0x41

/-- The meaning of an instruction: its operand check, giving a DETAIL of R400, its effect at a location, and the tokens that
it needs there (R64). -/
structure Meaning where
  bad : Cmd → State → Option Nat
  run : Flight → Nat → State → Eff
  wants : Flight → Nat → State → List WakeReq := fun _ _ _ => []

/-- An operand check that may only find a value outside its range (R400). -/
def rangeBad (b : Bool) : Option Nat := if b then some 6 else none

/-- The location of a broadcast on one die (R66). -/
def onDie (loc d : Nat) : Nat := loc % 8192 + d * 8192

/-- Whether an instruction's target lies in a contained instance: a TBL code names the die's tables, which lie in no
unit (R263), so only a die's containment reaches it (log entry 17); a fence or a wait is held at the hub and is no
instruction to the place its LOC names (R57, R367; log entry 51). -/
def State.targetContained (s : State) (c : Cmd) (loc : Nat) : Bool :=
  if isBlocking c.opcode then false
  else if c.opcode / 16 = 2 then s.dieContained (locDie loc) else s.contained loc

/-- The state in which a headstock takes instructions (R178); the flag says that the instruction is a CFG.READ of its
checkpoint store. -/
def State.hsRefuse (s : State) (loc : Nat) (ckptRead : Bool) : Option Compl :=
  if locDie loc = 4 ∨ locDie loc = 5 then
    let st := s.hs (locDie loc == 5)
    if st = hsActive ∨ (st = hsStandby ∧ ckptRead) then none else some (conflictC st)
  else none

/-- The conditions of STATE_CONFLICT that every instruction shares, in the order of R402, then R178: at a headstock that is
not ACTIVE only a CFG.READ of a STANDBY's unit 5 executes (a fence looks for itself, a wait is not affected: R409). -/
def State.legal (s : State) (c : Cmd) (loc : Nat) : Option Compl :=
  if s.targetContained c loc then some (conflictC 0xFD)
  else if s.safe && safeForbids c.opcode then some (conflictC 0xFE)
  else if isBlocking c.opcode then none
  else s.hsRefuse loc (c.opcode == 0x10 && locUnit loc == 5)

/-- The same for a broadcast, which is refused as a whole where safe state forbids it or no S-die is left for it (R402). -/
def State.castLegal (s : State) (c : Cmd) : Option Compl :=
  if (sDies s.part).all (fun d => s.targetContained c (onDie c.loc d)) then some (conflictC 0xFD)
  else if s.safe && safeForbids c.opcode then some (conflictC 0xFE)
  else none

/-- One execution of a broadcast on one of its dies (R63). -/
def Meaning.at (m : Meaning) (f : Flight) (loc : Nat) (s : State) : Eff :=
  match s.legal f.cmd loc with
  | some c => (s, some c)
  | none => m.run f loc s

/-- A broadcast under way: the state, the first completion that is not OK, the first die's result, whether any die goes
on. -/
structure Cast where
  st    : State
  worst : Option Compl := none
  first : Option Nat := none
  goes  : Bool := false

/-- A broadcast on one more die. -/
def Cast.step (m : Meaning) (f : Flight) (x : Cast) (d : Nat) : Cast :=
  match m.at f (onDie f.cmd.loc d) x.st with
  | (s, none) => { x with st := s, goes := true }
  | (s, some c) =>
    { x with st := s,
             worst := if x.worst.isNone && isBad c.status then some c else x.worst,
             first := if x.first.isNone then some c.result else x.first }

/-- A broadcast that may execute (R32, R65, R402): no effect anywhere where it is refused on any die, but a host-memory
access that fails leaves the effects already made (R401); dies on which its target is contained are left out, and it then
completes STATE_CONFLICT with 0xFD. -/
def broadcast (m : Meaning) (f : Flight) (s : State) : Eff :=
  let dies := sDies s.part
  let free := dies.filter (fun d => !s.targetContained f.cmd (onDie f.cmd.loc d))
  let x := free.foldl (Cast.step m f) { st := s }
  match x.worst with
  | some c => (if c.status = stFault then x.st else s, some c)
  | none =>
    if x.goes then (x.st, none)
    else if free.length < dies.length then (x.st, some (conflictC 0xFD))
    else (x.st, some (okC (x.first.getD 0)))

/-- Whether an instruction runs on every enabled S-die (R32); a fence or a wait is held at the hub. -/
def Cmd.isCast (c : Cmd) : Bool := locDie c.loc == 7 && !isBlocking c.opcode

/-- The effect of an instruction that starts: the legal-state check, the operands, the effect (R62, R63; log entry 52). -/
def Meaning.eff (m : Meaning) (f : Flight) (s : State) : Eff :=
  match (if f.cmd.isCast then s.castLegal f.cmd else s.legal f.cmd f.cmd.loc) with
  | some c => (s, some c)
  | none =>
    match m.bad f.cmd s with
    | some d => (s, some (badC d))
    | none => if f.cmd.isCast then broadcast m f s else m.run f f.cmd.loc s

/-- The locations at which an instruction executes (R32, R402). -/
def State.execLocs (s : State) (c : Cmd) : List Nat :=
  if c.isCast then ((sDies s.part).map (onDie c.loc)).filter (fun l => !s.targetContained c l) else [c.loc]

/-- An instruction with BACKGROUND that is refused tokens waits for them, without effect, for at most 10 ms (R64): it asks
for all that it needs at every place where it executes, and has its effect once all of it fits. -/
def Meaning.await (m : Meaning) (f : Flight) (s : State) : State :=
  (s.setLedger { s.ledger with
      reqs := s.ledger.reqs ++ ((s.execLocs f.cmd).map (fun l => m.wants f l s)).flatten }).setPhase f.num
    (.tokens (s.now + usTicks 10000))

/-- Whether a completion leaves the instruction waiting for tokens instead (R64). -/
def Flight.awaits (f : Flight) (c : Compl) : Bool := f.cmd.bg && c.status == stDenied

/-- What becomes of an instruction whose effect is `r`: it goes on, completes, or waits for tokens (R62, R64). An effect
that goes on sets its own phase. -/
def Meaning.finish (m : Meaning) (f : Flight) (s : State) (r : Eff) : State :=
  match r.2 with
  | none => r.1
  | some c => if f.awaits c then m.await f s else r.1.complete f.num c

/-- An instruction executes (R62). -/
def Meaning.exec (m : Meaning) (f : Flight) (s : State) : State := m.finish f s (m.eff f s)

/-- The issued instruction of a number, if it can start now: untimed, of the form asked for, and with no earlier
instruction to its location still to complete (R62, R66). -/
def State.begins (s : State) (n : Nat) (form : Cmd → Bool) : Option Flight :=
  match s.flight n with
  | none => none
  | some f => if f.phase = .issued ∧ !f.cmd.timed ∧ form f.cmd ∧ s.mayStart f then some f else none

/-- A row that is an instruction starting execution: without such an instruction nothing happens (log entry 1). -/
def startRow (s : State) (n : Nat) (form : Cmd → Bool) (m : Meaning) : Host.Outcome State Fault Refusal :=
  match s.begins n form with
  | none => .next s
  | some f => .next (m.exec f s)

/-- An instruction that goes on, with the tick by which a bound of its own expires. -/
def State.goesOn (s : State) (n deadline : Nat) : Eff := (s.setPhase n (.exec deadline), none)

/-- Whether an instruction has started and goes on. -/
def State.going (s : State) (n : Nat) (form : Cmd → Bool) : Option (Flight × Nat) :=
  match s.flight n with
  | none => none
  | some f =>
    match f.phase with
    | .exec t => if form f.cmd then some (f, t) else none
    | _ => none

/-- Units that still work for an instruction: the rest of a broadcast (R65). -/
def State.worksFor (s : State) (n : Nat) : Bool :=
  s.ledger.waking.any (fun x => x.2.num == some n) || s.ledger.sleep.any (fun x => x.2.num == some n) ||
    s.ledger.reqs.any (fun r => r.num == some n) || s.ports.any (fun x => (x.2.inj.map Inj.num) == some n) ||
    s.ports.any (fun x => x.2.relka.snd.num == some n) || s.outs.any (fun x => x.2.num == some n) || s.cals.any (fun x => x.2.num == some n)

/-- A unit ends its part of an instruction; the instruction completes with the last part. -/
def State.finishPart (s : State) (n : Option Nat) (c : Compl) : State :=
  match n with
  | none => s
  | some k => if s.worksFor k then s else s.complete k c

end Sys2Proof.Machine
end

