-- ==== Sys2Proof/Machine/Control.lean ====
section
/-! DEFINITION. The CTL group: NOP, the fences, the waits (R68 to R71, R81, R144, R409, R410). -/

namespace Sys2Proof.Machine

/-- The opcode of a command. -/
def isOp (op : Nat) (c : Cmd) : Bool := c.opcode == op

/-- NOP (R409). -/
def mNop : Meaning := { bad := fun _ _ => none, run := fun _ _ s => (s, some (okC 0)) }

def execNop (n : Nat) (s : State) : Host.Outcome State Fault Refusal := startRow s n (isOp 0x00) mNop

/-! ### Fences -/

/-- Whether the location of an instruction lies inside a fence's scope instance (R68, R69); a table store lies in no unit,
cluster or region (R263, log entry 17). -/
def inScope (op loc : Nat) (c : Cmd) : Bool :=
  let l := c.loc
  let tbl := c.opcode / 16 == 2
  let dieOk := locDie l == locDie loc || (locDie l == 7 && decide (locDie loc < 4)) ||
    (locDie loc == 7 && decide (locDie l < 4))
  match op with
  | 1 => !tbl && dieOk && l % 8192 / 64 == loc % 8192 / 64
  | 2 => !tbl && dieOk && l % 8192 / 2048 == loc % 8192 / 2048 && !dieWide l
  | 3 => !tbl && dieOk && l % 8192 / 4096 == loc % 8192 / 4096 && !dieWide l
  | 4 => dieOk
  | _ => true

/-- Whether an instruction belongs to the set of a fence (R68). -/
def State.inSet (s : State) (f g : Flight) : Bool :=
  decide (g.num < f.num) && !isBlocking g.cmd.opcode &&
    (g.ring == f.ring || bit (f.cmd.opa % 256) (s.ring g.ring).group) &&
    inScope f.cmd.opcode f.cmd.loc g.cmd && !(g.cmd.timed && g.td.rep == 0xFFFF)

/-- Whether a member of a fence's set is satisfied (R68): completed; a timed instruction as soon as it has been parked, or
with WAIT_TIMED by its final completion. -/
def State.fenceDone (s : State) (waitTimed : Bool) (g : Flight) : Bool :=
  if g.cmd.timed then
    if waitTimed then
      match g.phase with
      | .retired => true
      | .record status _ _ _ => s.lastOf g status
      | _ => false
    else g.phase != .issued
  else !g.phase.isOpen

/-- The ports that qualify for a MARK towards a partner (R144). -/
def State.markPorts (s : State) (partner : Nat) : List Nat :=
  ((sDies s.part).map (fun d => ((s.diePorts d).filter (fun p =>
    s.pstate d p == psUp && (s.rlkState d p == rlkLinked || s.rlkState d p == rlkDegraded) &&
      s.pflag d p R.RLK_CTRL_MARK_CAP && s.pfld d p R.RLK_CTRL_PARTNER_PKG == partner)).map (portKey d))).flatten

/-- The partners a FENCE.SYS names; the part's own bit is ignored (R70). -/
def State.partners (s : State) (c : Cmd) : List Nat :=
  if c.opcode = 6 then (bitList (c.opb % 2 ^ 32) 32).filter (· != s.arb R.RLK_SYS_PKG_NUM) else []

/-- The timeout of a FENCE.SYS in ticks, from its issue (R70). -/
def fenceTicks (c : Cmd) : Nat :=
  let t := bits c.opb 32 16
  usTicks (if t = 0 then 10000 else 100 * t)

/-- A fence starts: its set and its reported part are fixed (R68, R71), and the ring's next fence reports from behind it,
however it ends; a LOC that names a headstock is refused unless that is ACTIVE (R178, log entry 51); a FENCE.SYS with a
partner that no port qualifies for completes NO_TARGET (R70). -/
def mFence : Meaning :=
  { bad := fun _ _ => none
    run := fun f loc s =>
      let from_ := (s.ring f.ring).fenceFrom
      let s := s.setRing f.ring { s.ring f.ring with fenceFrom := f.num + 1 }
      match s.hsRefuse loc false, (s.partners f.cmd).find? (fun q => (s.markPorts q).isEmpty) with
      | some c, _ => (s, some c)
      | none, some q => (s, some { status := stNoTarget, detail := q })
      | none, none =>
        let members := (s.plyn.flights.filter (s.inSet f)).map Flight.num
        let x : Fence := { members := members, report := members.filter (fun k => decide (from_ ≤ k)),
                           mask := f.cmd.opb % 2 ^ 32 }
        let s := { s with plyn := { s.plyn with fences := Tab.set s.plyn.fences f.num x } }
        s.goesOn f.num (f.at_ + fenceTicks f.cmd) }

def execFenceUnit (n : Nat) (s : State) : Host.Outcome State Fault Refusal := startRow s n (isOp 0x01) mFence
def execFenceCluster (n : Nat) (s : State) : Host.Outcome State Fault Refusal := startRow s n (isOp 0x02) mFence
def execFenceRegion (n : Nat) (s : State) : Host.Outcome State Fault Refusal := startRow s n (isOp 0x03) mFence
def execFenceDie (n : Nat) (s : State) : Host.Outcome State Fault Refusal := startRow s n (isOp 0x04) mFence
def execFencePkg (n : Nat) (s : State) : Host.Outcome State Fault Refusal := startRow s n (isOp 0x05) mFence
def execFenceSys (n : Nat) (s : State) : Host.Outcome State Fault Refusal := startRow s n (isOp 0x06) mFence

/-- Whether an instruction is a timescale change that has started and that not all six tailstocks have obeyed: TIME.SET,
TIME.STEP and TIME.SLEW complete when they have (R69, R93, R96). -/
def Flight.changing (g : Flight) : Bool :=
  (g.cmd.opcode == 0x60 || g.cmd.opcode == 0x61 || g.cmd.opcode == 0x62) &&
    (match g.phase with
      | .exec _ => true
      | _ => false)

/-- Whether every timescale change in a fence's set is obeyed by all six tailstocks (R69). -/
def State.timeObeyed (s : State) (x : Fence) : Bool := x.members.all (fun k => !(s.flight k).any Flight.changing)

/-- Whether the local set of a fence is waited out (R68, R69). -/
def State.setDone (s : State) (f : Flight) (x : Fence) : Bool :=
  x.members.all (fun k => match s.flight k with
    | none => true
    | some g => s.fenceDone (bit f.cmd.opa 8) g) &&
  (decide (f.cmd.opcode < 5) || s.timeObeyed x)

/-- Completes a fence OK with the report of R71. -/
def State.fenceOk (s : State) (n : Nat) (x : Fence) : State :=
  let bad := x.report.any (fun k => match s.flight k with
    | none => false
    | some g => g.bad)
  let s := { s with plyn := { s.plyn with fences := Tab.del s.plyn.fences n } }
  s.complete n { status := stOk, detail := b2n bad, result := min x.report.length 0xFFFF }

/-- A MARK or MARK_ACK block (R144, R145). -/
def markMsg (id pkg epoch : Nat) : Nat := id % 65536 + pkg % 32 * 65536 + epoch % 65536 * 2 ^ 21

/-- Sends the MARKs of a FENCE.SYS whose local set is waited out (R70, R144). -/
def State.sendMarks (s : State) (f : Flight) (x : Fence) : State :=
  let id := (s.plyn.markerId + 1) % 65536
  let dst := ((s.partners f.cmd).map (fun q => (s.markPorts q).map (fun k => (q, k)))).flatten
  let x := { x with marked := true, marker := id, wait := dst }
  let s := { s with plyn := { s.plyn with markerId := id, fences := Tab.set s.plyn.fences f.num x } }
  dst.foldl (fun s w => s.sendRelka (w.2 / 128) (w.2 % 128) 5
    (markMsg id (s.arb R.RLK_SYS_PKG_NUM) (s.arb R.RLK_SYS_SYS_EPOCH))) s

/-- The partners of a fence that have not acknowledged (R70, R145). -/
def State.unacked (s : State) (f : Flight) (x : Fence) : List Nat :=
  (s.partners f.cmd).filter (fun q =>
    !(x.acked.any (fun w => w.1 == q) && !(x.wait.any (fun w => w.1 == q))))

/-- The last member of a fence's set has completed: the fence completes, or its MARKs go out (R68, R70, R144);
the last port towards it that was waited for is dropped, and the fence completes (R145). -/
def execFenceSetComplete (n : Nat) (s : State) : Host.Outcome State Fault Refusal :=
  match s.going n (fun c => isFence c.opcode), Tab.get? s.plyn.fences n with
  | some (f, _), some x =>
    if x.marked then .next (if (s.unacked f x).isEmpty then s.fenceOk n x else s)
    else if !s.setDone f x then .next s
    else if (s.partners f.cmd).isEmpty then
      .next (if f.cmd.opcode = 6 then (s.sendMarks f x).fenceOk n x else s.fenceOk n x)
    else .next (s.sendMarks f x)
  | _, _ => .next s

/-- A FENCE.SYS timeout (R70): the clock reaches it, and the fence completes TIMEOUT. -/
def execFenceSysTimeout (n : Nat) (s : State) : Host.Outcome State Fault Refusal :=
  match s.going n (isOp 6), Tab.get? s.plyn.fences n with
  | some (f, t), some x =>
    let left := s.unacked f x
    if left.isEmpty then .next s
    else
      let s := s.advanceTo t
      let s := { s with plyn := { s.plyn with fences := Tab.del s.plyn.fences n } }
      .next (s.complete n { status := stTimeout, detail := left.headD 0, result := left.length })
  | _, _ => .next s

/-! ### Waits -/

/-- WAIT.TIME (R81): a time outside the horizon completes OUT_OF_HORIZON (R15). -/
def mWaitTime : Meaning :=
  { bad := fun _ _ => none
    run := fun f _ s =>
      if sdiff f.cmd.opb s.txNow = -horizon then (s, some { status := stHorizon }) else s.goesOn f.num 0 }

def execWaitTime (n : Nat) (s : State) : Host.Outcome State Fault Refusal := startRow s n (isOp 0x08) mWaitTime

/-- The wait's instant on the event tailstock: the first tick at or after it, or the next tick when it has passed
(R81, R409). -/
def execWaitTimeDue (n : Nat) (s : State) : Host.Outcome State Fault Refusal :=
  match s.going n (isOp 0x08) with
  | none => .next s
  | some (f, _) =>
    let s := if 0 < sdiff f.cmd.opb s.txNow then s.advanceToU (fromTx64 (s.nowU 6) f.cmd.opb) else s.advance 1
    .next (s.complete n (okC 0))

/-- WAIT.EVENT (R410); its timeout runs from its issue. -/
def mWaitEvent : Meaning :=
  { bad := fun c _ => rangeBad (c.opa % 16 == 0 || decide (7 < c.opa % 16) || c.opb % 2 ^ 32 == 0)
    run := fun f _ s => s.goesOn f.num (f.at_ + usTicks (f.cmd.opb % 2 ^ 32)) }

def execWaitEvent (n : Nat) (s : State) : Host.Outcome State Fault Refusal := startRow s n (isOp 0x09) mWaitEvent

/-- No event of the kind within TIMEOUT (R410). -/
def execWaitEventTimeout (n : Nat) (s : State) : Host.Outcome State Fault Refusal :=
  match s.going n (isOp 0x09) with
  | none => .next s
  | some (_, t) => .next ((s.advanceTo t).complete n { status := stTimeout })

end Sys2Proof.Machine
end

