-- ==== Sys2Proof/Machine/CfgOps.lean ====
section
/-! DEFINITION. What register writes set going: LREF and the system PLLs (R320 to R328), the Relka asymmetry and the
Relka link's enable (R116, R131, R133), reservations of time-bound gate lists (R356). -/

namespace Sys2Proof.Machine

/-! ### Clocks -/

/-- A clock register's field. -/
def State.clkF (s : State) (f : Fld) : Nat := s.fld locClk f
/-- Stores a clock register's field. -/
def State.clkPut (s : State) (f : Fld) (v : Nat) : State := s.put locClk f v

/-- Whether a PLL index exists on the part (R323). -/
def pllOn (p : Part) (i : Nat) : Bool :=
  decide (i < 23) && (p != .ft2560E || !(i == 5 || i == 6 || decide (15 ≤ i)))

/-- The PLLs of the part (R323). -/
def plls (p : Part) : List Nat := (List.range 23).filter (pllOn p)

/-- Whether an input is stable (R319). -/
def State.inStable (s : State) (xb : Bool) : Bool :=
  s.flag locClk (if xb then R.CLK_STAT_XB_STABLE else R.CLK_STAT_XA_STABLE)

/-- Whether LREF is stable: its input is, and LREF is not lost (R322). -/
def State.lrefStable (s : State) : Bool :=
  s.inStable (s.flag locClk R.CLK_STAT_LREF_XB) && !s.flag locClk R.CLK_STAT_LREF_LOST

/-- Whether FAST_OSC is stable (R319). -/
def State.fastStable (s : State) : Bool := s.flag locClk R.CLK_STAT_FAST_STABLE

/-- Whether a PLL coasts (R324): it has lost its lock and no relock of it runs. -/
def State.coasting (s : State) (p : Nat) : Bool :=
  !s.flag locClk (R.CLK_PLL_LOCKED p) && !s.flag locClk (R.CLK_PLL_RELOCK_BUSY p)

/-- FAST_OSC is started, if it does not run (R317). -/
def State.fastStart (s : State) : State := s.setClk { s.clk with fastOn := true }

/-- A relock whose logic moves to FAST_OSC (R327 step 1); it waits where FAST_OSC is not yet stable (R319). -/
def State.relockRun (s : State) (p : Nat) : State :=
  if s.fastStable then
    (s.clkPut (R.CLK_PLL_ON_FAST p) 1).setClk { s.clk with relockAt := Tab.set s.clk.relockAt p s.now }
  else s

/-- A relock of a PLL to FAST_OSC or to LREF is asked for (R327). SRC_FAST shows the new reference from the end of the
relock on, as the example of R344 has it (log entry 69). -/
def State.relock (s : State) (p : Nat) (fast : Bool) : State :=
  let s := s.fastStart
  let s := (s.clkPut (R.CLK_PLL_LOCKED p) 0).clkPut (R.CLK_PLL_RELOCK_BUSY p) 1
  (s.setClk { s.clk with relockTo := Tab.set s.clk.relockTo p fast }).relockRun p

/-- Whether the reference of a PLL, or of its relock that runs, is FAST_OSC (R324, R327). -/
def State.onFast (s : State) (p : Nat) : Bool :=
  (Tab.get? s.clk.relockTo p).getD (s.flag locClk (R.CLK_PLL_SRC_FAST p))

/-- Ticks of the 4,096 cycles of its reference that a relock counts after lock (R327). -/
def State.relockTicks (s : State) (fast : Bool) : Nat :=
  let hz := if fast then 400000000 else
    s.clkF (if s.flag locClk R.CLK_STAT_LREF_XB then R.CLK_XFREQ_B_HZ else R.CLK_XFREQ_A_HZ)
  ceilDiv (4096 * 625000000) (max hz 1)

/-- Every PLL that references FAST_OSC returns to LREF (R326). -/
def State.sysBack (s : State) : State :=
  (plls s.part).foldl (fun s p =>
    if s.flag locClk (R.CLK_PLL_SRC_FAST p) && !s.flag locClk (R.CLK_PLL_RELOCK_BUSY p) then s.relock p false else s) s

/-- FAST_OSC stops once nothing uses it (R317, R326). -/
def State.fastRest (s : State) : State :=
  if s.hostReady && !s.flag locClk R.CLK_CTRL_FAST_KEEP && !(plls s.part).any (fun p =>
      s.flag locClk (R.CLK_PLL_SRC_FAST p) || s.flag locClk (R.CLK_PLL_RELOCK_BUSY p) || s.coasting p) then
    (s.setClk { s.clk with fastOn := false }).clkPut R.CLK_STAT_FAST_STABLE 0
  else s

/-- LREF moves to an input: every tailstock freezes its loop until the phase build-out ends (R321). -/
def State.lrefSwitch (s : State) (xb : Bool) : State :=
  let s := ((s.putB locClk R.CLK_STAT_LREF_XB xb).clkPut R.CLK_STAT_LREF_LOST 0).clkPut R.CLK_STAT_LREF_SWITCHED 1
  let s := s.bump locClk R.CLK_EVT_LREF_SWITCHES
  let s := s.setClk { s.clk with buildOut := true, lrefOn := true, lrefAt := s.now }
  let s := { s with tails := (List.range 6).map (fun t => (t, { s.tail t with frozen := true })) }
  s.raise (hubLoc 5) 0x02 (b2n xb)

/-- A write of LREF_SEL after host-ready: a planned switch where it changes, and the choice of an input where LREF is
lost; an input that is not stable is not switched to (R320, R322; log entry 18). -/
def State.lrefSel (s : State) (changed : Bool) : State :=
  let xb := s.flag locClk R.CLK_CTRL_LREF_SEL
  if s.hostReady && s.inStable xb && ((changed && s.flag locClk R.CLK_STAT_LREF_XB != xb)
      || s.flag locClk R.CLK_STAT_LREF_LOST) then s.lrefSwitch xb
  else s

/-! ### Relka asymmetry and enable -/

/-- a_src in 2^-16 ns, to the nearest (R133; log entry 20). -/
def State.asymSrc (s : State) (d p : Nat) : Int :=
  let dl : Int := (s.pfld d p R.RLK_LAMBDA_TX_LAMBDA : Int) - s.pfld d p R.RLK_LAMBDA_RX_LAMBDA
  match s.pfld d p R.RLK_STAT_ASYM_SRC with
  | 1 => roundDiv (sx (s.pfld d p R.RLK_DISP_DMID) 20 * (s.port d p).span * dl * 65536) 1000000000000
  | 2 => roundDiv (sx (s.pfld d p R.RLK_DL_DL) 32 * dl * 8) 125000
  | _ => 0

/-- The effective asymmetry a in 2^-16 ns (R133). -/
def State.asym (s : State) (d p : Nat) : Int := sx (s.pfld d p R.RLK_ASYM_CFG_CFG) 32 + s.asymSrc d p

/-- Recomputes a; the means restart when it changes (R130, R133). -/
def State.asymSync (s : State) (d p : Nat) : State :=
  let v := satBits (s.asym d p) 32
  if s.pfld d p R.RLK_ASYM_EFF_A = v then s
  else (s.setRelka d p { s.relka d p with meas := [] }).pput d p R.RLK_ASYM_EFF_A v

/-- Relka is enabled: ACQUIRE, PHASE_ACC from 0 (R129, R131). -/
def State.rlkEnable (s : State) (d p : Nat) : State :=
  ((s.setRelka d p { s.relka d p with phase := none }).pput d p R.RLK_PHASE_PHASE_ACC 0).rlkMove d p rlkAcquire

/-- Relka is disabled: OFF, with REASON 5; its blocks stop at once (R131). -/
def State.rlkDisable (s : State) (d p : Nat) : State :=
  if s.rlkState d p = rlkOff then s
  else (s.setRelka d p { s.relka d p with req := none, due := [], marks := [], part := [], lost := false }).rlkMoveR d p
    rlkOff 5

/-- RLK_CTRL.EN is written (R131). -/
def State.rlkSwitch (s : State) (d p : Nat) (en : Bool) : State :=
  if en then if s.rlkState d p = rlkOff then s.rlkEnable d p else s else s.rlkDisable d p

/-! ### Reservations (R356) -/

/-- Whether a gate list opens a time-bound class in any entry. -/
def State.listTimeBound (s : State) (d : Nat) (g : GateList) : Bool :=
  g.entries.any (fun e => (List.range 16).any (fun c => bit e.1 c && s.timeBound d c))

/-- Whether a port has an operational or pending list that opens a time-bound class. -/
def State.portTimeBound (s : State) (d p : Nat) : Bool :=
  let x := s.port d p
  x.oper.any (s.listTimeBound d) || x.pend.any (s.listTimeBound d)

/-- Whether a cluster needs a reservation (R356). -/
def State.needsResv (s : State) (d clu : Nat) : Bool :=
  (s.diePorts d).any (fun p => portClu p == clu && s.portTimeBound d p)

/-- Makes and releases reservations of a die's clusters; none when one does not fit (R349, R356). -/
def State.resvSync (s : State) (d : Nat) : Option State :=
  (List.range 4).foldl (fun s? k => match s? with
    | none => none
    | some s =>
      if s.needsResv d k then
        if s.hasResv d k then some s
        else if s.refusals d (some k) 364 = [] then some (s.takeResv d k) else none
      else if s.hasResv d k then some (s.dropResv d k) else some s) (some s)

/-- The request of an instruction for a cluster's reservation (R356). -/
def State.resvReq (s : State) (f : Flight) (d k : Nat) : WakeReq :=
  { die := d, clu := k, prio := if f.cmd.bg then 4 else 3, tick := s.now, num := some f.num, resv := true }

/-- The reservations that a die lacks (R356). -/
def State.resvLack (s : State) (d : Nat) : List Nat :=
  (List.range 4).filter (fun k => s.needsResv d k && !s.hasResv d k)

/-- The reservations that an instruction needs, `s` being the state with its effect. -/
def State.resvWants (s : State) (f : Flight) (d : Nat) : List WakeReq := (s.resvLack d).map (s.resvReq f d)

/-- One more reservation is made, or what refuses it is noted (R349, R353, R356). -/
def State.resvStep (f : Flight) (d : Nat) (x : State × List (Nat × Nat)) (k : Nat) : State × List (Nat × Nat) :=
  let r := x.1.resvReq f d k
  let no := x.1.refuse r (x.1.ahead r)
  if no = [] then (x.1.takeResv d k, x.2) else (x.1, x.2 ++ no)

/-- An instruction whose effect `s` holds makes the reservations it needs, or completes DENIED_BUDGET and changes nothing
of `old` (R356). -/
def State.resvGet (s old : State) (f : Flight) (d : Nat) (c : Compl) : Eff :=
  let x := (s.resvLack d).foldl (State.resvStep f d) (s, [])
  if x.2 = [] then ((x.1.resvSync d).getD x.1, some c) else (old, some (deniedC x.2 false))

end Sys2Proof.Machine
end

