-- ==== Sys2Proof/Machine/Cfg.lean ====
section
/-! DEFINITION. Reading and writing registers (R9, R412, R413, R444 to R447), and the CFG group (R411, R80). -/

namespace Sys2Proof.Machine

/-- What holds the registers of a location (R444). -/
inductive Blk where
  | none | fp | spn | cal | lane (d u l : Nat)
  | brg (d ep : Nat) | port (d p : Nat) | unit (d u : Nat) | fwd (d k : Nat) | cls (d : Nat) | slc (d k : Nat) | buf (d : Nat)
  | tas (die : Nat) | col | arb | led | clk | syn (k : Nat) | out (k o : Nat) | cap (n : Nat) | trg (n : Nat)
  | ckpt (tb : Bool)
  deriving DecidableEq, Repr

/-- The block of a location (R444). -/
def blk (loc : Nat) : Blk :=
  let d := locDie loc
  let u := locUnit loc
  let sb := locSub loc
  if loc = locFp then .fp
  else if loc ≥ 65536 then .none
  else if (d = 4 ∨ d = 5) ∧ u = 5 ∧ sb = 0 then .ckpt (d == 5)
  else if blockRegs loc = [] then .none
  else if d < 4 then
    if u ≤ 16 then
      if sb < 8 then .port d (locPort loc).2 else if sb = 16 then .unit d u else .lane d u (sb - 8)
    else if u = 20 then if sb = 0 then .fwd d (locClu loc) else .cls d
    else if u = 21 then if sb = 0 then .slc d (locClu loc) else .buf d
    else if u = 28 then if sb = 0 then .spn else .tas d
    else .brg d (u - 24)
  else if d = 6 then
    if u = 1 then .tas 6 else if u = 2 then .col else if u = 3 then .arb else if u = 4 then .led
    else if u = 6 then .clk
    else if u < 12 then if sb = 0 then .syn (u - 8) else .out (u - 8) sb
    else if u < 20 then .cap (u - 12) else if u < 28 then .trg (u - 20) else .spn
  else .cal

/-! ### Checkpoint slots (R186, R447) -/

/-- What the newest valid slot is read from: the STANDBY's store, without a STANDBY the store written last (R204). -/
def State.newestCkpt (s : State) : Option Ckpt :=
  s.pickCkpt ((s.hsIn hsStandby).getD ((s.hst.slots.find? (fun x => x.2.seq == s.hst.seq)).any (fun x => x.1 / 2 == 1)))

/-- The numbers of a committed step. -/
def stepNums : Option StepC → List Int
  | none => [0]
  | some x => [1, b2n x.set, x.offset, x.secs, x.sub, x.tick]

/-- The numbers of a checkpoint's servo block (R186). -/
def CkptServo.nums (c : CkptServo) : List Int :=
  [(c.state : Int), c.mode, c.slot, c.settle, c.fcw, b2n c.traced, c.slewLeft, c.slewRate, c.pend] ++ stepNums c.step

/-- The numbers of a reference slot in a checkpoint: its state, its fits and windows (R186). -/
def CkptSlot.nums (c : CkptSlot) : List Int :=
  [(c.state : Int), c.cause, c.slot.qual, c.wtr, b2n c.forecast, c.slot.delta, b2n c.slot.accept] ++ c.slot.gates

/-- The measurement filter of a reference slot in a checkpoint (R186). -/
def CkptSlot.filter (c : CkptSlot) : List Int :=
  (c.slot.offs.map (fun x => [(x.1 : Int), x.2])).flatten

/-- Bytes of an area whose content R186 names and does not lay out: they depend on that content alone (log entry 6). -/
def ckptArea (n : Nat) (content : List Int) : List Byte := (List.range n).map (Config.ckptByte content)

/-- The bytes of a checkpoint below its CRC (R186). -/
def ckptBody (c : Ckpt) : List Byte :=
  let fcw (i : Nat) : List Byte := leBytes 8 (toBits (c.hist.short.getD i 0) 64)
  let bin (i : Nat) : List Byte :=
    let b := c.hist.bins.getD i {}
    leBytes 8 b.count ++ leBytes 8 (toBits b.st 64) ++ leBytes 8 (toBits b.sf 64) ++ leBytes 8 (toBits b.st2 64)
      ++ leBytes 8 (toBits b.stf 64)
  leBytes 4 c.seq ++ leBytes 2 1 ++ leBytes 1 (b2n c.tb) ++ leBytes 1 0 ++ leBytes 8 c.time
    ++ ckptArea 0x100 c.servo.nums ++ ((List.range 8).map (fun i => ckptArea 64 ((c.refs[i]?.map CkptSlot.nums).getD []))).flatten
    ++ ((List.range 80).map fcw).flatten ++ ((List.range 48).map bin).flatten
    ++ ((List.range 8).map (fun i => ckptArea 64 (1 :: (c.refs[i]?.map CkptSlot.filter).getD []))).flatten
    ++ leBytes 8 (toBits c.hist.accMean 64) ++ leBytes 8 c.hist.accTc ++ List.replicate 0xD8 0

/-- A checkpoint slot as its 4 KiB of bytes (R186); a torn slot's bytes are free. -/
def ckptBytes (key : Nat) (c : Ckpt) : List Byte :=
  if c.torn then ckptArea 4096 [(key : Int), c.seq]
  else
    let b := ckptBody c
    b ++ leBytes 4 (crc32 b) ++ leBytes 4 (0xA5000000 + c.seq % 2 ^ 24)

/-- A word of a headstock's checkpoint store; a slot never written reads 0 (log entry 13). -/
def State.ckptWord (s : State) (tb : Bool) (off : Nat) : Nat :=
  if off < 0x2000 then
    let key := 2 * b2n tb + off / 4096
    match Tab.get? s.hst.slots key with
    | none => 0
    | some c => leAt (ckptBytes key c) (off % 4096) 4
  else 0

/-! ### Registers computed on reading -/

/-- The fields of a register that show other state as it is now. -/
def State.derived (s : State) (b : Blk) (off : Nat) : List (Fld × Nat) :=
  match b with
  | .port d p =>
    if off = 0x28 then [(R.LANDING_OCC_BYTES, satNat ((s.port d p).landing.map (fun f => f.bytes.length)).sum 15)]
    else if off = 0x224 then [(R.TSQ_STAT_USED, (s.port d p).tsq.length)]
    else if off = 0x800 then
      [(R.QUE_STAT_HOLD_LEFT, satNat (ceilDiv (((s.port d p).holdEnd.getD 0) - s.now) 625) 16),
       (R.QUE_STAT_GATES_OPER, b2n (s.port d p).oper.isSome), (R.QUE_STAT_GATES_PENDING, b2n (s.port d p).pend.isSome)]
    else if off = 0x80C then [(R.QUE_HEADROOM_CELLS, s.hp d p)]
    else if off = 0x814 then [(R.CRD_WINDOW_W, s.window d p)]
    else if 0x840 ≤ off ∧ off < 0x880 then
      let c := (off - 0x840) / 4
      [(R.QUE_DEPTH_CELLS c, ((s.port d p).queue.map (fun e => if e.cls = c then e.cells else 0)).sum)]
    else if 0x900 ≤ off ∧ off < 0x940 then
      let c := (off - 0x900) / 4
      [(R.CRD_AVAIL_AVAIL c, toBits (((s.credit d p c).limIn : Int) - (s.credit d p c).sent) 20)]
    else []
  | .lane d u l =>
    if off = 0x14 then [(R.PRBS_BITS_LO_BITS, s.prbsBits d u l)]
    else if off = 0x18 then [(R.PRBS_BITS_HI_BITS, s.prbsBits d u l / 2 ^ 32)] else []
  | .brg d ep =>
    let far := facingDie d ep
    if off = 0 then
      [(R.BRG_STAT_FAILOVER, b2n (s.failFor d far 500)),
       (R.BRG_STAT_SPARES_LEFT, s.fld (brgLoc d far) R.BRG_STAT_SPARES_LEFT
          - b2n ((s.brg d far).failAt.isSome && s.failFor d far 6000))]
    else []
  | .cls d =>
    if off = 0x48 then [(R.PIN_STAT_IN_GAP, (s.die d).gaps.length)]
    else if 0x60 ≤ off ∧ off < 0x80 then
      [(R.MIR_STAT_EN ((off - 0x60) / 4), b2n (Tab.get? (s.die d).mirs ((off - 0x60) / 4)).isSome)]
    else []
  | .slc d k => [(R.BUF_SLICE_USED, s.sliceUsed d k)]
  | .buf d =>
    if off = 0 then [(R.BUF_FREE_CELLS, s.cellsFree d)] else if off = 4 then [(R.BUF_USED_CELLS, s.cellsUsed d)]
    else if off = 8 then [(R.BUF_QUAR_CELLS, s.quar d)] else if off = 0xC then [(R.BUF_RESERVED_CELLS, s.reserved d)]
    else []
  | .tas die => if off = 0x104 then [(R.TAS_STAT_USED, s.parkedIn die)] else []
  | .cap n => if off = 4 then [(R.CAP_STAT_USED, (s.cap n).queue.length)] else []
  | .arb =>
    if off = 0x704 then [(R.HST_STAT_TA_STATE, s.hs false), (R.HST_STAT_TB_STATE, s.hs true)]
    else if off = 0x70C then [(R.HST_CKPT_SEQ_SEQ, (s.newestCkpt.map Ckpt.seq).getD 0)]
    else if off = 0x710 then
      [(R.HST_CKPT_AGE_AGE, (s.newestCkpt.map (fun c => satNat ((sdiff s.txNow c.time).toNat / 65536000) 32)).getD 0)]
    else []
  | _ => []

/-- Whether the registers of a location read 0 and take no write: a port its mode does not provide (R233), an
index of a die that is fused off (R323, R362). -/
def State.dead (s : State) (b : Blk) (off : Nat) : Bool :=
  match b with
  | .port d p => !s.present d p
  | .clk => decide (0x100 ≤ off) && !pllOn s.part ((off - 0x100) / 4)
  | .led =>
    let d := if 0x100 ≤ off ∧ off < 0x110 then (off - 0x100) / 4
      else if 0x120 ≤ off ∧ off < 0x160 then (off - 0x120) / 16
      else if 0x160 ≤ off ∧ off < 0x1E0 then (off - 0x160) / 32
      else if 0x200 ≤ off ∧ off < 0x240 then (off - 0x200) / 16 else 0
    !dieOn s.part d
  | .col => decide (0x60 ≤ off) && decide (off < 0x70) && !dieOn s.part ((off - 0x60) / 4)
  | _ => false

/-- The word of a register as it reads now, without the effect of the read. -/
def State.peek (s : State) (loc off : Nat) : Word :=
  let b := blk loc
  match b with
  | .ckpt tb => BitVec.ofNat 32 (s.ckptWord tb off)
  | _ =>
    if (fieldsAt loc off).isNone || s.dead b off then 0
    else (s.derived b off).foldl (fun w x => fset w x.1.lo x.1.len x.2) (s.reg loc off)

/-- The mask of the fields of an access code (R9). -/
def maskOf (fs : List FieldDesc) (a : Acc → Bool) : Word :=
  fs.foldl (fun m f => if a f.acc then m ||| BitVec.ofNat 32 ((2 ^ f.len - 1) * 2 ^ f.lo) else m) 0

/-- WO fields read 0 (R9). -/
def isWo : Acc → Bool
  | .wo => true
  | _ => false
def isRc : Acc → Bool
  | .rc => true
  | _ => false
def isRw : Acc → Bool
  | .rw => true
  | _ => false
def isW1c : Acc → Bool
  | .w1c => true
  | _ => false

/-- Brings the counters that run with time up to date before they are read (R237, R249). -/
def State.settle (s : State) (b : Blk) (off : Nat) : State :=
  match b with
  | .port d p => if off = 0x10 then s.cwSync d p else s
  | .lane d u l => if off = 0xC ∨ off = 0x10 then s.prbsSync d u l 0 else s
  | _ => s

/-- Reads a register: its word, and the state with its RC fields cleared (R9, R412). -/
def State.readReg (s : State) (loc off : Nat) : Nat × State :=
  let s := s.settle (blk loc) off
  let w := s.peek loc off
  match fieldsAt loc off with
  | none => (w.toNat, s)
  | some fs =>
    let rc := maskOf fs isRc
    ((w &&& ~~~(maskOf fs isWo)).toNat,
      if w &&& rc = 0 then s else s.setReg loc off (s.reg loc off &&& ~~~rc))

/-- Whether a written word has a 1 in a reserved bit (R413). -/
def reservedOnes (fs : List FieldDesc) (w : Word) : Bool := (w &&& ~~~(maskOf fs (fun _ => true))) != 0

/-- The stored word after a write under the access codes (R9). -/
def newWord (fs : List FieldDesc) (old w : Word) : Word :=
  let rw := maskOf fs isRw
  let wc := maskOf fs isW1c
  (old &&& ~~~rw &&& ~~~(w &&& wc)) ||| (w &&& rw)

/-- The fields of a register for a write: TX_MAP belongs to main units, SVC_25G to the service unit (R258). -/
def writeFields (loc off : Nat) : Option (List FieldDesc) :=
  match blk loc with
  | .unit _ u => (fieldsAt loc off).map (fun fs => fs.filter (fun f => !(u == 16 && off == 0 && f.lo == 8)))
  | _ => fieldsAt loc off

/-! ### The rules that own registers -/

/-- A permutation of the four lanes (R258). -/
def isPerm (m : Nat) : Bool :=
  (List.range 4).all (fun l => (List.range 4).any (fun i => bits m (2 * i) 2 == l))

/-- The value that a write stores where a rule moves it into range (R221, R256, R286, R363). -/
def clamp (b : Blk) (off : Nat) (w : Word) : Word :=
  match b with
  | .port _ _ => if off = 8 ∧ 10000 < fget w 0 14 then fset w 0 14 10000 else w
  | .cls _ => if off = 0x44 ∧ fget w 0 16 < 100 then fset w 0 16 100 else w
  | .cap _ => if off = 0 ∧ fget w 16 16 < 100 then fset w 16 16 100 else w
  | .fwd _ _ => if off = 0x20 ∧ fget w 16 16 = 0 then fset w 16 16 1 else w
  | _ => w

/-- Whether a register's own rule refuses the word to be stored, with BAD_OPERAND (R116, R140, R154, R175, R204, R212,
R256, R258, R271, R362; reserved values: log entry 19). -/
def State.ruleBad (s : State) (b : Blk) (off : Nat) (w : Word) : Bool :=
  match b with
  | .port d p =>
    if off = 4 then decide (fget w 16 14 < 64) || decide (9216 < fget w 16 14)
    else if off = 0x300 then
      (fget w 0 1 == 1 && !s.rlkFit d p && s.rlkState d p == rlkOff) || decide (5 < fget w 4 3)
    else false
  | .unit _ u => off == 0 && u != 16 && !isPerm (fget w 8 8)
  | .cls _ => decide (off < 0x40) && fget w 0 2 == 3
  | .arb =>
    if off = 0x504 then !(decide (fget w 0 10 < fget w 10 10) && decide (fget w 10 10 < fget w 20 10))
    else if off = 0x508 then fget w 0 8 == 0
    else if off = 0x50C then
      fget w 8 16 == 0 || decide (50000 < fget w 8 16) || decide (s.arb R.REF_SANITY_SANITY < fget w 0 8)
    else if off = 0x510 then decide (w.toNat < s.arb R.REF_PHASE_SLEW_THR)
    else if off = 0x5B4 then fget w 0 8 == 0 || decide (48 < fget w 0 8) || decide (16 < fget w 8 8)
    else if off = 0x700 then fget w 8 8 == 0
    else false
  | .led => off == 0x300 && decide (gradeMax s.part < sx (fget w 0 16) 16)
  | .clk => decide (0x100 ≤ off) && fget w 4 2 == 3
  | .syn _ => off == 0x10 && w == 0
  | .out _ _ => off == 0 && fget w 0 3 == 7
  | .cap _ => off == 0 && fget w 2 2 == 3
  | _ => false

/-- The STATE_CONFLICT of a register's own rule (R105, R140, R141, R221, R227, R258, R290, R328). -/
def State.ruleConflict (s : State) (b : Blk) (off : Nat) (old new : Word) : Option Compl :=
  match b with
  | .port d p =>
    if off = 4 then
      let t := s.setReg (portLoc d p) off new
      if s.raisesOver t d then some (conflictC 0xF0) else none
    else if off = 0x220 then
      if fget new 0 1 ≠ fget old 0 1 ∧ (s.port d p).tsq ≠ [] then some (conflictC (s.port d p).tsq.length) else none
    else if off = 0x300 then
      if s.rlkState d p ≠ rlkOff ∧ new ≠ old ∧ new ≠ fset old 0 1 0 then some (conflictC (s.rlkState d p)) else none
    else none
  | .unit d u =>
    if off = 0 ∧ u ≠ 16 then
      match (s.unitPorts d u).find? (fun p => s.pstate d p != psDisabled) with
      | some p => some (conflictC (s.pstate d p))
      | none => none
    else none
  | .buf d =>
    if off = 0x10 ∧ fget old 0 19 < fget new 0 19 ∧ (s.setReg (bufLoc d) off new).overLimit d then
      some (conflictC 0xF0) else none
  | .arb =>
    if off = 0x400 ∧ (sDies s.part).any (fun d => (s.diePorts d).any (fun p => s.pflag d p R.RLK_CTRL_EN)) then
      some (conflictC 0) else none
  | .clk =>
    if 0x100 ≤ off then
      let p := (off - 0x100) / 4
      if fget new 4 2 ≠ fget old 4 2 ∧ (s.coasting p ∨ s.flag locClk (R.CLK_PLL_RELOCK_BUSY p)
          ∨ s.flag locClk (R.CLK_PLL_SRC_FAST p)) then some (conflictC 1) else none
    else none
  | .cap n =>
    if off = 0 then
      if fget old 4 1 ≠ fget new 4 1 ∧ (s.cap n).queue ≠ [] then some (conflictC (min (s.cap n).queue.length 0xFF))
      else if fget old 0 1 = 1 ∧ fset old 0 1 0 ≠ fset new 0 1 0 then some (conflictC 0) else none
    else none
  | .trg n =>
    let st := s.fld (hubLoc (20 + n)) R.TRG_STAT_STATE
    if st = 0 ∨ 0x28 ≤ off ∨ off = 0x1C then none
    else if off = 0 then if fget old 0 3 = fget new 0 3 then none else some (conflictC st)
    else some (conflictC st)
  | _ => none

/-- Every credited class of a port recomputes its LIMIT (R295, R296). -/
def State.windowSync (s : State) (d p : Nat) : State := (s.credited d p).foldl (fun s c => s.creditSync d p c) s

/-- An action is cancelled (R80): at once while its action time lies ahead; one whose action time lies at or before the
present tick makes that execution, and ends then if its series would go on. -/
def State.cancelAction (s : State) (f : Flight) : State :=
  match f.phase with
  | .parked due =>
    if sdiff due (tx64 (s.nowU f.cmd.timeDie)) ≤ 0 then s.setFlight { f with cancel := true } else s.abortFlight f
  | _ => s.setFlight { f with cancel := true }

/-- Cancels the actions of a store that match: parked ones, and those whose series would be parked there again (R80; log
entry 66). A broadcast is one action in every S-die store. -/
def State.tasCancel (s : State) (die cookie ring : Nat) : State :=
  (s.plyn.flights.filter (fun f => f.entry && (storeDies s.part f.cmd).contains die && f.ring == ring
      && f.cmd.cookie == cookie)).foldl State.cancelAction s

/-- Relka references whose partner is not traceable fail once ACCEPT_UNTRACED is 0 (R153). -/
def State.untraced (s : State) : State :=
  if s.flag locArb R.REF_CTRL_ACCEPT_UNTRACED then s
  else
    ((List.range 8).filter (fun i => s.refKind i == 6 && !s.refTraceable i && s.refState i != 0)).foldl
      State.activityFail s

/-- What a stored write sets going, `w` being the word written and `res` its result; none in the second part where the write goes on. -/
def State.ruleEffect (s : State) (b : Blk) (off : Nat) (old new w : Word) (f : Flight) (res : Nat) : Eff :=
  let n := f.num
  let ok := some (okC 0)
  match b with
  | .port d p =>
    if off = 4 then (s.windowSync d p, ok)
    else if off = 0x300 then
      (s.rlkSwitch d p (fget new 0 1 == 1), ok)
    else if 0x314 ≤ off ∧ off ≤ 0x320 then (s.asymSync d p, ok)
    else (s, ok)
  | .cls d =>
    if off < 0x40 then
      match s.resvGet s f d (okC 0) with
      | (t, some c) => (if isBad c.status then t else (t.diePorts d).foldl (fun s p => s.windowSync d p) t, some c)
      | r => r
    else (s, ok)
  | .tas die => if off = 0x100 then (s.tasCancel die (fget w 0 16) (fget w 16 5), ok) else (s, ok)
  | .arb => (if off = 0x500 then s.untraced else s, ok)
  | .trg n => (if off = 0 then s.trgSafe n else s, ok)
  | .col => if off = 0 then (s.faultNSync, ok) else (s, ok)
  | .clk =>
    if off = 0 then
      let s := s.lrefSel (fget old 0 1 != fget new 0 1)
      let s := if fget w 5 1 = 1 ∧ s.lrefStable then s.sysBack else s
      (if fget new 3 1 = 1 then s.fastStart else s.fastRest, ok)
    else if 0x100 ≤ off ∧ fget old 4 2 ≠ fget new 4 2 then
      let p := (off - 0x100) / 4
      let s := s.relock p false
      (s.setPhase n (.exec 0)).setClk { s.clk with num := Tab.set s.clk.num p (n, res) } |> fun s => (s, none)
    else (s, ok)
  | _ => (s, ok)

/-! ### The CFG group (R411 to R413, R445) -/

/-- The byte offset of a CFG instruction (R411). -/
def Cmd.cfgOff (c : Cmd) : Nat := c.opa + bits c.opb 0 8 * 65536

/-- The first location a command acts at: a broadcast's lowest enabled die. -/
def State.firstLoc (s : State) (c : Cmd) : Nat :=
  if locDie c.loc = 7 then onDie c.loc ((sDies s.part).headD 0) else c.loc

/-- A sub-block without registers, and a write to a port that is absent, have no target (R233, R445; log entry 21). -/
def State.cfgTarget (s : State) (loc : Nat) (write : Bool) : Option Compl :=
  match blk loc with
  | .none => some { status := stNoTarget }
  | .port d p => if write && !s.present d p then some { status := stNoTarget } else none
  | _ => none

/-- CFG.READ (R411, R412): the words go to the host from the lowest die a broadcast reaches; where that write fails, the
RC fields stay cleared (R401). -/
def mCfgRead : Meaning :=
  { bad := fun c _ => rangeBad (c.cfgOff % 4 != 0)
    run := fun f loc s =>
      match s.cfgTarget loc false with
      | some c => (s, some c)
      | none =>
        let cnt := bits f.cmd.opb 8 4 + 1
        let r := (List.range cnt).foldl (fun (x : List Nat × State) i =>
          let y := x.2.readReg loc (f.cmd.cfgOff + 4 * i)
          (x.1 ++ [y.1], y.2)) ([], s)
        let lowest := locDie f.cmd.loc != 7 ||
          (sDies s.part).find? (fun d => !s.targetContained f.cmd (onDie f.cmd.loc d)) == some (locDie loc)
        if lowest then
          match r.2.dmaWrite (bits f.cmd.opb 12 52 * 64) ((r.1.map (leBytes 4)).flatten) with
          | none => (r.2, some dmaFaultC)
          | some t => (t, some (okC (r.1.headD 0)))
        else (r.2, some (okC (r.1.headD 0))) }

/-- The word a CFG.MODIFY writes back (R413). -/
def modifyWord (fs : List FieldDesc) (old : Word) (lsb msb v : Nat) : Word :=
  let mask : Word := BitVec.ofNat 32 (2 ^ (msb + 1) - 2 ^ lsb)
  (old &&& maskOf fs isRw &&& ~~~mask) ||| (BitVec.ofNat 32 (v * 2 ^ lsb) &&& mask)

/-- The word that a CFG.WRITE or CFG.MODIFY writes to a register. -/
def Cmd.cfgWord (c : Cmd) (fs : List FieldDesc) (old : Word) : Word :=
  if c.opcode = 0x11 then BitVec.ofNat 32 (bits c.opb 32 32)
  else modifyWord fs old (bits c.opb 8 5) (bits c.opb 13 5) (bits c.opb 32 32)

/-- The BAD_OPERAND of a register write at a location, the lowest code first (R400, R413, R447). -/
def State.cfgBad (s : State) (c : Cmd) (loc : Nat) : Option Nat :=
  if s.cfgTarget loc true = none then
    match writeFields loc c.cfgOff with
    | none => some 8
    | some fs =>
      let old := s.peek loc c.cfgOff
      let w := c.cfgWord fs old
      if reservedOnes fs w then some 1
      else if c.cfgOff % 4 ≠ 0 then some 6
      else if !s.dead (blk loc) c.cfgOff && s.ruleBad (blk loc) c.cfgOff (clamp (blk loc) c.cfgOff (newWord fs old w))
        then some 8 else none
  else none

/-- The word that a CFG.WRITE or CFG.MODIFY leaves in a register (R9, R413). -/
def State.cfgNew (s : State) (c : Cmd) (loc : Nat) (fs : List FieldDesc) : Word :=
  clamp (blk loc) c.cfgOff (newWord fs (s.reg loc c.cfgOff) (c.cfgWord fs (s.peek loc c.cfgOff)))

/-- The reservations that a write of TC_ATTR needs (R356). -/
def State.cfgWants (s : State) (f : Flight) (loc : Nat) : List WakeReq :=
  match blk loc, writeFields loc f.cmd.cfgOff with
  | .cls d, some fs =>
    if f.cmd.cfgOff < 0x40 then (s.setReg loc f.cmd.cfgOff (s.cfgNew f.cmd loc fs)).resvWants f d else []
  | _, _ => []

/-- The operand ranges of CFG.WRITE and CFG.MODIFY (R411). -/
def Cmd.cfgRange (c : Cmd) : Option Nat :=
  let lsb := bits c.opb 8 5
  let msb := bits c.opb 13 5
  rangeBad (c.cfgOff % 4 != 0 ||
    (c.opcode == 0x12 && (decide (msb < lsb) || decide (2 ^ (msb - lsb + 1) ≤ bits c.opb 32 32))))

/-- The lower of two causes (R400). -/
def lowest (a b : Option Nat) : Option Nat :=
  match a, b with
  | some x, some y => some (min x y)
  | some x, none => some x
  | none, y => y

/-- CFG.WRITE and CFG.MODIFY (R411, R413). -/
def mCfgWrite : Meaning :=
  { bad := fun c s => lowest c.cfgRange (s.cfgBad c (s.firstLoc c))
    run := fun f loc s =>
      match s.cfgTarget loc true with
      | some c => (s, some c)
      | none =>
        match s.cfgBad f.cmd loc, writeFields loc f.cmd.cfgOff with
        | some d, _ => (s, some (badC d))
        | none, none => (s, some (badC 8))
        | none, some fs =>
          let off := f.cmd.cfgOff
          let b := blk loc
          let seen := s.peek loc off
          let w := f.cmd.cfgWord fs seen
          let old := s.reg loc off
          let new := s.cfgNew f.cmd loc fs
          let res := okC (if f.cmd.opcode = 0x12 then
            bits seen.toNat (bits f.cmd.opb 8 5) (bits f.cmd.opb 13 5 - bits f.cmd.opb 8 5 + 1) else 0)
          if s.dead b off then (s, some res)
          else
            match s.ruleConflict b off old new with
            | some c => (s, some c)
            | none =>
              match (s.setReg loc off new).ruleEffect b off old new w f res.result with
              | (t, none) => (t, none)
              | (t, some c) =>
                if c.status = stOk then (t, some res)
                else (s, some c)
    wants := fun f loc s => s.cfgWants f loc }

/-- Whether a command is a register write to an offset of some location. -/
def writesTo (loc off : Nat → Bool) (c : Cmd) : Bool :=
  (c.opcode == 0x11 || c.opcode == 0x12) && loc c.loc && off c.cfgOff

def execCfgRead (n : Nat) (s : State) : Out := startRow s n (isOp 0x10) mCfgRead
def execCfgWrite (n : Nat) (s : State) : Out := startRow s n (isOp 0x11) mCfgWrite
def execCfgModify (n : Nat) (s : State) : Out := startRow s n (isOp 0x12) mCfgWrite

/-- A write of TAS_CANCEL (R80). -/
def execTasCancelWrite (n : Nat) (s : State) : Out :=
  startRow s n (writesTo (fun l => l == 0xC041 || (locUnit l == 28 && locSub l == 1)) (· == 0x100)) mCfgWrite

/-- A write of CLK_CTRL with SYS_TO_LREF set (R326). -/
def execSysToLref (n : Nat) (s : State) : Out :=
  startRow s n (fun c => writesTo (· == locClk) (· == 0) c &&
    bit (c.cfgWord ((fieldsAt locClk 0).getD []) 0).toNat 5) mCfgWrite

/-- A write of CLK_CTRL, which holds LREF_SEL (R320, R321). -/
def execLrefSelWrite (n : Nat) (s : State) : Out := startRow s n (writesTo (· == locClk) (· == 0)) mCfgWrite

/-- A write of a CLK_PLL register, which holds RATIO (R328). -/
def execPllRatioWrite (n : Nat) (s : State) : Out :=
  startRow s n (writesTo (· == locClk) (fun o => decide (0x100 ≤ o) && decide (o < 0x15C))) mCfgWrite

end Sys2Proof.Machine
end

