-- ==== Sys2Proof/Machine/Tables.lean ====
section
/-! DEFINITION. Tables, banks and the TBL group (R262 to R269, R274, R276, R278, R414 to R416, R446). -/

namespace Sys2Proof.Machine

/-! ### Banks (R262, R263, R266) -/

/-- Entries of each table (R262). -/
def tblSize (id : Nat) : Nat :=
  match id with
  | 0 => 262144 | 1 => 524288 | 2 => 131072 | 3 => 8192 | 4 => 4096 | 5 => 4096 | 6 => 65536 | 7 => 16384
  | 8 => 128 | _ => 256

/-- The bank of a table that frames read (R266). -/
def State.liveBank (s : State) (d id : Nat) : Nat := s.fld (clsLoc d) ⟨0x50, id, 1⟩

/-- The bank that BANK names: 0 shadow, 1 live (R263). -/
def State.bankOf (s : State) (d id : Nat) (live : Bool) : Nat :=
  if live then s.liveBank d id else 1 - s.liveBank d id

/-- The entries of a bank, by rising index. -/
def State.tbl (s : State) (d id bank : Nat) : List TEnt := Tab.get [] (s.die d).tables (2 * id + bank)
/-- Replaces the entries of a bank. -/
def State.setTbl (s : State) (d id bank : Nat) (es : List TEnt) : State :=
  s.setDie d { s.die d with tables := Tab.set (s.die d).tables (2 * id + bank) es }

/-- Puts an entry at its index. -/
def putEnt (e : TEnt) : List TEnt → List TEnt
  | [] => [e]
  | x :: xs => if e.idx < x.idx then e :: x :: xs else if e.idx = x.idx then e :: xs else x :: putEnt e xs

/-- The `r`-th index that no entry takes. -/
def freeIdx (es : List TEnt) (r : Nat) : Nat := es.foldl (fun c e => if e.idx ≤ c then c + 1 else c) r

/-- Whether a table's key is its index (R416). -/
def keyIsIndex (id : Nat) : Bool := decide (4 ≤ id)

/-! ### Records (R415, R416) -/

/-- A table record as read from host memory (R415). -/
structure TRec where
  index : Nat
  flags : Nat
  id    : Nat
  rsvd  : Nat
  key   : Nat
  mask  : Nat
  res   : Nat
  deriving DecidableEq, Repr

/-- Reads a record's 256 bytes (R415). -/
def recOf (bs : List Byte) : TRec :=
  { index := leAt bs 0 4, flags := leAt bs 4 1, id := leAt bs 5 1, rsvd := leAt bs 6 10, key := leAt bs 0x10 64,
    mask := leAt bs 0x50 64, res := leAt bs 0x90 112 }

/-- The 256 bytes of a record that gives an entry (R415). -/
def recBytes (id flags : Nat) (e : TEnt) : List Byte :=
  leBytes 4 e.idx ++ leBytes 1 (flags % 2 + 2) ++ leBytes 1 id ++ leBytes 10 0 ++ leBytes 64 e.key ++ leBytes 64 e.mask
    ++ leBytes 112 e.res

/-- Bytes of a number from byte `i`. -/
def byteAt (x i n : Nat) : Nat := bits x (8 * i) (8 * n)

/-- Bytes that KEY and RESULT use (R416). -/
def keyLen (id : Nat) : Nat :=
  match id with
  | 0 => 8 | 1 => 6 | 2 => 18 | 3 => 62 | 8 => 1 | 9 => 1 | _ => 2
def resLen (id : Nat) : Nat :=
  match id with
  | 0 => 4 | 1 => 2 | 2 => 2 | 3 => 5 | 4 => 8 | 5 => 77 | 6 => 12 | 7 => 36 | 8 => 34 | _ => 1

/-- Whether a key field lies outside its range (R415, R416). -/
def keyRange (id key : Nat) : Bool :=
  match id with
  | 0 => decide (4096 ≤ byteAt key 0 2)
  | 1 => decide (32 < byteAt key 1 1)
  | 2 => decide (128 < byteAt key 1 1)
  | 3 => false
  | _ => decide (tblSize id ≤ byteAt key 0 2)

/-- A port reference whose port does not exist (R416). -/
def refRange (r : Nat) : Bool := decide (72 ≤ bits r 0 7)
/-- Reserved bits of a port reference. -/
def refLayout (r : Nat) : Bool := bits r 9 7 != 0
/-- A target that its KIND does not admit: a port reference, whose port field 127 is the host target (R440), an
aggregation group, a multicast group. -/
def targetRange (kind t : Nat) : Bool :=
  match kind with
  | 0 => refRange t && bits t 0 7 != 127
  | 1 => decide (128 ≤ t)
  | 2 => decide (16384 ≤ t)
  | _ => false
/-- A service port (R274). -/
def refService (r : Nat) : Bool := decide (64 ≤ bits r 0 7) && decide (bits r 0 7 < 72)

/-- Whether a result field lies outside its range (R274, R276, R416, R446). -/
def resRange (id res : Nat) : Bool :=
  let kind := byteAt res 0 1
  match id with
  | 0 => decide (3 < kind) || targetRange kind (byteAt res 2 2)
  | 4 =>
    decide (4 < kind) ||
      (kind == 2 && (decide (byteAt res 1 1 < 2) || decide (64 < byteAt res 1 1) || byteAt res 2 2 == 0)) ||
      ((kind == 3 || kind == 4) && !(refService (byteAt res 4 2) && refService (byteAt res 6 2)))
  | 5 => decide (16384 ≤ byteAt res 72 2) || (byteAt res 75 1 != 0xFF && decide (16 ≤ byteAt res 75 1))
  | 6 => decide (2 < kind) || (kind != 2 && targetRange kind (byteAt res 2 2)) || decide (4096 ≤ byteAt res 10 2)
  | 8 =>
    kind == 0 || decide (16 < kind) || (List.range (min kind 16)).any (fun j => refRange (byteAt res (2 + 2 * j) 2))
  | 9 => (List.range 3).any (fun j => bits res (2 * j) 2 == 3)
  | _ => false

/-- Whether a reserved bit of a result is 1 (R416). -/
def resLayout (id res : Nat) : Bool :=
  let kind := byteAt res 0 1
  match id with
  | 0 => decide (1 < byteAt res 1 1) || (kind == 0 && refLayout (byteAt res 2 2))
  | 3 => bits res 5 3 != 0 || decide (1 < byteAt res 1 1) || decide (15 < byteAt res 2 1) || bits res 36 3 != 0
  | 4 =>
    if kind = 3 ∨ kind = 4 then refLayout (byteAt res 4 2) || refLayout (byteAt res 6 2) else byteAt res 4 4 != 0
  | 5 => decide (3 < byteAt res 76 1)
  | 6 => byteAt res 1 1 != 0 || (kind == 0 && refLayout (byteAt res 2 2))
  | 8 => byteAt res 1 1 != 0 ||
      (List.range (min kind 16)).any (fun j => refLayout (byteAt res (2 + 2 * j) 2))
  | 9 => bits res 6 2 != 0
  | _ => false

/-- Table and bank of a TBL instruction (R263). -/
def Cmd.tblId (c : Cmd) : Nat := bits c.opa 0 4
def Cmd.tblLive (c : Cmd) : Bool := bit c.opa 4

/-- Whether a record's INDEX is an input (R415). -/
def usesIndex (c : Cmd) (r : TRec) : Bool :=
  c.tblId == 3 && c.opcode != 0x23 || (c.opcode == 0x22 && bit r.flags 0)

/-- What is wrong with a record, the lowest code first (R400, R415). -/
def recBad (c : Cmd) (r : TRec) : Option Nat :=
  let id := c.tblId
  let search := c.opcode == 0x23
  let write := c.opcode == 0x20
  let byKey := !usesIndex c r && !search
  if (usesIndex c r && decide (tblSize id ≤ r.index)) || (byKey && keyRange id r.key) || (write && resRange id r.res) then
    some 6
  else if r.id ≠ id ∨ 4 ≤ r.flags ∨ r.rsvd ≠ 0 ∨ r.key / 2 ^ (8 * keyLen id) ≠ 0
      ∨ (write ∧ (r.res / 2 ^ (8 * resLen id) ≠ 0 ∨ resLayout id r.res = true))
      ∨ (r.mask ≠ 0 ∧ !search ∧ !(write && id == 3)) then some 7
  else none

/-- The operand check of the TBL instructions that take a record (R263, R400). -/
def tblBad (c : Cmd) (s : State) : Option Nat :=
  if 9 < c.tblId then some 6
  else if c.opb % 64 ≠ 0 then some 7
  else match s.dmaRead c.opb 256 with
    | none => none
    | some bs => recBad c (recOf bs)

/-- The entry a record names in a list of entries (R264, R415). -/
def findEnt (c : Cmd) (r : TRec) (es : List TEnt) : Option TEnt :=
  if usesIndex c r then es.find? (fun e => e.idx == r.index)
  else es.find? (fun e => e.key == r.key)

/-! ### Paths (R276, R284) -/

/-- Whether the bridge between two dies is up, at the first one's endpoint (R284), and neither endpoint is contained or
fenced off with its die (R22, R367). -/
def State.brgUp (s : State) (d far : Nat) : Bool :=
  s.flag (brgLoc d far) R.BRG_STAT_UP && !s.contained (brgLoc d far) && !s.contained (brgLoc far d)
/-- The die a path relays through (R276). -/
def relayDie (d far code : Nat) : Option Nat :=
  if code = 0 then none else ((otherDies d).filter (· != far))[code - 1]?
/-- Whether a path is usable: every bridge it crosses is up (R284). -/
def State.pathUp (s : State) (d far code : Nat) : Bool :=
  match relayDie d far code with
  | none => code == 0 && s.brgUp d far
  | some m => s.brgUp d m && s.brgUp m far
/-- The path code of a pinning result towards a die. -/
def pathCode (res d far : Nat) : Nat := bits res (2 * rankOf d far) 2
/-- The path in use of a bucket: code 0 where the host wrote no entry (log entry 22). -/
def State.pathOf (s : State) (d bucket far : Nat) : Nat :=
  match (s.tbl d 9 (s.liveBank d 9)).find? (fun e => e.idx == bucket) with
  | none => 0
  | some e => pathCode e.res d far

/-! ### What a change of live contents does (R274, R278, R279) -/

/-- A pair whose path has changed enters its drain gap while cells of it are unacknowledged, or frames decided before wait
to send theirs on the old path (R278, R279; log entry 54). -/
def State.enterGap (s : State) (d bucket far : Nat) : State :=
  let x := s.die d
  let key := 4 * bucket + far
  if Tab.get 0 x.pin key = 0 ∧ !x.waits.any (fun r => r.bucket == bucket && r.far == far) then s
  else
    let held := ((Tab.get? x.gaps key).map Gap.held).getD []
    let g : Gap := { until_ := s.now + nsTicks (s.fld (clsLoc d) R.PIN_CFG_DRAIN_GAP), held := held }
    s.setDie d { x with gaps := Tab.set x.gaps key g }

/-- Drain gaps of a bucket whose paths differ from those of `old` (R278). -/
def State.bucketGaps (s old : State) (d bucket : Nat) : State :=
  (otherDies d).foldl (fun s far =>
    if s.pathOf d bucket far = old.pathOf d bucket far then s else s.enterGap d bucket far) s

/-- Kind and ports of a live stream (R274). -/
def State.streamId (s : State) (d st : Nat) : Nat × Nat :=
  match (s.tbl d 4 (s.liveBank d 4)).find? (fun e => e.idx == st) with
  | none => (0, 0)
  | some e => (byteAt e.res 0 1, byteAt e.res 4 4)

/-- A stream whose kind or ports differ from those of `old` starts afresh (R274). -/
def State.streamSync (s old : State) (d st : Nat) : State :=
  if s.streamId d st = old.streamId d st then s
  else
    let x := s.die d
    s.setDie d { x with streams := Tab.del x.streams st, dups := x.dups.filter (fun u => u.stream != st) }

/-- What follows from a change of the live contents of a table at the given indices. -/
def State.liveSync (s old : State) (d id : Nat) (idxs : List Nat) : State :=
  if id = 9 then idxs.foldl (fun s b => s.bucketGaps old d b) s
  else if id = 4 then idxs.foldl (fun s st => s.streamSync old d st) s
  else s

/-! ### The TBL group -/

/-- Whether a broadcast's record goes to the host from this die: the lowest it reaches (log entry 21). -/
def State.lowestDie (s : State) (f : Flight) (loc : Nat) : Bool :=
  locDie f.cmd.loc != 7 ||
    (sDies s.part).find? (fun d => !s.targetContained f.cmd (onDie f.cmd.loc d)) == some (locDie loc)

/-- TBL.WRITE (R264, R265). The index that a new MAC or route entry takes is a free value (log entry 6). -/
def mTblWrite : Meaning :=
  { bad := tblBad
    run := fun f loc s =>
      match s.dmaRead f.cmd.opb 256 with
      | none => (s, some dmaFaultC)
      | some bs =>
        let r := recOf bs
        let d := locDie loc
        let id := f.cmd.tblId
        let bank := s.bankOf d id f.cmd.tblLive
        let es := s.tbl d id bank
        if id = 9 ∧ ((otherDies d).filter (dieOn s.part)).any (fun far => !s.pathUp d far (pathCode r.res d far)) then
          (s, some (conflictC 2))
        else
          let put (s : State) (idx : Nat) : Eff :=
            let t := s.setTbl d id bank (putEnt { idx := idx, key := r.key, mask := r.mask, res := r.res } es)
            let t := t.updDie d (fun x => { x with tblBad := x.tblBad.erase (2 * id + bank, idx) })
            (if bank = s.liveBank d id then t.liveSync s d id [idx] else t, some (okC idx))
          if keyIsIndex id then put s (byteAt r.key 0 (min (keyLen id) 2))
          else if id = 3 then put s r.index
          else match findEnt f.cmd r es with
            | some e => put s e.idx
            | none =>
              if tblSize id ≤ es.length then (s, some (conflictC 1))
              else
                let (v, s) := s.freeNat
                put s (freeIdx es (v % (tblSize id - es.length))) }

/-- TBL.DELETE (R264). -/
def mTblDelete : Meaning :=
  { bad := tblBad
    run := fun f loc s =>
      match s.dmaRead f.cmd.opb 256 with
      | none => (s, some dmaFaultC)
      | some bs =>
        let d := locDie loc
        let id := f.cmd.tblId
        let bank := s.bankOf d id f.cmd.tblLive
        let es := s.tbl d id bank
        match findEnt f.cmd (recOf bs) es with
        | none => (s, some (okC 0))
        | some e =>
          let t := s.setTbl d id bank (es.filter (fun x => x.idx != e.idx))
          let t := t.updDie d (fun x => { x with tblBad := x.tblBad.erase (2 * id + bank, e.idx) })
          (if bank = s.liveBank d id then t.liveSync s d id [e.idx] else t, some (okC 1)) }

/-- TBL.READ (R264): the entry goes back over the record; where it is absent, FOUND is written 0. -/
def mTblRead : Meaning :=
  { bad := tblBad
    run := fun f loc s =>
      match s.dmaRead f.cmd.opb 256 with
      | none => (s, some dmaFaultC)
      | some bs =>
        let r := recOf bs
        let d := locDie loc
        let id := f.cmd.tblId
        let hit := findEnt f.cmd r (s.tbl d id (s.bankOf d id f.cmd.tblLive))
        let out := match hit with
          | none => putAt bs 4 (leBytes 1 (r.flags % 2))
          | some e => recBytes id r.flags e
        let res := some (okC (b2n hit.isSome))
        if s.lowestDie f loc then
          match s.dmaWrite f.cmd.opb out with
          | none => (s, some dmaFaultC)
          | some t => (t, res)
        else (s, res) }

/-- TBL.SEARCH (R264, R415). -/
def mTblSearch : Meaning :=
  { bad := tblBad
    run := fun f loc s =>
      match s.dmaRead f.cmd.opb 256 with
      | none => (s, some dmaFaultC)
      | some bs =>
        let r := recOf bs
        let d := locDie loc
        let id := f.cmd.tblId
        let hits := ((s.tbl d id (s.bankOf d id f.cmd.tblLive)).filter (fun e =>
          Nat.land (Nat.xor e.key r.key) r.mask == 0)).take (bits f.cmd.opa 8 8 + 1)
        let res := some (okC hits.length)
        if hits = [] ∨ !s.lowestDie f loc then (s, res)
        else
          match s.dmaWrite (f.cmd.opb + 256) ((hits.map (recBytes id r.flags)).flatten) with
          | none => (s, some dmaFaultC)
          | some t => (t, res) }

/-- TBL.COMMIT (R264, R266, R268). -/
def mTblCommit : Meaning :=
  { bad := fun c _ => rangeBad (bits c.opa 0 10 == 0)
    run := fun f loc s =>
      let d := locDie loc
      let ids := bitList f.cmd.opa 10
      let t := ids.foldl (fun t id => t.put (clsLoc d) ⟨0x50, id, 1⟩ (1 - s.liveBank d id)) s
      let t := t.incr (clsLoc d) R.TBL_BANK_COMMITS
      let t := ids.foldl (fun t id =>
        t.liveSync s d id (((s.tbl d id 0) ++ (s.tbl d id 1)).map TEnt.idx).eraseDups) t
      (t, some (okC ids.length)) }

def execTblWrite (n : Nat) (s : State) : Out := startRow s n (isOp 0x20) mTblWrite
def execTblDelete (n : Nat) (s : State) : Out := startRow s n (isOp 0x21) mTblDelete
def execTblRead (n : Nat) (s : State) : Out := startRow s n (isOp 0x22) mTblRead
def execTblSearch (n : Nat) (s : State) : Out := startRow s n (isOp 0x23) mTblSearch
def execTblCommit (n : Nat) (s : State) : Out := startRow s n (isOp 0x24) mTblCommit

end Sys2Proof.Machine
end

