-- ==== Sys2Proof/Machine/PortInstr.lean ====
section
/-! DEFINITION. The PORT group (R116, R233 to R235, R240 to R252, R346, R418 to R420). -/

namespace Sys2Proof.Machine

/-- An instruction of an opcode and a function code in OPA[3:0]. -/
def isFunc (op fn : Nat) (c : Cmd) : Bool := c.opcode == op && c.opa % 16 == fn

/-- A port that its unit's mode does not provide (R233). -/
def State.absent (s : State) (loc : Nat) : Bool := !s.present (locPort loc).1 (locPort loc).2
/-- NO_TARGET. -/
def noTarget : Compl := { status := stNoTarget }

/-! ### Tokens of a port unit (R64, R346, R403) -/

/-- The request of an instruction for a port unit to leave OFF. -/
def State.unitReq (s : State) (f : Flight) (d u : Nat) : WakeReq :=
  { die := d, clu := u / 4, prio := if f.cmd.bg then 4 else 3, tick := s.now, num := some f.num, unit := some u }

/-- An effect that needs its port unit out of OFF: made where the tokens are granted, DENIED_BUDGET where they are
refused. -/
def State.unitGate (s : State) (f : Flight) (d u : Nat) (act : State → State) : Eff :=
  let r := s.unitReq f d u
  if s.unitPow d u ≠ 0 then (act s, some (okC 0))
  else
    let no := s.refuse r (s.ahead r)
    if no = [] then (act (s.unitOn d u), some (okC 0)) else (s, some (deniedC no false))

/-! ### PORT.SET (R419, R420) -/

/-- A log interval of R420 as a signed number. -/
def logOf (opb lo : Nat) : Int := sx (bits opb lo 4) 4

/-- The profile defaults of R114 that DEFAULTS takes: domain, peer-to-peer, transport. -/
def profileDefaults (p : Nat) : Nat × Bool × Nat :=
  match p with
  | 2 => (24, false, 0)
  | 3 => (0, true, 0)
  | 4 => (254, true, 0)
  | 5 => (127, false, 1)
  | _ => (0, false, 0)

/-- The domain range of a profile (R114). -/
def domainOk (p dom : Nat) : Bool :=
  match p with
  | 2 => decide (24 ≤ dom) && decide (dom ≤ 43)
  | 3 => true
  | 4 => true
  | _ => decide (dom ≤ 127)

/-- The engine settings that an OPB of FUNC 3 gives (R420). -/
def ptpOf (opb : Nat) : PtpCfg :=
  let prof := bits opb 4 3
  let def_ := profileDefaults prof
  let useDef := bit opb 7
  { en := bit opb 0, state := bits opb 1 3, profile := prof,
    p2p := if useDef then def_.2.1 else bit opb 8, twoStep := bit opb 9,
    domain := if useDef then def_.1 else bits opb 10 8,
    logSync := logOf opb 18, logDreq := logOf opb 22, logPdel := logOf opb 26, logAnn := logOf opb 30,
    timeout := bits opb 34 8, autoPass := bit opb 42,
    transp := if useDef then def_.2.2 else bits opb 43 2, altDa := bit opb 45, defs := useDef }

/-- Whether an OPB of FUNC 3 lies outside the ranges of R112, R114, R420. -/
def ptpRange (opb : Nat) : Bool :=
  let c := ptpOf opb
  decide (4 < c.state) || decide (5 < c.profile) || c.transp == 3 ||
    (bit opb 7 && (bit opb 8 || bits opb 10 8 != 0 || bits opb 43 2 != 0)) || !domainOk c.profile c.domain ||
    decide (c.logSync < -7) || decide (4 < c.logSync) || decide (c.logDreq < -7) || decide (4 < c.logDreq) ||
    decide (c.logPdel < -7) || decide (5 < c.logPdel) || decide (c.logAnn < -3) || decide (4 < c.logAnn) ||
    decide (c.timeout < 2)

/-- The operand check of PORT.SET (R400, R419). -/
def portSetBad (c : Cmd) (s : State) : Option Nat :=
  let loc := s.firstLoc c
  let (d, p) := locPort loc
  match c.opa % 16 with
  | 0 => none
  | 1 => none
  | 2 => rangeBad (decide (100000 < c.opb % 2 ^ 17) ||
      (decide (44000 < c.opb % 2 ^ 17) && s.present d p && s.pflag d p R.RLK_CTRL_EN))
  | 3 => rangeBad (ptpRange c.opb)
  | 4 =>
    if reservedOnes ((fieldsAt loc 0x300).getD []) (BitVec.ofNat 32 c.opb) then some 1
    else rangeBad (s.present d p && s.ruleBad (.port d p) 0x300 (BitVec.ofNat 32 c.opb))
  | 5 => none
  | 6 => none
  | _ => some 6

/-- FUNC 0: the mode of a main port unit (R234, R290, R310). -/
def State.setMode (s : State) (d u mode : Nat) : Eff :=
  match (s.unitPorts d u).find? (fun p => s.pstate d p != psDisabled) with
  | some p => (s, some (conflictC (s.pstate d p)))
  | none =>
    let t := s.put (unitLoc d u 16) R.PU_MODE_MODE mode
    if s.raisesOver t d then (s, some (conflictC 0xF0))
    else
      let s := (s.unitPorts d u).foldl (fun s p => (s.endHold d p).flushPort d p) s
      let s := (List.range 4).foldl (fun s l => s.prbsStop d u l) s
      let s := s.put (unitLoc d u 16) R.PU_MODE_MODE mode
      let s := (List.range 4).foldl (fun s i =>
        s.setPort d (4 * u + i) { s.port d (4 * u + i) with sums := none }) s
      let s := s.unitRest d u
      ((s.resvSync d).getD s, some (okC 0))

/-- FUNC 1: the rate of a service port (R235, R290). -/
def State.setRate (s : State) (d p : Nat) (fast : Bool) : Eff :=
  if s.pstate d p ≠ psDisabled then (s, some (conflictC (s.pstate d p)))
  else
    let t := s.putB (unitLoc d 16 16) ⟨0, 16 + (p - 64), 1⟩ fast
    if s.raisesOver t d then (s, some (conflictC 0xF0)) else (t.windowSync d p, some (okC 0))

/-- FUNC 2: the span of a port (R39, R290); one beyond 44,000 m is no span of a Relka port (R116). -/
def State.setSpan (s : State) (d p span : Nat) : Eff :=
  let t := s.setPort d p { s.port d p with span := span }
  if 44000 < span ∧ s.pflag d p R.RLK_CTRL_EN then (s, some (badC 6))
  else if s.raisesOver t d then (s, some (conflictC 0xF0)) else ((t.windowSync d p).asymSync d p, some (okC 0))

/-- FUNC 3: the settings of an engine (R420). On an engine that this enables, the Announce monitor and the wait for a Sync
count from now (DESIGN CHOICE, log entry 46). -/
def State.setPtp (s : State) (d p opb : Nat) : State :=
  let c := ptpOf opb
  s.updPort d p (fun x =>
    let new := c.en && !x.ptp.en
    let e := { x.eng with parent := none, heardAt := if new || (c.state == 3 && x.ptp.state != 3) then s.now else x.eng.heardAt }
    { x with ptp := c, eng := if new then { e with announce := s.now, expired := false } else e })

/-- FUNC 4: RLK_CTRL (R131, R132, R139, R140). -/
def State.setRelkaCtrl (s : State) (d p v : Nat) : Eff :=
  let loc := portLoc d p
  let old := s.reg loc 0x300
  let w : Word := BitVec.ofNat 32 v
  if s.ruleBad (.port d p) 0x300 w then (s, some (badC 6))
  else if s.rlkState d p = rlkSounding then (s, some (conflictC rlkSounding))
  else
    match s.ruleConflict (.port d p) 0x300 old w with
    | some c => (s, some c)
    | none => ((s.setReg loc 0x300 w).rlkSwitch d p (fget w 0 1 == 1), some (okC 0))

/-- FUNC 6: 16 classes of the DSCP map (R419). -/
def dscpPut (map block v : Nat) : Nat :=
  map / 2 ^ (64 * (block + 1)) * 2 ^ (64 * (block + 1)) + v % 2 ^ 64 * 2 ^ (64 * block) + map % 2 ^ (64 * block)

/-- PORT.SET (R419). -/
def mPortSet : Meaning :=
  { bad := portSetBad
    run := fun f loc s =>
      let (d, p) := locPort loc
      let b := f.cmd.opb
      if f.cmd.opa % 16 = 0 then s.setMode d (locUnit loc) (b % 8)
      else if s.absent loc then (s, some noTarget)
      else
        let x := s.port d p
        match f.cmd.opa % 16 with
        | 1 => s.setRate d p (bit b 0)
        | 2 => s.setSpan d p (b % 2 ^ 17)
        | 3 => (s.setPtp d p b, some (okC 0))
        | 4 => s.setRelkaCtrl d p (b % 2 ^ 32)
        | 5 => (s.setPort d p { x with
            priMap := b % 2 ^ 32, pvid := bits b 32 12, trustDscp := bit b 44, frerKeep := bit b 45,
            ptpClass := bits b 46 4 }, some (okC 0))
        | _ => (s.setPort d p { x with dscpMap := dscpPut x.dscpMap (bits f.cmd.opa 4 2) b }, some (okC 0)) }

/-- Every FUNC without a row of its own is refused with the first (R419). -/
def execPortSetMode (n : Nat) (s : State) : Out :=
  startRow s n (fun c => c.opcode == 0x30 && (c.opa % 16 == 0 || decide (7 ≤ c.opa % 16))) mPortSet
def execPortSetRate (n : Nat) (s : State) : Out := startRow s n (isFunc 0x30 1) mPortSet
def execPortSetSpan (n : Nat) (s : State) : Out := startRow s n (isFunc 0x30 2) mPortSet
def execPortSetPtp (n : Nat) (s : State) : Out := startRow s n (isFunc 0x30 3) mPortSet
def execPortSetRelka (n : Nat) (s : State) : Out := startRow s n (isFunc 0x30 4) mPortSet
def execPortSetIngress (n : Nat) (s : State) : Out := startRow s n (isFunc 0x30 5) mPortSet
def execPortSetDscp (n : Nat) (s : State) : Out := startRow s n (isFunc 0x30 6) mPortSet

/-! ### PORT.UP and PORT.DOWN (R241, R245, R246, R418) -/

/-- The effect of PORT.UP, its unit out of OFF: transmitter on, TX_SHORT cleared, the start state (R241, R246). -/
def State.portUp (s : State) (d p : Nat) : State :=
  let s := (s.portLanes d p).foldl (fun s l => s.put (laneLoc d (portUnit p) l) R.LANE_STAT_TX_SHORT 0) s
  (s.pput d p R.PORT_STAT_TX_ON 1).setPState d p (s.startState d p)

/-- PORT.UP (R241, R245, R346). -/
def mPortUp : Meaning :=
  { bad := fun _ _ => none
    run := fun f loc s =>
      let (d, p) := locPort loc
      if s.absent loc then (s, some noTarget)
      else if s.pstate d p ≠ psDisabled then (s, some (conflictC (s.pstate d p)))
      else s.unitGate f d (portUnit p) (fun s => s.portUp d p)
    wants := fun f loc s => [s.unitReq f (locPort loc).1 (portUnit (locPort loc).2)] }

def execPortUp (n : Nat) (s : State) : Out := startRow s n (isOp 0x31) mPortUp

/-- PORT.DOWN (R241, R245, R418): the frame in progress ends first. -/
def mPortDown : Meaning :=
  { bad := fun _ _ => none
    run := fun _ loc s =>
      let (d, p) := locPort loc
      if s.absent loc then (s, some noTarget)
      else if s.pstate d p = psDisabled then (s, some (okC 0))
      else (((s.endTx d p).setCause d p 6).disable d p, some (okC (s.pstate d p))) }

def execPortDown (n : Nat) (s : State) : Out := startRow s n (isOp 0x32) mPortDown

/-! ### PORT.LOOP (R241, R251, R252) -/

/-- The effect of a loop depth on a DISABLED port. A line transmitter at a static level does not drive (R251). -/
def State.loopOn (s : State) (d p depth : Nat) : State :=
  let s := (s.pput d p R.PORT_STAT_LOOP depth).pput d p R.PORT_STAT_TX_ON (b2n (depth != 3))
  match depth with
  | 1 => s.enterUp d p
  | 2 => s.setPState d p psSignal
  | 3 => s.setPState d p psSignal
  | _ => s.setPState d p psTest

/-- PORT.LOOP (R251, R252); depth 0 where no loop is set changes nothing (log entry 23). -/
def mPortLoop : Meaning :=
  { bad := fun c _ => rangeBad (decide (5 < c.opa % 8))
    run := fun f loc s =>
      let (d, p) := locPort loc
      let depth := f.cmd.opa % 8
      if s.absent loc then (s, some noTarget)
      else if depth = 0 then
        (if s.pfld d p R.PORT_STAT_LOOP = 0 then s else s.disable d p, some (okC 0))
      else if s.pstate d p ≠ psDisabled ∨ s.pflag d p R.RLK_CTRL_EN then (s, some (conflictC (s.pstate d p)))
      else s.unitGate f d (portUnit p) (fun s => s.loopOn d p depth)
    wants := fun f loc s => [s.unitReq f (locPort loc).1 (portUnit (locPort loc).2)] }

def execPortLoopStart (n : Nat) (s : State) : Out :=
  startRow s n (fun c => c.opcode == 0x33 && c.opa % 8 != 0) mPortLoop
def execPortLoopEnd (n : Nat) (s : State) : Out :=
  startRow s n (fun c => c.opcode == 0x33 && c.opa % 8 == 0) mPortLoop

/-! ### PORT.PRBS (R248, R249) -/

/-- The unit and lane of a lane location. -/
def locLane (loc : Nat) : Nat × Nat × Nat := (locDie loc, locUnit loc, locSub loc - 8)

/-- The port that owns a lane; none in mode 0 (R233, R235). -/
def State.laneOwner (s : State) (d u l : Nat) : Option Nat :=
  (s.unitPorts d u).find? (fun p => (s.portLanes d p).contains l)

/-- Whether a lane's generator or checker runs. -/
def State.lanePrbs (s : State) (d u l : Nat) : Bool :=
  s.flag (laneLoc d u l) R.PRBS_STAT_GEN_ON || s.flag (laneLoc d u l) R.PRBS_STAT_CHK_ON

/-- In TEST without a loop a port's transmitter drives while a generator runs on one of its lanes (R248, R256). -/
def State.prbsTx (s : State) (d u p : Nat) : State :=
  if s.pstate d p = psTest ∧ s.pfld d p R.PORT_STAT_LOOP = 0 then
    s.pput d p R.PORT_STAT_TX_ON (b2n ((s.portLanes d p).any (fun l => s.flag (laneLoc d u l) R.PRBS_STAT_GEN_ON)))
  else s

/-- The effect of starting a lane's generator, checker or both (R248). -/
def State.prbsStart (s : State) (d u l fn pattern rate : Nat) (inv : Bool) : State :=
  let loc := laneLoc d u l
  let s := if bit fn 1 then
      ((s.prbsUnlock d u l).putPair loc R.PRBS_ERR_LO_ERR R.PRBS_ERR_HI_ERR 0).putPair loc R.PRBS_BITS_LO_BITS
        R.PRBS_BITS_HI_BITS 0 |>.put loc R.PRBS_STAT_CHK_ON 1
    else s
  let s := if bit fn 0 then s.put loc R.PRBS_STAT_GEN_ON 1 else s
  let s := (s.put loc R.PRBS_STAT_PATTERN pattern).put loc R.PRBS_STAT_RATE rate
  let k := 8 * u + l
  let others := (s.die d).prbsInv.filter (· != k)
  let s := s.setDie d { s.die d with prbsInv := if inv then k :: others else others }
  match s.laneOwner d u l with
  | some p => (if s.pstate d p = psDisabled then s.setPState d p psTest else s).prbsTx d u p
  | none => s

/-- Stops a lane's pattern; with the last of its port the port leaves TEST (R241). -/
def State.prbsEnd (s : State) (d u l : Nat) : State :=
  let s := s.prbsStop d u l
  match s.laneOwner d u l with
  | some p =>
    if s.pstate d p = psTest ∧ !(s.portLanes d p).any (s.lanePrbs d u) then s.disable d p else s.prbsTx d u p
  | none => s.unitRest d u

/-- PORT.PRBS (R248). -/
def mPortPrbs : Meaning :=
  { bad := fun c s =>
      let u := locUnit (s.firstLoc c)
      let pat := bits c.opa 2 4
      let code := c.opb % 8
      rangeBad (decide (8 < pat) || (decide (5 ≤ pat) && decide (pat ≤ 7) && decide (code < 3)) ||
        decide ((if u = 16 then 2 else 5) < code))
    run := fun f loc s =>
      let (d, u, l) := locLane loc
      let fn := f.cmd.opa % 4
      let free := match s.laneOwner d u l with
        | none => true
        | some p => s.pstate d p == psDisabled || (s.pstate d p == psTest && s.pfld d p R.PORT_STAT_LOOP == 0)
      if !free then (s, some (conflictC (((s.laneOwner d u l).map (s.pstate d)).getD 0)))
      else if fn = 0 then (s.prbsEnd d u l, some (okC 0))
      else s.unitGate f d u (fun s =>
        s.prbsStart d u l fn (bits f.cmd.opa 2 4) (f.cmd.opb % 8) (bit f.cmd.opa 6))
    wants := fun f loc s => [s.unitReq f (locLane loc).1 (locLane loc).2.1] }

def execPortPrbsStart (n : Nat) (s : State) : Out :=
  startRow s n (fun c => c.opcode == 0x34 && c.opa % 4 != 0) mPortPrbs
def execPortPrbsStop (n : Nat) (s : State) : Out :=
  startRow s n (fun c => c.opcode == 0x34 && c.opa % 4 == 0) mPortPrbs

/-! ### PORT.INJECT (R250) -/

/-- The port record that keeps an injection: the port's own, or that of the lane's number. -/
def injPort (loc : Nat) : Nat × Nat :=
  if locSub loc < 8 ∨ locSub loc = 16 then locPort loc
  else (locDie loc, if locUnit loc < 16 then 4 * locUnit loc + (locSub loc - 8) else 64 + (locSub loc - 8))

/-- Injections of an instruction, and the instances between the starts of two: bits, codewords, blocks or frames (R250). -/
def Cmd.injN (c : Cmd) : Nat := c.opb % 65536
def Cmd.injStep (c : Cmd) : Nat := bits c.opb 32 20 + 1

/-- What one bit, codeword or block takes: quarter bits against the lane's quarter bits per tick (kind 1); 5,440 bits per
lane, or 64 bits of data, at the port rate (R232, R236, R237). -/
def injUnit (kind : Nat) : Nat := if kind = 1 then 4 else if kind = 2 then 3200000 else 40000

/-- What passes at a location per tick, in the unit of `injUnit`. -/
def State.injRate (s : State) (kind loc : Nat) : Nat :=
  if kind = 1 then laneQuarters (s.fld loc R.PRBS_STAT_RATE) else s.rate (locPort loc).1 (locPort loc).2

/-- Ticks that COUNT injections of kind 1 to 3 take at a location, with the unaffected instances after each (R250). -/
def State.injTicks (s : State) (c : Cmd) (loc : Nat) : Nat :=
  ceilDiv (c.injN * c.injStep * injUnit (c.opa % 8)) (max (s.injRate (c.opa % 8) loc) 1)

/-- PORT.INJECT (R250). -/
def mPortInject : Meaning :=
  { bad := fun c s =>
      let kind := c.opa % 8
      let loc := s.firstLoc c
      let sym := bits c.opb 16 5
      if (kind == 1) != decide (8 ≤ locSub loc) && decide (1 ≤ kind) && decide (kind ≤ 4) then some 3
      else rangeBad (kind == 0 || decide (4 < kind) || c.opb % 65536 == 0 ||
        (if kind = 2 then sym == 0 || decide (30 < sym) else sym != 0) ||
        (kind == 2 && !s.hasFec (locPort loc).1 (locPort loc).2))
    run := fun f loc s =>
      let kind := f.cmd.opa % 8
      let (d, p) := injPort loc
      let start : Eff :=
        (s.updPort d p (fun x => { x with inj := some { num := f.num, at_ := s.now } })).goesOn f.num
          (s.now + if kind = 4 then secTicks else s.injTicks f.cmd loc)
      if kind = 1 then
        let (_, u, l) := locLane loc
        if s.flag loc (if bit f.cmd.opa 3 then R.PRBS_STAT_GEN_ON else R.PRBS_STAT_CHK_ON) then start
        else (s, some (conflictC (((s.laneOwner d u l).map (s.pstate d)).getD 0)))
      else if s.absent loc then (s, some noTarget)
      else if kind = 2 ∧ !s.hasFec d p then (s, some (badC 6))
      else if s.pstate d p = psUp ∨ s.pstate d p = psRemote then start
      else (s, some (conflictC (s.pstate d p))) }

def execPortInject (n : Nat) (s : State) : Out := startRow s n (isOp 0x35) mPortInject

/-- The locations where an instruction's injections run: each die of a broadcast. -/
def State.injLocs (s : State) (f : Flight) : List Nat :=
  let locs := if locDie f.cmd.loc = 7 then (sDies s.part).map (onDie f.cmd.loc) else [f.cmd.loc]
  locs.filter (fun l => ((s.port (injPort l).1 (injPort l).2).inj.map Inj.num) == some f.num)

/-- Whether injections meet the port's own receiver: those of the receive side, and in a loop that returns the line code
those of the transmit side (R250, R251). -/
def State.injHere (s : State) (f : Flight) (d p : Nat) : Bool :=
  !bit f.cmd.opa 3 || s.pfld d p R.PORT_STAT_LOOP == 2 || s.pfld d p R.PORT_STAT_LOOP == 3

/-- The counts of COUNT injections ahead of the port's own checker or decoder (R237, R249, R250). -/
def State.injCount (s : State) (f : Flight) (loc : Nat) : State :=
  let n := f.cmd.injN
  let sym := bits f.cmd.opb 16 5
  let (d, p) := locPort loc
  match f.cmd.opa % 8 with
  | 1 => if s.flag loc R.PRBS_STAT_CHK_LOCK && !bit f.cmd.opa 3 then
      s.putPair loc R.PRBS_ERR_LO_ERR R.PRBS_ERR_HI_ERR
        (satNat (s.pair loc R.PRBS_ERR_LO_ERR R.PRBS_ERR_HI_ERR + n) 48) else s
  | 2 =>
    if !s.injHere f d p then s
    else if sym ≤ 15 then
      ((s.bumpBy loc R.FEC_CORR_CORR n).bumpBy loc R.FEC_SYM_SYM (n * sym)).updPort d p
        (fun x => { x with injSym := x.injSym + n * sym })
    else s.bumpBy loc R.FEC_UNCORR_UNCORR n
  | _ => s

/-- An injection ends at a location. -/
def State.injEnd (s : State) (loc : Nat) : State :=
  let (d, p) := injPort loc
  s.setPort d p { s.port d p with inj := none }

/-- The last of COUNT injections is made (R250): those of kind 4 on frames, the others with the time that passes. -/
def execPortInjectDone (n : Nat) (s : State) : Out :=
  match s.going n (isOp 0x35) with
  | none => .next s
  | some (f, _) =>
    let locs := s.injLocs f
    let made (l : Nat) : Nat := ((s.port (injPort l).1 (injPort l).2).inj.map Inj.made).getD 0
    let startAt (l : Nat) : Nat := ((s.port (injPort l).1 (injPort l).2).inj.map Inj.at_).getD 0
    if f.cmd.opa % 8 = 4 ∧ locs.any (fun l => decide (made l < f.cmd.opb % 65536)) then .next s
    else
      let s := if f.cmd.opa % 8 = 4 then s
        else locs.foldl (fun s l => s.advanceTo (startAt l + s.injTicks f.cmd l)) s
      let s := locs.foldl (fun s l => (s.injCount f l).injEnd l) s
      .next (s.complete n (okC (f.cmd.opb % 65536)))

/-- Fewer than COUNT frames within 1 s: TIMEOUT with the number made (R250). -/
def execPortInjectTimeout (n : Nat) (s : State) : Out :=
  match s.going n (isOp 0x35) with
  | none => .next s
  | some (f, t) =>
    if f.cmd.opa % 8 ≠ 4 then .next s
    else
      let locs := s.injLocs f
      let made := (locs.map (fun l => ((s.port (injPort l).1 (injPort l).2).inj.map Inj.made).getD 0)).headD 0
      let s := locs.foldl State.injEnd (s.advanceTo t)
      .next (s.complete n { status := stTimeout, result := made })

end Sys2Proof.Machine
end

