-- ==== Sys2Proof/Machine/QueInstr.lean ====
section
/-! DEFINITION. The QUE group and MIR.SET (R280, R290, R306, R307, R311, R356, R421). -/

namespace Sys2Proof.Machine

/-! ### QUE.SET (R306) -/

/-- RATE and BURST of a shaper out of range: BURST below MAX_FRAME with RATE nonzero. -/
def State.burstBad (s : State) (d p opb : Nat) : Bool :=
  bits opb 0 32 != 0 && decide (bits opb 32 24 < s.maxFrame d p)

/-- Whether the operands of a QUE.SET lie outside their ranges (R306). -/
def State.queSetRange (s : State) (c : Cmd) (loc : Nat) : Bool :=
  let (d, p) := locPort loc
  let b := c.opb
  match bits c.opa 4 4 with
  | 0 => decide (bits b 16 16 < 64)
  | 1 => s.present d p && s.burstBad d p b
  | 2 => decide (9 < bits b 0 4)
  | 3 => c.opa % 16 != 0 || (s.present d p && s.burstBad d p b)
  | 4 => decide (10000 < bits b 16 14) || (bit b 1 && !bit b 0)
  | _ => true

/-- FUNC 4: the port flow setting (R290, R295, R306). -/
def State.setFlow (s : State) (d p b : Nat) : Eff :=
  let loc := portLoc d p
  if (s.losslessEn d p != bit b 0 || s.creditOn d p != bit b 1) && s.pstate d p != psDisabled then
    (s, some (conflictC (s.pstate d p)))
  else
    let t := s.put loc R.QUE_PORT_CFG_LOSSLESS_EN b
    if s.raisesOver t d then (s, some (conflictC 0xF0))
    else
      let t := (t.putB loc R.QUE_PORT_CFG_CREDIT (bit b 1)).put loc R.QUE_PORT_CFG_FLAP_HOLD (bits b 16 14)
      (t.windowSync d p, some (okC 0))

/-- QUE.SET (R306). -/
def mQueSet : Meaning :=
  { bad := fun c s => rangeBad (s.queSetRange c (s.firstLoc c))
    run := fun f loc s =>
      let (d, p) := locPort loc
      let c := f.cmd.opa % 16
      let b := f.cmd.opb
      if s.absent loc then (s, some noTarget)
      else if s.queSetRange f.cmd loc then (s, some (badC 6))
      else match bits f.cmd.opa 4 4 with
        | 0 => ((s.put loc (R.QUE_CLASS_CFG_STRICT c) b).put loc (R.QUE_CLASS_CFG_QUANTUM c) (bits b 16 16), some (okC 0))
        | 1 => ((s.put loc (R.QUE_CLASS_CFG_RATE c) b).put loc (R.QUE_CLASS_CFG_BURST c) (bits b 32 24), some (okC 0))
        | 2 =>
          let t := s.put loc (R.QUE_CLASS_CFG_MIN_CELLS c) (bits b 8 20)
          if s.raisesOver t d then (s, some (conflictC 0xF0))
          else ((t.put loc (R.QUE_CLASS_CFG_ALPHA c) b).put loc (R.QUE_CLASS_CFG_PFC_PRIO c) (bits b 4 3), some (okC 0))
        | 3 => ((s.put loc R.QUE_PORT_SHAPER_RATE b).put loc R.QUE_PORT_SHAPER_BURST (bits b 32 24), some (okC 0))
        | _ => s.setFlow d p b }

/-- A QUE.SET of a function code in OPA[7:4]. -/
def isQueSet (fn : Nat) (c : Cmd) : Bool := c.opcode == 0x40 && bits c.opa 4 4 == fn

/-- A FUNC without a row of its own is refused with the first (R306). -/
def execQueSetScheduling (n : Nat) (s : State) : Out :=
  startRow s n (fun c => isQueSet 0 c || (c.opcode == 0x40 && decide (5 ≤ bits c.opa 4 4))) mQueSet
def execQueSetClassShaper (n : Nat) (s : State) : Out := startRow s n (isQueSet 1) mQueSet
def execQueSetAdmission (n : Nat) (s : State) : Out := startRow s n (isQueSet 2) mQueSet
def execQueSetPortShaper (n : Nat) (s : State) : Out := startRow s n (isQueSet 3) mQueSet
def execQueSetPortFlow (n : Nat) (s : State) : Out := startRow s n (isQueSet 4) mQueSet

/-! ### QUE.GATELIST (R307, R356) -/

/-- The 32-byte header of a gate-list record and its entries (R307). -/
structure GateRec where
  base    : Nat
  cycle   : Nat
  ext     : Nat
  count   : Nat
  rsvd    : Nat
  entries : List Nat
  deriving DecidableEq, Repr

/-- Reads a gate-list record; none when the access fails. -/
def State.gateRec (s : State) (a : Nat) : Option GateRec :=
  match s.dmaRead a 32 with
  | none => none
  | some h =>
    let hd := leNat h
    let n := bits hd 128 9
    match s.dmaRead (a + 32) (8 * n) with
    | none => none
    | some e =>
      some { base := bits hd 0 64, cycle := bits hd 64 32, ext := bits hd 96 32, count := n, rsvd := hd / 2 ^ 137,
             entries := (List.range n).map (fun i => leAt e (8 * i) 8) }

/-- The cause of a bad gate-list record (R307, R400). -/
def GateRec.bad (g : GateRec) : Option Nat :=
  if g.cycle < 1000 ∨ 1000000000 < g.cycle ∨ g.cycle < g.ext ∨ g.count = 0 ∨ 256 < g.count
      ∨ g.entries.any (fun e => decide (bits e 16 32 < 100)) = true
      ∨ g.cycle < (g.entries.map (fun e => bits e 16 32)).sum then some 6
  else if g.rsvd ≠ 0 ∨ g.entries.any (fun e => bits e 48 16 != 0) = true then some 7
  else none

/-- The first instant base + k * period, k ≥ 0, at or after `t` (R307). -/
def firstAt (base period t : Nat) : Nat := if t ≤ base then base else base + ceilDiv (t - base) period * period

/-- The list a record gives, with its start S: the first cycle start at least 1,000 ns on (R307). -/
def State.gateList (s : State) (d : Nat) (g : GateRec) : GateList :=
  let now := s.nowU d
  let base := fromTx64 now g.base
  { base := base, cycle := g.cycle, ext := g.ext, entries := g.entries.map (fun e => (bits e 0 16, bits e 16 32)),
    start := firstAt base (g.cycle * 65536) (now + 1000 * 65536) }

/-- QUE.GATELIST (R307, R356). -/
def mGatelist : Meaning :=
  { bad := fun c s =>
      if !bit c.opa 0 then none
      else if c.opb % 64 ≠ 0 then some 7
      else (s.gateRec c.opb).bind GateRec.bad
    run := fun f loc s =>
      let (d, p) := locPort loc
      let x := s.port d p
      if s.absent loc then (s, some noTarget)
      else if bit f.cmd.opa 0 then
        match s.gateRec f.cmd.opb with
        | none => (s, some dmaFaultC)
        | some g =>
          let t := s.setPort d p { x with pend := some (s.gateList d g) }
          t.resvGet s f d (okC g.count)
      else
        let t := match x.oper with
          | none => (s.setPort d p { x with pend := none }).put loc R.QUE_GATES_OPEN 0xFFFF
          | some g =>
            s.setPort d p { x with pend := some { g with
              entries := [], start := firstAt g.start (g.cycle * 65536) (s.nowU d) } }
        ((t.resvSync d).getD t, some (okC 0))
    wants := fun f loc s =>
      let (d, p) := locPort loc
      match s.gateRec f.cmd.opb with
      | none => []
      | some g => (s.updPort d p (fun x => { x with pend := some (s.gateList d g) })).resvWants f d }

def execQueGatelistLoad (n : Nat) (s : State) : Out := startRow s n (fun c => c.opcode == 0x41 && bit c.opa 0) mGatelist
def execQueGatelistOpen (n : Nat) (s : State) : Out := startRow s n (fun c => c.opcode == 0x41 && !bit c.opa 0) mGatelist

/-! ### QUE.FLUSH (R310, R311) -/

/-- QUE.FLUSH: the queued frames of one class or of all, DIRECT frames among them. -/
def mQueFlush : Meaning :=
  { bad := fun _ _ => none
    run := fun f loc s =>
      let (d, p) := locPort loc
      if s.absent loc then (s, some noTarget)
      else
        let hit (c : Nat) : Bool := bit f.cmd.opa 4 || c == f.cmd.opa % 16
        let host := (s.port d p).hostQ.filter (fun h => hit h.cls)
        let r := s.dropQueued d p (fun e => hit e.cls) R.QUE_DISCARD_FLUSHED
        let t := r.1.setPort d p { r.1.port d p with hostQ := (r.1.port d p).hostQ.filter (fun h => !hit h.cls) }
        let t := host.foldl (fun s h => (s.releaseRef d h.fid).pbump d p (R.QUE_DISCARD_FLUSHED h.cls)) t
        (t, some (okC (min (r.2 + host.length) 0xFFFF))) }

def execQueFlush (n : Nat) (s : State) : Out := startRow s n (isOp 0x42) mQueFlush

/-! ### MIR.SET (R280, R281) -/

/-- MIR.SET: a session enabled or changed counts from 0. -/
def mMirSet : Meaning :=
  { bad := fun c _ => rangeBad (bits c.opb 0 24 == 0)
    run := fun f loc s =>
      let d := locDie loc
      let k := f.cmd.opa % 8
      let b := f.cmd.opb
      let m : Mir := { ring := bits f.cmd.opa 4 5, n := bits b 0 24, trunc := bits b 24 3, sel := bits b 27 2,
                       port := bits b 29 7, cls := bits b 36 4 }
      let x := s.die d
      (s.setDie d { x with mirs := if bit f.cmd.opa 3 then Tab.set x.mirs k m else Tab.del x.mirs k }, some (okC 0)) }

def execMirSet (n : Nat) (s : State) : Out := startRow s n (isOp 0x50) mMirSet

end Sys2Proof.Machine
end

