-- ==== Sys2Proof/Machine/TimeInstr.lean ====
section
/-! DEFINITION. The TIME group (R93 to R99, R102 to R104, R216, R220, R222 to R226, R422). -/

namespace Sys2Proof.Machine

/-- A signed number of 2^-16 ns as RESULT16 gives it: ns to the nearest, signed, saturating (R422). -/
def ns16 (u : Int) : Nat := satBits (roundDiv u 65536) 16

/-! ### TIME.SET, TIME.STEP, TIME.SLEW (R93 to R97) -/

/-- The refusal of R97: DETAIL is the servo state code. -/
def State.timeConflict (s : State) : Compl := conflictC s.servoState

/-- TIME.SET (R93, R95). -/
def mTimeSet : Meaning :=
  { bad := fun _ _ => none
    run := fun f _ s =>
      if s.timeRefused then (s, some s.timeConflict)
      else (s.askStep { set := true, secs := f.cmd.opb % 2 ^ 48, num := some f.num }).goesOn f.num 0 }

def execTimeSet (n : Nat) (s : State) : Out := startRow s n (isOp 0x60) mTimeSet

/-- TIME.STEP (R93, R94); an offset of 0 applies nothing (R422). -/
def mTimeStep : Meaning :=
  { bad := fun _ _ => none
    run := fun f _ s =>
      if s.timeRefused then (s, some s.timeConflict)
      else if f.cmd.opb = 0 then (s, some (okC 0))
      else (s.askStep { offset := sx f.cmd.opb 64, num := some f.num }).goesOn f.num 0 }

def execTimeStep (n : Nat) (s : State) : Out := startRow s n (isOp 0x61) mTimeStep

/-- TIME.SLEW (R96): the offset joins the part not yet applied, the rate is replaced; it goes on until all six
tailstocks obey the rate. -/
def mTimeSlew : Meaning :=
  { bad := fun c _ => rangeBad (c.opa == 0 || decide (50000 < c.opa))
    run := fun f _ s =>
      if s.timeRefused then (s, some s.timeConflict)
      else
        let s := s.slewBy (sx f.cmd.opb 64) f.cmd.opa
        (s.setServo { s.servo with slews := s.servo.slews ++ [(f.num, s.now)] }).goesOn f.num 0 }

def execTimeSlew (n : Nat) (s : State) : Out := startRow s n (isOp 0x62) mTimeSlew

/-! ### TIME.ALIGN (R216) -/

/-- TIME.ALIGN takes effect at the first second boundary at least 1,280 ns after its execution. -/
def mTimeAlign : Meaning :=
  { bad := fun _ _ => none
    run := fun f _ s =>
      (s.setServo { s.servo with align := s.servo.align ++ [(f.num, s.boundaryAfter 1280)] }).goesOn f.num 0 }

def execTimeAlign (n : Nat) (s : State) : Out := startRow s n (isOp 0x63) mTimeAlign

/-- The period of a trigger in 2^-16 ns, times DEN (R222). -/
def State.trgPeriod (s : State) (n : Nat) : Nat :=
  let l := hubLoc (20 + n)
  (s.pair l R.TRG_PERIOD_LO_NS R.TRG_PERIOD_HI_NS * s.fld l R.TRG_FRAC_DEN + s.fld l R.TRG_FRAC_NUM) * 65536
/-- DEN of a trigger. -/
def State.trgDen (s : State) (n : Nat) : Nat := s.fld (hubLoc (20 + n)) R.TRG_FRAC_DEN

/-- Nominal instant k, pulse b of a trigger in 2^-16 ns from TAI second 0, times DEN (R222). -/
def State.trgInst (s : State) (n k b : Nat) : Nat :=
  (s.trig n).t0 * s.trgDen n + k * s.trgPeriod n
    + b * (s.fld (hubLoc (20 + n)) R.TRG_BURST_S * 65536 * s.trgDen n)

/-- Whether a trigger holds its alignment over steps (R215, R225). -/
def State.trgHold (s : State) (n : Nat) : Bool := s.flag (hubLoc (20 + n)) R.TRG_CTRL_STEP_MODE

/-- The number of instants a trigger's schedule has; none without an end (R222). -/
def State.trgCount (s : State) (n : Nat) : Option Nat :=
  if (s.trig n).mode = 1 then some 1
  else
    let c := s.fld (hubLoc (20 + n)) R.TRG_COUNT_COUNT
    if c = 0 then none else some c

/-- A trigger returns to IDLE with a cause (R226). -/
def State.trgIdle (s : State) (n cause : Nat) : State :=
  let l := hubLoc (20 + n)
  (s.setTrig n {}).put l R.TRG_STAT_STATE 0 |>.put l R.TRG_STAT_CAUSE cause

/-- A trigger passes over the instants before instant `k`: they count in SKIPPED and against COUNT; past the last it
returns to IDLE (R216, R225, R226). -/
def State.trgSkipTo (s : State) (n k : Nat) : State :=
  let x := s.trig n
  if k ≤ x.k then s
  else
    let last := match s.trgCount n with
      | some c => min k c
      | none => k
    let s := s.bumpBy (hubLoc (20 + n)) R.TRG_STAT_SKIPPED (last - x.k)
    if last < k then s.trgIdle n 0
    else
      match s.trgCount n with
      | some c => if k = c then s.trgIdle n 0 else s.setTrig n { x with k := k, b := 0 }
      | none => s.setTrig n { x with k := k, b := 0 }

/-- A trigger restarts at instant `k`, which may lie before its present one (R166, R216). -/
def State.trgRestart (s : State) (n k : Nat) : State :=
  if (s.trig n).k < k then s.trgSkipTo n k else s.setTrig n { s.trig n with k := k, b := 0 }

/-- Whether a trigger has a schedule in force. -/
def State.trgLive (s : State) (n : Nat) : Bool :=
  s.fld (hubLoc (20 + n)) R.TRG_STAT_STATE == 1 || s.fld (hubLoc (20 + n)) R.TRG_STAT_STATE == 2

/-- The first instant of a trigger at or after a time in 2^-16 ns (R216, R225). -/
def State.trgFirst (s : State) (n u : Nat) : Nat :=
  ceilDiv (u * s.trgDen n - (s.trig n).t0 * s.trgDen n) (max (s.trgPeriod n) 1)

/-- A trigger whose STEP_MODE is FOLLOW after a forward step to a time: the instants stepped over are passed over; of a
burst that has begun only its pulses are, which count nowhere (R225). -/
def State.trgFollow (s : State) (n u : Nat) : State :=
  let x := s.trig n
  let k := s.trgFirst n u
  let b := if x.mode = 3 then s.fld (hubLoc (20 + n)) R.TRG_BURST_B_M1 else 0
  if x.now ∨ x.b = 0 then s.trgSkipTo n k
  else
    match (List.range (b + 1)).find? (fun i => decide (x.b ≤ i) && decide (u * s.trgDen n ≤ s.trgInst n x.k i)) with
    | some i => s.setTrig n { x with b := i }
    | none =>
      if (s.trgCount n).any (fun c => decide (c ≤ x.k + 1)) then s.trgIdle n 0
      else (s.setTrig n { x with k := x.k + 1, b := 0 }).trgSkipTo n k

/-- A pulse output: PULSE mode in its live setting (R215). -/
def OutLive.pulse (x : OutLive) : Bool := bit x.cfg 4

/-- The first nominal instant of a PULSE output at or after a time in 2^-16 ns from TAI second 0 (R215): the period
divides the second, so the instants are evenly spaced. -/
def OutLive.firstAt (x : OutLive) (u : Nat) : Nat :=
  let o := x.ofs * 65536
  o + ceilDiv (u - o) (max x.period 1 * 65536) * (max x.period 1 * 65536)

/-- Nominal instants of a PULSE output from `a` up to, not including, `b` (R216). -/
def OutLive.between (x : OutLive) (a b : Nat) : Nat := (b - a) / (max x.period 1 * 65536)

/-- A pulse output restarts at its first nominal instant at or after a time, counting those passed over in MUTES
(R166, R216). -/
def State.outSkipTo (s : State) (k o u : Nat) : State :=
  let x := s.out (outIdx k o)
  let nx := x.firstAt u
  let s := s.bumpBy (mkLoc 6 0 0 (8 + k) o) R.OUT_STAT_MUTES (x.between x.next nx)
  s.setOut (outIdx k o) { x with next := nx }

/-- Every pulse and frame output restarts at its first nominal instant at or after a time (R166), those alone whose
half period is at most `lim` (R216). -/
def State.pulseRestart (s : State) (u : Nat) (lim : Option Nat) : State :=
  let s := allOuts.foldl (fun s x =>
    let y := s.out (outIdx x.1 x.2)
    if y.pulse && s.flag (mkLoc 6 0 0 (8 + x.1) x.2) R.OUT_STAT_LIVE
        && lim.all (fun p => decide (y.period * 65536 ≤ 2 * p)) then s.outSkipTo x.1 x.2 u else s) s
  (List.range 8).foldl (fun s n =>
    if s.trgLive n && s.trgHold n && lim.all (fun p => decide (s.trgPeriod n ≤ 2 * p * s.trgDen n)) then
      s.trgRestart n (s.trgFirst n u) else s) s

/-- REF_PEND, signed, in 2^-16 ns (R166). -/
def State.refPend (s : State) : Int := sx (s.pair locArb R.REF_PEND_LO_PEND R.REF_PEND_HI_PEND) 64

/-- Stores REF_PEND. -/
def State.setPend (s : State) (p : Int) : State :=
  s.putPair locArb R.REF_PEND_LO_PEND R.REF_PEND_HI_PEND (toBits p 64)

/-! ### TIME.ARM (R222 to R226) -/

/-- Whether a trigger's shape breaks R222. -/
def State.shapeBad (s : State) (n mode : Nat) : Bool :=
  let l := hubLoc (20 + n)
  let den := s.fld l R.TRG_FRAC_DEN
  let w := s.fld l R.TRG_WIDTH_WIDTH                    -- ps
  let p := s.trgPeriod n                                -- 2^-16 ns, times DEN
  let ps (x : Nat) : Nat := x * 65536 * den             -- ps to the unit of p, times 1000
  let b := s.fld l R.TRG_BURST_B_M1
  let sp := s.fld l R.TRG_BURST_S                       -- ns
  den == 0 || decide (den ≤ s.fld l R.TRG_FRAC_NUM) || decide (p < 100 * 65536 * den) || decide (w < 3200) ||
    decide (1000 * p < ps (w + 3200)) ||
    (mode == 3 && (decide (sp < 100) || decide (1000 * sp < w + 3200) ||
      decide (1000 * p < ps (b * sp * 1000 + w + 3200))))

/-- Arms a trigger with its first instant (R224, R226); in safe state it may be muted at once (R229). -/
def State.arm (s : State) (n mode t0 k : Nat) (now : Bool) : State :=
  let l := hubLoc (20 + n)
  ((s.setTrig n { mode := mode, t0 := t0, k := k, now := now }).put l R.TRG_STAT_STATE 1).trgSafe n

/-- TIME.ARM (R224): the present is the execution tick plus 1,000 ns; under NEXT, DETAIL counts the boundaries skipped (R77). -/
def mTimeArm : Meaning :=
  { bad := fun c _ => rangeBad (c.opa % 4 == 1 && c.late == 2)
    run := fun f loc s =>
      let n := locUnit loc - 20
      let mode := f.cmd.opa % 4
      let st := s.fld loc R.TRG_STAT_STATE
      if (mode = 0) = (st = 0) then (s, some (conflictC st))
      else if mode = 0 then (if st = 3 then s else s.trgIdle n 1, some (okC 0))
      else if s.shapeBad n mode then (s, some (badC 6))
      else if sdiff f.cmd.opb s.txNow = -horizon then (s, some { status := stHorizon })
      else
        let t0 := fromTx64 (s.nowU 6) f.cmd.opb
        let l : Int := (s.nowU 6 : Int) + 65536000 - t0
        let g := (s.ring f.ring).grace * 1000 * 65536
        let per := max (s.trgPeriod n) 1
        let den := s.trgDen n
        let cnt := if mode = 1 then some 1 else
          (let c := s.fld loc R.TRG_COUNT_COUNT
           if c = 0 then none else some c)
        if l ≤ (g : Int) then (s.arm n mode t0 0 false, some (okC 0))
        else if f.cmd.late = 0 then (s, some { status := stExpired })
        else if f.cmd.late = 1 then
          (s.arm n mode t0 (l.toNat * den / per + 1) true, some { status := stLate, result := lateNs l })
        else
          let j := ceilDiv ((l - g).toNat * den) per
          if cnt.all (fun c => decide (j < c)) then (s.arm n mode t0 j false, some { status := stOk, detail := j % 256 })
          else (s, some { status := stExpired }) }

def execTimeArm (n : Nat) (s : State) : Out := startRow s n (fun c => c.opcode == 0x64 && c.opa % 4 != 0) mTimeArm
def execTimeArmDisarm (n : Nat) (s : State) : Out :=
  startRow s n (fun c => c.opcode == 0x64 && c.opa % 4 == 0) mTimeArm

/-! ### TIME.CAPTURE (R219, R220) -/

/-- The 16 bytes of a capture queue entry (R219). -/
def CapEnt.bytes (e : CapEnt) (ch : Nat) : List Byte :=
  leBytes 16 (fullTime e.stamp + ch * 2 ^ 96 + b2n e.fall * 2 ^ 99 + e.stepGen * 2 ^ 100 + b2n e.uncal * 2 ^ 104
    + b2n e.lost * 2 ^ 105 + b2n e.safe * 2 ^ 106 + b2n e.loop * 2 ^ 107 + b2n e.dropped * 2 ^ 108 + 2 ^ 109
    + e.seq % 65536 * 2 ^ 112)

/-- Takes the oldest `k` entries that may be drained out of a list: those taken, those left. -/
def takeOld {α : Type} (ok : α → Bool) : Nat → List α → List α × List α
  | 0, l => ([], l)
  | _ + 1, [] => ([], [])
  | k + 1, x :: xs =>
    if ok x then
      let r := takeOld ok k xs
      (x :: r.1, r.2)
    else
      let r := takeOld ok (k + 1) xs
      (r.1, x :: r.2)

/-- TIME.CAPTURE (R220). -/
def mTimeCapture : Meaning :=
  { bad := fun c _ =>
      let fn := bits c.opa 14 2
      if bits c.opa 9 5 ≠ 0 then some 1
      else rangeBad (decide (2 ≤ fn) ||
        (fn == 0 && (c.opa % 512 == 0 || decide (256 < c.opa % 512) || c.opb % 16 != 0)))
    run := fun f loc s =>
      let n := locUnit loc - 12
      let x := s.cap n
      if bits f.cmd.opa 14 2 = 1 then
        (s.setCap n { x with queue := [] }, some (okC x.queue.length))
      else
        let poll := s.flag loc R.CAP_CTRL_MODE
        let r := takeOld (fun e => poll || e.dropped) (f.cmd.opa % 512) x.queue
        if r.1 = [] then (s, some (okC 0)) else
        match s.dmaWrite f.cmd.opb ((r.1.map (fun e => e.bytes n)).flatten) with
        | none => (s, some dmaFaultC)
        | some t => (t.setCap n { t.cap n with queue := r.2 }, some (okC r.1.length)) }

def execTimeCaptureDrain (n : Nat) (s : State) : Out :=
  startRow s n (fun c => c.opcode == 0x65 && bits c.opa 14 2 != 1) mTimeCapture
def execTimeCaptureFlush (n : Nat) (s : State) : Out :=
  startRow s n (fun c => c.opcode == 0x65 && bits c.opa 14 2 == 1) mTimeCapture

/-! ### TSQ.DRAIN (R102 to R104) -/

/-- The 32 bytes of a transmit-timestamp queue entry (R102). -/
def TsqEnt.bytes (e : TsqEnt) (d p : Nat) : List Byte :=
  leBytes 32 (fullTime e.stamp + e.tsId % 65536 * 2 ^ 96 + p * 2 ^ 112 + d * 2 ^ 119 + e.stepGen * 2 ^ 121
    + b2n e.uncal * 2 ^ 125 + b2n e.dropped * 2 ^ 126 + 2 ^ 127 + e.msgType * 2 ^ 128 + e.seqId % 65536 * 2 ^ 136)

/-- TSQ.DRAIN (R104). -/
def mTsqDrain : Meaning :=
  { bad := fun c _ => if c.opa / 32 ≠ 0 then some 1
      else rangeBad (c.opa == 0 || decide (16 < c.opa) || c.opb % 32 != 0)
    run := fun f loc s =>
      let (d, p) := locPort loc
      if s.absent loc then (s, some noTarget)
      else
        let x := s.port d p
        let poll := s.pflag d p R.TS_CTRL_TSQ_MODE
        let r := takeOld (fun e => poll || e.dropped) f.cmd.opa x.tsq
        if r.1 = [] then (s, some (okC 0)) else
        match s.dmaWrite f.cmd.opb ((r.1.map (fun e => e.bytes d p)).flatten) with
        | none => (s, some dmaFaultC)
        | some t => (t.setPort d p { t.port d p with tsq := r.2 }, some (okC r.1.length)) }

def execTsqDrain (n : Nat) (s : State) : Out := startRow s n (isOp 0x66) mTsqDrain

end Sys2Proof.Machine
end

