-- ==== Sys2Proof/Machine/LinkInstr.lean ====
section
/-! DEFINITION. The LINK group: fibre asymmetry and sounding (R133 to R139, R423). -/

namespace Sys2Proof.Machine

/-- The DETAIL of a refusal because of the link state (R132). -/
def State.linkConflict (s : State) (d p : Nat) : Compl := conflictC (s.rlkState d p)

/-! ### LINK.ASYM (R133, R135) -/

/-- The effective asymmetry in ps, signed, saturating at 32,767 (R135); to the nearest ps, halves up (DESIGN CHOICE, log
entry 20). -/
def State.asymPs (s : State) (d p : Nat) : Nat :=
  toBits (max (-32767) (min 32767 (roundDiv (s.asym d p * 1000) 65536))) 16

/-- LINK.ASYM (R135). -/
def mLinkAsym : Meaning :=
  { bad := fun _ _ => none
    run := fun f loc s =>
      let (d, p) := locPort loc
      let b := f.cmd.opb
      if s.absent loc then (s, some noTarget)
      else if s.rlkState d p = rlkSounding then (s, some (s.linkConflict d p))
      else
        let lam (s : State) : State :=
          (s.pput d p R.RLK_LAMBDA_TX_LAMBDA (bits b 0 22)).pput d p R.RLK_LAMBDA_RX_LAMBDA (bits b 22 22)
        let t := match f.cmd.opa % 4 with
          | 0 => s.pput d p R.RLK_ASYM_CFG_CFG (b % 2 ^ 32)
          | 1 => ((lam s).pput d p R.RLK_DISP_DMID (bits b 44 20)).pput d p R.RLK_STAT_ASYM_SRC 1
          | 2 => lam s
          | _ => s.pput d p R.RLK_STAT_ASYM_SRC 0
        let t := t.asymSync d p
        (t, some (okC (t.asymPs d p))) }

/-- LINK.ASYM with a function code in OPA[1:0]. -/
def isAsym (fn : Nat) (c : Cmd) : Bool := c.opcode == 0x71 && c.opa % 4 == fn

def execLinkAsymSetCfg (n : Nat) (s : State) : Out := startRow s n (isAsym 0) mLinkAsym
def execLinkAsymSetCmis (n : Nat) (s : State) : Out := startRow s n (isAsym 1) mLinkAsym
def execLinkAsymSetWavelengths (n : Nat) (s : State) : Out := startRow s n (isAsym 2) mLinkAsym
def execLinkAsymSetConfig (n : Nat) (s : State) : Out := startRow s n (isAsym 3) mLinkAsym

/-! ### LINK.SOUND (R137 to R139) -/

/-- The wavelength sum of an OPB in pm (R137). -/
def lamSum (b : Nat) : Nat := bits b 0 22 + bits b 22 22

/-- The sounding under way on a port. -/
def State.snd (s : State) (d p : Nat) : Sound := (s.relka d p).snd
/-- Stores it. -/
def State.setSnd (s : State) (d p : Nat) (x : Sound) : State := s.setRelka d p { s.relka d p with snd := x }

/-- The wavelength sum of a pair measured since BEGIN. -/
def Sound.sumOf (x : Sound) (pairB : Bool) : Option Nat :=
  (if pairB then x.doneB else x.doneA).map (fun w => w.1 + w.2)

/-- A sum within 4,000 pm of that of the other pair measured (R138). -/
def Sound.tooNear (x : Sound) (pairB : Bool) (sum : Nat) : Bool :=
  (x.sumOf (!pairB)).any (fun o => decide (sum ≤ o + 4000) && decide (o ≤ sum + 4000))

/-- The operand check of LINK.SOUND (R137, R138, R400). -/
def linkSoundBad (c : Cmd) (s : State) : Option Nat :=
  let (d, p) := locPort (s.firstLoc c)
  let st := c.opa % 16
  if st = 2 ∨ st = 3 then
    rangeBad (decide (bits c.opb 44 4 < 4) || decide (10 < bits c.opb 44 4) ||
      (s.snd d p).tooNear (st == 3) (lamSum c.opb))
  else rangeBad (st == 0 || (decide (6 ≤ st) && decide (st ≤ 14)))

/-- The sounded product DL in 2^-10 fs/pm (R137): means in 2^-16 ns, sums in pm; to the nearest, halves up, as the mean is
(DESIGN CHOICE, log entry 20). -/
def soundDl (rttA rttB sumA sumB : Nat) : Int :=
  let num : Int := ((rttA : Int) - rttB) * 15625
  if sumB ≤ sumA then roundDiv num (sumA - sumB) else roundDiv (-num) (sumB - sumA)

/-- The standard uncertainty of a in fs: 3.24 ps for one rtt, less by the root of each number of exchanges, over the
difference of the sums, times the operating difference (R137, and Example 1 of its chapter); to the nearest (DEDUCED, log
entry 60). -/
def solveFs (nA nB diff op : Nat) : Nat :=
  (isqrt (4 * (3240 * 3240 * (nA + nB) * (op * op)) / (nA * nB * (diff * diff))) + 1) / 2

/-- The distance of two numbers. -/
def natDist (a b : Nat) : Nat := (a - b) + (b - a)

/-- SOLVE (R137): DL into RLK_DL. -/
def State.solve (s : State) (d p : Nat) : Eff :=
  let x := s.snd d p
  match x.sumOf false, x.sumOf true with
  | some a, some b =>
    let dl := soundDl (s.pair (portLoc d p) R.RLK_SND_RTT_A_RTT_LO R.RLK_SND_RTT_A_RTT_HI)
      (s.pair (portLoc d p) R.RLK_SND_RTT_B_RTT_LO R.RLK_SND_RTT_B_RTT_HI) a b
    let s := (s.pput d p R.RLK_DL_DL (satBits dl 32)).asymSync d p
    (s.setSnd d p { x with solved := true },
      some (okC (satNat (solveFs x.nA x.nB (natDist a b)
        (natDist (s.pfld d p R.RLK_LAMBDA_TX_LAMBDA) (s.pfld d p R.RLK_LAMBDA_RX_LAMBDA))) 16)))
  | _, _ => (s, some (s.linkConflict d p))

/-- LINK.SOUND (R137); a MEASURE outside SOUNDING is refused for the link state (log entry 27). -/
def mLinkSound : Meaning :=
  { bad := linkSoundBad
    run := fun f loc s =>
      let (d, p) := locPort loc
      let b := f.cmd.opb
      let st := s.rlkState d p
      let no : Eff := (s, some (s.linkConflict d p))
      if s.absent loc then (s, some noTarget)
      else
        match f.cmd.opa % 16 with
        | 1 =>
          if st = rlkLinked ∧ s.pflag d p R.RLK_CTRL_SOUND_CAP then
            ((s.setSnd d p {}).rlkMove d p rlkSounding, some (okC 0)) else no
        | 4 => if st = rlkSounding then s.solve d p else no
        | 5 =>
          if st = rlkSounding ∧ (s.snd d p).solved then
            let s := (s.pput d p R.RLK_LAMBDA_TX_LAMBDA (bits b 0 22)).pput d p R.RLK_LAMBDA_RX_LAMBDA (bits b 22 22)
            let s := (s.pput d p R.RLK_STAT_ASYM_SRC 2).asymSync d p
            ((s.setSnd d p {}).rlkMove d p rlkAcquire, some (okC 0))
          else no
        | 15 =>
          (if st = rlkSounding then (s.setSnd d p {}).rlkMove d p rlkAcquire else s, some (okC 0))
        | k =>
          if st = rlkSounding then
            (s.setSnd d p { s.snd d p with
              num := some f.num, pairB := k == 3, need := 2 ^ bits b 44 4, got := 0, bad := 0, sum := 0,
              tx := bits b 0 22, rx := bits b 22 22 }).goesOn f.num (s.now + secTicks)
          else no }

/-- A step of LINK.SOUND; a code without a row of its own is refused with the first. -/
def execLinkSoundBegin (n : Nat) (s : State) : Out :=
  startRow s n (fun c => c.opcode == 0x70 && !([2, 3, 4, 5, 15].contains (c.opa % 16))) mLinkSound
def execLinkSoundMeasure (n : Nat) (s : State) : Out :=
  startRow s n (fun c => c.opcode == 0x70 && (c.opa % 16 == 2 || c.opa % 16 == 3)) mLinkSound
def execLinkSoundSolve (n : Nat) (s : State) : Out := startRow s n (isFunc 0x70 4) mLinkSound
def execLinkSoundEnd (n : Nat) (s : State) : Out := startRow s n (isFunc 0x70 5) mLinkSound
def execLinkSoundAbort (n : Nat) (s : State) : Out := startRow s n (isFunc 0x70 15) mLinkSound

/-- MEASURE has not gathered its exchanges after 1 s: TIMEOUT, nothing stored (R137). -/
def execSoundMeasureTimeout (n : Nat) (s : State) : Out :=
  match s.going n (isOp 0x70) with
  | none => .next s
  | some (_, t) =>
    let s := s.advanceTo t
    let off (x : Port) : Port :=
      if x.relka.snd.num = some n then { x with relka := { x.relka with snd := { x.relka.snd with num := none } } } else x
    .next ({ s with ports := s.ports.map (fun (x : Nat × Port) => (x.1, off x.2)) }.complete n { status := stTimeout })

end Sys2Proof.Machine
end

