-- ==== Sys2Proof/Machine/RefInstr.lean ====
section
/-! DEFINITION. The REF group (R150, R151, R161, R162, R165, R423) and what happens to references: gates, failures,
settle windows, locks (R152 to R160, R163, R168). -/

namespace Sys2Proof.Machine

/-! ### The REF group -/

/-- The refusal of a REF instruction: servo state and the named slot's state (R162). -/
def State.refConflict (s : State) (slot : Option Nat) : Compl :=
  conflictC (s.servoState + ((slot.map s.refState).getD 0) * 16)

/-- Whether REF instructions are refused because of the servo state (R162). -/
def State.refShut (s : State) : Bool := s.servoState == 6 || s.servoState == 7

/-- Whether two configuration words name the same source (R151). -/
def sameSource (a b : Nat) : Bool :=
  if portKind (a % 16) then a % 16 == b % 16 && bits a 4 9 == bits b 4 9
  else a % 16 == b % 16 || (a % 16 == 0 && b % 16 == 7) || (a % 16 == 7 && b % 16 == 0)

/-- A slot is nominated anew: FAILED, everything cleared (R151). -/
def State.nominate (s : State) (i : Nat) : State :=
  let s := (s.setRef i {}).setRefState i 1
  (((s.arbPut (R.REF_STAT_WARN i) 0).arbPut (R.REF_STAT_FORECAST i) 0).arbPut (R.REF_STAT_CAUSE i) 0).arbPut
    (R.REF_STAT_WTR_LEFT i) 0

/-- The operand check of REF.SET, a withdrawal with it (R151). -/
def refSetBad (c : Cmd) (s : State) : Option Nat :=
  let k := c.opb % 16
  let d := bits c.opb 4 2
  let p := bits c.opb 6 7
  rangeBad (decide (8 ≤ k) || (portKind k && !s.present d p) || (k == 6 && !s.pflag d p R.RLK_CTRL_EN))

/-- REF.SET (R150, R151). -/
def mRefSet : Meaning :=
  { bad := refSetBad
    run := fun f _ s =>
      let i := f.cmd.opa % 8
      let new := f.cmd.opb % 2 ^ 18
      let old := s.refCfg i
      let moved := old % 2 ^ 13 != new % 2 ^ 13
      let no : Eff := (s, some (s.refConflict (some i)))
      let ok := some (okC 0)
      if s.refShut then no
      else if bit f.cmd.opa 3 then
        if (List.range 8).any (fun j => j != i && s.refState j != 0 && sameSource (s.refCfg j) new) then no
        else if s.selected = some i ∧ moved then no
        else
          let t := s.arbPut (R.REF_CFG_CFG i) new
          if s.refState i = 0 ∨ moved then (t.nominate i, ok) else (t.traceSync, ok)
      else if s.selected = some i then no
      else (((s.arbPut (R.REF_CFG_CFG i) new).nominate i).setRefState i 0, ok) }

def execRefSetNominate (n : Nat) (s : State) : Out := startRow s n (fun c => c.opcode == 0x80 && bit c.opa 3) mRefSet
def execRefSetWithdraw (n : Nat) (s : State) : Out :=
  startRow s n (fun c => c.opcode == 0x80 && !bit c.opa 3) mRefSet

/-- Uses a named slot, refused where its Delta lies beyond SANITY (R161, R164). -/
def State.useSlot (s : State) (i mode : Nat) : State :=
  let prev := s.arb R.REF_SEL_SELECTED
  if s.selected = some i then s.arbPut R.REF_SEL_MODE mode
  else if !freqKind (s.refKind i) && s.tooFar i (s.ref i).toff then
    let s := s.refuseSlot i (s.ref i).toff
    if mode = 2 then
      (((s.arbPut R.REF_SEL_MODE 2).arbPut R.REF_SEL_SELECTED i).toRest false).refEvent prev 5 false
    else (s.arbPut R.REF_SEL_MODE 0).reselect true
  else ((s.arbPut R.REF_SEL_MODE mode).choose i).refEvent prev 0 false

/-- REF.SELECT (R161). -/
def mRefSelect : Meaning :=
  { bad := fun _ _ => none
    run := fun f _ s =>
      let i := f.cmd.opa % 8
      if s.refShut ∨ s.refState i ≠ 3 ∨ s.flag locArb R.REF_SEL_SETTLING ∨ 2 ≤ s.arb R.REF_SEL_MODE then
        (s, some (s.refConflict (some i)))
      else (s.useSlot i 1, some (okC 0)) }

def execRefSelect (n : Nat) (s : State) : Out := startRow s n (isOp 0x81) mRefSelect

/-- REF.FORCE (R161): a slot that shows an activity condition gives Steady Rest (log entry 26); a REFUSED one is used where
its present offset passes R164. -/
def mRefForce : Meaning :=
  { bad := fun c _ => rangeBad (decide (8 ≤ c.opa % 16) && c.opa % 16 != 15)
    run := fun f _ s =>
      let i := f.cmd.opa % 16
      let prev := s.arb R.REF_SEL_SELECTED
      if i = 15 then
        if s.refShut then (s, some (s.refConflict none))
        else (((s.arbPut R.REF_SEL_MODE 3).toRest false).refEvent prev 0 false, some (okC 0))
      else if s.refShut ∨ s.refState i = 0 then (s, some (s.refConflict (some i)))
      else if (s.ref i).dead then
        (((((s.arbPut R.REF_SEL_MODE 2).arbPut R.REF_SEL_SELECTED i)).toRest false).refEvent prev
          (s.arb (R.REF_STAT_CAUSE i)) false, some (okC 0))
      else (s.useSlot i 2, some (okC 0)) }

def execRefForce (n : Nat) (s : State) : Out := startRow s n (isOp 0x82) mRefForce

/-- REF.RELEASE (R161). -/
def mRefRelease : Meaning :=
  { bad := fun _ _ => none
    run := fun _ _ s =>
      if s.refShut ∨ s.arb R.REF_SEL_MODE = 0 then (s, some (s.refConflict none))
      else ((s.arbPut R.REF_SEL_MODE 0).reselect, some (okC 0)) }

def execRefRelease (n : Nat) (s : State) : Out := startRow s n (isOp 0x83) mRefRelease

/-- REF.ACCEPT_STEP (R165). -/
def mRefAcceptStep : Meaning :=
  { bad := fun _ _ => none
    run := fun f _ s =>
      let i := f.cmd.opa % 8
      if s.refShut ∨ s.refState i ≠ 4 then (s, some (s.refConflict (some i)))
      else
        let r := ns16 (s.ref i).delta
        let s := (s.setRef i { s.ref i with accept := true, shut := false }).setRefState i 3
        (s.reselect, some (okC r)) }

def execRefAcceptStep (n : Nat) (s : State) : Out := startRow s n (isOp 0x84) mRefAcceptStep

/-! ### Activity (R152, R153) -/

/-- An activity condition arises at a slot (R153). -/
def execRefActivityFail (i : Nat) (s : State) : Out := .next (s.activityFail i)

/-- Ticks from a pulse in which a ToD message counts: after 10 ms, until 100 ms before the next (R152). -/
def todWindow (t : Nat) : Bool := decide (6250000 ≤ t) && decide (t ≤ 562500000)

/-- A ToD message (R152): SYNC, CHECK over bytes 2 to 8, and its arrival decide whether it counts. -/
def execTodMessage (bs : List (BitVec 8)) (s : State) : Out :=
  let ok := bs.length == 11 && beAt bs 0 2 == 0xC33C && crc16 (leAt bs 2 7) 56 == beAt bs 9 2 &&
    todWindow (s.now - s.servo.pulse0)
  if ok then
    .next ((s.setServo { s.servo with todSecs := beAt bs 2 6, todFlags := beAt bs 8 1,
                                      todOk := bit (beAt bs 8 1) 0 }).traceSync)
  else .next s

/-- The slot of a kind that is nominated. -/
def State.slotOf (s : State) (ok : Nat → Bool) : List Nat :=
  (List.range 8).filter (fun i => s.refState i != 0 && ok (s.refKind i))

/-- A pulse on an input, `offset` ticks after one second from the pulse before it (R152, R153): outside 100 us of it,
or on PPSIN0 under kind 0 without a counting message with VALID, the reference fails its activity. -/
def execReferencePulse (inp : Nat) (offset : Int) (s : State) : Out :=
  let last := if inp = 0 then s.servo.pulse0 else s.servo.pulse1
  let s := if last = 0 then s else s.advanceTo (((last : Int) + secTicks + offset).toNat)
  let off := last != 0 && decide (62500 < offset.natAbs)
  let todOk := s.servo.todOk
  let s := s.setServo (if inp = 0 then { s.servo with pulse0 := s.now, todOk := false }
    else { s.servo with pulse1 := s.now })
  let hit := s.slotOf (fun k => if inp = 0 then (k == 0 && (off || !todOk)) || (k == 7 && off) else k == 1 && off)
  .next (hit.foldl State.activityFail s)

/-! ### The gate (R153 to R159) -/

/-- Whether a gate mean lies beyond a limit given in 0.01 ppm (R154, R175). -/
def beyond (foff : Int) (lim : Nat) : Bool := decide (lim * 1000 < foff.natAbs)

/-- An offset wrapped into half a second (R151). -/
def wrapHalf (o : Int) : Int := (o + uSec / 2) % uSec - uSec / 2

/-- Whether the state shows a standing activity condition of a slot (R153). -/
def State.standing (s : State) (i : Nat) : Bool :=
  let (d, p) := s.refPort i
  let pulseLate (t : Nat) : Bool := t == 0 || decide (t + secTicks + 62500 < s.now)
  let down := s.pstate d p != psUp
  match s.refKind i with
  | 0 => pulseLate s.servo.pulse0
  | 7 => pulseLate s.servo.pulse0
  | 1 => pulseLate s.servo.pulse1
  | 4 => down || (s.port d p).lossAt.any (fun x => x.2 != 9)
  | 5 =>
    let x := s.port d p
    down || x.eng.expired || decide (x.eng.heardAt + 3 * logTicks x.ptp.logSync < s.now)
  | 6 =>
    let x := s.relka d p
    s.pfld d p R.RLK_STAT_STATE != rlkLinked || x.safe || (!x.traced && !s.flag locArb R.REF_CTRL_ACCEPT_UNTRACED)
  | _ => false

/-- The offsets of a reference, reference less timescale, that a gate brought: tick and 2^-16 ns, newest first. A Relka link
and a slave port deliver twice the offset of this part from the other (R112, R127, R129). -/
def State.gateOffs (s : State) (m : GateMeas) : List (Nat × Int) :=
  let (d, p) := s.refPort m.slot
  let mine (l : List (Nat × Int)) : List (Nat × Int) :=
    (l.filter (fun x => decide (s.now < x.1 + secTicks))).map (fun x => (x.1, roundDiv (-x.2) 2))
  match s.refKind m.slot with
  | 5 => mine (s.port d p).eng.gate
  | 6 => mine (s.relka d p).gate
  | k => (m.offs.filter (fun x => decide (x.1 ≤ secTicks))).map
      (fun x => (s.now - x.1, if phaseKind k then wrapHalf x.2 else x.2))

/-- Twice-weighted sums of a line through samples of tick and offset, ticks counted from `x0`: the slope is the first number
over the second, which is 0 where the samples span no time. -/
def lineFit (x0 : Nat) (l : List (Nat × Int)) : Int × Nat :=
  let n : Int := l.length
  let xs := l.map (fun y => ((y.1 : Int) - x0, y.2))
  let sx := (xs.map Prod.fst).sum
  let sy := (xs.map Prod.snd).sum
  let sxx := (xs.map (fun y => y.1 * y.1)).sum
  let sxy := (xs.map (fun y => y.1 * y.2)).sum
  (n * sxy - sx * sy, (n * sxx - sx * sx).toNat)

/-- Whether the offsets of a slot, without their linear trend, move by more than a limit in ns within some window of `span`
ticks that ends in the gate (R155). The trend is that of all the samples held (DESIGN CHOICE, log entry 63). -/
def State.chatters (s : State) (l : List (Nat × Int)) (span lim : Nat) : Bool :=
  let x0 := (l.getLast?.map Prod.fst).getD 0
  let (b, d) := lineFit x0 l
  let e := max d 1
  let res := l.map (fun y => (y.1, y.2 * e - (if d = 0 then 0 else b * ((y.1 : Int) - x0))))
  (res.filter (fun y => decide (s.now < y.1 + secTicks))).any (fun y => res.any (fun z =>
    decide (z.1 ≤ y.1) && decide (y.1 ≤ z.1 + span) && decide (lim * 65536 * e < (y.2 - z.2).natAbs)))

/-- PHASE_ACC of a Relka slot's link as delivered last, where that was in the present gate (R129). -/
def State.gatePhase (s : State) (i : Nat) : Option Int :=
  let (d, p) := s.refPort i
  let x := s.relka d p
  if s.refKind i = 6 ∧ s.now < x.phAt + secTicks then some x.phHs else none

/-- The frequency of a reference over a gate, against LREF, in 0.01 ppb (R129, R154). A slave port's is the slope of its
offsets over the last 16 s on top of FCW; a Relka link's is FCW less the rate at which PHASE_ACC, the position of the
recovered clock's edges in 0.390625 ps, grew over the gate (DEDUCED, log entry 63). -/
def State.gateFoff (s : State) (m : GateMeas) (offs : List (Nat × Int)) : Int :=
  let fcw := s.servo.fcw * 10 ^ 11
  match s.refKind m.slot, (s.ref m.slot).phase, s.gatePhase m.slot with
  | 5, _, _ =>
    let (b, e) := lineFit (s.now - 16 * secTicks) (offs.filter (fun x => decide (s.now < x.1 + 16 * secTicks)))
    if e = 0 then m.foff else roundDiv (b * (10 ^ 12 * 2 ^ 40) + fcw * e) (e * 2 ^ 60)
  | 6, some old, some new =>
    roundDiv (fcw * 10 ^ 7 - sx (toBits (new - old) 32) 32 * (390625 * 2 ^ 60)) (10 ^ 7 * 2 ^ 60)
  | _, _, _ => m.foff

/-- The failure cause of a gate: 1 activity, 2 frequency, 3 chatter; 0 none (R153 to R155). -/
def State.gateCause (s : State) (fail : Bool) (foff : Int) (offs : List (Nat × Int)) : Nat :=
  if fail then 1
  else if beyond foff (s.arb R.REF_QUAL_REJECT) then 2
  else if s.chatters offs secTicks (s.arb R.REF_CHAT_CHAT_1S)
      ∨ s.chatters offs (100 * secTicks) (s.arb R.REF_CHAT_CHAT_100S) then 3
  else 0

/-- The fitted line of the gate means, newest first, carried `ahead` gates past the newest, lies beyond a limit
(R157). -/
def forecastBeyond (ys : List Int) (ahead lim : Nat) : Bool :=
  let n := ys.length
  let xy := (ys.reverse.zipIdx.map (fun y => (y.2 : Int) * y.1)).sum
  let sy := ys.sum
  let sx : Int := (n * (n - 1) / 2 : Nat)
  let sxx : Int := ((n - 1) * n * (2 * n - 1) / 6 : Nat)
  let d := n * sxx - sx * sx
  let b := n * xy - sx * sy
  let num := sy * d + b * ((n : Int) * ((n : Int) - 1 + ahead) - sx)
  decide (11 ≤ n) && decide (((lim * 1000 : Nat) : Int) * (n * d) < num.natAbs)

/-- A gate beyond warn: WARN, its count and one event, whatever else the gate shows (R154, R167). -/
def State.warnSlot (s : State) (i : Nat) : State :=
  ((s.arbPut (R.REF_STAT_WARN i) 1).bump locArb (R.REF_STAT_WARN_COUNT i)).event' 3
    ((s.selected.getD 0) + b2n s.selected.isNone * 8 + s.servoState * 16 + i * 256 + 2 * 4096 + 32768) s.txNow

/-- The move that a gate with a failure cause, or none, makes a slot make (R158). -/
def State.gateMove (s : State) (i cause : Nat) (foff : Int) : State :=
  let st := s.refState i
  if st = 1 then
    if cause = 0 then (s.setRef i { s.ref i with qual := 1 }).setRefState i 2 else s
  else if cause ≠ 0 then s.failSlot i cause
  else if st = 2 then
    if beyond foff (s.arb R.REF_QUAL_ACCEPT) then s.failSlot i 2
    else
      let q := (s.ref i).qual + 1
      let s := s.setRef i { s.ref i with qual := q }
      if s.arb R.REF_TIMES_QUALIFY_S ≤ q then
        (s.setRefState i 3).arbPut (R.REF_STAT_WTR_LEFT i) (if (s.ref i).left then s.arb R.REF_TIMES_WTR_S else 0)
      else s
  else s

/-- What a gate does to one slot: registers, warning, state, look-ahead (R153 to R158). FORECAST is written only while
LOOKAHEAD_EN is set, and then keeps its value (DESIGN CHOICE, log entry 63). -/
def State.gateSlot (s : State) (m : GateMeas) : State :=
  let i := m.slot
  if 8 ≤ i ∨ s.refState i = 0 then s
  else
    let x := s.ref i
    let new := s.gateOffs m
    let offs := new ++ x.offs.filter (fun y => decide (s.now ≤ y.1 + 101 * secTicks))
    let foff := s.gateFoff m offs
    let off := if new = [] then x.toff else roundDiv (new.map Prod.snd).sum new.length
    let stand := m.fail || s.standing i
    let cause := s.gateCause (x.dead || stand) foff offs
    let s := s.setRef i { x with toff := off, offs := offs, gates := (foff :: x.gates).take 100, dead := stand,
                                 phase := s.gatePhase i }
    let s := (s.arbPut (R.REF_FOFF_FOFF i) (satBits foff 32)).arbPut (R.REF_TOFF_TOFF i) (satBits off 32)
    let s := if beyond foff (s.arb R.REF_QUAL_WARN) then s.warnSlot i else s
    let s := s.gateMove i cause foff
    if s.refState i = 3 ∧ s.flag locArb R.REF_CTRL_LOOKAHEAD_EN then
      s.putB locArb (R.REF_STAT_FORECAST i)
        (forecastBeyond (s.ref i).gates (s.arb R.REF_TIMES_LOOKAHEAD_S) (s.arb R.REF_QUAL_REJECT))
    else s

/-- WTR_LEFT counts down in QUALIFIED, once per second (R158). -/
def State.wtrDown (s : State) : State :=
  ((List.range 8).filter (fun i => s.refState i == 3)).foldl
    (fun s i => s.arbPut (R.REF_STAT_WTR_LEFT i) (s.arb (R.REF_STAT_WTR_LEFT i) - 1)) s

/-- The next gate begins: what ports and links deliver is gathered anew (R112, R129). -/
def State.gateFresh (s : State) : State :=
  { s with ports := s.ports.map (fun x =>
      (x.1, { x.2 with eng := { x.2.eng with gate := [] }, relka := { x.2.relka with gate := [] } })) }

/-- Puts a number in its place in a rising list. -/
def insertInt (x : Int) : List Int → List Int
  | [] => [x]
  | y :: ys => if x ≤ y then x :: y :: ys else y :: insertInt x ys

/-- Twice the median of a list; 0 for none (R156). -/
def median2 (l : List Int) : Int :=
  let a := l.foldr insertInt []
  a.getD ((a.length - 1) / 2) 0 + a.getD (a.length / 2) 0

/-- The slot that the vote fails: furthest beyond VOTE from the median of the others, lowest number first (R156). -/
def State.voteOut (s : State) : Option Nat :=
  let qs := (List.range 8).filter (fun i => s.refState i == 3 && !freqKind (s.refKind i))
  let dev (i : Nat) : Nat :=
    (2 * (s.ref i).toff - median2 ((qs.filter (· != i)).map (fun j => (s.ref j).toff))).natAbs
  if !s.flag locArb R.REF_CTRL_VOTE_EN ∨ qs.length < 3 then none
  else
    (qs.foldl (fun (b : Option Nat × Nat) i => if b.2 < dev i then (some i, dev i) else b)
      (none, 2 * s.arb R.REF_VOTE_VOTE * 65536)).1

/-- The selected reference after a gate: a jump outside a window (R163), or the pending epoch that no Delta carries
(R143). One that the gate has just failed is not tracked any more (R158). -/
def State.trackSel (s : State) (before : List (Nat × Int)) : State :=
  match s.selected with
  | none => s
  | some i =>
    if freqKind (s.refKind i) ∨ s.flag locArb R.REF_SEL_SETTLING ∨ s.servo.due.isSome ∨ s.servo.step.isSome
        ∨ (s.refState i < 2 ∧ s.arb R.REF_SEL_MODE ≠ 2) then s
    else
      let off := (s.ref i).toff
      match before.find? (fun x => x.1 == i) with
      | none => s
      | some (_, old) =>
        if s.arb R.REF_PHASE_SLEW_THR * 65536 < (off - old).natAbs then s.jump i off
        else if s.servo.epochBySlew then s else s.adoptEpoch

/-- CLK_XDIFF takes the mean of the last second while both inputs are stable: a measured value, which is open (R321). -/
def State.xdiffSync (s : State) : State :=
  if s.inStable false && s.inStable true then
    let (v, s) := s.freeNat
    s.clkPut R.CLK_XDIFF_DIFF v
  else s

/-- The monitors and the vote at the end of a gate (R154 to R158). -/
def State.monitors (s : State) (meas : List GateMeas) : State :=
  let s := (meas.foldl State.gateSlot s).gateFresh
  match s.voteOut with
  | none => s
  | some i => s.failSlot i 4

/-- Whether the selected reference's gate passed inside accept (R171). -/
def State.selPassed (s : State) (meas : List GateMeas) : Bool :=
  s.selected.any (fun i => meas.any (fun m => m.slot == i) && decide (2 ≤ s.refState i) && !(s.ref i).dead &&
    (s.ref i).gates.head?.any (fun f => !beyond f (s.arb R.REF_QUAL_ACCEPT)))

/-- A 1 s gate ends on a second boundary: frequency, chatter, look-ahead, qualify, vote, WTR and FCW recording, then
the selection that is due (R154 to R159, R163, R171). In TAKEOVER, and where a takeover was declared in it, the gate is
discarded; the timers of HOLD stand still (R168, R198). -/
def execRefGateEnd (meas : List GateMeas) (s : State) : Out :=
  let s := if s.now = s.servo.gateAt ∧ s.now ≠ 0 then s.advance 1 else s
  let s := s.toSecond.xdiffSync
  let bad := s.servo.gateBad
  let s := s.setServo { s.servo with gateAt := s.now, gateBad := false }
  let st := s.servoState
  let s := if st = 4 ∨ (6 ≤ st ∧ s.servo.before = 4) then
      s.arbPut R.SR_DURATION_SECONDS (satNat (s.arb R.SR_DURATION_SECONDS + 1) 32) else s
  if st = 6 then .next s.gateFresh
  else
    let sel := s.selected
    let was := sel.any (fun i => s.refState i == 3)
    let before := ((List.range 8).filter (fun i => (s.ref i).gates != [])).map (fun i => (i, (s.ref i).toff))
    let s := if st = 7 then s else s.wtrDown
    let t := if bad then s.gateFresh else s.monitors meas
    let t := if st = 2 ∨ st = 3 then t.record (!bad && t.selPassed meas) else t
    let must := was && sel.any (fun i => t.refState i != 3)
    .next ((t.trackSel before).traceSync.reselect must)

/-! ### Windows and locks (R160, R168) -/

/-- The settle window ends (R160, R168, R143): `residual` in 2^-16 ns. -/
def execSettleWindowEnd (residual : Int) (s : State) : Out :=
  if !s.flag locArb R.REF_SEL_SETTLING ∨ 6 ≤ s.servoState then .next s
  else
    let s := (s.advanceTo s.servo.settleEnd).arbPut R.REF_SEL_SETTLING 0
    let s := if s.servo.due.isNone && s.servo.step.isNone && !s.servo.epochBySlew then s.adoptEpoch else s
    let s := if s.servoState = 5 then
        let freq := s.selected.any (fun i => freqKind (s.refKind i))
        if freq then s.toServo 2 else if residual.natAbs ≤ 65536 then s.toServo 3
        else (s.setServo { s.servo with lockAt := s.now }).toServo 1
      else s
    .next s.reselect

/-- The servo has held its residual, or its frequency, for 10 s: it locks (R168). -/
def execServoLock (s : State) : Out :=
  if s.servoState ≠ 1 then .next s
  else
    let s := s.advanceTo (s.servo.lockAt + 10 * secTicks)
    match s.selected with
    | none => .next s
    | some i => .next (s.toServo (if freqKind (s.refKind i) then 2 else 3))

end Sys2Proof.Machine
end

