-- ==== Sys2Proof/Machine/OutInstr.lean ====
section
/-! DEFINITION. Clock, pulse and trigger outputs and capture inputs (R206 to R229): the OUT group and the edges. -/

namespace Sys2Proof.Machine

/-! ### Calibration values (R383, R384) -/

/-- Key of a calibratable instance. -/
def calKey (loc item : Nat) : Nat := loc * 16 + item

/-- A calibratable instance. -/
def State.calOf (s : State) (loc item : Nat) : Cal := Tab.get {} s.cals (calKey loc item)

/-- Whether a run is in progress on an instance. -/
def State.calBusy (s : State) (home item : Nat) : Bool := (s.calOf home item).num.isSome

/-- The default of a value whose factory set fails its check: an ideal code, a zero offset; the nominal delays of the
design are the spec's to give and it gives none (R384; log entry 14). -/
def calDefault (item i : Nat) : Int :=
  if item = 2 ∧ i < 4096 then roundDiv ((2 * (i : Int) + 1) * 1600000) 8192
  else if item = 3 ∧ i < 4096 then roundDiv ((i : Int) * 1600000) 4096
  else 0

/-- The value of a factory set as it loads: in fs, but for item 6, the LREF nominal, whose factory value is 0 (R384,
R392). -/
def State.factVal (s : State) (loc item i : Nat) : Int :=
  if item = 6 then 0
  else if (s.calOf loc item).factOk then Config.factory loc item i
  else calDefault item i

/-- The value of a live set. -/
def State.calVal (s : State) (loc item i : Nat) : Int :=
  match (s.calOf loc item).live with
  | [] => s.factVal loc item i
  | l => l.getD i 0

/-- fs to 2^-16 ns, times 15,625: one fs is 1,024 / 15,625 of 2^-16 ns. -/
def fsU (fs : Int) : Int := fs * 1024

/-- The hottest sensor of the region that holds an item; 0x8000 for the hub and the headstocks (R393). -/
def State.calTemp (s : State) (loc : Nat) : Nat :=
  if locDie loc < 4 then
    let i := 2 * locDie loc + locRegion loc
    let t (f : Fld) : Int := sx (s.fld locLed f) 16
    toBits (max (max (t (R.POW_REG_TEMP_SENSOR0 i)) (t (R.POW_REG_TEMP_SENSOR1 i)))
      (max (t (R.POW_REG_TEMP_SENSOR2 i)) (t (R.POW_REG_TEMP_SENSOR3 i)))) 16
  else 0x8000

/-- A live set changes: its values, and the status of its instance (R384, R393). -/
def State.calSet (s : State) (loc item source : Nat) (values : List Int) (valid : Bool) : State :=
  let x := s.calOf loc item
  let s := { s with cals := Tab.set s.cals (calKey loc item) { x with live := values } }
  let s := (s.putB loc R.CAL_STAT_VALID valid).put loc R.CAL_STAT_SOURCE source
  let s := s.putPair loc R.CAL_TIME_LO_TIME R.CAL_TIME_HI_TIME (tx64 (s.nowU (locDie loc)))
  s.put loc R.CAL_TEMP_TEMP (s.calTemp loc)

/-- A live set is loaded from its factory set (R384). -/
def State.calLoad (s : State) (loc item : Nat) : State :=
  s.calSet loc item 0 [] (item == 6 || (s.calOf loc item).factOk)

/-- The phase detectors of a headstock. -/
def detLoc (die : Nat) : Nat := mkLoc die 0 0 2 0

/-- A headstock calibrates its own phase detectors during its self-test: measured values, which are open (R384). -/
def State.calSelf (s : State) (die : Nat) : State :=
  let k := s.freeCtr
  ({ s with freeCtr := k + 4096 }).calSet (detLoc die) 4 1
    ((List.range 4096).map (fun i => (Config.free (k + i) : Int))) true

/-! ### Settings (R207 to R209) -/

/-- The staged setting of an output (R214). -/
def State.staged (s : State) (k o : Nat) : OutLive :=
  let loc := mkLoc 6 0 0 (8 + k) o
  { cfg := (s.reg loc 0).toNat, div := s.fld loc R.OUT_DIV_N, period := s.fld loc R.OUT_PULSE_PERIOD_PERIOD,
    width := s.fld loc R.OUT_PULSE_WIDTH_WIDTH, ofs := s.fld loc R.OUT_PULSE_OFS_OFS }

/-- The live ratio M in 2^-40 (R213). -/
def State.ratio (s : State) (k : Nat) : Nat := s.pair (hubLoc (8 + k)) R.OUT_SYN_RATIO_LO_M R.OUT_SYN_RATIO_HI_M

/-- HS of a setting. -/
def OutLive.hs (x : OutLive) : Nat := bits x.cfg 5 4
/-- FORMAT of a setting. -/
def OutLive.format (x : OutLive) : Nat := x.cfg % 8

/-- The highest frequency of a format in MHz (R209). -/
def fmtMax (fmt : Nat) : Nat :=
  match fmt with
  | 2 => 400
  | 4 => 250
  | 5 => 250
  | 6 => 250
  | _ => 1000

/-- Whether a setting breaks a limit of R209 at a ratio M. -/
def OutLive.bad (x : OutLive) (m : Nat) : Bool :=
  if x.pulse then
    decide (x.period < 1000) || decide (1000000000 < x.period) || 1000000000 % max x.period 1 != 0 ||
      decide (x.width < 10) || decide (x.period < x.width + 10) || decide (x.period ≤ x.ofs)
  else
    let num := 625000000 * m
    let den := 2 ^ 40 * (x.hs * x.div)
    decide (x.hs < 4) || decide (11 < x.hs) || x.div == 0 || decide (num < den) ||
      decide (fmtMax x.format * 1000000 * den < num)

/-- Whether f_out is a whole number of hertz (R208). -/
def OutLive.whole (x : OutLive) (m : Nat) : Bool := 625000000 * m % (2 ^ 40 * (x.hs * x.div)) == 0

/-- The instant at which an output restarts, in 2^-16 ns from TAI second 0 (R208): a second boundary at least 10 us
ahead; 10 us ahead, the latest that R208 allows; or the next nominal instant (log entry 28). -/
def State.restartAt (s : State) (k : Nat) (x : OutLive) : Nat :=
  if x.pulse then x.firstAt (s.nowU 6)
  else if x.whole (s.ratio k) then s.boundaryAfter 10000
  else s.nowU 6 + 10000 * 65536

/-- The location of an output. -/
def outLoc (k o : Nat) : Nat := mkLoc 6 0 0 (8 + k) o

/-! ### OUT.SET and OUT.FREQ (R208 to R210) -/

/-- The outputs that an OUT.SET names. -/
def outMask (c : Cmd) : List Nat := (bitList (c.opa % 8) 3).map (· + 1)

/-- OUT.SET (R208, R209). -/
def mOutSet : Meaning :=
  { bad := fun c s =>
      let k := locUnit c.loc - 8
      rangeBad (c.opa % 8 == 0 || (outMask c).any (fun o => (s.staged k o).bad (s.ratio k)))
    run := fun f loc s =>
      let k := locUnit loc - 8
      let s := (outMask f.cmd).foldl (fun s o =>
        let x := s.staged k o
        let s := s.muteOut k o
        let ready := x.pulse || s.flag loc R.OUT_SYN_STAT_LOCKED
        s.setOut (outIdx k o) { x with num := some f.num, setAt := s.now,
                                       startAt := if ready then s.restartAt k x else 0 }) s
      s.goesOn f.num 0 }

def execOutSet (n : Nat) (s : State) : Out := startRow s n (isOp 0x90) mOutSet

/-- The CLOCK outputs of a synthesizer. -/
def State.clockOuts (s : State) (k : Nat) : List Nat := [1, 2, 3].filter (fun o => !(s.out (outIdx k o)).pulse)

/-- The CLOCK outputs finish their cycle and are muted while the synthesizer is out of lock (R210, R211); `counts` where
RELOCKS counts the relock (R213). -/
def State.synthDown (s : State) (k : Nat) (num : Option Nat) (counts : Bool) : State :=
  let loc := hubLoc (8 + k)
  let s := (s.put loc R.OUT_SYN_STAT_LOCKED 0).put loc R.OUT_SYN_STAT_MUTED 1
  let s := (s.clockOuts k).foldl (fun s o =>
    let s := s.muteOut k o
    let x := s.out (outIdx k o)
    s.setOut (outIdx k o) { x with startAt := 0, num := x.num.or num }) s
  s.setSynth k { s.synth k with num := (s.synth k).num.or num, muteAt := s.now, counts := (s.synth k).counts || counts }

/-- OUT.FREQ (R210). -/
def mOutFreq : Meaning :=
  { bad := fun c _ =>
      let m := c.opb % 2 ^ 48
      rangeBad (decide (m * 100 < 768 * 2 ^ 40) || decide (896 * 2 ^ 40 < m * 100))
    run := fun f loc s =>
      let k := locUnit loc - 8
      let m := f.cmd.opb % 2 ^ 48
      let old := s.ratio k
      let s := s.putPair loc R.OUT_SYN_RATIO_LO_M R.OUT_SYN_RATIO_HI_M m
      if ((m : Int) - old).natAbs * 5000 ≤ old then
        (s.setSynth k { s.synth k with small := some f.num }).goesOn f.num (s.now + usTicks 20)
      else (s.synthDown k (some f.num) true).goesOn f.num 0 }

def execOutFreq (n : Nat) (s : State) : Out := startRow s n (isOp 0x91) mOutFreq

/-- What an instruction that waited for outputs reports: the time in us, from its execution or of the muting. -/
def State.outDone (s : State) (num : Option Nat) (since : Nat) : State :=
  s.finishPart num { status := stOk, result := satNat ((s.now - since) / 625) 16 }

/-- A synthesizer locks, once a run has counted its bands (R391): seed and enable are loaded (R212), RELOCKS counts a relock of R210 or R211 (R213), its CLOCK outputs
restart under R208. -/
def execOutRelockDone (k : Nat) (s : State) : Out :=
  let loc := hubLoc (8 + k)
  if 4 ≤ k ∨ s.flag loc R.OUT_SYN_STAT_LOCKED ∨ s.calBusy loc 5 then .next s
  else
    let y := s.synth k
    let s := s.put loc R.OUT_SYN_STAT_LOCKED 1
    let s := if y.counts then s.bump loc R.OUT_SYN_STAT_RELOCKS else s
    let s := s.setSynth k { y with num := none, counts := false, seed := s.fld loc R.OUT_DITHER_SEED_SEED,
                                   dither := s.flag loc R.OUT_DITHER_CTRL_EN }
    let s := ((s.clockOuts k).filter (fun o => s.flag (outLoc k o) R.OUT_STAT_MUTED)).foldl (fun s o =>
      s.setOut (outIdx k o) { s.out (outIdx k o) with startAt := s.restartAt k (s.out (outIdx k o)) }) s
    .next (s.outDone y.num y.muteAt)

/-- A synthesizer loses lock without an instruction (R211). -/
def execSynthUnlock (k : Nat) (s : State) : Out :=
  let loc := hubLoc (8 + k)
  if 4 ≤ k ∨ !s.flag loc R.OUT_SYN_STAT_LOCKED then .next s
  else .next ((s.synthDown k none true).raise loc 0x28 k)

/-- Whether safe state keeps an output muted (R229). -/
def State.outHeld (s : State) (x : OutLive) : Bool := s.faults.reduced || (s.safe && bit x.cfg 9)

/-- An output restarts (R208, R210): a CLOCK output with a rising edge, a PULSE output at a nominal instant. One that
safe state mutes stays muted (R229). Where none is due, a change of OUT.FREQ within 200 ppm has settled (R210). -/
def execOutputRestart (k o : Nat) (s : State) : Out :=
  let x := s.out (outIdx k o)
  let loc := outLoc k o
  if 4 ≤ k ∨ o = 0 ∨ 4 ≤ o then .next s
  else if x.startAt = 0 then
    let y := s.synth k
    .next ((s.setSynth k { y with small := none }).completeOpt y.small (okC 0))
  else
    let s := s.advanceToU x.startAt
    let y := { x with startAt := 0, num := none, next := if x.pulse then x.firstAt x.startAt else x.next }
    let s := s.setOut (outIdx k o) y
    let s := if s.outHeld y then s else (s.put loc R.OUT_STAT_MUTED 0).put loc R.OUT_STAT_LIVE 1
    let s := if (s.clockOuts k).all (fun i => !s.flag (outLoc k i) R.OUT_STAT_MUTED) then
      s.put (hubLoc (8 + k)) R.OUT_SYN_STAT_MUTED 0 else s
    let since := match x.num.bind s.flight with
      | some f => if f.cmd.opcode = 0x90 then x.setAt else (s.synth k).muteAt
      | none => 0
    .next (s.outDone x.num since)

/-! ### Edges (R215 to R228) -/

/-- The offset at which a pulse or frame output fires nominal instant `t` (R216): REF_PEND, but 0 from an A that
TIME.ALIGN waits for, and for an instant before the last A the offset that was then moved. -/
def State.pendAt (s : State) (t : Nat) : Int :=
  if s.servo.align.any (fun x => decide (x.2 ≤ t)) then 0
  else if t < s.servo.alignA then s.servo.alignP
  else s.refPend

/-- Tick and code of an edge on a tailstock (R223): an instant in 2^-16 ns times `den`, less a delay in fs, in units of
1/4096 tick, to the nearest, halves up. -/
def State.place (s : State) (tail : Nat) (inst : Int) (den : Nat) (fs : Int) : Nat × Nat :=
  let c := roundDiv ((5 * inst - ((s.tail tail).f : Int) * den) * 15625 - 5 * fsU fs * den) (128 * 15625 * den)
  (c.toNat / 4096, c.toNat % 4096)

/-- Time passes until the event tailstock counts a tick N. -/
def State.advanceToTick (s : State) (n : Nat) : State := s.advance (n - (s.tail 5).n)

/-- A PULSE output fires the pulse of its next nominal instant: both its edges placed from the output tailstock as R223
places a trigger's, the leading one falling with INVERT (R215, R216); with FORMAT off none leaves. The factory delay of an
output is given nowhere and is a factory value (log entry 14). -/
def execPulseEdge (k o : Nat) (s : State) : Out :=
  let x := s.out (outIdx k o)
  if 4 ≤ k ∨ o = 0 ∨ 4 ≤ o ∨ !x.pulse ∨ !s.flag (outLoc k o) R.OUT_STAT_LIVE then .next s
  else
    let at_ := (x.next : Int) + s.pendAt x.next
    let s := s.advanceToU at_.toNat
    let s := s.setOut (outIdx k o) { x with next := x.next + x.period * 65536 }
    let d := Config.factory (outLoc k o) 0 0
    let a := s.place 4 at_ 1 d
    let b := s.place 4 (at_ + (x.width : Int) * 65536) 1 d
    let inv := bit x.cfg 3
    .next (if x.format = 0 then s else (s.send (.outEdge k o a.1 a.2 inv)).send (.outEdge k o b.1 b.2 (!inv)))

/-- D_trg of the trigger's standard, and its board term, in fs (R223). -/
def State.trgDelay (s : State) (n : Nat) : Int :=
  let l := hubLoc (20 + n)
  s.calVal l 3 (4096 + s.fld l R.TRG_CTRL_STD) + sx (s.fld l R.TRG_EXT_EXT) 32

/-- After a pulse: the next pulse of the burst, the next instant, or the end of the schedule (R222, R226). -/
def State.trgStep (s : State) (n : Nat) : State :=
  let x := s.trig n
  let l := hubLoc (20 + n)
  if x.now then
    if (s.trgCount n).any (fun c => decide (c ≤ x.k)) then s.trgIdle n 0 else s.setTrig n { x with now := false }
  else if x.mode = 3 ∧ x.b < s.fld l R.TRG_BURST_B_M1 then s.setTrig n { x with b := x.b + 1 }
  else if (s.trgCount n).any (fun c => decide (c ≤ x.k + 1)) then s.trgIdle n 0
  else s.setTrig n { x with k := x.k + 1, b := 0 }

/-- The stamp of a capture edge on the present tick (R217), in 2^-16 ns from TAI second 0. -/
def State.capStamp (s : State) (ch code : Nat) : Nat :=
  let l := hubLoc (12 + ch)
  let d : Int := s.calVal l 2 (4096 + s.fld l R.CAP_CTRL_STD) + sx (s.fld l R.CAP_EXT_EXT) 32
  (roundDiv (((s.tail 5).fu : Int) * 15625 + 5 * fsU (s.calVal l 2 code - d)) (5 * 15625)).toNat

/-- An edge that reaches a capture channel, in 1/4096 tick of the monotonic count, with its stamp (R218 to R220): dead time,
queue, event. -/
def State.capEdge (s : State) (ch : Nat) (falling : Bool) (here stamp : Nat) : State :=
  let l := hubLoc (12 + ch)
  let edge := s.fld l R.CAP_CTRL_EDGE
  let x := s.cap ch
  if 8 ≤ ch ∨ !s.flag l R.CAP_CTRL_EN ∨ s.calBusy l 2 ∨ s.calBusy (hubLoc (20 + ch)) 3 ∨ s.faults.reduced ∨ (edge = 0 ∧ falling) ∨ (edge = 1 ∧ !falling) ∨
      x.last.any (fun t => decide ((here - t) * 16 < s.fld l R.CAP_CTRL_DEAD * 40960)) then s
  else
    let seq := s.fld l R.CAP_SEQ_SEQ
    let s := s.put l R.CAP_SEQ_SEQ (seq + 1)
    if 256 ≤ x.queue.length then
      (s.setCap ch { x with lost := true, last := some here }).bump l R.CAP_STAT_DROP
    else
      let e : CapEnt :=
        { stamp := stamp, fall := falling, stepGen := (s.tail 5).stepGen,
          uncal := !s.flag l R.CAL_STAT_VALID, lost := x.lost, safe := s.safe,
          loop := s.flag l R.CAP_CTRL_LOOP, dropped := false, seq := seq }
      let s := s.setCap ch { x with lost := false, last := some here }
      if s.flag l R.CAP_CTRL_MODE then s.setCap ch { s.cap ch with queue := x.queue ++ [e] }
      else
        let ovr := if s.flag locFp (R.EVT_ROUTE_CAP_OVR ch) then some (s.fp (R.EVT_ROUTE_CAP_RING ch)) else none
        let r := s.event 2 (ch + b2n falling * 8 + seq % 4096 * 16) (tx64 stamp) ovr
        if r.2 then r.1
        else r.1.setCap ch { r.1.cap ch with queue := x.queue ++ [{ e with dropped := true }] }

/-- An edge on a capture input, which a channel with LOOP ignores (R217, R228). -/
def execCaptureEdge (ch : Nat) (falling : Bool) (code : Nat) (s : State) : Out :=
  if s.flag (hubLoc (12 + ch)) R.CAP_CTRL_LOOP then .next s
  else .next (s.capEdge ch falling ((s.tail 5).m * 4096 + code) (s.capStamp ch code))

/-- The capture channels looped to a trigger (R228). -/
def State.loopCaps (s : State) (n : Nat) : List Nat :=
  (List.range 8).filter (fun ch => s.flag (hubLoc (12 + ch)) R.CAP_CTRL_LOOP && s.fld (hubLoc (12 + ch)) R.CAP_CTRL_LOOP_TRG == n)

/-- An edge of a trigger, due at an instant in 2^-16 ns times `den` and fired on a tick and code, reaches the channels looped
to it: its stamp is T - D_trg_ext and a residual within 25 ps, which is open (R228). -/
def State.loopEdge (s : State) (n : Nat) (falling : Bool) (inst : Int) (den : Nat) (at_ : Nat × Nat) : State :=
  let ext := sx (s.fld (hubLoc (20 + n)) R.TRG_EXT_EXT) 32
  (s.loopCaps n).foldl (fun s ch =>
    let (v, s) := s.freeNat
    let r : Int := (v % 3277 : Nat) - 1638
    let stamp := roundDiv (inst * 15625 - fsU ext * den) (15625 * den) + r
    s.capEdge ch falling (((s.tail 5).m + at_.1 - (s.tail 5).n) * 4096 + at_.2) stamp.toNat) s

/-- An armed trigger fires its next pulse (R216, R222, R223, R226), which the channels looped to it stamp (R228); a late
first pulse fires on the next tick (R224). While a run holds its output inactive nothing leaves (R389; log entry 71). -/
def execTriggerFire (n : Nat) (s : State) : Out :=
  let l := hubLoc (20 + n)
  if 8 ≤ n ∨ !s.trgLive n then .next s
  else
    let x := s.trig n
    let den := s.trgDen n
    let w : Int := (s.fld l R.TRG_WIDTH_WIDTH : Int) * 1000
    let s := if x.now then s.advance 1 else s
    let inst : Int :=
      if x.now then (((s.tail 5).u : Nat) : Int) * den + roundDiv (fsU (s.trgDelay n) * den) 15625
      else
        let i := s.trgInst n x.k x.b
        if s.trgHold n then (i : Int) + s.pendAt (i / max den 1) * den else i
    let (a, b) :=
      if x.now then
        let c := (roundDiv (w * 4096) 1600000).toNat
        (((s.tail 5).n, 0), ((s.tail 5).n + c / 4096, c % 4096))
      else (s.place 5 inst den (s.trgDelay n), s.place 5 inst den (s.trgDelay n - w))
    let s := if x.now then s else s.advanceToTick a.1
    let held := s.calBusy l 3
    let s := if held then s else (s.send (.edge (20 + n) a.1 a.2)).send (.edge (20 + n) b.1 b.2)
    let s := s.put l R.TRG_STAT_STATE 2
    let s := if x.b = 0 ∨ x.now then s.incr l R.TRG_FIRED_FIRED else s
    let low := s.flag l R.TRG_CTRL_POLARITY
    let s := if held then s
      else (s.loopEdge n low inst den a).loopEdge n (!low) (inst + roundDiv (fsU w * den) 15625) den b
    .next (s.trgStep n)

end Sys2Proof.Machine
end

