-- ==== Sys2Proof/Machine/Spindle.lean ====
section
/-! DEFINITION. Spindle words, steps and slews, headstocks and checkpoints (R27 to R30, R93 to R99, R143, R166, R167,
R176 to R204, R225): the HST group and the events of chapter 6. -/

namespace Sys2Proof.Machine

/-! ### Spindle words (R27, R182, R184) -/

/-- The change of FCW that a slew makes, in 2^-60 (R96). -/
def slewFcw (left : Int) (rate : Nat) : Int :=
  let m := roundDiv ((rate : Int) * 2 ^ 60) (10 ^ 9)
  if left < 0 then -m else if left = 0 then 0 else m

/-- The FCW's 48-bit signed range (R182). -/
def clampFcw (x : Int) : Int := sx (satBits x 48) 48

/-- CLK_XDIFF, XB less XA in 0.01 ppb, in 2^-60 (R321). -/
def State.xdiffFcw (s : State) : Int := roundDiv (sx (s.clkF R.CLK_XDIFF_DIFF) 32 * 2 ^ 60) (10 ^ 11)

/-- The servo forms its FCW for a word (R168, R171, R321); how it steers in states 1, 2, 3 and 5 is open. The sign with
which CLK_XDIFF enters keeps the timescale's rate (log entry 30). -/
def State.servoFcw (s : State) : State :=
  let st := s.servoState
  let s := if st = 4 then s.setServo { s.servo with fcw := clampFcw s.restFcw }
    else if st = 0 then s.setServo { s.servo with fcw := s.nomFcw }
    else if st = 6 ∨ st = 7 then s
    else (s.setServo { s.servo with fcw := clampFcw (s.servo.fcw + Config.steer s.freeCtr) }).freeNat.2
  if s.clk.xdiffDue then
    let d := s.xdiffFcw
    let d := if s.flag locClk R.CLK_STAT_LREF_XB then -d else d
    (s.setServo { s.servo with fcw := clampFcw (s.servo.fcw + d) }).setClk { s.clk with xdiffDue := false }
  else s

/-! The 320 bits of a word (R182). -/

/-- The bits [303:0] of a word. -/
def SpWord.body (w : SpWord) : Nat :=
  let st := w.step.getD {}
  toBits w.fcw 48 + w.epoch % 2 ^ 16 * 2 ^ 48 + w.seq % 256 * 2 ^ 64 + b2n w.hold * 2 ^ 72 + b2n w.step.isSome * 2 ^ 73
    + b2n st.set * 2 ^ 74 + b2n w.traceable * 2 ^ 75 + w.servo % 8 * 2 ^ 76 + b2n w.tb * 2 ^ 79
    + (if st.set then st.secs % 2 ^ 48 else toBits st.offset 64) * 2 ^ 80 + st.tick % 2 ^ 48 * 2 ^ 144
    + (if st.set then st.sub % 2 ^ 48 else satBits w.slewLeft 48) * 2 ^ 192
    + (if st.set then 0 else w.slewRate % 2 ^ 16) * 2 ^ 240 + w.tick % 2 ^ 48 * 2 ^ 256

/-- The word as it goes onto its lane, its CRC in [319:304]. -/
def SpWord.bits320 (w : SpWord) : Nat := w.body + crc16 w.body 304 * 2 ^ 304

/-- Whether the CRC of a word is correct. -/
def wordCrcOk (b : Nat) : Bool := bits b 304 16 == crc16 (b % 2 ^ 304) 304

/-- The fields of a word. -/
def spWord (b : Nat) : SpWord :=
  let set := bit b 74
  { fcw := sx (bits b 0 48) 48, epoch := bits b 48 16, seq := bits b 64 8, hold := bit b 72,
    step := if bit b 73 then some { set := set, offset := if set then 0 else sx (bits b 80 64) 64,
                                    secs := if set then bits b 80 48 else 0, sub := if set then bits b 192 48 else 0,
                                    tick := bits b 144 48 } else none,
    traceable := bit b 75, servo := bits b 76 3, tb := bit b 79,
    slewLeft := if set then 0 else sx (bits b 192 48) 48, slewRate := bits b 240 16, tick := bits b 256 48 }

/-- The tick N that 48 bits of it mean, near a tick. -/
def nearTick (n48 n : Nat) : Nat := ((n : Int) + sx (toBits ((n48 : Int) - n) 48) 48).toNat

/-- The word that a headstock sends on the present slot (R182); it carries the committed step up to its apply tick (R94). -/
def State.word (s : State) (tb : Bool) : SpWord :=
  let left := s.slewRemain
  { fcw := clampFcw (s.servo.fcw + slewFcw left s.servo.slewRate), epoch := s.epochOf tb, seq := s.hst.wordSeq,
    hold := s.servoState == 7, step := (s.servo.step.filter (fun x => decide ((s.tail 5).n < x.tick))).map StepC.wire,
    traceable := s.flag locArb R.REF_SEL_TRACEABLE, servo := s.servoState, tb := tb, slewLeft := left,
    slewRate := s.servo.slewRate, tick := (s.tail 5).n }

/-- Time passes to the next word slot, the slot of the last word apart (R182). -/
def State.nextSlot (s : State) : State :=
  if s.toSlot = 0 ∧ s.hst.wordAt ≠ s.now then s else s.advance (if s.toSlot = 0 then 400 else s.toSlot)

/-- Puts a word on a headstock's lane (R182); CC_NOW follows (R170), and checkpoints under way may have ended. -/
def State.putWord (s : State) (tb : Bool) (f : SpWord → SpWord) : State :=
  let crcRun := if s.hst.crcSeen = 63 then s.hst.crcRun else 0
  let s := s.setHst { s.hst with wordSeq := (s.hst.wordSeq + 1) % 256, wordAt := s.now, crcSeen := 0, crcRun := crcRun }
  let w := (f (s.word tb)).bits320
  ((s.setHst (if tb then { s.hst with laneB := some w } else { s.hst with laneA := some w })).ccSync).settleCkpts

/-- A headstock sends its word on the present slot. -/
def State.sendWord (s : State) (tb : Bool) : State := s.putWord tb id

/-! ### Taking over the spindle (R187, R190 to R193, R199, R203) -/

/-- Torn slots of a headstock's store (R187). -/
def State.tornCount (s : State) (tb : Bool) : Nat :=
  ([2 * b2n tb, 2 * b2n tb + 1].filter (fun k => (Tab.get? s.hst.slots k).any Ckpt.torn)).length

/-- The fits, windows, filters and qualify counts of the slots resume from a checkpoint, their states from the arbiter's
copies (R193, R198); without one they are cleared. -/
def State.loadSlots (s : State) (c : Option Ckpt) : State :=
  (List.range 8).foldl (fun s i =>
    let x := s.ref i
    match c.bind (fun c => c.refs[i]?) with
    | some y => s.setRef i { x with offs := y.slot.offs, gates := y.slot.gates, phase := y.slot.phase,
                                    qual := if y.state = s.refState i then y.slot.qual else min x.qual 1 }
    | none => s.setRef i { x with offs := [], gates := [], phase := none, qual := 0 }) s

/-- The history of the new headstock, from its checkpoint or, beyond 10 s of age, from nothing (R193). -/
def State.loadHist (s : State) (tb : Bool) : State :=
  let s := s.bumpBy locArb R.HST_LAST_CKPT_TORN (s.tornCount tb)
  let f := s.servo.fcw
  let fresh (s : State) : State :=
    let s := (((s.arbPut R.SR_STAT_HIST_VALID 0).arbPut R.SR_STAT_DRIFT_VALID 0).arbPut R.SR_STAT_LOCKED_MIN 0).loadSlots none
    s.setServo { s.servo with hist := {}, fShort := f, drift := 0, tc := s.now }
  match s.pickCkpt tb with
  | none => fresh (s.arbPut R.HST_LAST_AGE_AGE 0xFFFFFFFF)
  | some c =>
    let age := (sdiff s.txNow c.time).toNat / 65536
    let s := s.arbPut R.HST_LAST_AGE_AGE (satNat (age / 1000) 32)
    if 10000000000 < age then fresh s
    else
      let gap := List.replicate (age / 1000000000) f
      let short := c.hist.short ++ gap
      let s := s.loadSlots (some c)
      s.setServo { s.servo with hist := { c.hist with
        short := short.drop (short.length - 80), shortAt := c.hist.shortAt + gap.length * secTicks } }

/-- The slew that the output tailstock obeyed last, moved towards 0 by its rate since that word (R192). -/
def Tailstock.slewNow (t : Tailstock) : Int :=
  let el := t.slewRate * (t.m - t.wordTick) * 1048576 / 10 ^ 10
  if t.slewLeft < 0 then -((t.slewLeft.natAbs - el : Nat) : Int) else (t.slewLeft.natAbs - el : Nat)

/-- What the first word carries: the FCW, SLEW_RATE and committed step read back from the output tailstock, and the slew
moved on since (R192). -/
def Tailstock.readBack (t : Tailstock) (w : SpWord) : SpWord :=
  { w with fcw := t.fcw, slewLeft := t.slewNow, slewRate := t.slewRate,
           step := t.step.filter (fun x => decide (t.n < x.tick)) }

/-- The servo takes up what was read back (R190, R192): FCW without the slew's part, the committed step if its apply tick
still lies ahead, the slew. A step or a slew that no word has brought to the tailstocks yet is placed anew (log entry 31). -/
def State.readback (s : State) : State :=
  let t := s.tail 4
  let old := s.servo.step
  let back := t.step.filter (fun x => decide (t.n < x.tick))
  let s := s.setServo { s.servo with fcw := clampFcw (t.fcw - slewFcw t.slewLeft t.slewRate),
                                     step := if old.map StepC.wire = back then old else back }
  let s := if s.servo.slews != [] then s
    else
      let s := s.setServo { s.servo with slewLeft := 0, slewRate := 0 }
      if t.slewNow = 0 then s else s.slewBy t.slewNow t.slewRate
  match t.step, old with
  | none, some x => s.commit { x with tick := if x.num.isSome ∨ x.tick < (s.tail 5).n + 800 then s.stepTick x else x.tick }
  | _, _ => s

/-- The servo leaves TAKEOVER or HOLD: its state before, its timers resumed (R168, R198). -/
def State.servoBack (s : State) : State :=
  let s := s.setServo { s.servo with settleEnd := s.now + s.servo.paused, paused := 0, cal := none,
                                     lockAt := s.servo.lockAt + (s.now - s.servo.hidAt) }
  (s.toServo s.servo.before).ccSync

/-- What waited for the end of TAKEOVER or HOLD: activity conditions and the selection (R198, R390). -/
def State.selectAfter (s : State) : State :=
  let s := ((List.range 8).filter (fun i => (s.ref i).dead && decide (2 ≤ s.refState i))).foldl State.activityFail s
  s.reselect

/-- Whether a word of a headstock that is not yet ACTIVE would be valid: it holds the present epoch, or gets it with its first
word in a swap, and no other headstock is ACTIVE meanwhile (R176, R177, R184, R201). -/
def State.wordValid (s : State) (tb : Bool) : Bool :=
  s.hst.swap.isSome || (s.epochOf tb == s.arb R.HST_EPOCH_EPOCH && s.hsRaw (!tb) != hsActive)

/-- A headstock sends its first valid word and is ACTIVE (R177, R190 to R193, R203). -/
def State.firstWord (s : State) (tb : Bool) : State :=
  let s := s.nextSlot.settleCkpts
  let isSwap := s.hst.swap.isSome
  let s := if isSwap then (s.bumpEpoch.giveEpoch tb).arbPut R.HST_STAT_DUAL_ACTIVE 1 else s
  let s := if isSwap then s.setHs (!tb) hsStandby else s
  let s := ((s.setHs tb hsActive).arbPut R.HST_STAT_ACTIVE_TB (b2n tb)).setDrive tb true
  let t := s.tail 4
  let s := (s.readback).loadHist tb
  let s := if isSwap then
      ((s.arbPut R.HST_LAST_DURATION 0).arbPut R.HST_LAST_CAUSE 6).incr locArb R.HST_STAT_TAKEOVERS
    else if s.hst.takeover then s.arbPut R.HST_LAST_DURATION (satNat ((s.now - s.hst.declAt) * 8 / 5) 16)
    else s
  let s := if s.servoState = 6 then s.servoBack else s
  let num := if tb then s.hst.reviveB else s.hst.reviveA
  let s := s.setHst { s.hst with takeover := false, starting := none,
                                 reviveA := if tb then s.hst.reviveA else none,
                                 reviveB := if tb then none else s.hst.reviveB }
  let s := s.putWord tb t.readBack
  let s := s.refEvent (s.arb R.REF_SEL_SELECTED) 0 false
  (s.completeOpt num (okC 0)).selectAfter

/-- A spindle word of the ACTIVE headstock (R27, R182); the first one of a headstock that became ACTIVE with none
other, at the earliest 9,220 ns after its self-test, takes up the coasting tailstocks (R191, R199). -/
def execSpindleWord (s : State) : Out :=
  match s.activeHs with
  | none => .next s
  | some tb =>
    if s.hst.starting = some tb then .next ((s.advanceTo (s.hst.startAt + 5763)).firstWord tb)
    else if !s.drive tb then .next s
    else .next ((s.nextSlot.servoFcw).sendWord tb)

/-- Ticks from the power of a headstock to the end of its measurement: 10,720 ns (R191). -/
def readyTicks : Nat := 6700

/-- The WARMING headstock sends its first valid word (R191, R192, R201): 10,720 ns after its power, which a declaration
brings after 6,000 ns, on the next word slot. -/
def execWarmingFirstWord (s : State) : Out :=
  match s.warmingHs with
  | none => .next s
  | some tb => if s.wordValid tb then .next ((s.advanceTo (s.hst.warmAt + readyTicks)).firstWord tb) else .next s

/-! ### Reception (R29, R30, R184) -/

/-- Every TIME.SLEW whose rate all six tailstocks obey completes: the time left in ms, rounded up (R96). -/
def State.slewObeyed (s : State) : State :=
  let heard (x : Nat × Nat) : Bool := (List.range 6).all (fun t => decide (x.2 < (s.tail t).wordTick))
  (s.servo.slews.filter heard).foldl
    (fun s x => s.complete x.1 { status := stOk, result := satNat (ceilDiv (s.servo.slewEnd - s.now) 625000) 16 })
    (s.setServo { s.servo with slews := s.servo.slews.filter (fun x => !heard x) })

/-- A tailstock rejects a word for its CRC; the fourth word in a row that all six reject fails the headstock (R180,
R184). -/
def State.crcReject (s : State) (t : Nat) (tb : Bool) : State :=
  let s := s.bump (tailLoc t) R.SPN_CNT_BAD_WORD
  if s.activeHs ≠ some tb ∨ bit s.hst.crcSeen t then s
  else
    let seen := s.hst.crcSeen + 2 ^ t
    let s := s.setHst { s.hst with crcSeen := seen, crcRun := s.hst.crcRun + b2n (seen == 63) }
    if seen = 63 ∧ 4 ≤ s.hst.crcRun then (s.setHst { s.hst with crcRun := 0 }).declareFailed tb 4 else s

/-- A tailstock takes up a word, sent on the slot at a monotonic tick, that it obeys; a HOLD word makes it coast (R29, R30). -/
def Tailstock.obey (x : Tailstock) (w : SpWord) (slot : Nat) : Tailstock :=
  if w.hold then { x with hold := true, heardAt := x.m }
  else { x with fcw := w.fcw, hold := false, heardAt := x.m, wordTick := slot,
                step := (w.step.map (fun y => { y with tick := nearTick y.tick x.n })).or x.step,
                slewLeft := w.slewLeft, slewRate := w.slewRate, traceable := w.traceable }

/-- A tailstock receives the last word on a lane, of which the bits `flips` were turned over on the way (R184). -/
def execSpindleWordReceive (t : Nat) (tb : Bool) (flips : Nat) (s : State) : Out :=
  match (if tb then s.hst.laneB else s.hst.laneA) with
  | none => .next s
  | some sent =>
    let b := Nat.xor sent (flips % 2 ^ 320)
    let w := spWord b
    let x := s.tail t
    if 6 ≤ t then .next s
    else if !wordCrcOk b then .next (s.crcReject t tb)
    else if w.epoch ≠ x.epoch then .next (s.bump (tailLoc t) R.SPN_CNT_EPOCH_DISCARD)
    else if w.tick ≠ toBits ((x.n : Int) - ((x.m : Int) - s.hst.wordAt)) 48 then
      .next (s.bump (tailLoc t) R.SPN_CNT_BAD_WORD)
    else
      let s := (s.setTail t (x.obey w s.hst.wordAt)).slewObeyed
      .next (if t = 4 then (List.range 4).foldl (fun s k => s.touch 0x28 (· == hubLoc (8 + k)) 0 k) s else s)

/-- A tailstock has coasted 1,024 word periods since the last word, HOLD words with them (R30). -/
def execSpindleSilent (t : Nat) (s : State) : Out :=
  if 6 ≤ t then .next s
  else
    let s := s.advanceTo ((s.tail t).heardAt + 409600)
    .next (s.raise (tailLoc t) 0x20 ((s.now - (s.tail t).heardAt) / 400))

/-! ### Steps and slews (R94, R98, R99, R143, R163, R166, R167) -/

/-- A selector step is committed at the last word that leaves 1,280 ns before its boundary (R95, R163, R201). -/
def execStepCommit (s : State) : Out :=
  match s.servo.due with
  | none => .next s
  | some (i, delta) =>
    if s.servo.step.isSome ∨ s.hst.swap.isSome ∨ 6 ≤ s.servoState then .next s
    else
      let b := s.boundaryAfter 1280
      let wait := s.servo.settled && s.flag locArb R.REF_SEL_SETTLING
      let b := if wait ∧ s.now + (s.tickOf b - (s.tail 5).n) < s.servo.settleEnd then b + uSec else b
      let tick := s.tickOf b
      let s := s.advanceTo ((s.now + (tick - (s.tail 5).n) - 800) / 400 * 400)
      let s := s.setServo { s.servo with due := none, settled := s.flag locArb R.REF_SEL_SETTLING }
      let goal := ((b : Int) + delta).toNat
      .next (s.commit (if delta.natAbs < 2 ^ 63 then { offset := delta, tick := tick, slot := some i }
        else { set := true, secs := goal / uSec, sub := goal % uSec, tick := tick, slot := some i }))

/-- A tailstock applies a step (R82, R94, R95, R98). F keeps what is left below a tick exactly, in fifths of 2^-16 ns: the
spec holds F in units of 2^-16 ns and says of no rounding (DESIGN CHOICE, log entry 64). -/
def Tailstock.apply (x : Tailstock) (st : StepC) : Tailstock :=
  let fu : Nat := if st.set then 5 * (st.secs * uSec + st.sub)
    else (((x.fu : Int) + 5 * st.offset) % (2 ^ 48 * fuSec : Nat)).toNat
  { x with n := fu / fuTick, f := fu % fuTick, stepGen := (x.stepGen + 1) % 16, step := none }

/-- Every parked action completes ABORTED (R99). -/
def State.abortParked (s : State) : State :=
  (s.plyn.flights.filter (fun f => f.phase.isParked)).foldl State.abortFlight s

/-- A forward step makes the parked actions it passes due at once, late by their action time (R79). -/
def State.lateParked (s : State) (size : Int) : State :=
  if size ≤ 0 then s
  else
    let mark (f : Flight) : Flight :=
      match f.phase with
      | .parked due =>
        let l := sdiff (tx64 (s.nowU f.cmd.timeDie)) due
        if 0 < l ∧ l ≤ size then { f with late := some (lateNs l) } else f
      | _ => f
    { s with plyn := { s.plyn with flights := s.plyn.flights.map mark } }

/-- The entry of a gate list in force at a time (R307). -/
def GateList.indexAt (g : GateList) (u : Nat) : Nat :=
  let pos := ((u : Int) - g.base).toNat % (max g.cycle 1 * 65536)
  let r := g.entries.foldl (fun (a : Nat × Nat) e =>
    if a.2 + e.2 * 65536 ≤ pos then (a.1 + 1, a.2 + e.2 * 65536) else (a.1, 2 ^ 80)) (0, 0)
  min r.1 (g.entries.length - 1)

/-- The gates of a port take the state that its operational list gives now; without one they are all open (R307). -/
def State.setGates (s : State) (d p : Nat) : State :=
  let x := s.port d p
  match x.oper with
  | none => s.pput d p R.QUE_GATES_OPEN 0xFFFF
  | some g =>
    let i := g.indexAt (s.nowU d)
    (s.setPort d p { x with gateAt := i }).pput d p R.QUE_GATES_OPEN ((g.entries.getD i (0xFFFF, 0)).1)

/-- Every gate takes the state that its list gives for the timescale as it now reads (R307). -/
def State.gatesSync (s : State) : State :=
  (s.ports.map Prod.fst).foldl (fun s k => s.setGates (k / 128) (k % 128)) s

/-- What a step of a size does to the triggers (R225). -/
def State.stepTrigs (s : State) (size : Int) : State :=
  (List.range 8).foldl (fun s n =>
    if !s.trgLive n then s
    else if 2 ^ 63 < size.natAbs then s.trgIdle n 2
    else if !s.trgHold n ∧ 0 < size then s.trgFollow n (s.nowU 6) else s) s

/-- REF_PEND takes in a step, or is cleared by one too large, and every pulse and frame output restarts (R166). -/
def State.pendStep (s : State) (size : Int) : State :=
  let p := s.refPend + size
  if 2 ^ 63 ≤ size.natAbs ∨ 2 ^ 63 ≤ p.natAbs then (s.setPend 0).pulseRestart (s.nowU 6) none else s.setPend p

/-- The offsets that the reference monitors hold move with the timescale (DESIGN CHOICE, log entry 63). -/
def State.shiftOffs (s : State) (size : Int) : State :=
  let less (i : Nat) (o : Int) : Int := if phaseKind (s.refKind i) then wrapHalf (o - size) else o - size
  { s with
    refs := s.refs.map (fun x => (x.1, { x.2 with
      toff := less x.1 x.2.toff, offs := x.2.offs.map (fun y => (y.1, less x.1 y.2)) })),
    ports := s.ports.map (fun x => (x.1, { x.2 with
      eng := { x.2.eng with gate := x.2.eng.gate.map (fun y => (y.1, y.2 + 2 * size)) },
      relka := { x.2.relka with gate := x.2.relka.gate.map (fun y => (y.1, y.2 + 2 * size)) } })) }

/-- Ticks until the next tailstock reaches the apply tick of the step it holds. -/
def State.stepDue (s : State) : Option Nat :=
  ((List.range 6).filterMap (fun t => (s.tail t).step.map (fun x => x.tick - (s.tail t).n))).min?

/-- The tailstocks that stand on the apply tick of the step they hold. -/
def State.stepHere (s : State) : List Nat :=
  (List.range 6).filter (fun t => (s.tail t).step.any (fun x => decide (x.tick ≤ (s.tail t).n)))

/-- Those tailstocks apply their step (R184); instructions wait for them no longer (R94). -/
def State.applyTails (s : State) : State :=
  let on := s.stepHere
  let did (t tick : Nat) : Bool := on.contains t && (s.tail t).step.any (fun x => x.tick == tick)
  let s' := { s with tails := (List.range 6).map (fun t =>
    (t, match (s.tail t).step with
        | some x => if on.contains t then (s.tail t).apply x else s.tail t
        | none => s.tail t)) }
  s'.setServo { s'.servo with applying := s'.servo.applying.map (fun w =>
    { w with left := w.left.filter (fun t => !did t w.tick) }) }

/-- The instructions whose step all six tailstocks have applied complete (R94). -/
def State.stepsDone (s : State) : State :=
  let ended (w : StepWait) : Bool := w.left == [] && w.result.isSome
  (s.servo.applying.filter ended).foldl (fun s w => s.complete w.num (okC (w.result.getD 0)))
    (s.setServo { s.servo with applying := s.servo.applying.filter (fun w => !ended w) })

/-- The timescale takes a step, which the event tailstock shows: everything that a step does happens (R79, R94, R95, R98,
R99, R143, R166, R167, R225, R307). -/
def State.packageStep (s : State) (x : StepC) : State :=
  let u := s.nowU 6
  let size := x.size u
  let y := (s.servo.step.filter (fun c => c.wire == x)).getD x
  let s := if 2 ^ 63 < size.natAbs then s.abortParked else s
  let s := s.applyTails
  let s := if x.set ∧ y.num.isSome then s.arbPut R.REF_SEL_TS_TRACED 0 else s
  let result := if x.set then 0 else ns16 size
  let s := s.setServo { s.servo with
    step := none, lockAt := if y.slot.isSome then s.now else s.servo.lockAt,
    applying := s.servo.applying.map (fun w => if some w.num = y.num then { w with result := some result } else w) }
  let s := s.putPair locArb R.REF_STEP_LAST_LO_STEP R.REF_STEP_LAST_HI_STEP (satBits size 64)
  let s := ((s.pendStep size).lateParked size).shiftOffs size
  let s := (s.stepTrigs size).gatesSync
  let s := if s.selRelka then (if y.slot.isSome then s.adoptEpoch else s)
    else s.arbPut R.RLK_SYS_SYS_EPOCH (s.arb R.RLK_SYS_SYS_EPOCH + 1)
  (s.event' 4 (ns16 size) (tx64 u)).stepsDone.nextStep

/-- The step that is due now is applied: by each tailstock that holds it, and by the timescale with the event tailstock. -/
def State.stepNow (s : State) : State :=
  match (if s.stepHere.contains 5 then (s.tail 5).step else none) with
  | some x => s.packageStep x
  | none => s.applyTails.stepsDone

/-- The next apply tick of any tailstock comes (R94, R184). -/
def execStepApply (s : State) : Out :=
  match s.stepDue with
  | none => .next s
  | some k => .next (s.advance k).stepNow

/-! ### TIME.ALIGN takes effect (R216) -/

/-- A is reached: the outputs move by REF_PEND, which is cleared, and TIME.ALIGN completes (R216). A step that is due on the
tick of A is applied first and is included. -/
def execTimeAlignApply (n : Nat) (s : State) : Out :=
  match s.going n (isOp 0x63), s.servo.align.find? (fun x => x.1 == n) with
  | some _, some (_, a) =>
    let k := ceilDiv (5 * a - (s.tail 5).fu) fuTick
    let s := if s.stepDue = some k then (s.advance k).stepNow else s.advance k
    let p := s.refPend
    let s := s.setServo { s.servo with
      align := s.servo.align.filter (fun x => x.1 != n), alignA := a,
      alignP := if s.servo.alignA = a then s.servo.alignP + p else p }
    let s := if p = 0 then s else s.pulseRestart (a + p.natAbs) (some p.natAbs)
    .next ((s.setPend 0).complete n (okC (ns16 p)))
  | _, _ => .next s

/-- The whole slew offset has been applied (R96, R143). -/
def execSlewDone (s : State) : Out :=
  if s.servo.slewRate = 0 then .next s
  else
    let s := s.advanceTo s.servo.slewEnd
    let s := if s.servo.epochBySlew then s.adoptEpoch else s
    .next s.slewStop

/-! ### Heartbeats (R179, R180) -/

/-- What a heartbeat of the ACTIVE headstock carries to the arbiter (R179). -/
def State.beatOf (s : State) (tb : Bool) (selfOk : Bool) : Beat :=
  { state := s.hs tb, selfOk := selfOk, servo := s.servoState, slot := s.selected,
    refs := (List.range 8).map (fun i => (s.refState i, s.arb (R.REF_STAT_WTR_LEFT i))),
    settle := if s.flag locArb R.REF_SEL_SETTLING then s.servo.settleEnd - s.now else 0,
    pend := s.refPend, seq := s.hst.wordSeq }

/-- A headstock's heartbeat, 1 us after the last; the arbiter keeps the ACTIVE one's (R179). -/
def execHeartbeat (tb : Bool) (selfOk : Bool) (s : State) : Out :=
  if s.hs tb = hsOff then .next s
  else
    let s := (s.advanceTo ((if tb then s.hst.hbB else s.hst.hbA) + 625)).settleCkpts
    let s := s.setHst (if tb then { s.hst with hbB := s.now } else { s.hst with hbA := s.now })
    let s := if s.hs tb = hsActive then s.setHst { s.hst with beat := some (s.beatOf tb selfOk) } else s
    let s := s.touch 0x27 (fun l => locDie l == hsDie tb) 0 0
    .next (if !selfOk then s.declareFailed tb 2 else s)

/-- 2,000 ns without a heartbeat (R180): two of them are missed. -/
def execHeartbeatTimeout (tb : Bool) (s : State) : Out :=
  if s.hs tb ≠ hsActive ∧ s.hs tb ≠ hsStandby then .next s
  else
    let s := s.advanceTo ((if tb then s.hst.hbB else s.hst.hbA) + 1250)
    let s := s.bumpBy locArb (if tb then R.HST_HB_MISS_TB else R.HST_HB_MISS_TA) 2
    .next (if s.hs tb = hsActive then s.declareFailed tb 1 else s.failStandby tb)

/-! ### Checkpoints (R186 to R189) -/

/-- Whether checkpoints go to a standby (R186). -/
def State.ckptOpen (s : State) : Bool :=
  s.activeHs.isSome && (s.hsIn hsStandby).isSome && s.flag locArb R.HST_STAT_LINK_UP

/-- The servo block of a checkpoint (R186). -/
def State.ckptServo (s : State) : CkptServo :=
  { state := s.servoState, mode := s.arb R.REF_SEL_MODE, slot := s.arb R.REF_SEL_SELECTED,
    settle := if s.flag locArb R.REF_SEL_SETTLING then s.servo.settleEnd - s.now else 0, fcw := s.servo.fcw,
    traced := s.flag locArb R.REF_SEL_TS_TRACED, step := s.servo.step.map StepC.wire, slewLeft := s.slewRemain,
    slewRate := s.servo.slewRate, pend := s.refPend }

/-- The reference slots of a checkpoint (R186). -/
def State.ckptRefs (s : State) : List CkptSlot :=
  (List.range 8).map (fun i =>
    { state := s.refState i, cause := s.arb (R.REF_STAT_CAUSE i), wtr := s.arb (R.REF_STAT_WTR_LEFT i),
      forecast := s.flag locArb (R.REF_STAT_FORECAST i), slot := s.ref i })

/-- Ticks within which a checkpoint is written: 20 us (R186). -/
def ckptTicks : Nat := 12500

/-- The ACTIVE headstock begins to write a checkpoint into the standby's store (R186): the slot is torn until its COMMIT,
which comes within 20 us; how soon is open. -/
def State.writeCkpt (s : State) (num : Option Nat) : State :=
  match s.activeHs, s.hsIn hsStandby with
  | some tb, some sb =>
    let (v, s) := s.freeNat
    let seq := (s.hst.seq + 1) % 2 ^ 32
    let key := 2 * b2n sb + seq % 2
    let c : Ckpt := { seq := seq, tb := tb, time := s.txNow, torn := true, hist := s.servo.hist, servo := s.ckptServo,
                      refs := s.ckptRefs }
    let s := s.setHst { s.hst with
      slots := Tab.set s.hst.slots key c, seq := seq,
      writes := s.hst.writes ++ [{ key := key, seq := seq, at_ := s.now + v % (ckptTicks + 1), num := num }] }
    (s.touch 0x25 (· == locArb) seq 0).touch 0x26 (· == locArb) seq 0
  | _, _ => s

/-- The checkpoint of a whole millisecond (R186). -/
def execCheckpointWrite (s : State) : Out :=
  if !s.ckptOpen then .next s
  else
    let due := ceilDiv (s.tail 5).fu (fuSec / 1000)
    let s := if s.hst.seq ≠ 0 ∧ s.hst.ckptMs = due then s.advance 1 else s
    let due := ceilDiv (s.tail 5).fu (fuSec / 1000)
    let s := (s.advanceToU (due * 65536000000)).settleCkpts
    .next (((s.setHst { s.hst with ckptMs := due }).writeCkpt none).settleCkpts)

/-- No commit for STALE_MS (R188). -/
def execCkptStale (s : State) : Out :=
  let s := s.settleCkpts
  if (s.hsIn hsStandby).isNone ∨ s.flag locArb R.HST_STAT_CKPT_STALE then .next s
  else
    let s := s.advanceTo (s.hst.commitAt + s.arb R.HST_CTRL_STALE_MS * 625000)
    .next ((s.arbPut R.HST_STAT_CKPT_STALE 1).raise locArb 0x26 ((s.now - s.hst.commitAt) / 625000))

/-- The headstock link fails (R181); the checkpoint on it is lost (R189). -/
def execHstLinkFail (s : State) : Out :=
  let s := s.dropCkpts.arbPut R.HST_STAT_LINK_UP 0
  .next (if (s.hsIn hsStandby).isSome then s.raise locArb 0x25 0 else s)

/-- The headstock link is back (R181). -/
def execHstLinkUp (s : State) : Out := .next (s.arbPut R.HST_STAT_LINK_UP 1)

/-- The STANDBY's checkpoint store or PLL fails (R177). -/
def execStandbyFail (s : State) : Out :=
  match s.hsIn hsStandby with
  | none => .next s
  | some tb => .next (s.failStandby tb)

/-! ### The HST group (R189, R199 to R202) -/

/-- HST.CHECKPOINT (R189): it completes with the COMMIT of its checkpoint, or ABORTED where none comes. -/
def mHstCheckpoint : Meaning :=
  { bad := fun _ _ => none
    run := fun f _ s =>
      if !s.ckptOpen then (s, some (conflictC s.hstDetail))
      else (((s.writeCkpt (some f.num)).goesOn f.num 0).1.settleCkpts, none) }

def execHstCheckpoint (n : Nat) (s : State) : Out := startRow s n (isOp 0xA2) mHstCheckpoint

/-- Whether the last word of a headstock carried a step whose apply tick still lies ahead (R202). -/
def State.stepAhead (s : State) (tb : Bool) : Bool :=
  (if tb then s.hst.laneB else s.hst.laneA).any (fun b =>
    (spWord b).step.any (fun x => decide ((s.tail 5).n < nearTick x.tick (s.tail 5).n)))

/-- HST.SWAP (R201, R202): the standby is powered, and WARMING, 20 us after the execution (log entry 29). -/
def mHstSwap : Meaning :=
  { bad := fun _ _ => none
    run := fun f _ s =>
      match s.activeHs, s.hsIn hsStandby with
      | some tb, some sb =>
        if s.flag locArb R.HST_STAT_CKPT_STALE ∨ !s.flag locArb R.HST_STAT_LINK_UP ∨ s.stepAhead tb ∨
            6 ≤ s.servoState ∨ s.hst.swap.isSome then (s, some (conflictC s.hstDetail))
        else
          let s := (s.writeCkpt none).settleCkpts
          let s := s.setHst { s.hst with swap := some f.num, swapAt := s.now, warmAt := s.now + ckptTicks }
          (s.setHs sb hsWarming).goesOn f.num 0
      | _, _ => (s, some (conflictC s.hstDetail)) }

def execHstSwap (n : Nat) (s : State) : Out := startRow s n (isOp 0xA0) mHstSwap

/-- The former ACTIVE's drive removal takes effect (R194, R201). -/
def execDualActiveEnd (s : State) : Out :=
  if !s.flag locArb R.HST_STAT_DUAL_ACTIVE then .next s
  else
    let off (s : State) (tb : Bool) : State :=
      if s.hs tb = hsActive ∨ s.hs tb = hsWarming then s
      else
        let s := s.setDrive tb false
        s.setHst (if tb then { s.hst with laneB := none } else { s.hst with laneA := none })
    let s := (off (off s false) true).arbPut R.HST_STAT_DUAL_ACTIVE 0
    let num := s.hst.swap
    let s := s.setHst { s.hst with swap := none }
    .next (s.completeOpt num { status := stOk, result := satNat ((s.now - s.hst.swapAt) / 625) 16 })

/-- The WARMING headstock fails (R197, R201): the swap is aborted, or HST_NONE where no other headstock is ACTIVE (log entry
29). -/
def State.failWarming (s : State) (tb : Bool) (code : Nat) : State :=
  let s := s.setHs tb hsFailed
  let num := s.hst.swap
  if num.isSome ∨ s.activeHs.isSome then
    ((s.setHst { s.hst with swap := none }).raise locArb 0x23 code).completeOpt num { status := stAborted }
  else (s.setHst { s.hst with takeover := false }).raise locArb 0x22 0

/-- No valid word 40 us after the declaration, or after power-up in a swap (R177, R197, R201). -/
def execWarmingTimeout (s : State) : Out :=
  match s.warmingHs with
  | none => .next s
  | some tb =>
    .next ((s.advanceTo ((if s.hst.swap.isSome then s.hst.warmAt else s.hst.declAt) + 25000)).failWarming tb 0)

/-- The self-check of the WARMING headstock, which its power begins, fails (R197, R201). -/
def execWarmingSelfCheckFail (code : Nat) (s : State) : Out :=
  match s.warmingHs with
  | none => .next s
  | some tb => .next ((s.advanceTo s.hst.warmAt).failWarming tb code)

/-- The cause for which a headstock failed, and its power-good (R180, R200). -/
def State.pgLost (s : State) (tb : Bool) : Bool :=
  if tb then s.hst.causeB == 5 && !s.hst.pgB else s.hst.causeA == 5 && !s.hst.pgA

/-- HST.REVIVE (R200). -/
def mHstRevive : Meaning :=
  { bad := fun _ _ => none
    run := fun f _ s =>
      let tb := bit f.cmd.opa 0
      if s.hs tb ≠ hsFailed ∨ s.pgLost tb then (s, some (conflictC s.hstDetail))
      else
        let s := (s.setHs tb hsSelftest).setHst
          (if tb then { s.hst with reviveB := some f.num } else { s.hst with reviveA := some f.num })
        s.goesOn f.num 0 }

def execHstRevive (n : Nat) (s : State) : Out := startRow s n (isOp 0xA1) mHstRevive

/-- A headstock self-test ends (R177, R199, R200). -/
def execHstSelftestDone (tb : Bool) (code : Nat) (s : State) : Out :=
  if s.hs tb ≠ hsSelftest then .next s
  else
    let num := if tb then s.hst.reviveB else s.hst.reviveA
    let clear (s : State) : State :=
      s.setHst (if tb then { s.hst with reviveB := none } else { s.hst with reviveA := none })
    let s := if code = 0 then s.calSelf (hsDie tb) else s
    if code ≠ 0 then
      .next (((clear s).setHs tb hsFailed).raise locArb 0x23 code |>.completeOpt num { status := stFault, result := code })
    else if s.activeHs.isSome then .next ((clear (s.setHs tb hsStandby)).completeOpt num (okC 0))
    else
      let s := (s.setHs tb hsActive).arbPut R.HST_STAT_ACTIVE_TB (b2n tb)
      let s := (s.bumpEpoch.giveEpoch tb).setDrive tb true
      .next (s.setHst { s.hst with starting := some tb, startAt := s.now })

end Sys2Proof.Machine
end

