-- ==== Sys2Proof/Machine/Power.lean ====
section
/-! DEFINITION. The POW group, grants, sleep, gate schedules and temperature (R33 to R37, R307, R329, R330, R345 to R363,
R476). -/

namespace Sys2Proof.Machine

/-! ### Ports of a cluster -/

/-- The present ports that a pipeline serves (R261). -/
def State.cluPorts (s : State) (d clu : Nat) : List Nat := (s.diePorts d).filter (fun p => portClu p == clu)

/-- The ports of a cluster that face a Relka partner (R34). -/
def State.facing (s : State) (d clu : Nat) : List Nat :=
  (s.cluPorts d clu).filter (fun p => decide (p < 64) && s.creditOn d p)

/-- Whether the landing shares of a cluster are empty. -/
def State.landEmpty (s : State) (d clu : Nat) : Bool := (s.cluPorts d clu).all (fun p => (s.port d p).landing.isEmpty)

/-! ### Sleep windows (R34, R296; log entry 33) -/

/-- A port reduces the window it grants; where it is UP its LIMITs stand no further than the sleep window, its partner is
told, and the partner's acknowledgement is awaited (R34). -/
def State.reduceWindow (s : State) (d p : Nat) : State :=
  let s := s.updPort d p (fun x => { x with reduced := true })
  if s.pstate d p = psUp then
    let cut (s : State) (c : Nat) : Bool := decide (0 < d20 (s.credit d p c).limOut (m20 ((s.credit d p c).recv + s.openWindow d p)))
    let told := (s.credited d p).any (cut s) && s.pflag d p R.RLK_CTRL_EN && s.pfld d p R.PORT_STAT_LOOP == 0
    let s := (s.credited d p).foldl (fun s c =>
      let x := s.credit d p c
      if cut s c then (s.setCredit d p c { x with limOut := m20 (x.recv + s.openWindow d p) }).sendCredit d p c false
      else s) s
    if told then s.updPort d p (fun x => { x with ackWait := some s.now }) else s
  else s

/-- Whether every facing partner of a cluster has acknowledged its reduced window (R34; log entry 33). -/
def State.acked (s : State) (d clu : Nat) : Bool := (s.facing d clu).all (fun p => (s.port d p).ackWait.isNone)

/-- The ports of a cluster restore the full window (R34). -/
def State.restoreWindows (s : State) (d clu : Nat) : State :=
  (s.facing d clu).foldl (fun s p =>
    let s := s.updPort d p (fun x => { x with reduced := false, ackWait := none })
    (s.credited d p).foldl (fun s c => s.creditSync d p c) s) s

/-! ### Attempts to sleep (R329, R330, R357, R360) -/

/-- The attempt of a pipeline or a slice to sleep. -/
def State.attempt (s : State) (d clu : Nat) (slice : Bool) : Option Sleeping :=
  Tab.get? s.ledger.sleep (gateKey d clu slice)

/-- Removes an attempt. -/
def State.dropAttempt (s : State) (d clu : Nat) (slice : Bool) : State :=
  s.setLedger { s.ledger with sleep := Tab.del s.ledger.sleep (gateKey d clu slice) }

/-- A POW.SLEEP that fails at one unit completes, and no other unit of a broadcast works for it any more. -/
def State.failSleep (s : State) (n : Option Nat) (c : Compl) : State :=
  match n with
  | none => s
  | some k =>
    (s.setLedger { s.ledger with sleep := s.ledger.sleep.map (fun x =>
      if x.2.num = some k then (x.1, { x.2 with num := none }) else x) }).complete k c

/-- An attempt ends without sleep: the gate stays open and the windows are restored (R330, R357). -/
def State.endAttempt (s : State) (d clu : Nat) (slice : Bool) (c : Compl) : State :=
  match s.attempt d clu slice with
  | none => s
  | some a =>
    let s := s.dropAttempt d clu slice
    let s := if slice then s else
      (s.restoreWindows d clu).setLedger
        { s.ledger with lastP1 := Tab.set s.ledger.lastP1 (cluNo d clu) s.now }
    s.failSleep a.num c

/-- A frame or a wake request that meets a pipeline about to sleep (R330, R357). -/
def State.cancelSleep (s : State) (d clu : Nat) : State := s.endAttempt d clu false { status := stBusyGate }

/-- A lossless class towards a PFC partner on a port of the pipeline (R35). A DISABLED port carries nothing and does not
count (DESIGN CHOICE, log entry 55). -/
def State.pfcHolds (s : State) (d clu : Nat) : Bool :=
  (s.cluPorts d clu).any (fun p =>
    s.losslessEn d p && !s.creditOn d p && s.pstate d p != psDisabled && !(s.lossless d).isEmpty)

/-- A demand wake is withdrawn when the landing shares of its cluster empty before it is granted (R355). -/
def State.withdrawWakes (s : State) (d clu : Nat) : State :=
  if s.landEmpty d clu then
    s.setLedger { s.ledger with reqs := s.ledger.reqs.filter (fun r =>
      !(r.die == d && r.clu == clu && r.num.isNone && r.unit.isNone && !r.slice)) }
  else s

/-- A Relka-facing port whose MAX_FRAME exceeds its landing share (R255). -/
def State.frameHolds (s : State) (d clu : Nat) : Bool :=
  (s.facing d clu).any (fun p => decide (s.landShare d p < s.maxFrame d p))

/-- The gate list that rules a port at a time (R307). -/
def Port.listAt (x : Port) (u : Nat) : Option GateList :=
  match x.pend with
  | some g => if g.start ≤ u then some g else x.oper
  | none => x.oper

/-- Whether an entry of a list opens a time-bound class. -/
def State.entryBound (s : State) (d : Nat) (e : Nat × Nat) : Bool :=
  (List.range 16).any (fun c => bit e.1 c && s.timeBound d c)

/-- Whether a time-bound gate is open on a port of the pipeline, or opens within 300 ns (R356). Every interval is at
least 100 ns, so four instants meet every entry of that time. -/
def State.gateHolds (s : State) (d clu : Nat) : Bool :=
  (s.cluPorts d clu).any (fun p => (List.range 4).any (fun k =>
    let u := s.nowU d + k * 100 * 65536
    match (s.port d p).listAt u with
    | none => false
    | some g => s.entryBound d (g.entries.getD (g.indexAt u) (0, 0))))

/-- The DETAIL of the STATE_CONFLICT that keeps a pipeline awake (R360). -/
def State.sleepBar (s : State) (d clu : Nat) : Option Nat :=
  if s.pfcHolds d clu then some 1 else if s.frameHolds d clu then some 2 else if s.gateHolds d clu then some 3 else none

/-- A pipeline begins to sleep: its windows are reduced (R34, R357). -/
def State.startSleep (s : State) (d clu : Nat) (num : Option Nat) : State :=
  let s := (s.facing d clu).foldl (fun s p => s.reduceWindow d p) s
  s.setLedger { s.ledger with
    sleep := Tab.set s.ledger.sleep (gateKey d clu false) { deadline := s.now + usTicks 2000, num := num } }

/-- A slice without cells whose pipeline is asleep enters SLEEP (R358). -/
def State.sliceRest (s : State) (d clu : Nat) : State :=
  if s.sliceAwake d clu && !s.awake d clu && !s.pipeWaking d clu && decide (s.sliceUsed d clu = 0) then
    let r := s.sliceSleep d clu
    match s.attempt d clu true with
    | none => r.1
    | some a => (r.1.dropAttempt d clu true).finishPart a.num (okC r.2)
  else s

/-! ### Grants (R33, R349, R353, R354) -/

/-- A wake asked for by an instruction whose tokens are granted: awake already, on its way, or begun now (R359). -/
def State.giveWake (s : State) (d clu : Nat) (slice : Bool) (num : Option Nat) : State :=
  if (if slice then s.sliceAwake d clu else s.awake d clu) then s
  else
    match Tab.get? s.ledger.waking (gateKey d clu slice) with
    | some w =>
      s.setLedger { s.ledger with waking := Tab.set s.ledger.waking (gateKey d clu slice) { w with num := num, got := 0 } }
    | none => s.grantWake d clu slice num

/-- PIN of a POW.WAKE applies (R359). -/
def State.applyPin (s : State) (f : Flight) (d clu : Nat) (slice : Bool) : State :=
  if bit f.cmd.opa 0 && !slice then s.put (cluLoc d clu 20 0) R.PWR_CTRL_PINNED 1 else s

/-- Whether a location names a buffer slice. -/
def locSlice (loc : Nat) : Bool := locUnit loc == 21

/-- The request of a POW.WAKE at a location. -/
def State.wakeReq (s : State) (f : Flight) (loc : Nat) : WakeReq :=
  { die := locDie loc, clu := locClu loc, prio := if f.cmd.bg then 4 else 3, tick := s.now, num := some f.num,
    slice := locSlice loc }

/-- POW.WAKE (R359). -/
def mPowWake : Meaning :=
  { bad := fun _ _ => none
    run := fun f loc s =>
      let d := locDie loc
      let clu := locClu loc
      let slice := locSlice loc
      let r := s.wakeReq f loc
      if (if slice then s.sliceAwake d clu else s.awake d clu) then
        (((if slice then s else s.cancelSleep d clu)).applyPin f d clu slice, some (okC 0))
      else
        let no := s.refuse r (s.ahead r)
        if no = [] then ((s.applyPin f d clu slice).giveWake d clu slice (some f.num)).goesOn f.num 0
        else (s, some (deniedC no false))
    wants := fun f loc s => [s.wakeReq f loc] }

def execPowWake (n : Nat) (s : State) : Out := startRow s n (isOp 0xB0) mPowWake

/-- The meanings that draw tokens: POW.WAKE, PORT.UP, PORT.LOOP, PORT.PRBS, QUE.GATELIST, and the register writes (R64). -/
def drawMeaning (op : Nat) : Meaning :=
  match op with
  | 0xB0 => mPowWake
  | 0x31 => mPortUp
  | 0x33 => mPortLoop
  | 0x34 => mPortPrbs
  | 0x41 => mGatelist
  | _ => mCfgWrite

/-- A demand wake is granted (R349, R355). -/
def State.grantDemand (s : State) (r : WakeReq) : State :=
  let s := s.setLedger { s.ledger with reqs := s.ledger.reqs.erase r }
  if s.upOrWaking r.die r.clu r.slice then s
  else
    let w := satNat ((s.now - r.tick) * 8 / 5) 32
    let s := s.ledPut R.POW_WAIT_HWM_NS (max (s.led R.POW_WAIT_HWM_NS) w)
    s.grantWake r.die r.clu r.slice none

/-- An instruction that waits for tokens executes, unless the ledger still refuses it (R64, R349). -/
def State.grantInstr (s : State) (n : Nat) : Option State :=
  match s.flight n with
  | none => some (s.dropReqs n)
  | some f =>
    match (drawMeaning f.cmd.opcode).eff f s with
    | (t, none) => some (t.dropReqs n)
    | (t, some c) => if c.status = stDenied then none else some ((t.dropReqs n).complete n c)

/-- A waiting request is granted, unless something refuses it (R349, R353). -/
def State.grantOf (s : State) (r : WakeReq) : Option State :=
  match r.num with
  | none => if s.refuse r (s.ahead r) = [] then some (s.grantDemand r) else none
  | some n => s.grantInstr n

/-- The ledger serves the first request, in the order of R353, that nothing refuses. -/
def State.nextGrant (s : State) : Option State :=
  (((List.range 6).map (fun k => s.ledger.reqs.filter (fun r => r.prio == k))).flatten).findSome? s.grantOf

/-- The ledger grants the next request (R349, R353). -/
def execWakeGrant (s : State) : Out := .next (s.nextGrant.getD s)

/-- Waiting requests are tested again (R354, R361). -/
def State.retest (s : State) : State := s.ledger.reqs.foldl (fun s _ => s.nextGrant.getD s) s

/-- A wake is complete (R33, R34, R359): a pipeline restores its credit windows, a waiting instruction completes. -/
def execPipelineWakeReady (d clu : Nat) (s : State) : Out :=
  let pipe := Tab.get? s.ledger.waking (gateKey d clu false)
  let alone := Tab.get? s.ledger.waking (gateKey d clu true)
  let pick : Option (Bool × Waking) := match pipe, alone with
    | some w, some a => if a.ready ≤ w.ready then some (true, a) else some (false, w)
    | some w, none => some (false, w)
    | none, some a => some (true, a)
    | none, none => none
  match pick with
  | none => .next s
  | some (slice, w) =>
    let s := (s.advanceTo w.ready).wakeReady d clu slice w
    let s := if slice then s else s.restoreWindows d clu
    .next (s.finishPart w.num (okC w.got))

/-! ### POW.WAKE and POW.SLEEP (R359, R360) -/


/-- POW.SLEEP: a unit already gated completes OK (R330); one on its way to wake, BUSY_GATE. A slice whose pipeline is
awake raises no idle (R358; log entry 32). -/
def mPowSleep : Meaning :=
  { bad := fun _ _ => none
    run := fun f loc s =>
      let d := locDie loc
      let clu := locClu loc
      let busy : Eff := (s, some { status := stBusyGate })
      if locSlice loc then
        if s.sliceWaking d clu then busy
        else if !s.sliceAwake d clu then (s, some (okC 0))
        else if s.sliceUsed d clu ≠ 0 then (s, some (conflictC 4))
        else
          let a : Sleeping := { deadline := s.now + usTicks 2000, num := some f.num }
          (s.setLedger { s.ledger with sleep := Tab.set s.ledger.sleep (gateKey d clu true) a }).goesOn f.num a.deadline
      else if s.pipeWaking d clu then busy
      else
        match (if s.awake d clu then s.sleepBar d clu else none) with
        | some k => (s, some (conflictC k))
        | none =>
          let s := s.put (cluLoc d clu 20 0) R.PWR_CTRL_PINNED 0
          if s.awake d clu then (s.startSleep d clu (some f.num)).goesOn f.num (s.now + usTicks 2000)
          else (s, some (okC 0)) }

def execPowSleep (n : Nat) (s : State) : Out := startRow s n (isOp 0xB1) mPowSleep

/-- 2 ms have passed (R360): the windows are restored and the instruction completes TIMEOUT. -/
def execPowSleepTimeout (n : Nat) (s : State) : Out :=
  match s.going n (isOp 0xB1) with
  | none => .next s
  | some (_, t) =>
    let s := s.advanceTo t
    let mine := s.ledger.sleep.filter (fun x => x.2.num == some n)
    let s := mine.foldl (fun s x =>
      let j := x.1 % 16
      let s := s.dropAttempt (j / 4) (j % 4) (decide (16 ≤ x.1))
      if x.1 < 16 then s.restoreWindows (j / 4) (j % 4) else s) s
    .next (s.complete n { status := stTimeout })

/-- The pipeline or slice whose gate a location names: die, cluster, slice. -/
def gateOf (loc : Nat) : Option (Nat × Nat × Bool) :=
  if locDie loc < 4 ∧ locSub loc = 0 ∧ (locUnit loc = 20 ∨ locUnit loc = 21) then
    some (locDie loc, locClu loc, locSlice loc) else none

/-- A quiesced unit raises idle and its gate closes (R329, R350, R354, R357, R358): a pipeline once every facing partner
has acknowledged its reduced window (R34). What came to keep it awake since the attempt began ends the attempt (R35,
R255, R356). -/
def execGateIdle (loc : Nat) (s : State) : Out :=
  match gateOf loc with
  | none => .next s
  | some (d, clu, true) => .next (s.sliceRest d clu).retest
  | some (d, clu, false) =>
    match s.attempt d clu false with
    | none => .next s
    | some a =>
      match s.sleepBar d clu with
      | some k => .next (s.endAttempt d clu false (conflictC k))
      | none =>
      if s.awake d clu && s.landEmpty d clu && s.acked d clu then
        let r := s.pipeSleep d clu
        .next (((r.1.dropAttempt d clu false).finishPart a.num (okC r.2)).sliceRest d clu).retest
      else .next s

/-- Idle is not raised within 256 cycles (R329). -/
def execGateTimeout (loc : Nat) (s : State) : Out :=
  match gateOf loc with
  | none => .next s
  | some (d, clu, slice) =>
    match s.attempt d clu slice with
    | none => .next s
    | some _ => .next ((s.raise loc 0x05 0).endAttempt d clu slice { status := stBusyGate })

/-! ### Auto-sleep (R352, R356, R357) -/

/-- Whether an instance that encloses a cluster is over budget (R352). -/
def State.overBudget (s : State) (d clu : Nat) : Bool :=
  let j := cluNo d clu
  s.flag locLed (R.POW_CLU_OVER j) || s.flag locLed (R.POW_REG_OVER (regOf j)) ||
    decide (s.led (R.POW_DIE_BUDGET d) < s.led (R.POW_DIE_USED d)) ||
    decide (s.led R.POW_POOL_POOL < s.led R.POW_TOKENS_GRANTED + s.led R.POW_RESV_RESERVED)

/-- The tick at which a pipeline's idle time has passed. -/
def State.idleDue (s : State) (d clu : Nat) : Nat :=
  let us := if s.overBudget d clu then 1 else s.fld (cluLoc d clu 20 0) R.PWR_CTRL_IDLE_US
  Tab.get 0 s.ledger.lastP1 (cluNo d clu) + usTicks us

/-- Whether a pipeline may begin to auto-sleep now (R357). -/
def State.maySleep (s : State) (d clu : Nat) : Bool :=
  let loc := cluLoc d clu 20 0
  s.awake d clu && s.flag loc R.PWR_CTRL_AUTO_SLEEP && !s.flag loc R.PWR_CTRL_PINNED &&
    (s.attempt d clu false).isNone && s.landEmpty d clu && s.sleepBar d clu == none

/-- The idle time of a pipeline has passed: the attempt begins (R34, R357). -/
def execAutoSleep (d clu : Nat) (s : State) : Out :=
  let t := s.advanceTo (s.idleDue d clu)
  .next (if d < 4 ∧ clu < 4 ∧ t.maySleep d clu then t.startSleep d clu none else s)

/-! ### Gate schedules (R37, R307, R356) -/

/-- The instant of a list's entry `j`, counted from its base (R307). -/
def GateList.offOf (g : GateList) (j : Nat) : Nat := ((g.entries.take j).map Prod.snd).sum * 65536

/-- The next instant, at or after `u`, at which an entry of a list that satisfies a test begins. -/
def GateList.nextOf (g : GateList) (u : Nat) (test : Nat → Bool) : Option Nat :=
  (((List.range g.entries.length).filter test).map (fun j =>
    firstAt (g.base + g.offOf j) (g.cycle * 65536) u)).foldl (fun m t => match m with
      | none => some t
      | some x => some (min x t)) none

/-- Whether entry `j` opens a time-bound gate that the entry before it holds closed. -/
def State.opens (s : State) (d : Nat) (g : GateList) (j : Nat) : Bool :=
  let now := (g.entries.getD j (0, 0)).1
  let prev := (g.entries.getD ((j + g.entries.length - 1) % g.entries.length) (0, 0)).1
  (List.range 16).any (fun c => s.timeBound d c && bit now c && (!bit prev c || g.entries.length == 1))

/-- Whether a pending list opens, with the entry in force at its start, a time-bound gate that the list before it held
closed; without a list before, every gate that it opens counts (R37; DEDUCED, log entry 56). -/
def State.opensAtStart (s : State) (d : Nat) (x : Port) (g : GateList) : Bool :=
  let now := (g.entries.getD (g.indexAt g.start) (0, 0)).1
  let old := x.oper.map (fun o => (o.entries.getD (o.indexAt (g.start - 1)) (0, 0)).1)
  (List.range 16).any (fun c => s.timeBound d c && bit now c && !old.any (fun e => bit e c))

/-- The next instant at which a time-bound gate of a port opens, by its operational or its pending list. -/
def State.nextOpening (s : State) (d p : Nat) : Option Nat :=
  let x := s.port d p
  let u := s.nowU d
  let a := x.oper.bind (fun g => g.nextOf u (s.opens d g))
  let b := x.pend.bind (fun g =>
    if u ≤ g.start ∧ s.opensAtStart d x g then some g.start else g.nextOf (max u g.start) (s.opens d g))
  match a, b, x.pend with
  | some t, some t', some g => if t < g.start then some t else some t'
  | some t, none, some g => if t < g.start then some t else none
  | some t, _, none => some t
  | none, b, _ => b

/-- 300 ns before a time-bound gate opens, its pipeline is woken on the reservation (R37, R356). -/
def execGatePrewake (d p : Nat) (s : State) : Out :=
  match s.nextOpening d p with
  | none => .next s
  | some t =>
    let clu := portClu p
    let s := s.advanceToU (t - 300 * 65536)
    let s := s.cancelSleep d clu
    .next (if s.hasResv d clu && !s.upOrWaking d clu false then s.grantWake d clu false none else s)

/-- A pending gate list becomes operational at S (R307); one without entries ends the schedule. -/
def execGatelistStart (d p : Nat) (s : State) : Out :=
  match (s.port d p).pend with
  | none => .next s
  | some g =>
    let s := s.advanceToU g.start
    let s := s.setPort d p { s.port d p with pend := none, oper := if g.entries = [] then none else some g }
    let s := s.setGates d p
    .next ((s.resvSync d).getD s)

/-- At an entry boundary the gates take their new states (R307). -/
def execGateChange (d p : Nat) (s : State) : Out :=
  match (s.port d p).oper with
  | none => .next s
  | some g =>
    match g.nextOf (s.nowU d + 1) (fun _ => true) with
    | none => .next s
    | some t => .next ((s.advanceToU t).setGates d p)

/-! ### POW.BUDGET (R23, R348, R361) -/

/-- The location in OPB. -/
def Cmd.budLoc (c : Cmd) : Nat := c.opb % 65536
/-- TOKENS. -/
def Cmd.budTokens (c : Cmd) : Nat := bits c.opb 16 14

/-- The operands of POW.BUDGET out of range. -/
def budgetBad (c : Cmd) (s : State) : Bool :=
  let l := c.budLoc
  match c.opa % 4 with
  | 0 => l != 0 || decide (fullDraw s.part < c.budTokens)
  | 1 => l % 8192 != 0 || decide (4 ≤ locDie l)
  | 2 => l % 4096 != 0 || decide (4 ≤ locDie l)
  | _ => l % 2048 != 0 || decide (4 ≤ locDie l)

/-- Whether the budgets of the levels nest (R23); TA, TB and H hold 600 tokens together (R348). -/
def State.nested (s : State) : Bool :=
  let ds := sDies s.part
  decide ((ds.map (fun d => s.led (R.POW_DIE_BUDGET d))).sum + 600 ≤ s.led R.POW_POOL_POOL) &&
    ds.all (fun d => decide (s.led (R.POW_REG_BUDGET (2 * d)) + s.led (R.POW_REG_BUDGET (2 * d + 1))
        ≤ s.led (R.POW_DIE_BUDGET d)) &&
      (List.range 2).all (fun r => decide (s.led (R.POW_CLU_BUDGET (4 * d + 2 * r))
        + s.led (R.POW_CLU_BUDGET (4 * d + 2 * r + 1)) ≤ s.led (R.POW_REG_BUDGET (2 * d + r)))))

/-- The budget field, the USED and the EFFECTIVE field of an instance. -/
def State.budgetOf (s : State) (level l : Nat) : Fld × Nat × Fld :=
  let d := locDie l
  match level with
  | 0 => (R.POW_POOL_POOL, s.led R.POW_TOKENS_GRANTED + s.led R.POW_RESV_RESERVED, R.POW_POOL_POOL)
  | 1 => (R.POW_DIE_BUDGET d, s.led (R.POW_DIE_USED d), R.POW_DIE_BUDGET d)
  | 2 =>
    let i := 2 * d + locRegion l
    (R.POW_REG_BUDGET i, s.led (R.POW_REG_USED i), R.POW_REG_EFFECTIVE i)
  | _ =>
    let j := 4 * d + locClu l
    (R.POW_CLU_BUDGET j, s.led (R.POW_CLU_USED j), R.POW_CLU_EFFECTIVE j)

/-- POW.BUDGET. -/
def mPowBudget : Meaning :=
  { bad := fun c s => rangeBad (budgetBad c s)
    run := fun f _ s =>
      let level := f.cmd.opa % 4
      let l := f.cmd.budLoc
      if level ≠ 0 ∧ !dieOn s.part (locDie l) then (s, some noTarget)
      else
        let (fld, used, eff) := s.budgetOf level l
        let t := s.ledPut fld f.cmd.budTokens
        if !t.nested then (s, some (conflictC 6))
        else if f.cmd.budTokens < used then (s, some (conflictC 7))
        else
          let t := if level < 2 then t.freeSync else t.regSync (2 * locDie l + locRegion l)
          (t.retest, some (okC (t.led eff))) }

def execPowBudget (n : Nat) (s : State) : Out := startRow s n (isOp 0xB2) mPowBudget

/-! ### Temperature (R351, R366, R476) -/

/-- The median of three values. -/
def med3 (a b c : Int) : Int := max (min a b) (min (max a b) c)

/-- Whether reading `k` of a region's four is valid (R476). -/
def readingOk (rs : List Int) (k : Nat) : Bool :=
  let g (i : Nat) : Int := rs.getD ((k + i) % 4) 0
  decide (-880 ≤ g 0) && decide (g 0 ≤ 2400) && decide ((g 0 - med3 (g 1) (g 2) (g 3)).natAbs ≤ 160)

/-- The derating step for the hottest reading, from the present step (R351). -/
def stepFor (knee hyst t : Int) (cur : Nat) : Nat :=
  let raw := ((List.range 7).filter (fun k => decide (1 ≤ k) && decide (stepAt knee k ≤ t))).length
  let keep := ((List.range 7).filter (fun k => decide (1 ≤ k) && decide (k ≤ cur) &&
    decide (stepAt knee k - hyst < t))).length
  max raw keep

/-- One region's sample: readings, step, LEDGER event, faults. -/
def State.sample (s : State) (i : Nat) (rs : List Int) : State :=
  let s := ((s.ledPut (R.POW_REG_TEMP_SENSOR0 i) (satBits (rs.getD 0 0) 16)).ledPut (R.POW_REG_TEMP_SENSOR1 i)
    (satBits (rs.getD 1 0) 16)).ledPut (R.POW_REG_TEMP_SENSOR2 i) (satBits (rs.getD 2 0) 16) |>.ledPut
    (R.POW_REG_TEMP_SENSOR3 i) (satBits (rs.getD 3 0) 16)
  let good := (List.range 4).filter (readingOk rs)
  let hot : Option Int := (good.map (fun k => rs.getD k 0)).foldl (fun m t => match m with
    | none => some t
    | some x => some (max x t)) none
  let cur := s.led (R.POW_REG_STEP i)
  let st := match hot with
    | none => 6
    | some t => stepFor (sx (s.led R.POW_THERM_KNEE) 16) (s.led R.POW_THERM_HYST) t cur
  let s := (s.ledPut (R.POW_REG_STEP i) st).regSync i (st != cur)
  let loc := mkLoc (i / 2) (i % 2) 0 20 2
  let s := ((List.range 4).filter (fun k => !readingOk rs k)).foldl (fun s k => s.raise loc 0x11 k) s
  match hot with
  | some t => if gradeMax s.part < t then s.raise loc 0x10 (toBits t 32) else s
  | none => s

/-- Every region's sensors are sampled (R351, R352, R354). -/
def execThermalSample (readings : List Int) (s : State) : Out :=
  let s := ((List.range 8).filter (fun i => dieOn s.part (i / 2))).foldl (fun s i =>
    s.sample i ((readings.drop (4 * i)).take 4)) s
  .next s.retest

end Sys2Proof.Machine
end

