-- ==== Sys2Proof/Machine/Flt.lean ====
section
/-! DEFINITION. The FLT group and the fault message (R364 to R382, R480). -/

namespace Sys2Proof.Machine

/-! ### Where a kind originates (R480) -/

/-- Whether a location names an assigned unit with a clock gate, at SUB 0 (R17, R21, R22). -/
def gatedUnit (p : Part) (loc : Nat) : Bool :=
  let u := locUnit loc
  locSub loc == 0 && dieOn p (locDie loc) &&
    (if locDie loc < 4 then
      decide (u ≤ 16) || u == 20 || u == 21 || u == 28 || (decide (24 ≤ u) && decide (u ≤ 26))
    else if locDie loc = 6 then decide (u ≤ 29) else decide (u ≤ 5))

/-- Whether a location names a port of a unit (R480). -/
def isPortLoc (loc : Nat) : Bool :=
  decide (locDie loc < 4) && ((decide (locUnit loc < 16) && decide (locSub loc < 4)) ||
    (locUnit loc == 16 && decide (locSub loc < 8)))

/-- Whether a location names a lane of a port unit (R480). -/
def isLaneLoc (loc : Nat) : Bool :=
  decide (locDie loc < 4) && decide (8 ≤ locSub loc) && ((decide (locUnit loc < 16) && decide (locSub loc < 12)) ||
    (locUnit loc == 16 && decide (locSub loc < 16)))

/-- Whether a kind can originate at a location (R480). -/
def originOk (p : Part) (kind loc : Nat) : Bool :=
  let d := locDie loc
  let u := locUnit loc
  let sb := locSub loc
  let sDie := decide (d < 4)
  match kind with
  | 0x01 | 0x02 | 0x03 => loc == hubLoc 5
  | 0x04 => loc == locClk
  | 0x05 => gatedUnit p loc
  | 0x10 | 0x11 => sDie && u == 20 && sb == 2 && locCluster loc == 0
  | 0x20 => (sDie && loc == mkLoc d 0 0 28 0) || loc == hubLoc 28 || loc == hubLoc 29
  | 0x21 | 0x22 | 0x23 | 0x24 | 0x25 | 0x26 => loc == locArb
  | 0x27 => (d == 4 || d == 5) && decide (u ≤ 5)
  | 0x28 => (List.range 4).any (fun k => loc == hubLoc (8 + k))
  | 0x30 | 0x31 => isLaneLoc loc
  | 0x40 => sDie && u == 20 && sb == 0
  | 0x41 | 0x42 | 0x43 => sDie && decide (24 ≤ u) && decide (u ≤ 26) && sb == 0
  | 0x50 | 0x54 => sDie && u == 21 && sb == 0
  | 0x51 => sDie && loc == bufLoc d
  | 0x52 => isPortLoc loc
  | 0x53 => (sDie && (loc == bufLoc d || loc == mkLoc d 0 0 28 2)) || isPortLoc loc || loc == locLed || loc == locIss
      || loc == mkLoc 4 0 0 0 0 || loc == mkLoc 5 0 0 0 0
  | 0x60 | 0x61 | 0x62 => loc == locCol
  | _ => false

/-- Kinds without check bits (R378). -/
def noCheckBits (kind : Nat) : Bool :=
  decide (kind ≤ 0x05) || (decide (0x10 ≤ kind) && decide (kind ≤ 0x24)) || kind == 0x30 || kind == 0x31 || kind == 0x53

/-! ### FLT.INJECT (R378, R379) -/

/-- FLT.INJECT: the direct mode reports the fault; the check-bit mode waits for an access. -/
def mFltInject : Meaning :=
  { bad := fun c s =>
      let kind := c.opa % 256
      if (kindSev kind).isNone then some 6
      else if !originOk s.part kind c.loc then some 3
      else rangeBad (!bit c.opa 8 && noCheckBits kind)
    run := fun f loc s =>
      let kind := f.cmd.opa % 256
      let arg := f.cmd.opb % 2 ^ 32
      if bit f.cmd.opa 8 then
        let i := s.fld locCol R.FLT_LOG_PTR_NEXT
        (s.fault { loc := loc, kind := kind, inj := true, detail := arg }, some (okC i))
      else
        let till := s.now + usTicks 10000
        let a : Armed := { num := f.num, loc := loc, kind := kind, off := arg, until_ := till }
        (s.setFaults { s.faults with armed := s.faults.armed ++ [a] }).goesOn f.num till }

def execFltInject (n : Nat) (s : State) : Out := startRow s n (isOp 0xC0) mFltInject

/-- No access has consumed a check-bit injection within 10 ms (R378). -/
def execFltInjectTimeout (n : Nat) (s : State) : Out :=
  match s.going n (isOp 0xC0) with
  | none => .next s
  | some (_, t) =>
    let s := s.advanceTo t
    let s := s.setFaults { s.faults with armed := s.faults.armed.filter (fun a => a.num != n) }
    .next (s.complete n { status := stTimeout })

/-! ### FLT.CLEAR (R368, R370, R372, R377, R380) -/

/-- Clears the pending flag of a kind; COUNT and LEVEL stay (R380). -/
def State.clearPend (s : State) (k : Nat) : State :=
  ((s.put locCol (R.FLT_PEND_REAL k) 0).put locCol (R.FLT_PEND_INJ k) 0).put locCol (R.FLT_PEND_SEV_MAX k) 0

/-- Whether a kind's pending flag is set. -/
def State.pendSet (s : State) (k : Nat) : Bool :=
  s.flag locCol (R.FLT_PEND_REAL k) || s.flag locCol (R.FLT_PEND_INJ k)

/-- The kinds, in ascending order. -/
def kinds : List Nat := kindTable.map Prod.fst

/-- Kinds with REAL set. -/
def State.realKinds (s : State) : List Nat := kinds.filter (fun k => s.flag locCol (R.FLT_PEND_REAL k))

/-- Whether a kind blocks the exit from safe state (R366, R377). -/
def State.blocksExit (s : State) (k : Nat) : Bool :=
  (kindSev k == some 3 && s.flag locCol (R.FLT_PEND_REAL k)) ||
    (k == 0x04 && (plls s.part).any (fun p => !s.flag locClk (R.CLK_PLL_LOCKED p))) ||
    (k == 0x22 && s.activeHs.isNone)

/-- The end of safe state: muted outputs restart under R208, muted triggers are IDLE with cause 3 (R226, R229, R377). -/
def State.leaveSafe (s : State) : State :=
  let s := ((s.put locCol R.FLT_STAT_SAFE 0).fpInt intSafeExit)
  let s := allOuts.foldl (fun s x =>
    let i := outIdx x.1 x.2
    let y := s.out i
    let up := y.pulse || s.flag (hubLoc (8 + x.1)) R.OUT_SYN_STAT_LOCKED
    if s.flag (outLoc x.1 x.2) R.OUT_STAT_MUTED && y.startAt == 0 && up && bit y.cfg 9
    then s.setOut i { y with startAt := s.restartAt x.1 y } else s) s
  let s := (List.range 8).foldl (fun s n =>
    if s.fld (hubLoc (20 + n)) R.TRG_STAT_STATE = 3 then s.trgIdle n 3 else s) s
  s.ccSync.faultNSync

/-- FLT.CLEAR. -/
def mFltClear : Meaning :=
  { bad := fun c _ =>
      match c.opa % 4 with
      | 0 => rangeBad (kindSev (bits c.opa 8 8)).isNone
      | 2 => rangeBad (bits c.opa 2 2 == 0)
      | _ => none
    run := fun f _ s =>
      match f.cmd.opa % 4 with
      | 0 =>
        let k := bits f.cmd.opa 8 8
        (((s.clearPend k).releaseKind k).faultNSync, some (okC (s.fld locCol (R.FLT_PEND_COUNT k))))
      | 1 =>
        let set := kinds.filter s.pendSet
        ((kinds.foldl (fun s k => (s.clearPend k).releaseKind k) s).faultNSync, some (okC set.length))
      | 2 =>
        let clr (s : State) (base : Nat) : State := (s.put locCol ⟨base + 0x10, 0, 1⟩ 0).put locCol ⟨base + 0x10, 1, 1⟩ 0
        let s := if bit f.cmd.opa 2 then clr s 0x10 else s
        (if bit f.cmd.opa 3 then clr s 0x30 else s, some (okC 0))
      | _ =>
        if !s.safe then (s, some (conflictC 0))
        else if s.faults.only ≠ [] then (s, some (conflictC 0xFF))
        else match kinds.find? s.blocksExit with
          | some k => (s, some (conflictC k))
          | none => (s.leaveSafe, some (okC s.realKinds.length)) }

/-- A FLT.CLEAR of a function. -/
def isClear (fn : Nat) (c : Cmd) : Bool := c.opcode == 0xC1 && c.opa % 4 == fn

def execFltClearKind (n : Nat) (s : State) : Out := startRow s n (isClear 0) mFltClear
def execFltClearAll (n : Nat) (s : State) : Out := startRow s n (isClear 1) mFltClear
def execFltClearLatches (n : Nat) (s : State) : Out := startRow s n (isClear 2) mFltClear
def execFltClearSafe (n : Nat) (s : State) : Out := startRow s n (isClear 3) mFltClear

/-! ### FLT.REACT (R381) -/

/-- FLT.REACT. -/
def mFltReact : Meaning :=
  { bad := fun c _ =>
      let sev := kindSev (c.opa % 256)
      rangeBad (sev.isNone || sev == some 3 || bits c.opa 8 3 == 7)
    run := fun f _ s =>
      let k := f.cmd.opa % 256
      let lv := bits f.cmd.opa 8 3
      (s.put locCol (R.FLT_PEND_LEVEL k) (if lv = 6 then kindReact k else lv),
        some (okC (s.fld locCol (R.FLT_PEND_LEVEL k)))) }

def execFltReact (n : Nat) (s : State) : Out := startRow s n (isOp 0xC2) mFltReact

/-! ### Fault messages (R365, R370, R371) -/

/-- What the collector does of itself on a parity error that a message of its own reports (R371). -/
def State.parity (s : State) (m : FaultMsg) : State :=
  if m.inj then s
  else if m.kind = 0x61 then
    let ctl := if m.detail = 0 then 0x20 else 0x40
    (s.put locCol ⟨ctl, 0, 1⟩ 0).put locCol ⟨ctl, 2, 1⟩ 1
  else if m.kind = 0x62 then kinds.foldl (fun s k => s.put locCol (R.FLT_PEND_LEVEL k) (kindReact k)) s
  else s

/-- The collector takes the messages of one hub core clock in the order of R370; a kind that the table lacks is no
message (R366). An error it finds at this access of its own memory follows. -/
def execFaultMessage (msgs : List FaultMsg) (s : State) : Out :=
  let ms := (msgs.filter (fun m => (kindSev m.kind).isSome)).foldr faultInsert []
  let s := ms.foldl (fun s m => (s.parity m).fault m) s
  if ms = [] then .next s
  else .next ((s.touch 0x60 (· == locCol) 0 0).touch 0x61 (· == locCol) 0 0 |>.touch 0x62 (· == locCol) 0 0)

end Sys2Proof.Machine
end

