-- ==== Sys2Proof/Machine/Cal.lean ====
section
/-! DEFINITION. The CAL and DIAG groups (R42, R253, R313, R383 to R397). -/

namespace Sys2Proof.Machine

/-! ### Items and instances (R383) -/

/-- ITEM of a CAL instruction. -/
def Cmd.item (c : Cmd) : Nat := c.opa % 16

/-- Lanes of a port unit. -/
def unitLanes (loc : Nat) : Nat := if locUnit loc = 16 then 8 else 4

/-- Values of an item's set, in the order of R383 (log entry 14): six rate codes per lane and direction, seven modes per
direction, one offset per port; 4,096 codes and two standards; one detector table; the two ends of 64 bands; FCW. -/
def calCount (item loc : Nat) : Nat :=
  match item with
  | 1 => 12 * unitLanes loc + 14 + unitLanes loc
  | 2 => 4098
  | 3 => 4098
  | 4 => 4096
  | 5 => 128
  | _ => 1

/-- Whether an item lies at a location; a run of item 1 addresses a port (R383). -/
def calAt (item loc : Nat) (run : Bool) : Bool :=
  let d := locDie loc
  let u := locUnit loc
  match item with
  | 1 => if run then isPortLoc loc else decide (d < 4) && decide (u ≤ 16) && locSub loc == 16
  | 2 => (List.range 8).any (fun n => loc == hubLoc (12 + n))
  | 3 => (List.range 8).any (fun n => loc == hubLoc (20 + n))
  | 4 => loc == detLoc 4 || loc == detLoc 5
  | 5 => (List.range 4).any (fun k => loc == hubLoc (8 + k))
  | 6 => loc == locArb
  | _ => false

/-- The location that holds an item's set and status: the port unit for item 1. -/
def calHome (item loc : Nat) : Nat := if item = 1 then unitLoc (locDie loc) (locUnit loc) 16 else loc

/-- The values of a live set; item 6 is SR_FCW_NOM (R392). -/
def State.calSetOf (s : State) (home item : Nat) : List Int :=
  if item = 6 then [s.nomFcw] else (List.range (calCount item home)).map (s.calVal home item)

/-- The values of a factory set. -/
def State.calFactOf (s : State) (home item : Nat) : List Int :=
  (List.range (calCount item home)).map (s.factVal home item)

/-- The largest change of any value, saturating (R385). -/
def calChange (old new : List Int) : Nat :=
  satNat ((List.zipWith (fun (a b : Int) => (a - b).natAbs) old new).foldl max 0) 16

/-- A live set takes new values; item 6 is the register itself (R392). -/
def State.calPut (s : State) (home item source : Nat) (values : List Int) : State :=
  let s := if item = 6 then
      s.putPair locArb R.SR_FCW_NOM_LO_FCW R.SR_FCW_NOM_HI_FCW (toBits (values.headD 0) 48) else s
  s.calSet home item source (if item = 6 then [] else values) true

/-! ### Legal states (R385, R386, R396) -/

/-- Items 2 and 3. -/
def State.calIdle (s : State) (item loc : Nat) : Option Compl :=
  if item = 2 then if s.flag loc R.CAP_CTRL_EN then some (conflictC 2) else none
  else if item = 3 then
    let cap := hubLoc (locUnit loc - 8)
    if s.fld loc R.TRG_STAT_STATE ≠ 0 ∨ s.flag cap R.CAP_CTRL_EN ∨ !s.flag cap R.CAL_STAT_VALID then
      some (conflictC 3) else none
  else none

/-- The refusal of CAL.RUN. -/
def State.calRunBar (s : State) (item loc : Nat) : Option Compl :=
  if s.calBusy (calHome item loc) item then some (conflictC 0x10)
  else
    let st := s.servoState
    match item with
    | 1 =>
      let (d, p) := locPort loc
      if s.pstate d p ≠ psUp ∨ !s.flag loc R.DLY_STAT_VALID then some (conflictC 1) else none
    | 4 =>
      if st = 6 ∨ st = 7 ∨ s.now < s.servo.settleEnd ∨ s.servo.step.isSome ∨ (s.servo.next != [])
          ∨ s.servo.slewRate ≠ 0 then some (conflictC 4) else none
    | 6 => if (st ≠ 2 ∧ st ≠ 3) ∨ !s.flag locArb R.SR_STAT_HIST_VALID then some (conflictC 5) else none
    | _ => s.calIdle item loc

/-- The refusal of CAL.WRITE and CAL.FACTORY. -/
def State.calWriteBar (s : State) (item loc : Nat) : Option Compl :=
  if s.calBusy (calHome item loc) item then some (conflictC 0x10)
  else if item = 4 then if s.servoState = 0 ∨ s.servoState = 4 then none else some (conflictC 4)
  else s.calIdle item loc

/-- The operand check of an item and its location. -/
def itemBad (c : Cmd) (s : State) (run : Bool) : Option Nat :=
  if c.item = 0 ∨ 6 < c.item then some 6 else if !calAt c.item (s.firstLoc c) run then some 3 else none

/-! ### CAL.RUN (R385 to R392) -/

/-- CAL.RUN: the live set stays in use; item 4 sends HOLD words, item 5 mutes its outputs, item 6 completes at once. -/
def mCalRun : Meaning :=
  { bad := fun c s => itemBad c s true
    run := fun f loc s =>
      let item := f.cmd.item
      let home := calHome item loc
      if item = 1 ∧ s.absent loc then (s, some noTarget)
      else match s.calRunBar item loc with
        | some c => (s, some c)
        | none =>
          if item = 6 then
            let old := s.calSetOf home 6
            let hist := s.servo.hist.short
            let new := [meanOf (hist.drop (hist.length - 64))]
            let s := (s.calPut home 6 1 new).put home R.CAL_STAT_LAST 0
            (s.put home R.CAL_STAT_COUNT (s.fld home R.CAL_STAT_COUNT + 1), some (okC (calChange old new)))
          else
            let x := s.calOf home item
            let s := { s with cals := Tab.set s.cals (calKey home item) { x with num := some f.num, since := if item = 4 then s.now + s.toSlot else s.now } }
            let s := s.put home R.CAL_STAT_BUSY 1
            let s := if item = 4 then (s.setServo { s.servo with cal := some f.num }).servoHide 7
              else if item = 5 then s.synthDown (locUnit loc - 8) none false else s
            s.goesOn f.num 0 }

def execCalRun (n : Nat) (s : State) : Out := startRow s n (isOp 0xD0) mCalRun

/-- The values after a run: those it measures replace their part of the set (R387 to R391). -/
def calMerge (item loc : Nat) (old meas : List Int) : List Int :=
  match item with
  | 1 =>
    let i := 12 * unitLanes loc + 14 + locSub loc
    old.set i (meas.headD (old.getD i 0))
  | 2 => (List.range 4098).map (fun i => if i < 4096 then meas.getD i (old.getD i 0) else old.getD i 0)
  | 3 => (List.range 4098).map (fun i => if i < 4096 then meas.getD i (old.getD i 0) else old.getD i 0)
  | _ => (List.range old.length).map (fun i => meas.getD i (old.getD i 0))

/-- The phase detector's offset of a port changes: DLY_TX_MEAS is rewritten, and CHANGED set where it changes (R387). -/
def State.rephase (s : State) (loc : Nat) (delta : Int) : State :=
  if delta = 0 then s
  else
    let (d, p) := locPort loc
    let tx := satBits (sx (s.fld loc R.DLY_TX_MEAS_SUM) 32 - delta) 32
    let s := (s.put loc R.DLY_TX_MEAS_SUM tx).put loc R.DLY_STAT_CHANGED 1 |>.bump loc R.DLY_STAT_CHANGES
    s.setPort d p { s.port d p with sums := (s.port d p).sums.map (fun x => (x.1, tx)) }

/-- A lock is abandoned: the port returns to LOCKING with cause 4 (R241, R247). -/
def State.abandonLock (s : State) (d p : Nat) : State :=
  ((((s.setCause d p 4).clearValid d p).lanesUnlock d p).portTo d p psLocking)

/-- The HOLD words end at the next word slot; the servo returns to its state, its timers go on, and what fell due is decided
(R168, R390). -/
def State.holdEnd (s : State) : State :=
  let s := s.advance s.toSlot
  s.servoBack.selectAfter

/-- Where a run goes on: its location, or with a broadcast the lowest die on which it still does. -/
def State.runsAt (s : State) (f : Flight) : Nat :=
  if locDie f.cmd.loc = 7 then
    let on (d : Nat) : Bool :=
      (s.calOf (calHome f.cmd.item (onDie f.cmd.loc d)) f.cmd.item).num == some f.num
    onDie f.cmd.loc (((sDies s.part).find? on).getD 0)
  else f.cmd.loc

/-- Ticks that a run measures for (R383, R387 to R391): item 4 from its first HOLD word, item 5 to the end of the counting. -/
def calTicks (item : Nat) : Nat :=
  match item with
  | 1 => 8250
  | 2 => 105000000
  | 3 => 16875000
  | 4 => 625000
  | 5 => 800000
  | _ => 0

/-- A run ends (R385), not before it has measured, but where its source or input became unusable in it. -/
def execCalRunDone (n : Nat) (e : CalEnd) (s : State) : Out :=
  match s.going n (isOp 0xD0) with
  | none => .next s
  | some (f, _) =>
    let item := f.cmd.item
    let loc := s.runsAt f
    let home := calHome item loc
    let x := s.calOf home item
    if x.num ≠ some n then .next s
    else
      let s := if e = .fail 3 then s else s.advanceTo (x.since + calTicks item)
      let s := { s with cals := Tab.set s.cals (calKey home item) { x with num := none } }
      let s := s.put home R.CAL_STAT_BUSY 0
      match e with
      | .fail code =>
        let s := s.put home R.CAL_STAT_LAST stFault
        let (d, p) := locPort loc
        let s := if item = 1 ∧ code = 3 ∧ s.pstate d p = psUp then s.abandonLock d p else s
        let s := if item = 4 then s.holdEnd else s
        .next (s.finishPart (some n) { status := stFault, result := code })
      | .ok meas =>
        let old := s.calSetOf home item
        let new := calMerge item loc old meas
        let s := (s.calPut home item 1 new).put home R.CAL_STAT_LAST stOk
        let s := s.put home R.CAL_STAT_COUNT (s.fld home R.CAL_STAT_COUNT + 1)
        let i := 12 * unitLanes loc + 14 + locSub loc
        let s := if item = 1 then s.rephase loc (new.getD i 0 - old.getD i 0) else s
        let s := if item = 4 then s.holdEnd else s
        .next (s.finishPart (some n) (okC (calChange old new)))

/-! ### CAL.READ, CAL.WRITE, CAL.FACTORY (R394 to R397) -/

/-- The unique identifier of a die. -/
def State.uid (s : State) (die : Nat) : Nat := Tab.get 0 s.boot.uids die

/-- Item data: 32 bits a value in fs; FCW in 64 bits. -/
def calData (item : Nat) (vs : List Int) : List Byte :=
  (vs.map (fun v => if item = 6 then leBytes 8 (toBits v 64) else leBytes 4 (toBits v 32))).flatten

/-- Data bytes of an item. -/
def calLen (item home : Nat) : Nat := if item = 6 then 8 else 4 * calCount item home

/-- A calibration record (R394). -/
def State.calRecord (s : State) (home item source : Nat) (vs : List Int) : List Byte :=
  let data := calData item vs
  let head := leBytes 2 1 ++ leBytes 1 item ++ leBytes 1 source ++ leBytes 2 home ++ leBytes 2 data.length
    ++ leBytes 8 (s.uid (locDie home)) ++ leBytes 8 (s.pair home R.CAL_TIME_LO_TIME R.CAL_TIME_HI_TIME)
    ++ leBytes 2 (s.fld home R.CAL_STAT_COUNT) ++ leBytes 2 (s.fld home R.CAL_TEMP_TEMP) ++ leBytes 4 (fpId s.part)
    ++ leBytes 28 0
  head ++ leBytes 4 (crc32 (head ++ data)) ++ data

/-- CAL.READ. -/
def mCalRead : Meaning :=
  { bad := fun c s => lowest (itemBad c s false) (if c.opb % 64 = 0 then none else some 7)
    run := fun f loc s =>
      let item := f.cmd.item
      let fact := bit f.cmd.opa 4
      let rec_ := if fact then s.calRecord loc item 0 (s.calFactOf loc item)
        else s.calRecord loc item (s.fld loc R.CAL_STAT_SOURCE) (s.calSetOf loc item)
      match s.dmaWrite f.cmd.opb rec_ with
      | none => (s, some dmaFaultC)
      | some t => (t, some (okC rec_.length)) }

def execCalRead (n : Nat) (s : State) : Out := startRow s n (isOp 0xD1) mCalRead

/-- A calibration record in host memory; none where the access fails. -/
def State.calFetch (s : State) (a : Nat) : Option (List Byte) :=
  match s.dmaRead a 64 with
  | none => none
  | some h => (s.dmaRead (a + 64) (leAt h 6 2)).map (h ++ ·)

/-- Whether a record is refused for an instance (R396). -/
def State.calBad (s : State) (home item : Nat) (r : List Byte) : Bool :=
  leAt r 0 2 != 1 || leAt r 2 1 != item || leAt r 4 2 != home || leAt r 6 2 != calLen item home % 65536 ||
    leAt r 8 8 != s.uid (locDie home) || leAt r 0x3C 4 != crc32 (r.take 0x3C ++ r.drop 64)

/-- The values of a record. -/
def calValues (item home : Nat) (r : List Byte) : List Int :=
  if item = 6 then [sx (leAt r 64 8) 64]
  else (List.range (calCount item home)).map (fun i => sx (leAt r (64 + 4 * i) 4) 32)

/-- CAL.WRITE. -/
def mCalWrite : Meaning :=
  { bad := fun c s =>
      lowest (itemBad c s false) (match s.calFetch c.opb with
        | none => none
        | some r => if s.calBad c.loc c.item r then some 7 else none)
    run := fun f loc s =>
      let item := f.cmd.item
      match s.calWriteBar item loc, s.calFetch f.cmd.opb with
      | some c, _ => (s, some c)
      | none, none => (s, some dmaFaultC)
      | none, some r =>
        let old := s.calSetOf loc item
        let new := calValues item loc r
        (s.calPut loc item 2 new, some (okC (calChange old new))) }

def execCalWrite (n : Nat) (s : State) : Out := startRow s n (isOp 0xD2) mCalWrite

/-- Copies the factory set of an instance into its live set. -/
def State.calRestore (s : State) (home item : Nat) : State :=
  (if item = 6 then s.putPair locArb R.SR_FCW_NOM_LO_FCW R.SR_FCW_NOM_HI_FCW 0 else s).calLoad home item

/-- Every instance of the package: location, item. -/
def State.calAll (s : State) : List (Nat × Nat) :=
  ((sDies s.part).map (fun d => (List.range 17).map (fun u => (unitLoc d u 16, 1)))).flatten ++
    (List.range 8).map (fun n => (hubLoc (12 + n), 2)) ++ (List.range 8).map (fun n => (hubLoc (20 + n), 3)) ++
    [(detLoc 4, 4), (detLoc 5, 4)] ++ (List.range 4).map (fun k => (hubLoc (8 + k), 5)) ++ [(locArb, 6)]

/-- CAL.FACTORY of one instance, and of all with ITEM 0xF. -/
def mCalFactory : Meaning :=
  { bad := fun c s =>
      if c.item = 15 then if c.loc = locIss then none else some 3 else itemBad c s false
    run := fun f loc s =>
      let item := f.cmd.item
      if item = 15 then
        let ok (x : Nat × Nat) : Bool := (s.hsRefuse x.1 false).isNone && (s.calWriteBar x.2 x.1).isNone
        let go := s.calAll.filter ok
        (go.foldl (fun s x => s.calRestore x.1 x.2) s,
          some { status := stOk, result := go.length, detail := min (s.calAll.length - go.length) 0xFF })
      else
        match s.calWriteBar item loc with
        | some c => (s, some c)
        | none =>
          let t := s.calRestore loc item
          (t, some (okC (calChange (s.calSetOf loc item) (t.calSetOf loc item)))) }

/-- A CAL.FACTORY of one instance, or with an ITEM that names none. -/
def execCalFactory (n : Nat) (s : State) : Out :=
  startRow s n (fun c => c.opcode == 0xD3 && c.item != 15) mCalFactory
def execCalFactoryAll (n : Nat) (s : State) : Out :=
  startRow s n (fun c => c.opcode == 0xD3 && c.item == 15) mCalFactory

/-! ### DIAG.TALLY (R42, R313) -/

/-- Cell references of a die's descriptors: queued, in transmission, bound for other dies (waiting, held in a drain gap,
or in a replay buffer), arriving (R40, R278, R283, R294). -/
def State.descRefs (s : State) (d : Nat) : Nat :=
  let x := s.die d
  let size (fid : Nat) : Nat := ((x.cells.find? (fun g => g.fid == fid)).map CellGrp.cells).getD 0
  let ports := ((s.diePorts d).map (fun p =>
    let y := s.port d p
    y.queue.map QEnt.fid ++ y.hostQ.map HostFrame.fid ++ (y.sending.toList).map QEnt.fid)).flatten
  let far := x.waits.map Remote.fid ++ (x.gaps.map (fun g => g.2.held.map Remote.fid)).flatten
  let flits := ((sDies s.part).map (fun a => ((s.die a).brg.map (fun b =>
    (b.2.replay.filter (fun w => w.src == d && w.left == 0)).map Flit.fid)).flatten)).flatten
  let here := x.arrive.filter (fun a => !ports.contains a.lfid)
  ((ports ++ far ++ flits).map size).sum +
    (here.map (fun a => ((x.cells.find? (fun g => g.fid == a.lfid)).map (fun g => g.cells * g.refs)).getD 0)).sum

/-- The sum of a die's refcounts over its cells (R40, R294). -/
def State.cellRefs (s : State) (d : Nat) : Nat := ((s.die d).cells.map (fun g => g.refs * g.cells)).sum

/-- Credits granted, and those available, in flight or held, over a die's credited links (R40): a receiver's count. -/
def State.creditSums (s : State) (d : Nat) : Nat × Nat :=
  (s.diePorts d).foldl (fun a p => (s.credited d p).foldl (fun a c =>
    let x := s.credit d p c
    let open_ := (d20 x.limOut x.recv).toNat
    (a.1 + open_ + x.held, a.2 + open_ + x.held)) a) (0, 0)

/-- The 64-byte block of an S-die. -/
def State.tallyDie (s : State) (d : Nat) : List Byte :=
  if dieOn s.part d then
    let (g, h) := s.creditSums d
    leBytes 4 (s.cellsFree d) ++ leBytes 4 (s.cellsUsed d) ++ leBytes 4 (s.quar d) ++ leBytes 4 dieCells
      ++ leBytes 8 (s.descRefs d) ++ leBytes 8 (s.cellRefs d) ++ leBytes 8 g ++ leBytes 8 h ++ leBytes 8 (tx64 (s.nowU d))
      ++ leBytes 4 1 ++ leBytes 4 0
  else leBytes 64 0

/-- Free and held slots of a die. -/
def State.tallySlots (s : State) (d : Nat) : List Byte :=
  if dieOn s.part d then
    let free := (s.freeTags d).length
    leBytes 2 free ++ leBytes 2 ((dieTags d).length - free)
  else leBytes 4 0

/-- The record of DIAG.TALLY. -/
def State.tally (s : State) : List Byte :=
  ((List.range 4).map s.tallyDie).flatten ++ leBytes 4 (s.led R.POW_TOKENS_FREE) ++ leBytes 4 (s.led R.POW_TOKENS_GRANTED)
    ++ leBytes 4 (s.led R.POW_RESV_RESERVED) ++ leBytes 4 (s.led R.POW_POOL_POOL) ++ leBytes 8 s.txNow
    ++ leBytes 8 0 ++ ((List.range 7).map s.tallySlots).flatten ++ leBytes 196 0

/-- The bit for each die snapshotted: S0 to S3, TA, TB, H. -/
def dieMask (p : Part) : Nat := ((List.range 7).map (fun d => b2n (dieOn p d) * 2 ^ d)).sum

/-- DIAG.TALLY. -/
def mDiagTally : Meaning :=
  { bad := fun c _ => if c.opb % 64 = 0 then none else some 7
    run := fun f _ s =>
      match s.dmaWrite f.cmd.opb s.tally with
      | none => (s, some dmaFaultC)
      | some t => (t, some (okC (dieMask s.part))) }

def execDiagTally (n : Nat) (s : State) : Out := startRow s n (isOp 0xE0) mDiagTally

/-! ### DIAG.LOOP (R253) -/

/-- DIAG.LOOP: the port must be UP in a near loop. -/
def mDiagLoop : Meaning :=
  { bad := fun c _ => rangeBad (c.opa == 0 || decide (c.opb % 2 ^ 14 < 64) || decide (9216 < c.opb % 2 ^ 14))
    run := fun f loc s =>
      let (d, p) := locPort loc
      let depth := s.pfld d p R.PORT_STAT_LOOP
      if s.absent loc then (s, some noTarget)
      else if s.pstate d p = psUp ∧ 1 ≤ depth ∧ depth ≤ 3 then s.goesOn f.num 0
      else (s, some (conflictC (s.pstate d p))) }

def execDiagLoop (n : Nat) (s : State) : Out := startRow s n (isOp 0xE1) mDiagLoop

/-- 1 ms after the last test frame left: the residuals recorded under PCS_NEAR and SERIAL_NEAR, the frames lost or
errored reported. -/
def execDiagLoopDone (n bad : Nat) (resid : List Int) (s : State) : Out :=
  match s.going n (isOp 0xE1) with
  | none => .next s
  | some (f, _) =>
    let (d, p) := locPort f.cmd.loc
    let depth := s.pfld d p R.PORT_STAT_LOOP
    let s := if (depth = 2 ∨ depth = 3) ∧ resid ≠ [] then
        let lo := resid.foldl min (resid.headD 0)
        let hi := resid.foldl max (resid.headD 0)
        ((s.pput d p R.DIAG_LOOP_MIN_MIN (satBits lo 32)).pput d p R.DIAG_LOOP_MAX_MAX (satBits hi 32)).pput d p
          R.DIAG_LOOP_MEAN_MEAN (satBits (meanOf resid) 32)
      else s
    .next (s.complete n (okC (min bad (f.cmd.opa % 65536))))

end Sys2Proof.Machine
end

