-- ==== Sys2Proof/Machine/Operands.lean ====
section
/-! DEFINITION. Command entries and the issuer's precheck (R8, R18, R52, R53, R59, R398 to R400): which operand bits, which
locations and which time descriptors each instruction accepts. -/

namespace Sys2Proof.Machine

/-! ### Entries (R52, R53) -/

/-- A command entry from its 128 bits (R52). -/
def decodeCmd (w : Nat) : Cmd :=
  { opcode := bits w 120 8, timed := bit w 119, late := bits w 117 2, bg := bit w 116, always := bit w 115,
    rsvd := bits w 112 3, loc := bits w 96 16, cookie := bits w 80 16, opa := bits w 64 16, opb := bits w 0 64 }

/-- A time descriptor from its 128 bits (R53). -/
def decodeTd (w : Nat) : TimeDesc := { time := bits w 64 64, period := bits w 16 48, rep := bits w 0 16 }

/-! ### Assigned operand bits (R8) -/

/-- The mask of `n` bits from bit `lo`. -/
def mk (lo n : Nat) : Nat := (2 ^ n - 1) * 2 ^ lo

/-- All 64 bits. -/
def mAll : Nat := mk 0 64

/-- The bits of OPA that an instruction assigns. -/
def opaMask (c : Cmd) : Nat :=
  match c.opcode with
  | 0x01 | 0x02 | 0x03 | 0x04 | 0x05 | 0x06 => mk 0 9
  | 0x09 => mk 0 4
  | 0x10 | 0x11 | 0x12 => mk 0 16
  | 0x20 | 0x21 | 0x22 => mk 0 5
  | 0x23 => mk 0 5 + mk 8 8
  | 0x24 => mk 0 10
  | 0x30 => if c.opa % 16 = 6 then mk 0 6 else mk 0 4
  | 0x33 => mk 0 3
  | 0x34 => mk 0 7
  | 0x35 => mk 0 4
  | 0x40 => mk 0 8
  | 0x41 => mk 0 1
  | 0x42 => mk 0 5
  | 0x50 => mk 0 9
  | 0x62 => mk 0 16
  | 0x64 => mk 0 2
  | 0x65 => mk 0 9 + mk 14 2
  | 0x66 => mk 0 5
  | 0x70 => mk 0 4
  | 0x71 => mk 0 2
  | 0x80 => mk 0 4
  | 0x81 | 0x84 => mk 0 3
  | 0x82 => mk 0 4
  | 0x90 => mk 0 3
  | 0xA1 => mk 0 1
  | 0xB0 => mk 0 1
  | 0xB2 => mk 0 2
  | 0xC0 => mk 0 9
  | 0xC1 => match c.opa % 4 with
    | 0 => mk 0 2 + mk 8 8
    | 2 => mk 0 4
    | _ => mk 0 2
  | 0xC2 => mk 0 11
  | 0xD0 | 0xD2 | 0xD3 => mk 0 4
  | 0xD1 => mk 0 5
  | 0xE1 => mk 0 16
  | _ => 0

/-- The bits of OPB that an instruction assigns. -/
def opbMask (c : Cmd) : Nat :=
  match c.opcode with
  | 0x06 => mk 0 48
  | 0x08 => mAll
  | 0x09 => mk 0 32
  | 0x10 => mAll
  | 0x11 => mk 0 8 + mk 32 32
  | 0x12 => mk 0 18 + mk 32 32
  | 0x20 | 0x21 | 0x22 | 0x23 => mAll
  | 0x30 => match c.opa % 16 with
    | 0 => mk 0 3
    | 1 => mk 0 1
    | 2 => mk 0 17
    | 3 => mk 0 46
    | 4 => mk 0 32
    | 5 => mk 0 50
    | _ => mAll
  | 0x34 => mk 0 3
  | 0x35 => mk 0 21 + mk 32 20
  | 0x40 => match bits c.opa 4 4 with
    | 0 => mk 0 1 + mk 16 16
    | 1 | 3 => mk 0 56
    | 2 => mk 0 7 + mk 8 20
    | 4 => mk 0 2 + mk 16 14
    | _ => mAll
  | 0x41 => if bit c.opa 0 then mAll else 0
  | 0x50 => mk 0 40
  | 0x60 => mk 0 48
  | 0x61 | 0x62 | 0x64 | 0x65 | 0x66 => mAll
  | 0x70 => match c.opa % 16 with
    | 2 | 3 => mk 0 48
    | 5 => mk 0 44
    | 1 | 4 | 15 => 0
    | _ => mAll
  | 0x71 => match c.opa % 4 with
    | 0 => mk 0 32
    | 1 => mAll
    | 2 => mk 0 44
    | _ => 0
  | 0x80 => mk 0 18
  | 0x91 => mk 0 48
  | 0xB2 => mk 0 30
  | 0xC0 => mk 0 32
  | 0xD1 | 0xD2 | 0xE0 => mAll
  | 0xE1 => mk 0 14
  | _ => 0

/-- Whether a reserved bit of the entry or of an operand holds a 1 (R8, R400). -/
def reservedSet (c : Cmd) : Bool :=
  c.rsvd != 0 || Nat.land c.opa (opaMask c) != c.opa || Nat.land c.opb (opbMask c) != c.opb

/-! ### Opcodes and the Timed column (R398, R399) -/

/-- Whether an opcode is assigned (R398). -/
def assigned (op : Nat) : Bool :=
  match op / 16 with
  | 0x0 => decide (op % 16 ≤ 6) || op % 16 == 8 || op % 16 == 9
  | 0x1 => decide (op % 16 ≤ 2)
  | 0x2 => decide (op % 16 ≤ 4)
  | 0x3 => decide (op % 16 ≤ 5)
  | 0x4 => decide (op % 16 ≤ 2)
  | 0x5 => op % 16 == 0
  | 0x6 => decide (op % 16 ≤ 6)
  | 0x7 => decide (op % 16 ≤ 1)
  | 0x8 => decide (op % 16 ≤ 4)
  | 0x9 => decide (op % 16 ≤ 1)
  | 0xA => decide (op % 16 ≤ 2)
  | 0xB => decide (op % 16 ≤ 2)
  | 0xC => decide (op % 16 ≤ 2)
  | 0xD => decide (op % 16 ≤ 3)
  | 0xE => decide (op % 16 ≤ 1)
  | _ => false

/-- The values of the Timed column (R399). -/
inductive Timed where
  | no | once | yes
  deriving DecidableEq, Repr

/-- The Timed column of an instruction (R409 to R424). -/
def timedCol (c : Cmd) : Timed :=
  if isBlocking c.opcode then .no
  else match c.opcode with
    | 0x64 | 0xA1 => .no
    | 0x70 => if c.opa % 16 = 1 then .once else .no
    | 0x00 | 0x10 | 0x11 | 0x12 | 0x22 | 0x23 | 0x35 | 0x42 | 0x65 | 0x66 | 0xB2 | 0xC0 | 0xD0 | 0xD1 | 0xE0 => .yes
    | _ => .once

/-! ### Locations (R18, R69, the LOC columns) -/

/-- A location whose REGION or CLUSTER breaks R18. -/
def r18Bad (loc : Nat) : Bool :=
  let u := locUnit loc
  if locDie loc < 4 ∨ locDie loc = 7 then
    if u < 16 then locClu loc != u / 4
    else (u == 16 || u == 28 || (decide (24 ≤ u) && decide (u ≤ 26))) && locClu loc != 0
  else locClu loc != 0

/-- Whether a unit number is assigned on its die (R17, R21). -/
def unitAssigned (loc : Nat) : Bool :=
  let u := locUnit loc
  if locDie loc < 4 ∨ locDie loc = 7 then
    decide (u ≤ 16) || u == 20 || u == 21 || u == 28 || (decide (24 ≤ u) && decide (u ≤ 26))
  else if locDie loc = 6 then decide (u ≤ 29)
  else decide (u ≤ 5)

/-- Whether the LOC of an instruction names a cluster, a region, a die or nothing, so that R18 does not apply (R18, R69). -/
def noUnitLoc (op : Nat) : Bool := op == 2 || op == 3 || op == 4 || op == 5 || op == 6 || op / 16 == 2

/-- The same place on S-die 0 for a broadcast, for the columns that name a place of an S-die. -/
def onS (loc : Nat) : Nat := if locDie loc = 7 then loc % 8192 else loc

/-- A main port, also by broadcast. -/
def isMainPort (loc : Nat) : Bool := isPortLoc (onS loc) && decide (locUnit loc < 16)

/-- Whether some item of R383 lies at a location; items 1 and 4 with them. -/
def anyCal (loc : Nat) (run : Bool) : Bool := [1, 2, 3, 4, 5, 6].any (fun i => calAt i (onS loc) run)

/-- Whether an instruction accepts a location: the LOC columns (R409 to R424). -/
def accepts (p : Part) (c : Cmd) : Bool :=
  let loc := c.loc
  let l := onS loc
  let sDie := decide (locDie l < 4)
  match c.opcode with
  | 0x01 => locSub loc == 0
  | 0x02 => decide (locDie loc < 4) && loc % 2048 == 0
  | 0x03 => decide (locDie loc < 4) && loc % 4096 == 0
  | 0x04 => loc % 8192 == 0
  | 0x05 | 0x06 => loc == 0
  | 0x20 | 0x21 | 0x22 | 0x23 | 0x24 => sDie && loc % 8192 == 0
  | 0x30 => match c.opa % 16 with
    | 0 => sDie && decide (locUnit l < 16) && locSub l == 16
    | 1 => isPortLoc l && locUnit l == 16
    | 4 => isMainPort loc
    | _ => isPortLoc l
  | 0x31 | 0x32 | 0x33 | 0x40 | 0x41 | 0x42 | 0x66 | 0xE1 => isPortLoc l
  | 0x34 => isLaneLoc l
  | 0x35 => isPortLoc l || isLaneLoc l
  | 0x50 => sDie && l % 8192 == 20 * 64 + 1
  | 0x60 | 0x61 | 0x62 | 0x63 | 0x80 | 0x81 | 0x82 | 0x83 | 0x84 | 0xA0 | 0xA1 | 0xA2 => loc == locArb
  | 0x64 => (List.range 8).any (fun n => loc == hubLoc (20 + n))
  | 0x65 => (List.range 8).any (fun n => loc == hubLoc (12 + n))
  | 0x70 | 0x71 => isMainPort loc
  | 0x90 | 0x91 => (List.range 4).any (fun k => loc == hubLoc (8 + k))
  | 0xB0 | 0xB1 => sDie && (locUnit l == 20 || locUnit l == 21) && locSub l == 0
  | 0xB2 => loc == locLed
  | 0xC0 => (kindSev (c.opa % 256)).isNone || originOk p (c.opa % 256) loc
  | 0xC1 | 0xC2 => loc == locCol
  | 0xD0 => anyCal loc true
  | 0xD1 | 0xD2 => anyCal loc false
  | 0xD3 => if c.item = 15 then loc == locIss else anyCal loc false
  | 0xE0 => loc == locIss
  | _ => true

/-- Whether the location of an entry is illegal or not accepted (R18, R69, R399); one that is legal but names an
unassigned unit has no target instead (log entry 36); a FENCE.UNIT's SUB must be 0 in any case (R69). -/
def locBad (p : Part) (c : Cmd) : Bool :=
  if noUnitLoc c.opcode then !accepts p c
  else r18Bad c.loc || (c.opcode == 0x01 && locSub c.loc != 0) ||
    (assigned c.opcode && unitAssigned c.loc && !accepts p c)

/-- Whether the target is fused off or its unit unassigned (R18, R59). -/
def locGone (p : Part) (c : Cmd) : Bool :=
  (locDie c.loc != 7 && !dieOn p (locDie c.loc)) || (!noUnitLoc c.opcode && !unitAssigned c.loc)

/-! ### The precheck (R59, R399, R400) -/

/-- Whether a time descriptor breaks R53 or its instruction's Timed column (R399). -/
def tdBad (c : Cmd) (td : TimeDesc) : Bool :=
  (if td.rep = 0 then td.period != 0 else decide (td.period < 65536000)) || (c.late == 2 && td.rep == 0) ||
    (decide (timedCol c = .once) && td.rep != 0)

/-- The lowest cause of BAD_OPERAND that the precheck finds (R400). -/
def entryBad (p : Part) (c : Cmd) (td : TimeDesc) : Option Nat :=
  if (assigned c.opcode && reservedSet c) || c.rsvd != 0 then some 1
  else if !assigned c.opcode then some 2
  else if locBad p c then some 3
  else if c.timed && tdBad c td then some 4
  else if c.timed && decide (timedCol c = .no) then some 5
  else if c.late = 3 then some 6
  else none

/-- What the issuer rejects before taking a slot (R59). -/
def State.precheck (s : State) (c : Cmd) (td : TimeDesc) : Option Compl :=
  match entryBad s.part c td with
  | some d => some (badC d)
  | none =>
    if locGone s.part c then some { status := stNoTarget }
    else if c.timed && decide (sdiff td.time s.txNow = -horizon) then some { status := stHorizon }
    else none

/-! ### The meanings by opcode (R398) -/

/-- The meaning of an assigned opcode. -/
def meaningOf (op : Nat) : Meaning :=
  match op with
  | 0x01 | 0x02 | 0x03 | 0x04 | 0x05 | 0x06 => mFence
  | 0x08 => mWaitTime
  | 0x09 => mWaitEvent
  | 0x10 => mCfgRead
  | 0x11 | 0x12 => mCfgWrite
  | 0x20 => mTblWrite
  | 0x21 => mTblDelete
  | 0x22 => mTblRead
  | 0x23 => mTblSearch
  | 0x24 => mTblCommit
  | 0x30 => mPortSet
  | 0x31 => mPortUp
  | 0x32 => mPortDown
  | 0x33 => mPortLoop
  | 0x34 => mPortPrbs
  | 0x35 => mPortInject
  | 0x40 => mQueSet
  | 0x41 => mGatelist
  | 0x42 => mQueFlush
  | 0x50 => mMirSet
  | 0x60 => mTimeSet
  | 0x61 => mTimeStep
  | 0x62 => mTimeSlew
  | 0x63 => mTimeAlign
  | 0x64 => mTimeArm
  | 0x65 => mTimeCapture
  | 0x66 => mTsqDrain
  | 0x70 => mLinkSound
  | 0x71 => mLinkAsym
  | 0x80 => mRefSet
  | 0x81 => mRefSelect
  | 0x82 => mRefForce
  | 0x83 => mRefRelease
  | 0x84 => mRefAcceptStep
  | 0x90 => mOutSet
  | 0x91 => mOutFreq
  | 0xA0 => mHstSwap
  | 0xA1 => mHstRevive
  | 0xA2 => mHstCheckpoint
  | 0xB0 => mPowWake
  | 0xB1 => mPowSleep
  | 0xB2 => mPowBudget
  | 0xC0 => mFltInject
  | 0xC1 => mFltClear
  | 0xC2 => mFltReact
  | 0xD0 => mCalRun
  | 0xD1 => mCalRead
  | 0xD2 => mCalWrite
  | 0xD3 => mCalFactory
  | 0xE0 => mDiagTally
  | 0xE1 => mDiagLoop
  | _ => mNop

end Sys2Proof.Machine
end

