-- ==== Sys2Proof/Machine/Issue.lean ====
section
/-! DEFINITION. The issuer, parking, and the writes to rings (R46 to R64, R72 to R78, R434, R435). -/

namespace Sys2Proof.Machine

/-! ### The issuer (R57 to R61) -/

/-- The entry of a command ring at an index: 16 bytes of host memory (R44, R48). -/
def State.fetchEntry (s : State) (r i : Nat) : Option Nat :=
  let x := s.ring r
  (s.dmaRead (x.base + 16 * (i % 2 ^ x.sizeLog2)) 16).map leNat

/-- The head entry waits: STALLED, and SLOT_STALL counts the episode (R60), up to its greatest value (DESIGN CHOICE, log
entry 68). -/
def State.stall (s : State) (r : Nat) : State :=
  let x := s.ring r
  s.setRing r { x with count1c := if x.stalled then x.count1c else satNat (x.count1c + 1) 32, stalled := true }

/-- HEAD advances past an instruction (R59, R62). -/
def State.takeHead (s : State) (r n : Nat) : State :=
  let x := s.ring r
  s.setRing r { x with head := (x.head + n) % x.span, stalled := false }

/-- A rejected instruction: its record, no slot, no side effect; it retires (R59, R62). Its TAG is open, as it took
none (log entry 37). -/
def State.reject (s : State) (r n : Nat) (c : Cmd) (k : Compl) : State :=
  let (v, s) := s.freeNat
  let s := s.pushEntry (s.cqOf r) 16 (recWord c.cookie k.status k.detail r (v % 512) 0 s.txNow)
  let s := s.takeHead r n
  let s := s.setRing r { s.ring r with retired := ((s.ring r).retired + 1) % 2 ^ 32 }
  s.haltOn r k.status

/-- Takes one free slot on each die; which of the free tags is open (R32, R56). -/
def State.takeSlots (s : State) (dies : List Nat) : List (Nat × Nat) × State :=
  dies.foldl (fun x d =>
    let free := x.2.freeTags d
    let t := free.getD (Config.tagPick x.2.freeCtr % max free.length 1) 0
    (x.1 ++ [(d, t)], { x.2 with freeCtr := x.2.freeCtr + 1 })) ([], s)

/-- An instruction is issued: slots taken, HEAD advanced, in its execution queue or the fence tracker (R57, R61, R62). -/
def State.issueCmd (s : State) (r n : Nat) (c : Cmd) (td : TimeDesc) : State :=
  let (tags, s) := s.takeSlots (slotDies s.part c)
  let f : Flight := { num := s.plyn.nextNum, ring := r, cmd := c, td := td, tags := tags,
                      tag0 := (tags.headD (0, 0)).2, phase := .issued, at_ := s.now }
  let s := { s with plyn := { s.plyn with flights := s.plyn.flights ++ [f], nextNum := f.num + 1 } }
  let s := s.takeHead r n
  if isBlocking c.opcode then s.setRing r { s.ring r with blocked := true } else s

/-- The issuer at one ring (R59 to R61); the flag says that it took an instruction. An entry that cannot be fetched is
left at the head (log entry 35). -/
def State.tryRing (s : State) (r : Nat) : State × Bool :=
  let x := s.ring r
  if !x.running || x.blocked || x.used == 0 then (s, false)
  else
    match s.fetchEntry r x.head with
    | none => (s, false)
    | some w =>
      let c := decodeCmd w
      let n := if c.timed then 2 else 1
      if x.used < n then (s, false)
      else
        match (if c.timed then s.fetchEntry r (x.head + 1) else some 0) with
        | none => (s, false)
        | some t =>
          let td := decodeTd t
          match s.precheck c td with
          | some k => if s.ringOpen (s.cqOf r) then (s.reject r n c k, true) else (s.stall r, false)
          | none =>
            if (slotDies s.part c).any (fun d => (s.freeTags d).isEmpty) then (s.stall r, false)
            else (s.issueCmd r n c td, true)

/-- The rings in the order of one clock: PRIO 1 round-robin, then PRIO 0 round-robin (R58). -/
def State.issueOrder (s : State) : List Nat :=
  let from_ (a : Nat) := (List.range 32).map (fun i => (a + i) % 32)
  (from_ s.plyn.rrHi).filter (fun r => (s.ring r).prio) ++ (from_ s.plyn.rrLo).filter (fun r => !(s.ring r).prio)

/-- The first ring of a list that gives an instruction; the next round starts behind it (R58). -/
def State.issueFrom (s : State) : List Nat → State
  | [] => s
  | r :: rs =>
    match s.tryRing r with
    | (t, false) => t.issueFrom rs
    | (t, true) =>
      let nxt := (r + 1) % 32
      { t with plyn := if (s.ring r).prio then { t.plyn with rrHi := nxt } else { t.plyn with rrLo := nxt } }

/-- Whether the issuer is at work: from host-ready, outside the reduced safe state (R325, R335). -/
def State.issuerOn (s : State) : Bool := s.hostReady && !s.faults.reduced

/-- One clock of the issuer (R61). -/
def execIssue (s : State) : Out := .next (if s.issuerOn then s.issueFrom s.issueOrder else s)

/-! ### Timed actions (R75 to R79) -/

/-- The location of a timed-action store (R75). -/
def storeLoc (die : Nat) : Nat := if die < 4 then mkLoc die 0 0 28 1 else mkLoc 6 0 0 1 1

/-- An issued timed instruction is parked once every store it needs has an entry (R62, R75, R77). -/
def execTimedPark (n : Nat) (s : State) : Out :=
  match s.flight n with
  | none => .next s
  | some f =>
    if f.phase ≠ .issued ∨ !f.cmd.timed ∨ !s.mayStart f then .next s
    else
      let full := (storeDies s.part f.cmd).filter (fun d => decide (storeSize d ≤ s.parkedIn d))
      if full ≠ [] then .next (full.foldl (fun s d => s.bump (storeLoc d) R.TAS_STAT_FULL_COUNT) s)
      else
        let now := tx64 (s.nowU f.cmd.timeDie)
        if sdiff f.td.time now = -horizon then .next (s.complete n { status := stHorizon })
        else
          match parkDecide now f.cmd.late f.td ((s.ring f.ring).grace * 1000 * 65536) 0 with
          | .park j due late => .next (s.park f j due late)
          | .expired => .next (s.complete n { status := stExpired })

/-- Time passes until a die's tailstock reaches a time in 2^-16 ns from TAI second 0 (R76). -/
def State.advanceDie (s : State) (die u : Nat) : State :=
  s.advance (ceilDiv (5 * u - (s.tail (dieTail die)).fu) fuTick)

/-- Whether another action parked at the location comes first: earlier, or as early and issued first (R66). -/
def State.parkedBefore (s : State) (f : Flight) (due : Nat) : Bool :=
  s.plyn.flights.any (fun g => g.num != f.num && sameLoc g.cmd.loc f.cmd.loc && (match g.phase with
    | .parked t => decide (sdiff t due < 0) || (t == due && decide (g.num < f.num))
    | _ => false))

/-- A parked action leaves its store to execute; its entry stays its own while its series goes on (R62, R75, R76). -/
def Flight.start (f : Flight) (tick : Nat) : Flight :=
  { f with phase := .exec 0, started := some tick, entry := f.td.rep != 0 && f.td.has (f.next tick) }

/-- A parked action starts at the first tick at or after its action time (R62, R66, R76). -/
def execTimedActionDue (n : Nat) (s : State) : Out :=
  match s.flight n with
  | none => .next s
  | some f =>
    match f.phase with
    | .parked due =>
      if s.parkedBefore f due then .next s
      else
        let d := f.cmd.timeDie
        let s := s.advanceDie d (fromTx64 (s.nowU d) due)
        let f := f.start (tx64 (s.nowU d))
        .next ((meaningOf f.cmd.opcode).exec f (s.setFlight f))
    | _ => .next s

/-- A completion that found no room writes its record now (R55, R62). -/
def execCompletionRecordWrite (n : Nat) (s : State) : Out :=
  match s.flight n with
  | none => .next s
  | some f =>
    match f.phase with
    | .record status detail result time =>
      if f.mute then .next (s.afterRec f status)
      else if s.ringOpen (s.cqOf f.ring) then .next ((s.putRec f status detail result time).afterRec f status)
      else .next s
    | _ => .next s

/-- A background instruction has waited 10 ms for tokens (R64, R403): what waits for it is withdrawn. -/
def execBackgroundBudgetTimeout (n : Nat) (s : State) : Out :=
  match s.flight n with
  | none => .next s
  | some f =>
    match f.phase with
    | .tokens t =>
      let s := s.advanceTo t
      let mine := s.ledger.reqs.filter (fun r => r.num == some n)
      let rs := (mine.map (fun r => s.refuse r (s.ahead r))).flatten
      .next ((s.dropReqs n).complete n (deniedC rs true))
    | _ => .next s

/-! ### Doorbells (R46, R435) -/

/-- Whether the host produces into a ring (R44). -/
def hostProduces (n : Nat) : Bool := decide (n < 32) || decide (96 ≤ n)

/-- The index that a ring's doorbell moves, and the room that the move may cover (R46). -/
def Ring.doorIdx (r : Ring) (n : Nat) : Nat := if hostProduces n then r.tail else r.head
def Ring.doorRoom (r : Ring) (n : Nat) : Nat := if hostProduces n then 2 ^ r.sizeLog2 - r.used else r.used

/-- Whether a doorbell value is legal (R46). -/
def Ring.doorOk (r : Ring) (n v : Nat) : Bool :=
  decide (v < r.span) && decide ((v + r.span - r.doorIdx n) % r.span ≤ r.doorRoom n)

/-- A doorbell write arms the ring's interrupt and tests it at once (R435). -/
def State.rearm (s : State) (n : Nat) : State :=
  if n < 32 then s
  else
    let r := s.ring n
    let s := s.setRing n { r with sinceArm := 0, armedAt := s.now, pendAt := if n < 96 then r.pendAt else [] }
    (s.fpPut (R.RING_INT_ARMED n) 1).ringTest n

/-- The faceplate serves the host: not in the reduced safe state, where only FP_ID, FP_BOOT and FP_STATUS answer (R428). -/
def State.fpServes (s : State) : Bool := !s.faults.reduced

/-- A doorbell write, after the entries that the host wrote to its memory (R46, R435); a consumer's doorbell lets the
pending entries it covers go. -/
def execDoorbellWrite (n value : Nat) (writes : List Host.Cell) (s : State) : Out :=
  let s := { s with env := { s.env with mem := writes.foldl (fun m c => memPut m c.1 c.2) s.env.mem } }
  if 128 ≤ n ∨ !s.fpServes then .next s
  else
    let r := s.ring n
    let s := if r.doorOk n value then
        if hostProduces n then s.setRing n { r with tail := value }
        else s.setRing n { r with head := value,
                                  pendAt := r.pendAt.drop ((value + r.span - r.head) % r.span) }
      else s.ringErr n
    .next (s.rearm n)

/-! ### RING[n].CTRL (R49, R50, R438) -/

/-- A ring's SIZE_LOG2, base and packet buffer allow EN (R50, R438). -/
def Ring.mayRun (r : Ring) (n : Nat) : Bool :=
  decide (6 ≤ r.sizeLog2) && decide (r.sizeLog2 ≤ 16) && r.base % 4096 == 0 &&
    (!(decide (64 ≤ n) && decide (n < 96)) || (decide (8 ≤ r.slotLog2) && decide (r.slotLog2 ≤ 14) && r.pktBase % 4096 == 0))

/-- Whether a CTRL write is ignored as a whole: a change of SIZE_LOG2, or of CQ on a command ring, while EN is 1 (R50). -/
def Ring.ctrlIgnored (r : Ring) (n v : Nat) : Bool :=
  r.en && (bits v 8 5 != r.sizeLog2 || (decide (n < 32) && bits v 16 5 != r.cq))

/-- The fields that a CTRL write stores (R49); GRACE above 1,000 stores 1,000. Enabling a ring opens a new reported part
for its fences (R71). -/
def Ring.ctrl (r : Ring) (v nextNum : Nat) : Ring :=
  { r with hoe := bit v 1, prio := bit v 4, sizeLog2 := bits v 8 5, group := bits v 13 3, cq := bits v 16 5,
           grace := min (bits v 22 10) 1000, en := bit v 0,
           fenceFrom := if bit v 0 && !r.en then nextNum else r.fenceFrom }

/-- Stores the fields of a CTRL write, EN among them where the ring may run (R49, R50). -/
def State.ringCtrl (s : State) (n v : Nat) : State :=
  let r := s.ring n
  let x := r.ctrl v s.plyn.nextNum
  if x.en && !r.en && !x.mayRun n then (s.setRing n { x with en := false, fenceFrom := r.fenceFrom }).ringErr n
  else s.setRing n x

/-- CTRL.RESUME on a halted command ring (R49, R72). -/
def State.ringResume (s : State) (n : Nat) : State :=
  if n < 32 then s.setRing n { s.ring n with halted := false } else s

/-- CTRL.RESUME is written (R72). -/
def execRingResume (n : Nat) (s : State) : Out := .next (if s.fpServes then s.ringResume n else s)

/-! ### Ring resets (R73, R74) -/

/-- What a command ring's reset ends: issued and not started, parked, or a fence or wait outstanding (R73). -/
def Flight.endsAtReset (f : Flight) : Bool :=
  (match f.phase with
    | .issued => true
    | .tokens _ => true
    | .parked _ => true
    | .exec _ => isBlocking f.cmd.opcode
    | _ => false)

/-- Whether every instruction of a ring has retired. -/
def State.ringDrained (s : State) (n : Nat) : Bool :=
  s.plyn.flights.all (fun f => f.ring != n || decide (f.phase = .retired))

/-- A command ring reset starts (R73). -/
def State.cmdReset (s : State) (n : Nat) : State :=
  let r := s.ring n
  let s := s.setRing n { r with resetBusy := true, head := r.tail, stalled := false }
  (s.plyn.flights.filter (fun f => f.ring == n && f.endsAtReset)).foldl State.abortFlight s

def execCommandRingReset (n : Nat) (s : State) : Out := .next (if n < 32 ∧ s.fpServes then s.cmdReset n else s)

/-- The last record of a ring reset has been written: HEAD and TAIL are 0, RESET_BUSY and HALTED clear (R73). -/
def State.ringResetDone (s : State) (n : Nat) : State :=
  if (s.ring n).resetBusy && s.ringDrained n then
    s.setRing n { s.ring n with head := 0, tail := 0, resetBusy := false, halted := false, blocked := false,
                                fenceFrom := s.plyn.nextNum }
  else s

def execRingResetDone (n : Nat) (s : State) : Out := .next (s.ringResetDone n)

/-- The records and entries of a ring are discarded (R74). -/
def State.emptyRing (s : State) (n : Nat) : State :=
  s.setRing n { s.ring n with head := 0, tail := 0, pendAt := [], sinceArm := 0 }

/-- A reset of completion ring 32 + c: ignored while an enabled command ring has CQ = c (R74). -/
def State.cqReset (s : State) (n : Nat) : State :=
  if (List.range 32).any (fun r => (s.ring r).en && s.cqOf r == n) then s.ringErr n else s.emptyRing n

def execCompletionRingReset (n : Nat) (s : State) : Out :=
  .next (if 32 ≤ n ∧ n < 64 ∧ s.fpServes then s.cqReset n else s)

/-- A reset of a packet ring (R74). Frame copies are written, and frames read into cells, within one command of the
model, so none is left between (log entry 38). -/
def execPacketRingReset (n : Nat) (s : State) : Out :=
  .next (if 64 ≤ n ∧ n < 128 ∧ s.fpServes then s.emptyRing n else s)

/-- The reset of any ring (R73, R74). -/
def State.ringReset (s : State) (n : Nat) : State :=
  if n < 32 then s.cmdReset n else if n < 64 then s.cqReset n else s.emptyRing n

/-- A write of RING[n].CTRL (R49, R50, R72 to R74, R438): ignored as a whole, or stored, its RESUME and RESET taken. -/
def execRingCtrlWrite (n value : Nat) (s : State) : Out :=
  if 128 ≤ n ∨ !s.fpServes then .next s
  else if (s.ring n).ctrlIgnored n value then .next (s.ringErr n)
  else
    let s := s.ringCtrl n value
    let s := if bit value 2 then s.ringResume n else s
    .next (if bit value 3 then s.ringReset n else s)

end Sys2Proof.Machine
end

