-- ==== Sys2Proof/Machine/Faceplate.lean ====
section
/-! DEFINITION. The faceplate (R425 to R443): what the host reads and writes over PCIe, interrupts, bus mastering, and
the test access port (R458). -/

namespace Sys2Proof.Machine

/-! ### Reading (R9, R48, R51, R426 to R430, R434, R438) -/

/-- FP_STATUS: each field follows its source (R429). -/
def State.fpStatus (s : State) : Nat :=
  let tb := s.flag locArb R.HST_STAT_ACTIVE_TB
  let hot := (List.range 8).any (fun i => s.flag locLed (R.POW_REG_OVER i)) ||
    (List.range 16).any (fun j => s.flag locLed (R.POW_CLU_OVER j))
  b2n s.hostReady + b2n s.safe * 2 ^ 1 + b2n (s.flag locCol R.FLT_STAT_FAULT_N_LOW) * 2 ^ 2 + b2n s.faults.reduced * 2 ^ 3
    + s.servoState % 8 * 2 ^ 4 + b2n (s.flag locArb R.REF_SEL_TRACEABLE) * 2 ^ 7 + b2n tb * 2 ^ 8
    + b2n (s.hs (!tb) == hsStandby) * 2 ^ 9 + b2n (s.flag locClk R.CLK_STAT_LREF_XB) * 2 ^ 10
    + b2n (s.flag locClk R.CLK_STAT_SYS_ON_FAST) * 2 ^ 11 + b2n hot * 2 ^ 12
    + s.arb R.REF_SEL_SELECTED % 8 * 2 ^ 16 + s.arb R.REF_SEL_NONE * 2 ^ 19

/-- FP_FLT_SUM: the kinds of each severity whose REAL flag is set (R429). -/
def State.fpFltSum (s : State) : Nat :=
  let n (sev : Nat) : Nat :=
    (kindTable.filter (fun x => x.2.1 == sev && s.flag locCol (R.FLT_PEND_REAL x.1))).length
  n 0 + n 1 * 2 ^ 8 + n 2 * 2 ^ 16 + n 3 * 2 ^ 24

/-- The collector registers that are mirrored (R430). -/
def mirrored (off : Nat) : Bool :=
  off == 0x104 || (decide (0x110 ≤ off) && decide (off ≤ 0x120)) || (decide (0x130 ≤ off) && decide (off ≤ 0x140)) ||
    off == 0x150

/-- RING[n].STAT (R51). -/
def Ring.stat (r : Ring) : Nat :=
  b2n r.running + b2n r.halted * 2 + b2n r.stalled * 4 + b2n r.resetBusy * 8 + b2n r.cfgErr * 16 + b2n r.evtOvf * 32
    + b2n r.blocked * 64 + r.haltStatus % 256 * 256

/-- RING[n].CTRL as it reads (R49). -/
def Ring.ctrlWord (r : Ring) : Nat :=
  b2n r.en + b2n r.hoe * 2 + b2n r.prio * 16 + r.sizeLog2 * 2 ^ 8 + r.group * 2 ^ 13 + r.cq * 2 ^ 16 + r.grace * 2 ^ 22

/-- A word of a ring's register block (R48). -/
def Ring.word (r : Ring) (o : Nat) : Nat :=
  match o with
  | 0x00 => r.base % 2 ^ 32
  | 0x04 => r.base / 2 ^ 32
  | 0x08 => r.ctrlWord
  | 0x0C => r.head
  | 0x10 => r.tail
  | 0x14 => r.stat
  | 0x18 => r.retired
  | 0x1C => r.count1c
  | _ => 0

/-- What an aligned 32-bit read of the faceplate returns, without its effect (R426 to R430). -/
def State.fpWord (s : State) (off : Nat) : Nat :=
  if s.faults.reduced && !(off == 0 || off == 4 || off == 0x20) then 0
  else if off = 0x20 then s.fpStatus
  else if off = 0x30 then s.fpFltSum
  else if mirrored off then (s.peek locCol (off - 0x100)).toNat
  else if off = 0x200 ∨ (0x400 ≤ off ∧ off < 0x480) then 0
  else if off < 0x600 then ((s.peek locFp off) &&& ~~~(maskOf ((fieldsAt locFp off).getD []) isWo)).toNat
  else if off < 0x800 then (s.ring ((off - 0x600) / 4)).errCnt
  else if 0x1000 ≤ off ∧ off < 0x2000 then (s.ring ((off - 0x1000) / 32)).word (off % 32)
  else if 0x3000 ≤ off ∧ off < 0x3200 then
    let r := s.ring (64 + (off - 0x3000) / 16)
    match off % 16 with
    | 0 => r.pktBase % 2 ^ 32
    | 4 => r.pktBase / 2 ^ 32
    | 8 => r.slotLog2
    | _ => 0
  else if 0x4000 ≤ off ∧ off < 0x8000 then (s.peek locCol (0x10000 + (off - 0x4000))).toNat
  else if 0x8000 ≤ off ∧ off < 0x9000 then bits (s.msixEntry ((off - 0x8000) / 16)) (off % 16 * 8) 32
  else if 0x9000 ≤ off ∧ off < 0x9020 then
    (List.range 32).foldl (fun a i => a + b2n (s.msixPend.contains ((off - 0x9000) * 8 + i)) * 2 ^ i) 0
  else 0

/-- The RC fields of a faceplate register are cleared by its read; those of a mirror are not (R9, R430). -/
def State.fpClear (s : State) (off : Nat) : State :=
  if s.faults.reduced then s
  else if mirrored off then s
  else if off < 0x600 then (s.readReg locFp off).2
  else if off < 0x800 then
    let n := (off - 0x600) / 4
    s.setRing n { s.ring n with errCnt := 0 }
  else if 0x1000 ≤ off ∧ off < 0x2000 ∧ off % 32 = 0x1C then
    let n := (off - 0x1000) / 32
    s.setRing n { s.ring n with count1c := 0 }
  else s


/-! ### Interrupt registers (R431, R436) -/

/-- FP_INT_STAT is W1C, FP_INT_EN is RW; an enabled bit that the write leaves at 1 sends a message (R431). -/
def State.fpIntWrite (s : State) (off value : Nat) : State :=
  let s :=
    if off = 0x24 then s.setReg locFp 0x24 (s.reg locFp 0x24 &&& ~~~(BitVec.ofNat 32 (value % 128)))
    else if off = 0x28 then s.fpPut R.FP_INT_EN_EN value
    else s
  if (off = 0x24 ∨ off = 0x28) ∧ Nat.land (s.reg locFp 0x24).toNat (s.fp R.FP_INT_EN_EN) ≠ 0 then
    s.msix (s.fp R.FP_INT_MAP_VECTOR)
  else s

def execFpIntWrite (off value : Nat) (s : State) : Out := .next (if s.fpServes then s.fpIntWrite off value else s)

/-- An MSI-X table entry takes a value; a vector that is no longer masked sends what is pending (R436). -/
def State.setMsix (s : State) (v x : Nat) : State :=
  let s := { s with msixTab := Tab.set s.msixTab v x }
  if !bit x 96 && s.msixPend.contains v then
    { s with msixPend := s.msixPend.filter (· != v) }.send (.msix v)
  else s

def execMsixUnmask (vec : Nat) (s : State) : Out :=
  .next (if vec < 256 ∧ s.fpServes then s.setMsix vec (s.msixEntry vec % 2 ^ 96) else s)

/-- One word of the MSI-X table; of the vector control word, the mask bit is stored (R436). -/
def State.msixWord (s : State) (off v : Nat) : State :=
  let i := (off - 0x8000) / 16
  let lo := off % 16 * 8
  let v := if lo = 96 then v % 2 else v % 2 ^ 32
  let e := s.msixEntry i
  s.setMsix i (e / 2 ^ (lo + 32) * 2 ^ (lo + 32) + v * 2 ^ lo + e % 2 ^ lo)

/-- TIME µs have passed since the later of the oldest pending entry and the last arming (R435). -/
def execRingIntTimer (n : Nat) (s : State) : Out :=
  if n < 32 ∨ 128 ≤ n then .next s
  else
    let t := s.fp (R.RING_INT_TIME n)
    if s.flag locFp (R.RING_INT_EN n) && s.flag locFp (R.RING_INT_ARMED n) && decide (1 ≤ s.ringPending n) && t != 0 then
      let r := s.ring n
      .next ((s.advanceTo (max (r.pendAt.headD 0) r.armedAt + usTicks t)).ringFire n)
    else .next s

/-! ### Writing (R50, R426, R432, R434, R438) -/

/-- A write to RING[n].BASE, or to a packet buffer register: ignored with CFG_ERR while EN is 1 (R50, R438). -/
def State.ringStore (s : State) (n : Nat) (f : Ring → Ring) : State :=
  if (s.ring n).en then s.ringErr n else s.setRing n (f (s.ring n))

/-- The low or the high word of a 64-bit value replaced. -/
def setLo (x v : Nat) : Nat := x / 2 ^ 32 * 2 ^ 32 + v % 2 ^ 32
def setHi (x v : Nat) : Nat := v % 2 ^ 32 * 2 ^ 32 + x % 2 ^ 32

/-- A register whose fields the register tables give: stored under its access codes (R9); COUNT 0 stores 1 (R434). -/
def State.fpStore (s : State) (off v : Nat) : State :=
  match fieldsAt locFp off with
  | none => s
  | some fs =>
    let w := newWord fs (s.reg locFp off) (BitVec.ofNat 32 v)
    let w := if 0x400 ≤ off ∧ fget w 16 8 = 0 then fset w 16 8 1 else w
    s.setReg locFp off w

/-- A 32-bit write of the faceplate; DOORBELL, RING CTRL and the interrupt registers act as their own commands do, and
the two boot registers that start something are written through theirs. -/
def State.fpWrite (s : State) (off v : Nat) : State :=
  if off = 0x18 ∨ off = 0x1C ∨ off = 0x200 ∨ (0x400 ≤ off ∧ off < 0x480) then s
  else if off = 0x24 ∨ off = 0x28 then s.fpIntWrite off v
  else if off < 0x600 then s.fpStore off v
  else if 0x1000 ≤ off ∧ off < 0x2000 then
    let n := (off - 0x1000) / 32
    match off % 32 with
    | 0x00 => s.ringStore n (fun r => { r with base := setLo r.base v })
    | 0x04 => s.ringStore n (fun r => { r with base := setHi r.base v })
    | 0x14 =>
      let r := s.ring n
      s.setRing n { r with cfgErr := r.cfgErr && !bit v 4, evtOvf := r.evtOvf && !bit v 5 }
    | _ => s
  else if 0x3000 ≤ off ∧ off < 0x3200 then
    let n := 64 + (off - 0x3000) / 16
    match off % 16 with
    | 0 => s.ringStore n (fun r => { r with pktBase := setLo r.pktBase v })
    | 4 => s.ringStore n (fun r => { r with pktBase := setHi r.pktBase v })
    | 8 => s.ringStore n (fun r => { r with slotLog2 := v % 16 })
    | _ => s
  else if 0x8000 ≤ off ∧ off < 0x9000 then s.msixWord off v
  else s

/-- A misaligned or badly sized access: a read returns all ones, a write is ignored, FP_ACC_ERR counts (R426). -/
def State.badAccess (s : State) (write : Bool) : State :=
  let s := s.bump locFp R.FP_ACC_ERR_COUNT
  if write then s else s.send (.fpRead 65536 0xFFFFFFFF)

/-- A 32-bit read of the faceplate: its value goes to the host (R9, R426). -/
def execRcRegisterRead (off : Nat) (s : State) : Out :=
  .next (if off % 4 ≠ 0 then if s.fpServes then s.badAccess false else s
    else (s.fpClear off).send (.fpRead off (s.fpWord off)))

def execFaceplateBadAccess (write : Bool) (s : State) : Out := .next (if s.fpServes then s.badAccess write else s)

/-- A write of the faceplate: 32 bits anywhere, 64 bits into the MSI-X table alone (R426). -/
def execFaceplateWrite (off value : Nat) (wide : Bool) (s : State) : Out :=
  if !s.fpServes then .next s
  else if wide then
    if off % 8 = 0 ∧ 0x8000 ≤ off ∧ off < 0x9000 then .next ((s.msixWord off value).msixWord (off + 4) (value / 2 ^ 32))
    else .next (s.badAccess true)
  else if off % 4 ≠ 0 then .next (s.badAccess true)
  else if 0x2000 ≤ off ∧ off < 0x2200 then execDoorbellWrite ((off - 0x2000) / 4) value [] s
  else if 0x1000 ≤ off ∧ off < 0x2000 ∧ off % 32 = 8 then execRingCtrlWrite ((off - 0x1000) / 32) value s
  else .next (s.fpWrite off value)

/-! ### The host port (R333, R437) -/

/-- The host enables bus mastering: DMA runs again (R333). -/
def execBusMasteringEnable (s : State) : Out := .next { s with env := { s.env with busMaster := true } }

/-- Whether a faceplate offset returns to its reset value at a host-port reset (R437). -/
def hostResetOff (off : Nat) : Bool :=
  off == 0x24 || off == 0x28 || off == 0x2C || (decide (0x200 ≤ off) && decide (off < 0x600))

/-- The interrupt, route and table registers return to reset (R437). -/
def State.fpHostReset (s : State) : State :=
  { s with regs := s.regs.filter (fun x => !(x.1 / 16777216 == locFp && hostResetOff (x.1 % 16777216))),
           msixTab := [], msixPend := [] }

/-- A host-port reset (R333, R437). No instruction of it writes a record any more. -/
def State.hostReset (s : State) : State :=
  let s := { s with env := { s.env with busMaster := false, bar2 := none } }
  let s := s.fpHostReset
  let s := { s with
    plyn := { s.plyn with flights := s.plyn.flights.map (fun f => { f with mute := true }) },
    rings := s.rings.map (fun x =>
      (x.1, { x.2 with en := false, errCnt := 0, pktBase := 0, slotLog2 := 0xB })) }
  let s := (List.range 32).foldl State.cmdReset s
  let s := s.plyn.flights.foldl (fun s f => match f.phase with
    | .record status _ _ _ => s.afterRec f status
    | _ => s) s
  let s := (List.range 96).foldl (fun s i => s.emptyRing (32 + i)) s
  let s := (List.range 32).foldl State.ringResetDone s
  s.fpHostReset

def execHostPortReset (s : State) : Out := .next s.hostReset

/-! ### The test access port (R458) -/

/-- The instructions of the port in the model's numbering: 0 IDCODE, 1 BYPASS, 2 SAMPLE/PRELOAD, 3 EXTEST, 4 HIGHZ,
5 EXTEST_PULSE, 6 EXTEST_TRAIN; any other code selects BYPASS, as IEEE 1149.1 has it (log entry 39). -/
def tapBypass : Nat := 1

/-- An instruction is loaded; while RST_N is high only BYPASS and IDCODE load as they are (R458). -/
def execTapInstructionLoad (ir : Nat) (s : State) : Out :=
  .next { s with tapIr := if ir ≤ 1 then ir else if 6 < ir ∨ s.boot.rstN then tapBypass else ir }

end Sys2Proof.Machine
end

