-- ==== Sys2Proof/Machine/Boot.lean ====
section
/-! DEFINITION. Power, resets and the boot (R318, R325, R331 to R342, R465). -/

namespace Sys2Proof.Machine

/-! ### What a reset leaves (R331, R332) -/

/-- A cold reset (R331): everything but what lies outside the part (host memory, fuses, factory sets, what has been sent)
and the model's own queue and counter. -/
def State.cold (s : State) : State :=
  { State.reset with
    pending := s.pending, freeCtr := s.freeCtr, part := s.part, sent := s.sent,
    env := { s.env with bulk := [], busMaster := false, bar2 := none },
    boot := { s.boot with pgood := false },
    cals := s.cals.map (fun x => (x.1, { factOk := x.2.factOk })) }

/-- The registers that a warm reset keeps (R332): the crystals' stable state, LREF_SEL, CLK_XFREQ_A and _B, the fault log
and both latches, the boot registers of the always-on domain. -/
def warmKeeps (loc off : Nat) : Bool :=
  (loc == locClk && (off == 0xC || off == 0x10)) ||
    (loc == locCol && ((decide (0x10 ≤ off) && decide (off ≤ 0x40)) || off == 0x50 || decide (0x10000 ≤ off)))

/-- A warm reset (R332). -/
def State.warm (s : State) : State :=
  let t := s.cold
  let t := { t with
    regs := s.regs.filter (fun x => warmKeeps (x.1 / 16777216) (x.1 % 16777216)),
    boot := s.boot, tapIr := s.tapIr,
    dies := (List.range 4).map (fun d => (d, { quarMap := (s.die d).quarMap })) }
  let t := t.clkPut R.CLK_CTRL_LREF_SEL (s.clkF R.CLK_CTRL_LREF_SEL)
  let t := t.clkPut R.CLK_STAT_XA_STABLE (s.clkF R.CLK_STAT_XA_STABLE)
  let t := t.clkPut R.CLK_STAT_XB_STABLE (s.clkF R.CLK_STAT_XB_STABLE)
  ((t.fpPut R.FP_BOOT_SRC (s.fp R.FP_BOOT_SRC)).fpPut R.FP_BOOT_RST_CAUSE (s.fp R.FP_BOOT_RST_CAUSE)).fpPut
    R.FP_BOOT_RST_VIA (s.fp R.FP_BOOT_RST_VIA)

/-! ### The boot (R334 to R341) -/

/-- A boot fails (R341): STATE 7, or 8 where BOOTSEL 0b10 goes on to the host; FAULT_N is driven low. -/
def State.bootFail (s : State) (code : Nat) (flash : Bool) : State :=
  let s := s.fpPut R.FP_BOOT_CODE code
  let wait := flash && s.boot.bootsel == 2 && decide (1 ≤ code) && decide (code ≤ 6)
  (s.bootState (if wait then 8 else 7)).faultNSync

/-- A section of an image: TYPE, OFFSET, LENGTH (R337). -/
structure Section where
  type : Nat
  off  : Nat
  len  : Nat
  deriving DecidableEq, Repr

/-- The sections that an image's table lists (R337). -/
def imageSections (b : List Byte) : List Section :=
  (List.range (leAt b 0x14 2)).map (fun i =>
    { type := leAt b (0x20 + 16 * i) 2, off := leAt b (0x24 + 16 * i) 4, len := leAt b (0x28 + 16 * i) 4 })

/-- Whether two sections share no byte. -/
def Section.apart (x y : Section) : Bool := decide (x.off + x.len ≤ y.off) || decide (y.off + y.len ≤ x.off)

/-- No two of a list share a byte. -/
def sectionsApart : List Section → Bool
  | [] => true
  | x :: xs => xs.all x.apart && sectionsApart xs

/-- Whether an image of `len` bytes passes the layout check: MAGIC, FORMAT, lengths, section table (R337, R339, R341). Reserved
bytes are not tested (DESIGN CHOICE, log entry 70). -/
def imageLayout (b : List Byte) (len : Nat) : Bool :=
  let total := leAt b 0x10 4
  let secs := imageSections b
  let n (t : Nat) : Nat := (secs.filter (fun x => x.type == t)).length
  leAt b 0 4 == 0x584C5641 && leAt b 4 2 == 1 && decide (1024 ≤ total) && decide (total ≤ 2097152) && total % 16 == 0 &&
    decide (total ≤ len) && decide (1 ≤ leAt b 0x14 2) && decide (leAt b 0x14 2 ≤ 16) &&
    secs.all (fun x => decide (0x200 ≤ x.off) && decide (x.off + x.len ≤ total - 96) && x.off % 16 == 0 &&
      decide (1 ≤ x.type) && decide (x.type ≤ 4)) &&
    sectionsApart secs && n 1 == 1 && n 2 == 1 && decide (n 3 ≤ 1) &&
    secs.all (fun x => x.type != 3 || (x.len % 16 == 0 && decide (x.len ≤ 65536)))

/-- The configuration records of an image, 128 bits each (R337, R339). -/
def imageRecords (b : List Byte) : List Nat :=
  match (imageSections b).find? (fun x => x.type == 3) with
  | none => []
  | some x => (List.range (x.len / 16)).map (fun i => leAt b (x.off + 16 * i) 16)

/-- What refuses an image `b`, of which `len` bytes were given, the lowest code first (R337, R338, R341). -/
def State.imageBad (s : State) (i : Image) (b : List Byte) (len : Nat) : Option Nat :=
  let slot := leAt b 6 1
  if !imageLayout b len then some 0x02
  else if leAt b 0xA 2 ≠ s.fp R.FP_ID_PART ∧ leAt b 0xA 2 ≠ 0xFFFF then some 0x03
  else if 0x11 < leAt b 0xC 1 then some 0x03
  else if (if slot = 0 then s.boot.keyHash0 else s.boot.keyHash1) ≠ i.keyHash ∨ bit s.boot.revoked slot ∨ 1 < slot then
    some 0x04
  else if !i.sigOk then some 0x05
  else if leAt b 8 2 < s.boot.svnMin then some 0x06
  else none

/-- The register write that a configuration record stands for (R339). -/
def State.recordCmd (s : State) (w : Nat) : Cmd :=
  let c : Cmd := { opcode := 0x11, loc := bits w 0 16, opa := bits w 16 16 }
  let off := bits w 16 24
  let old := (s.peek (s.firstLoc c) off).toNat
  let mask := bits w 96 32
  let v := Nat.lor (Nat.land old (2 ^ 32 - 1 - mask)) (Nat.land (bits w 64 32) mask)
  { c with opb := bits w 32 8 + v * 2 ^ 32 }

/-- One configuration record; none where it stops the boot (R339). -/
def State.applyRecord (s : State) (w : Nat) : Option State :=
  let c := s.recordCmd w
  if bits w 40 24 ≠ 0 ∨ locDie c.loc = 4 ∨ locDie c.loc = 5 ∨ (entryBad s.part c {}).isSome ∨ locGone s.part c then none
  else
    let f : Flight := { num := s.plyn.nextNum, ring := 0, cmd := c, td := {}, tags := [], tag0 := 0, phase := .issued }
    match mCfgWrite.eff f s with
    | (t, none) => some t
    | (t, some k) => if k.status = stOk then some t else none

/-- The records in order; the index of one that is refused (R339). -/
def State.applyRecords (s : State) (i : Nat) : List Nat → State × Option Nat
  | [] => (s, none)
  | w :: ws =>
    match s.applyRecord w with
    | none => (s, some i)
    | some t => t.applyRecords (i + 1) ws

/-- Whether the input that LREF_SEL names has its frequency set and is stable (R339, R341). -/
def State.lrefReady (s : State) : Bool :=
  let xb := s.flag locClk R.CLK_CTRL_LREF_SEL
  let f := s.clkF (if xb then R.CLK_XFREQ_B_HZ else R.CLK_XFREQ_A_HZ)
  decide (10000000 ≤ f) && decide (f ≤ 250000000) && s.inStable xb

/-- The LREF step (R334): LREF started, PLLs relocked to it, tailstocks at 0 in FREERUN, calibrations loaded. -/
def State.startLref (s : State) : State :=
  let s := s.clkPut R.CLK_STAT_LREF_XB (s.clkF R.CLK_CTRL_LREF_SEL)
  let s := (plls s.part).foldl (fun s p => s.clkPut (R.CLK_PLL_SRC_FAST p) 0) s
  let s := s.calAll.foldl (fun s x => s.calLoad x.1 x.2) s
  let s := s.setServo { s.servo with fcw := s.nomFcw }
  let s := { s with tails := (List.range 6).map (fun t => (t, { fcw := s.nomFcw })) }
  s.setClk { s.clk with lrefOn := true, lrefAt := s.now }

/-- A headstock's self-test at power-on (R177, R334): the first that passes, the preferred one first, is ACTIVE. -/
def State.bootHs (s : State) (tb : Bool) (code : Nat) : State :=
  let s := s.setHs tb hsSelftest
  if code ≠ 0 then (s.setHs tb hsFailed).raise locArb 0x23 code
  else
    let s := s.calSelf (hsDie tb)
    if s.activeHs.isSome then s.setHs tb hsStandby
    else
      let s := (s.setHs tb hsActive).arbPut R.HST_STAT_ACTIVE_TB (b2n tb)
      (s.giveEpoch tb).setDrive tb true

/-- Both headstocks (R334): with neither, HST_NONE; the link between two that run is up. -/
def State.startHst (s : State) (ta tb : Nat) : State :=
  let pref := s.flag locArb R.HST_CTRL_PREFER_TB
  let code (b : Bool) := if b then tb else ta
  let s := (s.bootHs pref (code pref)).bootHs (!pref) (code (!pref))
  if s.activeHs.isNone then s.raise locArb 0x22 0
  else if (s.hsIn hsStandby).isSome then s.arbPut R.HST_STAT_LINK_UP 1 else s

/-- From an image that has been read to host-ready (R334, R338, R339, R342). -/
def State.bootFrom (s : State) (b : List Byte) (len : Nat) (e : BootEnv) (flash : Bool) : State :=
  let s := (s.bootState 3).faultNSync
  match s.imageBad e.image b len with
  | some code => s.bootFail code flash
  | none =>
    let s := (s.fpPut R.FP_BOOT_KEY_SLOT (leAt b 6 1)).bootState 4
    match s.applyRecords 0 (imageRecords b) with
    | (s, some k) => (s.fpPut R.FP_BOOT_INFO_INFO k).bootFail 0x07 flash
    | (s, none) =>
      if !s.lrefReady then s.bootFail 0x08 flash
      else
        let s := (s.startLref.bootState 5).startHst e.taTest e.tbTest
        let s := (s.fpPut R.FP_BOOT_CODE 0).bootState 6
        ((s.fastRest).ccSync).faultNSync

/-- The cells that failed memory initialisation are quarantined; 4,096 on a die log BUF_QUAR_LIMIT (R312, R334). -/
def State.quarantine (s : State) (bad : List Nat) : State :=
  (sDies s.part).foldl (fun s d =>
    let mine := (bad.filter (fun c => c / dieCells == d)).map (· % dieCells)
    let x := s.die d
    let m := mine.foldl (fun m c => if m.contains c then m else c :: m) x.quarMap
    let s := s.setDie d { x with quarMap := m }
    if x.quarMap.length < 4096 ∧ 4096 ≤ m.length then s.raise (bufLoc d) 0x51 m.length else s) s

/-- The sequence of R334 from its FAST_OSC step on. -/
def State.powerUp (s : State) (e : BootEnv) (crystals : Bool) : State :=
  let s := s.bootState 1
  let s := s.setClk { s.clk with fastOn := true }
  let s := s.clkPut R.CLK_STAT_FAST_STABLE 1
  let s := (plls s.part).foldl (fun s p => (s.clkPut (R.CLK_PLL_LOCKED p) 1).clkPut (R.CLK_PLL_SRC_FAST p) 1) s
  let s := if crystals then
      (s.putB locClk R.CLK_STAT_XA_STABLE e.xaStable).putB locClk R.CLK_STAT_XB_STABLE e.xbStable else s
  let s := s.quarantine e.badCells
  if s.boot.bootsel % 2 = 1 then if e.memOk then (s.bootState 8).faultNSync else s.bootFail 0x09 false
  else
    let s := s.bootState 2
    if !e.image.found then s.bootFail 0x01 true
    else if !e.memOk then s.bootFail 0x09 true
    else s.bootFrom e.image.bytes e.image.bytes.length e true

/-- Straps are sampled (R318). -/
def State.straps (s : State) (e : BootEnv) : State :=
  ({ s with boot := { s.boot with bootsel := e.bootsel % 4, xaXtal := e.xaXtal, xbXtal := e.xbXtal } }).fpPut
    R.FP_BOOT_SRC (e.bootsel % 4)

/-! ### The commands -/

/-- PGOOD rises: the power-on sequence runs (R334). -/
def execPowerGoodRise (e : BootEnv) (s : State) : Out :=
  if s.boot.pgood then .next s
  else
    let t := s.cold
    .next (({ t with boot := { t.boot with pgood := true } }.straps e).powerUp e true)

/-- PGOOD low, or a loss of supply: cold reset (R331). -/
def execPowerGoodFall (s : State) : Out := .next s.cold

/-- The cause that a reset input records: 4 stays where it ends a reduced safe state (R325, R344). -/
def State.rstCause (s : State) (was : Bool) (cause : Nat) : State :=
  if was then (s.fpPut R.FP_BOOT_RST_CAUSE 4).fpPut R.FP_BOOT_RST_VIA cause
  else (s.fpPut R.FP_BOOT_RST_CAUSE cause).fpPut R.FP_BOOT_RST_VIA 0

/-- RST_N: cold reset, straps sampled at the release (R331). -/
def execRstN (e : BootEnv) (s : State) : Out :=
  if !s.boot.pgood then .next s
  else
    let was := s.faults.reduced
    let t := s.cold
    let t := ({ t with boot := { t.boot with pgood := true } }.straps e).rstCause was 1
    .next (t.powerUp e true)

/-- WRST_N: warm reset; the crystal wait is skipped (R331, R332). -/
def execWrstN (e : BootEnv) (s : State) : Out :=
  if !s.boot.pgood then .next s else .next ((s.warm.rstCause s.faults.reduced 2).powerUp e false)

/-- FP_RESET: a warm reset where the key 0x5752 comes with WARM (R331, R344). -/
def execFpReset (value : Nat) (e : BootEnv) (s : State) : Out :=
  if bit value 0 && bits value 16 16 == 0x5752 && s.boot.pgood && s.fpServes then
    .next ((s.warm.rstCause false 3).powerUp e false)
  else .next s

/-- FP_BOOT_GO in WAIT_HOST or FAILED: the image is read by DMA (R340, R341). An image address that is not aligned to
4 KiB cannot be read (DESIGN CHOICE, log entry 70). -/
def execFpBootGo (value : Nat) (e : BootEnv) (s : State) : Out :=
  let st := s.fp R.FP_BOOT_STATE
  if !bit value 0 ∨ (st ≠ 7 ∧ st ≠ 8) ∨ !s.fpServes then .next s
  else
    let a := s.fp R.FP_BOOT_ADDR_LO_ADDR + s.fp R.FP_BOOT_ADDR_HI_ADDR * 2 ^ 32
    match (if a % 4096 ≠ 0 then none else s.dmaRead a (max (s.fp R.FP_BOOT_LEN_LEN) 1)) with
    | none => .next (s.bootFail 0x0A false)
    | some b => .next (if e.memOk then s.bootFrom b (s.fp R.FP_BOOT_LEN_LEN) e false else s.bootFail 0x09 false)

/-- A rail of the hub falls: cold reset. VDD_TIME of one headstock alone: cause 5 of R180, or the end of a STANDBY or of a
self-test (R177, R200, R465). -/
def execSupplyDrop (rail : Rail) (s : State) : Out :=
  let lose (tb : Bool) : State :=
    let s := s.setHst (if tb then { s.hst with pgB := false } else { s.hst with pgA := false })
    let s := s.failRevive tb 0xFF01
    if s.hs tb = hsActive then s.declareFailed tb 5
    else if s.hs tb = hsStandby then s.failStandby tb
    else s
  match rail with
  | .hub => .next s.cold
  | .timeTA => .next (lose false)
  | .timeTB => .next (lose true)

end Sys2Proof.Machine
end

