-- ==== Sys2Proof/Machine/Clocks.lean ====
section
/-! DEFINITION. The clock sources and the system PLLs (R317 to R328). -/

namespace Sys2Proof.Machine

/-! ### Coasting and relocks (R324 to R327) -/

/-- A coasting PLL takes FAST_OSC as its reference and relocks (R325). -/
def State.toFast (s : State) (p : Nat) : State := (s.relock p true).clkPut R.CLK_STAT_SYS_ON_FAST 1

/-- A system PLL loses its reference or its lock and coasts; FAST_OSC recovers it, at once where it is stable (R324,
R325). -/
def State.coast (s : State) (p : Nat) : State :=
  if s.coasting p then s
  else
    let s := ((s.clkPut (R.CLK_PLL_LOCKED p) 0).clkPut (R.CLK_PLL_RELOCK_BUSY p) 0).clkPut (R.CLK_PLL_ON_FAST p) 0
    let s := (s.clkPut (R.CLK_PLL_COAST p) 1).bump locClk (R.CLK_PLL_COASTS p)
    let s := (s.setClk { s.clk with
      relockAt := Tab.del s.clk.relockAt p, relockTo := Tab.del s.clk.relockTo p }).fastStart
    if s.fastStable then s.toFast p
    else s.setClk { s.clk with tripAt := some (s.clk.tripAt.getD s.now) }

/-- A system PLL loses its lock (R324). -/
def execPllCoast (p : Nat) (s : State) : Out :=
  .next (if pllOn s.part p && s.boot.pgood && !s.faults.reduced &&
      (s.flag locClk (R.CLK_PLL_LOCKED p) || s.flag locClk (R.CLK_PLL_RELOCK_BUSY p)) then s.coast p else s)

/-- Every PLL whose reference is the failed one coasts (R324). -/
def State.coastAll (s : State) (fast : Bool) : State :=
  (plls s.part).foldl (fun s p => if s.onFast p = fast then s.coast p else s) s

/-- The relock has counted 4,096 cycles of its reference, not before they have passed since it began, and the logic is back on
the PLL (R326 to R328). How long the lock itself takes is open: the row comes at its end (log entry 5). -/
def execPllRelockDone (p : Nat) (s : State) : Out :=
  if !(s.flag locClk (R.CLK_PLL_RELOCK_BUSY p) && s.flag locClk (R.CLK_PLL_ON_FAST p)) then .next s
  else
    let fast := s.onFast p
    let s := match Tab.get? s.clk.relockAt p with
      | none => s
      | some t => s.advanceTo (t + s.relockTicks fast)
    let s := ((s.clkPut (R.CLK_PLL_LOCKED p) 1).clkPut (R.CLK_PLL_RELOCK_BUSY p) 0).clkPut (R.CLK_PLL_ON_FAST p) 0
    let s := s.putB locClk (R.CLK_PLL_SRC_FAST p) fast
    let s := if (plls s.part).any (fun q => s.flag locClk (R.CLK_PLL_SRC_FAST q)) then s
      else s.clkPut R.CLK_STAT_SYS_ON_FAST 0
    let num := Tab.get? s.clk.num p
    let c := s.clk
    let s := s.setClk { c with
      relockAt := Tab.del c.relockAt p, relockTo := Tab.del c.relockTo p, num := Tab.del c.num p }
    let s := match num with
      | none => s
      | some x => s.complete x.1 (okC x.2)
    .next s.fastRest

/-- A relock has not locked within 100 µs (R327): PLL_LOCK_FAIL, once for the relock, which goes on. -/
def execPllRelockTimeout (p : Nat) (s : State) : Out :=
  match Tab.get? s.clk.relockAt p with
  | none => .next s
  | some t =>
    if !s.flag locClk (R.CLK_PLL_RELOCK_BUSY p) then .next s
    else
      let s := s.advanceTo (t + usTicks 100)
      .next ((s.setClk { s.clk with relockAt := Tab.del s.clk.relockAt p }).raise locClk 0x04 p)

/-- LREF has been stable for 1 s with SYS_RETURN set (R326). -/
def execSysReturn (s : State) : Out :=
  if s.flag locClk R.CLK_CTRL_SYS_RETURN && s.lrefStable && s.clk.lrefOn && s.hostReady && (plls s.part).any (fun p =>
      s.flag locClk (R.CLK_PLL_SRC_FAST p) && !s.flag locClk (R.CLK_PLL_RELOCK_BUSY p)) then
    .next (s.advanceTo (s.clk.lrefAt + 625000000)).sysBack
  else .next s

/-! ### Sources (R319 to R322) -/

/-- FAST_OSC is stable: relocks that wait for it run, coasting PLLs take it as their reference (R325). -/
def State.fastUp (s : State) : State :=
  let s := (s.clkPut R.CLK_STAT_FAST_STABLE 1).setClk { s.clk with tripAt := none }
  (plls s.part).foldl (fun s p =>
    if s.coasting p then s.toFast p
    else if s.flag locClk (R.CLK_PLL_RELOCK_BUSY p) && !s.flag locClk (R.CLK_PLL_ON_FAST p) then s.relockRun p
    else s) s

/-- A source has completed its stable count (R319). -/
def execSourceStable (src : ClkSrc) (s : State) : Out :=
  if !s.boot.pgood then .next s
  else match src with
    | .xa => .next (s.clkPut R.CLK_STAT_XA_STABLE 1)
    | .xb => .next (if s.flag locClk R.CLK_CTRL_XB_EN then s.clkPut R.CLK_STAT_XB_STABLE 1 else s)
    | .fast => .next (if s.clk.fastOn && !s.fastStable then s.fastUp else s)

/-- LREF's input has failed: LREF moves to the other input where it may, and is lost where it may not (R321, R322). -/
def State.lrefFail (s : State) (xb : Bool) : State :=
  let s :=
    if s.flag locClk R.CLK_CTRL_LREF_AUTO && s.inStable (!xb) then s.lrefSwitch (!xb)
    else
      let s := s.clkPut R.CLK_STAT_LREF_LOST 1
      let s := { s with tails := (List.range 6).map (fun t => (t, { s.tail t with frozen := true })) }
      s.raise (hubLoc 5) 0x03 (b2n xb)
  s.coastAll false

/-- XA or XB has failed (R324). -/
def State.crystalFail (s : State) (xb : Bool) : State :=
  if !s.inStable xb then s
  else
    let s := s.clkPut (if xb then R.CLK_STAT_XB_STABLE else R.CLK_STAT_XA_STABLE) 0
    let s := s.clkPut (if xb then R.CLK_STAT_XB_FAIL else R.CLK_STAT_XA_FAIL) 1
    let s := s.bump locClk (if xb then R.CLK_EVT_XB_FAILS else R.CLK_EVT_XA_FAILS)
    let s := s.raise (hubLoc 5) 0x01 (b2n xb)
    if s.clk.lrefOn && s.flag locClk R.CLK_STAT_LREF_XB == xb && !s.flag locClk R.CLK_STAT_LREF_LOST then s.lrefFail xb
    else s

/-- A source that ran has failed (R324). -/
def execSourceFail (src : ClkSrc) (s : State) : Out :=
  match src with
  | .xa => .next (s.crystalFail false)
  | .xb => .next (s.crystalFail true)
  | .fast => .next (if s.fastStable then (s.clkPut R.CLK_STAT_FAST_STABLE 0).coastAll true else s)

/-- A tailstock has missed three LREF periods (R321). -/
def execTailstockLrefFreeze (t : Nat) (s : State) : Out :=
  .next (if t < 6 ∧ s.clk.lrefOn then s.setTail t { s.tail t with frozen := true } else s)

/-- The phase of the new input is absorbed, and CLK_XDIFF enters the next FCW (R321). -/
def execPhaseBuildOutDone (s : State) : Out :=
  if !s.clk.buildOut then .next s
  else
    let s := { s with tails := (List.range 6).map (fun t => (t, { s.tail t with frozen := false })) }
    .next (s.setClk { s.clk with buildOut := false, xdiffDue := true })

/-! ### The reduced safe state (R325) -/

/-- Safe state in its reduced form: every domain on a system PLL or a tailstock is held in reset, every output and trigger
is muted, FAULT_N is low, the reset cause is 4. -/
def State.reduce (s : State) : State :=
  let t := s.warm
  let t := (t.setReg locFp 4 (s.reg locFp 4)).fpPut R.FP_BOOT_RST_CAUSE 4
  let t := t.setFaults { t.faults with reduced := true }
  let t := (t.put locCol R.FLT_STAT_SAFE 1).bump locCol R.FLT_STAT_SAFE_ENTRIES
  (t.safeMutes true).faultNSync

/-- FAST_OSC is not stable 4,096 SLOW_OSC cycles, 2 ms at nominal, after the first trip (R325). -/
def execFastOscTimeout (s : State) : Out :=
  match s.clk.tripAt with
  | none => .next s
  | some t => if s.fastStable then .next s else .next (s.advanceTo (t + usTicks 2000)).reduce

end Sys2Proof.Machine
end

