-- ==== Sys2Proof/Machine/Parse.lean ====
section
/-! DEFINITION. The parser of a forwarding pipeline and the rewrites of a frame (R107, R108, R111, R260, R273, R417). The
layouts of the headers that R260 names are those of the standards it names (log entry 41). -/

namespace Sys2Proof.Machine

/-- What the parser finds in a frame (R260, R417). Addresses are numbers of their octets, first octet lowest (R415). -/
structure Hdr where
  dst   : Nat := 0
  src   : Nat := 0
  tags  : List Nat := []           -- VLAN TCIs, outer first
  rtag  : Option (Nat × Nat) := none   -- place, sequence number
  hsr   : Option (Nat × Nat) := none
  etype : Nat := 0                 -- after the tags
  body  : Nat := 14                -- first octet after the EtherType
  ipv   : Nat := 0                 -- 0, 4 or 6
  ipSrc : Nat := 0
  ipDst : Nat := 0
  proto : Nat := 0
  tos   : Nat := 0
  frag  : Bool := false
  l4    : Option (Nat × Nat) := none   -- ports
  tcp   : Nat := 0                 -- TCP flags
  udpAt : Option Nat := none
  ptpAt : Option Nat := none
  short : Bool := false            -- PARSE_SHORT
  deriving DecidableEq, Repr

/-- VLAN, HSR and redundancy tags, at most one more than the fuel says; `at_` is the place of an EtherType. -/
def parseTags : Nat → List Byte → Nat → Hdr → Hdr
  | 0, bs, at_, h => { h with etype := beAt bs at_ 2, body := at_ + 2 }
  | k + 1, bs, at_, h =>
    let et := beAt bs at_ 2
    if (et = 0x8100 ∧ h.tags.length < 2) ∨ (et = 0x88A8 ∧ h.tags = []) then
      parseTags k bs (at_ + 4) { h with tags := h.tags ++ [beAt bs (at_ + 2) 2] }
    else if et = 0x892F ∧ h.hsr.isNone then parseTags k bs (at_ + 6) { h with hsr := some (at_, beAt bs (at_ + 4) 2) }
    else if et = 0xF1C1 ∧ h.rtag.isNone then parseTags k bs (at_ + 6) { h with rtag := some (at_, beAt bs (at_ + 4) 2) }
    else { h with etype := et, body := at_ + 2 }

/-- The extension headers of IPv6: next header, its place, whether the packet is a fragment, whether a part of one is
left; none where there are more than the fuel says (R260). -/
def parseExt : Nat → List Byte → Nat → Nat → Bool → Bool → Option (Nat × Nat × Bool × Bool)
  | k, bs, nh, at_, frag, tail =>
    let isExt := nh == 0 || nh == 43 || nh == 44 || nh == 51 || nh == 60
    match k with
    | 0 => if isExt then none else some (nh, at_, frag, tail)
    | k + 1 =>
      if !isExt then some (nh, at_, frag, tail)
      else
        let nx := beAt bs at_ 1
        if nh = 44 then parseExt k bs nx (at_ + 8) true (tail || beAt bs (at_ + 2) 2 / 8 != 0)
        else
          let l := beAt bs (at_ + 1) 1
          parseExt k bs nx (at_ + if nh = 51 then (l + 2) * 4 else (l + 1) * 8) frag tail

/-- TCP, UDP and IEEE 1588 over UDP at a place (R260); `lim` is the end of what is parsed. -/
def parseL4 (bs : List Byte) (at_ lim : Nat) (h : Hdr) : Hdr :=
  let ports := (beAt bs at_ 2, beAt bs (at_ + 2) 2)
  if h.proto = 6 then
    if lim < at_ + 20 then { h with short := true }
    else { h with l4 := some ports, tcp := beAt bs (at_ + 13) 1 }
  else if h.proto = 17 then
    if lim < at_ + 8 then { h with short := true }
    else
      let h := { h with l4 := some ports, udpAt := some at_ }
      if ports.2 = 319 ∨ ports.2 = 320 then
        if lim < at_ + 42 then { h with short := true } else { h with ptpAt := some (at_ + 8) }
      else h
  else h

/-- What follows the tags. -/
def parseBody (bs : List Byte) (lim : Nat) (h : Hdr) : Hdr :=
  let b := h.body
  let bad : Hdr := { h with short := true }
  if lim < b ∨ h.etype < 0x600 then bad
  else if h.etype = 0x88F7 then if lim < b + 34 then bad else { h with ptpAt := some b }
  else if h.etype = 0x0800 then
    let ihl := 4 * (beAt bs b 1 % 16)
    if beAt bs b 1 / 16 ≠ 4 ∨ ihl < 20 ∨ lim < b + ihl then bad
    else
      let fr := beAt bs (b + 6) 2 % 16384
      let h := { h with ipv := 4, ipSrc := leAt bs (b + 12) 4, ipDst := leAt bs (b + 16) 4, proto := beAt bs (b + 9) 1,
                        tos := beAt bs (b + 1) 1, frag := fr != 0 }
      if fr % 8192 = 0 then parseL4 bs (b + ihl) lim h else h
  else if h.etype = 0x86DD then
    if beAt bs b 1 / 16 ≠ 6 ∨ lim < b + 40 then bad
    else
      match parseExt 2 bs (beAt bs (b + 6) 1) (b + 40) false false with
      | none => bad
      | some (nh, at_, frag, tail) =>
        if lim < at_ then bad
        else
          let h := { h with ipv := 6, ipSrc := leAt bs (b + 8) 16, ipDst := leAt bs (b + 24) 16, proto := nh,
                            tos := beAt bs b 2 / 16 % 256, frag := frag }
          if tail then h else parseL4 bs at_ lim h
  else h

/-- Parses a frame (R260): the headers lie in its first 256 bytes, ahead of its FCS. A frame that cannot be parsed
keeps its L2 fields only. -/
def parse (bs : List Byte) : Hdr :=
  let lim := min 256 (bs.length - 4)
  let h := parseBody bs lim (parseTags 4 bs 12 { dst := leAt bs 0 6, src := leAt bs 6 6 })
  if h.short then
    { h with ipv := 0, ipSrc := 0, ipDst := 0, proto := 0, tos := 0, frag := false, l4 := none, tcp := 0, udpAt := none,
             ptpAt := none }
  else h

/-! ### IEEE 1588 messages -/

/-- messageType of a message at a place. -/
def ptpType (bs : List Byte) (a : Nat) : Nat := beAt bs a 1 % 16
/-- domainNumber. -/
def ptpDomain (bs : List Byte) (a : Nat) : Nat := beAt bs (a + 4) 1
/-- twoStepFlag. -/
def ptpTwoStep (bs : List Byte) (a : Nat) : Bool := bit (beAt bs (a + 6) 1) 1
/-- correctionField in 2^-16 ns. -/
def ptpCorr (bs : List Byte) (a : Nat) : Int := sx (beAt bs (a + 8) 8) 64
/-- sourcePortIdentity. -/
def ptpSource (bs : List Byte) (a : Nat) : Nat := beAt bs (a + 20) 10
/-- sequenceId. -/
def ptpSeq (bs : List Byte) (a : Nat) : Nat := beAt bs (a + 30) 2
/-- The event messages of R107: Sync, Delay_Req, Pdelay_Req, Pdelay_Resp. -/
def ptpEvent (ty : Nat) : Bool := decide (ty < 4)

/-! ### Rewrites -/

/-- A frame with its FCS computed anew. -/
def withFcs (bs : List Byte) : List Byte :=
  let b := bs.take (bs.length - 4)
  b ++ leBytes 4 (crc32 b)

/-- Whether a frame's FCS is right. -/
def fcsOk (bs : List Byte) : Bool :=
  decide (4 < bs.length) && leAt bs (bs.length - 4) 4 == crc32 (bs.take (bs.length - 4))

/-- A frame whose FCS is corrupted (R309). -/
def spoilFcs (bs : List Byte) : List Byte :=
  bs.take (bs.length - 4) ++ (bs.drop (bs.length - 4)).map (fun b => b ^^^ 0xFF)

/-- The sum of the 16-bit words of a run of octets that stands at an even or an odd place. -/
def wordSum (bs : List Byte) (odd : Bool) : Nat :=
  bs.foldl (fun (a : Nat × Bool) b => (a.1 + b.toNat * (if a.2 then 1 else 256), !a.2)) (0, odd) |>.1

/-- One's complement of 16 bits with its carries folded in. -/
def fold16 (n : Nat) : Nat := let m := n % 65536 + n / 65536; let m := m % 65536 + m / 65536; m % 65536 + m / 65536

/-- Octets of an IEEE 1588 message replaced, the UDP checksum updated incrementally: over IPv4 where it is not 0, over
IPv6 always; the FCS is recomputed (R108, R111). -/
def ptpPatch (bs : List Byte) (h : Hdr) (at_ : Nat) (new : List Byte) : List Byte :=
  let old := sub bs at_ new.length
  let out := putAt bs at_ new
  match h.udpAt with
  | none => withFcs out
  | some u =>
    let ck := beAt bs (u + 6) 2
    if h.ipv = 4 ∧ ck = 0 then withFcs out
    else
      let odd := (at_ - u) % 2 == 1
      let d := fold16 (65535 - ck + wordSum new odd + (65535 * 16 - wordSum old odd % 65535))
      let ck' := 65535 - d
      withFcs (putAt out (u + 6) (beBytes 2 (if ck' = 0 then 65535 else ck')))

/-- Inserts octets. -/
def putIn (bs : List Byte) (at_ : Nat) (v : List Byte) : List Byte := bs.take at_ ++ v ++ bs.drop at_

end Sys2Proof.Machine
end

