-- ==== Sys2Proof/Machine/Sched.lean ====
section
/-! DEFINITION. Stamps of a port and what makes a class eligible to send (R84 to R92, R296, R303 to R307). -/

namespace Sys2Proof.Machine

/-! ### Stamps (R84 to R89) -/

/-- A stamp on the present tick of a die's tailstock in 2^-16 ns: of the timescale, or of M; compensation in fs. -/
def State.stampAt (s : State) (d code : Nat) (mono : Bool) (comp : Int) : Nat :=
  let t := s.tail d
  let base := if mono then t.m * fuTick else t.fu
  (roundDiv (((base + code * 128 : Nat) : Int) * 15625 + 5 * fsU comp) (5 * 15625)).toNat

/-- The compensation of a receive stamp in fs (R89). -/
def State.compRx (s : State) (d p : Nat) : Int :=
  -(sx (s.pfld d p R.DLY_RX_MEAS_SUM) 32 + sx (s.pfld d p R.DLY_RX_EXT_EXT) 32)
/-- The compensation of a transmit stamp in fs (R89). -/
def State.compTx (s : State) (d p : Nat) : Int :=
  sx (s.pfld d p R.DLY_TX_MEAS_SUM) 32 + sx (s.pfld d p R.DLY_TX_EXT_EXT) 32
/-- DLY_STAT.VALID (R91). -/
def State.dlyValid (s : State) (d p : Nat) : Bool := s.pflag d p R.DLY_STAT_VALID

/-- A transmit stamp of a port; its fine code is 0 (R87). -/
def State.stampTx (s : State) (d p : Nat) : Nat := s.stampAt d 0 false (s.compTx d p)

/-- A receive stamp of a port. -/
def State.stampRx (s : State) (d p code : Nat) : Nat := s.stampAt d code false (s.compRx d p)

/-- A frame that crosses the PCS of a port now (R25, R86, R106); its fine code is a free value (log entry 6). -/
def State.rxFrame (s : State) (d p : Nat) (bytes : List Byte) (inject : Bool) : Frame × State :=
  let (v, s) := s.freeNat
  let c := v % 4096
  ({ bytes := bytes, die := d, port := p, stamp := s.stampRx d p c, mono := s.stampAt d c true (s.compRx d p),
     stepGen := (s.tail d).stepGen, uncal := !s.dlyValid d p, inject := inject }, s)

/-! ### Queues and gates (R304, R307) -/

/-- The queue of a class on a port: by the flow hash where a class has several (R304). -/
def State.queueOf (s : State) (d p c hash : Nat) : Nat :=
  if 64 ≤ p then c / 2
  else let k := s.perClass d p; c * k + bits hash 16 2 % k

/-- Time from `u` until a list closes a class's gate, in 2^-16 ns; none where it stays open through a whole cycle. -/
def GateList.openFor (g : GateList) (u c : Nat) : Option Nat :=
  let n := g.entries.length
  let i := g.indexAt u
  let pos := (u - g.base) % (max g.cycle 1 * 65536)
  let offEnd (j : Nat) : Nat := if j + 1 = n then g.cycle * 65536 else ((g.entries.take (j + 1)).map Prod.snd).sum * 65536
  let at_ (k : Nat) : Nat := (i + k) % n
  let len (j : Nat) : Nat := offEnd j - (if j = 0 then 0 else ((g.entries.take j).map Prod.snd).sum * 65536)
  let run := (List.range n).takeWhile (fun k => bit ((g.entries.getD (at_ k) (0, 0)).1) c)
  if run.length = n then none
  else some ((run.map (fun k => if k = 0 then offEnd i - pos else len (at_ k))).sum)

/-- Whether a gate is open, and stays so for `need` from now on (R305, R307). -/
def State.gateFits (s : State) (d p c need : Nat) : Bool :=
  let x := s.port d p
  let u := s.nowU d
  let k := cfgClass p c
  let byList (l : Option GateList) (u need : Nat) : Bool := match l with
    | none => true
    | some g => g.entries == [] || (g.openFor u k).all (fun t => decide (need ≤ t) && decide (0 < t))
  match x.pend with
  | some g =>
    if g.start ≤ u then byList (some g) u need
    else if g.start < u + need then byList x.oper u (g.start - u) && byList (some g) g.start (u + need - g.start)
    else byList x.oper u need
  | none => byList x.oper u need

/-- The time that a frame takes at the port rate, in 2^-16 ns (R305). -/
def State.txTime (s : State) (d p len : Nat) : Nat := ceilDiv (8 * len * 1000 * 65536) (max (s.rate d p) 1)

/-! ### Pauses, credits, shapers (R296, R303, R305) -/

/-- Whether a class is paused by a received PFC frame (R303). -/
def State.paused (s : State) (d p c : Nat) : Bool :=
  match Tab.get? (s.port d p).pause (s.pfcPrio d p c) with
  | none => false
  | some t => decide (s.now < t)

/-- Whether the port holds credits for `n` cells of a class, which is credited where `ll` says that it is LOSSLESS (R296,
R298, R299). -/
def State.creditFits (s : State) (d p c n : Nat) (ll : Bool := (s.lossless d).contains c) : Bool :=
  !(s.creditOn d p && ll) ||
    ((s.credit d p c).init && decide (d20 ((s.credit d p c).sent + n) (s.credit d p c).limIn ≤ 0))

/-- Shaper tokens now, in 1/5000 byte; key 16 is the port's (R305). A shaper not used yet is full (log entry 42). -/
def State.tokens (s : State) (d p key : Nat) : Int :=
  let x := s.port d p
  let (rate, burst) := if key = 16 then (s.pfld d p R.QUE_PORT_SHAPER_RATE, s.pfld d p R.QUE_PORT_SHAPER_BURST)
    else (s.pfld d p (R.QUE_CLASS_CFG_RATE (cfgClass p key)), s.pfld d p (R.QUE_CLASS_CFG_BURST (cfgClass p key)))
  let full : Int := burst * 5000
  match Tab.get? x.shTok key with
  | none => full
  | some t => min full (t + rate * (s.now - x.shAt))

/-- Whether a shaper lets a frame start: off, or tokens at or above 0 (R305). -/
def State.shaperOk (s : State) (d p key : Nat) : Bool :=
  let rate := if key = 16 then s.pfld d p R.QUE_PORT_SHAPER_RATE else s.pfld d p (R.QUE_CLASS_CFG_RATE (cfgClass p key))
  rate == 0 || decide (0 ≤ s.tokens d p key)

/-- The shapers of a class and of the port pay for a frame (R305). -/
def State.shaperPay (s : State) (d p c len : Nat) : State :=
  let toks := (List.range 17).map (fun k =>
    (k, s.tokens d p k - if k = 16 ∨ cfgClass p k = cfgClass p c then (len * 5000 : Int) else 0))
  s.setPort d p { s.port d p with shTok := toks, shAt := s.now }

/-- Whether a class may send a frame of a length now, holding one; `ll` as for the credits (R271, R305). -/
def State.classOk (s : State) (d p c len : Nat) (ll : Bool := (s.lossless d).contains c) : Bool :=
  s.gateFits d p c (s.txTime d p len) && !s.paused d p c && s.creditFits d p c (cellsOf len) ll && s.shaperOk d p c

end Sys2Proof.Machine
end

