-- ==== Sys2Proof/Machine/Forward.lean ====
section
/-! DEFINITION. The stages P1 to P9 of a forwarding pipeline (R259 to R281, R416, R417, R440, R446). -/

namespace Sys2Proof.Machine

/-- The pipeline's location. -/
def pipeLoc (d clu : Nat) : Nat := cluLoc d clu 20 0

/-! ### Lookups (R262, R267, R269, R416) -/

/-- A read of a table entry, found or not, at its index: an uncorrectable error makes it a miss, is counted and logged with
the table ID and index (R269). The entry keeps the error until it is written again (DEDUCED, log entry 58). -/
def State.look (s : State) (d clu id idx : Nat) (hit : Option TEnt) : Option TEnt × State :=
  let key := (2 * id + s.liveBank d id, idx)
  let detail := idx + id * 2 ^ 24
  let r := s.checked 0x40 (· == pipeLoc d clu) detail detail
  if r.2 then
    let t := r.1.bump (pipeLoc d clu) R.FWD_CNT_TBL_ECC
    (none, t.updDie d (fun x => { x with tblBad := if x.tblBad.contains key then x.tblBad else key :: x.tblBad }))
  else if (s.die d).tblBad.contains key then
    (none, (r.1.fault { loc := pipeLoc d clu, kind := 0x40, inj := true, detail := detail }).bump (pipeLoc d clu)
      R.FWD_CNT_TBL_ECC)
  else (hit, r.1)

/-- The live entries of a table. -/
def State.liveTbl (s : State) (d id : Nat) : List TEnt := s.tbl d id (s.liveBank d id)

/-- Lookup in a table whose key is its index. -/
def State.lookIdx (s : State) (d clu id idx : Nat) : Option TEnt × State :=
  s.look d clu id idx ((s.liveTbl d id).find? (fun e => e.idx == idx))

/-- Lookup by key in the MAC table: VLAN and destination address (R416). -/
def State.lookMac (s : State) (d clu vid dst : Nat) : Option TEnt × State :=
  match (s.liveTbl d 0).find? (fun e => e.key == vid + dst * 65536) with
  | none => (none, s)
  | some e => s.look d clu 0 e.idx (some e)

/-- Octets of an address as a number with the first octet most significant. -/
def netOrder (n x : Nat) : Nat := beNat (leBytes n x)

/-- Whether a route covers an address of `n` octets. -/
def routeHit (n vrf addr : Nat) (e : TEnt) : Bool :=
  let len := byteAt e.key 1 1
  let sh := 2 ^ (8 * n - len)
  byteAt e.key 0 1 == vrf && netOrder n (byteAt e.key 2 n) / sh == netOrder n addr / sh

/-- The longest route that covers an address (R262). -/
def bestRoute (n vrf addr : Nat) (es : List TEnt) : Option TEnt :=
  (es.filter (routeHit n vrf addr)).foldl (fun m e => match m with
    | none => some e
    | some b => if byteAt b.key 1 1 < byteAt e.key 1 1 then some e else some b) none

/-- Lookup of a destination address (P4). -/
def State.lookRoute (s : State) (d clu vrf : Nat) (h : Hdr) : Option TEnt × State :=
  let (n, id) := if h.ipv = 4 then (4, 1) else (16, 2)
  match bestRoute n vrf h.ipDst (s.liveTbl d id) with
  | none => (none, s)
  | some e => s.look d clu id e.idx (some e)

/-- The classifier key of a frame (R417). -/
def clsKey (bs : List Byte) (h : Hdr) (d p vrf : Nat) : Nat :=
  let ip (x : Nat) : List Byte := if h.ipv = 4 then List.replicate 12 0 ++ leBytes 4 x else leBytes 16 x
  let (ps, pd) := h.l4.getD (0, 0)
  let (ty, dom) := match h.ptpAt with
    | none => (0, 0)
    | some a => (ptpType bs a, ptpDomain bs a)
  let flags := d % 4 + b2n (h.ipv == 6) * 4 + b2n h.frag * 8 + b2n h.short * 16 + b2n h.rtag.isSome * 32
    + b2n h.hsr.isSome * 64 + b2n (h.tags != []) * 128
  leNat (leBytes 6 h.dst ++ leBytes 6 h.src ++ leBytes 2 (h.tags.getD 0 0) ++ leBytes 2 (h.tags.getD 1 0)
    ++ leBytes 2 h.etype ++ ip h.ipSrc ++ ip h.ipDst ++ leBytes 1 h.proto ++ leBytes 1 h.tos ++ leBytes 2 ps
    ++ leBytes 2 pd ++ leBytes 1 ty ++ leBytes 1 dom ++ leBytes 1 p ++ leBytes 1 flags ++ leBytes 1 vrf
    ++ leBytes 1 h.tcp ++ leBytes 2 0)

/-- The classifier's hit of the lowest index (P5, R415). -/
def State.lookCls (s : State) (d clu key : Nat) : Option TEnt × State :=
  match (s.liveTbl d 3).find? (fun e => Nat.land (Nat.xor e.key key) e.mask == 0) with
  | none => (none, s)
  | some e => s.look d clu 3 e.idx (some e)

/-! ### The flow hash (R275; log entry 6) -/

/-- Puts a field among others by the rank that the order of the hash gives it. -/
def byRank (x : Nat × List Byte) : List (Nat × List Byte) → List (Nat × List Byte)
  | [] => [x]
  | y :: ys => if Config.hashRank x.1 < Config.hashRank y.1 then x :: y :: ys else y :: byRank x ys

/-- The octets of the flow hash: HASH_SEED and the fields that R275 names, each octet sequence as in the frame. In which
order they enter is open (log entry 6). -/
def hashBytes (seed : Nat) (fields : List (List Byte)) : List Byte :=
  let items := (List.range (fields.length + 1)).zip (leBytes 4 seed :: fields)
  (((items.foldr byRank []).map Prod.snd)).flatten

/-- The 32-bit flow hash: a CRC-32 over HASH_SEED and the fields of the frame (R186, R275). -/
def State.flowHash (s : State) (d : Nat) (h : Hdr) : Nat :=
  let fields : List (List Byte) := if h.ipv ≠ 0 then
      let n := if h.ipv = 4 then 4 else 16
      [leBytes n h.ipSrc, leBytes n h.ipDst, leBytes 1 h.proto] ++ (if h.frag then [] else match h.l4 with
        | none => []
        | some (a, b) => [beBytes 2 a, beBytes 2 b])
    else [leBytes 6 h.dst, leBytes 6 h.src, beBytes 2 (h.tags.headD 0 % 4096), beBytes 2 h.etype]
  crc32 (hashBytes (s.fld (clsLoc d) R.HASH_SEED_SEED) fields)

/-! ### What forwarding decides -/

/-- The decision on a frame. -/
structure Fate where
  dsts   : List (Nat × Nat) := []     -- target ports: die, port
  host   : Nat := 0                   -- 1 host target, 2 PTP trap (R440)
  vlan   : Nat := 0                   -- egress VLAN
  untag  : Nat := 0                   -- its UNTAGGED bitmap
  dmac   : Option Nat := none         -- destination address of a next hop
  cls    : Nat := 0
  stream : Nat × Nat × Nat := (0, 0, 0)  -- kind, PORT_A, PORT_B of the frame's stream
  seq    : Option Nat := none         -- sequence number given by PRP or HSR
  mirs   : List Nat := []             -- sessions that the classifier names
  goal   : Option (Nat × Nat) := none -- KIND and TARGET that P3 or P4 found
  within : Option Nat := none         -- bridged: the MEMBERS bitmap that its targets must lie in
  vrf    : Nat := 0                   -- VRF of the VLAN it enters in
  pin    : Nat := 0                   -- RESULT of its bucket's pinning entry (R276)
  deriving DecidableEq, Repr

/-- Whether forwarding drops the frame. -/
def Fate.dropped (x : Fate) : Bool := x.dsts == [] && x.host == 0

/-- A port bitmap as ports (R416). -/
def bitmapPorts (m : Nat) : List (Nat × Nat) := (bitList m 288).map (fun i => (i / 72, i % 72))

/-- A port reference (R416). -/
def portRef (r : Nat) : Nat × Nat := (bits r 7 2, bits r 0 7)

/-- Target ports of a port reference, an aggregation group or a multicast group; `none` for a host target (R262, R275,
R277, R440). -/
def State.targets (s : State) (d clu kind t hash : Nat) : Option (List (Nat × Nat)) × State :=
  match kind with
  | 0 => if t % 128 = 127 then (none, s) else (some [portRef t], s)
  | 1 =>
    let (e, s) := s.lookIdx d clu 8 t
    let mem := match e with
      | none => []
      | some e => (List.range (byteAt e.res 0 1)).map (fun j => portRef (byteAt e.res (2 + 2 * j) 2))
    let live := mem.filter (fun x => s.present x.1 x.2 && s.pstate x.1 x.2 == psUp)
    match live[hash / 2 ^ 24 * live.length / 256]? with
    | none => (some [], s.bump (pipeLoc d clu) R.FWD_CNT_LAG_EMPTY)
    | some x => (some [x], s)
  | _ =>
    let (e, s) := s.lookIdx d clu 7 t
    (some (match e with
      | none => []
      | some e => bitmapPorts (byteAt e.res 0 36)), s)

/-- Adds the targets to a decision. -/
def Fate.aim (x : Fate) (t : Option (List (Nat × Nat))) : Fate :=
  match t with
  | none => { x with host := 1 }
  | some l => { x with dsts := l }

/-- The router MAC that a VLAN entry names, where it is valid (R416, R446; log entry 40). -/
def State.routerMac (s : State) (d m : Nat) : Option Nat :=
  if 16 ≤ m ∨ !s.flag (clsLoc d) (R.ROUTER_MAC_HI_EN m) then none
  else some (s.fld (clsLoc d) (R.ROUTER_MAC_HI_MAC m) * 2 ^ 32 + s.fld (clsLoc d) (R.ROUTER_MAC_LO_MAC m))

/-- P4: a frame to a router MAC, by its route and next hop (R262). -/
def State.route4 (s : State) (d clu vrf : Nat) (h : Hdr) (x : Fate) : Fate × State :=
  let (e, s) := s.lookRoute d clu vrf h
  match e with
  | none => (x, s.bump (pipeLoc d clu) R.FWD_CNT_NO_ROUTE)
  | some e =>
    let nh := byteAt e.res 0 2
    if nh = 0xFFFF then (x, s)
    else
      let (n, s) := s.lookIdx d clu 6 nh
      match n with
      | none => (x, s)
      | some n =>
        if byteAt n.res 0 1 = 2 then (x, s)
        else
          let vl := bits (byteAt n.res 10 2) 0 12
          let (v, s) := s.lookIdx d clu 5 vl
          ({ x with goal := some (byteAt n.res 0 1, byteAt n.res 2 2), vlan := vl,
                    untag := (v.map (fun v => byteAt v.res 36 36)).getD 0, dmac := some (byteAt n.res 4 6) }, s)

/-- P3: bridging, by the destination address in the VLAN; a miss floods. The source address is looked up for a learn copy
where the VLAN asks for it; the spec gives no such copy a way out of the part (log entry 59). A bridged frame leaves by
members of the VLAN only (R262; log entry 40). -/
def State.bridge3 (s : State) (d clu vid : Nat) (h : Hdr) (ve : TEnt) (x : Fate) : Fate × State :=
  let (m, s) := s.lookMac d clu vid h.dst
  let (_, s) := if bit (byteAt ve.res 76 1) 0 then s.lookMac d clu vid h.src else (none, s)
  let (kind, t) := match m with
    | none => (2, byteAt ve.res 72 2)
    | some e => (byteAt e.res 0 1, byteAt e.res 2 2)
  ({ x with goal := if kind = 3 then none else some (kind, t), within := some (byteAt ve.res 0 36), vlan := vid,
            untag := byteAt ve.res 36 36 }, s)

/-- P2 to P4 of a frame (R259, R262): every frame passes them, one that the ingress filter drops too. A VLAN without an
entry has no members (log entry 40). -/
def State.forward (s : State) (d p : Nat) (h : Hdr) : Fate × State :=
  let clu := portClu p
  let v0 := h.tags.headD 0 % 4096
  let vid := if h.tags = [] ∨ v0 = 0 then (s.port d p).pvid else v0
  let (ve, s) := s.lookIdx d clu 5 vid
  match ve with
  | none => ({}, s)
  | some ve =>
    let x : Fate := { vrf := byteAt ve.res 74 1 }
    let (b, s) := s.bridge3 d clu vid h ve x
    let (r, s) := if h.ipv ≠ 0 ∧ (s.routerMac d (byteAt ve.res 75 1)) = some (netOrder 6 h.dst) then
        s.route4 d clu x.vrf h x else (b, s)
    if bit (byteAt ve.res 76 1) 1 && !bit (byteAt ve.res 0 36) (72 * d + p) then ({ r with goal := none }, s) else (r, s)

/-- P8: the target ports of the decision; a bridged frame never leaves by the port it entered; the path of its bucket is
latched (R262, R267, R275, R276). -/
def State.resolve (s : State) (d p hash : Nat) (x : Fate) : Fate × State :=
  let clu := portClu p
  let (x, s) := match x.goal with
    | none => (x, s)
    | some (kind, t) =>
      let (t, s) := s.targets d clu kind t hash
      (x.aim (match x.within with
        | none => t
        | some mem => t.map (fun (l : List (Nat × Nat)) => l.filter (fun q => bit mem (72 * q.1 + q.2) && q != (d, p)))), s)
  if x.dsts.all (fun q => q.1 == d) then (x, s)
  else
    let (e, s) := s.lookIdx d clu 9 (hash % 256)
    ({ x with pin := (e.map TEnt.res).getD 0 }, s)

/-- P6: the class of a frame, without a classifier action (R270). -/
def State.classOf (s : State) (d p : Nat) (bs : List Byte) (h : Hdr) : Nat :=
  let x := s.port d p
  if h.ptpAt.any (fun a => ptpEvent (ptpType bs a)) then x.ptpClass
  else if x.trustDscp && h.ipv != 0 then bits x.dscpMap (4 * (h.tos / 4)) 4
  else if h.tags = [] then 0
  else bits x.priMap (4 * (h.tags.headD 0 / 8192)) 4

/-! ### P7: FRER, PRP, HSR (R273, R274; log entry 43) -/

/-- A stream's state on a die. -/
def State.stream (s : State) (d st : Nat) : Stream := Tab.get {} (s.die d).streams st
def State.setStream (s : State) (d st : Nat) (x : Stream) : State :=
  s.setDie d { s.die d with streams := Tab.set (s.die d).streams st x }

/-- Vector recovery with a history of `len`: the new state, where the number is accepted (IEEE 802.1CB). -/
def Stream.recover (x : Stream) (len seq now : Nat) : Option Stream :=
  let delta := sx (toBits ((seq : Int) - x.high) 16) 16
  if x.fresh then some { x with fresh := false, high := seq, seen := [seq], last := now }
  else if (len : Int) ≤ delta ∨ delta ≤ -(len : Int) ∨ x.seen.contains seq then none
  else
    let high := if 0 < delta then seq else x.high
    let near (q : Nat) : Bool := decide (-(len : Int) < sx (toBits ((q : Int) - high) 16) 16)
    some { x with high := high, seen := (seq :: x.seen).filter near, last := now }

/-- Discards a frame as a duplicate, and counts it for its stream. -/
def State.dupCount (s : State) (d st : Nat) : State :=
  s.setStream d st { s.stream d st with dups := (s.stream d st).dups + 1 }

/-- The redundancy control trailer of a frame: sequence number and LAN, where it ends in one (IEC 62439-3). -/
def rctOf (bs : List Byte) : Option (Nat × Nat) :=
  let a := bs.length - 10
  if 28 ≤ bs.length ∧ beAt bs (a + 4) 2 = 0x88FB then some (beAt bs a 2, beAt bs (a + 2) 1 / 16) else none

/-- Duplicate discard by source address and sequence number (R274): none for a duplicate. -/
def State.dupTest (s : State) (d st src seq : Nat) : Option State :=
  let x := s.die d
  if x.dups.any (fun u => u.stream == st && u.src == src && u.seq == seq) then none
  else some (s.setDie d { x with dups := { stream := st, src := src, seq := seq, tick := s.now } :: x.dups })

/-- Gives a frame the stream's next sequence number. -/
def State.nextSeq (s : State) (d st : Nat) : Nat × State :=
  let x := s.stream d st
  (x.next, s.setStream d st { x with next := (x.next + 1) % 65536 })

/-- Whether a port reference names a port. -/
def isRef (r d p : Nat) : Bool := bits r 0 9 == 128 * d + p

/-- P7: the frame as stored and its decision; none where it is discarded. -/
def State.redundancy (s : State) (d p : Nat) (f : Frame) (h : Hdr) (st : Nat) (e : TEnt) (x : Fate) :
    Option (Frame × Fate) × State :=
  let kind := byteAt e.res 0 1
  let pa := byteAt e.res 4 2
  let pb := byteAt e.res 6 2
  let onPair := isRef pa d p || isRef pb d p
  let x := { x with stream := (kind, pa, pb) }
  match kind with
  | 1 =>
    if h.rtag.isSome then (some (f, x), s)
    else
      let (q, s) := s.nextSeq d st
      let tag := beBytes 2 0xF1C1 ++ beBytes 2 0 ++ beBytes 2 q
      (some ({ f with bytes := withFcs (putIn f.bytes (h.body - 2) tag) }, x), s)
  | 2 =>
    match h.rtag with
    | none => (some (f, x), s)
    | some (_, q) =>
      match (s.stream d st).recover (byteAt e.res 1 1) q s.now with
      | none => (none, s.dupCount d st)
      | some y => (some (f, x), s.setStream d st y)
  | 3 | 4 =>
    let tag := if kind = 3 then (rctOf f.bytes).map Prod.fst else h.hsr.map Prod.snd
    if onPair then
      match tag with
      | none => (some (f, x), s)
      | some q =>
        match s.dupTest d st h.src q with
        | none => (none, s.dupCount d st)
        | some s => (some (f, x), s)
    else
      let (q, s) := s.nextSeq d st
      let s := if kind = 4 then (s.dupTest d st h.src q).getD s else s
      (some (f, { x with seq := some q }), s)
  | _ => (some (f, x), s)

/-! ### The frame towards a target -/

/-- A rewrite: octets removed and octets put at a place. -/
structure Edit where
  at_ : Nat
  del : Nat
  ins : List Byte

/-- Puts an edit among others, the highest place first. -/
def Edit.into (e : Edit) : List Edit → List Edit
  | [] => [e]
  | x :: xs => if x.at_ < e.at_ then e :: x :: xs else x :: e.into xs

/-- Applies edits, the highest place first. -/
def applyEdits (bs : List Byte) (es : List Edit) : List Byte :=
  (es.foldr Edit.into []).foldl (fun b e => b.take e.at_ ++ e.ins ++ b.drop (e.at_ + e.del)) bs

/-- The bytes of a frame towards a target port: next hop, egress VLAN and its tag, R-TAG, RCT and HSR tag
(R262, R273). -/
def State.egressBytes (s : State) (x : Fate) (h : Hdr) (bs : List Byte) (td tp : Nat) : List Byte :=
  let (kind, pa, pb) := x.stream
  let inPair := isRef pa td tp || isRef pb td tp
  let vAt := match h.hsr with
    | some (12, _) => 18
    | _ => 12
  let tci := h.tags.headD 0
  let untagged := bit x.untag (72 * td + tp)
  let mac : List Edit := match x.dmac with
    | none => []
    | some m => [⟨0, 6, leBytes 6 m⟩]
  let vlan : List Edit :=
    if h.tags = [] then if untagged then [] else [⟨vAt, 0, beBytes 2 0x8100 ++ beBytes 2 x.vlan⟩]
    else if untagged then [⟨vAt, 4, []⟩]
    else if tci % 4096 = x.vlan then [] else [⟨vAt + 2, 2, beBytes 2 (tci / 4096 * 4096 + x.vlan)⟩]
  let cut (t : Option (Nat × Nat)) : List Edit := match t with
    | none => []
    | some (a, _) => [⟨a, 6, []⟩]
  let size := bs.length - 4 - (h.body - 2)
  let tags : List Edit :=
    match kind with
    | 2 => if (s.port td tp).frerKeep then [] else cut h.rtag
    | 3 =>
      if inPair then match x.seq with
        | none => []
        | some q => [⟨bs.length - 4, 0, beBytes 2 q ++ beBytes 2 ((if isRef pa td tp then 0xA000 else 0xB000)
            + (size + 4) % 4096) ++ beBytes 2 0x88FB⟩]
      else if (rctOf bs).isSome then [⟨bs.length - 10, 6, []⟩] else []
    | 4 =>
      if inPair then match x.seq with
        | none => []
        | some q => if h.hsr.isSome then []
            else [⟨h.body - 2, 0, beBytes 2 0x892F ++ beBytes 2 ((if isRef pa td tp then 0 else 0x1000)
              + (size + 4) % 4096) ++ beBytes 2 q⟩]
      else cut h.hsr
    | _ => []
  let es := mac ++ vlan ++ tags
  if es.isEmpty then bs else withFcs (applyEdits bs es)

end Sys2Proof.Machine
end

