-- ==== Sys2Proof/Machine/Admit.lean ====
section
/-! DEFINITION. Admission, the sending side of the bridges, copies to host rings, and the passage of a frame through its
pipeline (R25, R259, R278 to R281, R288 to R296, R302, R308, R439, R440). -/

namespace Sys2Proof.Machine

/-! ### Bridges, sending side (R276, R278, R282, R284, R293; log entry 44) -/

/-- The first hop of a path, where it is usable (R276, R284). -/
def State.pathHop (s : State) (d code far : Nat) : Option Nat :=
  if s.pathUp d far code then some ((relayDie d far code).getD far) else none

/-- Cells that a replay buffer of 256 KiB holds (R282). -/
def replayCells : Nat := 1024

/-- Whether a bridge takes `n` new flits: no failover halts them, and the replay buffer has room (R282, R283). -/
def State.takesFlits (s : State) (d hop n : Nat) : Bool :=
  !s.failFor d hop 500 && decide ((s.brg d hop).replay.length + n ≤ replayCells)

/-- Cells sent on a pair's path that the egress die has not acknowledged (R278). -/
def State.unacked' (s : State) (d bucket far : Nat) : Nat := Tab.get 0 (s.die d).pin (4 * bucket + far)
/-- Adds to that count. -/
def State.pinBy (s : State) (d bucket far : Nat) (n : Int) : State :=
  let v := ((s.unacked' d bucket far : Int) + n).toNat
  let x := s.die d
  s.setDie d { x with pin := if v = 0 then Tab.del x.pin (4 * bucket + far) else Tab.set x.pin (4 * bucket + far) v }

/-- Sends the cells of a frame, against bridge credits (R282, R293). -/
def State.sendRemote (s : State) (d : Nat) (r : Remote) : State :=
  match s.pathHop d r.code r.far with
  | none => s
  | some hop =>
    let b := s.brg d hop
    let flits := (List.range r.cells).map (fun j =>
      ({ seq := b.txSeq + j, src := d, fid := r.fid, ents := r.ents, far := r.far, bucket := r.bucket,
         left := r.cells - 1 - j } : Flit))
    let s := s.setBrg d hop { b with txSeq := b.txSeq + r.cells, replay := b.replay ++ flits }
    let c := s.brg d r.far
    (s.setBrg d r.far { c with credits := c.credits - r.cells }).pinBy d r.bucket r.far r.cells

/-! ### Admission tests (R292, R293) -/

/-- What admission sees of a target: its port, the free shared cells of its die, its queue's use. -/
structure Seen where
  up   : Bool
  hold : Bool
  idle : Bool
  free : Nat
  own  : Nat
  sh   : Nat
  deriving DecidableEq, Repr

/-- Cells charged to a queue's minimum and to the shared part (R289, R292). -/
def State.queueUse (s : State) (d p q : Nat) : Nat × Nat :=
  ((s.port d p).queue.filter (fun e => e.queue == q)).foldl (fun a e =>
    let hd := match (s.die d).cells.find? (fun g => g.fid == e.fid) with
      | none => 0
      | some g => g.head
    (a.1 + e.own, a.2 + (e.cells - hd - e.own))) (0, 0)

/-- Whether a port is UP with nothing queued or in transmission (R308). -/
def State.portIdle (s : State) (d p : Nat) : Bool :=
  let x := s.port d p
  s.pstate d p == psUp && x.queue.isEmpty && x.hostQ.isEmpty && x.sending.isNone

/-- A target on the frame's own die. -/
def State.seeLocal (s : State) (d p q : Nat) : Seen :=
  let u := s.queueUse d p q
  { up := s.present d p && s.pstate d p == psUp, hold := s.present d p && (s.port d p).holdEnd.isSome,
    idle := s.present d p && s.portIdle d p, free := s.sharedFree d, own := u.1, sh := u.2 }

/-- A target on another die, by the status that it last broadcast. -/
def Status.see (x : Status) (p q : Nat) : Seen :=
  let u := Tab.get (0, 0) x.use (64 * p + q)
  { up := x.up.contains p, hold := x.hold.contains p, idle := x.idle.contains p, free := x.free, own := u.1, sh := u.2 }

/-- What a frame sees of a target, on a path of a code; nothing of a die that the path does not reach, nor of a contained
one (R22, R284, R293). -/
def State.see (s : State) (d code td tp q : Nat) : Seen :=
  if td = d then s.seeLocal d tp q
  else if (s.pathHop d code td).isSome && !s.dieContained td then (Tab.get {} (s.die d).status td).see tp q
  else { up := false, hold := false, idle := false, free := 0, own := 0, sh := 0 }

/-- Tests 1 and 2 of R292: NO_CELL and DYN_LIMIT. -/
def State.roomTest (s : State) (v : Seen) (td tp c n : Nat) : Option Nat :=
  let spare := s.minCells td tp (cfgClass tp c) - v.own
  let alpha := s.pfld td tp (R.QUE_CLASS_CFG_ALPHA (cfgClass tp c))
  if spare + v.free < n then some 1
  else if 2 ^ alpha * v.free < 64 * (v.sh + (n - min spare n)) then some 2
  else none

/-- The first test of R292 that refuses a target; a lossless frame that its ingress accounts for is not refused by 1
or 2, and `noHead` says that its headroom is exhausted. -/
def State.admitTest (s : State) (v : Seen) (td tp c n : Nat) (lossless noHead : Bool) : Option Nat :=
  if !(v.up || v.hold) || (v.hold && s.timeBound td c) then some 0
  else match (if lossless then none else s.roomTest v td tp c n) with
    | some r => some r
    | none => if noHead then some 3 else none

/-! ### Frames that wait for a bridge (R278, R293) -/

/-- Whether a waiting frame may go: admitted by the egress status, with credits, on a usable path whose bridge takes it. -/
def State.remoteOk (s : State) (d : Nat) (r : Remote) : Bool :=
  (s.pathHop d r.code r.far).any (fun hop => s.takesFlits d hop r.cells) && decide (r.cells ≤ (s.brg d r.far).credits) &&
    (!r.admits || r.ents.all (fun e => (s.roomTest (s.see d r.code r.far e.1 e.2.queue) r.far e.1 e.2.cls r.cells).isNone))

/-- Sends what may go, each pair's frames in their order; what is bound for a contained die is discarded (R22). -/
def State.serveWaits (s : State) (d : Nat) : State :=
  let gone := (s.die d).waits.filter (fun r => s.dieContained r.far)
  let s := gone.foldl (fun s r => s.dropRemote d r)
    (s.updDie d (fun x => { x with waits := x.waits.filter (fun r => !gone.contains r) }))
  let r := (s.die d).waits.foldl (fun (a : State × List Remote) r =>
    if a.2.any (fun k => k.far == r.far && k.bucket == r.bucket) || !a.1.remoteOk d r then (a.1, a.2 ++ [r])
    else (a.1.sendRemote d r, a.2)) (s, [])
  r.1.setDie d { r.1.die d with waits := r.2 }

/-- A frame with targets on another die: held in its pair's drain gap, or sent as soon as it may go (R278, R293). -/
def State.remoteGo (s : State) (d : Nat) (r : Remote) : State :=
  let x := s.die d
  match Tab.get? x.gaps (4 * r.bucket + r.far) with
  | some g => s.setDie d { x with gaps := Tab.set x.gaps (4 * r.bucket + r.far) { g with held := g.held ++ [r] } }
  | none => (s.setDie d { x with waits := x.waits ++ [r] }).serveWaits d

/-! ### Copies to the host (R281, R439, R440) -/

/-- A packet-to-host entry (R439). -/
def pktEntry (f : Frame) (len cls reason session sample : Nat) (valid drop : Bool) : Nat :=
  let orig := f.bytes.length
  len + orig * 2 ^ 16 + b2n (decide (len < orig)) * 2 ^ 30 + f.port * 2 ^ 32 + f.die * 2 ^ 39 + cls * 2 ^ 41
    + f.stepGen * 2 ^ 45 + b2n valid * 2 ^ 49 + b2n f.uncal * 2 ^ 50 + b2n drop * 2 ^ 51 + session * 2 ^ 52
    + reason * 2 ^ 55 + sample * 2 ^ 64 + (if valid then fullTime f.stamp else 0) * 2 ^ 96

/-- Writes a frame to a packet-to-host ring: its data to the slot, then the entry; none where it is full or disabled, or
where host memory cannot be written (log entry 65). -/
def State.toHost (s : State) (n : Nat) (f : Frame) (lim cls reason session sample : Nat) (valid drop : Bool) :
    Option State :=
  let r := s.ring n
  let data := f.bytes.take (min lim (2 ^ r.slotLog2))
  let slot := r.pktBase + r.tail % 2 ^ r.sizeLog2 * 2 ^ r.slotLog2
  if !s.ringOpen n 32 || s.route slot data.length == .fails then none
  else
    let s := s.dmaPut slot data
    let s := s.pushEntry n 32 (pktEntry f data.length cls reason session sample valid drop)
    some (s.setRing n { s.ring n with retired := ((s.ring n).retired + 1) % 2 ^ 32 })

/-- Whether a session's selection takes a frame (R280). -/
def Mir.takes (m : Mir) (k p : Nat) (x : Fate) : Bool :=
  match m.sel with
  | 0 => true
  | 1 => m.port == p
  | 2 => m.cls == x.cls
  | _ => x.mirs.contains k

/-- P9: a mirror session counts a frame, and copies every Nth (R280, R281). -/
def State.mirror (s : State) (f : Frame) (x : Fate) (k : Nat) : State :=
  let d := f.die
  match Tab.get? (s.die d).mirs k with
  | none => s
  | some m =>
    if !m.takes k f.port x then s
    else
      let hit := m.count % max m.n 1 == 0
      let m' := { m with count := m.count + 1, sample := m.sample + b2n hit }
      let s := s.setDie d { s.die d with mirs := Tab.set (s.die d).mirs k m' }
      if !hit then s
      else
        let len := min f.bytes.length (64 * (m.trunc + 1))
        let lost := s.bump (clsLoc d) (R.MIR_STAT_LOST k)
        if (s.findCells d (portClu f.port) (cellsOf len)).isNone then lost
        else (s.toHost (64 + m.ring) f len x.cls 0 k (m.sample % 2 ^ 32) true x.dropped).getD lost

/-! ### Admission (R292 to R296, R302, R308) -/

/-- The receiver's counts let a frame's cells go that were never stored (R296). -/
def State.creditDrop (s : State) (f : Frame) : State :=
  let (d, p) := (f.die, f.port)
  let c := s.rxClass d p f.bytes
  let x := s.credit d p c
  if f.inject || x.held = 0 then s
  else (s.setCredit d p c { x with held := x.held - cellsOf f.bytes.length }).creditSync d p c

/-- How an admitted frame's cells are charged: lossless at its ingress, its class there, cells to headroom (R295, R302). -/
structure Charge where
  lossless : Bool
  cls      : Nat
  head     : Nat
  full     : Bool                  -- headroom exhausted
  xoff     : Bool                  -- the class's shared limit is reached
  deriving DecidableEq, Repr

/-- The charge of a frame of `n` cells. -/
def State.chargeOf (s : State) (f : Frame) (c n : Nat) : Charge :=
  let (d, p) := (f.die, f.port)
  if f.inject || !s.losslessEn d p then { lossless := false, cls := c, head := 0, full := false, xoff := false }
  else if s.creditOn d p then
    let k := s.rxClass d p f.bytes
    let on := (s.lossless d).contains k
    { lossless := on, cls := k, head := if on then n else 0, full := false, xoff := false }
  else if !(s.lossless d).contains c then { lossless := false, cls := c, head := 0, full := false, xoff := false }
  else
    let lim := s.pfcLimit d p c
    let used := Tab.get 0 (s.port d p).shared c
    let hd := n - min n (lim - used)
    { lossless := true, cls := c, head := hd, full := decide (s.hp d p < (s.port d p).headUsed + hd),
      xoff := decide (lim ≤ used + n) }

/-- Charges the ingress port, and sends XOFF where the limit is reached (R302). -/
def State.takeCharge (s : State) (f : Frame) (g : Charge) (n : Nat) : State :=
  let (d, p) := (f.die, f.port)
  if !g.lossless then s
  else
    let x := s.port d p
    let s := s.setPort d p { x with
      headUsed := x.headUsed + g.head,
      shared := if n = g.head then x.shared else Tab.set x.shared g.cls (Tab.get 0 x.shared g.cls + (n - g.head)) }
    let i := s.pfcPrio d p g.cls
    if g.xoff && !bit (s.pfld d p R.PFC_STAT_TX_XOFF) i then
      (s.pput d p ⟨0x818, i, 1⟩ 1).sendPfc d p i 0xFFFF
    else s

/-- The cut-through decision for an accepted target (R308). -/
def State.cutOk (s : State) (f : Frame) (h : Hdr) (x : Fate) (v : Seen) (td tp : Nat) : Bool :=
  x.dsts.length == 1 && h.ptpAt.isNone && decide (s.rate td tp ≤ s.rate f.die f.port) && v.idle &&
    s.classOk td tp x.cls (s.maxFrame f.die f.port)

/-- A frame joins a queue (R292, R308). -/
def State.enqueue (s : State) (d p : Nat) (e : QEnt) : State :=
  let s := s.setPort d p { s.port d p with queue := (s.port d p).queue ++ [e] }
  if e.cut then s.pbump d p R.QUE_CUT_CUT else s

/-- The targets of a frame with their tests (R292). -/
def State.tests (s : State) (f : Frame) (x : Fate) (hash n : Nat) (g : Charge) : List ((Nat × Nat) × Option Nat) :=
  (x.dsts.filter (fun t => dieOn s.part t.1)).map (fun t =>
    let q := s.queueOf t.1 t.2 x.cls hash
    let v := s.see f.die (pathCode x.pin f.die t.1) t.1 t.2 q
    (t, s.admitTest v t.1 t.2 x.cls n g.lossless g.full))

/-- Whether the frame's one target is accepted and cut through. -/
def State.willCut (s : State) (f : Frame) (h : Hdr) (x : Fate) (hash : Nat) : Bool :=
  let n := cellsOf f.bytes.length
  match s.tests f x hash n (s.chargeOf f x.cls n) with
  | [(t, none)] => s.cutOk f h x (s.see f.die (pathCode x.pin f.die t.1) t.1 t.2 (s.queueOf t.1 t.2 x.cls hash)) t.1 t.2
  | _ => false

/-- The descriptor of a frame for a target. -/
def State.descriptor (s : State) (f : Frame) (h : Hdr) (x : Fate) (hash fid n : Nat) (lossless cut : Bool)
    (t : Nat × Nat) : QEnt :=
  let q := s.queueOf t.1 t.2 x.cls hash
  let spare := s.minCells t.1 t.2 (cfgClass t.2 x.cls) - (s.queueUse t.1 t.2 q).1
  { fid := fid, frame := { f with bytes := s.egressBytes x h f.bytes t.1 t.2 }, cls := x.cls, queue := q, cells := n,
    src := f.die, vlan := x.vlan, cut := cut, attr := s.tcAttr t.1 x.cls, own := if lossless then 0 else min spare n }

/-- Stage 6 of R25: every target tested in one commit, the accepted ones enqueued or sent; none where no cell of an
awake slice is free (R288, R292, R294). -/
def State.admitFrame (s : State) (f : Frame) (h : Hdr) (x : Fate) (hash : Nat) : Option State :=
  let d := f.die
  let n := cellsOf f.bytes.length
  let g := s.chargeOf f x.cls n
  let ts := s.tests f x hash n g
  let cut := s.willCut f h x hash
  let t := ts.foldl (fun (t : State) y => match y.2 with
    | none => t
    | some r => t.pbump y.1.1 y.1.2 (R.QUE_REFUSE_COUNT r)) s
  let acc := (ts.filter (fun y => y.2.isNone)).map Prod.fst
  if acc = [] then some (t.creditDrop f)
  else match s.findCells d (portClu f.port) n with
    | none => none
    | some sl =>
      let here := acc.filter (fun y => y.1 == d)
      let fars := (otherDies d).filter (fun far => acc.any (fun y => y.1 == far))
      let fid := (s.die d).nextFid
      let grp : CellGrp := { fid := fid, cells := n, refs := here.length + fars.length,
                             port := if f.inject then 512 else portKey d f.port, cls := g.cls, head := g.head,
                             slices := sl }
      let ent := s.descriptor f h x hash fid n g.lossless cut
      let t := (t.takeCharge f g n).addCells d grp
      let t := here.foldl (fun t y => t.enqueue d y.2 (ent y)) t
      some (fars.foldl (fun t far =>
        let ents := (acc.filter (fun y => y.1 == far)).map (fun y => (y.2, ent y))
        t.remoteGo d { fid := fid, ents := ents, far := far, bucket := hash % 256, code := pathCode x.pin d far, cells := n, admits := g.lossless }) t)

/-! ### A frame's passage through its pipeline (R259, R376, R440) -/

/-- The messages that PTP_TRAP takes: Announce, Signaling, Management (R440). -/
def ptpTrapped (ty : Nat) : Bool := decide (0xB ≤ ty) && decide (ty ≤ 0xD)

/-- P7: the frame as stored and its decision, where a classifier action names its stream; a discarded frame has no goal
(R273). -/
def State.redund7 (s : State) (f : Frame) (h : Hdr) (res : Nat) (x : Fate) : (Frame × Fate) × State :=
  let (d, p) := (f.die, f.port)
  let st := bits res 24 12
  if !bit res 39 then ((f, x), s)
  else match s.lookIdx d (portClu p) 4 st with
    | (none, s) => ((f, x), s)
    | (some e, s) => match s.redundancy d p f h st e x with
      | (some r, s) => (r, s)
      | (none, s) => ((f, { x with goal := none }), s)

/-- P2 to P8: the frame as stored and its decision. Every frame passes every stage, whatever becomes of it (R259); a
classifier drop and the PTP trap take it in the end (R262, R440). -/
def State.fate (s : State) (f : Frame) (h : Hdr) (hash : Nat) : (Frame × Fate) × State :=
  let (d, p) := (f.die, f.port)
  let clu := portClu p
  let (x, s) := s.forward d p h
  let (ce, s) := s.lookCls d clu (clsKey f.bytes h d p x.vrf)
  let res := (ce.map TEnt.res).getD 0
  let cls := if bit res 4 then bits res 0 4 else s.classOf d p f.bytes h
  let ((f, x), s) := s.redund7 f h res { x with cls := cls, mirs := if bit res 19 then [bits res 16 3] else [] }
  let (x, s) := s.resolve d p hash x
  let trap := s.flag (clsLoc d) R.HOST_RING_PTP_TRAP && (s.port d p).ptp.en &&
    h.ptpAt.any (fun a => ptpTrapped (ptpType f.bytes a))
  if trap then ((f, { x with dsts := [], host := 2 }), s)
  else if bit res 8 then ((f, { x with dsts := [], host := 0 }), s)
  else ((f, x), s)

/-- A frame that its cells' lack keeps in the landing buffer asks for a sleeping slice (R288, R358). -/
def State.wakeSlice (s : State) (d c : Nat) : State :=
  match (List.range 4).find? (fun k => !s.sliceAwake d k && !s.sliceWaking d k) with
  | none => s
  | some k => s.demandWake d k (if s.flag (clsLoc d) (R.TC_ATTR_YIELDING c) then 5 else 2) true

/-- A frame enters P1 (R25 stages 5 and 6): none where it must wait for cells. -/
def State.pipe (s : State) (f : Frame) : Option State :=
  let (d, p) := (f.die, f.port)
  let clu := portClu p
  if s.safe then some ((s.bump locCol (R.SAFE_DISCARD_COUNT d)).creditDrop f)
  else
    let h := parse f.bytes
    let hash := s.flowHash d h
    let t := s.setLedger { s.ledger with lastP1 := Tab.set s.ledger.lastP1 (cluNo d clu) s.now }
    let t := t.putPair (pipeLoc d clu) R.FWD_FRAMES_LO_FRAMES R.FWD_FRAMES_HI_FRAMES
      (satNat (t.pair (pipeLoc d clu) R.FWD_FRAMES_LO_FRAMES R.FWD_FRAMES_HI_FRAMES + 1) 48)
    let t := if h.short then t.bump (pipeLoc d clu) R.FWD_CNT_PARSE_SHORT else t
    let ((f', x), t) := t.fate f h hash
    let err := if s.maxFrame d p < f.bytes.length then R.RX_ERR_OVERSIZE else R.RX_ERR_ERRORED
    if f.bad && !t.willCut f' h x hash then some ((s.pbump d p err).creditDrop f)
    else
      let t := if f.bad then t.pbump d p err else t
      let t := (List.range 8).foldl (fun t k => t.mirror f' x k) t
      if x.host ≠ 0 then
        let n := 64 + t.fld (clsLoc d) R.HOST_RING_RING
        let stamp := t.pflag d p R.TS_CTRL_STAMP_ALL_RX
        match t.toHost n f' f'.bytes.length x.cls x.host 0 0 stamp false with
        | some t => some (t.creditDrop f)
        | none => some ((t.setRing n { t.ring n with count1c := satNat ((t.ring n).count1c + 1) 32 }).creditDrop f)
      else if x.dsts = [] then some (t.creditDrop f)
      else t.admitFrame f' h x hash

/-- One frame fewer ahead of every MARK (R145). -/
def State.markPass (s : State) (d p : Nat) : State :=
  let x := s.relka d p
  s.setRelka d p { x with marks := x.marks.map (fun m => (m.1, m.2 - 1)) }

/-- The oldest frame of a landing share enters the pipeline that serves its port, once pipeline and slice are ready (R33,
R254, R259); a frame of a service port waits while a main port of the cluster has one (R261). A contained pipeline admits
nothing (R22). -/
def execPipelineFrame (d p : Nat) (s : State) : Out :=
  let clu := portClu p
  let mains := 64 ≤ p ∧ (s.diePorts d).any (fun q => decide (q < 64) && portClu q == clu && (s.port d q).landing != [])
  if !(dieOn s.part d && s.awake d clu && !s.sliceWaking d clu && !s.contained (pipeLoc d clu)) ∨ mains then .next s
  else match (s.port d p).landing with
    | [] => .next s
    | f :: rest =>
      let t := s.setPort d p { s.port d p with landing := rest }
      match t.pipe f with
      | some t => .next (t.markPass d p)
      | none => .next (s.wakeSlice d (s.rxClass d p f.bytes))

end Sys2Proof.Machine
end

