-- ==== Sys2Proof/Machine/Frames.lean ====
section
/-! DEFINITION. Frames at the ports and from the host (R25, R33, R36, R84 to R111, R250, R254, R273, R274, R296, R302 to
R312, R376, R441, R442). -/

namespace Sys2Proof.Machine

/-! ### PFC (R302, R303) -/

/-- A PFC frame arrives (R303); none is received in a near loop, or while a loss condition runs (R243, R251). -/
def execPfcFrameReceive (d p enable : Nat) (quanta : List Nat) (s : State) : Out :=
  .next (if s.portLive d p && s.pstate d p == psUp && !s.nearLoop d p && (s.port d p).lossAt.isNone then s.pfcRx d p enable quanta else s)

/-- A pause's quanta run out (R303). -/
def execPfcPauseExpiry (d p i : Nat) (s : State) : Out :=
  match Tab.get? (s.port d p).pause i with
  | none => .next s
  | some t => .next ((s.advanceTo t).pfcOne d p i 0)

/-- While XOFF holds its PFC frame is refreshed every 32,768 quanta (R302). -/
def execPfcRefresh (d p i : Nat) (s : State) : Out :=
  match Tab.get? (s.port d p).xoffAt i with
  | none => .next s
  | some t => .next ((s.advanceTo (t + s.quantaTicks d p 32768)).sendPfc d p i 0xFFFF)

/-- The enable vector and quanta of a PFC frame (IEEE 802.1Qbb). -/
def pfcOf (bs : List Byte) : Option (Nat × List Nat) :=
  if beAt bs 0 6 = 0x0180C2000001 ∧ beAt bs 12 2 = 0x8808 ∧ beAt bs 14 2 = 0x0101 then
    some (beAt bs 16 2 % 256, (List.range 8).map (fun i => beAt bs (18 + 2 * i) 2))
  else none

/-! ### FRAME_RECEIVE (R25, R33, R36, R245, R250, R254, R296) -/

/-- Whether an FCS error is injected into this frame, on the receive or the transmit side (R250). -/
def State.injectFcs (s : State) (d p : Nat) (tx : Bool) : Bool × State :=
  match (s.port d p).inj with
  | none => (false, s)
  | some i =>
    match s.flight i.num with
    | none => (false, s)
    | some f =>
      if f.cmd.opa % 8 ≠ 4 ∨ bit f.cmd.opa 3 ≠ tx ∨ f.cmd.opb % 65536 ≤ i.made then (false, s)
      else if i.skip = 0 then
        (true, s.setPort d p { s.port d p with inj := some { i with made := i.made + 1, skip := bits f.cmd.opb 32 20 } })
      else (false, s.setPort d p { s.port d p with inj := some { i with skip := i.skip - 1 } })

/-- Whether an injection of kind 2 beyond correction, or of kind 3, fell into a frame of `len` octets that ends now: the
last injection that began before now had not ended when the frame began (R237, R250). -/
def State.injectHit (s : State) (d p len : Nat) : Bool :=
  match (s.port d p).inj with
  | none => false
  | some i =>
    match s.flight i.num with
    | none => false
    | some f =>
      let kind := f.cmd.opa % 8
      let unit := injUnit kind
      let past := (s.now - i.at_) * s.rate d p
      let last := min (f.cmd.injN - 1) ((past - 1) / (f.cmd.injStep * unit))
      (kind == 3 || (kind == 2 && decide (15 < bits f.cmd.opb 16 5))) && s.injHere f d p && decide (0 < past) &&
        decide (past < last * (f.cmd.injStep * unit) + unit + 5000 * len)

/-- Whether a frame finds room in its landing share: while the pipeline sleeps or wakes, an unprotected frame leaves room
for every credited cell the partner may still send (R36). While it is awake no room is kept, and a frame that does not fit
is discarded in LANDING_DISCARD too (DESIGN CHOICE, log entry 57). -/
def State.landFits (s : State) (d p c len : Nat) : Bool :=
  let used := ((s.port d p).landing.map (fun f => f.bytes.length)).sum
  let keep := if s.awake d (portClu p) || (s.credited d p).contains c then 0
    else 256 * ((s.credited d p).map (fun k => (d20 (s.credit d p k).limOut (s.credit d p k).recv).toNat)).sum
  decide (used + len + keep ≤ s.landShare d p)

/-- A frame goes to its landing share (R25 stage 4, R256). -/
def State.land (s : State) (d p c : Nat) (f : Frame) : State :=
  let x := s.credit d p c
  let s := if (s.credited d p).contains c then s.setCredit d p c { x with held := x.held + cellsOf f.bytes.length } else s
  let s := s.setPort d p { s.port d p with landing := (s.port d p).landing ++ [f] }
  let used := ((s.port d p).landing.map (fun f => f.bytes.length)).sum
  s.pput d p R.LANDING_OCC_HWM (max used (s.pfld d p R.LANDING_OCC_HWM))

/-- The Announce receipt monitor restarts on an Announce of the parent; while none is known, on any (R113; log entry
46). -/
def State.heardParent (s : State) (d p : Nat) (bs : List Byte) : State :=
  match (parse bs).ptpAt with
  | none => s
  | some a =>
    let x := s.port d p
    if x.ptp.en && ptpType bs a == 0xB && x.eng.parent.all (· == ptpSource bs a) then
      s.setPort d p { x with eng := { x.eng with announce := s.now, expired := false } } else s

/-- A frame arrives whose class is `c`: stored, or discarded and counted. A frame shorter than 64 bytes counts as
truncated (log entry 45). In a contained cluster every frame is discarded (R367). -/
def State.arrive (s : State) (d p c : Nat) (f : Frame) (bad : Bool) : State :=
  let clu := portClu p
  let len := f.bytes.length
  if s.contained (pipeLoc d clu) then (s.pbump d p (R.LANDING_DISCARD_COUNT c)).creditSync d p c else
  let s := s.cancelSleep d clu
  let s := s.demandWake d clu (if s.flag (clsLoc d) (R.TC_ATTR_YIELDING c) then 5 else 2)
  let over_ := decide (s.maxFrame d p < len)
  if bad || over_ then
    if s.awake d clu && (s.port d p).landing == [] && !s.safe then s.land d p c { f with bad := true }
    else (s.pbump d p (if over_ then R.RX_ERR_OVERSIZE else R.RX_ERR_ERRORED)).creditSync d p c
  else if !s.landFits d p c len then
    (s.pbump d p (R.LANDING_DISCARD_COUNT c)).creditSync d p c
  else (s.land d p c f).heardParent d p f.bytes

/-- What the line did to a frame: an invalid sync header, a codeword beyond correction, a loss condition that runs, an
injection (R236, R237, R243, R250). -/
def State.lineErr (s : State) (d p len : Nat) (line : RxLine) : Bool :=
  line.heads.any (fun h => h != 1 && h != 2) || (s.hasFec d p && decide (0 < line.badCw)) ||
    (s.port d p).lossAt.isSome || s.injectHit d p len

/-- A whole frame crosses the PCS boundary of a port in UP (R25 stages 1 to 4). -/
def State.receive (s : State) (d p : Nat) (bytes : List Byte) (errored : Bool) : State :=
  let (inj, s) := s.injectFcs d p false
  let bad := errored || inj || !fcsOk bytes || decide (bytes.length < 64)
  let (f, s) := s.rxFrame d p bytes false
  let c := s.rxClass d p bytes
  let x := s.credit d p c
  let s := if (s.credited d p).contains c then s.setCredit d p c { x with recv := m20 (x.recv + cellsOf bytes.length) }
    else s
  match (if bad then none else pfcOf bytes) with
  | some (e, q) => (s.pfcRx d p e q).creditSync d p c
  | none => (s.arrive d p c f bad).withdrawWakes d (portClu p)

/-- A frame is received from the line, or arrives in part; a port in a near loop does not hear the line (R236, R245, R251,
R254). -/
def execFrameReceive (d p : Nat) (bytes : List Byte) (line : RxLine) (s : State) : Out :=
  if !s.portLive d p ∨ s.nearLoop d p then .next s
  else if s.pstate d p ≠ psUp ∧ s.pstate d p ≠ psRemote then .next s
  else if line.part then .next (s.updPort d p (fun x => { x with rxPart := s.pstate d p == psUp }))
  else
    let t := if s.hasFec d p then s.bumpBy (portLoc d p) R.FEC_UNCORR_UNCORR line.badCw else s
    let t := t.updPort d p (fun x => { x with rxPart := false })
    if s.pstate d p = psRemote then .next (t.pbump d p R.RX_ERR_ERRORED)
    else .next (t.receive d p bytes (s.lineErr d p bytes.length line))

/-- The frames on the path of a near loop arrive at the same port's landing buffer (R251). -/
def State.drainLoop (s : State) (d p : Nat) : State :=
  let fs := (s.port d p).looped
  fs.foldl (fun s bs => s.receive d p bs (s.injectHit d p bs.length)) (s.updPort d p (fun x => { x with looped := [] }))

/-! ### Cells read and released (R288, R312, R358) -/

/-- What follows from a release of cells: BUF_QUAR_LIMIT, slices that may rest, waiting requests. -/
def State.afterRelease (s old : State) (d : Nat) : State :=
  let s := if old.quar d < 4096 ∧ 4096 ≤ s.quar d then s.raise (bufLoc d) 0x51 (s.quar d) else s
  (List.range 4).foldl (fun s k => s.sliceRest d k) s

/-- A frame's cells are read for transmission: check-bit injections of BUF_ECC and DESC_ECC; whether the frame ends with an
error (R309, R312). The cell pointer and the descriptor address are free values (log entry 6). -/
def State.readCells (s : State) (d fid : Nat) : State × Bool :=
  match (s.die d).cells.find? (fun g => g.fid == fid) with
  | none => (s, false)
  | some g =>
    let (v, s) := s.freeNat
    let ptr := d * 262144 + v % 262144
    let here (l : Nat) : Bool := g.slices.any (fun x => l == cluLoc d x.1 21 0)
    let s := s.touch 0x54 here (v % 2 ^ 32) (v % 2 ^ 32)
    let r := s.checked 0x50 here ptr ptr
    if r.2 then
      let x := r.1.die d
      let s := r.1.setDie d { x with
        cells := x.cells.map (fun h => if h.fid = fid then { h with bad := some ptr } else h) }
      (s.bump (bufLoc d) R.BUF_ECC_UNCORRECTED, true)
    else (r.1, false)

/-! ### Transparent clock and safe-state Announce (R107 to R109, R111) -/

/-- The settings that an engine runs: while Relka is enabled and its link is not LINKED, DEGRADED or SOUNDING, those that
DEFAULTS takes from a profile come from FALLBACK_PROFILE (R114, R118). -/
def State.engine (s : State) (d p : Nat) : PtpCfg :=
  let c := (s.port d p).ptp
  if c.defs ∧ s.pflag d p R.RLK_CTRL_EN then
    let prof := s.pfld d p R.RLK_CTRL_FALLBACK_PROFILE
    let f := profileDefaults prof
    { c with profile := prof, domain := f.1, p2p := f.2.1, transp := f.2.2 }
  else c

/-- A correctionField with an addition; a sum outside its 64 bits, on either side, goes out as the greatest number and is
counted (R107, R108). -/
def State.addCorr (s : State) (d p : Nat) (bs : List Byte) (h : Hdr) (a : Nat) (add : Int) : List Byte × State :=
  let v := ptpCorr bs a + add
  if 2 ^ 63 ≤ v ∨ v < -2 ^ 63 then (ptpPatch bs h (a + 8) (beBytes 8 (2 ^ 63 - 1)), s.pbump d p R.TS_CNT_TC_OVF)
  else (ptpPatch bs h (a + 8) (beBytes 8 (toBits v 64)), s)

/-- The correction of a frame that leaves a port now: residence by M, and in peer-to-peer operation the mean path delay of
the ingress link with its asymmetry correction (R85, R107). The asymmetry a is the outbound delay less the inbound one
(R127), so that the delay inwards is the mean less a half of a (DEDUCED, log entry 61). -/
def State.corrOf (s : State) (d p : Nat) (f : Frame) : Int :=
  (s.stampAt d 0 true (s.compTx d p) : Int) - f.mono +
    (if (s.engine f.die f.port).p2p then
      (s.port f.die f.port).eng.meanPath - roundDiv (sx (s.pfld f.die f.port R.RLK_ASYM_EFF_A) 32) 2 else 0)

/-- The transparent clock of a port on a frame that leaves it (R107 to R109). Residences older than 100 ms are of no use
any more and leave the table. -/
def State.transClock (s : State) (d p : Nat) (f : Frame) (bs : List Byte) (h : Hdr) : List Byte × State :=
  match h.ptpAt with
  | none => (bs, s)
  | some a =>
    if !s.pflag d p R.TS_CTRL_TC_EN || f.inject then (bs, s)
    else
      let x := s.port d p
      let live := x.tc.filter (fun e => decide (s.now ≤ e.tick + 62500000))
      let key := ptpSource bs a * 65536 + ptpSeq bs a
      let ty := ptpType bs a
      let add := s.corrOf d p f
      if ty = 0 ∧ ptpTwoStep bs a then
        if 32 ≤ live.length then (bs, (s.setPort d p { x with tc := live }).pbump d p R.TS_CNT_TC_NOMATCH)
        else (bs, s.setPort d p { x with tc := live ++ [{ key := key, corr := add, tick := s.now }] })
      else if ptpEvent ty then s.addCorr d p bs h a add
      else if ty = 8 then
        match live.find? (fun e => e.key == key) with
        | none => (bs, (s.setPort d p { x with tc := live }).pbump d p R.TS_CNT_TC_NOMATCH)
        | some e => (s.setPort d p { x with tc := live.erase e }).addCorr d p bs h a e.corr
      else (bs, s)

/-- In safe state an enabled engine's port writes SAFE_CC into each Announce (R111). -/
def State.safeAnnounce (s : State) (d p : Nat) (bs : List Byte) (h : Hdr) : List Byte :=
  match h.ptpAt with
  | none => bs
  | some a =>
    if s.safe && (s.port d p).ptp.en && ptpType bs a == 0xB then
      ptpPatch bs h (a + 48) (leBytes 1 (s.fld locArb R.CC_SAFE_SAFE_CC)) else bs

/-! ### The transmit-timestamp queue (R100 to R104, R433) -/

/-- A requested transmit stamp. -/
def State.tsRequest (s : State) (d p tsId : Nat) (bs : List Byte) (h : Hdr) : State :=
  if tsId = 0xFFFF then s.pbump d p R.TS_CNT_TSQ_BADID
  else if 16 ≤ (s.port d p).tsq.length then s.pbump d p R.TSQ_STAT_DROP
  else
    let (ty, q) := match h.ptpAt with
      | none => (0, 0)
      | some a => (ptpType bs a, ptpSeq bs a)
    let e : TsqEnt := { stamp := s.stampTx d p, tsId := tsId, stepGen := (s.tail d).stepGen,
                        uncal := !s.dlyValid d p, dropped := false, msgType := ty, seqId := q }
    let keep (s : State) (e : TsqEnt) : State := s.setPort d p { s.port d p with tsq := (s.port d p).tsq ++ [e] }
    if s.pflag d p R.TS_CTRL_TSQ_MODE then keep s e
    else
      let ovr := if s.flag locFp (R.EVT_ROUTE_TSQ_OVR d) then some (s.fp (R.EVT_ROUTE_TSQ_RING d)) else none
      let r := s.event 1 tsId (tx64 e.stamp) ovr
      if r.2 then r.1 else keep r.1 { e with dropped := true }

/-! ### FRAME_TRANSMIT (R305) -/

/-- The frame in transmission has left the port, or has come back to it over a near loop; its cells are released (R251,
R294). -/
def State.finishTx (s : State) (d p : Nat) : State :=
  if (s.port d p).sending.isNone then s else ((s.endTx d p).afterRelease s d).drainLoop d p

/-- The first frame of each queue of a port. -/
def Port.heads (x : Port) : List QEnt :=
  x.queue.foldl (fun hs e => if hs.any (fun g => g.queue == e.queue) then hs else hs ++ [e]) []

/-- The frame that a class offers: its queues take turns (R305). -/
def Port.offer (x : Port) (c : Nat) : Option QEnt :=
  let mine := x.heads.filter (fun e => e.cls == c)
  let low (es : List QEnt) : Option QEnt := es.foldl (fun m e => match m with
    | none => some e
    | some b => if e.queue < b.queue then some e else some b) none
  match (Tab.get? x.lastQ c).bind (fun q => low (mine.filter (fun e => decide (q < e.queue)))) with
  | some e => some e
  | none => low mine

/-- The classes whose offered frame may start now, with the frames (R305). -/
def State.eligible (s : State) (d p : Nat) : List (Nat × QEnt) :=
  (List.range 16).filterMap (fun c => match (s.port d p).offer c with
    | none => none
    | some e => if s.classOk d p c e.frame.bytes.length (bit e.attr 1) then some (c, e) else none)

/-- Deficit-weighted round robin among eligible classes: the class that sends, with the new deficits (R305; log entry 42).
The class whose turn it is goes on while its deficit covers its frame; then the others follow in turn, each gaining its
quantum once per round. -/
def State.dwrr (s : State) (d p : Nat) (el : List (Nat × QEnt)) : Option (QEnt × Port) :=
  let x := s.port d p
  let def0 := x.deficit.filter (fun t => x.queue.any (fun e => e.cls == t.1))
  let q (c : Nat) : Int := max (s.pfld d p (R.QUE_CLASS_CFG_QUANTUM (cfgClass p c)) : Int) 1
  let len (e : QEnt) : Int := e.frame.bytes.length
  let dof (c : Nat) : Int := Tab.get 0 def0 c
  match el.find? (fun y => y.1 == x.rrCls && decide (len y.2 ≤ dof y.1)) with
  | some y => some (y.2, { x with deficit := Tab.set def0 y.1 (dof y.1 - len y.2) })
  | none =>
    let order := ((List.range 16).map (fun i => (x.rrCls + 1 + i) % 16)).filterMap (fun c => el.find? (fun y => y.1 == c))
    let need (y : Nat × QEnt) : Nat := (max 1 (Int.fdiv (len y.2 - dof y.1 + q y.1 - 1) (q y.1))).toNat
    match order.foldl (fun m y => match m with
      | none => some y
      | some b => if need y < need b then some y else some b) none with
    | none => none
    | some w =>
      let before := order.takeWhile (fun y => y.1 != w.1)
      let gain (y : Nat × QEnt) : Int :=
        q y.1 * (if y.1 = w.1 ∨ before.any (fun z => z.1 == y.1) then need w else need w - 1 : Nat)
      let defs := order.foldl (fun t y => Tab.set t y.1 (dof y.1 + gain y - if y.1 = w.1 then len y.2 else 0)) def0
      some (w.2, { x with deficit := defs, rrCls := w.1 })

/-- The offer of the highest-numbered class that satisfies a test. -/
def topOffer (el : List (Nat × QEnt)) (ok : Nat × QEnt → Bool) : Option QEnt :=
  ((el.filter ok).getLast?).map Prod.snd

/-- A DIRECT frame as a descriptor. -/
def HostFrame.ent (x : HostFrame) (d p attr : Nat) : QEnt :=
  { attr := attr, fid := x.fid, cls := x.cls, queue := 1024, cells := cellsOf x.bytes.length, src := d, vlan := 0,
    frame := { bytes := x.bytes, die := d, port := p, stamp := 0, mono := 0, stepGen := 0, uncal := false,
               inject := true } }

/-- The oldest DIRECT frame, if it may start: under the gate and the credits of its class (R296, R442). -/
def State.hostOffer (s : State) (d p : Nat) : Option HostFrame :=
  match (s.port d p).hostQ with
  | [] => none
  | x :: _ =>
    let n := x.bytes.length
    if s.gateFits d p x.cls (s.txTime d p n) && s.creditFits d p x.cls (cellsOf n) then some x else none

/-- The frame chosen at a transmission opportunity, with the port without it, and its stamp request (R305, R376, R442). -/
def State.choose' (s : State) (d p : Nat) : Option (QEnt × Port × Option Nat) :=
  let x := s.port d p
  let el := if s.safe then [] else s.eligible d p
  let take (e : QEnt) (y : Port) : QEnt × Port × Option Nat :=
    (e, { y with queue := y.queue.erase e, lastQ := Tab.set y.lastQ e.cls e.queue }, none)
  if !s.shaperOk d p 16 then none
  else match topOffer el (fun y => bit y.2.attr 0) with
    | some e => some (take e x)
    | none =>
      match s.hostOffer d p with
      | some h => some (h.ent d p (s.tcAttr d h.cls), { x with hostQ := x.hostQ.drop 1 }, if h.tsReq then some h.tsId else none)
      | none =>
        match topOffer el (fun y => s.pflag d p (R.QUE_CLASS_CFG_STRICT (cfgClass p y.1))) with
        | some e => some (take e x)
        | none => (s.dwrr d p el).map (fun r => take r.1 r.2)

/-- A frame starts: it is read, rewritten, stamped, charged to shapers and credits (R86, R107, R111, R250, R296, R309). -/
def State.startTx (s : State) (d p : Nat) (e : QEnt) (ts : Option Nat) : State :=
  let (s, ecc) := s.readCells d e.fid
  let h := parse e.frame.bytes
  let (bs, s) := s.transClock d p e.frame e.frame.bytes h
  let bs := s.safeAnnounce d p bs h
  let s := match ts with
    | none => s
    | some id => s.tsRequest d p id bs h
  let (inj, s) := s.injectFcs d p true
  let ends := ecc || e.frame.bad
  let s := if ends then s.pbump d p R.QUE_CUT_ABORT else s
  let bs := if ends || inj then spoilFcs bs else bs
  let s := s.shaperPay d p e.cls bs.length
  let x := s.credit d p e.cls
  let s := if s.creditOn d p && bit e.attr 1 then s.setCredit d p e.cls { x with sent := m20 (x.sent + cellsOf bs.length) }
    else s
  s.updPort d p (fun x => { x with sending := some { e with frame := { e.frame with bytes := bs } }, sendAt := s.now })

/-- A transmission opportunity: the frame in transmission has ended, and the next one starts (R305); none starts while the
port sends Remote Fault (R245). A frame with a bad cell is discarded instead (R312). -/
def execFrameTransmit (d p : Nat) (s : State) : Out :=
  if !s.portLive d p ∨ s.pstate d p ≠ psUp then .next s
  else
    let s := s.finishTx d p
    if s.pstate d p ≠ psUp ∨ s.rxUnlocked d p then .next s
    else
    match s.choose' d p with
    | none => .next s
    | some (e, x, ts) =>
      let t := s.setPort d p x
      if (t.die d).cells.any (fun g => g.fid == e.fid && g.bad.isSome) then
        .next ((t.releaseRef d e.fid).afterRelease t d)
      else .next (t.startTx d p e ts)

/-! ### Frames from the host (R435, R441, R442) -/

/-- The part advances HEAD past an entry of a packet-from-host ring (R435, R442). -/
def State.pktNext (s : State) (n : Nat) (bad : Bool) : State :=
  let r := s.ring n
  (s.setRing n { r with
    head := (r.head + 1) % r.span, sinceArm := r.sinceArm + 1, pendAt := r.pendAt ++ [s.now],
    retired := (r.retired + b2n (!bad)) % 2 ^ 32, count1c := satNat (r.count1c + b2n bad) 32 }).ringTest n

/-- A DIRECT frame goes to its port's host queue; none where it must wait for cells or room (R442). -/
def State.direct (s : State) (d p cls : Nat) (ts : Option Nat) (bs : List Byte) : Option State :=
  if 32 ≤ (s.port d p).hostQ.length then none
  else match s.findCells d (portClu p) (cellsOf bs.length) with
    | none => none
    | some sl =>
      let fid := (s.die d).nextFid
      let g : CellGrp := { fid := fid, cells := cellsOf bs.length, refs := 1, port := 512, cls := cls, slices := sl }
      let s := s.addCells d g
      let h : HostFrame := { bytes := bs, cls := cls, tsReq := ts.isSome, tsId := ts.getD 0, fid := fid }
      some (s.setPort d p { s.port d p with hostQ := (s.port d p).hostQ ++ [h] })

/-- The entry at the head of a packet-from-host ring (R441, R442): taken, refused, or left to wait. -/
def execPktFromHostEntry (n : Nat) (s : State) : Out :=
  let r := s.ring n
  if n < 96 ∨ 128 ≤ n ∨ !r.running ∨ r.used = 0 then .next s
  else match s.dmaRead (r.base + 32 * (r.head % 2 ^ r.sizeLog2)) 32 with
    | none => .next (s.pktNext n true)
    | some eb =>
      let e := leNat eb
      let len := bits e 64 14
      let p := bits e 80 7
      let d := bits e 87 2
      let cls := bits e 89 4
      let dir := bit e 93
      let ts := bit e 94
      let odd := bit e 95 || e / 2 ^ 112 != 0 || !s.present d p || decide (len < 60) || decide (s.maxFrame d p < len + 4)
        || (ts && !dir) || (dir && s.pstate d p != psUp)
      match (if odd then none else s.dmaRead (e % 2 ^ 64) len) with
      | none => .next (s.pktNext n true)
      | some data =>
        let bs := withFcs (data ++ leBytes 4 0)
        if dir then
          match s.direct d p cls (if ts then some (bits e 96 16) else none) bs with
          | some t => .next (t.pktNext n false)
          | none => .next (if (s.port d p).hostQ.length < 32 then s.wakeSlice d cls else s)
        else if s.contained (pipeLoc d (portClu p)) then .next s
        else if !s.safe && !s.awake d (portClu p) then
          .next (s.demandWake d (portClu p) (if s.flag (clsLoc d) (R.TC_ATTR_YIELDING (s.rxClass d p bs)) then 5 else 2))
        else
          let (f, t) := s.rxFrame d p bs true
          match t.pipe f with
          | some t => .next (t.pktNext n false)
          | none => .next (s.wakeSlice d (s.rxClass d p bs))

/-! ### Timers (R273, R274, R310) -/

/-- A flap hold ends (R310). -/
def execFlapHoldExpiry (d p : Nat) (s : State) : Out :=
  match (s.port d p).holdEnd with
  | none => .next s
  | some t =>
    let s := s.advanceTo t
    .next (((s.flushPort d p).endHold d p).afterRelease s d)

/-- A recovery stream's reset timeout passes without an accepted frame (R273). -/
def execFrerResetTimeout (d st : Nat) (s : State) : Out :=
  let x := s.stream d st
  match (s.liveTbl d 4).find? (fun e => e.idx == st) with
  | none => .next s
  | some e =>
    if byteAt e.res 0 1 ≠ 2 ∨ x.fresh ∨ (Tab.get? (s.die d).streams st).isNone then .next s
    else
      let s := s.advanceTo (x.last + 625000 * byteAt e.res 2 2)
      .next (s.setStream d st { x with fresh := true, seen := [], high := 0 })

/-- A duplicate entry is forgotten after ENTRY_FORGET ms (R274). -/
def execDuplicateEntryForget (d st src seq : Nat) (s : State) : Out :=
  match (s.die d).dups.find? (fun u => u.stream == st && u.src == src && u.seq == seq) with
  | none => .next s
  | some u =>
    let s := s.advanceTo (u.tick + 625000 * s.fld (clsLoc d) R.PRP_CFG_ENTRY_FORGET)
    .next (s.setDie d { s.die d with dups := (s.die d).dups.erase u })

end Sys2Proof.Machine
end

