-- ==== Sys2Proof/Machine/Bridges.lean ====
section
/-! DEFINITION. The inter-die bridges and re-pinning (R276, R278, R279, R282 to R284, R293, R294). -/

namespace Sys2Proof.Machine

/-! ### Egress status (R293) -/

/-- The queue status that a die broadcasts (R293, R308). -/
def State.statusOf (s : State) (d : Nat) : Status :=
  let ps := s.diePorts d
  let keys := (ps.map (fun p => ((s.port d p).queue.map (fun e => 64 * p + e.queue)).eraseDups)).flatten
  { free := s.sharedFree d, up := ps.filter (fun p => s.pstate d p == psUp),
    hold := ps.filter (fun p => (s.port d p).holdEnd.isSome), idle := ps.filter (s.portIdle d),
    use := keys.foldl (fun t k => Tab.set t k (s.queueUse d (k / 64) (k % 64))) [] }

/-- Whether the status of a die reaches another: over their bridge, or over two (R276, R284). -/
def State.reaches (s : State) (d far : Nat) : Bool :=
  (List.range 3).any (fun code => s.pathUp d far code)

/-- A die broadcasts its queue status; frames that waited for it may go (R293). -/
def execEgressStatusBroadcast (d : Nat) (s : State) : Out :=
  if 4 ≤ d ∨ !dieOn s.part d then .next s
  else
    let st := s.statusOf d
    .next (((otherDies d).filter (dieOn s.part)).foldl (fun s o =>
      if s.reaches d o then
        (s.setDie o { s.die o with status := Tab.set (s.die o).status d st }).serveWaits o
      else s) s)

/-! ### Flits (R282, R293, R294) -/

/-- The egress die takes a cell into its buffer: none where no awake slice has room (R41, R293). A frame's cells count
as remote landing until it is enqueued. A later cell of a frame that the egress has already released is not stored. -/
def State.takeCell (s : State) (d : Nat) (w : Flit) : Option (State × Nat) :=
  let port := ((w.ents.head?).map Prod.fst).getD 0
  match s.findCells d (portClu port) 1 with
  | none => none
  | some sl =>
    let x := s.die d
    match x.arrive.find? (fun a => a.src == w.src && a.fid == w.fid) with
    | some a =>
      if !x.cells.any (fun g => g.fid == a.lfid) then some (s, a.lfid)
      else some (s.setDie d { x with cells := x.cells.map (fun g =>
        if g.fid = a.lfid then { g with cells := g.cells + 1, head := g.head + 1, slices := g.slices ++ sl } else g) },
        a.lfid)
    | none =>
      let g : CellGrp := { fid := x.nextFid, cells := 1, refs := w.ents.length, port := 512, cls := 0, head := 1,
                           slices := sl }
      let s := s.addCells d g
      some (s.setDie d { s.die d with arrive := { src := w.src, fid := w.fid, lfid := x.nextFid } :: (s.die d).arrive },
        x.nextFid)

/-- Cells of a frame move from remote landing into its queues' accounting, and their bridge credits return; so does that
of a cell that was not stored (R293). -/
def State.unland (s : State) (d lfid src : Nat) : State :=
  let x := s.die d
  let n := ((x.cells.find? (fun g => g.fid == lfid)).map CellGrp.head).getD 1
  let s := s.setDie d { x with cells := x.cells.map (fun g => if g.fid = lfid then { g with head := 0 } else g) }
  let c := s.brg src d
  s.setBrg src d { c with credits := c.credits + n }

/-- One more cell of a frame that is cut through counts in its queue, of the queue's minimum while that has room (R292,
R293). -/
def State.growCut (s : State) (d lfid : Nat) (e : Nat × QEnt) : State :=
  let spare := s.minCells d e.1 (cfgClass e.1 e.2.cls) - (s.queueUse d e.1 e.2.queue).1
  s.updPort d e.1 (fun x => { x with queue := x.queue.map (fun q =>
    if q.fid = lfid then { q with cells := q.cells + 1, own := q.own + min spare 1 } else q) })

/-- A cell has arrived on the egress die and is acknowledged: the frame is enqueued once complete, or at its first cell
when it is cut through (R278, R293, R294, R308). -/
def State.deliverCell (s : State) (d : Nat) (w : Flit) (lfid : Nat) : State :=
  let cut := w.ents.any (fun e => e.2.cut)
  let grp := (s.die d).cells.find? (fun g => g.fid == lfid)
  let first := grp.any (fun g => g.cells == 1)
  let s := s.pinBy w.src w.bucket d (-1)
  let s := if cut || w.left == 0 then s.unland d lfid w.src else s
  let s := if (if cut then first else w.left == 0) then
      w.ents.foldl (fun s e =>
        let n := if cut then 1 else e.2.cells
        let spare := s.minCells d e.1 (cfgClass e.1 e.2.cls) - (s.queueUse d e.1 e.2.queue).1
        s.enqueue d e.1 { e.2 with fid := lfid, cells := n, own := min spare n }) s
    else if cut && grp.isSome then w.ents.foldl (fun s e => s.growCut d lfid e) s
    else s
  if w.left = 0 then
    let x := s.die d
    let s := s.setDie d { x with arrive := x.arrive.filter (fun a => a.lfid != lfid) }
    ((s.releaseRef w.src w.fid).afterRelease s w.src).serveWaits w.src
  else s

/-- The endpoints of the package: die and the die faced. -/
def State.endpoints (s : State) : List (Nat × Nat) :=
  ((sDies s.part).map (fun d => ((otherDies d).filter (dieOn s.part)).map (fun f => (d, f)))).flatten

/-- A frame of which cells are lost on a bridge: its flits leave every replay buffer, counted at the endpoint that lost
them; its share is released on the ingress die, and what arrived is freed, or ends with an error where it is cut through
(R284, R309). -/
def State.loseFrame (s : State) (at_ : Nat × Nat) (w : Flit) : State :=
  let mine (v : Flit) : Bool := v.src == w.src && v.fid == w.fid && v.far == w.far
  let n := (s.endpoints.map (fun (e : Nat × Nat) => ((s.brg e.1 e.2).replay.filter mine).length)).sum
  let s := s.endpoints.foldl (fun (s : State) (e : Nat × Nat) =>
    let b := s.brg e.1 e.2
    s.setBrg e.1 e.2 { b with replay := b.replay.filter (fun v => !mine v) }) s
  let s := (s.bumpBy (brgLoc at_.1 at_.2) R.BRG_CNT_LOST n).pinBy w.src w.bucket w.far (-(n : Int))
  let c := s.brg w.src w.far
  let s := s.setBrg w.src w.far { c with credits := c.credits + n }
  let s := match (s.die w.far).arrive.find? (fun a => a.src == w.src && a.fid == w.fid) with
    | none => s
    | some a =>
      let s := s.unland w.far a.lfid w.src
      let x := s.die w.far
      let cut := w.ents.any (fun e => e.2.cut)
      let s := s.setDie w.far { x with
        arrive := x.arrive.erase a,
        cells := if cut then x.cells else x.cells.filter (fun g => g.fid != a.lfid) }
      if cut then w.ents.foldl (fun (s : State) (e : Nat × QEnt) =>
        let y := s.port w.far e.1
        let spoil (q : QEnt) : QEnt := if q.fid = a.lfid then { q with frame := { q.frame with bad := true } } else q
        s.setPort w.far e.1 { y with queue := y.queue.map spoil }) s
      else s
  (s.releaseRef w.src w.fid).afterRelease s w.src

/-! ### Lane failures (R283, R284) -/

/-- A bridge lane fails, detected at an endpoint: both directions halt new flits 0.5 us later, until the failover is done
(R283). -/
def State.laneFail (s : State) (d far lane : Nat) : State :=
  if (s.brgFail d far).isSome then s
  else s.setBrg d far { s.brg d far with badLane := lane, failAt := some s.now, errs := [] }

/-- A flit CRC error on a lane: counted, the flit is replayed; the fourth within 1 us on a lane is its failure (R282,
R283). -/
def State.crcError (s : State) (d from_ lane : Nat) : State :=
  let s := (s.bump (brgLoc d from_) R.BRG_CNT_CRC_ERR).bump (brgLoc from_ d) R.BRG_STAT_REPLAYS
  let b := s.brg d from_
  let errs := (lane, s.now) :: b.errs.filter (fun e => decide (s.now ≤ e.2 + usTicks 1))
  let s := s.setBrg d from_ { b with errs := errs }
  if 4 ≤ (errs.filter (fun e => e.1 == lane)).length then s.laneFail d from_ lane else s

/-- Whether a bridge carries no flits: from 0.5 us after a lane failure until the replay begins at 6.5 us (R283). -/
def State.brgHalted (s : State) (d far : Nat) : Bool := s.failFor d far 500 && !s.failFor d far 6500

/-- A flit arrives at an endpoint: discarded and replayed where its CRC fails, on the lane `badLane`; passed on by a relay
die, whose next bridge must take it; delivered on the egress die (R276, R282, R283, R378). An error that an injection makes
falls on lane 0. -/
def execBridgeFlitReceive (d ep : Nat) (badLane : Option Nat) (s : State) : Out :=
  let from_ := facingDie d ep
  if 4 ≤ d ∨ 3 ≤ ep ∨ !s.brgUp d from_ ∨ s.brgHalted d from_ then .next s
  else
    let tx := s.brg from_ d
    let rx := s.brg d from_
    match tx.replay with
    | [] => .next s
    | w :: rest =>
      let here (l : Nat) : Bool := l == brgLoc d from_
      let (s, e1) := s.checked 0x41 here 0 0
      let (s, e2) := s.checked 0x42 here 0 (s.brg d from_).lanes
      let (s, e3) := s.checked 0x43 here 0 from_
      if badLane.isSome || e1 || e2 || e3 then .next (s.crcError d from_ (badLane.getD 0))
      else
        let ack (s : State) : State :=
          let s := s.setBrg from_ d { s.brg from_ d with replay := rest }
          s.setBrg d from_ { s.brg d from_ with rxSeq := rx.rxSeq + 1 }
        if w.far = d then
          match s.takeCell d w with
          | none => .next (s.wakeSlice d 0)
          | some (t, lfid) => .next (((ack t).deliverCell d w lfid).serveWaits from_)
        else if !s.brgUp d w.far then .next (s.loseFrame (d, w.far) w)
        else if !s.takesFlits d w.far 1 then .next s
        else
          let s := ack s
          let b := s.brg d w.far
          .next ((s.setBrg d w.far { b with txSeq := b.txSeq + 1, replay := b.replay ++ [{ w with seq := b.txSeq }] }).serveWaits
            from_)

/-- A bridge lane loses lock (R283). -/
def execBridgeLaneFail (d ep lane : Nat) (s : State) : Out :=
  let far := facingDie d ep
  if 4 ≤ d ∨ 3 ≤ ep ∨ !s.brgUp d far then .next s else .next (s.laneFail d far lane)

/-- The failover is done, 6.5 us after the failure at the soonest: a spare is mapped, or the bridge goes on with 8 lanes;
every unacknowledged flit is replayed and new ones resume (R283, R284). -/
def execBridgeFailoverDone (d ep : Nat) (s : State) : Out :=
  let far := facingDie d ep
  let l := brgLoc d far
  match (s.brg d far).failAt with
  | none => .next s
  | some t =>
    let s := s.advanceTo (t + nsTicks 6500)
    let x := s.brg d far
    let spares := s.fld l R.BRG_STAT_SPARES_LEFT
    let s := (s.bumpBy l R.BRG_STAT_REPLAYS x.replay.length).setBrg d far
      { x with failAt := none, lanes := if spares = 0 then 8 else x.lanes }
    let s := if spares = 0 then (s.put l R.BRG_STAT_DEGRADED 1).raise l 0x42 8
      else (s.put l R.BRG_STAT_SPARES_LEFT (spares - 1)).raise l 0x41 x.badLane
    .next ((s.serveWaits d).serveWaits far)

/-! ### Loss of a bridge (R284) -/

/-- Whether a path uses the bridge between two dies, directly or as a relay leg. -/
def pathUses (d far code a b : Nat) : Bool :=
  let leg (x y : Nat) : Bool := (x == a && y == b) || (x == b && y == a)
  match relayDie d far code with
  | none => code == 0 && leg d far
  | some m => leg d m || leg m far

/-- The code of a bucket's path in a bank. -/
def State.bankPath (s : State) (d bank bucket far : Nat) : Nat :=
  match (s.tbl d 9 bank).find? (fun e => e.idx == bucket) with
  | none => 0
  | some e => pathCode e.res d far

/-- Writes a bucket's path into a bank. -/
def State.setPath (s : State) (d bank bucket far code : Nat) : State :=
  let es := s.tbl d 9 bank
  let old := ((es.find? (fun e => e.idx == bucket)).map TEnt.res).getD 0
  let sh := 4 ^ rankOf d far
  let res := old - pathCode old d far * sh + code * sh
  s.setTbl d 9 bank (putEnt { idx := bucket, key := bucket, mask := 0, res := res } es)

/-- A bucket whose path in use crosses a bridge that is lost moves to the first usable path, in both banks; a path that
only the shadow bank names moves there, so that no commit restores it (R284). -/
def State.repin (s : State) (d bucket far a b : Nat) : State :=
  match [0, 1, 2].find? (fun c => s.pathUp d far c) with
  | none => s
  | some c =>
    let live := s.liveBank d 9
    if pathUses d far (s.bankPath d live bucket far) a b then
      (s.setPath d live bucket far c).setPath d (1 - live) bucket far c
    else if pathUses d far (s.bankPath d (1 - live) bucket far) a b then s.setPath d (1 - live) bucket far c
    else s

/-- Frames that wait to be sent on a path through a lost bridge take the first usable one, as their buckets do (R284; log
entry 54). -/
def State.rerouteWaits (s : State) (d : Nat) : State :=
  let fix (r : Remote) : Remote :=
    if s.pathUp d r.far r.code then r
    else { r with code := ([0, 1, 2].find? (fun c => s.pathUp d r.far c)).getD r.code }
  s.updDie d (fun x => { x with waits := x.waits.map fix })

/-- Every bucket of every die that uses a lost bridge, and what waits to be sent over it. -/
def State.repinAll (s : State) (a b : Nat) : State :=
  (sDies s.part).foldl (fun s d => (s.rerouteWaits d).serveWaits d) ((sDies s.part).foldl (fun s d => ((otherDies d).filter (dieOn s.part)).foldl (fun s far =>
    (List.range 256).foldl (fun s k => s.repin d k far a b) s) s) s)

/-- What an endpoint loses with its bridge: the unacknowledged cells of its replay buffer (R284). -/
def State.loseReplay (s : State) (d far : Nat) : State :=
  let lost := ((s.brg d far).replay.map (fun w => { w with seq := 0, left := 0 })).eraseDups
  lost.foldl (fun s w => s.loseFrame (d, far) w) s

/-- A bridge loses lock entirely (R284). -/
def execBridgeDown (d ep : Nat) (s : State) : Out :=
  let far := facingDie d ep
  if 4 ≤ d ∨ 3 ≤ ep ∨ !dieOn s.part d ∨ !dieOn s.part far ∨ !s.brgUp d far then .next s
  else
    let s := (s.put (brgLoc d far) R.BRG_STAT_UP 0).put (brgLoc far d) R.BRG_STAT_UP 0
    let s := s.setBrg d far { s.brg d far with failAt := none }
    let s := s.setBrg far d { s.brg far d with failAt := none }
    let s := s.raise (brgLoc d far) 0x43 far
    .next (((s.loseReplay d far).loseReplay far d).repinAll d far)

/-- A bridge regains lock (R284). -/
def execBridgeUp (d ep : Nat) (s : State) : Out :=
  let far := facingDie d ep
  if 4 ≤ d ∨ 3 ≤ ep ∨ !dieOn s.part d ∨ !dieOn s.part far then .next s
  else
    let s := (s.put (brgLoc d far) R.BRG_STAT_UP 1).put (brgLoc far d) R.BRG_STAT_UP 1
    .next ((s.serveWaits d).serveWaits far)

/-! ### The drain gap (R278, R279) -/

/-- The frames held in a pair's gap go on the new path, in their order, behind those that still wait on the old one. -/
def State.endGap (s : State) (d bucket far : Nat) : State :=
  let x := s.die d
  match Tab.get? x.gaps (4 * bucket + far) with
  | none => s
  | some g =>
    (s.setDie d { x with gaps := Tab.del x.gaps (4 * bucket + far), waits := x.waits ++ g.held }).serveWaits d

/-- Whether a pair's old path carries nothing more: its count is 0, and no frame decided before the change still waits to be
sent (R278; log entry 54). -/
def State.gapClear (s : State) (d bucket far : Nat) : Bool :=
  s.unacked' d bucket far == 0 && !(s.die d).waits.any (fun r => r.bucket == bucket && r.far == far)

/-- The count of a pair has reached 0 (R278). -/
def execDrainGapEnd (d bucket far : Nat) (s : State) : Out :=
  .next (if s.gapClear d bucket far then s.endGap d bucket far else s)

/-- DRAIN_GAP ns have passed first (R279); a pair whose old path carries nothing more has ended its gap before. -/
def execDrainGapExpiry (d bucket far : Nat) (s : State) : Out :=
  match Tab.get? (s.die d).gaps (4 * bucket + far) with
  | none => .next s
  | some g => if s.gapClear d bucket far then .next (s.endGap d bucket far) else .next (((s.advanceTo g.until_).bump (clsLoc d) R.PIN_STAT_GAP_EXPIRED).endGap d bucket far)

end Sys2Proof.Machine
end

