-- ==== Sys2Proof/Machine/LinkUp.lean ====
section
/-! DEFINITION. Link bring-up: signal, auto-negotiation, training, lock, measurement, loss conditions, remote fault, lane
faults, FEC and PRBS checks (R89 to R92, R129, R130, R236 to R249). -/

namespace Sys2Proof.Machine

/-! ### Bring-up (R240, R241, R246) -/

/-- Stores a field of every lane of a port. -/
def State.lanesPut (s : State) (d p : Nat) (f : Fld) (v : Nat) : State :=
  (s.portLanes d p).foldl (fun s l => s.put (laneLoc d (portUnit p) l) f v) s

/-- A signal stands on every lane of a port in SIGNAL_WAIT (R241). -/
def execSignalDetect (d p : Nat) (s : State) : Out :=
  if s.portLive d p && s.pstate d p == psSignal then
    .next ((s.lanesPut d p R.LANE_STAT_LOS 0).setPState d p psLocking)
  else .next s

/-- Negotiation completes where the partner advertises the technology of the port's mode; otherwise it restarts (R240,
R241). -/
def execAutonegComplete (d : Nat) (x : AnEnd) (s : State) : Out :=
  let p := x.port
  if s.portLive d p && s.pstate d p == psAutoneg then
    if !x.partner.contains (s.unitMode d (portUnit p)) then .next (s.pbump d p R.PORT_GLITCH_AN_RESTARTS)
    else .next ((s.lanesPut d p R.LANE_STAT_LOS 0).setPState d p
      (if s.pflag d p R.PORT_LINK_CFG_TRAIN_EN then psTraining else psLocking))
  else .next s

/-- Negotiation restarts (R240). -/
def execAutonegRestart (d p : Nat) (s : State) : Out :=
  if s.portLive d p && s.pstate d p == psAutoneg then .next (s.pbump d p R.PORT_GLITCH_AN_RESTARTS) else .next s

/-- Training completes on every lane (R241). -/
def execTrainingComplete (d p : Nat) (s : State) : Out :=
  if s.portLive d p && s.pstate d p == psTraining then .next (s.setPState d p psLocking) else .next s

/-- Training fails (R240, R241). -/
def execTrainingFail (d p : Nat) (s : State) : Out :=
  if s.portLive d p && s.pstate d p == psTraining then .next ((s.setCause d p 8).setPState d p psAutoneg) else .next s

/-- The reference lane: the lowest physical lane that receives the lowest logical lane (R90; log entry 47). -/
def refLaneOf (lanes : List Nat) (seen : List LaneLock) : Nat :=
  let pairs := lanes.zip seen
  let low := (pairs.map (fun x => x.2.logical)).foldl min 255
  ((pairs.find? (fun x => x.2.logical == low)).map Prod.fst).getD (lanes.headD 0)

/-- The most skew between the lanes of a port at the balls, in ps (R239). -/
def maxSkew : Nat := 120000

/-- What each new lock restarts: the means and the phase of the Relka link (R129, R130). -/
def State.newLock (s : State) (d p : Nat) : State :=
  (s.setRelka d p { s.relka d p with meas := [], phase := none }).pput d p R.RLK_PHASE_PHASE_ACC 0

/-- Lock and deskew complete on every lane (R241, R246); a multi-lane port whose lanes lie further apart than the deskew
FIFO holds fails the lock with cause 4 (R239). -/
def execLockComplete (d p : Nat) (seen : LockSeen) (s : State) : Out :=
  if s.portLive d p && s.pstate d p == psLocking then
    let u := portUnit p
    let lanes := s.portLanes d p
    if 1 < lanes.length ∧ maxSkew < seen.skew then
      .next (((s.setCause d p 4).lanesUnlock d p).setPState d p (s.startState d p))
    else
    let s := lanes.foldl (fun (s : State) l =>
      (((s.put (laneLoc d u l) R.LANE_STAT_LOS 0).put (laneLoc d u l) R.LANE_STAT_CDR_LOCK 1).put (laneLoc d u l)
        R.LANE_STAT_LOCK 1)) s
    let s := (lanes.zip seen.lanes).foldl (fun (s : State) x =>
      (s.putB (laneLoc d u x.1) R.LANE_STAT_RX_INV x.2.inv).put (laneLoc d u x.1) R.LANE_STAT_RX_LOGICAL x.2.logical) s
    let s := s.setPort d p { s.port d p with refLane := refLaneOf lanes seen.lanes }
    .next (((s.cwStart d p).newLock d p).setPState d p psMeasuring)
  else .next s

/-- Lock has not completed within 10 ms (R241). -/
def execLockTimeout (d p : Nat) (s : State) : Out :=
  if s.portLive d p && s.pstate d p == psLocking then
    let s := s.advanceTo ((s.port d p).enteredAt + usTicks 10000)
    .next (((s.setCause d p 10).lanesUnlock d p).setPState d p (s.startState d p))
  else .next s

/-! ### Measurement (R89, R91, R92, R247) -/

/-- The lane rate code of a port (R232, R233, R235). -/
def State.laneCode (s : State) (d p : Nat) : Nat :=
  if 64 ≤ p then (if s.rate d p = 25000 then 2 else 1)
  else match s.unitMode d (p / 4) with
    | 4 => 4 | 5 => 3 | 6 => 2 | 7 => 1 | _ => 5

/-- Baud rate of a lane rate code in Hz (R232). -/
def baudOf (code : Nat) : Nat :=
  match code with
  | 0 => 1250000000 | 1 => 10312500000 | 2 => 25781250000 | 3 => 26562500000 | 4 => 53125000000 | _ => 106250000000

/-- t_w in fs (R233). -/
def wordFs (code : Nat) : Int := if code = 1 then 6400000 else if code = 2 then 2560000 else 625000

/-- The measured sums of a lock in fs, rounded once: receive, transmit (R89, R92, R387); n_dsk is 0 on a single-lane port
(R89). The factory terms lie in the unit's
set as log entry 14 orders them. -/
def State.lockSums (s : State) (d p : Nat) (m : LockMeas) : Int × Int :=
  let u := portUnit p
  let loc := unitLoc d u 16
  let n := unitLanes loc
  let code := s.laneCode d p
  let ref := (s.port d p).refLane
  let fec (dir : Nat) : Int := if s.hasFec d p then s.calVal loc 1 (12 * n + 7 * dir + (s.unitMode d u - 1)) else 0
  let sd (dir : Nat) : Int := s.calVal loc 1 (12 * ref + 6 * dir + code)
  let off := s.calVal loc 1 (12 * n + 14 + portSub p)
  let dsk := if 1 < (s.portLanes d p).length then m.nDsk else 0
  let rx := sd 0 + ((m.nGbRx + dsk : Nat) : Int) * wordFs code + fec 0
  let tx := sd 1 + (m.phiTx - off) + (m.nGbTx : Int) * wordFs code + fec 1
  (roundDiv (rx * ((2 * baudOf code : Nat) : Int) + m.pRxHalf * 10 ^ 15) (2 * baudOf code), tx)

/-- The sums are written and become valid; CHANGED where either differs from the previous lock's (R91, R92, R247). -/
def State.writeSums (s : State) (d p : Nat) (m : LockMeas) : State :=
  let r := s.lockSums d p m
  let new := (satBits r.1 32, satBits r.2 32)
  let old := (s.port d p).sums
  let s := (s.pput d p R.DLY_RX_MEAS_SUM new.1).pput d p R.DLY_TX_MEAS_SUM new.2
  let s := (s.pput d p R.DLY_STAT_VALID 1).incr (portLoc d p) R.DLY_STAT_LOCKS
  let s := if old.isSome && old != some new then (s.pput d p R.DLY_STAT_CHANGED 1).pbump d p R.DLY_STAT_CHANGES else s
  s.setPort d p { s.port d p with sums := some new }

/-- Whether the samples of a lock are good: all agree, and n_dsk lies within the deskew FIFO (R239, R247). -/
def lockGood (m : LockMeas) : Bool := m.agree && decide (m.nDsk ≤ 191)

/-- The samples of a lock are complete (R241, R247). A port that has stayed UP, or in REMOTE_FAULT, through a short loss
measures again and stays (R244). -/
def execMeasuringDone (d p : Nat) (m : LockMeas) (s : State) : Out :=
  let st := s.pstate d p
  if !s.portLive d p then .next s
  else if st = psMeasuring then
    let s := s.advanceTo ((s.port d p).enteredAt + 4096)
    if lockGood m then .next ((s.writeSums d p m).enterUp d p) else .next (s.abandonLock d p)
  else if (st = psUp ∨ st = psRemote) ∧ !s.dlyValid d p ∧ s.pfld d p R.PORT_STAT_LOOP ≠ 1 then
    if lockGood m then .next (s.writeSums d p m) else .next (s.abandonLock d p)
  else .next s

/-! ### Loss conditions (R243, R244) -/

/-- What a loss condition does to the lanes of a port (R244, R246, R257; log entry 48). The high-error condition loses no
lock. -/
def State.lanesLose (s : State) (d p cause : Nat) : State :=
  if cause = 9 then s
  else
    (s.portLanes d p).foldl (fun (s : State) l =>
      let loc := laneLoc d (portUnit p) l
      let s := if cause = 1 then s.put loc R.LANE_STAT_LOS 1 else s
      let s := if cause ≤ 2 then s.put loc R.LANE_STAT_CDR_LOCK 0 else s
      if s.flag loc R.LANE_STAT_LOCK then (s.put loc R.LANE_STAT_LOCK 0).bump loc R.LANE_STAT_LOCK_LOSSES else s) (s.cwStop d p)

/-- A loss condition has lasted DEBOUNCE: the port leaves UP or REMOTE_FAULT for its start state (R241, R243). -/
def State.lossExit (s : State) (d p cause : Nat) : State :=
  let s := (s.setCause d p cause).clearValid d p
  let s := (s.setPort d p { s.port d p with lossAt := none }).pput d p R.PORT_STAT_RF_RX 0
  (s.portTo d p (s.startState d p)).withdrawWakes d (portClu p)

/-- A loss condition arises (R241, R243, R244). A MAC_NEAR loop receives no line signal (R241). -/
def execLossCondition (d p cause : Nat) (s : State) : Out :=
  let st := s.pstate d p
  if !s.portLive d p ∨ s.pfld d p R.PORT_STAT_LOOP = 1 then .next s
  else
    let s := s.lanesLose d p cause
    let s := if cause = 9 then s else (s.clearValid d p).sourceLost d p (· == 4)
    if st = psLocking then .next (((s.setCause d p cause).lanesUnlock d p).setPState d p (s.startState d p))
    else if st = psMeasuring then .next (if cause = 9 then s else s.abandonLock d p)
    else if st = psUp ∨ st = psRemote then
      if s.pfld d p R.PORT_DEBOUNCE_DEBOUNCE = 0 then .next (s.lossExit d p cause)
      else if (s.port d p).lossAt.isSome then .next s
      else .next (s.setPort d p { s.port d p with lossAt := some (s.now, cause) })
    else .next s

/-- The tick at which a loss condition will have lasted DEBOUNCE (R243). -/
def State.lossEnd (s : State) (d p t : Nat) : Nat := t + usTicks (s.pfld d p R.PORT_DEBOUNCE_DEBOUNCE)

/-- The lanes of a port hold their lock again. -/
def State.lanesRelock (s : State) (d p : Nat) : State :=
  ((((s.lanesPut d p R.LANE_STAT_LOS 0).lanesPut d p R.LANE_STAT_CDR_LOCK 1).lanesPut d p R.LANE_STAT_LOCK 1).cwStart d p).newLock d p

/-- A loss condition ends: a glitch, unless it has lasted DEBOUNCE (R243). -/
def execLossConditionClear (d p : Nat) (s : State) : Out :=
  match (s.port d p).lossAt with
  | none => .next s
  | some (t, cause) =>
    if s.lossEnd d p t ≤ s.now then .next (s.lossExit d p cause)
    else
      let s := s.updPort d p (fun x => { x with lossAt := none })
      let s := if cause = 9 then s else s.lanesRelock d p
      .next (s.pbump d p R.PORT_GLITCH_GLITCHES)

/-- A loss condition has lasted DEBOUNCE (R241, R243). -/
def execDebounceExpiry (d p : Nat) (s : State) : Out :=
  match (s.port d p).lossAt with
  | none => .next s
  | some (t, cause) => .next ((s.advanceTo (s.lossEnd d p t)).lossExit d p cause)

/-! ### Remote fault (R241, R245) -/

/-- Remote fault has been received for DEBOUNCE (R241). -/
def execRemoteFaultReceived (d p : Nat) (s : State) : Out :=
  if s.portLive d p && s.pstate d p == psUp && s.pfld d p R.PORT_STAT_LOOP != 1 then
    .next ((((s.setCause d p 5).pput d p R.PORT_STAT_RF_RX 1).portTo d p psRemote).withdrawWakes d (portClu p))
  else .next s

/-- No remote fault has been received for DEBOUNCE (R241). -/
def execRemoteFaultCleared (d p : Nat) (s : State) : Out :=
  if s.portLive d p && s.pstate d p == psRemote then .next ((s.pput d p R.PORT_STAT_RF_RX 0).enterUp d p) else .next s

/-! ### Lane faults (R246) -/

/-- Whether the transmitter of a lane drives: that of its port, or a PRBS generator of its own (R246, R248). -/
def State.laneDrives (s : State) (d p lane : Nat) : Bool :=
  s.flag (laneLoc d (portUnit p) lane) R.PRBS_STAT_GEN_ON ||
    (s.portLive d p && (s.portLanes d p).contains lane && s.pflag d p R.PORT_STAT_TX_ON &&
      s.lineOut d p != .static && s.lineOut d p != .pattern)

/-- A transmit pin is shorted: its lane's transmitter turns off, and the port that owns the lane goes to DISABLED with cause
7; a lane of no port, in mode 0, loses its pattern generator. -/
def execTransmitShort (d p lane : Nat) (s : State) : Out :=
  let loc := laneLoc d (portUnit p) lane
  if s.portLive d p && (s.portLanes d p).contains lane then
    let s := (s.put loc R.LANE_STAT_TX_SHORT 1).setCause d p 7
    .next (((s.disable d p).raise loc 0x31 lane).withdrawWakes d (portClu p))
  else if s.flag loc R.PRBS_STAT_GEN_ON && !s.gatedOff loc && (s.laneOwner d (portUnit p) lane).isNone then
    let s := (s.put loc R.LANE_STAT_TX_SHORT 1).put loc R.PRBS_STAT_GEN_ON 0
    .next ((s.raise loc 0x31 lane).unitRest d (portUnit p))
  else .next s

/-- The termination sense of a transmitter; an open one keeps driving. -/
def execTransmitOpenSense (d p lane : Nat) (isOpen : Bool) (s : State) : Out :=
  if s.laneDrives d p lane then
    let loc := laneLoc d (portUnit p) lane
    let s := s.putB loc R.LANE_STAT_TX_OPEN isOpen
    .next (if isOpen then s.raise loc 0x30 lane else s)
  else .next s

/-! ### FEC and PRBS (R237, R249) -/

/-- 2^20 codewords have been received. The symbols corrected in them are compared with the threshold, those that injections had
corrected with them (R237, R250, R407). -/
def execFecDegradeCheck (d p : Nat) (fec : FecCount) (s : State) : Out :=
  if !s.portLive d p || (s.port d p).cwAt.isNone then .next s
  else
    let s := (s.advanceTo ((s.port d p).cwWin + 1048576 * s.cwTicks d p)).cwSync d p
    let loc := portLoc d p
    let s := ((s.bumpBy loc R.FEC_SYM_SYM fec.syms).bumpBy loc R.FEC_CORR_CORR fec.corr).bumpBy loc R.FEC_UNCORR_UNCORR
      fec.uncorr
    let all := fec.syms + (s.port d p).injSym
    let s := s.updPort d p (fun x => { x with cwWin := s.now, injSym := 0 })
    let lim := s.pfld d p R.FEC_DEGRADE_THRESH
    .next (if lim ≠ 0 ∧ lim < all then s.linkEvent d p 0 3 else s)

/-- A checker has seen 1,024 error-free bits and locks (R249). -/
def execPrbsCheckerLock (d u l : Nat) (s : State) : Out :=
  let loc := laneLoc d u l
  if s.flag loc R.PRBS_STAT_CHK_ON && !s.flag loc R.PRBS_STAT_CHK_LOCK then
    let s := (s.put loc R.PRBS_STAT_CHK_LOCK 1).bump loc R.PRBS_STAT_RELOCKS
    .next (s.setDie d { s.die d with prbsLock := Tab.set (s.die d).prbsLock (8 * u + l) s.now })
  else .next s

/-- A checker has seen 256 or more errors in 1,024 bits and loses lock: those errors are counted with what the line made
since the last count (R249; log entry 6). -/
def execPrbsCheckerUnlock (d u l : Nat) (s : State) : Out :=
  if s.flag (laneLoc d u l) R.PRBS_STAT_CHK_LOCK then .next (s.prbsUnlock d u l 256) else .next s

end Sys2Proof.Machine
end

