-- ==== Sys2Proof/Machine/Ptp.lean ====
section
/-! DEFINITION. The IEEE 1588 message engines (R91, R110 to R114, R118, R252, R420). Places of the fields of a message are
those of IEEE 1588 (log entry 41); what the engine sends goes to the model's log (log entries 7, 49). -/

namespace Sys2Proof.Machine

/-! ### The engine of a port -/

/-- Port state codes of an engine (R420). -/
def engMaster : Nat := 2
def engSlave : Nat := 3

/-- Whether a Relka link has replaced the exchanges of the engine (R118). -/
def State.rlkActive (s : State) (d p : Nat) : Bool :=
  let st := s.rlkState d p
  st == rlkLinked || st == rlkDegraded || st == rlkSounding

/-- Whether the engine of a port may send timing messages: enabled, the port UP (R245) and outside every loop (R252),
its sums valid (R91), and no Relka link in its place (R118). -/
def State.engineMay (s : State) (d p : Nat) : Bool :=
  s.present d p && (s.engine d p).en && s.pstate d p == psUp && s.pfld d p R.PORT_STAT_LOOP == 0 && s.dlyValid d p &&
    !s.rlkActive d p

/-- Stores what an engine keeps. -/
def State.setEng (s : State) (d p : Nat) (x : PtpEng) : State := s.setPort d p { s.port d p with eng := x }
/-- What an engine keeps. -/
def State.eng (s : State) (d p : Nat) : PtpEng := (s.port d p).eng

/-- The engine sends a message of its domain over its transport: type, sequenceId, a time in whole nanoseconds, and a
correction (R110, R114). ALT_DA chooses the destination 01-80-C2-00-00-0E of G.8275.1 (R114, R420). -/
def State.ptpSend (s : State) (d p ty seq time : Nat) (corr : Int) : State :=
  let c := s.engine d p
  s.send (.ptp d p ty seq time corr c.domain c.transp (c.altDa && c.profile == 2))

/-- The whole nanoseconds of a time, in 2^-16 ns. -/
def wholeNs (t : Nat) : Nat := t / 65536 * 65536
/-- What is left below one: it travels in the correctionField (log entry 49). -/
def subNs (t : Nat) : Int := (t % 65536 : Nat)

/-- Time passes to the next message of an interval: one interval after the last, or at once where none was sent (R112). -/
def State.toInterval (s : State) (last : Option Nat) (log : Int) : State :=
  match last with
  | none => s
  | some t => s.advanceTo (t + logTicks log)

/-! ### Messages sent on the engine's intervals (R110) -/

/-- A master's Sync, on its interval. One-step, it carries the stamp in originTimestamp and, below a nanosecond, in
correctionField; in two-step operation the time it carries is approximate, which is open, and Follow_Up carries the stamp. -/
def execPtpSyncSend (d p : Nat) (s : State) : Out :=
  if s.engineMay d p && (s.engine d p).state == engMaster then
    let x := s.eng d p
    let s := s.toInterval x.syncAt (s.engine d p).logSync
    let t := s.stampTx d p
    let s := s.setEng d p { x with seqSync := (x.seqSync + 1) % 65536, syncAt := some s.now }
    if (s.engine d p).twoStep then
      let (v, s) := s.freeNat
      .next ((s.ptpSend d p 0 x.seqSync v 0).ptpSend d p 8 x.seqSync (wholeNs t) (subNs t))
    else .next (s.ptpSend d p 0 x.seqSync (wholeNs t) (subNs t))
  else .next s

/-- A slave's Delay_Req, end-to-end, on its interval; t3 is kept. -/
def execPtpDelayReqSend (d p : Nat) (s : State) : Out :=
  if s.engineMay d p && (s.engine d p).state == engSlave && !(s.engine d p).p2p then
    let x := s.eng d p
    let s := s.toInterval x.dreqAt (s.engine d p).logDreq
    let t := s.stampTx d p
    let s := s.setEng d p { x with seqDreq := (x.seqDreq + 1) % 65536, t3 := some t, dreqAt := some s.now }
    .next (s.ptpSend d p 1 x.seqDreq (wholeNs t) 0)
  else .next s

/-- A Pdelay_Req, peer-to-peer, in any port state, on its interval; t1 is kept. -/
def execPtpPdelayReqSend (d p : Nat) (s : State) : Out :=
  if s.engineMay d p && (s.engine d p).p2p then
    let x := s.eng d p
    let s := s.toInterval x.pdelAt (s.engine d p).logPdel
    let t := s.stampTx d p
    let s := s.setEng d p { x with seqPdel := (x.seqPdel + 1) % 65536, p1 := some t, pWait := none, pdelAt := some s.now }
    .next (s.ptpSend d p 2 x.seqPdel (wholeNs t) 0)
  else .next s

/-! ### Messages received (R110, R112) -/

/-- A timestamp of a message at a place in 2^-16 ns: 48 bits of seconds, 32 bits of nanoseconds. -/
def ptpTime (bs : List Byte) (at_ : Nat) : Nat := beAt bs at_ 6 * uSec + beAt bs (at_ + 6) 4 * 65536

/-- The sequenceId of the engine's last request. -/
def lastSeq (next : Nat) : Nat := (next + 65535) % 65536

/-- The asymmetry that the engine of a port takes into its path delay: ASYM_CFG, in 2^-16 ns (R88, R149). -/
def State.engAsym (s : State) (d p : Nat) : Int := sx (s.pfld d p R.RLK_ASYM_CFG_CFG) 32

/-- The path delay towards this port from the round trip of an exchange: its half, less a half of the asymmetry (R88, R127;
log entry 61). -/
def State.pathIn (s : State) (d p : Nat) (rtt : Int) : Int := roundDiv (rtt - s.engAsym d p) 2

/-- A slave hands t1 to t4 of an exchange to the headstock (R112). -/
def State.handOver (s : State) (d p : Nat) (t : List Int) : State :=
  if (s.engine d p).state = engSlave then s.setEng d p { s.eng d p with handed := t } else s

/-- A slave's offset from its master, twice, by a Sync and the path delay towards this port (R88, R112). -/
def State.handOffset (s : State) (d p : Nat) (t1 t2 : Int) : State :=
  if (s.engine d p).state = engSlave then
    let x := s.eng d p
    s.setEng d p { x with gate := ((s.now, 2 * (t2 - t1 - x.inPath)) :: x.gate).take 2048 }
  else s

/-- The Sync of an exchange is known with its t1 and t2; in peer-to-peer operation it yields an offset. -/
def State.syncKnown (s : State) (d p : Nat) (t1 : Int) (t2 : Nat) : State :=
  let s := s.setEng d p { s.eng d p with syncWait := none, sync := some (t1, t2) }
  if (s.engine d p).p2p then s.handOffset d p t1 t2 else s

/-- A Sync at a slave: its receive stamp is t2; t1 comes with it, or in its Follow_Up. -/
def State.rxSync (s : State) (d p : Nat) (bs : List Byte) (a t2 : Nat) : State :=
  let s := s.setEng d p { s.eng d p with parent := some (ptpSource bs a), heardAt := s.now }
  if ptpTwoStep bs a then s.setEng d p { s.eng d p with syncWait := some (ptpSeq bs a, ptpCorr bs a, t2) }
  else s.syncKnown d p ((ptpTime bs (a + 34) : Int) + ptpCorr bs a) t2

/-- A Follow_Up at a slave. -/
def State.rxFollowUp (s : State) (d p : Nat) (bs : List Byte) (a : Nat) : State :=
  match (s.eng d p).syncWait with
  | none => s
  | some (seq, corr, t2) =>
    if seq = ptpSeq bs a then s.syncKnown d p ((ptpTime bs (a + 34) : Int) + corr + ptpCorr bs a) t2
    else s

/-- A Delay_Resp at a slave: it carries t4, and the exchange is complete: the path delay, and an offset. -/
def State.rxDelayResp (s : State) (d p : Nat) (bs : List Byte) (a : Nat) : State :=
  let x := s.eng d p
  match x.t3, x.sync with
  | some t3, some (t1, t2) =>
    if ptpSeq bs a = lastSeq x.seqDreq then
      let t4 := (ptpTime bs (a + 34) : Int) - ptpCorr bs a
      let rtt := (t2 - t1) + (t4 - t3)
      let s := s.setEng d p { x with t3 := none, meanPath := roundDiv rtt 2, inPath := s.pathIn d p rtt }
      (s.handOver d p [t1, t2, t3, t4]).handOffset d p t1 t2
    else s
  | _, _ => s

/-- A Pdelay exchange is complete: the mean path delay, and at a slave the exchange for the headstock. -/
def State.pdelayDone (s : State) (d p : Nat) (t1 : Nat) (t2 t3 : Int) (t4 : Nat) : State :=
  let rtt := ((t4 : Int) - t1) - (t3 - t2)
  (s.setEng d p { s.eng d p with p1 := none, pWait := none, meanPath := roundDiv rtt 2,
                                 inPath := s.pathIn d p rtt }).handOver d p [t1, t2, t3, t4]

/-- A Pdelay_Resp of the request outstanding: with one step its correction is the turnaround, else it carries t2. A one-step
response tells t3 - t2 alone, so that t2 and t3 are handed over as 0 and the turnaround (DESIGN CHOICE, log entry 49). -/
def State.rxPdelayResp (s : State) (d p : Nat) (bs : List Byte) (a t4 : Nat) : State :=
  let x := s.eng d p
  match x.p1 with
  | none => s
  | some t1 =>
    if ptpSeq bs a ≠ lastSeq x.seqPdel then s
    else if ptpTwoStep bs a then
      s.setEng d p { x with pWait := some ((ptpTime bs (a + 34) : Int) - ptpCorr bs a, t4) }
    else s.pdelayDone d p t1 0 (ptpCorr bs a) t4

/-- A Pdelay_Resp_Follow_Up carries t3. -/
def State.rxPdelayFollowUp (s : State) (d p : Nat) (bs : List Byte) (a : Nat) : State :=
  let x := s.eng d p
  match x.p1, x.pWait with
  | some t1, some (t2, t4) =>
    if ptpSeq bs a = lastSeq x.seqPdel then
      s.pdelayDone d p t1 t2 ((ptpTime bs (a + 34) : Int) + ptpCorr bs a) t4
    else s
  | _, _ => s

/-- The answer to a Pdelay_Req with correction `corr`: t3 − t2 added to it, or t2 and t3 in two messages. -/
def State.answerPdelay (s : State) (d p seq t2 : Nat) (corr : Int) : State :=
  let t3 := s.stampTx d p
  if (s.engine d p).twoStep then
    (s.ptpSend d p 3 seq (wholeNs t2) (-subNs t2)).ptpSend d p 0xA seq (wholeNs t3) (corr + subNs t3)
  else s.ptpSend d p 3 seq 0 (corr + ((t3 : Int) - t2))

/-- The engine takes up a message of its domain and transport (R110, R114; log entry 49). What it answers, it answers at
once; the correction of a request goes into its answer. -/
def State.ptpTake (s : State) (d p : Nat) (bs : List Byte) (a t : Nat) : State :=
  let e := s.engine d p
  let slave := e.state == engSlave
  match ptpType bs a with
  | 0 => if slave then s.rxSync d p bs a t else s
  | 1 => if s.engineMay d p && e.state == engMaster then
      s.ptpSend d p 9 (ptpSeq bs a) (wholeNs t) (ptpCorr bs a - subNs t) else s
  | 2 => if s.engineMay d p then s.answerPdelay d p (ptpSeq bs a) t (ptpCorr bs a) else s
  | 3 => if e.p2p then s.rxPdelayResp d p bs a t else s
  | 8 => if slave then s.rxFollowUp d p bs a else s
  | 9 => if slave && !e.p2p then s.rxDelayResp d p bs a else s
  | 0xA => if e.p2p then s.rxPdelayFollowUp d p bs a else s
  | 0xB => s.heardParent d p bs
  | _ => s

/-- The transport that a message came over (R420): Ethernet, UDP over IPv4, UDP over IPv6. -/
def Hdr.transp (h : Hdr) : Nat := if h.ipv = 4 then 1 else if h.ipv = 6 then 2 else 0

/-- A message reaches the engine of a port: `bytes` is the frame (R86, R110). -/
def execPtpMessageReceive (d p : Nat) (bytes : List (BitVec 8)) (s : State) : Out :=
  if s.portLive d p && (s.engine d p).en && s.pstate d p == psUp then
    let h := parse bytes
    match h.ptpAt with
    | none => .next s
    | some a =>
      if ptpDomain bytes a = (s.engine d p).domain ∧ h.transp = (s.engine d p).transp then
        let (f, s) := s.rxFrame d p bytes false
        .next (s.ptpTake d p bytes a f.stamp)
      else .next s
  else .next s

/-! ### The Announce receipt monitor (R113) -/

/-- The time that the monitor counts, in ticks: announceReceiptTimeout times the interval. -/
def announceTicks (c : PtpCfg) : Nat :=
  if 0 ≤ c.logAnn then secTicks * c.timeout * 2 ^ c.logAnn.toNat else ceilDiv (secTicks * c.timeout) (2 ^ (-c.logAnn).toNat)

/-- The monitor expires: a link event, with AUTO_PASSIVE the listening state, and a slave's source fails (R113, R153,
R407). -/
def execAnnounceTimeout (d p : Nat) (s : State) : Out :=
  let c := s.engine d p
  let x := s.eng d p
  if s.present d p && c.en && !x.expired then
    let s := s.advanceTo (x.announce + announceTicks c)
    let s := s.setEng d p { x with expired := true }
    let moved := c.autoPass && c.state != 1
    let s := if moved then s.setPort d p { s.port d p with ptp := { (s.port d p).ptp with state := 1 } } else s
    .next ((s.linkEvent d p (b2n moved) 4).sourceLost d p (· == 5))
  else .next s

end Sys2Proof.Machine
end

