-- ==== Sys2Proof/Machine/RelkaEvents.lean ====
section
/-! DEFINITION. Relka links: exchanges, states, phase, span, epoch, census, credits, marks (R91, R119 to R131, R136 to R145,
R163, R295 to R301). -/

namespace Sys2Proof.Machine

/-! ### Messages (R120, R122, R123) -/

/-- The 16-bit CHECK of a message at bit `n` (R123). -/
def checkOk (msg n : Nat) : Bool := bits msg n 16 == crc16 (msg % 2 ^ n) n

/-- VERSION of a message that carries it in [23:21]. -/
def msgVersion (msg : Nat) : Nat := bits msg 21 3
/-- SRC_PKG of a message that carries it in [20:16]. -/
def msgPkg (msg : Nat) : Nat := bits msg 16 5

/-- This package's number. -/
def State.ownPkg (s : State) : Nat := s.arb R.RLK_SYS_PKG_NUM

/-- Whether a Relka link takes part in exchanges: every state but OFF and FALLBACK (R131). -/
def State.rlkLive (s : State) (d p : Nat) : Bool := s.rlkState d p != rlkOff && s.rlkState d p != rlkFallback

/-- Whether Relka runs on a port that is UP: enabled, on a port fit for it (R116). -/
def State.rlkRuns (s : State) (d p : Nat) : Bool :=
  s.portLive d p && s.rlkFit d p && s.rlkState d p != rlkOff && s.pstate d p == psUp

/-- Whether the link may send timing blocks: its port UP outside every loop, its sums valid (R91, R245, R252). -/
def State.rlkMay (s : State) (d p : Nat) : Bool :=
  s.rlkRuns d p && s.rlkLive d p && s.pfld d p R.PORT_STAT_LOOP == 0 && s.dlyValid d p

/-- Whether a port takes in Relka blocks from the line: not in a near loop, and outside a loss condition, whose blocks are
error blocks (R243, R251). -/
def State.rlkHears (s : State) (d p : Nat) : Bool :=
  let loop := s.pfld d p R.PORT_STAT_LOOP
  s.rlkRuns d p && !(decide (1 ≤ loop) && decide (loop ≤ 3)) && (s.port d p).lossAt.isNone

/-- A message discarded (R120, R122). -/
def State.badMsg (s : State) (d p : Nat) : State := s.pbump d p R.RLK_CNT_BADMSG

/-- A transition marked "event": its link event (R131, R407). -/
def State.rlkEvent (s : State) (d p st : Nat) : State := s.linkEvent d p st 1

/-- The link falls back to IEEE 1588, and answers no REQ any more; a response still awaited is missed in its time (R126,
R131). -/
def State.toFallback (s : State) (d p reason : Nat) : State :=
  let s := s.updRelka d p (fun x => { x with due := [] })
  (s.rlkMoveR d p rlkFallback reason).rlkEvent d p rlkFallback

/-- The fields that REQ and RSP share (R123); TRACEABLE is that of the last word which the die's tailstock obeyed (R185);
`t` is the mark's stamp in 2^-16 ns from TAI second 0. -/
def State.rlkHead (s : State) (d p exseq t : Nat) (stepped : Bool) : Nat :=
  exseq % 65536 + s.ownPkg * 2 ^ 16 + 1 * 2 ^ 21 + s.arb R.CC_NOW_CLOCK_CLASS * 2 ^ 24 + (s.tail d).stepGen * 2 ^ 32
    + b2n (s.tail d).traceable * 2 ^ 36 + b2n (s.rlkState d p == rlkSounding) * 2 ^ 37
    + b2n stepped * 2 ^ 38 + b2n s.safe * 2 ^ 39 + tx64 t * 2 ^ 48 + t / 2 ^ 64 % 65536 * 2 ^ 112
    + s.arb R.RLK_SYS_SYS_EPOCH * 2 ^ 128

/-- A block of another KIND, or a message out of order, too late or of another CHECK or VERSION, is discarded and counted;
the message's further blocks are dropped (R120, R122). -/
def State.dropMsg (s : State) (d p : Nat) : State :=
  (s.updRelka d p (fun x => { x with part := [], lost := true })).badMsg d p

/-- Ticks from a mark block within which the last block of its message must arrive: 2,000 ns (R122). -/
def msgTicks : Nat := 1250

/-- Message `h` of a KIND is complete once its last block is there (R119, R120). -/
def State.endMsg (s : State) (d p kind : Nat) (h : Nat → State → State) : State :=
  let bs := (s.relka d p).part
  if bs.length = relkaLen kind then h (blocksMsg bs) (s.updRelka d p (fun x => { x with part := [] })) else s

/-- The mark block of a message arrives: its receive stamp is the message's (R86, R122). -/
def State.markBlock (s : State) (d p b : Nat) : State :=
  let (v, s) := s.freeNat
  s.updRelka d p (fun x => { x with
    part := [b], begunAt := s.now, mkStamp := s.stampRx d p (v % 4096), mkGen := (s.tail d).stepGen, lost := false })

/-- One block from the line, for the messages of a KIND, which `h` takes (R119, R120, R122). What is no Relka block, and what
belongs to a message of another KIND, is not for them. -/
def State.rxBlock (s : State) (d p kind : Nat) (h : Nat → State → State) (b : Nat) : State :=
  let k := blockKind b
  if bits b 0 8 ≠ 0x4B ∨ bits b 32 4 ≠ 0xA then s
  else if relkaLen k = 0 then s.badMsg d p
  else if k ≠ kind then s
  else
    let x := s.relka d p
    let s := if x.part ≠ [] ∧ x.begunAt + msgTicks < s.now then s.dropMsg d p else s
    let x := s.relka d p
    if blockIndex b = 0 then
      ((if x.part = [] then s else s.dropMsg d p).markBlock d p b).endMsg d p kind h
    else if x.lost then s
    else if x.part.length = blockIndex b ∧ (x.part.head?).any (fun m => blockKind m == k) then
      (s.updRelka d p (fun x => { x with part := x.part ++ [b] })).endMsg d p kind h
    else s.dropMsg d p

/-- Blocks from the line for the messages of a KIND, in their order. -/
def State.rxBlocks (s : State) (d p kind : Nat) (h : Nat → State → State) (bs : List Nat) : State :=
  if s.rlkHears d p then bs.foldl (fun s b => s.rxBlock d p kind h b) s else s

/-- A REQ (R123). -/
def reqMsg (head : Nat) : Nat := head + crc16 head 160 * 2 ^ 160
/-- A RSP; `t2` is the receive stamp of the REQ (R123). -/
def rspMsg (head t2 : Nat) : Nat := let m := head + tx64 t2 * 2 ^ 144; m + crc16 m 248 * 2 ^ 248

/-- A CENSUS (R300). -/
def State.censusMsg (s : State) (d p exseq : Nat) : Nat :=
  let cs := s.credited d p
  let m := exseq % 65536 + s.ownPkg * 2 ^ 16 + 1 * 2 ^ 21 + (s.port d p).txGen % 256 * 2 ^ 24
    + (cs.map (fun c => 2 ^ (32 + c) + (s.credit d p c).sent % 2 ^ 20 * 2 ^ (48 + 20 * c))).sum
  m + crc16 m 368 * 2 ^ 368

/-! ### Link states (R126, R131) -/

/-- Sixteen periods have passed without a valid RSP (R131). -/
def State.silentTest (s : State) (d p : Nat) : State :=
  if (s.relka d p).silent < 16 then s
  else if s.rlkState d p = rlkAcquire then s.toFallback d p 1
  else if s.rlkState d p = rlkDegraded then s.rlkMoveR d p rlkAcquire 4
  else s

/-- A missed response (R126, R131); `heard` where a valid RSP arrived in the period all the same. A MEASURE that runs counts
the exchange as one that does not qualify (R137, R138). -/
def State.missed (s : State) (d p : Nat) (heard : Bool) : State :=
  let x := s.relka d p
  let s := s.setRelka d p { x with
    req := none, answered := 0, misses := x.misses + 1, silent := if heard then 0 else x.silent + 1,
    snd := if x.snd.num.isSome then { x.snd with bad := x.snd.bad + 1 } else x.snd }
  let s := (s.pbump d p R.RLK_CNT_MISS).pbump d p R.RLK_STAT_MISSED
  if s.rlkState d p = rlkLinked ∧ 3 ≤ x.misses + 1 then
    (s.rlkMoveR d p rlkDegraded 4).rlkEvent d p rlkDegraded
  else s

/-- An answered exchange whose REQ left at a tick (R131); it tells that the partner has heard what left before it (R34; log
entry 33). -/
def State.answered (s : State) (d p sentAt : Nat) : State :=
  let s := if (s.port d p).ackWait.any (fun t => decide (t ≤ sentAt)) then s.updPort d p (fun x => { x with ackWait := none })
    else s
  let x := s.relka d p
  let s := s.setRelka d p { x with req := none, answered := x.answered + 1, misses := 0, silent := 0 }
  let s := (s.pput d p R.RLK_STAT_MISSED 0).incr (portLoc d p) R.RLK_STAT_EXCHANGES
  let st := s.rlkState d p
  if (st = rlkAcquire ∧ 3 ≤ x.answered + 1) ∨ (st = rlkDegraded ∧ 8 ≤ x.answered + 1) then
    (s.rlkMove d p rlkLinked).rlkEvent d p rlkLinked
  else s

/-- Ticks from the REQ to the end of the wait for its RSP (R126). -/
def State.rspWait (s : State) (d p : Nat) : Nat :=
  if s.rlkState d p = rlkAcquire then nsTicks 440000
  else ceilDiv ((2 * s.pair (portLoc d p) R.RLK_PDELAY_LO_PDELAY R.RLK_PDELAY_HI_PDELAY + 2400 * 65536) * 5) fuTick

/-- No matching RSP has arrived in time (R126). -/
def execRelkaResponseMiss (d p : Nat) (s : State) : Out :=
  match (s.relka d p).req with
  | none => .next s
  | some q => .next ((s.advanceTo (q.tick + s.rspWait d p)).missed d p false)

/-- Sixteen consecutive periods have passed without a valid RSP (R131). -/
def execRelkaSilentPeriods (d p : Nat) (s : State) : Out := .next (s.silentTest d p)

/-- The last block of a message that has begun has not arrived within 2,000 ns of its mark block (R122). -/
def execRelkaMessageTimeout (d p : Nat) (s : State) : Out :=
  if (s.relka d p).part = [] then .next s
  else .next ((s.advanceTo ((s.relka d p).begunAt + msgTicks)).dropMsg d p)

/-! ### The exchange (R124, R125) -/

/-- Length of a period and its half in 2^-16 ns (R124). -/
def rlkPeriod : Nat := 64000000000

/-- The next start of an exchange of this end, the last one apart: its number 1,024 s + n, and its time in 2^-16 ns on the
timescale as it now reads (R124). -/
def State.nextStart (s : State) (d p : Nat) : Nat × Nat :=
  let off := if s.ownPkg < s.pfld d p R.RLK_CTRL_PARTNER_PKG then 0 else rlkPeriod / 2
  let k := ceilDiv (s.nowU d - off) rlkPeriod
  let k := if (s.relka d p).last = some (k, (s.tail d).stepGen) then k + 1 else k
  (k, k * rlkPeriod + off)

/-- An exchange starts (R124, R136): the clock reaches its start, and a frame in transmission ends first (R121); a response
still awaited counts as missed (R126). With n = 0 the CENSUS follows. -/
def execRelkaReqSend (d p : Nat) (s : State) : Out :=
  if !s.rlkMay d p then .next s
  else
    let (k, u) := s.nextStart d p
    let s := (s.advance (ceilDiv (5 * u - (s.tail d).fu) fuTick)).finishTx d p
    let s := if (s.relka d p).req.isSome then s.missed d p false else s
    let s := s.silentTest d p
    if !s.rlkMay d p then .next s
    else
      let t := s.stampTx d p
      let x := s.relka d p
      let q : RlkReq := { exseq := k % 65536, t1 := t, gen := (s.tail d).stepGen, tick := s.now,
                          sound := s.rlkState d p == rlkSounding, hit := x.hits, a := sx (s.pfld d p R.RLK_ASYM_EFF_A) 32,
                          meas := x.snd.num }
      let s := s.setRelka d p { x with req := some q, last := some (k, (s.tail d).stepGen) }
      let s := s.sendRelka d p 1 (reqMsg (s.rlkHead d p (k % 65536) t false))
      .next (if k % 1024 = 0 then s.sendRelka d p 3 (s.censusMsg d p (k % 65536)) else s)

/-- A REQ is complete (R122, R125, R131, R142): its RSP is due at the first block position, which is at once, or the end of
the frame in transmission (R121). -/
def State.takeReq (d p msg : Nat) (s : State) : State :=
  if !checkOk msg 160 ∨ msgVersion msg ≠ 1 then s.badMsg d p
  else if msgPkg msg = s.ownPkg then s.toFallback d p 2
  else if !s.rlkMay d p then s
  else
    s.updRelka d p (fun x => { x with
      due := x.due ++ [{ exseq := msg % 65536, t2 := x.mkStamp, gen := x.mkGen, at_ := max s.now (s.txEnd d p) }] })

/-- Blocks of a REQ arrive. -/
def execRelkaReqReceive (d p : Nat) (blocks : List Nat) (s : State) : Out :=
  .next (s.rxBlocks d p 1 (State.takeReq d p) blocks)

/-- A transmit stamp of a port for a tick of the monotonic count that has passed (R87, R89). -/
def State.stampTxAt (s : State) (d p tick : Nat) : Nat :=
  (s.setTail d { s.tail d with n := (s.tail d).n - (s.now - tick) }).stampTx d p

/-- The oldest RSP that is due leaves: its mark lies at the first block position that R121 allows after the REQ, and its
stamp is of that tick (R123, R125). -/
def execRelkaRspSend (d p : Nat) (s : State) : Out :=
  match (s.relka d p).due with
  | [] => .next s
  | q :: rest =>
    let s := (s.advanceTo q.at_).finishTx d p
    if !s.rlkMay d p then .next s
    else
      let head := s.rlkHead d p q.exseq (s.stampTxAt d p q.at_) ((s.tail d).stepGen != q.gen)
      .next ((s.updRelka d p (fun x => { x with due := rest })).sendRelka d p 2 (rspMsg head q.t2))

/-! ### A response (R126 to R128, R130, R137, R138, R143, R153) -/

/-- The signed difference of two 80-bit times: 64 bits of nanoseconds, 16 below (R127). -/
def d80 (a b : Nat) : Int := sx (toBits ((a : Int) - b) 80) 80

/-- The means over the last 1,024 valid exchanges (R130), each to the nearest 2^-16 ns, halves up (DESIGN CHOICE, log entry
20). -/
def State.rlkMeans (s : State) (d p : Nat) : State :=
  let m := (s.relka d p).meas
  if m = [] then s
  else
    let n := 2 * m.length
    let dd := toBits (roundDiv (m.map Prod.snd).sum n) 48
    (s.pput d p R.RLK_OFFSET_THETA (satBits (roundDiv (m.map Prod.fst).sum n) 32)).putPair (portLoc d p)
      R.RLK_PDELAY_LO_PDELAY R.RLK_PDELAY_HI_PDELAY dd

/-- The pending epoch that a valid RSP of the selected link brings (R143). -/
def State.rlkEpoch (s : State) (d p e : Nat) : State :=
  if s.selRelka && s.selected.any (fun i => s.refPort i == (d, p)) then
    if e = s.arb R.RLK_SYS_SYS_EPOCH then s.setServo { s.servo with pendEpoch := none }
    else s.setServo { s.servo with pendEpoch := some e }
  else s

/-- A qualifying exchange of MEASURE, or one that does not qualify (R137, R138). -/
def State.soundOne (s : State) (d p : Nat) (q : RlkReq) (rspSound : Bool) (rtt : Option Int) : State :=
  let x := s.snd d p
  match x.num with
  | none => s
  | some n =>
    match s.flight n with
    | none => s
    | some _ =>
      match (if q.meas == some n && q.sound && rspSound then rtt else none) with
      | none => s.setSnd d p { x with bad := x.bad + 1 }
      | some r =>
        let x := { x with got := x.got + 1, sum := x.sum + r }
        if x.got < x.need then s.setSnd d p x
        else
          let mean := toBits (roundDiv x.sum x.need) 48
          let loc := portLoc d p
          let s := if x.pairB then s.putPair loc R.RLK_SND_RTT_B_RTT_LO R.RLK_SND_RTT_B_RTT_HI mean
            else s.putPair loc R.RLK_SND_RTT_A_RTT_LO R.RLK_SND_RTT_A_RTT_HI mean
          let y := { x with num := none }
          let y := if x.pairB then { y with doneB := some (x.tx, x.rx), nB := x.need }
            else { y with doneA := some (x.tx, x.rx), nA := x.need }
          (s.setSnd d p y).finishPart (some n) (okC x.bad)

/-- Whether a link's measurements go to the headstock (R129, R131, R139). -/
def State.rlkGives (s : State) (d p : Nat) : Bool :=
  s.activeHs.isSome && s.rlkState d p != rlkDegraded && s.rlkState d p != rlkSounding

/-- The four stamps of an answered exchange (R127, R128): the measurement, which goes to the headstock (R129), or its
discard. Without a valid t4 there is neither (R91). -/
def State.measureOne (s : State) (d p : Nat) (q : RlkReq) (msg t4 : Nat) : State :=
  let t3 := bits msg 48 64 + bits msg 112 16 * 2 ^ 64
  let t2 := fromTx64 t3 (bits msg 144 64)
  let rspSound := bit msg 37
  let x := s.relka d p
  if !s.dlyValid d p then s.soundOne d p q rspSound none
  else if x.mkGen ≠ q.gen ∨ bit msg 38 ∨ x.hits ≠ q.hit ∨ s.activeHs.isNone then
    (s.pbump d p R.RLK_CNT_DISCARD).soundOne d p q rspSound none
  else
    let rtt := d80 t4 q.t1 - d80 t3 t2
    let th2 := d80 t4 t3 - d80 t2 q.t1 + q.a
    let s := s.setRelka d p { x with
      meas := ((th2, rtt) :: x.meas).take 1024, valid := x.valid + 1,
      gate := if s.rlkGives d p then ((s.now, th2) :: x.gate).take 2048 else x.gate }
    (s.rlkMeans d p).soundOne d p q rspSound (some rtt)

/-- What a valid RSP says of its sender (R131, R143, R151, R153, R170). -/
def State.rlkNews (s : State) (d p msg : Nat) : State :=
  let epoch := bits msg 128 16
  let traced := bit msg 36
  let safe := bit msg 39
  let s := s.setRelka d p { s.relka d p with epoch := epoch, cc := bits msg 24 8, traced := traced, safe := safe }
  let s := (s.rlkEpoch d p epoch).traceSync
  if safe || (!traced && !s.flag locArb R.REF_CTRL_ACCEPT_UNTRACED) then s.sourceLost d p (· == 6) else s

/-- A RSP is complete (R122, R126 to R128, R131, R142). -/
def State.takeRsp (d p msg : Nat) (s : State) : State :=
  if !checkOk msg 248 then s.badMsg d p
  else if msgVersion msg ≠ 1 then (s.badMsg d p).toFallback d p 3
  else
    let q := (s.relka d p).req
    if msgPkg msg ≠ s.pfld d p R.RLK_CTRL_PARTNER_PKG ∨ msgPkg msg = s.ownPkg then
      (if q.isSome then s.missed d p true else s).toFallback d p 2
    else
      match q with
      | none => s
      | some q =>
        if q.exseq ≠ msg % 65536 then s
        else if q.tick + s.rspWait d p < s.now then s.missed d p false
        else if 2000 * 65536 < sdiff (bits msg 48 64) (bits msg 144 64) then (s.rlkNews d p msg).missed d p true
        else ((s.measureOne d p q msg (s.relka d p).mkStamp).rlkNews d p msg).answered d p q.tick

/-- Blocks of a RSP arrive. -/
def execRelkaRspReceive (d p : Nat) (blocks : List Nat) (s : State) : Out :=
  .next (s.rxBlocks d p 2 (State.takeRsp d p) blocks)

/-! ### Phase and span (R129, R130) -/

/-- One reading of the recovered clock's phase (R129). -/
def State.phaseOne (s : State) (d p code : Nat) : State :=
  let x := s.relka d p
  match x.phase with
  | none => s.setRelka d p { x with phase := some code }
  | some old =>
    let step := sx (toBits ((code : Int) - old) 12) 12
    if 256 < step.natAbs then
      (s.setRelka d p { x with phase := some code, hits := x.hits + 1 }).pbump d p R.RLK_CNT_PHASE_HIT
    else
      (s.setRelka d p { x with phase := some code }).pput d p R.RLK_PHASE_PHASE_ACC
        (toBits (sx (s.pfld d p R.RLK_PHASE_PHASE_ACC) 32 + step) 32)

/-- Whether a port is locked: in MEASURING, UP or REMOTE_FAULT, and no loss condition that takes the lock runs (R241,
R244). -/
def State.locked (s : State) (d p : Nat) : Bool :=
  s.portLive d p && decide (psMeasuring ≤ s.pstate d p) && decide (s.pstate d p ≤ psRemote) && !s.rxUnlocked d p

/-- The next end of 16 word periods (R129). -/
def State.nextPhase (s : State) (d p : Nat) : Nat :=
  let t := ceilDiv s.now 6400 * 6400
  if (s.relka d p).phAt = t then t + 6400 else t

/-- Sixteen word periods are over: the readings of their ticks are taken in, and PHASE_ACC goes to the ACTIVE headstock
(R129). -/
def execPhaseDelivery (d p : Nat) (codes : List Nat) (s : State) : Out :=
  if s.locked d p && s.pflag d p R.RLK_CTRL_EN then
    let s := codes.foldl (fun s c => s.phaseOne d p c) (s.advanceTo (s.nextPhase d p))
    .next (s.updRelka d p (fun x => { x with
      phAt := s.now, phHs := if s.rlkGives d p then sx (s.pfld d p R.RLK_PHASE_PHASE_ACC) 32 else x.phHs }))
  else .next s

/-- Whether a mean delay in 2^-16 ns contradicts a span in m (R130). -/
def spanBad (pdelay span : Nat) : Bool :=
  decide (49 * span * 65536 + 6553600000 < ((100 * pdelay : Int) - 490 * span * 65536).natAbs)

/-- Another 1,024 exchanges have been valid: the delay is held against the span (R130, R407). -/
def execSpanCheck (d p : Nat) (s : State) : Out :=
  let x := s.relka d p
  if !s.present d p ∨ x.valid < 1024 then .next s
  else
    let s := s.setRelka d p { x with valid := x.valid - 1024 }
    if spanBad (s.pair (portLoc d p) R.RLK_PDELAY_LO_PDELAY R.RLK_PDELAY_HI_PDELAY) (s.port d p).span then
      .next (s.linkEvent d p 0 2)
    else .next s

/-! ### Census and credits (R296 to R301) -/

/-- The bits of the credited classes. -/
def State.creditMask (s : State) (d p : Nat) : Nat := ((s.credited d p).map (fun c => 2 ^ c)).sum

/-- One class of a census (R301); the lost cells count as received too, so that the next census finds them no more (log
entry 50). -/
def State.censusOne (s : State) (d p c sent : Nat) : State :=
  let x := s.credit d p c
  let dd := d20 sent x.recv
  if dd = 0 then s
  else if 0 < dd ∧ dd ≤ 1152 then
    let n := dd.toNat
    let s := (s.setCredit d p c { x with recv := m20 (x.recv + n) }).putLimit d p c (m20 (x.limOut + n))
    (s.pbump d p R.CRD_STAT_RESYNC).raise (portLoc d p) 0x52 (p + c * 128 + n * 2048)
  else s.raise (portLoc d p) 0x53 3

/-- A partner that sends this package's own number moves the link to FALLBACK (R142). -/
def State.ownNumber (s : State) (d p msg : Nat) : State := if msgPkg msg = s.ownPkg then s.toFallback d p 2 else s

/-- A CENSUS is complete (R122, R142, R300, R301). -/
def State.takeCensus (d p msg : Nat) (s : State) : State :=
  if !checkOk msg 368 ∨ msgVersion msg ≠ 1 then s.badMsg d p
  else
    let s := (s.ownNumber d p msg).touch 0x52 (· == portLoc d p) 0 p
    if bits msg 24 8 ≠ s.pfld d p R.CRD_STAT_GEN ∨ bits msg 32 16 ≠ s.creditMask d p then s
    else (s.credited d p).foldl (fun s c => s.censusOne d p c (bits msg (48 + 20 * c) 20)) s

/-- Blocks of a CENSUS arrive. -/
def execCensusReceive (d p : Nat) (blocks : List Nat) (s : State) : Out :=
  .next (s.rxBlocks d p 3 (State.takeCensus d p) blocks)

/-- The tick at which a CREDIT for a class is due: at once where LIMIT has advanced by 16 cells, 1 us after a smaller
advance, and 64 us after the last one in any case (R297). -/
def State.creditDue (s : State) (d p c : Nat) : Nat :=
  let x := s.credit d p c
  let adv := d20 x.limOut x.lastTx
  if 16 ≤ adv then s.now
  else if 0 < adv then min (x.advAt + usTicks 1) (x.txAt + usTicks 64)
  else x.txAt + usTicks 64

/-- A CREDIT for a class is due (R297). -/
def execCreditSend (d p c : Nat) (s : State) : Out :=
  if s.portLive d p && s.pstate d p == psUp && s.pfld d p R.PORT_STAT_LOOP == 0 && (s.credited d p).contains c then
    let s := s.creditSync d p c
    .next (((s.advanceTo (s.creditDue d p c)).creditSync d p c).sendCredit d p c false)
  else .next s

/-- An INIT CREDIT opens a generation of the partner's (R298, R299). -/
def State.creditGen (s : State) (d p gen : Nat) : State :=
  if (s.port d p).txGen = gen then s
  else s.setPort d p { s.port d p with
    txGen := gen, credit := (s.port d p).credit.map (fun x => (x.1, { x.2 with sent := 0, limIn := 0, init := false })) }

/-- Whether the handshake is complete (R299). -/
def State.handshook (s : State) (d p : Nat) : Bool := (s.credited d p).all (fun c => (s.credit d p c).init)

/-- A CREDIT is complete (R296, R297, R299): the sender keeps the last LIMIT received; INIT completes the handshake with the
last class, which ends a flap hold (R310). -/
def State.takeCredit (d p msg : Nat) (s : State) : State :=
  let c := msg % 16
  let gen := bits msg 8 8
  let lim := bits msg 16 20
  if !checkOk msg 36 ∨ bits msg 5 3 ≠ 1 then s.badMsg d p
  else if !(s.credited d p).contains c then s
  else if bit msg 4 then
    let s := s.creditGen d p gen
    let s := s.setCredit d p c { s.credit d p c with limIn := lim, init := true }
    if s.handshook d p then (s.pput d p R.CRD_STAT_READY 1).endHold d p else s
  else
    let x := s.credit d p c
    if x.init && (s.port d p).txGen == gen then s.setCredit d p c { x with limIn := lim } else s

/-- Blocks of a CREDIT arrive. -/
def execCreditReceive (d p : Nat) (blocks : List Nat) (s : State) : Out :=
  .next (s.rxBlocks d p 4 (State.takeCredit d p) blocks)

/-! ### Fence marks (R144, R145) -/

/-- A MARK arrives: the frames that arrived before it and have not passed admission are ahead of it. -/
def State.takeMark (d p msg : Nat) (s : State) : State :=
  if !s.pflag d p R.RLK_CTRL_MARK_CAP then s.badMsg d p
  else (s.updPort d p (fun x => { x with relka :=
    { x.relka with marks := x.relka.marks ++ [(msg % 65536, x.landing.length)] } })).ownNumber d p msg

/-- The block of a MARK arrives. -/
def execMarkReceive (d p : Nat) (blocks : List Nat) (s : State) : Out :=
  .next (s.rxBlocks d p 5 (State.takeMark d p) blocks)

/-- Every frame ahead of the oldest MARK has passed stage 6: its MARK_ACK leaves. -/
def execMarkAckSend (d p : Nat) (s : State) : Out :=
  match (s.relka d p).marks with
  | (id, 0) :: rest =>
    if s.rlkRuns d p && s.pfld d p R.PORT_STAT_LOOP == 0 then
      .next ((s.updRelka d p (fun x => { x with marks := rest })).sendRelka d p 6
        (markMsg id s.ownPkg (s.arb R.RLK_SYS_SYS_EPOCH)))
    else .next s
  | _ => .next s

/-- A MARK_ACK arrives: the fence that sent the MARK no longer waits for this port; it completes with the last. -/
def State.takeMarkAck (d p msg : Nat) (s : State) : State :=
  let s := s.ownNumber d p msg
  let id := msg % 65536
  let w := (msgPkg msg, portKey d p)
  match s.plyn.fences.find? (fun x => x.2.marked && x.2.marker == id && x.2.wait.contains w) with
  | none => s
  | some (n, x) =>
    let y := { x with wait := x.wait.filter (· != w), acked := x.acked ++ [w] }
    let s := { s with plyn := { s.plyn with fences := Tab.set s.plyn.fences n y } }
    match s.flight n with
    | none => s
    | some f => if (s.unacked f y).isEmpty then s.fenceOk n y else s

/-- The block of a MARK_ACK arrives. -/
def execMarkAckReceive (d p : Nat) (blocks : List Nat) (s : State) : Out :=
  .next (s.rxBlocks d p 6 (State.takeMarkAck d p) blocks)

end Sys2Proof.Machine
end

