-- ==== Sys2Proof/Machine/Dispatch.lean ====
section
/-! DEFINITION. One arm per command: which meaning it has. -/

namespace Sys2Proof.Machine

def exec (i : Instr) (s : State) : Host.Outcome State Fault Refusal :=
  match i with
  | .nop a => Sys2Proof.Machine.execNop a s
  | .fenceUnit a => Sys2Proof.Machine.execFenceUnit a s
  | .fenceCluster a => Sys2Proof.Machine.execFenceCluster a s
  | .fenceRegion a => Sys2Proof.Machine.execFenceRegion a s
  | .fenceDie a => Sys2Proof.Machine.execFenceDie a s
  | .fencePkg a => Sys2Proof.Machine.execFencePkg a s
  | .fenceSys a => Sys2Proof.Machine.execFenceSys a s
  | .fenceSetComplete a => Sys2Proof.Machine.execFenceSetComplete a s
  | .fenceSysTimeout a => Sys2Proof.Machine.execFenceSysTimeout a s
  | .waitTime a => Sys2Proof.Machine.execWaitTime a s
  | .waitTimeDue a => Sys2Proof.Machine.execWaitTimeDue a s
  | .waitEvent a => Sys2Proof.Machine.execWaitEvent a s
  | .waitEventTimeout a => Sys2Proof.Machine.execWaitEventTimeout a s
  | .cfgRead a => Sys2Proof.Machine.execCfgRead a s
  | .cfgWrite a => Sys2Proof.Machine.execCfgWrite a s
  | .cfgModify a => Sys2Proof.Machine.execCfgModify a s
  | .tasCancelWrite a => Sys2Proof.Machine.execTasCancelWrite a s
  | .tblWrite a => Sys2Proof.Machine.execTblWrite a s
  | .tblDelete a => Sys2Proof.Machine.execTblDelete a s
  | .tblRead a => Sys2Proof.Machine.execTblRead a s
  | .tblSearch a => Sys2Proof.Machine.execTblSearch a s
  | .tblCommit a => Sys2Proof.Machine.execTblCommit a s
  | .portSetMode a => Sys2Proof.Machine.execPortSetMode a s
  | .portSetRate a => Sys2Proof.Machine.execPortSetRate a s
  | .portSetSpan a => Sys2Proof.Machine.execPortSetSpan a s
  | .portSetPtp a => Sys2Proof.Machine.execPortSetPtp a s
  | .portSetRelka a => Sys2Proof.Machine.execPortSetRelka a s
  | .portSetIngress a => Sys2Proof.Machine.execPortSetIngress a s
  | .portSetDscp a => Sys2Proof.Machine.execPortSetDscp a s
  | .portUp a => Sys2Proof.Machine.execPortUp a s
  | .portDown a => Sys2Proof.Machine.execPortDown a s
  | .portLoopStart a => Sys2Proof.Machine.execPortLoopStart a s
  | .portLoopEnd a => Sys2Proof.Machine.execPortLoopEnd a s
  | .portPrbsStart a => Sys2Proof.Machine.execPortPrbsStart a s
  | .portPrbsStop a => Sys2Proof.Machine.execPortPrbsStop a s
  | .portInject a => Sys2Proof.Machine.execPortInject a s
  | .portInjectTimeout a => Sys2Proof.Machine.execPortInjectTimeout a s
  | .queSetScheduling a => Sys2Proof.Machine.execQueSetScheduling a s
  | .queSetClassShaper a => Sys2Proof.Machine.execQueSetClassShaper a s
  | .queSetAdmission a => Sys2Proof.Machine.execQueSetAdmission a s
  | .queSetPortShaper a => Sys2Proof.Machine.execQueSetPortShaper a s
  | .queSetPortFlow a => Sys2Proof.Machine.execQueSetPortFlow a s
  | .queGatelistLoad a => Sys2Proof.Machine.execQueGatelistLoad a s
  | .queGatelistOpen a => Sys2Proof.Machine.execQueGatelistOpen a s
  | .queFlush a => Sys2Proof.Machine.execQueFlush a s
  | .mirSet a => Sys2Proof.Machine.execMirSet a s
  | .timeSet a => Sys2Proof.Machine.execTimeSet a s
  | .timeStep a => Sys2Proof.Machine.execTimeStep a s
  | .timeSlew a => Sys2Proof.Machine.execTimeSlew a s
  | .timeAlign a => Sys2Proof.Machine.execTimeAlign a s
  | .timeAlignApply a => Sys2Proof.Machine.execTimeAlignApply a s
  | .timeArm a => Sys2Proof.Machine.execTimeArm a s
  | .timeArmDisarm a => Sys2Proof.Machine.execTimeArmDisarm a s
  | .timeCaptureDrain a => Sys2Proof.Machine.execTimeCaptureDrain a s
  | .timeCaptureFlush a => Sys2Proof.Machine.execTimeCaptureFlush a s
  | .tsqDrain a => Sys2Proof.Machine.execTsqDrain a s
  | .linkSoundBegin a => Sys2Proof.Machine.execLinkSoundBegin a s
  | .linkSoundMeasure a => Sys2Proof.Machine.execLinkSoundMeasure a s
  | .soundMeasureTimeout a => Sys2Proof.Machine.execSoundMeasureTimeout a s
  | .linkSoundSolve a => Sys2Proof.Machine.execLinkSoundSolve a s
  | .linkSoundEnd a => Sys2Proof.Machine.execLinkSoundEnd a s
  | .linkSoundAbort a => Sys2Proof.Machine.execLinkSoundAbort a s
  | .linkAsymSetCfg a => Sys2Proof.Machine.execLinkAsymSetCfg a s
  | .linkAsymSetCmis a => Sys2Proof.Machine.execLinkAsymSetCmis a s
  | .linkAsymSetWavelengths a => Sys2Proof.Machine.execLinkAsymSetWavelengths a s
  | .linkAsymSetConfig a => Sys2Proof.Machine.execLinkAsymSetConfig a s
  | .refSetNominate a => Sys2Proof.Machine.execRefSetNominate a s
  | .refSetWithdraw a => Sys2Proof.Machine.execRefSetWithdraw a s
  | .refSelect a => Sys2Proof.Machine.execRefSelect a s
  | .refForce a => Sys2Proof.Machine.execRefForce a s
  | .refRelease a => Sys2Proof.Machine.execRefRelease a s
  | .refAcceptStep a => Sys2Proof.Machine.execRefAcceptStep a s
  | .outSet a => Sys2Proof.Machine.execOutSet a s
  | .outFreq a => Sys2Proof.Machine.execOutFreq a s
  | .outRelockDone a => Sys2Proof.Machine.execOutRelockDone a s
  | .synthUnlock a => Sys2Proof.Machine.execSynthUnlock a s
  | .hstSwap a => Sys2Proof.Machine.execHstSwap a s
  | .hstRevive a => Sys2Proof.Machine.execHstRevive a s
  | .hstSelftestDone a b => Sys2Proof.Machine.execHstSelftestDone a b s
  | .hstCheckpoint a => Sys2Proof.Machine.execHstCheckpoint a s
  | .powWake a => Sys2Proof.Machine.execPowWake a s
  | .powSleep a => Sys2Proof.Machine.execPowSleep a s
  | .powSleepTimeout a => Sys2Proof.Machine.execPowSleepTimeout a s
  | .powBudget a => Sys2Proof.Machine.execPowBudget a s
  | .fltInject a => Sys2Proof.Machine.execFltInject a s
  | .fltInjectTimeout a => Sys2Proof.Machine.execFltInjectTimeout a s
  | .fltClearKind a => Sys2Proof.Machine.execFltClearKind a s
  | .fltClearAll a => Sys2Proof.Machine.execFltClearAll a s
  | .fltClearLatches a => Sys2Proof.Machine.execFltClearLatches a s
  | .fltClearSafe a => Sys2Proof.Machine.execFltClearSafe a s
  | .fltReact a => Sys2Proof.Machine.execFltReact a s
  | .calRun a => Sys2Proof.Machine.execCalRun a s
  | .calRunDone a b => Sys2Proof.Machine.execCalRunDone a b s
  | .calRead a => Sys2Proof.Machine.execCalRead a s
  | .calWrite a => Sys2Proof.Machine.execCalWrite a s
  | .calFactory a => Sys2Proof.Machine.execCalFactory a s
  | .calFactoryAll a => Sys2Proof.Machine.execCalFactoryAll a s
  | .diagTally a => Sys2Proof.Machine.execDiagTally a s
  | .diagLoop a => Sys2Proof.Machine.execDiagLoop a s
  | .diagLoopDone a b c => Sys2Proof.Machine.execDiagLoopDone a b c s
  | .issue => Sys2Proof.Machine.execIssue s
  | .timedPark a => Sys2Proof.Machine.execTimedPark a s
  | .timedActionDue a => Sys2Proof.Machine.execTimedActionDue a s
  | .completionRecordWrite a => Sys2Proof.Machine.execCompletionRecordWrite a s
  | .backgroundBudgetTimeout a => Sys2Proof.Machine.execBackgroundBudgetTimeout a s
  | .doorbellWrite a b c => Sys2Proof.Machine.execDoorbellWrite a b c s
  | .ringCtrlWrite a b => Sys2Proof.Machine.execRingCtrlWrite a b s
  | .ringResume a => Sys2Proof.Machine.execRingResume a s
  | .commandRingReset a => Sys2Proof.Machine.execCommandRingReset a s
  | .ringResetDone a => Sys2Proof.Machine.execRingResetDone a s
  | .completionRingReset a => Sys2Proof.Machine.execCompletionRingReset a s
  | .packetRingReset a => Sys2Proof.Machine.execPacketRingReset a s
  | .faceplateWrite a b c => Sys2Proof.Machine.execFaceplateWrite a b c s
  | .faceplateBadAccess a => Sys2Proof.Machine.execFaceplateBadAccess a s
  | .rcRegisterRead a => Sys2Proof.Machine.execRcRegisterRead a s
  | .fpIntWrite a b => Sys2Proof.Machine.execFpIntWrite a b s
  | .msixUnmask a => Sys2Proof.Machine.execMsixUnmask a s
  | .ringIntTimer a => Sys2Proof.Machine.execRingIntTimer a s
  | .fpBootGo a b => Sys2Proof.Machine.execFpBootGo a b s
  | .fpReset a b => Sys2Proof.Machine.execFpReset a b s
  | .powerGoodRise a => Sys2Proof.Machine.execPowerGoodRise a s
  | .powerGoodFall => Sys2Proof.Machine.execPowerGoodFall s
  | .rstN a => Sys2Proof.Machine.execRstN a s
  | .wrstN a => Sys2Proof.Machine.execWrstN a s
  | .hostPortReset => Sys2Proof.Machine.execHostPortReset s
  | .supplyDrop a => Sys2Proof.Machine.execSupplyDrop a s
  | .sourceStable a => Sys2Proof.Machine.execSourceStable a s
  | .sourceFail a => Sys2Proof.Machine.execSourceFail a s
  | .tailstockLrefFreeze a => Sys2Proof.Machine.execTailstockLrefFreeze a s
  | .phaseBuildOutDone => Sys2Proof.Machine.execPhaseBuildOutDone s
  | .pllCoast a => Sys2Proof.Machine.execPllCoast a s
  | .pllRelockDone a => Sys2Proof.Machine.execPllRelockDone a s
  | .pllRelockTimeout a => Sys2Proof.Machine.execPllRelockTimeout a s
  | .fastOscTimeout => Sys2Proof.Machine.execFastOscTimeout s
  | .sysReturn => Sys2Proof.Machine.execSysReturn s
  | .sysToLref a => Sys2Proof.Machine.execSysToLref a s
  | .lrefSelWrite a => Sys2Proof.Machine.execLrefSelWrite a s
  | .pllRatioWrite a => Sys2Proof.Machine.execPllRatioWrite a s
  | .gateIdle a => Sys2Proof.Machine.execGateIdle a s
  | .gateTimeout a => Sys2Proof.Machine.execGateTimeout a s
  | .spindleWord => Sys2Proof.Machine.execSpindleWord s
  | .spindleWordReceive a b c => Sys2Proof.Machine.execSpindleWordReceive a b c s
  | .spindleSilent a => Sys2Proof.Machine.execSpindleSilent a s
  | .stepApply => Sys2Proof.Machine.execStepApply s
  | .stepCommit => Sys2Proof.Machine.execStepCommit s
  | .slewDone => Sys2Proof.Machine.execSlewDone s
  | .heartbeat a b => Sys2Proof.Machine.execHeartbeat a b s
  | .heartbeatTimeout a => Sys2Proof.Machine.execHeartbeatTimeout a s
  | .warmingFirstWord => Sys2Proof.Machine.execWarmingFirstWord s
  | .warmingTimeout => Sys2Proof.Machine.execWarmingTimeout s
  | .dualActiveEnd => Sys2Proof.Machine.execDualActiveEnd s
  | .hstLinkFail => Sys2Proof.Machine.execHstLinkFail s
  | .standbyFail => Sys2Proof.Machine.execStandbyFail s
  | .checkpointWrite => Sys2Proof.Machine.execCheckpointWrite s
  | .ckptStale => Sys2Proof.Machine.execCkptStale s
  | .todMessage a => Sys2Proof.Machine.execTodMessage a s
  | .refActivityFail a => Sys2Proof.Machine.execRefActivityFail a s
  | .refGateEnd a => Sys2Proof.Machine.execRefGateEnd a s
  | .settleWindowEnd a => Sys2Proof.Machine.execSettleWindowEnd a s
  | .servoLock => Sys2Proof.Machine.execServoLock s
  | .frameReceive a b c d => Sys2Proof.Machine.execFrameReceive a b c d s
  | .pipelineFrame a b => Sys2Proof.Machine.execPipelineFrame a b s
  | .frameTransmit a b => Sys2Proof.Machine.execFrameTransmit a b s
  | .pktFromHostEntry a => Sys2Proof.Machine.execPktFromHostEntry a s
  | .pfcFrameReceive a b c d => Sys2Proof.Machine.execPfcFrameReceive a b c d s
  | .pfcPauseExpiry a b c => Sys2Proof.Machine.execPfcPauseExpiry a b c s
  | .pfcRefresh a b c => Sys2Proof.Machine.execPfcRefresh a b c s
  | .egressStatusBroadcast a => Sys2Proof.Machine.execEgressStatusBroadcast a s
  | .bridgeFlitReceive a b c => Sys2Proof.Machine.execBridgeFlitReceive a b c s
  | .bridgeLaneFail a b c => Sys2Proof.Machine.execBridgeLaneFail a b c s
  | .bridgeFailoverDone a b => Sys2Proof.Machine.execBridgeFailoverDone a b s
  | .bridgeDown a b => Sys2Proof.Machine.execBridgeDown a b s
  | .bridgeUp a b => Sys2Proof.Machine.execBridgeUp a b s
  | .drainGapEnd a b c => Sys2Proof.Machine.execDrainGapEnd a b c s
  | .drainGapExpiry a b c => Sys2Proof.Machine.execDrainGapExpiry a b c s
  | .flapHoldExpiry a b => Sys2Proof.Machine.execFlapHoldExpiry a b s
  | .frerResetTimeout a b => Sys2Proof.Machine.execFrerResetTimeout a b s
  | .duplicateEntryForget a b c d => Sys2Proof.Machine.execDuplicateEntryForget a b c d s
  | .signalDetect a b => Sys2Proof.Machine.execSignalDetect a b s
  | .autonegComplete a b => Sys2Proof.Machine.execAutonegComplete a b s
  | .trainingComplete a b => Sys2Proof.Machine.execTrainingComplete a b s
  | .trainingFail a b => Sys2Proof.Machine.execTrainingFail a b s
  | .lockComplete a b c => Sys2Proof.Machine.execLockComplete a b c s
  | .lockTimeout a b => Sys2Proof.Machine.execLockTimeout a b s
  | .measuringDone a b c => Sys2Proof.Machine.execMeasuringDone a b c s
  | .lossCondition a b c => Sys2Proof.Machine.execLossCondition a b c s
  | .lossConditionClear a b => Sys2Proof.Machine.execLossConditionClear a b s
  | .debounceExpiry a b => Sys2Proof.Machine.execDebounceExpiry a b s
  | .remoteFaultReceived a b => Sys2Proof.Machine.execRemoteFaultReceived a b s
  | .remoteFaultCleared a b => Sys2Proof.Machine.execRemoteFaultCleared a b s
  | .transmitShort a b c => Sys2Proof.Machine.execTransmitShort a b c s
  | .transmitOpenSense a b c d => Sys2Proof.Machine.execTransmitOpenSense a b c d s
  | .fecDegradeCheck a b c => Sys2Proof.Machine.execFecDegradeCheck a b c s
  | .prbsCheckerLock a b c => Sys2Proof.Machine.execPrbsCheckerLock a b c s
  | .prbsCheckerUnlock a b c => Sys2Proof.Machine.execPrbsCheckerUnlock a b c s
  | .announceTimeout a b => Sys2Proof.Machine.execAnnounceTimeout a b s
  | .ptpSyncSend a b => Sys2Proof.Machine.execPtpSyncSend a b s
  | .ptpDelayReqSend a b => Sys2Proof.Machine.execPtpDelayReqSend a b s
  | .ptpPdelayReqSend a b => Sys2Proof.Machine.execPtpPdelayReqSend a b s
  | .ptpMessageReceive a b c => Sys2Proof.Machine.execPtpMessageReceive a b c s
  | .relkaReqSend a b => Sys2Proof.Machine.execRelkaReqSend a b s
  | .relkaReqReceive a b c => Sys2Proof.Machine.execRelkaReqReceive a b c s
  | .relkaRspSend a b => Sys2Proof.Machine.execRelkaRspSend a b s
  | .relkaRspReceive a b c => Sys2Proof.Machine.execRelkaRspReceive a b c s
  | .relkaResponseMiss a b => Sys2Proof.Machine.execRelkaResponseMiss a b s
  | .relkaSilentPeriods a b => Sys2Proof.Machine.execRelkaSilentPeriods a b s
  | .relkaMessageTimeout a b => Sys2Proof.Machine.execRelkaMessageTimeout a b s
  | .phaseDelivery a b c => Sys2Proof.Machine.execPhaseDelivery a b c s
  | .spanCheck a b => Sys2Proof.Machine.execSpanCheck a b s
  | .censusReceive a b c => Sys2Proof.Machine.execCensusReceive a b c s
  | .creditSend a b c => Sys2Proof.Machine.execCreditSend a b c s
  | .creditReceive a b c => Sys2Proof.Machine.execCreditReceive a b c s
  | .markReceive a b c => Sys2Proof.Machine.execMarkReceive a b c s
  | .markAckSend a b => Sys2Proof.Machine.execMarkAckSend a b s
  | .markAckReceive a b c => Sys2Proof.Machine.execMarkAckReceive a b c s
  | .wakeGrant => Sys2Proof.Machine.execWakeGrant s
  | .pipelineWakeReady a b => Sys2Proof.Machine.execPipelineWakeReady a b s
  | .autoSleep a b => Sys2Proof.Machine.execAutoSleep a b s
  | .gatePrewake a b => Sys2Proof.Machine.execGatePrewake a b s
  | .gatelistStart a b => Sys2Proof.Machine.execGatelistStart a b s
  | .gateChange a b => Sys2Proof.Machine.execGateChange a b s
  | .thermalSample a => Sys2Proof.Machine.execThermalSample a s
  | .captureEdge a b c => Sys2Proof.Machine.execCaptureEdge a b c s
  | .triggerFire a => Sys2Proof.Machine.execTriggerFire a s
  | .pulseEdge a b => Sys2Proof.Machine.execPulseEdge a b s
  | .faultMessage a => Sys2Proof.Machine.execFaultMessage a s
  | .hstLinkUp => Sys2Proof.Machine.execHstLinkUp s
  | .warmingSelfCheckFail a => Sys2Proof.Machine.execWarmingSelfCheckFail a s
  | .portInjectDone a => Sys2Proof.Machine.execPortInjectDone a s
  | .outputRestart a b => Sys2Proof.Machine.execOutputRestart a b s
  | .autonegRestart a b => Sys2Proof.Machine.execAutonegRestart a b s
  | .referencePulse a b => Sys2Proof.Machine.execReferencePulse a b s
  | .busMasteringEnable => Sys2Proof.Machine.execBusMasteringEnable s
  | .tapInstructionLoad a => Sys2Proof.Machine.execTapInstructionLoad a s

end Sys2Proof.Machine
end

