-- ==== Sys2Proof/Machine/Step.lean ====
section
/-! DEFINITION. One step: the command at the front of the queue, or a tick of the block's clock. -/

namespace Sys2Proof.Machine

/-- The tick of an empty queue: once LREF has started them, every tailstock counts one tick of 1.6 ns (R82, R85, R334;
log entry 8). -/
def idle (s : State) : State := if s.clk.lrefOn then s.advance 1 else s

/-- Takes the command at the front of the queue and answers what it does with the queue's rest. -/
def step (s : State) : Host.Outcome State Fault Refusal :=
  match s.pending with
  | [] => .next (idle s)
  | c :: rest => exec c { s with pending := rest }

/-- The state with the command that a word spells put at the front of its queue; no row of the table has bits. -/
def State.withFetchWord (s : State) (nbits w : Nat) : State :=
  match decodeTableWord nbits w with
  | none => s
  | some c => { s with pending := c :: s.pending }

end Sys2Proof.Machine
end

