-- ==== Sys2Proof/Safety.lean ====
section
/-! DEFINITION. What counts as a safe run, and the invariant of the state: the canonical forms of memory and tables, and the
ranges that the spec gives to what the block counts. -/

namespace Sys2Proof.Machine

/-- A step that answers a state: the block goes on. -/
def Answers (s : State) : Prop := ∃ t, step s = .next t

/-- A run of `k` steps from a state, each of which answers a state. -/
def SafeRun : Nat → State → Prop
  | 0, _ => True
  | k + 1, s => ∃ t, step s = .next t ∧ SafeRun k t

/-- Both memories that DMA reaches have their canonical form (R443). -/
def State.memWf (s : State) : Prop := Memory.wf s.env.mem = true ∧ Memory.wf s.env.bulk = true

/-- The register file has its one form: locations and offsets rise strictly. -/
def State.regsWf (s : State) : Prop := Tab.wf s.regs = true

/-- A register whose write does nothing but store: outside the ports' MTU, RLK_CTRL and asymmetry inputs, the class
attributes, TAS_CANCEL, FLT_CTRL, REF_CTRL, TRG_CTRL, and the clock unit's control and PLL registers. -/
def plainReg (b : Blk) (off : Nat) : Bool :=
  match b with
  | .port _ _ => off != 4 && off != 0x300 && !(decide (0x314 ≤ off) && decide (off ≤ 0x320))
  | .cls _ => decide (0x40 ≤ off)
  | .tas _ => off != 0x100
  | .col => off != 0
  | .arb => off != 0x500
  | .trg _ => off != 0
  | .clk => off != 0 && decide (off < 0x100)
  | _ => true

/-- Fields of one register that do not overlap and lie in its 32 bits (R7). -/
def fieldsApart : List FieldDesc → Bool
  | [] => true
  | f :: fs => decide (f.lo + f.len ≤ 32) && decide (1 ≤ f.len) &&
      fs.all (fun g => decide (f.lo + f.len ≤ g.lo) || decide (g.lo + g.len ≤ f.lo)) && fieldsApart fs

/-! ### The rows that are instructions, in the terms of the claims -/

/-- Instruction rows, part 1. -/
def instrRows1 : List ((Nat → Instr) × (Cmd → Bool) × Meaning) :=
  [
    (.nop, (isOp 0x00), mNop),
    (.fenceUnit, (isOp 0x01), mFence),
    (.fenceCluster, (isOp 0x02), mFence),
    (.fenceRegion, (isOp 0x03), mFence),
    (.fenceDie, (isOp 0x04), mFence),
    (.fencePkg, (isOp 0x05), mFence),
    (.fenceSys, (isOp 0x06), mFence),
    (.waitTime, (isOp 0x08), mWaitTime),
    (.waitEvent, (isOp 0x09), mWaitEvent),
    (.cfgRead, (isOp 0x10), mCfgRead),
    (.cfgWrite, (isOp 0x11), mCfgWrite),
    (.cfgModify, (isOp 0x12), mCfgWrite),
    (.tasCancelWrite, (writesTo (fun l => l == 0xC041 || (locUnit l == 28 && locSub l == 1)) (· == 0x100)), mCfgWrite),
    (.tblWrite, (isOp 0x20), mTblWrite),
    (.tblDelete, (isOp 0x21), mTblDelete),
    (.tblRead, (isOp 0x22), mTblRead),
    (.tblSearch, (isOp 0x23), mTblSearch),
    (.tblCommit, (isOp 0x24), mTblCommit),
    (.portSetMode, (fun c => c.opcode == 0x30 && (c.opa % 16 == 0 || decide (7 ≤ c.opa % 16))), mPortSet),
    (.portSetRate, (isFunc 0x30 1), mPortSet),
    (.portSetSpan, (isFunc 0x30 2), mPortSet),
    (.portSetPtp, (isFunc 0x30 3), mPortSet),
    (.portSetRelka, (isFunc 0x30 4), mPortSet),
    (.portSetIngress, (isFunc 0x30 5), mPortSet) ]

/-- Instruction rows, part 2. -/
def instrRows2 : List ((Nat → Instr) × (Cmd → Bool) × Meaning) :=
  [
    (.portSetDscp, (isFunc 0x30 6), mPortSet),
    (.portUp, (isOp 0x31), mPortUp),
    (.portDown, (isOp 0x32), mPortDown),
    (.portLoopStart, (fun c => c.opcode == 0x33 && c.opa % 8 != 0), mPortLoop),
    (.portLoopEnd, (fun c => c.opcode == 0x33 && c.opa % 8 == 0), mPortLoop),
    (.portPrbsStart, (fun c => c.opcode == 0x34 && c.opa % 4 != 0), mPortPrbs),
    (.portPrbsStop, (fun c => c.opcode == 0x34 && c.opa % 4 == 0), mPortPrbs),
    (.portInject, (isOp 0x35), mPortInject),
    (.queSetScheduling, (fun c => isQueSet 0 c || (c.opcode == 0x40 && decide (5 ≤ bits c.opa 4 4))), mQueSet),
    (.queSetClassShaper, (isQueSet 1), mQueSet),
    (.queSetAdmission, (isQueSet 2), mQueSet),
    (.queSetPortShaper, (isQueSet 3), mQueSet),
    (.queSetPortFlow, (isQueSet 4), mQueSet),
    (.queGatelistLoad, (fun c => c.opcode == 0x41 && bit c.opa 0), mGatelist),
    (.queGatelistOpen, (fun c => c.opcode == 0x41 && !bit c.opa 0), mGatelist),
    (.queFlush, (isOp 0x42), mQueFlush),
    (.mirSet, (isOp 0x50), mMirSet),
    (.timeSet, (isOp 0x60), mTimeSet),
    (.timeStep, (isOp 0x61), mTimeStep),
    (.timeSlew, (isOp 0x62), mTimeSlew),
    (.timeAlign, (isOp 0x63), mTimeAlign),
    (.timeArm, (fun c => c.opcode == 0x64 && c.opa % 4 != 0), mTimeArm),
    (.timeArmDisarm, (fun c => c.opcode == 0x64 && c.opa % 4 == 0), mTimeArm),
    (.timeCaptureDrain, (fun c => c.opcode == 0x65 && bits c.opa 14 2 != 1), mTimeCapture) ]

/-- Instruction rows, part 3. -/
def instrRows3 : List ((Nat → Instr) × (Cmd → Bool) × Meaning) :=
  [
    (.timeCaptureFlush, (fun c => c.opcode == 0x65 && bits c.opa 14 2 == 1), mTimeCapture),
    (.tsqDrain, (isOp 0x66), mTsqDrain),
    (.linkSoundBegin, (fun c => c.opcode == 0x70 && !([2, 3, 4, 5, 15].contains (c.opa % 16))), mLinkSound),
    (.linkSoundMeasure, (fun c => c.opcode == 0x70 && (c.opa % 16 == 2 || c.opa % 16 == 3)), mLinkSound),
    (.linkSoundSolve, (isFunc 0x70 4), mLinkSound),
    (.linkSoundEnd, (isFunc 0x70 5), mLinkSound),
    (.linkSoundAbort, (isFunc 0x70 15), mLinkSound),
    (.linkAsymSetCfg, (isAsym 0), mLinkAsym),
    (.linkAsymSetCmis, (isAsym 1), mLinkAsym),
    (.linkAsymSetWavelengths, (isAsym 2), mLinkAsym),
    (.linkAsymSetConfig, (isAsym 3), mLinkAsym),
    (.refSetNominate, (fun c => c.opcode == 0x80 && bit c.opa 3), mRefSet),
    (.refSetWithdraw, (fun c => c.opcode == 0x80 && !bit c.opa 3), mRefSet),
    (.refSelect, (isOp 0x81), mRefSelect),
    (.refForce, (isOp 0x82), mRefForce),
    (.refRelease, (isOp 0x83), mRefRelease),
    (.refAcceptStep, (isOp 0x84), mRefAcceptStep),
    (.outSet, (isOp 0x90), mOutSet),
    (.outFreq, (isOp 0x91), mOutFreq),
    (.hstSwap, (isOp 0xA0), mHstSwap),
    (.hstRevive, (isOp 0xA1), mHstRevive),
    (.hstCheckpoint, (isOp 0xA2), mHstCheckpoint),
    (.powWake, (isOp 0xB0), mPowWake),
    (.powSleep, (isOp 0xB1), mPowSleep) ]

/-- Instruction rows, part 4. -/
def instrRows4 : List ((Nat → Instr) × (Cmd → Bool) × Meaning) :=
  [
    (.powBudget, (isOp 0xB2), mPowBudget),
    (.fltInject, (isOp 0xC0), mFltInject),
    (.fltClearKind, (isClear 0), mFltClear),
    (.fltClearAll, (isClear 1), mFltClear),
    (.fltClearLatches, (isClear 2), mFltClear),
    (.fltClearSafe, (isClear 3), mFltClear),
    (.fltReact, (isOp 0xC2), mFltReact),
    (.calRun, (isOp 0xD0), mCalRun),
    (.calRead, (isOp 0xD1), mCalRead),
    (.calWrite, (isOp 0xD2), mCalWrite),
    (.calFactory, (fun c => c.opcode == 0xD3 && c.item != 15), mCalFactory),
    (.calFactoryAll, (fun c => c.opcode == 0xD3 && c.item == 15), mCalFactory),
    (.diagTally, (isOp 0xE0), mDiagTally),
    (.diagLoop, (isOp 0xE1), mDiagLoop),
    (.sysToLref, (fun c => writesTo (· == locClk) (· == 0) c && bit (c.cfgWord ((fieldsAt locClk 0).getD []) 0).toNat 5), mCfgWrite),
    (.lrefSelWrite, (writesTo (· == locClk) (· == 0)), mCfgWrite),
    (.pllRatioWrite, (writesTo (· == locClk) (fun o => decide (0x100 ≤ o) && decide (o < 0x15C))), mCfgWrite) ]

/-- The rows that are an instruction starting execution: constructor, form of the entry, meaning (R52, R62). -/
def instrRows : List ((Nat → Instr) × (Cmd → Bool) × Meaning) := instrRows1 ++ instrRows2 ++ instrRows3 ++ instrRows4

/-- An issued instruction of a form starts, at one location: it may start (R62, R66), it passes the legal-state check, that is
its target is not contained (R402), safe state allows it (R376) and it names no headstock that refuses it (R178); its operands
pass (R400), and it is no broadcast (R32); fences and waits are none (R61). -/
structure Starts (form : Cmd → Bool) (m : Meaning) (n : Nat) (f : Flight) (s : State) : Prop where
  begins : s.begins n form = some f
  operands : m.bad f.cmd s = none
  legal : s.legal f.cmd f.cmd.loc = none
  one : locDie f.cmd.loc = 7 → isBlocking f.cmd.opcode = true

/-- The receive command `run` of a port and a KIND takes in a message as R119 and R122 say: at a port that hears no Relka
block it changes nothing; the blocks of a whole message in their order, on no message begun, come to what `h` does with the
message, in a state that holds the receive stamp of the mark block; a block of another type changes nothing, and one of a
KIND that R120 does not name is counted. -/
def RelkaTaken (s : State) (d p kind : Nat) (run : List Nat → Instr) (h : Nat → State → State) : Prop :=
  (s.rlkHears d p = false → ∀ bs, exec (run bs) s = .next s) ∧
  (s.rlkHears d p = true →
    (∀ msg, msg < 2 ^ (44 * relkaLen kind) → (s.relka d p).part = [] → ∃ (u : State) (v : Nat),
      exec (run (relkaBlocks kind msg)) s = .next (h msg u) ∧
      u.relka d p = { s.relka d p with begunAt := s.now, mkStamp := s.stampRx d p (v % 4096), mkGen := (s.tail d).stepGen,
                                       lost := false } ∧
      { u with ports := s.ports, freeCtr := s.freeCtr } = s) ∧
    (∀ b, b % 256 ≠ 0x4B → exec (run [b]) s = .next s) ∧
    (∀ b, b % 256 = 0x4B → bits b 32 4 = 0xA → relkaLen (blockKind b) = 0 → exec (run [b]) s = .next (s.badMsg d p)))

end Sys2Proof.Machine
end

