-- ==== Sys2Proof/Certificates/Slice0/Obligations.lean ====
section
/-! DEFINITION. The statements for the provers, family by family. `Starts form m n f s` says that issued instruction `n`
starts now at one location; `t.complete n c` is the state `t` with the completion `c` of instruction `n` recorded, whose own
effect CompletionTouchesOnlyItsRecord and the statements beside it give. -/

open Sys2Proof Sys2Proof.Machine

/-! ### The block as a whole -/

/-- A step takes the command at the front of the queue and is its effect on the rest. The model's choice (log entry 8): on
an empty queue a step is one tick of every tailstock once LREF has started them, N and M by one each, and nothing before. -/
def Obligations.StepTakesTheFrontOrTicks : Prop :=
  (∀ (s : State) (c : Instr) (rest : List Instr), s.pending = c :: rest → step s = exec c { s with pending := rest }) ∧
  (∀ s : State, s.pending = [] → ∃ t : State, step s = .next t ∧
     (s.clk.lrefOn = false → t = s) ∧
     (s.clk.lrefOn = true → ∀ i, i < 6 →
       t.tail i = { s.tail i with n := (s.tail i).n + 1, m := (s.tail i).m + 1 }) ∧
     { t with tails := s.tails } = s)

/-- Every command in every state answers a next state: nothing that can be commanded stops the block. For each of the 89
rows that are an instruction, one that starts at one location answers the state that its own effect leaves, `r`: as it is
where the instruction goes on, with its completion otherwise, and waiting for tokens where it is denied them with BACKGROUND
set (R62, R64). The rows are those of nop, fenceUnit, fenceCluster, fenceRegion, fenceDie, fencePkg, fenceSys, waitTime,
waitEvent, cfgRead, cfgWrite, cfgModify, tasCancelWrite, tblWrite, tblDelete, tblRead, tblSearch, tblCommit, portSetMode,
portSetRate, portSetSpan, portSetPtp, portSetRelka, portSetIngress, portSetDscp, portUp, portDown, portLoopStart,
portLoopEnd, portPrbsStart, portPrbsStop, portInject, queSetScheduling, queSetClassShaper, queSetAdmission,
queSetPortShaper, queSetPortFlow, queGatelistLoad, queGatelistOpen, queFlush, mirSet, timeSet, timeStep, timeSlew,
timeAlign, timeArm, timeArmDisarm, timeCaptureDrain, timeCaptureFlush, tsqDrain, linkSoundBegin, linkSoundMeasure,
linkSoundSolve, linkSoundEnd, linkSoundAbort, linkAsymSetCfg, linkAsymSetCmis, linkAsymSetWavelengths, linkAsymSetConfig,
refSetNominate, refSetWithdraw, refSelect, refForce, refRelease, refAcceptStep, outSet, outFreq, hstSwap, hstRevive,
hstCheckpoint, powWake, powSleep, powBudget, fltInject, fltClearKind, fltClearAll, fltClearLatches, fltClearSafe,
fltReact, calRun, calRead, calWrite, calFactory, calFactoryAll, diagTally, diagLoop, sysToLref, lrefSelWrite,
pllRatioWrite. -/
def Obligations.EveryCommandAnswers : Prop :=
  (∀ (c : Instr) (s : State), ∃ t : State, exec c s = .next t) ∧
  (∀ row ∈ instrRows, ∀ (n : Nat) (f : Flight) (s : State), Starts row.2.1 row.2.2 n f s →
     let r := row.2.2.run f f.cmd.loc s
     (r.2 = none → exec (row.1 n) s = .next r.1) ∧
     (∀ c, r.2 = some c → (f.cmd.bg = true ∧ c.status = stDenied) → exec (row.1 n) s = .next (row.2.2.await f s)) ∧
     (∀ c, r.2 = some c → ¬(f.cmd.bg = true ∧ c.status = stDenied) → exec (row.1 n) s = .next (r.1.complete n c)))

/-- Reset: nothing pending, FP_BOOT.STATE 0, FP_BOOT_STATE and every other register at its reset word, memory and registers
in their one form. -/
def Obligations.ResetIsInForm : Prop :=
  State.reset.pending = [] ∧ State.reset.memWf ∧ State.reset.regsWf ∧ State.reset.env.mem = [] ∧
    (∀ loc off, State.reset.reg loc off = resetWord State.reset.part loc off) ∧
    State.reset.fp R.FP_BOOT_STATE = 0 ∧ State.reset.servoState = 0 ∧ State.reset.safe = false

/-- Every step keeps both memories in their canonical form and the register file in its one form. -/
def Obligations.StepKeepsMemoryAndRegisterForm : Prop :=
  ∀ s t : State, s.memWf → s.regsWf → step s = .next t → t.memWf ∧ t.regsWf

/-! ### Starting and refusing an instruction (R62, R63, R376, R402) -/

/-- For every row that is an instruction: where none of its form can start nothing happens (log entry 1). Where one starts,
it is refused for the containment of its target (0xFD), then by safe state (0xFE), then by a headstock that is not ACTIVE
(its state; a CFG.READ of a STANDBY's unit 5, fences and waits apart), then for its operands (BAD_OPERAND; the model's
order, log entry 52), and none of these has any effect beside the completion. -/
def Obligations.InstructionsAreCheckedInOrder : Prop :=
  ∀ r ∈ instrRows, ∀ (n : Nat) (s : State),
    (s.begins n r.2.1 = none → exec (r.1 n) s = .next s) ∧
    ∀ f, s.begins n r.2.1 = some f →
      let st := s.hs (locDie f.cmd.loc == 5)
      (locDie f.cmd.loc ≠ 7 →
        (s.targetContained f.cmd f.cmd.loc = true →
          exec (r.1 n) s = .next (s.complete n { status := stConflict, detail := 0xFD })) ∧
        (s.targetContained f.cmd f.cmd.loc = false → s.safe = true → safeForbids f.cmd.opcode = true →
          exec (r.1 n) s = .next (s.complete n { status := stConflict, detail := 0xFE })) ∧
        (s.targetContained f.cmd f.cmd.loc = false → (s.safe = true → safeForbids f.cmd.opcode = false) →
          isBlocking f.cmd.opcode = false → locDie f.cmd.loc = 4 ∨ locDie f.cmd.loc = 5 → st ≠ 4 →
          ¬(f.cmd.opcode = 0x10 ∧ locUnit f.cmd.loc = 5 ∧ st = 2) →
          exec (r.1 n) s = .next (s.complete n { status := stConflict, detail := st }))) ∧
      ((if f.cmd.isCast then s.castLegal f.cmd else s.legal f.cmd f.cmd.loc) = none → ∀ d, r.2.2.bad f.cmd s = some d →
        exec (r.1 n) s = .next (s.complete n { status := stBadOperand, detail := d }))

/-- A broadcast (R32, R402): contained on every S-die it completes 0xFD; refused on one that is not contained it has no
effect on any, but where a host-memory access failed the effects already made stay (R401), and where tokens are denied with
BACKGROUND set it waits for them (R64); otherwise each of these S-dies in ascending order has run it, and it completes with
the first one's result where none goes on, or with 0xFD where some S-die was left out. -/
def Obligations.BroadcastsRunOnEveryDieOrNone : Prop :=
  ∀ r ∈ instrRows, ∀ (n : Nat) (f : Flight) (s : State),
    s.begins n r.2.1 = some f → r.2.2.bad f.cmd s = none → locDie f.cmd.loc = 7 → isBlocking f.cmd.opcode = false →
    let free := (sDies s.part).filter (fun d => !s.targetContained f.cmd (onDie f.cmd.loc d))
    let x := free.foldl (Cast.step r.2.2 f) { st := s }
    (free = [] → exec (r.1 n) s = .next (s.complete n (conflictC 0xFD))) ∧
    (free ≠ [] → (∀ c, x.worst = some c →
        (c.status ≠ stFault → ¬(f.cmd.bg = true ∧ c.status = stDenied) → exec (r.1 n) s = .next (s.complete n c)) ∧
        (c.status = stFault → exec (r.1 n) s = .next (x.st.complete n c)) ∧
        (f.cmd.bg = true → c.status = stDenied → exec (r.1 n) s = .next (r.2.2.await f s))) ∧
      (x.worst = none →
        (x.goes = true → exec (r.1 n) s = .next x.st) ∧
        (x.goes = false →
          (free.length < (sDies s.part).length → exec (r.1 n) s = .next (x.st.complete n (conflictC 0xFD))) ∧
          (free.length = (sDies s.part).length → exec (r.1 n) s = .next (x.st.complete n (okC (x.first.getD 0)))))))

/-! ### Completions (R54, R55, R57, R62, R72, R77) -/

/-- An untimed instruction that completes with a record to write and room for it: it retires, holds no slot, RETIRED counts,
the record of R54 lies at the TAIL of its completion ring, which advances, and no other byte of host memory changes. -/
def Obligations.CompletionWritesARecordAndRetires : Prop :=
  ∀ (n : Nat) (f : Flight) (s : State) (c : Compl),
    s.flight n = some f → f.cmd.timed = false → f.late = none → f.mute = false →
    s.memWf → (c.status ≠ stOk ∨ f.cmd.always = true) → f.ring < 32 → s.ringOpen (s.cqOf f.ring) = true →
    let q := s.ring (s.cqOf f.ring)
    let a := q.base + 16 * (q.tail % 2 ^ q.sizeLog2)
    let t := s.complete n c
    (∃ g, t.flight n = some g ∧ g.phase = .retired ∧ g.tags = [] ∧ g.cmd = f.cmd) ∧
    (t.ring (s.cqOf f.ring)).tail = (q.tail + 1) % q.span ∧
    (t.ring f.ring).retired = ((s.ring f.ring).retired + 1) % 2 ^ 32 ∧
    (s.route a 16 = .host →
      (∀ i, i < 16 → memByte t.env.mem (a + i) =
        (leBytes 16 (recWord f.cmd.cookie c.status c.detail f.ring f.tag0 c.result
          (f.started.getD (c.time.getD (tx64 (s.nowU f.cmd.timeDie)))))).getD i 0) ∧
      (∀ b, b < a ∨ a + 16 ≤ b → memByte t.env.mem b = memByte s.env.mem b) ∧ t.env.bulk = s.env.bulk)

/-- A completion with no record to write (OK without ALWAYS) retires the instruction at once and writes no byte; one that
finds no room keeps its slot, and its record is still to be written. A ring with HOE halts on a status other than OK and
LATE, with that status in HALT_STATUS; no other completion halts a ring (R72). What a completion can change: issued
instruction `n`, the rings, host memory and the bulk window, interrupt state and messages, faceplate registers, and
POW_CNT.DENIED. Everything else in the block is as before. -/
def Obligations.CompletionsWithoutARecordAndFrame : Prop :=
  (∀ (n : Nat) (f : Flight) (s : State) (c : Compl),
     s.flight n = some f → f.cmd.timed = false → f.late = none → f.mute = false → f.ring < 32 →
     (c.status = stOk → f.cmd.always = false →
       (∃ g, (s.complete n c).flight n = some g ∧ g.phase = .retired ∧ g.tags = []) ∧
       ((s.complete n c).ring f.ring).retired = ((s.ring f.ring).retired + 1) % 2 ^ 32 ∧
       (s.complete n c).env = s.env) ∧
     ((c.status ≠ stOk ∨ f.cmd.always = true) → s.ringOpen (s.cqOf f.ring) = false →
       (∃ g, (s.complete n c).flight n = some g ∧ g.tags = f.tags ∧ g.phase =
         .record c.status c.detail c.result (f.started.getD (c.time.getD (tx64 (s.nowU f.cmd.timeDie))))) ∧
       ((s.complete n c).ring f.ring).retired = (s.ring f.ring).retired ∧ (s.complete n c).env = s.env)) ∧
  (∀ (n : Nat) (f : Flight) (s : State) (c : Compl),
     s.flight n = some f → f.cmd.timed = false → f.late = none → f.ring < 32 → (s.ring f.ring).halted = false →
     ((s.ring f.ring).hoe = true → c.status ≠ stOk → c.status ≠ stLate →
       ((s.complete n c).ring f.ring).halted = true ∧ ((s.complete n c).ring f.ring).haltStatus = c.status) ∧
     ((s.ring f.ring).hoe = false ∨ c.status = stOk ∨ c.status = stLate →
       ((s.complete n c).ring f.ring).halted = false)) ∧
  (∀ (n : Nat) (s : State) (c : Compl),
     let t := s.complete n c
     { t with plyn := s.plyn, rings := s.rings, env := s.env, regs := s.regs, msixPend := s.msixPend, sent := s.sent } = s ∧
     (∀ m, m ≠ n → t.flight m = s.flight m) ∧
     (∀ loc off, loc ≠ locFp → off < 16777216 → (loc ≠ locLed ∨ off ≠ R.POW_CNT_DENIED.off ∨ c.status ≠ stDenied) →
       t.reg loc off = s.reg loc off) ∧
     { t.env with mem := s.env.mem, bulk := s.env.bulk } = s.env)

/-! ### CTL: NOP, fences, waits -/

/-- NOP completes OK with RESULT16 0 and no other effect (R409). WAIT.TIME waits for any time but the one exactly a horizon
away, which completes OUT_OF_HORIZON; its end comes at the event tailstock's first tick at or after the time, or on the next
tick where that has passed, and completes OK (R81). WAIT.EVENT waits, TIMEOUT counted from its issue; an operand without an
event code of 1 to 7 or with TIMEOUT 0 is out of range; an event of its kind completes the one wait for it OK, with the kind in
DETAIL and the event's result and time; at the timeout the wait completes TIMEOUT, the clock standing at or behind it
(R410). -/
def Obligations.NopAndWaitsComplete : Prop :=
  (∀ (n : Nat) (f : Flight) (s : State), Starts (isOp 0x00) mNop n f s →
     exec (.nop n) s = .next (s.complete n { status := stOk })) ∧
  (∀ (n : Nat) (f : Flight) (s : State),
     (Starts (isOp 0x08) mWaitTime n f s →
       (sdiff f.cmd.opb s.txNow ≠ -horizon →
         ∃ t : State, exec (.waitTime n) s = .next t ∧ t.flight n = some { f with phase := .exec 0 } ∧ { t with plyn := s.plyn } = s) ∧
       (sdiff f.cmd.opb s.txNow = -horizon → exec (.waitTime n) s = .next (s.complete n { status := stHorizon }))) ∧
     (∀ due, s.flight n = some f → f.phase = .exec due → f.cmd.opcode = 0x08 →
       (sdiff f.cmd.opb s.txNow ≤ 0 → exec (.waitTimeDue n) s = .next ((s.advance 1).complete n { status := stOk })) ∧
       (0 < sdiff f.cmd.opb s.txNow →
         ∃ k, exec (.waitTimeDue n) s = .next ((s.advance k).complete n { status := stOk }) ∧
           5 * fromTx64 (s.nowU 6) f.cmd.opb ≤ ((s.advance k).tail 5).fu ∧
           (k = 0 ∨ ((s.advance (k - 1)).tail 5).fu < 5 * fromTx64 (s.nowU 6) f.cmd.opb)))) ∧
  (∀ (n : Nat) (f : Flight) (s : State),
     (Starts (isOp 0x09) mWaitEvent n f s → ∃ t : State, exec (.waitEvent n) s = .next t ∧
       t.flight n = some { f with phase := .exec (f.at_ + 625 * (f.cmd.opb % 2 ^ 32)) } ∧ { t with plyn := s.plyn } = s) ∧
     (s.begins n (isOp 0x09) = some f → (f.cmd.opa % 16 = 0 ∨ 7 < f.cmd.opa % 16 ∨ f.cmd.opb % 2 ^ 32 = 0) →
       exec (.waitEvent n) s = .next (s.complete n { status := stBadOperand, detail := 6 })) ∧
     (∀ due, s.flight n = some f → f.phase = .exec due → f.cmd.opcode = 0x09 →
       exec (.waitEventTimeout n) s = .next ((s.advanceTo due).complete n { status := stTimeout }) ∧
       due ≤ (s.advanceTo due).now ∧ s.now ≤ (s.advanceTo due).now) ∧
     (∀ kind result time, f.num = n →
       s.plyn.flights.filter (fun g => g.cmd.opcode == 9 && g.phase.isOpen && g.cmd.opb != 0 && g.cmd.opa % 16 == kind) = [f] →
       s.wakeWaits kind result time =
         s.complete n { status := stOk, detail := kind, result := result, time := some time }))

/-- The six fences: one whose named partners all have a qualifying port starts to wait. Its set holds exactly the earlier
instructions of its own ring and of the groups its mask names that lie in its scope, blocking ones and endless series left
out; its reported part holds those behind the ring's last fence. Nothing changes but the fence and its ring. FENCE.SYS with
a partner that no port qualifies for completes NO_TARGET naming it, and the ring's next fence reports from behind it (R68 to
R71). A fence whose LOC names a headstock that is not ACTIVE completes STATE_CONFLICT with its state (R178; the model's
reading, log entry 51). The end of a fence. Once every member has completed, a timed one at least been
parked and with WAIT_TIMED retired or brought to its last record, and, from FENCE.PKG on, no timescale change among them
still waits for the six tailstocks, a fence without partners completes OK: DETAIL tells
whether a reported member failed, RESULT16 counts them. A FENCE.SYS with partners sends a MARK with the next MARKER_ID on
every qualifying port instead, and completes once its partners have acknowledged; at its timeout it completes TIMEOUT with
the lowest partner missing in DETAIL and their number in RESULT16 (R68 to R71, R144, R145). -/
def Obligations.FencesWaitForTheirSets : Prop :=
  (∀ r ∈ [(Instr.fenceUnit, 1), (Instr.fenceCluster, 2), (Instr.fenceRegion, 3), (Instr.fenceDie, 4), (Instr.fencePkg, 5),
       (Instr.fenceSys, 6)],
     ∀ (n : Nat) (f : Flight) (s : State), Starts (isOp r.2) mFence n f s →
       (∀ c, s.hsRefuse f.cmd.loc false = some c →
         exec (r.1 n) s = .next ((s.setRing f.ring { s.ring f.ring with fenceFrom := n + 1 }).complete n c)) ∧
       (s.hsRefuse f.cmd.loc false = none → (∀ q ∈ s.partners f.cmd, s.markPorts q ≠ []) →
         ∃ (t : State) (x : Fence), exec (r.1 n) s = .next t ∧
           t.flight n = some { f with phase := .exec (f.at_ + fenceTicks f.cmd) } ∧
           Tab.get? t.plyn.fences n = some x ∧ x.marked = false ∧
           (∀ k, k ∈ x.members ↔ ∃ g ∈ s.plyn.flights, g.num = k ∧ k < n ∧ isBlocking g.cmd.opcode = false ∧
             (g.ring = f.ring ∨ bit (f.cmd.opa % 256) (s.ring g.ring).group = true) ∧
             inScope f.cmd.opcode f.cmd.loc g.cmd = true ∧ (g.cmd.timed = true → g.td.rep ≠ 0xFFFF)) ∧
           (∀ k, k ∈ x.report ↔ k ∈ x.members ∧ (s.ring f.ring).fenceFrom ≤ k) ∧
           t.ring f.ring = { s.ring f.ring with fenceFrom := n + 1 } ∧ (∀ m, m ≠ f.ring → t.ring m = s.ring m) ∧
           { t with plyn := s.plyn, rings := s.rings } = s) ∧
       (s.hsRefuse f.cmd.loc false = none → (∃ q ∈ s.partners f.cmd, s.markPorts q = []) →
         ∃ q ∈ s.partners f.cmd, s.markPorts q = [] ∧
           exec (r.1 n) s = .next ((s.setRing f.ring { s.ring f.ring with fenceFrom := n + 1 }).complete n
             { status := stNoTarget, detail := q }))) ∧
  (∀ (n : Nat) (f : Flight) (s : State) (x : Fence) (due : Nat),
     s.flight n = some f → f.phase = .exec due → isFence f.cmd.opcode = true → Tab.get? s.plyn.fences n = some x →
     let done := { s with plyn := { s.plyn with fences := Tab.del s.plyn.fences n } }
     ∀ d, (d = 1 ∧ (∃ k ∈ x.report, ∃ g, s.flight k = some g ∧ g.bad = true) ∨
         d = 0 ∧ ∀ k ∈ x.report, ∀ g, s.flight k = some g → g.bad = false) →
     let report : Compl := { status := stOk, detail := d, result := min x.report.length 0xFFFF }
     (x.marked = false →
       (∀ k ∈ x.members, ∀ g, s.flight k = some g →
         (g.cmd.timed = false → g.phase.isOpen = false) ∧
         (g.cmd.timed = true → bit f.cmd.opa 8 = false → g.phase ≠ .issued) ∧
         (g.cmd.timed = true → bit f.cmd.opa 8 = true →
           g.phase = .retired ∨ ∃ st d r w, g.phase = .record st d r w ∧ s.lastOf g st = true)) →
       (f.cmd.opcode < 5 ∨ ∀ k ∈ x.members, ∀ g, s.flight k = some g → g.changing = false) →
       (f.cmd.opcode ≠ 6 → exec (.fenceSetComplete n) s = .next (done.complete n report)) ∧
       (f.cmd.opcode = 6 → s.partners f.cmd = [] →
         ∃ t : State, exec (.fenceSetComplete n) s = .next (t.complete n report) ∧ { t with plyn := s.plyn } = s ∧
           t.plyn.flights = s.plyn.flights) ∧
       (s.partners f.cmd ≠ [] →
         ∃ (t : State) (y : Fence), exec (.fenceSetComplete n) s = .next t ∧ Tab.get? t.plyn.fences n = some y ∧ y.marked = true ∧
           y.marker = (s.plyn.markerId + 1) % 65536 ∧ t.plyn.markerId = (s.plyn.markerId + 1) % 65536 ∧
           y.members = x.members ∧ y.report = x.report ∧
           (∀ q k, (q, k) ∈ y.wait ↔ q ∈ s.partners f.cmd ∧ k ∈ s.markPorts q) ∧
           (∀ w ∈ y.wait, s.pfld (w.2 / 128) (w.2 % 128) R.PORT_STAT_LOOP = 0 →
             let out := relkaBlocks 5 (markMsg y.marker (s.arb R.RLK_SYS_PKG_NUM) (s.arb R.RLK_SYS_SYS_EPOCH))
             ((s.port (w.2 / 128) (w.2 % 128)).sending = none → .relka (w.2 / 128) (w.2 % 128) 5 out ∈ t.sent) ∧
             ((s.port (w.2 / 128) (w.2 % 128)).sending.isSome = true →
               .relka 5 out ∈ (t.port (w.2 / 128) (w.2 % 128)).ctl)) ∧
           { t with plyn := s.plyn, sent := s.sent, ports := s.ports } = s)) ∧
     (x.marked = true → s.unacked f x = [] → exec (.fenceSetComplete n) s = .next (done.complete n report)) ∧
     (f.cmd.opcode = 6 → ∀ q rest, s.unacked f x = q :: rest →
       exec (.fenceSysTimeout n) s =
         .next (({ s.advanceTo due with plyn := { s.plyn with fences := Tab.del s.plyn.fences n } }).complete n
           { status := stTimeout, detail := q, result := rest.length + 1 })))

/-- An event of a kind, at a time and with a result: the waits for it complete with that kind and result (R410), and where a
ring is named or routed and open its record goes there; where that ring has no room EVT_OVF is set and EVT_DROP counts
(R433). A record that found no room is written once there is room, and the untimed instruction retires (R55). A background
instruction that waited 10 ms for tokens completes DENIED with DETAIL's bit 7 set, and none of its requests is left (R64). -/
def Obligations.EventsAndDelayedRecords : Prop :=
  (∀ (s : State) (kind result time : Nat) (ovr : Option Nat) (ring : Nat),
     (∀ f ∈ s.plyn.flights, ¬(f.cmd.opcode = 9 ∧ f.phase.isOpen = true ∧ f.cmd.opb ≠ 0 ∧ f.cmd.opa % 16 = kind)) →
     s.eventRing kind ovr = some ring →
     (s.ringOpen ring = true →
       s.event kind result time ovr = (s.pushEntry ring 16 (recWord 0 0x80 kind ring 0 result time), true)) ∧
     (s.ringOpen ring = false →
       let t := (s.event kind result time ovr).1
       t.ring ring = { s.ring ring with evtOvf := true, count1c := min ((s.ring ring).count1c + 1) (2 ^ 32 - 1) } ∧
       t.env = s.env ∧ bit (t.reg locFp 0x24).toNat 5 = true)) ∧
  (∀ (n : Nat) (f : Flight) (s : State), s.flight n = some f → f.ring < 32 →
     (∀ status detail result time, f.phase = .record status detail result time → f.mute = false → f.cmd.timed = false →
       s.ringOpen (s.cqOf f.ring) = true →
       ∃ t : State, exec (.completionRecordWrite n) s = .next t ∧
         (∃ g, t.flight n = some g ∧ g.phase = .retired ∧ g.tags = []) ∧
         (t.ring f.ring).retired = ((s.ring f.ring).retired + 1) % 2 ^ 32 ∧
         (t.ring (s.cqOf f.ring)).tail = ((s.ring (s.cqOf f.ring)).tail + 1) % (s.ring (s.cqOf f.ring)).span ∧
         t.ports = s.ports ∧ t.dies = s.dies ∧ t.tails = s.tails) ∧
     (∀ due, f.phase = .tokens due →
       ∃ (t : State) (c : Compl), exec (.backgroundBudgetTimeout n) s = .next (t.complete n c) ∧ c.status = stDenied ∧
         bit c.detail 7 = true ∧ due ≤ t.now ∧ (∀ q ∈ t.ledger.reqs, q.num ≠ some n) ∧
         (∀ q ∈ s.ledger.reqs, q.num ≠ some n → q ∈ t.ledger.reqs) ∧ t.regs = s.regs ∧ t.ports = s.ports))

/-! ### The issuer, parking, rings -/

/-- One clock of the issuer with one ring to serve: an untimed head entry that passes the precheck and finds its slots free
is issued as the next issued instruction, and HEAD passes it; an entry that fails the precheck completes at once into the
ring's completion ring, taking no slot; one without a free slot leaves HEAD and marks the ring STALLED (R58 to R62). -/
def Obligations.IssuerTakesTheHead : Prop :=
  ∀ (s : State) (r w : Nat) (rest : List Nat),
    s.issuerOn = true → s.issueOrder = r :: rest → (s.ring r).running = true → (s.ring r).blocked = false →
    (s.ring r).used ≠ 0 → r < 32 → s.fetchEntry r (s.ring r).head = some w → (decodeCmd w).timed = false →
    let c := decodeCmd w
    let td := decodeTd 0
    (s.precheck c td = none → (∀ d ∈ slotDies s.part c, s.freeTags d ≠ []) →
      ∃ (t : State) (f : Flight), exec .issue s = .next t ∧ t.plyn.flights = s.plyn.flights ++ [f] ∧ f.num = s.plyn.nextNum ∧ f.cmd = c ∧
        f.ring = r ∧ f.phase = .issued ∧ f.at_ = s.now ∧ t.plyn.nextNum = s.plyn.nextNum + 1 ∧
        f.tags.map Prod.fst = slotDies s.part c ∧
        t.ring r = { s.ring r with head := ((s.ring r).head + 1) % (s.ring r).span, stalled := false,
                                   blocked := isBlocking c.opcode } ∧
        { t with plyn := s.plyn, rings := s.rings, freeCtr := s.freeCtr } = s) ∧
    (∀ k, s.precheck c td = some k → s.ringOpen (s.cqOf r) = true →
      ∃ t : State, exec .issue s = .next t ∧ t.plyn.flights = s.plyn.flights ∧
        (t.ring r).head = ((s.ring r).head + 1) % (s.ring r).span ∧
        (t.ring r).retired = ((s.ring r).retired + 1) % 2 ^ 32 ∧
        (t.ring (s.cqOf r)).tail = ((s.ring (s.cqOf r)).tail + 1) % (s.ring (s.cqOf r)).span) ∧
    (s.precheck c td = none → (∀ k ∈ rest, (s.ring k).running = false) → (∃ d ∈ slotDies s.part c, s.freeTags d = []) →
      ∃ t : State, exec .issue s = .next t ∧ t.plyn = s.plyn ∧ (t.ring r).stalled = true ∧ (t.ring r).head = (s.ring r).head)

/-- The late policy (R77) at boundary `j`, `l` behind it in 2^-16 ns and a grace window `g`: at most `g` late it is parked
as it is; beyond that EXPIRE expires it, RUN parks it with its lateness, and NEXT parks it at the first later boundary whose
lateness is within `g`, or expires it where the series has none. Timed actions: an issued timed instruction whose stores
have room is parked for the boundary that the late policy gives, releasing its slots, or completes EXPIRED; a full store
counts and leaves it (R75, R77). A parked action that nothing at its location precedes starts at its due time and has the
effect of its opcode; that tick is its completion time, and TX64 stands at or behind the due time (R76). -/
def Obligations.TimedActionsFollowTheLatePolicy : Prop :=
  (∀ (now late g j : Nat) (td : TimeDesc),
     let l := sdiff now (td.at j)
     (l ≤ g → parkDecide now late td g j = .park j (td.at j) none) ∧
     ((g : Int) < l →
       (late = 0 → parkDecide now late td g j = .expired) ∧
       (late = 1 → parkDecide now late td g j = .park j (td.at j) (some (lateNs l))) ∧
       (2 ≤ late → 0 < td.period →
         ∃ k : Nat, 0 < k ∧ l - k * td.period ≤ g ∧ (g : Int) < l - (k - 1 : Nat) * td.period ∧
           parkDecide now late td g j = if td.has (j + k) = true then .park (j + k) (td.at (j + k)) none else .expired))) ∧
  (∀ (n : Nat) (f : Flight) (s : State), s.flight n = some f → f.cmd.timed = true →
     (f.phase = .issued → s.mayStart f = true →
       let now := tx64 (s.nowU f.cmd.timeDie)
       let full := (storeDies s.part f.cmd).filter (fun d => decide (storeSize d ≤ s.parkedIn d))
       (full = [] → sdiff f.td.time now ≠ -horizon →
         (∀ j due late, parkDecide now f.cmd.late f.td ((s.ring f.ring).grace * 1000 * 65536) 0 = .park j due late →
           ∃ t : State, exec (.timedPark n) s = .next t ∧
             t.flight n = some { f with phase := .parked due, idx := j, late := late, tags := [], started := none, entry := true } ∧
             { t with plyn := s.plyn } = s) ∧
         (parkDecide now f.cmd.late f.td ((s.ring f.ring).grace * 1000 * 65536) 0 = .expired →
           exec (.timedPark n) s = .next (s.complete n { status := stExpired }))) ∧
       (∀ d, full = [d] → exec (.timedPark n) s = .next (s.bump (storeLoc d) R.TAS_STAT_FULL_COUNT))) ∧
     (∀ due, f.phase = .parked due → s.parkedBefore f due = false →
       let u := s.advanceDie f.cmd.timeDie (fromTx64 (s.nowU f.cmd.timeDie) due)
       let g := f.start (tx64 (u.nowU f.cmd.timeDie))
       exec (.timedActionDue n) s = .next ((meaningOf f.cmd.opcode).exec g (u.setFlight g)) ∧
       g.phase = .exec 0 ∧ g.started = some (tx64 (u.nowU f.cmd.timeDie)) ∧ g.cmd = f.cmd ∧
       5 * fromTx64 (s.nowU f.cmd.timeDie) due ≤ (u.tail (dieTail f.cmd.timeDie)).fu))

/-- Doorbells and RING[n].CTRL: a legal doorbell moves the index that the host owns, after the host's writes to its memory;
an illegal one leaves the indices and sets CFG_ERR (R46). A CTRL write that may not change what it changes is ignored with
CFG_ERR (R50); otherwise it stores its fields, EN only on a ring that may run (R49, R50). RESUME clears HALTED of a command
ring (R72). The reset of a command ring takes HEAD to TAIL at once, sets RESET_BUSY and ends every instruction of the ring
that has not started (R73); once all have retired HEAD and TAIL are 0 and RESET_BUSY, HALTED and BLOCKED clear. The reset of
a completion ring that no enabled command ring uses, and of a packet ring, empties it; of one in use it is ignored with
CFG_ERR (R74). -/
def Obligations.RingsObeyTheHost : Prop :=
  (∀ (s : State) (n v : Nat), n < 128 → s.fpServes = true →
     (∀ writes : List Host.Cell, n < 32 →
       let m := writes.foldl (fun m c => memPut m c.1 c.2) s.env.mem
       ((s.ring n).doorOk n v = true →
         ∃ t : State, exec (.doorbellWrite n v writes) s = .next t ∧ t.ring n = { s.ring n with tail := v } ∧ t.env.mem = m ∧
           (∀ k, k ≠ n → t.ring k = s.ring k) ∧ { t with rings := s.rings, env := s.env } = s) ∧
       ((s.ring n).doorOk n v = false →
         ∃ t : State, exec (.doorbellWrite n v writes) s = .next t ∧
           t.ring n = { s.ring n with cfgErr := true, errCnt := min ((s.ring n).errCnt + 1) 65535 } ∧ t.env.mem = m ∧
           bit (t.reg locFp 0x24).toNat 4 = true)) ∧
     (32 ≤ n → n < 96 → (s.ring n).doorOk n v = true →
       ∃ t : State, exec (.doorbellWrite n v []) s = .next t ∧ (t.ring n).head = v ∧ (t.ring n).tail = (s.ring n).tail) ∧
     ((s.ring n).ctrlIgnored n v = true → exec (.ringCtrlWrite n v) s = .next (s.ringErr n)) ∧
     ((s.ring n).ctrlIgnored n v = false → bit v 2 = false → bit v 3 = false →
       ((bit v 0 = false ∨ (s.ring n).en = true ∨ ((s.ring n).ctrl v s.plyn.nextNum).mayRun n = true) →
         exec (.ringCtrlWrite n v) s = .next (s.setRing n ((s.ring n).ctrl v s.plyn.nextNum))) ∧
       (bit v 0 = true → (s.ring n).en = false → ((s.ring n).ctrl v s.plyn.nextNum).mayRun n = false →
         ∃ t : State, exec (.ringCtrlWrite n v) s = .next t ∧ (t.ring n).en = false ∧ (t.ring n).cfgErr = true))) ∧
  (∀ (s : State) (n : Nat), s.fpServes = true →
     (n < 32 → exec (.ringResume n) s = .next (s.setRing n { s.ring n with halted := false })) ∧
     (n < 32 → (∀ f ∈ s.plyn.flights, f.ring = n → f.endsAtReset = false) →
       exec (.commandRingReset n) s =
         .next (s.setRing n { s.ring n with resetBusy := true, head := (s.ring n).tail, stalled := false })) ∧
     (∀ f, n < 32 → s.plyn.flights.filter (fun g => g.ring == n && g.endsAtReset) = [f] →
       exec (.commandRingReset n) s =
         .next ((s.setRing n { s.ring n with resetBusy := true, head := (s.ring n).tail, stalled := false }).abortFlight f)) ∧
     ((s.ring n).resetBusy = true → s.ringDrained n = true →
       exec (.ringResetDone n) s = .next (s.setRing n
         { s.ring n with head := 0, tail := 0, resetBusy := false, halted := false, blocked := false,
                         fenceFrom := s.plyn.nextNum })) ∧
     (32 ≤ n → n < 64 →
       ((∀ r, r < 32 → (s.ring r).en = true → (s.ring r).cq + 32 ≠ n) → exec (.completionRingReset n) s = .next
         (s.setRing n { s.ring n with head := 0, tail := 0, pendAt := [], sinceArm := 0 })) ∧
       ((∃ r, r < 32 ∧ (s.ring r).en = true ∧ (s.ring r).cq + 32 = n) →
         exec (.completionRingReset n) s = .next (s.ringErr n))) ∧
     (64 ≤ n → n < 128 → exec (.packetRingReset n) s = .next
       (s.setRing n { s.ring n with head := 0, tail := 0, pendAt := [], sinceArm := 0 })))

/-! ### The faceplate -/

/-- Reading the faceplate: the value goes to the host and nothing else changes but what clears on reading. A ring's HEAD,
TAIL and STAT read as the ring stands (R48, R51); its counter at 0x1C clears (R9); FP_ACC_ERR reads its count and clears; in
the reduced safe state everything but FP_ID, FP_BOOT and FP_STATUS reads 0 (R428). Writing the faceplate: a misaligned or
badly sized write is ignored and counted, a bad read returns all ones (R426). An aligned write of DOORBELL and of a ring's
CTRL is those commands' effect; RING[n].BASE takes a value only while EN is 0 and is otherwise ignored with CFG_ERR (R50);
STAT's CFG_ERR and EVT_OVF are cleared by ones (R51); a 64-bit write fills two words of the MSI-X table. In the reduced safe
state nothing is written (R428). -/
def Obligations.FaceplateReadsAndWrites : Prop :=
  (∀ s : State,
     (∀ off, off % 4 = 0 → ∃ t : State, exec (.rcRegisterRead off) s = .next t ∧ t.sent = .fpRead off (s.fpWord off) :: s.sent ∧
       t.plyn = s.plyn ∧ t.env = s.env ∧ t.ports = s.ports ∧ t.tails = s.tails) ∧
     (∀ off, off % 4 ≠ 0 → exec (.rcRegisterRead off) s = exec (.faceplateBadAccess false) s) ∧
     (s.faults.reduced = false → ∀ n, n < 128 →
       exec (.rcRegisterRead (0x1000 + 32 * n + 0x0C)) s =
         .next (s.send (.fpRead (0x1000 + 32 * n + 0x0C) (s.ring n).head)) ∧
       exec (.rcRegisterRead (0x1000 + 32 * n + 0x10)) s =
         .next (s.send (.fpRead (0x1000 + 32 * n + 0x10) (s.ring n).tail)) ∧
       exec (.rcRegisterRead (0x1000 + 32 * n + 0x1C)) s =
         .next ((s.setRing n { s.ring n with count1c := 0 }).send (.fpRead (0x1000 + 32 * n + 0x1C) (s.ring n).count1c))) ∧
     (s.faults.reduced = false → ∃ t : State, exec (.rcRegisterRead 0x34) s = .next t ∧
       t.sent = .fpRead 0x34 ((s.reg locFp 0x34).toNat) :: s.sent ∧ t.fp R.FP_ACC_ERR_COUNT = 0) ∧
     (s.faults.reduced = true → ∀ off, off % 4 = 0 → off ≠ 0 → off ≠ 4 → off ≠ 0x20 →
       exec (.rcRegisterRead off) s = .next (s.send (.fpRead off 0)))) ∧
  (∀ (s : State) (v : Nat),
     (s.fpServes = true →
       (∀ off, off % 4 ≠ 0 → exec (.faceplateWrite off v false) s = .next (s.bump locFp R.FP_ACC_ERR_COUNT)) ∧
       (∀ off, (off % 8 ≠ 0 ∨ off < 0x8000 ∨ 0x9000 ≤ off) →
         exec (.faceplateWrite off v true) s = .next (s.bump locFp R.FP_ACC_ERR_COUNT)) ∧
       exec (.faceplateBadAccess true) s = .next (s.bump locFp R.FP_ACC_ERR_COUNT) ∧
       exec (.faceplateBadAccess false) s =
         .next ((s.bump locFp R.FP_ACC_ERR_COUNT).send (.fpRead 65536 0xFFFFFFFF)) ∧
       (∀ n, n < 128 →
         exec (.faceplateWrite (0x2000 + 4 * n) v false) s = exec (.doorbellWrite n v []) s ∧
         exec (.faceplateWrite (0x1000 + 32 * n + 8) v false) s = exec (.ringCtrlWrite n v) s ∧
         ((s.ring n).en = false → v < 2 ^ 32 → exec (.faceplateWrite (0x1000 + 32 * n) v false) s =
           .next (s.setRing n { s.ring n with base := (s.ring n).base / 2 ^ 32 * 2 ^ 32 + v })) ∧
         ((s.ring n).en = true → exec (.faceplateWrite (0x1000 + 32 * n) v false) s = .next (s.ringErr n)) ∧
         exec (.faceplateWrite (0x1000 + 32 * n + 0x14) v false) s = .next (s.setRing n
           { s.ring n with cfgErr := (s.ring n).cfgErr && !bit v 4, evtOvf := (s.ring n).evtOvf && !bit v 5 })) ∧
       (∀ i, i < 256 → s.msixPend = [] → v < 2 ^ 64 → ∃ t : State, exec (.faceplateWrite (0x8000 + 16 * i) v true) s = .next t ∧
         t.msixEntry i = s.msixEntry i / 2 ^ 64 * 2 ^ 64 + v ∧ (∀ j, j ≠ i → t.msixEntry j = s.msixEntry j) ∧
         { t with msixTab := s.msixTab } = s)) ∧
     (s.fpServes = false → ∀ off wide write,
       exec (.faceplateWrite off v wide) s = .next s ∧ exec (.faceplateBadAccess write) s = .next s))

/-- Interrupts: ones written to FP_INT_STAT clear its bits, FP_INT_EN takes its seven bits, and an enabled bit that is left
at 1 sends the message of FP_INT_MAP (R431); unmasking a vector sends its pending message (R436); a ring's timer sends its
message and disarms it, TIME microseconds after the later of its oldest pending entry and its arming (R435). The host port:
enabling bus mastering changes nothing else (R333); a host-port reset stops DMA, forgets the MSI-X table and every pending
message, returns the interrupt and route registers to reset, disables every ring, and writes no host memory (R333, R437).
The test access port loads IDCODE and BYPASS at any time and the other six instructions only with RST_N low; any other code
is BYPASS (R458, log entry 39). -/
def Obligations.InterruptsAndHostPort : Prop :=
  (∀ s : State, s.fpServes = true →
     (∀ v, (s.reg locFp 0x24 &&& ~~~(BitVec.ofNat 32 (v % 128))).toNat &&& s.fp R.FP_INT_EN_EN = 0 →
       exec (.fpIntWrite 0x24 v) s =
         .next (s.setReg locFp 0x24 (s.reg locFp 0x24 &&& ~~~(BitVec.ofNat 32 (v % 128))))) ∧
     (∀ v, v < 128 → (s.reg locFp 0x24).toNat &&& v ≠ 0 →
       bit (s.msixEntry (s.fp R.FP_INT_MAP_VECTOR)) 96 = false →
       exec (.fpIntWrite 0x28 v) s =
         .next ((s.put locFp R.FP_INT_EN_EN v).send (.msix (s.fp R.FP_INT_MAP_VECTOR)))) ∧
     (∀ v, v < 256 → v ∈ s.msixPend → ∃ t : State, exec (.msixUnmask v) s = .next t ∧ t.sent = .msix v :: s.sent ∧
       v ∉ t.msixPend ∧ bit (t.msixEntry v) 96 = false) ∧
     (∀ n, 32 ≤ n → n < 128 → s.flag locFp (R.RING_INT_EN n) = true → s.flag locFp (R.RING_INT_ARMED n) = true →
       1 ≤ s.ringPending n → s.fp (R.RING_INT_TIME n) ≠ 0 →
       bit (s.msixEntry (s.fp (R.RING_INT_VECTOR n))) 96 = false →
       ∃ t : State, exec (.ringIntTimer n) s = .next t ∧ t.sent = .msix (s.fp (R.RING_INT_VECTOR n)) :: s.sent ∧
         t.flag locFp (R.RING_INT_ARMED n) = false ∧
         max ((s.ring n).pendAt.headD 0) (s.ring n).armedAt + 625 * s.fp (R.RING_INT_TIME n) ≤ t.now)) ∧
  (∀ s : State,
     exec .busMasteringEnable s = .next { s with env := { s.env with busMaster := true } } ∧
     (∃ t : State, exec .hostPortReset s = .next t ∧ t.env = { s.env with busMaster := false, bar2 := none } ∧ t.msixTab = [] ∧
       t.msixPend = [] ∧ (∀ off, hostResetOff off = true → t.reg locFp off = resetWord s.part locFp off) ∧
       (∀ n, (t.ring n).en = false) ∧ t.tails = s.tails ∧ t.ports = s.ports) ∧
     (∀ ir, ir ≤ 1 → exec (.tapInstructionLoad ir) s = .next { s with tapIr := ir }) ∧
     (∀ ir, 1 < ir → s.boot.rstN = true → exec (.tapInstructionLoad ir) s = .next { s with tapIr := 1 }) ∧
     (∀ ir, 6 < ir → exec (.tapInstructionLoad ir) s = .next { s with tapIr := 1 }) ∧
     (∀ ir, 1 < ir → ir ≤ 6 → s.boot.rstN = false → exec (.tapInstructionLoad ir) s = .next { s with tapIr := ir }))

/-! ### Power, resets, boot -/

/-- Losing power-good, or a rail of the hub, is a cold reset: every register, ring, instruction, port, table, headstock and
timescale returns to its reset value, while host memory keeps its bytes and nothing is booted (R331, R465). A warm reset, by
WRST_N or by FP_RESET with its key (R331, R332, R344): the fault log, both latches, LREF_SEL and the crystals' stable state
are kept, RST_CAUSE names the cause, everything that runs ends. FP_RESET without the key or the bit, and WRST_N without
power-good, change nothing. VDD_TIME of one headstock alone: the ACTIVE one is declared failed for cause 5, a STANDBY fails,
a self-test ends with its HST.REVIVE failing, and of one that is in no such state only its power-good falls (R180, R200,
R465). -/
def Obligations.ResetsAndSupplyDrops : Prop :=
  (∀ s : State, ∃ t : State, exec .powerGoodFall s = .next t ∧ exec (.supplyDrop .hub) s = .next t ∧
     t.regs = [] ∧ t.rings = [] ∧ t.plyn = {} ∧ t.tails = [] ∧ t.hst = {} ∧ t.servo = {} ∧ t.refs = [] ∧ t.ports = [] ∧
     t.dies = [] ∧ t.ledger = {} ∧ t.faults = {} ∧ t.synths = [] ∧ t.outs = [] ∧ t.trigs = [] ∧ t.caps = [] ∧ t.clk = {} ∧
     t.msixTab = [] ∧ t.msixPend = [] ∧ t.env.mem = s.env.mem ∧ t.boot = { s.boot with pgood := false } ∧
     t.part = s.part ∧ t.fp R.FP_BOOT_STATE = 0) ∧
  (∀ (s : State) (e : BootEnv),
     (s.boot.pgood = false → exec (.wrstN e) s = .next s) ∧
     (∀ v, (bit v 0 = false ∨ v / 65536 % 65536 ≠ 0x5752) → exec (.fpReset v e) s = .next s) ∧
     (s.boot.pgood = true → e.badCells = [] → s.boot.bootsel % 2 = 1 → e.memOk = true →
       ∀ c, (c = (Instr.wrstN e) ∧ s.faults.reduced = false) ∨
           (c = (Instr.fpReset 0x57520001 e) ∧ s.faults.reduced = false) →
         ∃ t : State, exec c s = .next t ∧ t.fp R.FP_BOOT_STATE = 8 ∧ t.plyn = {} ∧ t.ports = [] ∧
           (c = Instr.wrstN e → t.fp R.FP_BOOT_RST_CAUSE = 2) ∧ (c ≠ Instr.wrstN e → t.fp R.FP_BOOT_RST_CAUSE = 3) ∧
           (∀ off, 0x10000 ≤ off → off < 16777216 → t.reg locCol off = s.reg locCol off) ∧
           t.clkF R.CLK_CTRL_LREF_SEL = s.clkF R.CLK_CTRL_LREF_SEL)) ∧
  (∀ (s : State) (tb : Bool),
     let c := Instr.supplyDrop (if tb then .timeTB else .timeTA)
     let t := s.setHst (if tb then { s.hst with pgB := false } else { s.hst with pgA := false })
     (s.hs tb = hsActive → exec c s = .next (t.declareFailed tb 5)) ∧
     (s.hs tb = hsStandby → exec c s = .next (t.failStandby tb)) ∧
     (s.hs tb = hsSelftest → exec c s = .next (t.failRevive tb 0xFF01)) ∧
     (s.hs tb ≠ hsActive → s.hs tb ≠ hsStandby → s.hs tb ≠ hsSelftest → exec c s = .next t))

/-- Power-good rises, or RST_N is released: from a cold state, with the straps sampled, FAST_OSC stable. With BOOTSEL0 at 1
the part waits for the host in state 8, or fails with 0x09 where its memory failed; with BOOTSEL0 at 0 a missing image fails
with 0x01, in state 8 where BOOTSEL is 0b10 and else in state 7; an image that is found is examined from state 2 on (R334,
R341). A second rise of power-good, and RST_N without power-good, change nothing. FP_BOOT_GO acts in states 7 and 8 alone;
an image that cannot be read from host memory fails with 0x0A, and a memory that failed its test with 0x09 (R340, R341).
Otherwise the bytes read are the image, and it is examined: an image that R337 and R338
refuse fails with their code; a configuration record that is refused fails with 0x07 and its index in FP_BOOT_INFO; without
LREF the boot fails with 0x08; else, both headstocks passing their self-test, the part is host-ready: state 6 and code 0,
the preferred headstock ACTIVE and the other STANDBY, LREF started and every tailstock at 0. -/
def Obligations.BootsReachTheirState : Prop :=
  (∀ (s : State) (e : BootEnv), e.badCells = [] →
     ∀ p ∈ [(Instr.powerGoodRise e, !s.boot.pgood), (Instr.rstN e, s.boot.pgood)],
       (p.2 = false → exec p.1 s = .next s) ∧
       (p.2 = true →
         (e.bootsel % 2 = 1 → ∃ t : State, exec p.1 s = .next t ∧ t.boot.pgood = true ∧ t.boot.bootsel = e.bootsel % 4 ∧
           t.flag locClk R.CLK_STAT_FAST_STABLE = true ∧
           (e.memOk = true → t.fp R.FP_BOOT_STATE = 8) ∧
           (e.memOk = false → t.fp R.FP_BOOT_STATE = 7 ∧ t.fp R.FP_BOOT_CODE = 0x09)) ∧
         (e.bootsel % 2 = 0 → e.image.found = false → ∃ t : State, exec p.1 s = .next t ∧ t.fp R.FP_BOOT_CODE = 0x01 ∧
           t.fp R.FP_BOOT_STATE = (if e.bootsel % 4 = 2 then 8 else 7)) ∧
         (e.bootsel % 2 = 0 → e.image.found = true → e.memOk = true →
           ∃ u : State, exec p.1 s = .next (u.bootFrom e.image.bytes e.image.bytes.length e true) ∧ u.fp R.FP_BOOT_STATE = 2 ∧ u.boot.pgood = true ∧
             u.plyn = {} ∧ u.ports = [] ∧ u.env.mem = s.env.mem))) ∧
  (∀ (s : State) (v : Nat) (e : BootEnv), s.fpServes = true →
     let i := e.image
     let a := s.fp R.FP_BOOT_ADDR_LO_ADDR + s.fp R.FP_BOOT_ADDR_HI_ADDR * 2 ^ 32
     ((bit v 0 = false ∨ (s.fp R.FP_BOOT_STATE ≠ 7 ∧ s.fp R.FP_BOOT_STATE ≠ 8)) → exec (.fpBootGo v e) s = .next s) ∧
     (bit v 0 = true → (s.fp R.FP_BOOT_STATE = 7 ∨ s.fp R.FP_BOOT_STATE = 8) →
       ((a % 4096 ≠ 0 ∨ s.dmaRead a (max (s.fp R.FP_BOOT_LEN_LEN) 1) = none) → ∃ t : State, exec (.fpBootGo v e) s = .next t ∧
         t.fp R.FP_BOOT_STATE = 7 ∧ t.fp R.FP_BOOT_CODE = 0x0A) ∧
       (∀ b, a % 4096 = 0 → s.dmaRead a (max (s.fp R.FP_BOOT_LEN_LEN) 1) = some b → e.memOk = false →
         ∃ t : State, exec (.fpBootGo v e) s = .next t ∧ t.fp R.FP_BOOT_STATE = 7 ∧ t.fp R.FP_BOOT_CODE = 0x09) ∧
       (∀ b, a % 4096 = 0 → s.dmaRead a (max (s.fp R.FP_BOOT_LEN_LEN) 1) = some b → e.memOk = true →
         let u := (s.bootState 3).faultNSync
         let w := (u.fpPut R.FP_BOOT_KEY_SLOT (leAt b 6 1)).bootState 4
         (∀ code, u.imageBad i b (s.fp R.FP_BOOT_LEN_LEN) = some code → ∃ t : State, exec (.fpBootGo v e) s = .next t ∧
           t.fp R.FP_BOOT_STATE = 7 ∧ t.fp R.FP_BOOT_CODE = code) ∧
         (u.imageBad i b (s.fp R.FP_BOOT_LEN_LEN) = none →
           (∀ x k, w.applyRecords 0 (imageRecords b) = (x, some k) → k < 2 ^ 32 → ∃ t : State, exec (.fpBootGo v e) s = .next t ∧
             t.fp R.FP_BOOT_STATE = 7 ∧ t.fp R.FP_BOOT_CODE = 0x07 ∧ t.fp R.FP_BOOT_INFO_INFO = k) ∧
           (∀ x, w.applyRecords 0 (imageRecords b) = (x, none) →
             (x.lrefReady = false → ∃ t : State, exec (.fpBootGo v e) s = .next t ∧ t.fp R.FP_BOOT_STATE = 7 ∧
               t.fp R.FP_BOOT_CODE = 0x08) ∧
             (x.lrefReady = true → e.taTest = 0 → e.tbTest = 0 →
               let pref := x.flag locArb R.HST_CTRL_PREFER_TB
               x.hs (!pref) ≠ hsActive → ∃ t : State, exec (.fpBootGo v e) s = .next t ∧ t.fp R.FP_BOOT_STATE = 6 ∧ t.fp R.FP_BOOT_CODE = 0 ∧
               t.hs pref = hsActive ∧ t.hs (!pref) = hsStandby ∧ t.clk.lrefOn = true ∧
               ∀ k, k < 6 → (t.tail k).n = 0 ∧ (t.tail k).f = 0 ∧ (t.tail k).m = 0))))))

/-! ### CFG -/

/-- The access codes on a write (R9): a register's fields are apart and inside its word, an RW field takes what is written,
RO, RC and WO fields keep what they hold, and a W1C field loses the bits written 1. CFG.READ at a location that has
registers: COUNT words from its offset on go to the host's 64-byte-aligned address, RESULT16 is the first word's low half,
and no state changes but registers and the marks up to which FEC_CW and PRBS_ERR have counted; a single word read from a register that shows no other state is what the register holds
with its WO fields 0, its RC fields are cleared, and no other register changes. A failed host access completes FAULT with
0xE0, the RC fields cleared all the same, and a location without registers NO_TARGET (R9, R401, R411, R412, R445). -/
def Obligations.CfgReadsAndAccessCodes : Prop :=
  ((∀ loc off fs, fieldsAt loc off = some fs → fieldsApart fs = true) ∧
   (∀ (fs : List FieldDesc) (f : FieldDesc) (old w : Word), fieldsApart fs = true → f ∈ fs →
     (f.acc = .rw → fget (newWord fs old w) f.lo f.len = fget w f.lo f.len) ∧
     (f.acc = .ro ∨ f.acc = .rc ∨ f.acc = .wo → fget (newWord fs old w) f.lo f.len = fget old f.lo f.len) ∧
     (f.acc = .w1c → ∀ i, i < f.len →
       bit (newWord fs old w).toNat (f.lo + i) = (bit old.toNat (f.lo + i) && !bit w.toNat (f.lo + i))))) ∧
  (∀ (n : Nat) (f : Flight) (s : State), Starts (isOp 0x10) mCfgRead n f s →
     let loc := f.cmd.loc
     let off := f.cmd.opa + f.cmd.opb % 256 * 65536
     let a := f.cmd.opb / 4096 % 2 ^ 52 * 64
     (blk loc = .none → exec (.cfgRead n) s = .next (s.complete n { status := stNoTarget })) ∧
     (blk loc ≠ .none →
     ∃ (ws : List Nat) (u : State), ws.length = f.cmd.opb / 256 % 16 + 1 ∧
       { u with regs := s.regs, ports := s.ports, dies := s.dies, freeCtr := s.freeCtr } = s ∧
       (∀ t, u.dmaWrite a ((ws.map (leBytes 4)).flatten) = some t →
         exec (.cfgRead n) s = .next (t.complete n { status := stOk, result := ws.headD 0 % 65536 })) ∧
       (u.dmaWrite a ((ws.map (leBytes 4)).flatten) = none →
         exec (.cfgRead n) s = .next (u.complete n { status := stFault, detail := 0xE0 })) ∧
       (∀ fs, f.cmd.opb / 256 % 16 = 0 → fieldsAt loc off = some fs → s.dead (blk loc) off = false →
         s.derived (blk loc) off = [] → s.settle (blk loc) off = s → (∀ tb, blk loc ≠ .ckpt tb) →
         ws = [(s.reg loc off &&& ~~~(maskOf fs isWo)).toNat] ∧ u.reg loc off = s.reg loc off &&& ~~~(maskOf fs isRc) ∧
         { u with regs := s.regs } = s ∧ ∀ l o, regKey l o ≠ regKey loc off → u.reg l o = s.reg l o)))

/-- CFG.WRITE and CFG.MODIFY of a register whose write only stores: its word becomes what the access codes make of the word
written (for MODIFY: the word read with the field replaced), moved into the register's range where a rule says so, and
nothing else changes; RESULT16 is 0 for WRITE and the field's former value for MODIFY. A conflict of the register's own rule
leaves it; a write without a target completes so (R411, R413). Two writes that clamp or refuse (R116, R256, R131):
PORT_DEBOUNCE above 10,000 stores 10,000; RLK_CTRL.EN on a port without RS-FEC is refused with 0x08; setting EN on a port
that has it takes Relka from OFF to ACQUIRE. A write of TAS_CANCEL (R80): every action of the named ring with the named
COOKIE in that store, whose action time lies ahead, is parked no more; one that is due by the present tick makes that
execution and is marked to end with it. -/
def Obligations.CfgWritesAndPortRegisters : Prop :=
  (∀ r ∈ [(Instr.cfgWrite, 0x11), (Instr.cfgModify, 0x12)], ∀ (n : Nat) (f : Flight) (s : State),
     Starts (isOp r.2) mCfgWrite n f s →
     let loc := f.cmd.loc
     let off := f.cmd.opa + f.cmd.opb % 256 * 65536
     let seen := s.peek loc off
     (∀ fs, writeFields loc off = some fs → s.cfgTarget loc true = none →
       s.dead (blk loc) off = false →
       let w := if r.2 = 0x11 then BitVec.ofNat 32 (f.cmd.opb / 2 ^ 32)
         else modifyWord fs seen (bits f.cmd.opb 8 5) (bits f.cmd.opb 13 5) (bits f.cmd.opb 32 32)
       let new := clamp (blk loc) off (newWord fs (s.reg loc off) w)
       (s.ruleConflict (blk loc) off (s.reg loc off) new = none → plainReg (blk loc) off = true →
         exec (r.1 n) s = .next ((s.setReg loc off new).complete n
           { status := stOk, result := if r.2 = 0x11 then 0 else
               seen.toNat / 2 ^ bits f.cmd.opb 8 5 % 2 ^ (bits f.cmd.opb 13 5 - bits f.cmd.opb 8 5 + 1) % 65536 })) ∧
       (∀ c, s.ruleConflict (blk loc) off (s.reg loc off) new = some c → exec (r.1 n) s = .next (s.complete n c))) ∧
     (s.cfgTarget loc true = some { status := stNoTarget } →
       exec (r.1 n) s = .next (s.complete n { status := stNoTarget }))) ∧
  (∀ (n d p v : Nat) (f : Flight) (s : State), d < 4 → p < 72 → s.present d p = true →
     f.cmd.loc = portLoc d p → f.cmd.opcode = 0x11 → v < 2 ^ 32 →
     (f.cmd.opa = 8 → f.cmd.opb = v * 2 ^ 32 → Starts (isOp 0x11) mCfgWrite n f s →
       ∃ t : State, exec (.cfgWrite n) s = .next (t.complete n { status := stOk }) ∧
         fget (t.reg (portLoc d p) 8) 0 14 = min (v % 2 ^ 14) 10000 ∧ { t with regs := s.regs } = s ∧
         ∀ o, o ≠ 8 → t.reg (portLoc d p) o = s.reg (portLoc d p) o) ∧
     (f.cmd.opa = 0x300 → f.cmd.opb = 0x11 * 2 ^ 32 → s.rlkState d p = rlkOff →
       (s.rlkFit d p = false → s.begins n (isOp 0x11) = some f → s.legal f.cmd f.cmd.loc = none →
         exec (.cfgWrite n) s = .next (s.complete n { status := stBadOperand, detail := 8 })) ∧
       (s.rlkFit d p = true → Starts (isOp 0x11) mCfgWrite n f s →
         ∃ t : State, exec (.cfgWrite n) s = .next (t.complete n { status := stOk }) ∧
           t.pflag d p R.RLK_CTRL_EN = true ∧ t.rlkState d p = rlkAcquire))) ∧
  (∀ (n : Nat) (f : Flight) (s : State) (die : Nat),
     Starts (writesTo (fun l => l == 0xC041 || (locUnit l == 28 && locSub l == 1)) (· == 0x100)) mCfgWrite n f s →
     f.cmd.opcode = 0x11 → blk f.cmd.loc = .tas die →
     ∃ t : State, exec (.tasCancelWrite n) s = .next (t.complete n { status := stOk }) ∧
       ((s.plyn.flights.map Flight.num).Nodup → ∀ g due, s.flight g.num = some g → g.entry = true → g.phase = .parked due →
         die ∈ storeDies s.part g.cmd → g.ring = f.cmd.opb / 2 ^ 48 % 32 → g.cmd.cookie = f.cmd.opb / 2 ^ 32 % 65536 →
         (0 < sdiff due (tx64 (s.nowU g.cmd.timeDie)) →
           ∃ h, t.flight g.num = some h ∧ h.phase.isParked = false ∧ h.phase.isOpen = false ∧ h.entry = false) ∧
         (sdiff due (tx64 (s.nowU g.cmd.timeDie)) ≤ 0 → t.flight g.num = some { g with cancel := true })) ∧
       t.ports = s.ports ∧ t.tails = s.tails ∧ t.dies = s.dies ∧ t.servo = s.servo)

/-- Writes of the clock unit. RATIO of an idle PLL on LREF starts its relock, and the instruction goes on until it ends
(R328). CLK_CTRL without SYS_TO_LREF: where LREF_SEL names another, stable input after host-ready, LREF switches (R320).
With it and a stable LREF that stays where it is, every PLL on FAST_OSC that is not relocking begins its return, its relock
to LREF under way and SRC_FAST as it was until that ends (R326, R327; log entry 69). What
a switch of LREF is (R321): LREF_XB names the new input, LREF_LOST clears, LREF_SWITCHED is set and the switch counted, a
phase build-out is under way, every tailstock's loop is frozen, and LREF_SWITCHED is raised as a fault report of the new
input. -/
def Obligations.ClockWritesAndLrefSwitches : Prop :=
  ((∀ (n p : Nat) (f : Flight) (s : State),
     Starts (writesTo (· == locClk) (fun o => decide (0x100 ≤ o) && decide (o < 0x15C))) mCfgWrite n f s →
     f.cmd.opcode = 0x11 → f.cmd.opb % 256 = 0 → f.cmd.opa = 0x100 + 4 * p → pllOn s.part p = true →
     let new := newWord ((fieldsAt locClk f.cmd.opa).getD []) (s.reg locClk f.cmd.opa) (BitVec.ofNat 32 (f.cmd.opb / 2 ^ 32))
     (fget new 4 2 ≠ fget (s.reg locClk f.cmd.opa) 4 2 → s.coasting p = false →
       s.flag locClk (R.CLK_PLL_RELOCK_BUSY p) = false → s.flag locClk (R.CLK_PLL_SRC_FAST p) = false →
       ∃ t : State, exec (.pllRatioWrite n) s = .next t ∧ t.flight n = some { f with phase := .exec 0 } ∧
         t.flag locClk (R.CLK_PLL_RELOCK_BUSY p) = true ∧ t.flag locClk (R.CLK_PLL_LOCKED p) = false ∧
         t.flag locClk (R.CLK_PLL_SRC_FAST p) = false ∧ Tab.get? t.clk.relockTo p = some false ∧
         Tab.get? t.clk.num p = some (n, 0) ∧ t.clk.fastOn = true) ∧
     (fget new 4 2 = fget (s.reg locClk f.cmd.opa) 4 2 →
       exec (.pllRatioWrite n) s = .next ((s.setReg locClk f.cmd.opa new).complete n { status := stOk }))) ∧
   (∀ (n : Nat) (f : Flight) (s : State), f.cmd.opcode = 0x11 → f.cmd.opb % 256 = 0 → f.cmd.opa = 0 → f.cmd.loc = locClk →
     let w := BitVec.ofNat 32 (f.cmd.opb / 2 ^ 32)
     let u := s.setReg locClk 0 (newWord ((fieldsAt locClk 0).getD []) (s.reg locClk 0) w)
     let rest (x : State) : State := if u.flag locClk R.CLK_CTRL_FAST_KEEP then x.fastStart else x.fastRest
     (fget w 5 1 = 0 → Starts (writesTo (· == locClk) (· == 0)) mCfgWrite n f s →
       (s.hostReady = true → u.inStable (u.flag locClk R.CLK_CTRL_LREF_SEL) = true →
         u.flag locClk R.CLK_CTRL_LREF_SEL ≠ s.flag locClk R.CLK_CTRL_LREF_SEL →
         s.flag locClk R.CLK_STAT_LREF_XB ≠ u.flag locClk R.CLK_CTRL_LREF_SEL →
         exec (.lrefSelWrite n) s =
           .next ((rest (u.lrefSwitch (u.flag locClk R.CLK_CTRL_LREF_SEL))).complete n { status := stOk })) ∧
       (u.flag locClk R.CLK_CTRL_LREF_SEL = s.flag locClk R.CLK_CTRL_LREF_SEL → s.flag locClk R.CLK_STAT_LREF_LOST = false →
         exec (.lrefSelWrite n) s = .next ((rest u).complete n { status := stOk }))) ∧
     (fget w 5 1 = 1 → u.flag locClk R.CLK_CTRL_LREF_SEL = s.flag locClk R.CLK_CTRL_LREF_SEL →
       s.flag locClk R.CLK_STAT_LREF_LOST = false → s.inStable (s.flag locClk R.CLK_STAT_LREF_XB) = true →
       Starts (fun c => writesTo (· == locClk) (· == 0) c && bit (c.cfgWord ((fieldsAt locClk 0).getD []) 0).toNat 5)
         mCfgWrite n f s →
       ∃ t : State, exec (.sysToLref n) s = .next (t.complete n { status := stOk }) ∧
         ∀ p ∈ plls s.part, s.flag locClk (R.CLK_PLL_SRC_FAST p) = true →
           s.flag locClk (R.CLK_PLL_RELOCK_BUSY p) = false →
           t.flag locClk (R.CLK_PLL_SRC_FAST p) = true ∧ Tab.get? t.clk.relockTo p = some false ∧
             t.flag locClk (R.CLK_PLL_RELOCK_BUSY p) = true ∧ t.flag locClk (R.CLK_PLL_LOCKED p) = false))) ∧
  (∀ (s : State) (xb : Bool), ∃ u : State, s.lrefSwitch xb = u.raise (hubLoc 5) 0x02 (if xb then 1 else 0) ∧
     u.flag locClk R.CLK_STAT_LREF_XB = xb ∧ u.flag locClk R.CLK_STAT_LREF_LOST = false ∧
     u.flag locClk R.CLK_STAT_LREF_SWITCHED = true ∧
     u.clkF R.CLK_EVT_LREF_SWITCHES = min (s.clkF R.CLK_EVT_LREF_SWITCHES + 1) (2 ^ R.CLK_EVT_LREF_SWITCHES.len - 1) ∧
     u.clk.buildOut = true ∧ u.clk.lrefOn = true ∧ (∀ i, i < 6 → u.tail i = { s.tail i with frozen := true }) ∧
     u.ports = s.ports ∧ u.plyn = s.plyn ∧ u.servo = s.servo)

/-! ### TBL -/

/-- TBL.WRITE with its record read and in order. In a table keyed by index, and in the flow table, the entry named takes
key, mask and result in the bank named; in the MAC and route tables it takes the place of the entry of the same key, or a
free index, or, with every entry taken, completes STATE_CONFLICT 1. RESULT16 is the index, an error that the entry had is
gone (R269), and in the live bank a changed path enters its drain gap and a changed stream starts afresh (R274, R278).
Pinning over a path that is down completes STATE_CONFLICT 2 (R264, R265). A record that cannot be read, or a result that
cannot be written, completes FAULT with 0xE0. TBL.DELETE removes the entry named, RESULT16 1, or finds none, RESULT16 0; TBL.READ writes the entry over the record in host memory with FOUND, or
FOUND 0; TBL.SEARCH writes the entries that match under the mask, as many as asked for, behind the record, RESULT16 their
number (R264, R415). No other state changes. TBL.COMMIT swaps the banks of the tables its mask names and of no other, at
once, and counts; RESULT16 is their number, and no table's contents change (R266). -/
def Obligations.TablesAreWrittenAndSearched : Prop :=
  (∀ (n : Nat) (f : Flight) (s : State) (bs : List Byte), Starts (isOp 0x20) mTblWrite n f s →
     let d := locDie f.cmd.loc
     let id := f.cmd.opa % 16
     let bank := s.bankOf d id (bit f.cmd.opa 4)
     let es := s.tbl d id bank
     let r := recOf bs
     let ent (i : Nat) : TEnt := { idx := i, key := r.key, mask := r.mask, res := r.res }
     let put (t : State) (i : Nat) : State := (t.setTbl d id bank (putEnt (ent i) es)).updDie d
       (fun x => { x with tblBad := x.tblBad.erase (2 * id + bank, i) })
     (s.dmaRead f.cmd.opb 256 = none →
       exec (.tblWrite n) s = .next (s.complete n { status := stFault, detail := 0xE0 })) ∧
     (s.dmaRead f.cmd.opb 256 = some bs →
       (4 ≤ id → (id = 9 → ∀ far ∈ otherDies d, dieOn s.part far = true → s.pathUp d far (pathCode r.res d far) = true) →
         let i := r.key % 2 ^ (8 * min (keyLen id) 2)
         (bank ≠ s.liveBank d id → exec (.tblWrite n) s =
           .next ((put s i).complete n { status := stOk, result := i % 65536 })) ∧
         (bank = s.liveBank d id → exec (.tblWrite n) s =
           .next (((put s i).liveSync s d id [i]).complete n { status := stOk, result := i % 65536 }))) ∧
       (id = 3 → exec (.tblWrite n) s =
         .next ((put s r.index).complete n { status := stOk, result := r.index % 65536 })) ∧
       (id < 3 →
         (∀ e, es.find? (fun e => e.key == r.key) = some e → exec (.tblWrite n) s =
           .next ((put s e.idx).complete n { status := stOk, result := e.idx % 65536 })) ∧
         (es.find? (fun e => e.key == r.key) = none → tblSize id ≤ es.length →
           exec (.tblWrite n) s = .next (s.complete n { status := stConflict, detail := 1 })) ∧
         (es.find? (fun e => e.key == r.key) = none → es.length < tblSize id →
           ∃ i, exec (.tblWrite n) s =
             .next ((put { s with freeCtr := s.freeCtr + 1 } i).complete n { status := stOk, result := i % 65536 }))) ∧
       (id = 9 → (∃ far ∈ otherDies d, dieOn s.part far = true ∧ s.pathUp d far (pathCode r.res d far) = false) →
         exec (.tblWrite n) s = .next (s.complete n { status := stConflict, detail := 2 })))) ∧
  (∀ (n : Nat) (f : Flight) (s : State), s.dmaRead f.cmd.opb 256 = none →
     (Starts (isOp 0x21) mTblDelete n f s → exec (.tblDelete n) s = .next (s.complete n { status := stFault, detail := 0xE0 })) ∧
     (Starts (isOp 0x22) mTblRead n f s → exec (.tblRead n) s = .next (s.complete n { status := stFault, detail := 0xE0 })) ∧
     (Starts (isOp 0x23) mTblSearch n f s → exec (.tblSearch n) s = .next (s.complete n { status := stFault, detail := 0xE0 }))) ∧
  (∀ (n : Nat) (f : Flight) (s : State) (bs : List Byte), s.dmaRead f.cmd.opb 256 = some bs →
     let d := locDie f.cmd.loc
     let id := f.cmd.opa % 16
     let bank := s.bankOf d id (bit f.cmd.opa 4)
     let es := s.tbl d id bank
     let r := recOf bs
     (Starts (isOp 0x21) mTblDelete n f s →
       (findEnt f.cmd r es = none → exec (.tblDelete n) s = .next (s.complete n { status := stOk })) ∧
       (∀ e, findEnt f.cmd r es = some e →
         let t := (s.setTbl d id bank (es.filter (fun x => x.idx != e.idx))).updDie d
           (fun x => { x with tblBad := x.tblBad.erase (2 * id + bank, e.idx) })
         (bank ≠ s.liveBank d id → exec (.tblDelete n) s = .next (t.complete n { status := stOk, result := 1 })) ∧
         (bank = s.liveBank d id → exec (.tblDelete n) s =
           .next ((t.liveSync s d id [e.idx]).complete n { status := stOk, result := 1 })))) ∧
     (Starts (isOp 0x22) mTblRead n f s →
       (∀ e t, findEnt f.cmd r es = some e → s.dmaWrite f.cmd.opb (recBytes id r.flags e) = some t →
         exec (.tblRead n) s = .next (t.complete n { status := stOk, result := 1 })) ∧
       (∀ e, findEnt f.cmd r es = some e → s.dmaWrite f.cmd.opb (recBytes id r.flags e) = none →
         exec (.tblRead n) s = .next (s.complete n { status := stFault, detail := 0xE0 })) ∧
       (∀ t, findEnt f.cmd r es = none → s.dmaWrite f.cmd.opb (putAt bs 4 (leBytes 1 (r.flags % 2))) = some t →
         exec (.tblRead n) s = .next (t.complete n { status := stOk }))) ∧
     (Starts (isOp 0x23) mTblSearch n f s →
       let hits := (es.filter (fun e => (e.key ^^^ r.key) &&& r.mask == 0)).take (f.cmd.opa / 256 % 256 + 1)
       (hits = [] → exec (.tblSearch n) s = .next (s.complete n { status := stOk })) ∧
       (∀ t, hits ≠ [] → s.dmaWrite (f.cmd.opb + 256) ((hits.map (recBytes id r.flags)).flatten) = some t →
         exec (.tblSearch n) s = .next (t.complete n { status := stOk, result := hits.length })) ∧
       (hits ≠ [] → s.dmaWrite (f.cmd.opb + 256) ((hits.map (recBytes id r.flags)).flatten) = none →
         exec (.tblSearch n) s = .next (s.complete n { status := stFault, detail := 0xE0 })))) ∧
  (∀ (n : Nat) (f : Flight) (s : State), Starts (isOp 0x24) mTblCommit n f s →
     let d := locDie f.cmd.loc
     ∃ t : State, exec (.tblCommit n) s =
         .next (t.complete n { status := stOk, result := ((List.range 10).filter (fun i => bit f.cmd.opa i)).length }) ∧
       (∀ id, id < 10 → t.liveBank d id = if bit f.cmd.opa id then 1 - s.liveBank d id else s.liveBank d id) ∧
       t.fld (clsLoc d) R.TBL_BANK_COMMITS = (s.fld (clsLoc d) R.TBL_BANK_COMMITS + 1) % 65536 ∧
       (∀ e, (t.die e).tables = (s.die e).tables) ∧ t.ports = s.ports ∧ t.plyn = s.plyn ∧
       (∀ l o, regKey l o ≠ regKey (clsLoc d) 0x50 → t.reg l o = s.reg l o))

/-! ### PORT -/

/-- PORT.SET at a present port (R419, R420): each FUNC stores its own fields and leaves the rest of the block. FUNC 3 stores
the engine's settings and resets its parent, an engine that it enables counting from now (the model's choice, log entry 46),
FUNC 5 the ingress settings, FUNC 6 sixteen classes of the DSCP map; an absent
port has no target, and a FUNC above 6 is out of range. PORT.SET FUNC 4 writes RLK_CTRL (R131, R140): from OFF, EN 1 takes
the link to ACQUIRE and EN 0 only stores; in any other state only EN may be cleared, which takes it OFF with REASON 5; a
write of anything else conflicts with the state, and in SOUNDING every write does. -/
def Obligations.PortSettingsAreStored : Prop :=
  (∀ (n : Nat) (f : Flight) (s : State),
     let d := (locPort f.cmd.loc).1
     let p := (locPort f.cmd.loc).2
     let b := f.cmd.opb
     let x := s.port d p
     (s.present d p = true →
       (Starts (isFunc 0x30 3) mPortSet n f s → ∃ e : PtpEng, exec (.portSetPtp n) s = .next
           ((s.setPort d p { x with ptp := ptpOf b, eng := e }).complete n { status := stOk }) ∧
         e.parent = none ∧
         ((ptpOf b).en = true → x.ptp.en = false → e.announce = s.now ∧ e.heardAt = s.now ∧ e.expired = false) ∧
         { e with parent := x.eng.parent, announce := x.eng.announce, heardAt := x.eng.heardAt, expired := x.eng.expired } =
           x.eng) ∧
       (Starts (isFunc 0x30 5) mPortSet n f s → exec (.portSetIngress n) s = .next
         ((s.setPort d p { x with priMap := b % 2 ^ 32, pvid := b / 2 ^ 32 % 4096, trustDscp := bit b 44,
                                  frerKeep := bit b 45, ptpClass := b / 2 ^ 46 % 16 }).complete n { status := stOk })) ∧
       (Starts (isFunc 0x30 6) mPortSet n f s → ∃ t : State, exec (.portSetDscp n) s = .next (t.complete n { status := stOk }) ∧
         (∀ k, k < 64 → (t.port d p).dscpMap / 2 ^ (4 * k) % 16 =
           if k / 16 = f.cmd.opa / 16 % 4 then b / 2 ^ (4 * (k % 16)) % 16 else x.dscpMap / 2 ^ (4 * k) % 16) ∧
         t = s.setPort d p { x with dscpMap := (t.port d p).dscpMap })) ∧
     (s.present d p = false → ∀ r ∈ [(Instr.portSetRate n, 1), (Instr.portSetSpan n, 2), (Instr.portSetPtp n, 3),
         (Instr.portSetRelka n, 4), (Instr.portSetIngress n, 5), (Instr.portSetDscp n, 6)],
       Starts (isFunc 0x30 r.2) mPortSet n f s → exec r.1 s = .next (s.complete n { status := stNoTarget })) ∧
     (7 ≤ f.cmd.opa % 16 →
       s.begins n (fun c => c.opcode == 0x30 && (c.opa % 16 == 0 || decide (7 ≤ c.opa % 16))) = some f →
       exec (.portSetMode n) s = .next (s.complete n { status := stBadOperand, detail := 6 }))) ∧
  (∀ (n : Nat) (f : Flight) (s : State), Starts (isFunc 0x30 4) mPortSet n f s →
     let d := (locPort f.cmd.loc).1
     let p := (locPort f.cmd.loc).2
     let w := BitVec.ofNat 32 (f.cmd.opb % 2 ^ 32)
     s.present d p = true →
     (s.rlkState d p = rlkOff →
       (bit f.cmd.opb 0 = false → exec (.portSetRelka n) s =
         .next ((s.setReg (portLoc d p) 0x300 w).complete n { status := stOk })) ∧
       (bit f.cmd.opb 0 = true → ∃ t : State, exec (.portSetRelka n) s = .next (t.complete n { status := stOk }) ∧
         t.reg (portLoc d p) 0x300 = w ∧ t.rlkState d p = rlkAcquire ∧ t.pfld d p R.RLK_PHASE_PHASE_ACC = 0)) ∧
     (s.rlkState d p ≠ rlkOff → s.rlkState d p ≠ rlkSounding →
       w = fset (s.reg (portLoc d p) 0x300) 0 1 0 → ∃ t : State,
         exec (.portSetRelka n) s = .next (t.complete n { status := stOk }) ∧ t.pflag d p R.RLK_CTRL_EN = false ∧
           t.rlkState d p = rlkOff ∧ t.pfld d p R.RLK_STAT_REASON = 5) ∧
     (s.rlkState d p ≠ rlkOff → s.rlkState d p ≠ rlkSounding → w ≠ s.reg (portLoc d p) 0x300 →
       w ≠ fset (s.reg (portLoc d p) 0x300) 0 1 0 → exec (.portSetRelka n) s =
         .next (s.complete n { status := stConflict, detail := s.rlkState d p % 256 })) ∧
     (s.rlkState d p = rlkSounding → exec (.portSetRelka n) s =
       .next (s.complete n { status := stConflict, detail := rlkSounding })))

/-- The FUNCs of PORT.SET that change what the buffer must reserve (R234, R235, R290): MODE of a unit and the rate of a
service port ask for DISABLED ports and complete STATE_CONFLICT with the state of one that is not; a change that raises the
reservations above their limit completes STATE_CONFLICT 0xF0; else the mode, the rate, the span is the one given. PORT.UP
and PORT.DOWN (R241, R245, R346, R418): a DISABLED port whose unit is powered, or gets its tokens, turns its transmitter on
and enters AUTONEG or SIGNAL; in any other state UP conflicts; without tokens and BACKGROUND it is denied. DOWN takes a port
from any state to DISABLED with cause 6, transmitter, loop and VALID off, and RESULT16 is the former state. -/
def Obligations.PortModesPowerAndState : Prop :=
  (∀ (n : Nat) (f : Flight) (s : State),
     let d := (locPort f.cmd.loc).1
     let p := (locPort f.cmd.loc).2
     let u := locUnit f.cmd.loc
     let b := f.cmd.opb
     (Starts (fun c => c.opcode == 0x30 && (c.opa % 16 == 0 || decide (7 ≤ c.opa % 16))) mPortSet n f s →
       let t := s.put (unitLoc d u 16) R.PU_MODE_MODE (b % 8)
       (∀ q, (s.unitPorts d u).find? (fun q => s.pstate d q != psDisabled) = some q →
         exec (.portSetMode n) s = .next (s.complete n { status := stConflict, detail := s.pstate d q % 256 })) ∧
       ((∀ q ∈ s.unitPorts d u, s.pstate d q = psDisabled) →
         (s.raisesOver t d = true →
           exec (.portSetMode n) s = .next (s.complete n { status := stConflict, detail := 0xF0 })) ∧
         (s.raisesOver t d = false → d < 4 → u < 16 →
           ∃ t : State, exec (.portSetMode n) s = .next (t.complete n { status := stOk }) ∧ t.unitMode d u = b % 8 ∧
             t.tails = s.tails ∧ t.servo = s.servo))) ∧
     (s.present d p = true → 64 ≤ p → Starts (isFunc 0x30 1) mPortSet n f s →
       let t := s.putB (unitLoc d 16 16) ⟨0, 16 + (p - 64), 1⟩ (bit b 0)
       (s.pstate d p ≠ psDisabled →
         exec (.portSetRate n) s = .next (s.complete n { status := stConflict, detail := s.pstate d p % 256 })) ∧
       (s.pstate d p = psDisabled → s.raisesOver t d = false → p < 72 →
         ∃ u : State, exec (.portSetRate n) s = .next (u.complete n { status := stOk }) ∧
           u.rate d p = (if bit b 0 then 25000 else 10000) ∧ { u with regs := s.regs, ports := s.ports } = s)) ∧
     (s.present d p = true → Starts (isFunc 0x30 2) mPortSet n f s →
       let t := s.setPort d p { s.port d p with span := b % 2 ^ 17 }
       (s.raisesOver t d = true →
         exec (.portSetSpan n) s = .next (s.complete n { status := stConflict, detail := 0xF0 })) ∧
       (s.raisesOver t d = false →
         ∃ u : State, exec (.portSetSpan n) s = .next (u.complete n { status := stOk }) ∧
           (u.port d p).span = b % 2 ^ 17 ∧ { u with regs := s.regs, ports := s.ports } = s))) ∧
  (∀ (n : Nat) (f : Flight) (s : State),
     let d := (locPort f.cmd.loc).1
     let p := (locPort f.cmd.loc).2
     let r : WakeReq := { die := d, clu := portUnit p / 4, prio := if f.cmd.bg then 4 else 3, tick := s.now,
                          num := some n, unit := some (portUnit p) }
     s.present d p = true →
     (Starts (isOp 0x31) mPortUp n f s →
       (s.pstate d p ≠ psDisabled → exec (.portUp n) s =
         .next (s.complete n { status := stConflict, detail := s.pstate d p % 256 })) ∧
       (s.pstate d p = psDisabled → (s.unitPow d (portUnit p) ≠ 0 ∨ s.refuse r (s.ahead r) = []) →
         ∃ t : State, exec (.portUp n) s = .next (t.complete n { status := stOk }) ∧ t.pflag d p R.PORT_STAT_TX_ON = true ∧
           t.pstate d p = (if p < 64 ∧ s.pfld d p R.PORT_STAT_LOOP = 0 ∧ s.pflag d p R.PORT_LINK_CFG_AN_EN = true
             then psAutoneg else psSignal)) ∧
       (s.pstate d p = psDisabled → s.unitPow d (portUnit p) = 0 → s.refuse r (s.ahead r) ≠ [] → f.cmd.bg = false →
         ∃ c : Compl, c.status = stDenied ∧ exec (.portUp n) s = .next (s.complete n c))) ∧
     (Starts (isOp 0x32) mPortDown n f s →
       (s.pstate d p = psDisabled → exec (.portDown n) s = .next (s.complete n { status := stOk })) ∧
       (s.pstate d p ≠ psDisabled →
         ∃ t : State, exec (.portDown n) s = .next (t.complete n { status := stOk, result := s.pstate d p % 65536 }) ∧
           t.pstate d p = psDisabled ∧ t.pfld d p R.PORT_STAT_DOWN_CAUSE = 6 ∧ t.pflag d p R.PORT_STAT_TX_ON = false ∧
           t.pfld d p R.PORT_STAT_LOOP = 0 ∧ t.dlyValid d p = false)))

/-- PORT.LOOP and PORT.PRBS (R241, R248, R251, R252). On a DISABLED port without Relka and with power, loop depth 1 enters
UP, depths 2 and 3 SIGNAL, depths 4 and 5 TEST, and depth 3 alone stops the transmitter; depth 0 takes a port with a loop to
DISABLED. A pattern starts on a lane whose port is DISABLED, which enters TEST, its counts at 0 and unlocked; stopping it
clears both, and the port of the last pattern becomes DISABLED. PORT.INJECT (R250): an injection that may run goes on, its
count kept at its port, with its end as far ahead as COUNT instances and their spacing last, or, on frames, its bound 1 s
ahead; on a lane it needs the generator or checker that it acts on. Those of kinds 1 to 3 end with all of COUNT made, not
before that time; of kind 1 at a locked checker COUNT errors count; of kind 2 at the port's own decoder, COUNT codewords
count as corrected up to 15 symbols and as uncorrectable above. Those of kind 4 end with COUNT frames, or with TIMEOUT and
the number made. -/
def Obligations.PortTestsRun : Prop :=
  (∀ (n : Nat) (f : Flight) (s : State),
     (let d := (locPort f.cmd.loc).1
       let p := (locPort f.cmd.loc).2
       s.present d p = true →
       (Starts (fun c => c.opcode == 0x33 && c.opa % 8 != 0) mPortLoop n f s → s.pstate d p = psDisabled →
         s.pflag d p R.RLK_CTRL_EN = false → s.unitPow d (portUnit p) ≠ 0 →
         let depth := f.cmd.opa % 8
         ∃ t : State, exec (.portLoopStart n) s = .next (t.complete n { status := stOk }) ∧
           t.pfld d p R.PORT_STAT_LOOP = depth ∧ (t.pflag d p R.PORT_STAT_TX_ON = true ↔ depth ≠ 3) ∧
           t.pstate d p = (if depth = 1 then psUp else if depth ≤ 3 then psSignal else psTest)) ∧
       (Starts (fun c => c.opcode == 0x33 && c.opa % 8 == 0) mPortLoop n f s →
         (s.pfld d p R.PORT_STAT_LOOP = 0 → exec (.portLoopEnd n) s = .next (s.complete n { status := stOk })) ∧
         (s.pfld d p R.PORT_STAT_LOOP ≠ 0 → ∃ t : State, exec (.portLoopEnd n) s = .next (t.complete n { status := stOk }) ∧
           t.pstate d p = psDisabled ∧ t.pfld d p R.PORT_STAT_LOOP = 0))) ∧
     (let d := locDie f.cmd.loc
       let u := locUnit f.cmd.loc
       let l := locSub f.cmd.loc - 8
       let loc := laneLoc d u l
       d < 4 → u < 17 → 8 ≤ locSub f.cmd.loc → l < 8 → Tab.wf (s.die d).prbsLock = true →
       (Starts (fun c => c.opcode == 0x34 && c.opa % 4 != 0) mPortPrbs n f s → s.unitPow d u ≠ 0 →
         (s.laneOwner d u l).all (fun p => s.pstate d p == psDisabled) = true →
         ∃ t : State, exec (.portPrbsStart n) s = .next (t.complete n { status := stOk }) ∧
           (bit f.cmd.opa 0 = true → t.flag loc R.PRBS_STAT_GEN_ON = true) ∧
           (bit f.cmd.opa 1 = true → t.flag loc R.PRBS_STAT_CHK_ON = true ∧ t.flag loc R.PRBS_STAT_CHK_LOCK = false ∧
             t.pair loc R.PRBS_ERR_LO_ERR R.PRBS_ERR_HI_ERR = 0 ∧ t.prbsBits d u l = 0) ∧
           t.fld loc R.PRBS_STAT_PATTERN = f.cmd.opa / 4 % 16 ∧ t.fld loc R.PRBS_STAT_RATE = f.cmd.opb % 8 ∧
           (8 * u + l ∈ (t.die d).prbsInv ↔ bit f.cmd.opa 6 = true) ∧
           (∀ p, s.laneOwner d u l = some p → t.pstate d p = psTest)) ∧
       (Starts (fun c => c.opcode == 0x34 && c.opa % 4 == 0) mPortPrbs n f s → ∀ p, s.laneOwner d u l = some p →
         s.pstate d p = psTest → s.pfld d p R.PORT_STAT_LOOP = 0 →
         ∃ t : State, exec (.portPrbsStop n) s = .next (t.complete n { status := stOk }) ∧
           t.flag loc R.PRBS_STAT_GEN_ON = false ∧ t.flag loc R.PRBS_STAT_CHK_ON = false ∧
           ((∀ k ∈ s.portLanes d p, k ≠ l → s.lanePrbs d u k = false) → t.pstate d p = psDisabled)))) ∧
  (∀ (n : Nat) (f : Flight) (s : State),
     let loc := f.cmd.loc
     let d := (injPort loc).1
     let p := (injPort loc).2
     let x := s.port d p
     let cnt := f.cmd.opb % 65536
     (Starts (isOp 0x35) mPortInject n f s → 2 ≤ f.cmd.opa % 8 → s.present (locPort loc).1 (locPort loc).2 = true →
       (locSub loc < 8 ∨ locSub loc = 16) → (f.cmd.opa % 8 = 2 → s.hasFec d p = true) →
       ((s.pstate d p = psUp ∨ s.pstate d p = psRemote) →
         ∃ t : State, exec (.portInject n) s = .next t ∧
           t.flight n = some { f with
             phase := .exec (s.now + (if f.cmd.opa % 8 = 4 then 625000000 else s.injTicks f.cmd loc)) } ∧
           t.port d p = { x with inj := some { num := n, at_ := s.now } } ∧
           { t with plyn := s.plyn, ports := s.ports } = s) ∧
       (s.pstate d p ≠ psUp → s.pstate d p ≠ psRemote →
         exec (.portInject n) s = .next (s.complete n { status := stConflict, detail := s.pstate d p % 256 }))) ∧
     (Starts (isOp 0x35) mPortInject n f s → f.cmd.opa % 8 = 1 → 8 ≤ locSub loc → locSub loc ≠ 16 →
       let on := s.flag loc (if bit f.cmd.opa 3 then R.PRBS_STAT_GEN_ON else R.PRBS_STAT_CHK_ON)
       (on = true → ∃ t : State, exec (.portInject n) s = .next t ∧
         t.flight n = some { f with phase := .exec (s.now + s.injTicks f.cmd loc) } ∧
         t.port d p = { x with inj := some { num := n, at_ := s.now } } ∧ { t with plyn := s.plyn, ports := s.ports } = s) ∧
       (on = false → ∃ k, exec (.portInject n) s = .next (s.complete n { status := stConflict, detail := k }))) ∧
     (∀ due, s.flight n = some f → f.phase = .exec due → f.cmd.opcode = 0x35 → locDie loc ≠ 7 →
       x.inj.map Inj.num = some n →
       (f.cmd.opa % 8 ≠ 4 → ∃ t : State, exec (.portInjectDone n) s = .next (t.complete n { status := stOk, result := cnt }) ∧
         (t.port d p).inj = none ∧ (∀ i, x.inj = some i → i.at_ + s.injTicks f.cmd loc ≤ t.now) ∧
         (f.cmd.opa % 16 = 1 → s.flag loc R.PRBS_STAT_CHK_LOCK = true →
           t.pair loc R.PRBS_ERR_LO_ERR R.PRBS_ERR_HI_ERR =
             satNat (s.pair loc R.PRBS_ERR_LO_ERR R.PRBS_ERR_HI_ERR + cnt) 48) ∧
         (f.cmd.opa % 16 = 2 → f.cmd.opb / 65536 % 32 ≤ 15 →
           t.fld loc R.FEC_CORR_CORR = satNat (s.fld loc R.FEC_CORR_CORR + cnt) R.FEC_CORR_CORR.len) ∧
         (f.cmd.opa % 16 = 2 → 15 < f.cmd.opb / 65536 % 32 →
           t.fld loc R.FEC_UNCORR_UNCORR = satNat (s.fld loc R.FEC_UNCORR_UNCORR + cnt) R.FEC_UNCORR_UNCORR.len)) ∧
       (f.cmd.opa % 8 = 4 → ∀ i, x.inj = some i →
         (cnt ≤ i.made → exec (.portInjectDone n) s =
           .next ((s.setPort d p { x with inj := none }).complete n { status := stOk, result := cnt })) ∧
         (i.made < cnt → exec (.portInjectDone n) s = .next s) ∧
         exec (.portInjectTimeout n) s = .next (((s.advanceTo due).setPort d p { x with inj := none }).complete n
           { status := stTimeout, result := i.made }))))

/-! ### QUE, MIR -/

/-- QUE.SET at a present port (R306): scheduling, class shaper, admission, port shaper and flow settings take their fields
and nothing else changes; admission or flow settings that raise the reservations above their limit complete STATE_CONFLICT
0xF0, and LOSSLESS_EN and CREDIT change on a DISABLED port alone. QUE.GATELIST at a present port (R307, R356): a good record
becomes the pending list, started at its first cycle at least 1,000 ns ahead, where its reservations fit, RESULT16 its
count; without them it is denied and nothing changes, or with BACKGROUND waits for them (R64); a failed host access is FAULT
0xE0. Opening: without an operational
list all gates are open and nothing is pending; with one, an empty list is pending from its next cycle. QUE.FLUSH removes
the queued frames of one class or of all, and their number is RESULT16. MIR.SET enables a session, counting from 0, or ends
it, and changes no other (R280, R311). -/
def Obligations.QueuesGatesMirrorsAreSet : Prop :=
  (∀ (n : Nat) (f : Flight) (s : State),
     let loc := f.cmd.loc
     let d := (locPort loc).1
     let p := (locPort loc).2
     let c := f.cmd.opa % 16
     let b := f.cmd.opb
     s.present d p = true →
     (Starts (fun c => isQueSet 0 c || (c.opcode == 0x40 && decide (5 ≤ bits c.opa 4 4))) mQueSet n f s →
       exec (.queSetScheduling n) s = .next (((s.put loc (R.QUE_CLASS_CFG_STRICT c) b).put loc
         (R.QUE_CLASS_CFG_QUANTUM c) (b / 65536 % 65536)).complete n { status := stOk })) ∧
     (Starts (isQueSet 1) mQueSet n f s →
       exec (.queSetClassShaper n) s = .next (((s.put loc (R.QUE_CLASS_CFG_RATE c) b).put loc
         (R.QUE_CLASS_CFG_BURST c) (b / 2 ^ 32 % 2 ^ 24)).complete n { status := stOk })) ∧
     (Starts (isQueSet 2) mQueSet n f s →
       let t := s.put loc (R.QUE_CLASS_CFG_MIN_CELLS c) (b / 256 % 2 ^ 20)
       (s.raisesOver t d = true → exec (.queSetAdmission n) s =
         .next (s.complete n { status := stConflict, detail := 0xF0 })) ∧
       (s.raisesOver t d = false → exec (.queSetAdmission n) s = .next (((t.put loc (R.QUE_CLASS_CFG_ALPHA c) b).put loc
         (R.QUE_CLASS_CFG_PFC_PRIO c) (b / 16 % 8)).complete n { status := stOk }))) ∧
     (Starts (isQueSet 3) mQueSet n f s →
       exec (.queSetPortShaper n) s = .next (((s.put loc R.QUE_PORT_SHAPER_RATE b).put loc
         R.QUE_PORT_SHAPER_BURST (b / 2 ^ 32 % 2 ^ 24)).complete n { status := stOk })) ∧
     (Starts (isQueSet 4) mQueSet n f s →
       let t := s.put (portLoc d p) R.QUE_PORT_CFG_LOSSLESS_EN b
       (s.pstate d p ≠ psDisabled → (s.losslessEn d p ≠ bit b 0 ∨ s.creditOn d p ≠ bit b 1) →
         exec (.queSetPortFlow n) s = .next (s.complete n { status := stConflict, detail := s.pstate d p % 256 })) ∧
       ((s.pstate d p = psDisabled ∨ (s.losslessEn d p = bit b 0 ∧ s.creditOn d p = bit b 1)) →
         (s.raisesOver t d = true → exec (.queSetPortFlow n) s =
           .next (s.complete n { status := stConflict, detail := 0xF0 })) ∧
         (s.raisesOver t d = false → ∃ u : State, exec (.queSetPortFlow n) s = .next (u.complete n { status := stOk }) ∧
           u.losslessEn d p = bit b 0 ∧ u.creditOn d p = bit b 1 ∧
           u.pfld d p R.QUE_PORT_CFG_FLAP_HOLD = b / 65536 % 16384 ∧ { u with regs := s.regs, ports := s.ports } = s)))) ∧
  (∀ (n : Nat) (f : Flight) (s : State),
     let d := (locPort f.cmd.loc).1
     let p := (locPort f.cmd.loc).2
     let x := s.port d p
     (s.present d p = true →
       (Starts (fun c => c.opcode == 0x41 && bit c.opa 0) mGatelist n f s →
         (s.gateRec f.cmd.opb = none →
           exec (.queGatelistLoad n) s = .next (s.complete n { status := stFault, detail := 0xE0 })) ∧
         (∀ g, s.gateRec f.cmd.opb = some g →
           let t := s.setPort d p { x with pend := some (s.gateList d g) }
           let y := (t.resvLack d).foldl (State.resvStep f d) (t, [])
           (y.2 = [] → ∃ u : State, exec (.queGatelistLoad n) s =
               .next (u.complete n { status := stOk, result := g.count % 65536 }) ∧
             u = (y.1.resvSync d).getD y.1 ∧ (u.port d p).pend = some (s.gateList d g)) ∧
           (y.2 ≠ [] → f.cmd.bg = false → ∃ c : Compl, c.status = stDenied ∧
             exec (.queGatelistLoad n) s = .next (s.complete n c)) ∧
           (y.2 ≠ [] → f.cmd.bg = true → exec (.queGatelistLoad n) s = .next (mGatelist.await f s)))) ∧
       (Starts (fun c => c.opcode == 0x41 && !bit c.opa 0) mGatelist n f s →
         ∃ t : State, exec (.queGatelistOpen n) s = .next (t.complete n { status := stOk }) ∧
           (x.oper = none → (t.port d p).pend = none ∧ t.fld f.cmd.loc R.QUE_GATES_OPEN = 0xFFFF) ∧
           (∀ g, x.oper = some g → (t.port d p).pend = some { g with
             entries := [], start := firstAt g.start (g.cycle * 65536) (s.nowU d) }) ∧ (t.port d p).oper = x.oper) ∧
       (Starts (isOp 0x42) mQueFlush n f s →
         let hit (c : Nat) : Bool := bit f.cmd.opa 4 || c == f.cmd.opa % 16
         ∃ t : State, exec (.queFlush n) s = .next (t.complete n
             { status := stOk,
               result := min ((x.queue.filter (fun e => hit e.cls)).length + (x.hostQ.filter (fun h => hit h.cls)).length)
                 65535 }) ∧
           (t.port d p).queue = x.queue.filter (fun e => !hit e.cls) ∧
           (t.port d p).hostQ = x.hostQ.filter (fun h => !hit h.cls) ∧ t.tails = s.tails ∧ t.plyn = s.plyn)) ∧
     (Starts (isOp 0x50) mMirSet n f s →
       let d := locDie f.cmd.loc
       let k := f.cmd.opa % 8
       let b := f.cmd.opb
       ∃ t : State, exec (.mirSet n) s = .next (t.complete n { status := stOk }) ∧
         t = s.setDie d { s.die d with mirs := (t.die d).mirs } ∧
         (∀ j, j ≠ k → Tab.get? (t.die d).mirs j = Tab.get? (s.die d).mirs j) ∧
         (bit f.cmd.opa 3 = true → Tab.get? (t.die d).mirs k = some
           { ring := f.cmd.opa / 16 % 32, n := b % 2 ^ 24, trunc := b / 2 ^ 24 % 8, sel := b / 2 ^ 27 % 4,
             port := b / 2 ^ 29 % 128, cls := b / 2 ^ 36 % 16, count := 0, sample := 0 }) ∧
         (bit f.cmd.opa 3 = false → Tab.wf (s.die d).mirs = true → Tab.get? (t.die d).mirs k = none)))

/-! ### TIME -/

/-- TIME.SET, TIME.STEP and TIME.SLEW (R93 to R97): refused with the servo's state in DETAIL while a swap runs, in TAKEOVER,
HOLD and PHASE_LOCKED, and while a time reference is being acquired. Else, with no step committed, SET commits its seconds
to the first second boundary at least 1,280 ns ahead and stops a slew, STEP commits its signed offset 1,280 ns after the
next word slot, an offset of 0 completing at once; behind a step already committed either waits its turn, SET with the
boundary it chose (the model's queue, log entry 25); SLEW adds its offset to what is left at its rate. The three go on, a
step until all six tailstocks have applied it. TIME.ALIGN is kept with the first second boundary at least 1,280 ns ahead.
There the clock stands at or behind that boundary, a step that is due on that tick is applied first, REF_PEND reads 0, and
the instruction completes with the former REF_PEND in ns; where that is 0 no output and no trigger moves (R216). -/
def Obligations.TimeChangesAndAlignment : Prop :=
  (∀ (n : Nat) (f : Flight) (s : State),
     (∀ r ∈ [(Instr.timeSet n, 0x60, mTimeSet), (Instr.timeStep n, 0x61, mTimeStep), (Instr.timeSlew n, 0x62, mTimeSlew)],
       Starts (isOp r.2.1) r.2.2 n f s →
       (s.servoState = 3 ∨ 6 ≤ s.servoState ∧ s.servoState ≤ 7 ∨ s.hst.swap ≠ none ∨
         (s.servoState = 1 ∨ s.servoState = 5) ∧ s.selTime = true) →
       exec r.1 s = .next (s.complete n { status := stConflict, detail := s.servoState % 256 })) ∧
     (s.timeRefused = false → s.servo.step = none →
       (Starts (isOp 0x60) mTimeSet n f s → ∃ t : State, exec (.timeSet n) s = .next t ∧
         t.flight n = some { f with phase := .exec 0 } ∧
         t.servo.step = some { set := true, secs := f.cmd.opb % 2 ^ 48, tick := s.tickOf (s.boundaryAfter 1280),
                               bound := some (s.boundaryAfter 1280), num := some n } ∧
         { num := n, tick := s.tickOf (s.boundaryAfter 1280), left := List.range 6, result := none } ∈ t.servo.applying ∧
         t.servo.slewLeft = 0 ∧ t.servo.slewRate = 0 ∧ { t with plyn := s.plyn, servo := s.servo } = s) ∧
       (Starts (isOp 0x61) mTimeStep n f s →
         (f.cmd.opb = 0 → exec (.timeStep n) s = .next (s.complete n { status := stOk })) ∧
         (f.cmd.opb ≠ 0 → ∃ t : State, exec (.timeStep n) s = .next t ∧ t.flight n = some { f with phase := .exec 0 } ∧
           t.servo = { s.servo with
             step := some { offset := sx f.cmd.opb 64, num := some n, tick := (s.tail 5).n + s.toSlot + 800 },
             applying := s.servo.applying.filter (fun w => w.num != n) ++
               [{ num := n, tick := (s.tail 5).n + s.toSlot + 800, left := List.range 6, result := none }] } ∧
           { t with plyn := s.plyn, servo := s.servo } = s))) ∧
     (s.timeRefused = false → ∀ x, s.servo.step = some x →
       (Starts (isOp 0x60) mTimeSet n f s → ∃ t : State, exec (.timeSet n) s = .next t ∧
         t.flight n = some { f with phase := .exec 0 } ∧
         t.servo = { s.servo with next := s.servo.next ++
           [{ set := true, secs := f.cmd.opb % 2 ^ 48, bound := some (s.boundaryAfter 1280), num := some n }] } ∧
         { t with plyn := s.plyn, servo := s.servo } = s) ∧
       (Starts (isOp 0x61) mTimeStep n f s → f.cmd.opb ≠ 0 → ∃ t : State, exec (.timeStep n) s = .next t ∧
         t.flight n = some { f with phase := .exec 0 } ∧
         t.servo = { s.servo with next := s.servo.next ++ [{ offset := sx f.cmd.opb 64, num := some n }] } ∧
         { t with plyn := s.plyn, servo := s.servo } = s)) ∧
     (s.timeRefused = false → Starts (isOp 0x62) mTimeSlew n f s → ∃ t : State, exec (.timeSlew n) s = .next t ∧
       t.flight n = some { f with phase := .exec 0 } ∧ t.servo.slewLeft = s.slewRemain + sx f.cmd.opb 64 ∧
       t.servo.slewRate = (if s.slewRemain + sx f.cmd.opb 64 = 0 then 0 else f.cmd.opa) ∧
       t.servo.slews = s.servo.slews ++ [(n, s.now)] ∧
       t.servo.step = s.servo.step ∧ { t with plyn := s.plyn, servo := s.servo } = s)) ∧
  (∀ (n : Nat) (f : Flight) (s : State),
     (Starts (isOp 0x63) mTimeAlign n f s → ∃ t : State, exec (.timeAlign n) s = .next t ∧
       t.flight n = some { f with phase := .exec 0 } ∧
       t.servo = { s.servo with align := s.servo.align ++ [(n, s.boundaryAfter 1280)] } ∧
       { t with plyn := s.plyn, servo := s.servo } = s) ∧
     (∀ due a, s.flight n = some f → f.phase = .exec due → f.cmd.opcode = 0x63 →
       s.servo.align.find? (fun x => x.1 == n) = some (n, a) →
       let k := ceilDiv (5 * a - (s.tail 5).fu) fuTick
       let u := if s.stepDue = some k then (s.advance k).stepNow else s.advance k
       ∃ t : State, exec (.timeAlignApply n) s =
           .next (t.complete n { status := stOk, result := satBits (roundDiv u.refPend 65536) 16 % 65536 }) ∧
         t.refPend = 0 ∧ (∀ x ∈ t.servo.align, x.1 ≠ n) ∧ 5 * a ≤ ((s.advance k).tail 5).fu ∧
         t.servo.alignA = a ∧ t.tails = u.tails ∧
         (u.refPend = 0 → t.outs = u.outs ∧ t.trigs = u.trigs)))

/-- TIME.ARM (R222 to R226) of an idle trigger whose first instant lies at least 1,000 ns ahead, or late by no more than the
grace window: it is armed with that instant, or MUTED where safe state mutes it (R229). Later than that, EXPIRE expires it,
RUN arms it past the instants already gone, completing LATE, and NEXT arms it with the first instant within the window, or
expires it where its COUNT has none. An armed trigger conflicts, a shape that breaks R222 is out of range; disarming returns
it to IDLE with cause 1, leaves a MUTED one, and an idle one conflicts. A live trigger fires: both edges go out, unless a
CAL.RUN holds its output (R389), STATE is FIRING, FIRED counts once a burst, and after the pulse it waits for the next pulse of its burst or the next instant, or is IDLE again with cause 0 when
its count is reached (R222 to R226). -/
def Obligations.TriggersArmAndFire : Prop :=
  (∀ (n : Nat) (f : Flight) (s : State),
     let loc := f.cmd.loc
     let k := locUnit loc - 20
     let st := s.fld loc R.TRG_STAT_STATE
     let t0 := fromTx64 (s.nowU 6) f.cmd.opb
     let l : Int := (s.nowU 6 : Int) + 65536000 - t0
     let g : Int := ((s.ring f.ring).grace * 65536000 : Nat)
     (Starts (fun c => c.opcode == 0x64 && c.opa % 4 != 0) mTimeArm n f s →
       (st ≠ 0 → exec (.timeArm n) s = .next (s.complete n { status := stConflict, detail := st % 256 })) ∧
       (st = 0 → s.shapeBad k (f.cmd.opa % 4) = true →
         exec (.timeArm n) s = .next (s.complete n { status := stBadOperand, detail := 6 })) ∧
       (st = 0 → loc = hubLoc (20 + k) → s.shapeBad k (f.cmd.opa % 4) = false → sdiff f.cmd.opb s.txNow ≠ -horizon →
         (l ≤ g → ∃ t : State, exec (.timeArm n) s = .next (t.complete n { status := stOk }) ∧
           t.trig k = { mode := f.cmd.opa % 4, t0 := t0 } ∧
           t.fld loc R.TRG_STAT_STATE =
             (if s.faults.reduced = true ∨ (s.safe = true ∧ s.flag loc R.TRG_CTRL_SAFE_MUTE = true) then 3 else 1) ∧
           (∀ j, j ≠ k → t.trig j = s.trig j) ∧ { t with trigs := s.trigs, regs := s.regs } = s) ∧
         (g < l → f.cmd.late = 0 → exec (.timeArm n) s = .next (s.complete n { status := stExpired })) ∧
         (g < l → f.cmd.late = 1 → ∃ t : State,
           exec (.timeArm n) s = .next (t.complete n { status := stLate, result := lateNs l }) ∧
           t.trig k = { mode := f.cmd.opa % 4, t0 := t0, now := true,
                        k := l.toNat * s.trgDen k / max (s.trgPeriod k) 1 + 1 }) ∧
         (g < l → 2 ≤ f.cmd.late → f.cmd.opa % 4 ≠ 1 →
           let j := ceilDiv ((l - g).toNat * s.trgDen k) (max (s.trgPeriod k) 1)
           let c := s.fld loc R.TRG_COUNT_COUNT
           ((c = 0 ∨ j < c) → ∃ t : State, exec (.timeArm n) s = .next (t.complete n { status := stOk, detail := j % 256 }) ∧
             t.trig k = { mode := f.cmd.opa % 4, t0 := t0, k := j }) ∧
           (c ≠ 0 → c ≤ j → exec (.timeArm n) s = .next (s.complete n { status := stExpired }))))) ∧
     (Starts (fun c => c.opcode == 0x64 && c.opa % 4 == 0) mTimeArm n f s →
       (st = 0 → exec (.timeArmDisarm n) s = .next (s.complete n { status := stConflict })) ∧
       (st = 3 → exec (.timeArmDisarm n) s = .next (s.complete n { status := stOk })) ∧
       (st ≠ 0 → st ≠ 3 → loc = hubLoc (20 + k) → ∃ t : State,
         exec (.timeArmDisarm n) s = .next (t.complete n { status := stOk }) ∧
         t.trig k = {} ∧ t.fld loc R.TRG_STAT_STATE = 0 ∧ t.fld loc R.TRG_STAT_CAUSE = 1))) ∧
  (∀ (s : State) (n : Nat), n < 8 →
     let l := hubLoc (20 + n)
     let x := s.trig n
     (s.trgLive n = false → exec (.triggerFire n) s = .next s) ∧
     (s.trgLive n = true → s.calBusy l 3 = true → ∃ t : State, exec (.triggerFire n) s = .next t ∧ t.sent = s.sent ∧
       t.caps = s.caps) ∧
     (s.trgLive n = true → s.calBusy l 3 = false → ∃ (t : State) (a b : Nat × Nat), exec (.triggerFire n) s = .next t ∧
       .edge (20 + n) a.1 a.2 ∈ t.sent ∧ .edge (20 + n) b.1 b.2 ∈ t.sent) ∧
     (s.trgLive n = true → s.calBusy l 3 = false → s.loopCaps n = [] → ∃ (t : State) (a b : Nat × Nat),
       exec (.triggerFire n) s = .next t ∧
       t.sent = .edge (20 + n) b.1 b.2 :: .edge (20 + n) a.1 a.2 :: s.sent ∧
       (x.now = true → a = ((s.tail 5).n + 1, 0)) ∧
       t.fld l R.TRG_FIRED_FIRED = (if x.b = 0 ∨ x.now = true then (s.fld l R.TRG_FIRED_FIRED + 1) % 2 ^ R.TRG_FIRED_FIRED.len
         else s.fld l R.TRG_FIRED_FIRED) ∧
       (x.now = false → x.mode = 3 → x.b < s.fld l R.TRG_BURST_B_M1 →
         t.trig n = { x with b := x.b + 1 } ∧ t.fld l R.TRG_STAT_STATE = 2) ∧
       (x.now = false → (x.mode ≠ 3 ∨ s.fld l R.TRG_BURST_B_M1 ≤ x.b) →
         (∀ c, s.trgCount n = some c → c ≤ x.k + 1 → t.trig n = {} ∧ t.fld l R.TRG_STAT_STATE = 0 ∧
           t.fld l R.TRG_STAT_CAUSE = 0) ∧
         ((s.trgCount n = none ∨ ∃ c, s.trgCount n = some c ∧ x.k + 1 < c) →
           t.trig n = { x with k := x.k + 1, b := 0 } ∧ t.fld l R.TRG_STAT_STATE = 2)) ∧
       (∀ j, j ≠ n → t.trig j = s.trig j) ∧
       { t with tails := s.tails, trigs := s.trigs, regs := s.regs, sent := s.sent } = s))

/-! ### LINK -/

/-- LINK.ASYM at a present port (R133, R135): in SOUNDING it conflicts; else FUNC 0 stores the configured asymmetry, 1 the
wavelengths and the dispersion product with source CMIS, 2 the wavelengths, 3 source CONFIG; the effective asymmetry is
recomputed, and RESULT16 is it in ps, to the nearest (log entry 20). Without the port there is no target, for LINK.SOUND
too. LINK.SOUND at a present port (R137 to R139).
BEGIN takes a LINKED link that can sound to SOUNDING and forgets earlier pairs; MEASURE goes on for 2^k exchanges with a
bound of 1 s, at which it completes TIMEOUT and stores nothing; SOLVE needs both pairs and stores the sounded DL; END after
it takes the new wavelengths with source SOUNDED and returns to ACQUIRE, ABORT returns there at once. RESULT16 of SOLVE is
the uncertainty of a at the operating wavelengths in fs, as the model computes it (log entry 60). In any other link state
each but ABORT conflicts with that state. -/
def Obligations.LinkAsymmetryAndSounding : Prop :=
  (∀ (n : Nat) (f : Flight) (s : State),
     let d := (locPort f.cmd.loc).1
     let p := (locPort f.cmd.loc).2
     let b := f.cmd.opb
     ∀ r ∈ [(Instr.linkAsymSetCfg n, 0), (Instr.linkAsymSetCmis n, 1), (Instr.linkAsymSetWavelengths n, 2),
         (Instr.linkAsymSetConfig n, 3)], Starts (isAsym r.2) mLinkAsym n f s →
       (s.present d p = false → exec r.1 s = .next (s.complete n { status := stNoTarget })) ∧
       (s.present d p = true → s.rlkState d p = rlkSounding →
         exec r.1 s = .next (s.complete n { status := stConflict, detail := 4 })) ∧
       (s.present d p = true → s.rlkState d p ≠ rlkSounding → ∃ t : State,
         exec r.1 s = .next (t.complete n { status := stOk, result := t.asymPs d p % 65536 }) ∧
         (r.2 = 0 → t.pfld d p R.RLK_ASYM_CFG_CFG = b % 2 ^ 32) ∧
         (r.2 = 1 ∨ r.2 = 2 → t.pfld d p R.RLK_LAMBDA_TX_LAMBDA = b % 2 ^ 22 ∧
           t.pfld d p R.RLK_LAMBDA_RX_LAMBDA = b / 2 ^ 22 % 2 ^ 22) ∧
         (r.2 = 1 → t.pfld d p R.RLK_DISP_DMID = b / 2 ^ 44 % 2 ^ 20 ∧ t.pfld d p R.RLK_STAT_ASYM_SRC = 1) ∧
         (r.2 = 3 → t.pfld d p R.RLK_STAT_ASYM_SRC = 0) ∧
         t.pfld d p R.RLK_ASYM_EFF_A = satBits (t.asym d p) 32 ∧ t.rlkState d p = s.rlkState d p ∧
         { t with regs := s.regs, ports := s.ports } = s)) ∧
  (∀ (n : Nat) (f : Flight) (s : State),
     let d := (locPort f.cmd.loc).1
     let p := (locPort f.cmd.loc).2
     let b := f.cmd.opb
     let x := s.snd d p
     let no (i : Instr) : Prop := exec i s = .next (s.complete n { status := stConflict, detail := s.rlkState d p % 256 })
     (∀ i form, (i, form) ∈ [(Instr.linkSoundBegin n, fun c : Cmd => c.opcode == 0x70 && !([2, 3, 4, 5, 15].contains (c.opa % 16))),
         (.linkSoundMeasure n, fun c => c.opcode == 0x70 && (c.opa % 16 == 2 || c.opa % 16 == 3)),
         (.linkSoundSolve n, isFunc 0x70 4), (.linkSoundEnd n, isFunc 0x70 5), (.linkSoundAbort n, isFunc 0x70 15)] →
       Starts form mLinkSound n f s → s.present d p = false → exec i s = .next (s.complete n { status := stNoTarget })) ∧
     (s.present d p = true →
     (Starts (fun c => c.opcode == 0x70 && !([2, 3, 4, 5, 15].contains (c.opa % 16))) mLinkSound n f s →
       ((s.rlkState d p ≠ rlkLinked ∨ s.pflag d p R.RLK_CTRL_SOUND_CAP = false) → no (.linkSoundBegin n)) ∧
       (s.rlkState d p = rlkLinked → s.pflag d p R.RLK_CTRL_SOUND_CAP = true → ∃ t : State,
         exec (.linkSoundBegin n) s = .next (t.complete n { status := stOk }) ∧ t.rlkState d p = rlkSounding ∧ t.snd d p = {})) ∧
     (s.rlkState d p ≠ rlkSounding →
       (Starts (fun c => c.opcode == 0x70 && (c.opa % 16 == 2 || c.opa % 16 == 3)) mLinkSound n f s →
         no (.linkSoundMeasure n)) ∧
       (Starts (isFunc 0x70 4) mLinkSound n f s → no (.linkSoundSolve n)) ∧
       (Starts (isFunc 0x70 5) mLinkSound n f s → no (.linkSoundEnd n))) ∧
     (Starts (fun c => c.opcode == 0x70 && (c.opa % 16 == 2 || c.opa % 16 == 3)) mLinkSound n f s →
       s.rlkState d p = rlkSounding → ∃ t : State, exec (.linkSoundMeasure n) s = .next t ∧
         t.flight n = some { f with phase := .exec (s.now + 625000000) } ∧
         t.snd d p = { x with num := some n, pairB := f.cmd.opa % 16 == 3, need := 2 ^ (b / 2 ^ 44 % 16), got := 0, bad := 0,
                              sum := 0, tx := b % 2 ^ 22, rx := b / 2 ^ 22 % 2 ^ 22 } ∧
         { t with plyn := s.plyn, ports := s.ports } = s) ∧
     (∀ due, s.flight n = some f → f.phase = .exec due → f.cmd.opcode = 0x70 → x.num = some n →
       ∃ t : State, exec (.soundMeasureTimeout n) s = .next (t.complete n { status := stTimeout }) ∧
         t.snd d p = { x with num := none } ∧ t.regs = s.regs ∧ due ≤ t.now) ∧
     (Starts (isFunc 0x70 4) mLinkSound n f s → s.rlkState d p = rlkSounding →
       (∀ v w, x.sumOf false = some v → x.sumOf true = some w → ∃ t : State,
         exec (.linkSoundSolve n) s = .next (t.complete n { status := stOk, result := satNat (solveFs x.nA x.nB (natDist v w)
           (natDist (s.pfld d p R.RLK_LAMBDA_TX_LAMBDA) (s.pfld d p R.RLK_LAMBDA_RX_LAMBDA))) 16 }) ∧
         t.snd d p = { x with solved := true } ∧
         t.pfld d p R.RLK_DL_DL = satBits (soundDl (s.pair (portLoc d p) R.RLK_SND_RTT_A_RTT_LO R.RLK_SND_RTT_A_RTT_HI)
           (s.pair (portLoc d p) R.RLK_SND_RTT_B_RTT_LO R.RLK_SND_RTT_B_RTT_HI) v w) 32) ∧
       ((x.sumOf false = none ∨ x.sumOf true = none) →
         no (.linkSoundSolve n))) ∧
     (Starts (isFunc 0x70 5) mLinkSound n f s → s.rlkState d p = rlkSounding →
       (x.solved = true → ∃ t : State, exec (.linkSoundEnd n) s = .next (t.complete n { status := stOk }) ∧
         t.rlkState d p = rlkAcquire ∧ t.pfld d p R.RLK_STAT_ASYM_SRC = 2 ∧
         t.pfld d p R.RLK_LAMBDA_TX_LAMBDA = b % 2 ^ 22 ∧ t.snd d p = {}) ∧
       (x.solved = false → no (.linkSoundEnd n))) ∧
     (Starts (isFunc 0x70 15) mLinkSound n f s →
       (s.rlkState d p = rlkSounding → ∃ t : State, exec (.linkSoundAbort n) s = .next (t.complete n { status := stOk }) ∧
         t.rlkState d p = rlkAcquire ∧ t.snd d p = {}) ∧
       (s.rlkState d p ≠ rlkSounding → exec (.linkSoundAbort n) s = .next (s.complete n { status := stOk })))))

/-! ### REF -/

/-- REF.SET (R150, R151, R162) outside TAKEOVER and HOLD: a source that no other slot names, on a slot that is not the
selected one, is nominated: its configuration stored, the slot FAILED with everything cleared; the same source again only
stores its configuration; one withdrawn is OFF. The selected slot takes neither, and a source named by another slot is
refused: STATE_CONFLICT with the servo's and the slot's state. REF.SELECT, REF.FORCE, REF.RELEASE, REF.ACCEPT_STEP (R161,
R162, R164, R165) outside TAKEOVER and HOLD, where all of them conflict. SELECT of another QUALIFIED slot whose Delta is not
refused selects it and opens its settle window, MODE 1; one whose Delta is refused is REFUSED, and the selection is
automatic again. FORCE takes any nominated slot, MODE 2: to Steady Rest or free run where its activity has failed (log entry
26) or its Delta is refused, else as SELECT does; slot 15 gives MODE 3 and no reference. A slot that is selected already
only changes MODE. RELEASE returns to MODE 0; ACCEPT_STEP takes a REFUSED slot to QUALIFIED, its Delta accepted, with the
refused Delta in ns. -/
def Obligations.ReferencesObeyTheHost : Prop :=
  (∀ (n : Nat) (f : Flight) (s : State),
     let i := f.cmd.opa % 8
     let new := f.cmd.opb % 2 ^ 18
     let no : Compl := { status := stConflict, detail := (s.servoState + s.refState i * 16) % 256 }
     (Starts (fun c => c.opcode == 0x80 && bit c.opa 3) mRefSet n f s →
       ((s.servoState = 6 ∨ s.servoState = 7) → exec (.refSetNominate n) s = .next (s.complete n no)) ∧
       (s.refShut = false →
         (∀ j, j < 8 → j ≠ i → s.refState j ≠ 0 → sameSource (s.refCfg j) new = true →
           exec (.refSetNominate n) s = .next (s.complete n no)) ∧
         (s.selected = some i → s.refCfg i % 2 ^ 13 ≠ new % 2 ^ 13 → exec (.refSetNominate n) s = .next (s.complete n no)) ∧
         ((∀ j, j < 8 → j ≠ i → s.refState j = 0 ∨ sameSource (s.refCfg j) new = false) → s.refState i ≠ 0 →
           s.refCfg i % 2 ^ 13 = new % 2 ^ 13 → ∃ t : State,
           exec (.refSetNominate n) s = .next (t.complete n { status := stOk }) ∧ t.refCfg i = new ∧
             (∀ j, t.refState j = s.refState j) ∧ { t with regs := s.regs } = s) ∧
         ((∀ j, j < 8 → j ≠ i → s.refState j = 0 ∨ sameSource (s.refCfg j) new = false) → s.selected ≠ some i →
           (s.refState i = 0 ∨ s.refCfg i % 2 ^ 13 ≠ new % 2 ^ 13) → ∃ t : State,
           exec (.refSetNominate n) s = .next (t.complete n { status := stOk }) ∧ t.refCfg i = new ∧ t.refState i = 1 ∧
             t.ref i = {} ∧ t.arb (R.REF_STAT_CAUSE i) = 0 ∧ (∀ j, j ≠ i → t.ref j = s.ref j) ∧
             { t with regs := s.regs, refs := s.refs } = s))) ∧
     (Starts (fun c => c.opcode == 0x80 && !bit c.opa 3) mRefSet n f s → s.refShut = false →
       (s.selected = some i → exec (.refSetWithdraw n) s = .next (s.complete n no)) ∧
       (s.selected ≠ some i → ∃ t : State, exec (.refSetWithdraw n) s = .next (t.complete n { status := stOk }) ∧
         t.refState i = 0 ∧ t.ref i = {} ∧ { t with regs := s.regs, refs := s.refs } = s))) ∧
  (∀ (n : Nat) (f : Flight) (s : State), s.refShut = true →
     let no (slot : Nat) : Compl := { status := stConflict, detail := (s.servoState + slot * 16) % 256 }
     (Starts (isOp 0x81) mRefSelect n f s → exec (.refSelect n) s = .next (s.complete n (no (s.refState (f.cmd.opa % 8))))) ∧
     (Starts (isOp 0x82) mRefForce n f s → exec (.refForce n) s =
       .next (s.complete n (no (if f.cmd.opa % 16 = 15 then 0 else s.refState (f.cmd.opa % 16))))) ∧
     (Starts (isOp 0x83) mRefRelease n f s → exec (.refRelease n) s = .next (s.complete n (no 0))) ∧
     (Starts (isOp 0x84) mRefAcceptStep n f s →
       exec (.refAcceptStep n) s = .next (s.complete n (no (s.refState (f.cmd.opa % 8)))))) ∧
  (∀ (n : Nat) (f : Flight) (s : State), s.refShut = false →
     let i := f.cmd.opa % 8
     let far := !freqKind (s.refKind i) && s.tooFar i (s.ref i).toff
     let taken (c : Instr) (mode j : Nat) : Prop := ∃ t : State, exec c s = .next (t.complete n { status := stOk }) ∧
       t.selected = some j ∧ t.arb R.REF_SEL_MODE = mode ∧ t.flag locArb R.REF_SEL_SETTLING = true ∧
       t.servo.settleEnd = s.now + 625000000 ∧
       t.servoState = if s.servoState = 0 ∨ s.servoState = 4 then 1 else 5
     (Starts (isOp 0x81) mRefSelect n f s →
       ((s.refState i ≠ 3 ∨ s.flag locArb R.REF_SEL_SETTLING = true ∨ 2 ≤ s.arb R.REF_SEL_MODE) →
         exec (.refSelect n) s =
           .next (s.complete n { status := stConflict, detail := (s.servoState + s.refState i * 16) % 256 })) ∧
       (s.refState i = 3 → s.flag locArb R.REF_SEL_SETTLING = false → s.arb R.REF_SEL_MODE < 2 →
         (s.selected = some i → exec (.refSelect n) s = .next ((s.arbPut R.REF_SEL_MODE 1).complete n { status := stOk })) ∧
         (s.selected ≠ some i → far = false → taken (.refSelect n) 1 i) ∧
         (s.selected ≠ some i → far = true → ∃ u : State,
           exec (.refSelect n) s = .next ((u.reselect true).complete n { status := stOk }) ∧ u.refState i = 4 ∧
           u.arb R.REF_SEL_MODE = 0 ∧ u.selected = s.selected))) ∧
     (Starts (isOp 0x82) mRefForce n f s →
       let rest (mode : Nat) : Prop := ∃ t : State, exec (.refForce n) s = .next (t.complete n { status := stOk }) ∧
         t.selected = none ∧ t.arb R.REF_SEL_MODE = mode ∧ t.flag locArb R.REF_SEL_SETTLING = false ∧
         t.servoState = (if s.servoState = 0 ∨ s.servoState = 4 then s.servoState
           else if s.flag locArb R.SR_STAT_HIST_VALID then 4 else 0)
       (f.cmd.opa % 16 < 8 →
         (s.refState i = 0 → exec (.refForce n) s =
           .next (s.complete n { status := stConflict, detail := s.servoState % 256 })) ∧
         (s.refState i ≠ 0 → (s.ref i).dead = true → rest 2) ∧
         (s.refState i ≠ 0 → (s.ref i).dead = false →
           (s.selected = some i → exec (.refForce n) s = .next ((s.arbPut R.REF_SEL_MODE 2).complete n { status := stOk })) ∧
           (s.selected ≠ some i → far = false → taken (.refForce n) 2 i) ∧
           (s.selected ≠ some i → far = true → rest 2))) ∧
       (f.cmd.opa % 16 = 15 → rest 3)) ∧
     (Starts (isOp 0x83) mRefRelease n f s →
       (s.arb R.REF_SEL_MODE ≠ 0 → exec (.refRelease n) s =
         .next (((s.arbPut R.REF_SEL_MODE 0).reselect).complete n { status := stOk })) ∧
       (s.arb R.REF_SEL_MODE = 0 → exec (.refRelease n) s =
         .next (s.complete n { status := stConflict, detail := s.servoState % 256 }))) ∧
     (Starts (isOp 0x84) mRefAcceptStep n f s →
       (s.refState i = 4 → ∃ u : State, exec (.refAcceptStep n) s = .next (u.reselect.complete n
           { status := stOk, result := satBits (roundDiv (s.ref i).delta 65536) 16 % 65536 }) ∧
         u.refState i = 3 ∧ u.ref i = { s.ref i with accept := true, shut := false } ∧ { u with refs := s.refs, regs := s.regs } = s) ∧
       (s.refState i ≠ 4 → exec (.refAcceptStep n) s =
         .next (s.complete n { status := stConflict, detail := (s.servoState + s.refState i * 16) % 256 }))))

/-- References (R152, R153, R158): a time-of-day message counts only with its SYNC, its CHECK and its arrival in the window
after the pulse, and then its flags are kept; an activity condition takes a nominated slot to FAILED, with cause 1 from
QUALIFIED on, before the selection is made, and in TAKEOVER is only kept; a pulse at its time, with a counting message where
one is needed, fails nothing and is kept as the last, and one off its time fails each slot of its input. The end of a gate
(R153 to R158, R198) with one measurement and no vote: outside TAKEOVER the slot's frequency and offset registers take the
gate's values and its state moves before the selection is made: FAILED to QUALIFYING on a good gate, any better state to
FAILED with the gate's cause on a bad one, QUALIFYING to QUALIFIED on the last of QUALIFY_S good gates inside accept and to
FAILED, cause 2, on one beyond it. The cause is activity where the slot's source shows it, else frequency beyond REJECT, else
chatter; a clock input's frequency and offsets are those that the gate brings. In TAKEOVER, and where one was declared in the
gate, it is discarded. The settle window ends and
the servo locks (R160, R168): SETTLING clears; from REACQUIRE the servo goes to FREQ_LOCKED under a frequency reference, to
PHASE_LOCKED with a residual within 1 ns, else to ACQUIRE. From ACQUIRE, 10 s held, it goes to FREQ_LOCKED or PHASE_LOCKED
by the kind of reference, and PHASE_LOCKED marks the timescale traced. -/
def Obligations.ReferencesAreWatchedAndServoLocks : Prop :=
  (∀ s : State,
     (∀ bs : List Byte,
       ((bs.length ≠ 11 ∨ beAt bs 0 2 ≠ 0xC33C ∨ crc16 (leAt bs 2 7) 56 ≠ beAt bs 9 2 ∨ s.now < s.servo.pulse0 + 6250000 ∨
           s.servo.pulse0 + 562500000 < s.now) →
         exec (.todMessage bs) s = .next s) ∧
       (bs.length = 11 → beAt bs 0 2 = 0xC33C → crc16 (leAt bs 2 7) 56 = beAt bs 9 2 → s.servo.pulse0 + 6250000 ≤ s.now →
         s.now ≤ s.servo.pulse0 + 562500000 → ∃ t : State, exec (.todMessage bs) s = .next t ∧
           t.servo = { s.servo with todSecs := beAt bs 2 6, todFlags := beAt bs 8 1, todOk := bit (beAt bs 8 1) 0 } ∧
           { t with servo := s.servo, regs := s.regs } = s)) ∧
     (∀ i, i < 8 →
       (s.refState i = 0 → exec (.refActivityFail i) s = .next s) ∧
       (s.refState i ≠ 0 → s.servoState = 6 → ∃ u : State, exec (.refActivityFail i) s = .next u ∧
         u.ref i = { s.ref i with dead := true } ∧ { u with refs := s.refs } = s) ∧
       (s.refState i ≠ 0 → s.servoState ≠ 6 → ∃ (u : State) (must : Bool),
         exec (.refActivityFail i) s = .next (u.reselect must) ∧ u.refState i = 1 ∧ (u.ref i).dead = true ∧
         (3 ≤ s.refState i → u.arb (R.REF_STAT_CAUSE i) = 1) ∧ (∀ j, j ≠ i → j < 8 → u.refState j = s.refState j))) ∧
     (∀ off : Int, s.servo.pulse1 ≠ 0 → off.natAbs ≤ 62500 → ∃ t : State, exec (.referencePulse 1 off) s = .next t ∧
       t.servo = { s.servo with pulse1 := t.now } ∧ t.regs = s.regs ∧ t.refs = s.refs) ∧
     (∀ off : Int, s.servo.todOk = true → s.servo.pulse0 ≠ 0 → off.natAbs ≤ 62500 → ∃ t : State,
       exec (.referencePulse 0 off) s = .next t ∧ t.servo = { s.servo with pulse0 := t.now, todOk := false } ∧
       t.regs = s.regs ∧ t.refs = s.refs) ∧
     (∀ off : Int, s.servo.pulse1 ≠ 0 → 62500 < off.natAbs → ∃ u : State, exec (.referencePulse 1 off) s =
         .next ((u.slotOf (fun k => k == 1)).foldl State.activityFail u) ∧
       u.servo = { s.servo with pulse1 := u.now } ∧ u.regs = s.regs ∧ u.refs = s.refs) ∧
     (∀ off : Int, s.servo.pulse0 ≠ 0 → 62500 < off.natAbs → ∃ u : State, exec (.referencePulse 0 off) s =
         .next ((u.slotOf (fun k => k == 0 || k == 7)).foldl State.activityFail u) ∧
       u.servo = { s.servo with pulse0 := u.now, todOk := false } ∧ u.regs = s.regs ∧ u.refs = s.refs)) ∧
  (∀ (s : State) (m : GateMeas), m.slot < 8 →
     let i := m.slot
     (s.servoState = 6 → ∃ t : State, exec (.refGateEnd [m]) s = .next t ∧ t.refs = s.refs ∧
       ∀ j, j < 8 → t.refState j = s.refState j) ∧
     (s.servoState ≠ 6 → s.servo.gateBad = true → ∃ (u : State) (pre : List (Nat × Int)) (must : Bool),
       exec (.refGateEnd [m]) s = .next ((u.trackSel pre).traceSync.reselect must) ∧ u.refs = s.refs ∧
       ∀ j, j < 8 → u.refState j = s.refState j) ∧
     (s.servoState ≠ 6 → s.servo.gateBad = false → s.flag locArb R.REF_CTRL_VOTE_EN = false → s.refState i ≠ 0 →
       ∃ (v u : State) (pre : List (Nat × Int)) (must : Bool),
       let new := v.gateOffs m
       let offs := new ++ (s.ref i).offs.filter (fun y => decide (v.now ≤ y.1 + 63125000000))
       let foff := v.gateFoff m offs
       let cause := v.gateCause ((s.ref i).dead || m.fail || v.standing i) foff offs
       exec (.refGateEnd [m]) s = .next ((u.trackSel pre).traceSync.reselect must) ∧
       v.refs = s.refs ∧ v.ports = s.ports ∧ s.now ≤ v.now ∧ (∀ j, v.refState j = s.refState j) ∧
       (s.refKind i ≠ 5 → s.refKind i ≠ 6 → foff = m.foff ∧
         (phaseKind (s.refKind i) = false → (∀ x ∈ m.offs, x.1 ≤ 625000000) →
           new = m.offs.map (fun x => (v.now - x.1, x.2)))) ∧
       u.arb (R.REF_FOFF_FOFF i) = satBits foff 32 ∧
       u.arb (R.REF_TOFF_TOFF i) = satBits (u.ref i).toff 32 ∧
       (u.ref i).toff = (if new = [] then (s.ref i).toff else roundDiv (new.map Prod.snd).sum new.length) ∧
       (3 ≤ s.refState i → cause = 0 → u.refState i = s.refState i) ∧
       (s.refState i = 2 → cause = 0 → beyond foff (s.arb R.REF_QUAL_ACCEPT) = true → u.refState i = 1) ∧
       (s.refState i = 1 → cause = 0 → u.refState i = 2 ∧ (u.ref i).qual = 1) ∧
       (s.refState i = 1 → cause ≠ 0 → u.refState i = 1) ∧
       (2 ≤ s.refState i → cause ≠ 0 → u.refState i = 1 ∧ (3 ≤ s.refState i → u.arb (R.REF_STAT_CAUSE i) = cause)) ∧
       (s.refState i = 2 → cause = 0 → beyond foff (s.arb R.REF_QUAL_ACCEPT) = false →
         (u.ref i).qual = (s.ref i).qual + 1 ∧
         u.refState i = (if s.arb R.REF_TIMES_QUALIFY_S ≤ (s.ref i).qual + 1 then 3 else 2)))) ∧
  (∀ s : State,
     (∀ res : Int, (s.flag locArb R.REF_SEL_SETTLING = false ∨ 6 ≤ s.servoState) →
       exec (.settleWindowEnd res) s = .next s) ∧
     (∀ res : Int, s.flag locArb R.REF_SEL_SETTLING = true → s.servoState < 6 → ∃ u : State,
       exec (.settleWindowEnd res) s = .next u.reselect ∧ u.flag locArb R.REF_SEL_SETTLING = false ∧
       s.servo.settleEnd ≤ u.now ∧ (s.servoState ≠ 5 → u.servoState = s.servoState) ∧
       (s.servoState = 5 → ∀ i, s.selected = some i → u.servoState = (if freqKind (s.refKind i) then 2
         else if res.natAbs ≤ 65536 then 3 else 1))) ∧
     (s.servoState ≠ 1 → exec .servoLock s = .next s) ∧
     (s.servoState = 1 → ∀ i, s.selected = some i → ∃ t : State, exec .servoLock s = .next t ∧
       t.servoState = (if freqKind (s.refKind i) then 2 else 3) ∧ s.servo.lockAt + 6250000000 ≤ t.now ∧
       (freqKind (s.refKind i) = false → t.flag locArb R.REF_SEL_TS_TRACED = true) ∧ t.servo = s.servo))

/-! ### OUT, triggers, captures -/

/-- OUT.SET and OUT.FREQ (R208 to R213). OUT.SET mutes each output it names, loads its staged setting and leaves the others;
a PULSE output, or one of a locked synthesizer, gets its restart instant. OUT.FREQ stores the new ratio: a change within
0.02 % is followed in lock and completes with 0, a larger one takes the synthesizer out of lock and mutes its CLOCK outputs.
At the end of a relock LOCKED is set, RELOCKS counts one of R210 or R211, seed and enable load and each muted CLOCK output
gets its restart instant, but not while a calibration holds the synthesizer; a loss of lock mutes them and is logged with
kind 0x28. An output restarts at its instant and not before: it is unmuted and live unless safe state holds it muted, and
what waited for it may complete (R208, R210, R229). A PULSE output that is live sends both edges of its next nominal instant
plus the pending offset, each as tick and code, turned over by INVERT, nothing with FORMAT off, and its next one lies a
period later (R215, R216, R223; the delay is a factory value, log entry 14). -/
def Obligations.OutputsFollowTheirSettings : Prop :=
  (∀ (n : Nat) (f : Flight) (s : State) (k : Nat), k < 4 →
     let loc := hubLoc (8 + k)
     (Starts (isOp 0x90) mOutSet n f s → f.cmd.loc = loc → ∃ t : State, exec (.outSet n) s = .next t ∧
       t.flight n = some { f with phase := .exec 0 } ∧
       (∀ o, 1 ≤ o → o ≤ 3 →
         (bit f.cmd.opa (o - 1) = false → t.out (outIdx k o) = s.out (outIdx k o)) ∧
         (bit f.cmd.opa (o - 1) = true → t.flag (outLoc k o) R.OUT_STAT_MUTED = true ∧
           t.out (outIdx k o) = { s.staged k o with
             num := some n, setAt := s.now,
             startAt := if (s.staged k o).pulse || s.flag loc R.OUT_SYN_STAT_LOCKED then s.restartAt k (s.staged k o) else 0 })) ∧
       (∀ j, (∀ o, 1 ≤ o → o ≤ 3 → j ≠ outIdx k o) → t.out j = s.out j) ∧
       { t with plyn := s.plyn, regs := s.regs, outs := s.outs } = s) ∧
     (Starts (isOp 0x91) mOutFreq n f s → f.cmd.loc = loc →
       let m := f.cmd.opb % 2 ^ 48
       ∃ t : State, exec (.outFreq n) s = .next t ∧ t.ratio k = m ∧
         (((m : Int) - s.ratio k).natAbs * 5000 ≤ s.ratio k → t.flight n = some { f with phase := .exec (s.now + 12500) } ∧
           t.synth k = { s.synth k with small := some n } ∧ t.fld loc R.OUT_SYN_STAT_LOCKED = s.fld loc R.OUT_SYN_STAT_LOCKED ∧ t.outs = s.outs) ∧
         (s.ratio k < ((m : Int) - s.ratio k).natAbs * 5000 → t.flight n = some { f with phase := .exec 0 } ∧
           t.flag loc R.OUT_SYN_STAT_LOCKED = false ∧ t.flag loc R.OUT_SYN_STAT_MUTED = true ∧
           t.synth k = { s.synth k with num := (s.synth k).num.or (some n), muteAt := s.now, counts := true } ∧
           (∀ o ∈ s.clockOuts k, t.flag (outLoc k o) R.OUT_STAT_MUTED = true ∧ (t.out (outIdx k o)).startAt = 0)) ∧
         { t with plyn := s.plyn, regs := s.regs, outs := s.outs, synths := s.synths } = s) ∧
     ((s.flag loc R.OUT_SYN_STAT_LOCKED = true ∨ s.calBusy loc 5 = true) → exec (.outRelockDone k) s = .next s) ∧
     (s.flag loc R.OUT_SYN_STAT_LOCKED = false → s.calBusy loc 5 = false → ∃ u : State,
       exec (.outRelockDone k) s = .next (u.outDone (s.synth k).num (s.synth k).muteAt) ∧
       u.flag loc R.OUT_SYN_STAT_LOCKED = true ∧
       u.fld loc R.OUT_SYN_STAT_RELOCKS = (if (s.synth k).counts then
         satNat (s.fld loc R.OUT_SYN_STAT_RELOCKS + 1) R.OUT_SYN_STAT_RELOCKS.len else s.fld loc R.OUT_SYN_STAT_RELOCKS) ∧
       u.synth k = { s.synth k with num := none, counts := false, seed := s.fld loc R.OUT_DITHER_SEED_SEED,
                                    dither := s.flag loc R.OUT_DITHER_CTRL_EN } ∧
       (∀ o ∈ s.clockOuts k, s.flag (outLoc k o) R.OUT_STAT_MUTED = true →
         (u.out (outIdx k o)).startAt = s.restartAt k (s.out (outIdx k o))) ∧
       { u with regs := s.regs, outs := s.outs, synths := s.synths } = s) ∧
     (s.flag loc R.OUT_SYN_STAT_LOCKED = false → exec (.synthUnlock k) s = .next s) ∧
     (s.flag loc R.OUT_SYN_STAT_LOCKED = true → ∃ u : State, exec (.synthUnlock k) s = .next (u.raise loc 0x28 k) ∧
       u.flag loc R.OUT_SYN_STAT_LOCKED = false ∧ u.flag loc R.OUT_SYN_STAT_MUTED = true ∧
       (∀ o ∈ s.clockOuts k, u.flag (outLoc k o) R.OUT_STAT_MUTED = true) ∧
       { u with regs := s.regs, outs := s.outs, synths := s.synths } = s)) ∧
  (∀ (s : State) (k o : Nat), k < 4 → 1 ≤ o → o ≤ 3 →
     let x := s.out (outIdx k o)
     (x.startAt = 0 → exec (.outputRestart k o) s =
       .next ((s.setSynth k { s.synth k with small := none }).completeOpt (s.synth k).small { status := stOk })) ∧
     (x.startAt ≠ 0 → ∃ (u : State) (since : Nat), exec (.outputRestart k o) s = .next (u.outDone x.num since) ∧
       (∀ n f, x.num = some n → s.flight n = some f →
         since = if f.cmd.opcode = 0x90 then x.setAt else (s.synth k).muteAt) ∧
       (u.out (outIdx k o)).startAt = 0 ∧ (u.out (outIdx k o)).num = none ∧ 5 * x.startAt ≤ (u.tail 5).fu ∧
       (s.outHeld x = false → u.flag (outLoc k o) R.OUT_STAT_MUTED = false ∧ u.flag (outLoc k o) R.OUT_STAT_LIVE = true) ∧
       (s.outHeld x = true → u.fld (outLoc k o) R.OUT_STAT_MUTED = s.fld (outLoc k o) R.OUT_STAT_MUTED) ∧
       { u with tails := s.tails, regs := s.regs, outs := s.outs } = s) ∧
     ((x.pulse = false ∨ s.flag (outLoc k o) R.OUT_STAT_LIVE = false) → exec (.pulseEdge k o) s = .next s) ∧
     (x.pulse = true → s.flag (outLoc k o) R.OUT_STAT_LIVE = true → ∃ t : State, exec (.pulseEdge k o) s = .next t ∧
       let at_ := (x.next : Int) + s.pendAt x.next
       let a := t.place 4 at_ 1 (Config.factory (outLoc k o) 0 0)
       let b := t.place 4 (at_ + (x.width : Int) * 65536) 1 (Config.factory (outLoc k o) 0 0)
       t.out (outIdx k o) = { x with next := x.next + x.period * 65536 } ∧
       t.sent = (if x.format = 0 then s.sent
         else .outEdge k o b.1 b.2 (!bit x.cfg 3) :: .outEdge k o a.1 a.2 (bit x.cfg 3) :: s.sent) ∧
       5 * at_.toNat ≤ (t.tail 5).fu ∧ { t with tails := s.tails, outs := s.outs, sent := s.sent } = s))

/-- An edge on a capture input (R217 to R220, R228, R389): on a disabled channel, one looped to a trigger, or one in
calibration, of the other polarity, or within the dead time, nothing; else its number counts. In polling mode its entry,
with the stamp, joins the queue, in event mode its event is sent and one that its ring refuses joins the queue; with 256
entries waiting it is lost and DROP counts. TIME.CAPTURE and TSQ.DRAIN (R104, R219, R220): the oldest entries, up to COUNT,
in polling mode all and in event mode those dropped, go to the host in queue order and leave the queue; RESULT16 is their
number, and with none nothing is written. Flushing empties the queue, RESULT16 its former length. A failed host access
completes FAULT 0xE0 and keeps the queue. -/
def Obligations.CapturesAndQueueDrains : Prop :=
  (∀ (s : State) (ch code : Nat) (falling : Bool), ch < 8 →
     let l := hubLoc (12 + ch)
     let x := s.cap ch
     let edge := s.fld l R.CAP_CTRL_EDGE
     let dead (t : Nat) : Prop := ((s.tail 5).m * 4096 + code - t) * 16 < s.fld l R.CAP_CTRL_DEAD * 40960
     let away := s.flag l R.CAP_CTRL_LOOP || s.calBusy l 2 || s.calBusy (hubLoc (20 + ch)) 3 || s.faults.reduced
     ((s.flag l R.CAP_CTRL_EN = false ∨ away = true ∨ edge = 0 ∧ falling = true ∨ edge = 1 ∧ falling = false ∨
         ∃ t, x.last = some t ∧ dead t) → exec (.captureEdge ch falling code) s = .next s) ∧
     (s.flag l R.CAP_CTRL_EN = true → away = false → (edge = 0 → falling = false) → (edge = 1 → falling = true) →
       (∀ t, x.last = some t → ¬ dead t) →
       (256 ≤ x.queue.length → ∃ t : State, exec (.captureEdge ch falling code) s = .next t ∧
         t.cap ch = { x with lost := true, last := some ((s.tail 5).m * 4096 + code) } ∧
         t.fld l R.CAP_STAT_DROP = satNat (s.fld l R.CAP_STAT_DROP + 1) R.CAP_STAT_DROP.len ∧
         t.fld l R.CAP_SEQ_SEQ = (s.fld l R.CAP_SEQ_SEQ + 1) % 2 ^ R.CAP_SEQ_SEQ.len ∧
         { t with caps := s.caps, regs := s.regs } = s) ∧
       (x.queue.length < 256 → s.flag l R.CAP_CTRL_MODE = true → ∃ (t : State) (e : CapEnt),
         exec (.captureEdge ch falling code) s = .next t ∧ (t.cap ch).queue = x.queue ++ [e] ∧ e.stamp = s.capStamp ch code ∧
         e.fall = falling ∧ e.lost = x.lost ∧ e.seq = s.fld l R.CAP_SEQ_SEQ ∧ e.stepGen = (s.tail 5).stepGen ∧
         t.fld l R.CAP_SEQ_SEQ = (s.fld l R.CAP_SEQ_SEQ + 1) % 2 ^ R.CAP_SEQ_SEQ.len ∧
         (t.cap ch).lost = false ∧ (∀ j, j ≠ ch → t.cap j = s.cap j) ∧ { t with caps := s.caps, regs := s.regs } = s) ∧
       (x.queue.length < 256 → s.flag l R.CAP_CTRL_MODE = false → ∃ (u v : State) (e : CapEnt) (sent : Bool),
         u.event 2 (ch + b2n falling * 8 + s.fld l R.CAP_SEQ_SEQ % 4096 * 16) (tx64 (s.capStamp ch code))
           (if s.flag locFp (R.EVT_ROUTE_CAP_OVR ch) then some (s.fp (R.EVT_ROUTE_CAP_RING ch)) else none) = (v, sent) ∧
         u.cap ch = { x with lost := false, last := some ((s.tail 5).m * 4096 + code) } ∧
         u.fld l R.CAP_SEQ_SEQ = (s.fld l R.CAP_SEQ_SEQ + 1) % 2 ^ R.CAP_SEQ_SEQ.len ∧
         { u with caps := s.caps, regs := s.regs } = s ∧ e.dropped = true ∧ e.stamp = s.capStamp ch code ∧
         exec (.captureEdge ch falling code) s =
           .next (if sent then v else v.setCap ch { v.cap ch with queue := x.queue ++ [e] })))) ∧
  (∀ (n : Nat) (f : Flight) (s : State),
     (let k := locUnit f.cmd.loc - 12
       let q := (s.cap k).queue
       let m := f.cmd.opa % 512
       (Starts (fun c => c.opcode == 0x65 && bits c.opa 14 2 != 1) mTimeCapture n f s →
         (s.flag f.cmd.loc R.CAP_CTRL_MODE = true →
           (q = [] → exec (.timeCaptureDrain n) s = .next (s.complete n { status := stOk })) ∧
           (q ≠ [] →
             (∀ t, s.dmaWrite f.cmd.opb (((q.take m).map (fun e => e.bytes k)).flatten) = some t →
               exec (.timeCaptureDrain n) s = .next ((t.setCap k { s.cap k with queue := q.drop m }).complete n
                 { status := stOk, result := min m q.length % 65536 })) ∧
             (s.dmaWrite f.cmd.opb (((q.take m).map (fun e => e.bytes k)).flatten) = none →
               exec (.timeCaptureDrain n) s = .next (s.complete n { status := stFault, detail := 0xE0 })))) ∧
         (s.flag f.cmd.loc R.CAP_CTRL_MODE = false → ∃ out rest : List CapEnt,
           out = (q.filter CapEnt.dropped).take m ∧ rest.filter CapEnt.dropped = (q.filter CapEnt.dropped).drop m ∧
           rest.filter (fun e => !e.dropped) = q.filter (fun e => !e.dropped) ∧
           (out = [] → exec (.timeCaptureDrain n) s = .next (s.complete n { status := stOk })) ∧
           (out ≠ [] → ∀ t, s.dmaWrite f.cmd.opb ((out.map (fun e => e.bytes k)).flatten) = some t →
             exec (.timeCaptureDrain n) s = .next ((t.setCap k { s.cap k with queue := rest }).complete n
               { status := stOk, result := out.length % 65536 })))) ∧
       (Starts (fun c => c.opcode == 0x65 && bits c.opa 14 2 == 1) mTimeCapture n f s →
         exec (.timeCaptureFlush n) s =
           .next ((s.setCap k { s.cap k with queue := [] }).complete n { status := stOk, result := q.length % 65536 }))) ∧
     (let d := (locPort f.cmd.loc).1
       let p := (locPort f.cmd.loc).2
       let q := (s.port d p).tsq
       let m := f.cmd.opa
       Starts (isOp 0x66) mTsqDrain n f s →
       (s.present d p = false → exec (.tsqDrain n) s = .next (s.complete n { status := stNoTarget })) ∧
       (s.present d p = true → s.pflag d p R.TS_CTRL_TSQ_MODE = true →
         (q = [] → exec (.tsqDrain n) s = .next (s.complete n { status := stOk })) ∧
         (q ≠ [] →
           (∀ t, s.dmaWrite f.cmd.opb (((q.take m).map (fun e => e.bytes d p)).flatten) = some t →
             exec (.tsqDrain n) s = .next ((t.setPort d p { s.port d p with tsq := q.drop m }).complete n
               { status := stOk, result := min m q.length % 65536 })) ∧
           (s.dmaWrite f.cmd.opb (((q.take m).map (fun e => e.bytes d p)).flatten) = none →
             exec (.tsqDrain n) s = .next (s.complete n { status := stFault, detail := 0xE0 })))) ∧
       (s.present d p = true → s.pflag d p R.TS_CTRL_TSQ_MODE = false → ∃ out rest : List TsqEnt,
         out = (q.filter TsqEnt.dropped).take m ∧ rest.filter TsqEnt.dropped = (q.filter TsqEnt.dropped).drop m ∧
         rest.filter (fun e => !e.dropped) = q.filter (fun e => !e.dropped) ∧
         (out = [] → exec (.tsqDrain n) s = .next (s.complete n { status := stOk })) ∧
         (out ≠ [] → ∀ t, s.dmaWrite f.cmd.opb ((out.map (fun e => e.bytes d p)).flatten) = some t →
           exec (.tsqDrain n) s = .next ((t.setPort d p { s.port d p with tsq := rest }).complete n
             { status := stOk, result := out.length % 65536 })))))

/-! ### The spindle and the headstocks -/

/-- Spindle words (R27, R94, R182, R190 to R193, R199): the ACTIVE headstock that drives its lane puts a word there on a word
slot, every 400 ticks, as its 320 bits, with its epoch, the next sequence number, the servo's state, TRACEABLE, the tick, the
slew, the committed step up to its apply tick, and HOLD in servo state 7; no other headstock does. The WARMING headstock's
first word, if it would be valid, makes it ACTIVE and driving, on a slot and not before 10,720 ns after its power; after a
swap the other is STANDBY. One that became ACTIVE by its self-test sends its first word on a slot at least 9,220 ns after
it. -/
def Obligations.SpindleWordsAreSent : Prop :=
  ∀ s : State,
    (s.activeHs = none → exec .spindleWord s = .next s) ∧
    (∀ tb, s.activeHs = some tb → s.hst.starting ≠ some tb → s.drive tb = false → exec .spindleWord s = .next s) ∧
    (∀ tb, s.activeHs = some tb → s.hst.starting ≠ some tb → s.drive tb = true → ∃ (t : State) (w : SpWord),
      exec .spindleWord s = .next t ∧ (if tb then t.hst.laneB else t.hst.laneA) = some w.bits320 ∧
      (if tb then t.hst.laneA = s.hst.laneA else t.hst.laneB = s.hst.laneB) ∧
      w.epoch = s.epochOf tb ∧ w.seq = (s.hst.wordSeq + 1) % 256 ∧ w.servo = s.servoState ∧
      w.hold = (s.servoState == 7) ∧ w.tb = tb ∧ w.traceable = s.flag locArb R.REF_SEL_TRACEABLE ∧ w.tick = (t.tail 5).n ∧
      w.slewRate = s.servo.slewRate ∧
      w.step = (s.servo.step.filter (fun x => decide ((t.tail 5).n < x.tick))).map StepC.wire ∧
      t.now % 400 = 0 ∧ s.now ≤ t.now ∧ t.hst.wordAt = t.now ∧ t.hst.wordSeq = w.seq) ∧
    (∀ tb, s.activeHs = some tb → s.hst.starting = some tb → ∃ (u : State) (num : Option Nat),
      exec .spindleWord s = .next ((u.completeOpt num { status := stOk }).selectAfter) ∧ u.hs tb = hsActive ∧
      u.drive tb = true ∧ u.hst.starting = none ∧ u.now % 400 = 0 ∧ s.hst.startAt + 5763 ≤ u.now) ∧
    (s.warmingHs = none → exec .warmingFirstWord s = .next s) ∧
    (∀ tb, s.warmingHs = some tb → s.wordValid tb = false → exec .warmingFirstWord s = .next s) ∧
    (∀ tb, s.warmingHs = some tb → s.wordValid tb = true → ∃ (u : State) (num : Option Nat),
      exec .warmingFirstWord s = .next ((u.completeOpt num { status := stOk }).selectAfter) ∧ u.hs tb = hsActive ∧
      u.arb R.HST_STAT_ACTIVE_TB = b2n tb ∧ u.drive tb = true ∧ u.hst.takeover = false ∧ u.now % 400 = 0 ∧ s.now ≤ u.now ∧
      s.hst.warmAt + 6700 ≤ u.now ∧ (s.hst.swap ≠ none → u.hs (!tb) = hsStandby ∧ u.arb R.HST_LAST_CAUSE = 6))

/-- Reception (R29, R30, R180, R184) of the 320 bits on a lane, some turned over on the way: a tailstock counts and ignores
a word whose CRC fails, whose epoch it does not hold, or whose tick is not its own; the fourth word in a row of the ACTIVE
headstock that all six reject for its CRC fails it. A tailstock takes up a good word, and a HOLD word lets it coast on what
it has. 409,600 ticks after the last word, HOLD words with them, it raises kind 0x20 with the word periods passed. -/
def Obligations.TailstocksObeyTheWords : Prop :=
  ∀ (s : State) (t : Nat) (tb : Bool), t < 6 →
    let x := s.tail t
    let lane := if tb then s.hst.laneB else s.hst.laneA
    (lane = none → ∀ flips, exec (.spindleWordReceive t tb flips) s = .next s) ∧
    (∀ sent flips, lane = some sent →
      let b := Nat.xor sent (flips % 2 ^ 320)
      let w := spWord b
      let own := toBits ((x.n : Int) - ((x.m : Int) - s.hst.wordAt)) 48
      (wordCrcOk b = false →
        (s.activeHs ≠ some tb ∨ bit s.hst.crcSeen t = true →
          exec (.spindleWordReceive t tb flips) s = .next (s.bump (tailLoc t) R.SPN_CNT_BAD_WORD)) ∧
        (s.activeHs = some tb → bit s.hst.crcSeen t = false → ∃ u : State,
          exec (.spindleWordReceive t tb flips) s =
            .next (if s.hst.crcSeen + 2 ^ t = 63 ∧ 3 ≤ s.hst.crcRun then u.declareFailed tb 4 else u) ∧
          u.fld (tailLoc t) R.SPN_CNT_BAD_WORD =
            satNat (s.fld (tailLoc t) R.SPN_CNT_BAD_WORD + 1) R.SPN_CNT_BAD_WORD.len ∧
          { u with regs := s.regs, hst := s.hst } = s)) ∧
      (wordCrcOk b = true →
        (w.epoch ≠ x.epoch → exec (.spindleWordReceive t tb flips) s = .next (s.bump (tailLoc t) R.SPN_CNT_EPOCH_DISCARD)) ∧
        (w.epoch = x.epoch → w.tick ≠ own →
          exec (.spindleWordReceive t tb flips) s = .next (s.bump (tailLoc t) R.SPN_CNT_BAD_WORD)) ∧
        (w.epoch = x.epoch → w.tick = own → (t = 4 → s.faults.armed = []) → ∃ u : State,
          exec (.spindleWordReceive t tb flips) s = .next u.slewObeyed ∧ (u.tail t).n = x.n ∧ (u.tail t).m = x.m ∧
          (u.tail t).hold = w.hold ∧ (u.tail t).heardAt = x.m ∧
          (w.hold = true → (u.tail t).fcw = x.fcw ∧ (u.tail t).step = x.step) ∧
          (w.hold = false → (u.tail t).fcw = w.fcw ∧ (u.tail t).slewLeft = w.slewLeft ∧ (u.tail t).slewRate = w.slewRate ∧
            (u.tail t).wordTick = s.hst.wordAt ∧ (u.tail t).traceable = w.traceable ∧
            (u.tail t).step = (w.step.map (fun y => { y with tick := nearTick y.tick x.n })).or x.step) ∧
          (∀ j, j ≠ t → u.tail j = s.tail j) ∧ { u with tails := s.tails } = s))) ∧
    (∃ (u : State) (k : Nat), exec (.spindleSilent t) s = .next (u.raise (tailLoc t) 0x20 k) ∧
      x.heardAt + 409600 ≤ u.now ∧ (s.now ≤ x.heardAt + 409600 → k = 1024) ∧ { u with tails := s.tails } = s)

/-- Steps and slews (R82, R94 to R98, R163, R184). A selector step that is due is committed for its slot unless one is
committed already, in a swap, in TAKEOVER or in HOLD. On the apply tick all six tailstocks that hold a step move to its time
or by its offset, hold no step any more and count STEP_GEN; STEP_LAST takes the size of an offset, and the instruction that
waits for the six may complete with it in ns. A tailstock other than that of the events applies at its own apply tick the
step that it holds alone. A slew that has run out stops with rate 0. -/
def Obligations.StepsAndSlewsAreApplied : Prop :=
  ∀ s : State,
    ((s.servo.due = none ∨ s.servo.step ≠ none ∨ s.hst.swap ≠ none ∨ 6 ≤ s.servoState) → exec .stepCommit s = .next s) ∧
    (∀ i d, s.servo.due = some (i, d) → s.servo.step = none → s.hst.swap = none → s.servoState < 6 → ∃ (t : State) (x : StepC),
      exec .stepCommit s = .next t ∧ t.servo.step = some x ∧ x.slot = some i ∧ t.servo.due = none ∧
      (d.natAbs < 2 ^ 63 → x.set = false ∧ x.offset = d) ∧ (2 ^ 63 ≤ d.natAbs → x.set = true) ∧
      { t with tails := s.tails, servo := s.servo } = s) ∧
    (s.stepDue = none → exec .stepApply s = .next s) ∧
    (∀ x, (∀ i, i < 6 → (s.tail i).step = some x ∧ (s.tail i).n = (s.tail 5).n) →
      ∃ u : State, exec .stepApply s = .next u.stepsDone.nextStep ∧ u.servo.step = none ∧
        (x.set = false → u.pair locArb R.REF_STEP_LAST_LO_STEP R.REF_STEP_LAST_HI_STEP = satBits x.offset 64) ∧
        (∀ y n, s.servo.step = some y → y.wire = x → y.num = some n →
          { num := n, tick := x.tick, left := List.range 6, result := none } ∈ s.servo.applying →
          { num := n, tick := x.tick, left := [], result := some (if x.set then 0 else ns16 x.offset) } ∈ u.servo.applying) ∧
        ∀ i, i < 6 → (u.tail i).step = none ∧ (u.tail i).stepGen = ((s.tail i).stepGen + 1) % 16 ∧
          (u.tail i).m = (s.tail i).m + (x.tick - (s.tail 5).n) ∧
          (u.tail i).fu = (if x.set then 5 * (x.secs * uSec + x.sub)
            else ((((s.tail i).fu + (x.tick - (s.tail 5).n) * fuTick : Nat) + 5 * x.offset) %
              (2 ^ 48 * fuSec : Nat)).toNat)) ∧
    (∀ k, s.stepDue = some k → (s.advance k).stepHere.contains 5 = false → ∃ u : State,
      exec .stepApply s = .next u.stepsDone ∧ u.servo.step = s.servo.step ∧
      ∀ i, i < 6 → (u.tail i).m = (s.tail i).m + k ∧
        (∀ y, (s.tail i).step = some y → y.tick ≤ (s.tail i).n + k → (u.tail i).step = none ∧
          (u.tail i).stepGen = ((s.tail i).stepGen + 1) % 16) ∧
        ((s.tail i).step = none → (u.tail i).n = (s.tail i).n + k ∧ (u.tail i).stepGen = (s.tail i).stepGen)) ∧
    (∀ (v : State) (w : StepWait) (r : Nat), v.servo.applying = [w] → w.left = [] → w.result = some r →
      v.stepsDone = (v.setServo { v.servo with applying := [] }).complete w.num { status := stOk, result := r % 65536 }) ∧
    (s.servo.slewRate = 0 → exec .slewDone s = .next s) ∧
    (s.servo.slewRate ≠ 0 → ∃ t : State, exec .slewDone s = .next t ∧ t.servo.slewLeft = 0 ∧ t.servo.slewRate = 0 ∧
      s.servo.slewEnd ≤ t.now ∧ { t with tails := s.tails, regs := s.regs, servo := s.servo } = s)

/-- Declaring the ACTIVE headstock failed with a STANDBY (R177, R183, R190, R191): it is FAILED and the other WARMING, as it
reads from its power on, 6,000 ns later at the latest; the epoch counts up and every tailstock and the new headstock hold
it, the servo hides in state 6, TAKEOVERS counts, and the gate under way will be discarded (R198). Heartbeats and the links
of the headstocks (R177, R179 to R181). A heartbeat 625 ticks after the last one is kept as the last, what the ACTIVE one
carries with it; with its self-check failed an ACTIVE headstock is declared failed with cause 2. 1,250 ticks without one
count two misses and fail the ACTIVE headstock with cause 1, a STANDBY with kind 0x24. The loss of the headstock link clears
LINK_UP and is logged with kind 0x25 where there is a STANDBY; LINK_UP returns with the link. -/
def Obligations.HeadstocksFailAndAreWatched : Prop :=
  (∀ (s : State) (tb : Bool) (cause : Nat), s.hs tb = hsActive → s.hs (!tb) = hsStandby → cause < 8 →
     let t := s.declareFailed tb cause
     let e := (s.arb R.HST_EPOCH_EPOCH + 1) % 2 ^ R.HST_EPOCH_EPOCH.len
     t.hs tb = hsFailed ∧ t.hsRaw (!tb) = hsWarming ∧ t.hst.warmAt ≤ s.now + 3750 ∧ t.servoState = 6 ∧
       t.servo.gateBad = true ∧ t.arb R.HST_LAST_CAUSE = cause ∧
       t.arb R.HST_EPOCH_EPOCH = e ∧ t.epochOf (!tb) = e ∧ (∀ i, i < 6 → (t.tail i).epoch = e) ∧
       t.arb R.HST_STAT_TAKEOVERS = (s.arb R.HST_STAT_TAKEOVERS + 1) % 2 ^ R.HST_STAT_TAKEOVERS.len ∧
       t.hst.takeover = true ∧ t.hst.swap = none) ∧
  (∀ (s : State) (tb : Bool),
     let last := if tb then s.hst.hbB else s.hst.hbA
     let miss := if tb then R.HST_HB_MISS_TB else R.HST_HB_MISS_TA
     (s.hs tb = hsOff → ∀ ok, exec (.heartbeat tb ok) s = .next s) ∧
     (s.hs tb ≠ hsOff → s.faults.armed = [] → ∃ u : State, exec (.heartbeat tb true) s = .next u ∧
       exec (.heartbeat tb false) s = .next (u.declareFailed tb 2) ∧
       (if tb then u.hst.hbB else u.hst.hbA) = u.now ∧ last + 625 ≤ u.now ∧
       (s.hs tb = hsActive → ∃ b, u.hst.beat = some b ∧ b.servo = s.servoState ∧ b.slot = s.selected ∧ b.pend = s.refPend ∧
         b.refs = (List.range 8).map (fun i => (s.refState i, s.arb (R.REF_STAT_WTR_LEFT i))) ∧ b.seq = s.hst.wordSeq) ∧
       (s.hst.writes = [] → { u with tails := s.tails, hst := s.hst } = s)) ∧
     (s.hs tb ≠ hsActive → s.hs tb ≠ hsStandby → exec (.heartbeatTimeout tb) s = .next s) ∧
     (s.hs tb = hsActive ∨ s.hs tb = hsStandby → ∃ u : State,
       exec (.heartbeatTimeout tb) s = .next (if s.hs tb = hsActive then u.declareFailed tb 1 else u.failStandby tb) ∧
       u.arb miss = satNat (s.arb miss + 2) miss.len ∧ last + 1250 ≤ u.now ∧ (∀ b, u.hsRaw b = s.hsRaw b) ∧
       { u with tails := s.tails, regs := s.regs } = s) ∧
     ((s.failStandby tb).hs tb = hsFailed ∧ (s.failStandby tb).hs (!tb) = s.hs (!tb)) ∧
     (s.hsIn hsStandby = none → exec .standbyFail s = .next s) ∧
     (s.hsIn hsStandby = some tb → exec .standbyFail s = .next (s.failStandby tb)) ∧
     (∃ u : State, exec .hstLinkFail s = .next (if (s.hsIn hsStandby).isSome then u.raise locArb 0x25 0 else u) ∧
       u.flag locArb R.HST_STAT_LINK_UP = false ∧ u.hst.writes = [] ∧
       (s.hst.writes = [] → { u with regs := s.regs } = s)) ∧
     (∃ t : State, exec .hstLinkUp s = .next t ∧ t.flag locArb R.HST_STAT_LINK_UP = true ∧ { t with regs := s.regs } = s))

/-- Swaps and revivals (R177, R194, R197, R199 to R202). HST.SWAP with an ACTIVE and a STANDBY headstock, a fresh
checkpoint, the link up, no step in the last word whose apply tick lies ahead, the servo outside TAKEOVER and HOLD, and no
swap under way powers the STANDBY, WARMING from 20 us on, and goes on; else it conflicts with both states. HST.REVIVE takes a FAILED headstock to SELFTEST. A self-test that fails leaves FAILED
and ends the revival with FAULT and its code; one that passes gives STANDBY beside an ACTIVE headstock, else ACTIVE. The end
of double drive removes the drive of each headstock that is neither ACTIVE nor WARMING and completes the swap. A WARMING
headstock that sends no word in 40 us, or whose self-check fails at its power, is FAILED: the swap is aborted, kind 0x23,
which is logged with another ACTIVE headstock too (log entry 29), or no headstock is left, kind 0x22. -/
def Obligations.SwapsAndRevivals : Prop :=
  ∀ (n : Nat) (f : Flight) (s : State),
    let no : Compl := { status := stConflict, detail := (s.hs false + s.hs true * 16) % 256 }
    (Starts (isOp 0xA0) mHstSwap n f s →
      ((s.activeHs = none ∨ s.hsIn hsStandby = none ∨ s.flag locArb R.HST_STAT_CKPT_STALE = true ∨
          s.flag locArb R.HST_STAT_LINK_UP = false ∨ (∃ tb, s.activeHs = some tb ∧ s.stepAhead tb = true) ∨
          6 ≤ s.servoState ∨ s.hst.swap ≠ none) →
        exec (.hstSwap n) s = .next (s.complete n no)) ∧
      (∀ tb sb, s.activeHs = some tb → s.hsIn hsStandby = some sb → s.flag locArb R.HST_STAT_CKPT_STALE = false →
        s.flag locArb R.HST_STAT_LINK_UP = true → s.stepAhead tb = false → s.servoState < 6 → s.hst.swap = none →
        s.faults.armed = [] → (∀ w ∈ s.hst.writes, w.num ≠ some n) →
        ∃ t : State, exec (.hstSwap n) s = .next t ∧ t.flight n = some { f with phase := .exec 0 } ∧ t.hsRaw sb = hsWarming ∧
          t.hs sb = hsStandby ∧ t.hs tb = hsActive ∧ t.hst.swap = some n ∧ t.hst.warmAt = s.now + 12500 ∧
          t.hst.swapAt = s.now ∧ t.hst.seq = (s.hst.seq + 1) % 2 ^ 32 ∧
          (s.hst.writes = [] → { t with plyn := s.plyn, regs := s.regs, hst := s.hst, freeCtr := s.freeCtr } = s))) ∧
    (Starts (isOp 0xA1) mHstRevive n f s →
      let tb := bit f.cmd.opa 0
      ((s.hs tb ≠ hsFailed ∨ s.pgLost tb = true) → exec (.hstRevive n) s = .next (s.complete n no)) ∧
      (s.hs tb = hsFailed → s.pgLost tb = false → ∃ t : State, exec (.hstRevive n) s = .next t ∧
        t.flight n = some { f with phase := .exec 0 } ∧ t.hs tb = hsSelftest ∧
        (if tb then t.hst.reviveB else t.hst.reviveA) = some n ∧
        { t with plyn := s.plyn, regs := s.regs, hst := s.hst } = s)) ∧
    (∀ tb, let num := if tb then s.hst.reviveB else s.hst.reviveA
      (s.hs tb ≠ hsSelftest → ∀ code, exec (.hstSelftestDone tb code) s = .next s) ∧
      (s.hs tb = hsSelftest →
        (∀ code, code ≠ 0 → ∃ u : State, exec (.hstSelftestDone tb code) s =
          .next ((u.raise locArb 0x23 code).completeOpt num { status := stFault, result := code }) ∧ u.hs tb = hsFailed ∧
          { u with regs := s.regs, hst := s.hst } = s) ∧
        (s.hs (!tb) = hsActive → ∃ u : State, exec (.hstSelftestDone tb 0) s = .next (u.completeOpt num { status := stOk }) ∧
          u.hs tb = hsStandby ∧ u.hs (!tb) = hsActive) ∧
        (s.hs (!tb) ≠ hsActive → ∃ t : State, exec (.hstSelftestDone tb 0) s = .next t ∧ t.hs tb = hsActive ∧
          t.drive tb = true ∧ t.hst.starting = some tb ∧ t.hst.startAt = s.now))) ∧
    (s.flag locArb R.HST_STAT_DUAL_ACTIVE = false → exec .dualActiveEnd s = .next s) ∧
    (s.flag locArb R.HST_STAT_DUAL_ACTIVE = true → ∃ (u : State) (c : Compl),
      exec .dualActiveEnd s = .next (u.completeOpt s.hst.swap c) ∧ c.status = stOk ∧ u.hst.swap = none ∧
      u.flag locArb R.HST_STAT_DUAL_ACTIVE = false ∧
      (∀ tb, u.drive tb = (s.drive tb && (s.hs tb == hsActive || s.hs tb == hsWarming))) ∧
      { u with regs := s.regs, hst := s.hst } = s) ∧
    (s.warmingHs = none → exec .warmingTimeout s = .next s ∧ ∀ code, exec (.warmingSelfCheckFail code) s = .next s) ∧
    (∀ tb, s.warmingHs = some tb → ∃ u v : State,
      let other := s.hst.swap.isSome || s.activeHs.isSome
      exec .warmingTimeout s = .next (if other then (u.raise locArb 0x23 0).completeOpt s.hst.swap { status := stAborted }
        else u.raise locArb 0x22 0) ∧ u.hs tb = hsFailed ∧ u.hst.swap = none ∧
      (if s.hst.swap.isSome then s.hst.warmAt else s.hst.declAt) + 25000 ≤ u.now ∧ v.hs tb = hsFailed ∧ v.hst.swap = none ∧
      s.hst.warmAt ≤ v.now ∧
      ∀ code, exec (.warmingSelfCheckFail code) s =
        .next (if other then (v.raise locArb 0x23 code).completeOpt s.hst.swap { status := stAborted }
          else v.raise locArb 0x22 0))

/-- Checkpoints (R186 to R189). With an ACTIVE and a STANDBY headstock and the link up, a checkpoint on a whole millisecond,
or one of HST.CHECKPOINT at once, takes the next sequence number and goes into the standby's slot of that parity with the
active's servo, reference slots and history and the present time; the slot is torn until its COMMIT, which comes within
20 us, makes it valid and clears CKPT_STALE. HST.CHECKPOINT completes with the COMMIT and reports the number; one that cannot
start conflicts. STALE_MS after the last COMMIT CKPT_STALE is set and kind 0x26 logged. -/
def Obligations.CheckpointsGoToTheStandby : Prop :=
  ∀ (n : Nat) (f : Flight) (s : State),
    let seq := (s.hst.seq + 1) % 2 ^ 32
    (s.ckptOpen = false → exec .checkpointWrite s = .next s ∧
      (Starts (isOp 0xA2) mHstCheckpoint n f s → exec (.hstCheckpoint n) s =
        .next (s.complete n { status := stConflict, detail := (s.hs false + s.hs true * 16) % 256 }))) ∧
    (∀ tb sb, s.activeHs = some tb → s.hsIn hsStandby = some sb → s.hsRaw sb = hsStandby →
      s.flag locArb R.HST_STAT_LINK_UP = true → s.faults.armed = [] →
      let wrote (t : State) (num : Option Nat) : Prop := t.hst.seq = seq ∧
        ∃ c, Tab.get? t.hst.slots (2 * b2n sb + seq % 2) = some c ∧ c.seq = seq ∧ c.tb = tb ∧ c.time = t.txNow ∧
          c.hist = s.servo.hist ∧ c.refs = s.ckptRefs ∧ c.servo = t.ckptServo ∧
          (c.torn = true → ∃ w ∈ t.hst.writes, w.key = 2 * b2n sb + seq % 2 ∧ w.seq = seq ∧ w.num = num ∧ t.now < w.at_ ∧
            w.at_ ≤ t.now + 12500) ∧
          (c.torn = false → t.hst.commitAt = t.now ∧ t.flag locArb R.HST_STAT_CKPT_STALE = false)
      (∃ t : State, exec .checkpointWrite s = .next t ∧ wrote t none ∧ s.now ≤ t.now ∧
        t.hst.ckptMs * 327680000000 ≤ (t.tail 5).fu) ∧
      (Starts (isOp 0xA2) mHstCheckpoint n f s → (∀ w ∈ s.hst.writes, w.num ≠ some n) → ∃ t : State,
        exec (.hstCheckpoint n) s = .next t ∧ wrote t (some n) ∧ t.tails = s.tails ∧
        ((∃ w ∈ t.hst.writes, w.num = some n) → t.flight n = some { f with phase := .exec 0 }))) ∧
    (∀ (w : CkptWrite) (c : Ckpt), s.hst.writes = [w] → w.at_ ≤ s.now → Tab.get? s.hst.slots w.key = some c → c.seq = w.seq →
      ∃ u : State, s.settleCkpts = u.completeOpt w.num { status := stOk, result := w.seq % 65536 } ∧
        Tab.get? u.hst.slots w.key = some { c with torn := false } ∧ u.hst.commitAt = w.at_ ∧ u.hst.writes = [] ∧
        u.flag locArb R.HST_STAT_CKPT_STALE = false ∧ { u with hst := s.hst, regs := s.regs } = s) ∧
    (let v := s.settleCkpts
     ((v.hsIn hsStandby = none ∨ v.flag locArb R.HST_STAT_CKPT_STALE = true) → exec .ckptStale s = .next v) ∧
     ((v.hsIn hsStandby).isSome = true → v.flag locArb R.HST_STAT_CKPT_STALE = false → ∃ (u : State) (k : Nat),
        exec .ckptStale s = .next (u.raise locArb 0x26 k) ∧ u.flag locArb R.HST_STAT_CKPT_STALE = true ∧
        v.hst.commitAt + v.arb R.HST_CTRL_STALE_MS * 625000 ≤ u.now ∧ { u with tails := v.tails, regs := v.regs } = v))

/-! ### Power -/

/-- POW.WAKE, POW.SLEEP and POW.BUDGET (R348, R349, R358 to R361, R403) of a pipeline, or of a buffer slice. WAKE of one
that is awake completes at once, and ends an attempt to sleep; one that nothing refuses starts a wake of 250 ns (157 ticks),
of a slice 200 ns (125 ticks), with its tokens, or joins the one under way; refused, BG waits for tokens up to 10 ms in
class 4, and without BG it completes DENIED. SLEEP conflicts with its reason, meets a wake with BUSY_GATE, completes at once
where asleep, else starts an attempt of 2 ms that ends TIMEOUT. BUDGET of an absent die has no target, one that does not
nest conflicts 6, one below the tokens in use 7; else it is stored. -/
def Obligations.PowerCommandsOfTheHost : Prop :=
  ∀ (n : Nat) (f : Flight) (s : State) (d k : Nat), d < 4 → k < 4 →
    let loc := cluLoc d k 20 0
    (∀ sl : Bool,
      let r : WakeReq := { die := d, clu := k, prio := if f.cmd.bg then 4 else 3, tick := s.now, num := some n, slice := sl }
      let up := if sl then s.sliceAwake d k else s.awake d k
      let pin (t : State) : Prop := bit f.cmd.opa 0 = true → sl = false → t.flag loc R.PWR_CTRL_PINNED = true
      Starts (isOp 0xB0) mPowWake n f s → f.cmd.loc = cluLoc d k (if sl then 21 else 20) 0 →
      (up = true → ∃ u : State, exec (.powWake n) s = .next (u.complete n { status := stOk }) ∧ pin u ∧
        (sl = false → u.attempt d k false = none) ∧
        (sl = true ∨ s.attempt d k false = none → { u with regs := s.regs } = s)) ∧
      (up = false → s.refuse r (s.ahead r) = [] → Tab.get? s.ledger.waking (gateKey d k sl) = none → ∃ (t : State) (w : Waking),
        exec (.powWake n) s = .next t ∧ t.flight n = some { f with phase := .exec 0 } ∧ pin t ∧
        Tab.get? t.ledger.waking (gateKey d k sl) = some w ∧ w.num = some n ∧ w.ready = s.now + (if sl then 125 else 157) ∧
        w.got = (if s.hasResv d k then 0 else if sl then s.sliceCost d k else s.wakeCost d k) ∧ w.resv = s.hasResv d k) ∧
      (∀ w, up = false → s.refuse r (s.ahead r) = [] → Tab.get? s.ledger.waking (gateKey d k sl) = some w → ∃ t : State,
        exec (.powWake n) s = .next t ∧ t.flight n = some { f with phase := .exec 0 } ∧ pin t ∧
        Tab.get? t.ledger.waking (gateKey d k sl) = some { w with num := some n, got := 0 } ∧
        { t with plyn := s.plyn, regs := s.regs, ledger := s.ledger } = s) ∧
      (up = false → s.refuse r (s.ahead r) ≠ [] →
        (f.cmd.bg = false → exec (.powWake n) s = .next (s.complete n (deniedC (s.refuse r (s.ahead r)) false))) ∧
        (f.cmd.bg = true → ∃ t : State, exec (.powWake n) s = .next t ∧
          t.flight n = some { f with phase := .tokens (s.now + 6250000) } ∧ t.ledger.reqs = s.ledger.reqs ++ [r] ∧
          { t with plyn := s.plyn, ledger := s.ledger } = s))) ∧
    (Starts (isOp 0xB1) mPowSleep n f s → f.cmd.loc = loc →
      (s.pipeWaking d k = true → exec (.powSleep n) s = .next (s.complete n { status := stBusyGate })) ∧
      (s.pipeWaking d k = false → s.awake d k = true → ∀ x, s.sleepBar d k = some x →
        exec (.powSleep n) s = .next (s.complete n { status := stConflict, detail := x % 256 })) ∧
      (s.pipeWaking d k = false → s.awake d k = false → ∃ t : State, exec (.powSleep n) s = .next (t.complete n { status := stOk }) ∧
        t.flag loc R.PWR_CTRL_PINNED = false ∧ { t with regs := s.regs } = s) ∧
      (s.pipeWaking d k = false → s.awake d k = true → s.sleepBar d k = none → ∃ t : State, exec (.powSleep n) s = .next t ∧
        t.flight n = some { f with phase := .exec (s.now + 1250000) } ∧ t.flag loc R.PWR_CTRL_PINNED = false ∧
        t.attempt d k false = some { deadline := s.now + 1250000, num := some n } ∧ t.awake d k = true)) ∧
    (Starts (isOp 0xB1) mPowSleep n f s → f.cmd.loc = cluLoc d k 21 0 →
      (s.sliceWaking d k = true → exec (.powSleep n) s = .next (s.complete n { status := stBusyGate })) ∧
      (s.sliceWaking d k = false →
        (s.sliceAwake d k = false → exec (.powSleep n) s = .next (s.complete n { status := stOk })) ∧
        (s.sliceAwake d k = true → s.sliceUsed d k ≠ 0 →
          exec (.powSleep n) s = .next (s.complete n { status := stConflict, detail := 4 })) ∧
        (s.sliceAwake d k = true → s.sliceUsed d k = 0 → ∃ t : State, exec (.powSleep n) s = .next t ∧
          t.flight n = some { f with phase := .exec (s.now + 1250000) } ∧
          t.attempt d k true = some { deadline := s.now + 1250000, num := some n } ∧
          { t with plyn := s.plyn, ledger := s.ledger } = s))) ∧
    (∀ due, s.flight n = some f → f.phase = .exec due → f.cmd.opcode = 0xB1 → ∃ u : State,
      exec (.powSleepTimeout n) s = .next (u.complete n { status := stTimeout }) ∧ due ≤ u.now) ∧
    (Starts (isOp 0xB2) mPowBudget n f s →
      let level := f.cmd.opa % 4
      let l := f.cmd.budLoc
      let b := s.budgetOf level l
      let new := s.ledPut b.1 f.cmd.budTokens
      (level ≠ 0 → dieOn s.part (locDie l) = false → exec (.powBudget n) s = .next (s.complete n { status := stNoTarget })) ∧
      ((level = 0 ∨ dieOn s.part (locDie l) = true) →
        (new.nested = false → exec (.powBudget n) s = .next (s.complete n { status := stConflict, detail := 6 })) ∧
        (new.nested = true → f.cmd.budTokens < b.2.1 →
          exec (.powBudget n) s = .next (s.complete n { status := stConflict, detail := 7 })) ∧
        (new.nested = true → b.2.1 ≤ f.cmd.budTokens → ∃ (u : State) (v : Nat),
          exec (.powBudget n) s = .next (u.retest.complete n { status := stOk, result := v }) ∧
          u.led b.1 = f.cmd.budTokens ∧ u.nested = true ∧ v = u.led b.2.2 % 65536 ∧ u.ledger = s.ledger)))

/-- Pipelines and slices wake and sleep (R33 to R35, R329, R330, R346, R350, R357, R358). A wake ends no earlier than it is
ready, the sooner of a pipeline's and its slice's first: pipeline or slice is awake, and what waited for it may complete
with the tokens granted. A quiesced pipeline that an attempt waits for goes to sleep once its landing shares are empty and
its facing partners have acknowledged their windows; what has come to keep it awake ends the attempt with its reason. A
slice without cells sleeps once its pipeline does. Idle that is not raised in time logs kind 0x05 and ends the attempt
BUSY_GATE. After its idle time a pipeline that may sleep begins an attempt of its own. -/
def Obligations.PipelinesWakeAndSleep : Prop :=
  ∀ (s : State) (d k : Nat), d < 4 → k < 4 →
    let pipe := Tab.get? s.ledger.waking (gateKey d k false)
    let alone := Tab.get? s.ledger.waking (gateKey d k true)
    (pipe = none → alone = none → exec (.pipelineWakeReady d k) s = .next s) ∧
    (∀ w, pipe = some w → (∀ a, alone = some a → w.ready < a.ready) → ∃ u : State,
      exec (.pipelineWakeReady d k) s = .next (u.finishPart w.num { status := stOk, result := w.got % 65536 }) ∧
      w.ready ≤ u.now ∧ u.awake d k = true ∧ u.sliceAwake d k = s.sliceAwake d k ∧ u.pipeWaking d k = false) ∧
    (∀ a, alone = some a → (∀ w, pipe = some w → a.ready ≤ w.ready) → ∃ u : State,
      exec (.pipelineWakeReady d k) s = .next (u.finishPart a.num { status := stOk, result := a.got % 65536 }) ∧
      a.ready ≤ u.now ∧ u.sliceAwake d k = true ∧ u.awake d k = s.awake d k ∧ u.sliceWaking d k = false) ∧
    (s.attempt d k false = none → exec (.gateIdle (cluLoc d k 20 0)) s = .next s) ∧
    (∀ a, s.attempt d k false = some a →
      (∀ x, s.sleepBar d k = some x → exec (.gateIdle (cluLoc d k 20 0)) s =
        .next (s.endAttempt d k false { status := stConflict, detail := x % 256 })) ∧
      (s.sleepBar d k = none →
        (s.awake d k = false ∨ s.landEmpty d k = false ∨ s.acked d k = false →
          exec (.gateIdle (cluLoc d k 20 0)) s = .next s) ∧
        (s.awake d k = true → s.landEmpty d k = true → s.acked d k = true → ∃ u : State,
          exec (.gateIdle (cluLoc d k 20 0)) s = .next u.retest ∧ u.awake d k = false ∧ u.attempt d k false = none))) ∧
    (∃ u : State, exec (.gateIdle (cluLoc d k 21 0)) s = .next u.retest ∧
      (s.sliceAwake d k = true → s.awake d k = false → s.pipeWaking d k = false → s.sliceUsed d k = 0 →
        u.sliceAwake d k = false) ∧
      ((s.sliceAwake d k = false ∨ s.awake d k = true ∨ s.pipeWaking d k = true ∨ s.sliceUsed d k ≠ 0) → u = s)) ∧
    (∀ sl, let loc := cluLoc d k (if sl then 21 else 20) 0
      (s.attempt d k sl = none → exec (.gateTimeout loc) s = .next s) ∧
      (s.attempt d k sl ≠ none → exec (.gateTimeout loc) s =
        .next ((s.raise loc 0x05 0).endAttempt d k sl { status := stBusyGate }))) ∧
    (let v := s.advanceTo (s.idleDue d k);
      (v.maySleep d k = false → exec (.autoSleep d k) s = .next s) ∧
      (v.maySleep d k = true → ∃ t : State, exec (.autoSleep d k) s = .next t ∧ t.tails = v.tails ∧
        t.attempt d k false = some { deadline := v.now + 1250000 } ∧ t.awake d k = true))

/-- Grants, gate schedules, heat (R37, R64, R307, R349, R351, R353, R356). The ledger grants the first request in the order
of priority that nothing refuses, and it waits no more: a demand wake begins, an instruction that waited for its tokens has
its effect. 300 ns before a time-bound gate opens its sleeping pipeline is woken on
its reservation. A pending gate list is operational from its start on; at each boundary of the operational list the gates
take its entry. A sample of valid readings, none above the grade's maximum, stores all of them and the derating step of each
region's hottest. -/
def Obligations.GrantsSchedulesAndHeat : Prop :=
  ∀ s : State,
    ((∀ r ∈ s.ledger.reqs, r.prio < 6 → s.grantOf r = none) → exec .wakeGrant s = .next s) ∧
    (∀ r ∈ s.ledger.reqs, r.prio < 6 → s.grantOf r ≠ none → ∃ (q : WakeReq) (t : State), exec .wakeGrant s = .next t ∧
      q ∈ s.ledger.reqs ∧ s.grantOf q = some t ∧ (∀ x ∈ s.ledger.reqs, x.prio < q.prio → s.grantOf x = none) ∧
      (q.num = none → s.refuse q (s.ahead q) = [] ∧ t.ledger.reqs = s.ledger.reqs.erase q ∧
        (s.upOrWaking q.die q.clu q.slice = false → ∃ w,
          Tab.get? t.ledger.waking (gateKey q.die q.clu q.slice) = some w ∧ w.num = none ∧
          w.ready = s.now + (if q.slice then 125 else 157))) ∧
      (∀ n f, q.num = some n → s.flight n = some f →
        let y := (drawMeaning f.cmd.opcode).eff f s
        (y.2 = none → t = y.1.dropReqs n) ∧
        (∀ c, y.2 = some c → c.status ≠ stDenied ∧ t = (y.1.dropReqs n).complete n c))) ∧
    (∀ d p, d < 4 → p < 72 →
      let k := portClu p
      (s.nextOpening d p = none → exec (.gatePrewake d p) s = .next s) ∧
      (∀ t0, s.nextOpening d p = some t0 → ∃ u : State, exec (.gatePrewake d p) s = .next u ∧
        5 * (t0 - 300 * 65536) ≤ (u.tail 5).fu ∧
        (s.hasResv d k = true → s.upOrWaking d k false = false → s.attempt d k false = none → ∃ w,
          Tab.get? u.ledger.waking (gateKey d k false) = some w ∧ w.resv = true ∧ w.got = 0 ∧ w.num = none)) ∧
      ((s.port d p).pend = none → exec (.gatelistStart d p) s = .next s) ∧
      (∀ g, (s.port d p).pend = some g → ∃ u : State, exec (.gatelistStart d p) s = .next ((u.resvSync d).getD u) ∧
        5 * g.start ≤ (u.tail 5).fu ∧ (u.port d p).pend = none ∧
        (g.entries = [] → (u.port d p).oper = none ∧ u.pfld d p R.QUE_GATES_OPEN = 0xFFFF) ∧
        (g.entries ≠ [] → (u.port d p).oper = some g ∧
          u.pfld d p R.QUE_GATES_OPEN = (g.entries.getD (g.indexAt (u.nowU d)) (0xFFFF, 0)).1 % 65536) ∧
        { u with tails := s.tails, regs := s.regs, ports := s.ports } = s) ∧
      ((s.port d p).oper = none → exec (.gateChange d p) s = .next s) ∧
      (∀ g t0, (s.port d p).oper = some g → g.nextOf (s.nowU d + 1) (fun _ => true) = some t0 → ∃ t : State,
        exec (.gateChange d p) s = .next t ∧ 5 * t0 ≤ (t.tail 5).fu ∧
        t.pfld d p R.QUE_GATES_OPEN = (g.entries.getD (g.indexAt (t.nowU d)) (0xFFFF, 0)).1 % 65536 ∧
        { t with tails := s.tails, regs := s.regs, ports := s.ports } = s)) ∧
    (∀ readings : List Int,
      let rs (i : Nat) : List Int := (readings.drop (4 * i)).take 4
      (∀ i, i < 8 → dieOn s.part (i / 2) = true → ∀ k, k < 4 →
        readingOk (rs i) k = true ∧ (rs i).getD k 0 ≤ gradeMax s.part) →
      ∃ u : State, exec (.thermalSample readings) s = .next u.retest ∧ u.ledger = s.ledger ∧
        ∀ i, i < 8 → dieOn s.part (i / 2) = true →
          u.led (R.POW_REG_TEMP_SENSOR0 i) = satBits ((rs i).getD 0 0) 16 ∧
          u.led (R.POW_REG_TEMP_SENSOR1 i) = satBits ((rs i).getD 1 0) 16 ∧
          u.led (R.POW_REG_TEMP_SENSOR2 i) = satBits ((rs i).getD 2 0) 16 ∧
          u.led (R.POW_REG_TEMP_SENSOR3 i) = satBits ((rs i).getD 3 0) 16 ∧
          u.led (R.POW_REG_STEP i) = stepFor (sx (s.led R.POW_THERM_KNEE) 16) (s.led R.POW_THERM_HYST)
            (max (max ((rs i).getD 0 0) ((rs i).getD 1 0)) (max ((rs i).getD 2 0) ((rs i).getD 3 0)))
            (s.led (R.POW_REG_STEP i)))

/-! ### Faults -/

/-- A fault message of an assigned kind is logged (R364, R370 to R374): its word and the present time go into the log at
NEXT, which advances, its pending flag is set and COUNT counts, saturating; a reserved kind is no message. Unless its level
calls for a reaction nothing else follows. FLT (R368, R372, R377 to R381). INJECT in direct mode reports the fault with INJ
and completes with its log index; in check-bit mode it waits up to 10 ms for an access, then completes TIMEOUT and waits no
more. CLEAR of a kind clears its flags, releases what it contains and reports COUNT; CLEAR of all reports how many were
pending; CLEAR of the latches clears their VALID; the end of safe state conflicts outside it, with 0xFF under a kind that
only a reset ends and with the lowest kind that still stands, else SAFE is 0. REACT stores the level, 6 for the default, and
reports the former. -/
def Obligations.FaultsAreLoggedAndHandled : Prop :=
  (∀ (s : State) (m : FaultMsg),
     let i := s.fld locCol R.FLT_LOG_PTR_NEXT
     (kindSev m.kind = none → exec (.faultMessage [m]) s = .next s) ∧
     (∀ sev, kindSev m.kind = some sev → m.loc < 65536 →
       let t := s.logFault m
       (s.faults.armed = [] → (m.inj = true ∨ m.kind ≠ 0x61 ∧ m.kind ≠ 0x62) →
         exec (.faultMessage [m]) s = .next (s.fault m)) ∧
       (s.levelOf m = 0 → locDie m.loc ≠ 4 → locDie m.loc ≠ 5 → s.fault m = t) ∧
       t.pair locCol (R.FLT_LOG_W0 i) (R.FLT_LOG_W1 i) = faultWord m ∧
       t.pair locCol (R.FLT_LOG_W2 i) (R.FLT_LOG_W3 i) = s.txNow ∧
       t.fld locCol R.FLT_LOG_PTR_NEXT = (i + 1) % 1024 ∧
       t.flag locCol (if m.inj then R.FLT_PEND_INJ m.kind else R.FLT_PEND_REAL m.kind) = true ∧
       t.fld locCol (R.FLT_PEND_COUNT m.kind) = satNat (s.fld locCol (R.FLT_PEND_COUNT m.kind) + 1) 16 ∧
       t.fld locCol (R.FLT_PEND_SEV_MAX m.kind) = max sev (s.fld locCol (R.FLT_PEND_SEV_MAX m.kind)))) ∧
  (∀ (n : Nat) (f : Flight) (s : State),
     let k := f.cmd.opa % 256
     (Starts (isOp 0xC0) mFltInject n f s →
       (bit f.cmd.opa 8 = true → exec (.fltInject n) s =
         .next ((s.fault { loc := f.cmd.loc, kind := k, inj := true, detail := f.cmd.opb % 2 ^ 32 }).complete n
           { status := stOk, result := s.fld locCol R.FLT_LOG_PTR_NEXT })) ∧
       (bit f.cmd.opa 8 = false → ∃ t : State, exec (.fltInject n) s = .next t ∧
         t.flight n = some { f with phase := .exec (s.now + 6250000) } ∧
         t.faults = { s.faults with armed := s.faults.armed ++
           [{ num := n, loc := f.cmd.loc, kind := k, off := f.cmd.opb % 2 ^ 32, until_ := s.now + 6250000 }] } ∧
         { t with plyn := s.plyn, faults := s.faults } = s)) ∧
     (∀ due, s.flight n = some f → f.phase = .exec due → f.cmd.opcode = 0xC0 → ∃ u : State,
       exec (.fltInjectTimeout n) s = .next (u.complete n { status := stTimeout }) ∧ due ≤ u.now ∧
       (∀ a ∈ u.faults.armed, a.num ≠ n) ∧ { u with tails := s.tails, faults := s.faults } = s) ∧
     (Starts (isClear 0) mFltClear n f s →
       let q := bits f.cmd.opa 8 8
       ∃ u : State, exec (.fltClearKind n) s = .next (((u.releaseKind q).faultNSync).complete n
           { status := stOk, result := s.fld locCol (R.FLT_PEND_COUNT q) }) ∧ u.pendSet q = false ∧
         u.fld locCol (R.FLT_PEND_COUNT q) = s.fld locCol (R.FLT_PEND_COUNT q) ∧
         u.fld locCol (R.FLT_PEND_LEVEL q) = s.fld locCol (R.FLT_PEND_LEVEL q) ∧ { u with regs := s.regs } = s) ∧
     (Starts (isClear 1) mFltClear n f s → ∃ u : State,
       exec (.fltClearAll n) s = .next (u.faultNSync.complete n { status := stOk, result := (kinds.filter s.pendSet).length }) ∧
       ∀ q ∈ kinds, u.pendSet q = false) ∧
     (Starts (isClear 2) mFltClear n f s → ∃ t : State, exec (.fltClearLatches n) s = .next (t.complete n { status := stOk }) ∧
       (bit f.cmd.opa 2 = true → t.fld locCol ⟨0x20, 0, 1⟩ = 0) ∧ (bit f.cmd.opa 3 = true → t.fld locCol ⟨0x40, 0, 1⟩ = 0) ∧
       { t with regs := s.regs } = s) ∧
     (Starts (isClear 3) mFltClear n f s →
       let no (x : Nat) := exec (.fltClearSafe n) s = .next (s.complete n { status := stConflict, detail := x })
       (s.safe = false → no 0) ∧ (s.safe = true → s.faults.only ≠ [] → no 0xFF) ∧
       (s.safe = true → s.faults.only = [] →
         (∀ q, kinds.find? s.blocksExit = some q → no q) ∧
         (kinds.find? s.blocksExit = none → ∃ t : State,
           exec (.fltClearSafe n) s = .next (t.complete n { status := stOk, result := s.realKinds.length }) ∧ t.safe = false ∧
           t.faults = s.faults ∧ (∀ j, j < 8 → s.fld (hubLoc (20 + j)) R.TRG_STAT_STATE = 3 →
             t.fld (hubLoc (20 + j)) R.TRG_STAT_STATE = 0 ∧ t.fld (hubLoc (20 + j)) R.TRG_STAT_CAUSE = 3)))) ∧
     (Starts (isOp 0xC2) mFltReact n f s → ∃ t : State, exec (.fltReact n) s =
         .next (t.complete n { status := stOk, result := s.fld locCol (R.FLT_PEND_LEVEL k) }) ∧
       t.fld locCol (R.FLT_PEND_LEVEL k) = (if bits f.cmd.opa 8 3 = 6 then kindReact k else bits f.cmd.opa 8 3) ∧
       t.fld locCol (R.FLT_PEND_COUNT k) = s.fld locCol (R.FLT_PEND_COUNT k) ∧ { t with regs := s.regs } = s))

/-! ### CAL and DIAG -/

/-- Calibration (R383 to R397). RUN conflicts where its item may not run; item 6 completes at once; each other item becomes
BUSY and goes on, item 4 with the servo in HOLD. A run ends after its measuring time, OK or FAULT, and is BUSY no more; one
of items 2, 3 and 5 that fails leaves the live set, one that ends well takes the values measured and reports the largest
change. READ writes a record to the host and reports its length.
WRITE takes a record's values where the item may be written, FACTORY the factory ones, each with the largest change; FACTORY
of all reports how many instances it restored. DIAG (R42, R253, R313). TALLY writes its 512-byte record and reports the dies
it covers; a failed access completes FAULT. LOOP at a port that is UP in a near loop goes on, else it conflicts with the
state; at its end it reports the frames lost, and under PCS_NEAR and SERIAL_NEAR the residuals' minimum, maximum and mean
are stored. -/
def Obligations.CalibrationsAndDiagnostics : Prop :=
  (∀ (n : Nat) (f : Flight) (s : State),
     let item := f.cmd.item
     let loc := f.cmd.loc
     let home := calHome item loc
     let hub := locDie loc = 6
     (Starts (isOp 0xD0) mCalRun n f s → item = 1 → s.absent loc = true →
       exec (.calRun n) s = .next (s.complete n { status := stNoTarget })) ∧
     (Starts (isOp 0xD0) mCalRun n f s → (item = 1 → s.absent loc = false) →
       (∀ c, s.calRunBar item loc = some c → exec (.calRun n) s = .next (s.complete n c)) ∧
       (s.calRunBar item loc = none → item = 6 → ∃ (t : State) (r : Nat),
         exec (.calRun n) s = .next (t.complete n { status := stOk, result := r }) ∧
         t.nomFcw = sx (toBits (meanOf (s.servo.hist.short.drop (s.servo.hist.short.length - 64))) 48) 48 ∧
         t.fld loc R.CAL_STAT_SOURCE = 1 ∧ t.fld loc R.CAL_STAT_COUNT = (s.fld loc R.CAL_STAT_COUNT + 1) % 65536) ∧
       (s.calRunBar item loc = none → item ≠ 6 → ∃ t : State, exec (.calRun n) s = .next t ∧
         t.flight n = some { f with phase := .exec 0 } ∧ t.flag home R.CAL_STAT_BUSY = true ∧
         t.calOf home item = { s.calOf home item with
           num := some n, since := if item = 4 then s.now + s.toSlot else s.now } ∧ (item = 4 → t.servoState = 7))) ∧
     (∀ due, s.flight n = some f → f.phase = .exec due → f.cmd.opcode = 0xD0 → locDie loc ≠ 7 →
       ((s.calOf home item).num ≠ some n → ∀ e, exec (.calRunDone n e) s = .next s) ∧
       ((s.calOf home item).num = some n → ∀ e : CalEnd, ∃ (u : State) (c : Compl),
         exec (.calRunDone n e) s = .next (u.finishPart (some n) c) ∧ u.flag home R.CAL_STAT_BUSY = false ∧
         (u.calOf home item).num = none ∧
         (∀ code, e = .fail code → c = { status := stFault, result := code } ∧ u.fld home R.CAL_STAT_LAST = stFault) ∧
         (∀ meas, e = .ok meas → c.status = stOk ∧ u.fld home R.CAL_STAT_LAST = stOk ∧ u.flag home R.CAL_STAT_VALID = true) ∧
         (e ≠ .fail 3 → (s.calOf home item).since + calTicks item ≤ u.now))) ∧
     (∀ due, s.flight n = some f → f.phase = .exec due → f.cmd.opcode = 0xD0 → hub → item = 2 ∨ item = 3 ∨ item = 5 →
       (s.calOf home item).num = some n →
       (∀ code, ∃ u : State, exec (.calRunDone n (.fail code)) s =
           .next (u.finishPart (some n) { status := stFault, result := code }) ∧
         u.flag home R.CAL_STAT_BUSY = false ∧ u.calOf home item = { s.calOf home item with num := none } ∧
         { u with tails := s.tails, regs := s.regs, cals := s.cals } = s) ∧
       (∀ meas : List Int, ∃ u : State, exec (.calRunDone n (.ok meas)) s = .next (u.finishPart (some n)
           { status := stOk, result := calChange (s.calSetOf home item) (calMerge item loc (s.calSetOf home item) meas) % 65536 }) ∧
         u.flag home R.CAL_STAT_BUSY = false ∧ u.flag home R.CAL_STAT_VALID = true ∧ u.fld home R.CAL_STAT_SOURCE = 1 ∧
         (∀ i, i < 128 → i < meas.length → u.calVal home item i = meas.getD i 0) ∧
         { u with tails := s.tails, regs := s.regs, cals := s.cals } = s)) ∧
     (Starts (isOp 0xD1) mCalRead n f s →
       let bs := if bit f.cmd.opa 4 then s.calRecord loc item 0 (s.calFactOf loc item)
         else s.calRecord loc item (s.fld loc R.CAL_STAT_SOURCE) (s.calSetOf loc item)
       (∀ t, s.dmaWrite f.cmd.opb bs = some t →
         exec (.calRead n) s = .next (t.complete n { status := stOk, result := bs.length % 65536 })) ∧
       (s.dmaWrite f.cmd.opb bs = none → exec (.calRead n) s = .next (s.complete n { status := stFault, detail := 0xE0 }))) ∧
     (Starts (isOp 0xD2) mCalWrite n f s →
       (∀ c, s.calWriteBar item loc = some c → exec (.calWrite n) s = .next (s.complete n c)) ∧
       (s.calWriteBar item loc = none →
         (s.calFetch f.cmd.opb = none → exec (.calWrite n) s = .next (s.complete n { status := stFault, detail := 0xE0 })) ∧
         (∀ bs, s.calFetch f.cmd.opb = some bs → ∃ (t : State) (r : Nat),
           exec (.calWrite n) s = .next (t.complete n { status := stOk, result := r }) ∧ t.flag loc R.CAL_STAT_VALID = true ∧
           t.fld loc R.CAL_STAT_SOURCE = 2 ∧ (item ≠ 6 → (t.calOf loc item).live = calValues item loc bs) ∧
           { t with regs := s.regs, cals := s.cals } = s))) ∧
     (Starts (fun c => c.opcode == 0xD3 && c.item != 15) mCalFactory n f s →
       (∀ c, s.calWriteBar item loc = some c → exec (.calFactory n) s = .next (s.complete n c)) ∧
       (s.calWriteBar item loc = none → ∃ (t : State) (r : Nat),
         exec (.calFactory n) s = .next (t.complete n { status := stOk, result := r }) ∧ t.fld loc R.CAL_STAT_SOURCE = 0 ∧
         (t.calOf loc item).live = [] ∧ { t with regs := s.regs, cals := s.cals } = s)) ∧
     (Starts (fun c => c.opcode == 0xD3 && c.item == 15) mCalFactory n f s → ∃ (t : State) (k j : Nat),
       exec (.calFactoryAll n) s = .next (t.complete n { status := stOk, result := k, detail := j }) ∧ k ≤ s.calAll.length ∧
       j = min (s.calAll.length - k) 255 ∧ { t with regs := s.regs, cals := s.cals } = s)) ∧
  (∀ (n : Nat) (f : Flight) (s : State),
     let d := (locPort f.cmd.loc).1
     let p := (locPort f.cmd.loc).2
     let depth := s.pfld d p R.PORT_STAT_LOOP
     (s.tally.length = 512) ∧
     (Starts (isOp 0xE0) mDiagTally n f s →
       (∀ t, s.dmaWrite f.cmd.opb s.tally = some t →
         exec (.diagTally n) s = .next (t.complete n { status := stOk, result := dieMask s.part })) ∧
       (s.dmaWrite f.cmd.opb s.tally = none →
         exec (.diagTally n) s = .next (s.complete n { status := stFault, detail := 0xE0 }))) ∧
     (Starts (isOp 0xE1) mDiagLoop n f s →
       (s.absent f.cmd.loc = true → exec (.diagLoop n) s = .next (s.complete n { status := stNoTarget })) ∧
       (s.absent f.cmd.loc = false → (s.pstate d p ≠ psUp ∨ depth = 0 ∨ 3 < depth) →
         exec (.diagLoop n) s = .next (s.complete n { status := stConflict, detail := s.pstate d p % 256 })) ∧
       (s.absent f.cmd.loc = false → s.pstate d p = psUp → 1 ≤ depth → depth ≤ 3 → ∃ t : State,
         exec (.diagLoop n) s = .next t ∧ t.flight n = some { f with phase := .exec 0 } ∧ { t with plyn := s.plyn } = s)) ∧
     (∀ due bad (resid : List Int), s.flight n = some f → f.phase = .exec due → f.cmd.opcode = 0xE1 → ∃ t : State,
       exec (.diagLoopDone n bad resid) s = .next (t.complete n { status := stOk, result := min bad (f.cmd.opa % 65536) }) ∧
       ((depth = 2 ∨ depth = 3) → resid ≠ [] →
         t.pfld d p R.DIAG_LOOP_MIN_MIN = satBits (resid.foldl min (resid.headD 0)) 32 ∧
         t.pfld d p R.DIAG_LOOP_MAX_MAX = satBits (resid.foldl max (resid.headD 0)) 32 ∧
         t.pfld d p R.DIAG_LOOP_MEAN_MEAN = satBits (meanOf resid) 32) ∧
       ((depth ≠ 2 ∧ depth ≠ 3 ∨ resid = []) → t = s) ∧ { t with regs := s.regs } = s))

/-! ### Clock sources and system PLLs -/

/-- Sources (R319 to R322, R324). A source that has counted out is marked stable: XB only while enabled, FAST_OSC only while
it runs. A stable crystal that fails is marked failed, counted and logged with kind 0x01, and where LREF came from it LREF
fails. A tailstock that misses LREF freezes its loop; at the end of the phase build-out all loops run again and CLK_XDIFF is
due. -/
def Obligations.ClockSourcesComeAndGo : Prop :=
  ∀ s : State,
    (s.boot.pgood = false → ∀ src, exec (.sourceStable src) s = .next s) ∧
    (s.boot.pgood = true →
      (∃ t : State, exec (.sourceStable .xa) s = .next t ∧ t.inStable false = true ∧ { t with regs := s.regs } = s) ∧
      (s.flag locClk R.CLK_CTRL_XB_EN = true → ∃ t : State, exec (.sourceStable .xb) s = .next t ∧ t.inStable true = true ∧
        { t with regs := s.regs } = s) ∧
      (s.flag locClk R.CLK_CTRL_XB_EN = false → exec (.sourceStable .xb) s = .next s) ∧
      (s.clk.fastOn = true → s.fastStable = false → ∃ t : State, exec (.sourceStable .fast) s = .next t ∧
        t.fastStable = true ∧ t.clk.tripAt = none ∧
        (∀ p, pllOn s.part p = true → s.coasting p = true → t.flag locClk (R.CLK_PLL_ON_FAST p) = true ∧
          t.flag locClk (R.CLK_PLL_RELOCK_BUSY p) = true ∧ t.onFast p = true) ∧
        { t with regs := s.regs, clk := s.clk } = s)) ∧
    (∀ xb : Bool,
      let src := if xb then ClkSrc.xb else ClkSrc.xa
      let bad := if xb then R.CLK_STAT_XB_FAIL else R.CLK_STAT_XA_FAIL
      let ctr := if xb then R.CLK_EVT_XB_FAILS else R.CLK_EVT_XA_FAILS
      (s.inStable xb = false → exec (.sourceFail src) s = .next s) ∧
      (s.inStable xb = true → ∃ u : State,
        exec (.sourceFail src) s = .next (if s.clk.lrefOn = true ∧ s.flag locClk R.CLK_STAT_LREF_XB = xb ∧
            s.flag locClk R.CLK_STAT_LREF_LOST = false then (u.raise (hubLoc 5) 0x01 (b2n xb)).lrefFail xb
          else u.raise (hubLoc 5) 0x01 (b2n xb)) ∧
        u.inStable xb = false ∧ u.flag locClk bad = true ∧ u.clkF ctr = satNat (s.clkF ctr + 1) ctr.len ∧
        { u with regs := s.regs } = s)) ∧
    (s.fastStable = false → exec (.sourceFail .fast) s = .next s) ∧
    (s.fastStable = true → ∃ t : State, exec (.sourceFail .fast) s = .next t ∧ t.fastStable = false ∧
      { t with regs := s.regs, clk := s.clk } = s) ∧
    (∀ i, (6 ≤ i ∨ s.clk.lrefOn = false → exec (.tailstockLrefFreeze i) s = .next s) ∧
      (i < 6 → s.clk.lrefOn = true → ∃ t : State, exec (.tailstockLrefFreeze i) s = .next t ∧
        t.tail i = { s.tail i with frozen := true } ∧ (∀ j, j ≠ i → t.tail j = s.tail j) ∧ { t with tails := s.tails } = s)) ∧
    (s.clk.buildOut = false → exec .phaseBuildOutDone s = .next s) ∧
    (s.clk.buildOut = true → ∃ t : State, exec .phaseBuildOutDone s = .next t ∧
      (∀ i, i < 6 → t.tail i = { s.tail i with frozen := false }) ∧
      t.clk = { s.clk with buildOut := false, xdiffDue := true } ∧ { t with tails := s.tails, clk := s.clk } = s)

/-- System PLLs (R323 to R328). One that loses its lock coasts, counted, and FAST_OSC is started: stable, it becomes the
reference of a relock at once; else the time of the first trip is kept. The end of a relock sets LOCKED and completes what
waited for it, SRC_FAST showing the new reference from there on (log entry 69), not before 4,096 cycles of that reference
have passed; after 100 us without lock kind 0x04 is logged. FAST_OSC not stable 2 ms after the first trip brings the reduced
safe state. With SYS_RETURN every PLL on FAST_OSC relocks to LREF once it has been stable for 1 s. -/
def Obligations.SystemPllsCoastAndRelock : Prop :=
  ∀ (s : State) (p : Nat), pllOn s.part p = true →
    let on (t : State) (f : Nat → Fld) : Bool := t.flag locClk (f p)
    (s.boot.pgood = true → s.faults.reduced = false → s.coasting p = false → ∃ t : State, exec (.pllCoast p) s = .next t ∧
      on t R.CLK_PLL_LOCKED = false ∧ on t R.CLK_PLL_COAST = true ∧ t.clk.fastOn = true ∧
      t.clkF (R.CLK_PLL_COASTS p) = satNat (s.clkF (R.CLK_PLL_COASTS p) + 1) (R.CLK_PLL_COASTS p).len ∧
      (s.fastStable = true → on t R.CLK_PLL_RELOCK_BUSY = true ∧ on t R.CLK_PLL_ON_FAST = true ∧
        t.onFast p = true ∧ t.flag locClk R.CLK_STAT_SYS_ON_FAST = true) ∧
      (s.fastStable = false → on t R.CLK_PLL_RELOCK_BUSY = false ∧ t.clk.tripAt = some (s.clk.tripAt.getD s.now)) ∧
      { t with regs := s.regs, clk := s.clk } = s) ∧
    (s.coasting p = true → exec (.pllCoast p) s = .next s) ∧
    (on s R.CLK_PLL_RELOCK_BUSY = false ∨ on s R.CLK_PLL_ON_FAST = false → exec (.pllRelockDone p) s = .next s) ∧
    (on s R.CLK_PLL_RELOCK_BUSY = true → on s R.CLK_PLL_ON_FAST = true → ∃ u : State,
      on u R.CLK_PLL_LOCKED = true ∧ on u R.CLK_PLL_RELOCK_BUSY = false ∧ on u R.CLK_PLL_ON_FAST = false ∧
      on u R.CLK_PLL_SRC_FAST = s.onFast p ∧
      (∀ t0, Tab.get? s.clk.relockAt p = some t0 → t0 + s.relockTicks (s.onFast p) ≤ u.now) ∧
      (Tab.get? s.clk.num p = none → exec (.pllRelockDone p) s = .next u.fastRest) ∧
      (∀ k r, Tab.get? s.clk.num p = some (k, r) →
        exec (.pllRelockDone p) s = .next ((u.complete k { status := stOk, result := r % 65536 }).fastRest)) ∧
      { u with tails := s.tails, regs := s.regs, clk := s.clk } = s) ∧
    ((Tab.get? s.clk.relockAt p = none ∨ on s R.CLK_PLL_RELOCK_BUSY = false) → exec (.pllRelockTimeout p) s = .next s) ∧
    (∀ t0, Tab.get? s.clk.relockAt p = some t0 → on s R.CLK_PLL_RELOCK_BUSY = true → ∃ u : State,
      exec (.pllRelockTimeout p) s = .next (u.raise locClk 0x04 p) ∧ t0 + 62500 ≤ u.now ∧ on u R.CLK_PLL_RELOCK_BUSY = true ∧
      { u with tails := s.tails, clk := s.clk } = s) ∧
    ((s.clk.tripAt = none ∨ s.fastStable = true) → exec .fastOscTimeout s = .next s) ∧
    (∀ t0, s.clk.tripAt = some t0 → s.fastStable = false → ∃ u : State, exec .fastOscTimeout s = .next u.reduce ∧
      t0 + 1250000 ≤ u.now ∧ { u with tails := s.tails } = s ∧ u.reduce.safe = true ∧ u.reduce.faults.reduced = true ∧
      u.reduce.fp R.FP_BOOT_RST_CAUSE = 4) ∧
    (s.flag locClk R.CLK_CTRL_SYS_RETURN = false ∨ s.lrefStable = false ∨ s.clk.lrefOn = false ∨ s.hostReady = false ∨
        (∀ q, pllOn s.part q = true → s.flag locClk (R.CLK_PLL_SRC_FAST q) = false ∨
          s.flag locClk (R.CLK_PLL_RELOCK_BUSY q) = true) →
      exec .sysReturn s = .next s) ∧
    (s.flag locClk R.CLK_CTRL_SYS_RETURN = true → s.lrefStable = true → s.clk.lrefOn = true → s.hostReady = true →
      on s R.CLK_PLL_SRC_FAST = true → on s R.CLK_PLL_RELOCK_BUSY = false → ∃ t : State, exec .sysReturn s = .next t ∧
        t.onFast p = false ∧ on t R.CLK_PLL_RELOCK_BUSY = true ∧ on t R.CLK_PLL_LOCKED = false ∧
        s.clk.lrefAt + 625000000 ≤ t.now ∧ { t with tails := s.tails, regs := s.regs, clk := s.clk } = s)

/-! ### Frames and bridges -/

/-- Reception (R25, R237, R243, R245, R254, R256, R296, R302, R303). At a port that is neither UP nor in REMOTE_FAULT, or in
a near loop, nothing is received; in REMOTE_FAULT a frame counts as errored. A part of a frame is noted as such in UP. A good
frame with room goes to the end of the landing share of a port whose pipeline is awake, one without room counts in its
class. A frame is bad by what the line did to it, its FCS or its length: behind others it is counted and dropped, in front
it enters as bad, to be cut or dropped. A PFC frame pauses each priority it names for
its quanta, a pause ends when they have run out, and an XOFF still in force is sent again after 32,768 quanta, at the end of a
frame in transmission. Timers of
frames (R273, R274, R310). The end of a flap hold leaves no frame queued; a recovery stream whose reset timeout passed
without an accepted frame starts afresh; a duplicate entry is forgotten after ENTRY_FORGET ms. Each at its time and not
before. -/
def Obligations.FrameTimersAndReception : Prop :=
  (∀ (s : State) (d p : Nat),
     let x := s.port d p
     let st := s.pstate d p
     let k := portClu p
     let errd (t : State) : Prop := t.pfld d p R.RX_ERR_ERRORED = satNat (s.pfld d p R.RX_ERR_ERRORED + 1)
       R.RX_ERR_ERRORED.len ∧ (t.port d p).landing = x.landing
     (∀ bs line, (s.portLive d p = false ∨ s.nearLoop d p = true ∨ st ≠ psRemote ∧ st ≠ psUp →
         exec (.frameReceive d p bs line) s = .next s) ∧
       (s.portLive d p = true → s.nearLoop d p = false → st = psRemote ∨ st = psUp → line.part = true →
         exec (.frameReceive d p bs line) s = .next (s.updPort d p (fun y => { y with rxPart := st == psUp }))) ∧
       (s.portLive d p = true → s.nearLoop d p = false → st = psRemote → line.part = false → ∃ t : State,
         exec (.frameReceive d p bs line) s = .next t ∧ errd t ∧ { t with regs := s.regs, ports := s.ports } = s)) ∧
     (s.portLive d p = true → s.nearLoop d p = false → st = psUp → s.awake d k = true → s.attempt d k false = none →
       x.inj = none → s.creditOn d p = false → s.contained (pipeLoc d k) = false →
       ∀ (bs : List Byte) (line : RxLine), bs.length ≤ s.maxFrame d p → line.part = false →
       let c := s.rxClass d p bs
       let err := s.lineErr d p bs.length line
       ((∀ h ∈ line.heads, h = 1 ∨ h = 2) → line.badCw = 0 → x.lossAt = none → err = false) ∧
       (err = false → fcsOk bs = true → 64 ≤ bs.length → pfcOf bs = none →
         (s.landFits d p c bs.length = true → ∃ (t : State) (f : Frame), exec (.frameReceive d p bs line) s = .next t ∧
           (t.port d p).landing = x.landing ++ [f] ∧ f.bytes = bs ∧ f.die = d ∧ f.port = p ∧ f.bad = false ∧
           f.stepGen = (s.tail d).stepGen ∧ (∀ e q, portKey e q ≠ portKey d p → t.port e q = s.port e q) ∧
           { t with freeCtr := s.freeCtr, ports := s.ports, regs := s.regs, ledger := s.ledger } = s) ∧
         (s.landFits d p c bs.length = false → ∃ t : State, exec (.frameReceive d p bs line) s = .next t ∧
           t.pfld d p (R.LANDING_DISCARD_COUNT c) = satNat (s.pfld d p (R.LANDING_DISCARD_COUNT c) + 1)
             (R.LANDING_DISCARD_COUNT c).len ∧ (t.port d p).landing = x.landing)) ∧
       (err = true ∨ fcsOk bs = false ∨ bs.length < 64 →
         (x.landing ≠ [] ∨ s.safe = true → ∃ t : State, exec (.frameReceive d p bs line) s = .next t ∧ errd t) ∧
         (x.landing = [] → s.safe = false → ∃ (t : State) (f : Frame), exec (.frameReceive d p bs line) s = .next t ∧
           (t.port d p).landing = [f] ∧ f.bytes = bs ∧ f.bad = true))) ∧
     (∀ en qs, (s.portLive d p = false ∨ st ≠ psUp ∨ s.nearLoop d p = true ∨ x.lossAt ≠ none →
         exec (.pfcFrameReceive d p en qs) s = .next s) ∧
       (s.portLive d p = true → st = psUp → s.nearLoop d p = false → x.lossAt = none → Tab.wf x.pause = true → ∃ t : State,
         exec (.pfcFrameReceive d p en qs) s = .next t ∧
         t.pfld d p R.PFC_STAT_PFC_RX = satNat (s.pfld d p R.PFC_STAT_PFC_RX + 1) R.PFC_STAT_PFC_RX.len ∧
         (∀ i, i < 8 → Tab.get? (t.port d p).pause i = (if bit en i = false then Tab.get? x.pause i
           else if qs.getD i 0 = 0 then none else some (s.now + s.quantaTicks d p (qs.getD i 0)))) ∧
         { t with regs := s.regs, ports := s.ports } = s)) ∧
     (∀ i, i < 8 →
       (Tab.get? x.pause i = none → exec (.pfcPauseExpiry d p i) s = .next s) ∧
       (∀ t0, Tab.get? x.pause i = some t0 → Tab.wf x.pause = true → ∃ t : State, exec (.pfcPauseExpiry d p i) s = .next t ∧
         Tab.get? (t.port d p).pause i = none ∧ t.pfld d p ⟨0x818, 8 + i, 1⟩ = 0 ∧ t0 ≤ t.now ∧
         { t with tails := s.tails, regs := s.regs, ports := s.ports } = s) ∧
       (Tab.get? x.xoffAt i = none → exec (.pfcRefresh d p i) s = .next s) ∧
       (∀ t0, Tab.get? x.xoffAt i = some t0 → s.nearLoop d p = false → ∃ t : State, exec (.pfcRefresh d p i) s = .next t ∧
         (x.sending = none → t.sent = .pfc d p i 0xFFFF :: s.sent) ∧
         (x.sending ≠ none → t.sent = s.sent ∧ (t.port d p).ctl = x.ctl ++ [.pfc i 0xFFFF]) ∧
         Tab.get? (t.port d p).xoffAt i = some t.now ∧
         t0 + s.quantaTicks d p 32768 ≤ t.now ∧ { t with tails := s.tails, ports := s.ports, sent := s.sent } = s))) ∧
  (∀ (s : State) (d p : Nat), d < 4 →
     ((s.port d p).holdEnd = none → exec (.flapHoldExpiry d p) s = .next s) ∧
     (∀ t0, (s.port d p).holdEnd = some t0 → ∃ u v : State, exec (.flapHoldExpiry d p) s = .next (u.afterRelease v d) ∧
       (u.port d p).queue = [] ∧ (u.port d p).hostQ = [] ∧ (u.port d p).holdEnd = none ∧ t0 ≤ u.now) ∧
     (∀ st, let x := s.stream d st
       ((s.liveTbl d 4).find? (fun e => e.idx == st) = none → exec (.frerResetTimeout d st) s = .next s) ∧
       (∀ e, (s.liveTbl d 4).find? (fun e => e.idx == st) = some e →
         (x.fresh = true → exec (.frerResetTimeout d st) s = .next s) ∧
         (byteAt e.res 0 1 = 2 → x.fresh = false → (Tab.get? (s.die d).streams st).isSome = true → ∃ t : State,
           exec (.frerResetTimeout d st) s = .next t ∧ t.stream d st = { x with fresh := true, seen := [], high := 0 } ∧
           x.last + 625000 * byteAt e.res 2 2 ≤ t.now ∧ { t with tails := s.tails, dies := s.dies } = s))) ∧
     (∀ st src seq, let hit := (s.die d).dups.find? (fun u => u.stream == st && u.src == src && u.seq == seq)
       (hit = none → exec (.duplicateEntryForget d st src seq) s = .next s) ∧
       (∀ u0, hit = some u0 → ∃ t : State, exec (.duplicateEntryForget d st src seq) s = .next t ∧
         (t.die d).dups = (s.die d).dups.erase u0 ∧ u0.tick + 625000 * s.fld (clsLoc d) R.PRP_CFG_ENTRY_FORGET ≤ t.now ∧
         { t with tails := s.tails, dies := s.dies } = s)))

/-- Passage (R25, R293, R305, R312, R376, R435, R441, R442). The oldest frame of a landing share enters an awake pipeline,
or waits where no cell is free; in safe state it is counted and goes no further. A transmission opportunity of a port that
is UP ends the frame in transmission and starts the chosen one, or discards it if a cell of it is bad. The part passes over
an entry of a packet-from-host ring that is out of order, counting it, and queues a DIRECT frame on its port. A die's egress
status reaches every die that a path joins to it. -/
def Obligations.FramesPassAndLeave : Prop :=
  ∀ (s : State) (d p : Nat),
    let x := s.port d p
    let k := portClu p
    let mains := 64 ≤ p ∧ ∃ q, q < 64 ∧ s.present d q = true ∧ portClu q = k ∧ (s.port d q).landing ≠ []
    ((s.awake d k = false ∨ x.landing = [] ∨ s.sliceWaking d k = true ∨ s.contained (pipeLoc d k) = true ∨ mains) →
      exec (.pipelineFrame d p) s = .next s) ∧
    (∀ f rest, dieOn s.part d = true → s.awake d k = true → x.landing = f :: rest → s.sliceWaking d k = false →
      s.contained (pipeLoc d k) = false → ¬mains →
      let v := s.setPort d p { x with landing := rest }
      (∀ t, v.pipe f = some t → exec (.pipelineFrame d p) s = .next (t.markPass d p)) ∧
      (v.pipe f = none → exec (.pipelineFrame d p) s = .next (s.wakeSlice d (s.rxClass d p f.bytes))) ∧
      (s.safe = true → f.die < 4 → ∃ u : State, v.pipe f = some (u.creditDrop f) ∧
        let ctr := R.SAFE_DISCARD_COUNT f.die
        u.fld locCol ctr = satNat (s.fld locCol ctr + 1) ctr.len ∧ { u with regs := s.regs } = v)) ∧
    ((s.portLive d p = false ∨ s.pstate d p ≠ psUp) → exec (.frameTransmit d p) s = .next s) ∧
    (s.portLive d p = true → s.pstate d p = psUp →
      let v := s.finishTx d p
      ((v.pstate d p ≠ psUp ∨ v.rxUnlocked d p = true ∨ v.choose' d p = none) → exec (.frameTransmit d p) s = .next v) ∧
      (∀ e y ts, v.pstate d p = psUp → v.rxUnlocked d p = false → v.choose' d p = some (e, y, ts) →
        let w := v.setPort d p y
        ((w.die d).cells.any (fun g => g.fid == e.fid && g.bad.isSome) = true →
          exec (.frameTransmit d p) s = .next ((w.releaseRef d e.fid).afterRelease w d)) ∧
        ((w.die d).cells.any (fun g => g.fid == e.fid && g.bad.isSome) = false → ∃ (t : State) (e' : QEnt),
          exec (.frameTransmit d p) s = .next t ∧ (t.port d p).sending = some e' ∧ e'.fid = e.fid ∧ e'.cls = e.cls))) ∧
    (∀ n eb, 96 ≤ n → n < 128 → (s.ring n).running = true → (s.ring n).used ≠ 0 →
      s.dmaRead ((s.ring n).base + 32 * ((s.ring n).head % 2 ^ (s.ring n).sizeLog2)) 32 = some eb →
      let e := leNat eb
      let q := bits e 80 7
      let c := bits e 87 2
      ((bit e 95 = true ∨ s.present c q = false ∨ bits e 64 14 < 60) →
        exec (.pktFromHostEntry n) s = .next (s.pktNext n true)) ∧
      (e < 2 ^ 112 → bit e 95 = false → bit e 93 = true → s.present c q = true → s.pstate c q = psUp → 60 ≤ bits e 64 14 →
        bits e 64 14 + 4 ≤ s.maxFrame c q → ∀ data, s.dmaRead (e % 2 ^ 64) (bits e 64 14) = some data →
        ∀ t, s.direct c q (bits e 89 4) (if bit e 94 then some (bits e 96 16) else none) (withFcs (data ++ leBytes 4 0)) = some t →
        exec (.pktFromHostEntry n) s = .next (t.pktNext n false) ∧
        ∃ h, (t.port c q).hostQ = (s.port c q).hostQ ++ [h] ∧ h.cls = bits e 89 4)) ∧
    (dieOn s.part d = false ∨ 4 ≤ d → exec (.egressStatusBroadcast d) s = .next s) ∧
    (d < 4 → dieOn s.part d = true → ∃ t : State, exec (.egressStatusBroadcast d) s = .next t ∧
      ∀ o ∈ otherDies d, dieOn s.part o = true → s.reaches d o = true →
        Tab.get? (t.die o).status d = some (s.statusOf d))

/-- Bridges (R276, R278, R279, R282 to R284) between a die and the one an endpoint faces. A flit whose CRC fails is counted
on this side and replayed on that; the fourth such error of a lane in 1 us is that lane's failure. A good flit leaves the
sender's replay buffer and is delivered, or passed on by a relay die at the end of its replay buffer, or stays while that
bridge takes none. A lane failure lets new flits run on for 0.5 us and halts both directions until 6.5 us after it; the
failover is then done, which takes a spare lane, kind 0x41, or goes on with 8 lanes, kind 0x42. Loss of lock takes UP from
both ends, kind 0x43, and lock gives it back. A drain gap ends once the pair's cells are acknowledged and no frame waits on
the old path, or at its time, counted; what it held goes behind what waits. -/
def Obligations.BridgesCarryFlits : Prop :=
  ∀ (s : State) (d ep : Nat), d < 4 → ep < 3 →
    let far := facingDie d ep
    let l := brgLoc d far
    let m := brgLoc far d
    let x := s.brg d far
    let both (t : State) (f : Fld) (b : Bool) : Prop := t.flag l f = b ∧ t.flag m f = b
    (∀ bad, (s.brgUp d far = false ∨ s.brgHalted d far = true ∨ (s.brg far d).replay = []) →
      exec (.bridgeFlitReceive d ep bad) s = .next s) ∧
    (∀ w rest, s.brgUp d far = true → s.brgHalted d far = false → (s.brg far d).replay = w :: rest →
      s.faults.armed = [] →
      (∀ lane, ∃ t : State, exec (.bridgeFlitReceive d ep (some lane)) s = .next t ∧
        t.fld l R.BRG_CNT_CRC_ERR = satNat (s.fld l R.BRG_CNT_CRC_ERR + 1) R.BRG_CNT_CRC_ERR.len ∧
        t.fld m R.BRG_STAT_REPLAYS = satNat (s.fld m R.BRG_STAT_REPLAYS + 1) R.BRG_STAT_REPLAYS.len ∧
        (t.brg far d).replay = w :: rest ∧ { t with regs := s.regs, dies := s.dies } = s ∧
        (let near := (x.errs.filter (fun e => e.1 == lane && decide (s.now ≤ e.2 + 625))).length
         (3 ≤ near → (t.brgFail d far).isSome = true) ∧ (near < 3 → (t.brg d far).failAt = x.failAt))) ∧
      (w.far = d → (s.takeCell d w = none → exec (.bridgeFlitReceive d ep none) s = .next (s.wakeSlice d 0)) ∧
        ∀ t lfid, s.takeCell d w = some (t, lfid) → ∃ u : State,
          exec (.bridgeFlitReceive d ep none) s = .next ((u.deliverCell d w lfid).serveWaits far) ∧
          (u.brg far d).replay = rest ∧ (u.brg d far).rxSeq = x.rxSeq + 1) ∧
      (w.far ≠ d →
        (s.brgUp d w.far = false → exec (.bridgeFlitReceive d ep none) s = .next (s.loseFrame (d, w.far) w)) ∧
        (s.brgUp d w.far = true → s.takesFlits d w.far 1 = false → exec (.bridgeFlitReceive d ep none) s = .next s) ∧
        (s.brgUp d w.far = true → s.takesFlits d w.far 1 = true → ∃ u : State,
          exec (.bridgeFlitReceive d ep none) s = .next (u.serveWaits far) ∧ (u.brg far d).replay = rest ∧
          (u.brg d w.far).replay = (s.brg d w.far).replay ++ [{ w with seq := (s.brg d w.far).txSeq }] ∧
          { u with dies := s.dies } = s))) ∧
    (∀ lane, (s.brgUp d far = false ∨ (s.brgFail d far).isSome = true → exec (.bridgeLaneFail d ep lane) s = .next s) ∧
      (s.brgUp d far = true → s.brgFail d far = none → ∃ t : State, exec (.bridgeLaneFail d ep lane) s = .next t ∧
        t.brg d far = { x with badLane := lane, failAt := some s.now, errs := [] } ∧ { t with dies := s.dies } = s ∧
        ∀ n, (t.advance n).brgHalted d far = decide (313 ≤ n ∧ n < 4063))) ∧
    (x.failAt = none → exec (.bridgeFailoverDone d ep) s = .next s) ∧
    (∀ t0, x.failAt = some t0 → ∃ u : State, t0 + 4063 ≤ u.now ∧ (u.brg d far).failAt = none ∧
      (s.fld l R.BRG_STAT_SPARES_LEFT = 0 →
        exec (.bridgeFailoverDone d ep) s = .next (((u.raise l 0x42 8).serveWaits d).serveWaits far) ∧
        (u.brg d far).lanes = 8 ∧ u.flag l R.BRG_STAT_DEGRADED = true) ∧
      (s.fld l R.BRG_STAT_SPARES_LEFT ≠ 0 →
        exec (.bridgeFailoverDone d ep) s = .next (((u.raise l 0x41 x.badLane).serveWaits d).serveWaits far) ∧
        (u.brg d far).lanes = x.lanes ∧
        u.fld l R.BRG_STAT_SPARES_LEFT = s.fld l R.BRG_STAT_SPARES_LEFT - 1)) ∧
    (s.brgUp d far = false → exec (.bridgeDown d ep) s = .next s) ∧
    (dieOn s.part d = true → dieOn s.part far = true → s.brgUp d far = true → ∃ u : State,
      exec (.bridgeDown d ep) s =
        .next ((((u.raise l 0x43 far).loseReplay d far).loseReplay far d).repinAll d far) ∧
      both u R.BRG_STAT_UP false ∧ (u.brg d far).failAt = none ∧ (u.brg far d).failAt = none ∧
      { u with regs := s.regs, dies := s.dies } = s) ∧
    (dieOn s.part d = true → dieOn s.part far = true → ∃ u : State,
      exec (.bridgeUp d ep) s = .next ((u.serveWaits d).serveWaits far) ∧ both u R.BRG_STAT_UP true ∧
      { u with regs := s.regs } = s) ∧
    (∀ b e, let g := Tab.get? (s.die d).gaps (4 * b + e)
      let clear := s.gapClear d b e
      (clear = true ↔ s.unacked' d b e = 0 ∧ ∀ r ∈ (s.die d).waits, ¬(r.bucket = b ∧ r.far = e)) ∧
      (clear = false ∨ g = none → exec (.drainGapEnd d b e) s = .next s) ∧
      (g = none → exec (.drainGapExpiry d b e) s = .next s) ∧
      (∀ h, g = some h → ∃ u v : State,
        (clear = true → exec (.drainGapEnd d b e) s = .next (u.serveWaits d) ∧
          exec (.drainGapExpiry d b e) s = .next (u.serveWaits d)) ∧
        (clear = false → exec (.drainGapExpiry d b e) s = .next (v.serveWaits d)) ∧
        (u.die d).waits = (s.die d).waits ++ h.held ∧ (v.die d).waits = (s.die d).waits ++ h.held ∧ h.until_ ≤ v.now ∧
        v.fld (clsLoc d) R.PIN_STAT_GAP_EXPIRED =
          satNat (s.fld (clsLoc d) R.PIN_STAT_GAP_EXPIRED + 1) R.PIN_STAT_GAP_EXPIRED.len))

/-! ### Links -/

/-- Bring-up of a present port that no containment gates off (R89 to R92, R239 to R241, R244, R246, R247). Each event acts
in its own state only: a signal or the end of training leads to LOCKING, negotiation with a partner that advertises the
port's mode to TRAINING where it is enabled, else it restarts, a failed training back to AUTONEG with cause
8, lock on every lane to MEASURING, lanes more than 120 ns apart to the start state with cause 4, 10 ms without lock to the
start state with cause 10. Samples that agree, with n_dsk within the deskew FIFO, write the sums,
make them valid, count the lock, and the port enters UP; samples that do not lead back to LOCKING with cause 4. A port that
is UP, or in REMOTE_FAULT, with VALID clear measures again and stays where it is. -/
def Obligations.LinksComeUp : Prop :=
  ∀ (s : State) (d p : Nat), s.portLive d p = true →
    let st := s.pstate d p
    let off (c : Instr) := exec c s = .next s
    let goes (c : Instr) (new : Nat) : Prop := ∃ t : State, exec c s = .next t ∧ t.pstate d p = new ∧
      (t.port d p).enteredAt = s.now ∧ { t with regs := s.regs, ports := s.ports } = s
    (st ≠ 1 → off (.signalDetect d p)) ∧ (st = 1 → goes (.signalDetect d p) 4) ∧
    (st ≠ 2 → (∀ ms, off (.autonegComplete d ⟨p, ms⟩)) ∧ off (.autonegRestart d p)) ∧
    (st = 2 → (∀ ms, s.unitMode d (portUnit p) ∈ ms →
        goes (.autonegComplete d ⟨p, ms⟩) (if s.pflag d p R.PORT_LINK_CFG_TRAIN_EN then 3 else 4)) ∧
      (∀ ms, s.unitMode d (portUnit p) ∉ ms →
        exec (.autonegComplete d ⟨p, ms⟩) s = .next (s.pbump d p R.PORT_GLITCH_AN_RESTARTS)) ∧
      exec (.autonegRestart d p) s = .next (s.pbump d p R.PORT_GLITCH_AN_RESTARTS)) ∧
    (st ≠ 3 → off (.trainingComplete d p) ∧ off (.trainingFail d p)) ∧
    (st = 3 → goes (.trainingComplete d p) 4 ∧ ∃ t : State, exec (.trainingFail d p) s = .next t ∧ t.pstate d p = 2 ∧
      t.pfld d p R.PORT_STAT_DOWN_CAUSE = 8 ∧ t.sent = .autoneg d p (s.unitMode d (portUnit p)) (s.hasFec d p) :: s.sent ∧
      { t with regs := s.regs, ports := s.ports, sent := s.sent } = s) ∧
    (st ≠ 4 → (∀ seen skew, off (.lockComplete d p ⟨seen, skew⟩)) ∧ off (.lockTimeout d p)) ∧
    (st = 4 → (∀ seen skew, 1 < (s.portLanes d p).length → 120000 < skew → ∃ t : State,
        exec (.lockComplete d p ⟨seen, skew⟩) s = .next t ∧ t.pstate d p = s.startState d p ∧
        t.pfld d p R.PORT_STAT_DOWN_CAUSE = 4 ∧ { t with regs := s.regs, ports := s.ports, sent := s.sent } = s) ∧
      (∀ seen skew, (s.portLanes d p).length ≤ 1 ∨ skew ≤ 120000 → ∃ t : State,
        exec (.lockComplete d p ⟨seen, skew⟩) s = .next t ∧ t.pstate d p = 5 ∧
        (t.port d p).refLane = refLaneOf (s.portLanes d p) seen ∧
        (∀ l ∈ s.portLanes d p, t.flag (laneLoc d (portUnit p) l) R.LANE_STAT_LOCK = true ∧
          t.flag (laneLoc d (portUnit p) l) R.LANE_STAT_CDR_LOCK = true) ∧ { t with regs := s.regs, ports := s.ports } = s) ∧
      ∃ t : State, exec (.lockTimeout d p) s = .next t ∧ t.pstate d p = s.startState d p ∧
        t.pfld d p R.PORT_STAT_DOWN_CAUSE = 10 ∧ (s.port d p).enteredAt + 6250000 ≤ t.now ∧
        { t with tails := s.tails, regs := s.regs, ports := s.ports, sent := s.sent } = s) ∧
    let again := (st = psUp ∨ st = psRemote) ∧ s.dlyValid d p = false ∧ s.pfld d p R.PORT_STAT_LOOP ≠ 1
    (st ≠ 5 → ¬again → ∀ m, off (.measuringDone d p m)) ∧
    (again → ∀ m, (m.agree = true → m.nDsk ≤ 191 → ∃ t : State, exec (.measuringDone d p m) s = .next t ∧
        t.dlyValid d p = true ∧ t.pstate d p = st ∧
        t.pfld d p R.DLY_RX_MEAS_SUM = satBits (s.lockSums d p m).1 32 ∧
        t.pfld d p R.DLY_TX_MEAS_SUM = satBits (s.lockSums d p m).2 32 ∧ { t with regs := s.regs, ports := s.ports } = s) ∧
      (m.agree = false ∨ 191 < m.nDsk → ∃ t : State, exec (.measuringDone d p m) s = .next t ∧ t.pstate d p = 4 ∧
        t.dlyValid d p = false)) ∧
    (st = 5 → ∀ m, (m.agree = true → m.nDsk ≤ 191 → ∃ u : State, exec (.measuringDone d p m) s = .next (u.enterUp d p) ∧
        u.dlyValid d p = true ∧ u.pfld d p R.DLY_STAT_LOCKS = (s.pfld d p R.DLY_STAT_LOCKS + 1) % 65536 ∧
        u.pfld d p R.DLY_RX_MEAS_SUM = satBits (s.lockSums d p m).1 32 ∧
        u.pfld d p R.DLY_TX_MEAS_SUM = satBits (s.lockSums d p m).2 32 ∧ (s.port d p).enteredAt + 4096 ≤ u.now ∧
        { u with tails := s.tails, regs := s.regs, ports := s.ports } = s) ∧
      (m.agree = false ∨ 191 < m.nDsk → ∃ t : State, exec (.measuringDone d p m) s = .next t ∧ t.pstate d p = 4 ∧
        t.pfld d p R.PORT_STAT_DOWN_CAUSE = 4 ∧ t.dlyValid d p = false)) ∧
    (s.enterUp d p).pstate d p = psUp

/-- Loss and remote fault at a present port that no containment gates off (R241, R243 to R245). A loss condition clears
VALID and ends a lock or a measurement under way, with its cause or with cause 4, but for the high-error one, which does
neither to a measurement; with DEBOUNCE 0 the port leaves UP at once, else its start and cause are kept; gone before DEBOUNCE it counts as a glitch,
after it the port leaves UP for its start state with the cause. Remote fault received takes UP to REMOTE_FAULT with cause 5;
its end enters UP. -/
def Obligations.LinksGoDown : Prop :=
  ∀ (s : State) (d p : Nat), s.portLive d p = true →
    let st := s.pstate d p
    let x := s.port d p
    let deb := s.pfld d p R.PORT_DEBOUNCE_DEBOUNCE
    (s.pfld d p R.PORT_STAT_LOOP = 1 → ∀ c, exec (.lossCondition d p c) s = .next s) ∧
    (∀ c, s.pfld d p R.PORT_STAT_LOOP ≠ 1 → c < 16 → c ≠ 9 →
      (st = psUp ∨ st = psRemote → deb ≠ 0 → x.lossAt = none → ∃ t : State, exec (.lossCondition d p c) s = .next t ∧
        (t.port d p).lossAt = some (s.now, c) ∧ t.dlyValid d p = false ∧ t.pstate d p = st) ∧
      (st = psUp ∨ st = psRemote → deb = 0 → ∃ u : State, exec (.lossCondition d p c) s = .next (u.lossExit d p c) ∧
        u.dlyValid d p = false ∧ u.pstate d p = st) ∧
      (st = psLocking → ∃ t : State, exec (.lossCondition d p c) s = .next t ∧ t.pstate d p = s.startState d p ∧
        t.pfld d p R.PORT_STAT_DOWN_CAUSE = c) ∧
      (st = psMeasuring → ∃ t : State, exec (.lossCondition d p c) s = .next t ∧ t.pstate d p = psLocking ∧
        t.pfld d p R.PORT_STAT_DOWN_CAUSE = 4)) ∧
    (s.pfld d p R.PORT_STAT_LOOP ≠ 1 →
      (st = psUp ∨ st = psRemote → deb ≠ 0 → x.lossAt = none →
        exec (.lossCondition d p 9) s = .next (s.setPort d p { x with lossAt := some (s.now, 9) })) ∧
      (st = psUp ∨ st = psRemote → deb = 0 → exec (.lossCondition d p 9) s = .next (s.lossExit d p 9)) ∧
      (st = psMeasuring → exec (.lossCondition d p 9) s = .next s)) ∧
    (∀ c, c < 16 → (s.lossExit d p c).pstate d p = s.startState d p ∧
      (s.lossExit d p c).pfld d p R.PORT_STAT_DOWN_CAUSE = c ∧ ((s.lossExit d p c).port d p).lossAt = none) ∧
    (x.lossAt = none → exec (.lossConditionClear d p) s = .next s ∧ exec (.debounceExpiry d p) s = .next s) ∧
    (∀ t0 c, x.lossAt = some (t0, c) →
      (s.now < t0 + 625 * deb → ∃ t : State, exec (.lossConditionClear d p) s = .next t ∧ (t.port d p).lossAt = none ∧
        t.pfld d p R.PORT_GLITCH_GLITCHES = satNat (s.pfld d p R.PORT_GLITCH_GLITCHES + 1) R.PORT_GLITCH_GLITCHES.len ∧
        t.pstate d p = st ∧ { t with regs := s.regs, ports := s.ports } = s) ∧
      (t0 + 625 * deb ≤ s.now → exec (.lossConditionClear d p) s = .next (s.lossExit d p c)) ∧
      ∃ u : State, exec (.debounceExpiry d p) s = .next (u.lossExit d p c) ∧ t0 + 625 * deb ≤ u.now ∧
        { u with tails := s.tails } = s) ∧
    (st ≠ psUp ∨ s.pfld d p R.PORT_STAT_LOOP = 1 → exec (.remoteFaultReceived d p) s = .next s) ∧
    (st = psUp → s.pfld d p R.PORT_STAT_LOOP ≠ 1 → ∃ t : State, exec (.remoteFaultReceived d p) s = .next t ∧
      t.pstate d p = psRemote ∧ t.pfld d p R.PORT_STAT_DOWN_CAUSE = 5 ∧ t.pflag d p R.PORT_STAT_RF_RX = true) ∧
    (st ≠ psRemote → exec (.remoteFaultCleared d p) s = .next s) ∧
    (st = psRemote → ∃ u : State, exec (.remoteFaultCleared d p) s = .next (u.enterUp d p) ∧
      u.pflag d p R.PORT_STAT_RF_RX = false ∧ { u with regs := s.regs } = s)

/-- Lanes (R237, R246, R249, R250, R407). A short at a lane of a present port takes the port to DISABLED with cause 7, kind
0x31; at a lane of no port it turns its pattern generator off. The open pin of a transmitter that drives is marked, kind
0x30, and drives on. At the end of 2^20 codewords a FEC check has them counted, the symbols corrected, and the codewords
corrected and beyond correction, and with the injected symbols above the threshold raises a link event. A checker that locks
counts a relock and starts to count bits; one that loses lock counts at least 256 errors more, of so many bits. -/
def Obligations.LanesAreWatched : Prop :=
  ∀ (s : State) (d p : Nat),
    let u0 := portUnit p
    (s.portLive d p = true → ∀ l, l ∈ s.portLanes d p →
      let loc := laneLoc d u0 l
      (∃ u : State, exec (.transmitShort d p l) s = .next ((u.raise loc 0x31 l).withdrawWakes d (portClu p)) ∧
        u.pstate d p = psDisabled ∧ u.pfld d p R.PORT_STAT_DOWN_CAUSE = 7 ∧ u.flag loc R.LANE_STAT_TX_SHORT = true ∧
        u.pflag d p R.PORT_STAT_TX_ON = false) ∧
      (s.laneDrives d p l = true → ∃ u v : State,
        exec (.transmitOpenSense d p l true) s = .next (u.raise loc 0x30 l) ∧ u.flag loc R.LANE_STAT_TX_OPEN = true ∧
        exec (.transmitOpenSense d p l false) s = .next v ∧ v.flag loc R.LANE_STAT_TX_OPEN = false ∧
        { u with regs := s.regs } = s ∧ { v with regs := s.regs } = s)) ∧
    (∀ l, s.portLive d p = false ∨ l ∉ s.portLanes d p →
      let loc := laneLoc d u0 l
      let own := s.flag loc R.PRBS_STAT_GEN_ON && !s.gatedOff loc && (s.laneOwner d u0 l).isNone
      (own = false → exec (.transmitShort d p l) s = .next s) ∧
      (own = true → ∃ u : State, exec (.transmitShort d p l) s = .next ((u.raise loc 0x31 l).unitRest d u0) ∧
        u.flag loc R.LANE_STAT_TX_SHORT = true ∧ u.flag loc R.PRBS_STAT_GEN_ON = false ∧ { u with regs := s.regs } = s)) ∧
    (∀ l b, s.laneDrives d p l = false → exec (.transmitOpenSense d p l b) s = .next s) ∧
    (∀ l, s.flag (laneLoc d u0 l) R.PRBS_STAT_GEN_ON = true → s.laneDrives d p l = true) ∧
    (∀ n corr uncorr, let x := s.port d p
      (s.portLive d p = false ∨ x.cwAt = none → exec (.fecDegradeCheck d p ⟨n, corr, uncorr⟩) s = .next s) ∧
      (∀ t0, s.portLive d p = true → x.cwAt = some t0 → ∃ u : State,
        let lim := s.pfld d p R.FEC_DEGRADE_THRESH
        exec (.fecDegradeCheck d p ⟨n, corr, uncorr⟩) s =
          .next (if lim ≠ 0 ∧ lim < n + x.injSym then u.linkEvent d p 0 3 else u) ∧
        u.pfld d p R.FEC_CW_CW = satNat (s.pfld d p R.FEC_CW_CW + (u.now - t0) / max (s.cwTicks d p) 1) R.FEC_CW_CW.len ∧
        u.pfld d p R.FEC_SYM_SYM = satNat (s.pfld d p R.FEC_SYM_SYM + n) R.FEC_SYM_SYM.len ∧
        u.pfld d p R.FEC_CORR_CORR = satNat (s.pfld d p R.FEC_CORR_CORR + corr) R.FEC_CORR_CORR.len ∧
        u.pfld d p R.FEC_UNCORR_UNCORR = satNat (s.pfld d p R.FEC_UNCORR_UNCORR + uncorr) R.FEC_UNCORR_UNCORR.len ∧
        (u.port d p).cwWin = u.now ∧ (u.port d p).injSym = 0 ∧ x.cwWin + 1048576 * s.cwTicks d p ≤ u.now ∧
        { u with tails := s.tails, regs := s.regs, ports := s.ports } = s)) ∧
    (∀ u l, let loc := laneLoc d u l
      ((s.flag loc R.PRBS_STAT_CHK_ON = false ∨ s.flag loc R.PRBS_STAT_CHK_LOCK = true) →
        exec (.prbsCheckerLock d u l) s = .next s) ∧
      (s.flag loc R.PRBS_STAT_CHK_ON = true → s.flag loc R.PRBS_STAT_CHK_LOCK = false → ∃ t : State,
        exec (.prbsCheckerLock d u l) s = .next t ∧ t.flag loc R.PRBS_STAT_CHK_LOCK = true ∧
        t.fld loc R.PRBS_STAT_RELOCKS = satNat (s.fld loc R.PRBS_STAT_RELOCKS + 1) R.PRBS_STAT_RELOCKS.len ∧
        Tab.get? (t.die d).prbsLock (8 * u + l) = some s.now ∧ { t with regs := s.regs, dies := s.dies } = s) ∧
      (s.flag loc R.PRBS_STAT_CHK_LOCK = false → exec (.prbsCheckerUnlock d u l) s = .next s) ∧
      (s.flag loc R.PRBS_STAT_CHK_LOCK = true → ∃ t : State, exec (.prbsCheckerUnlock d u l) s = .next t ∧
        t.flag loc R.PRBS_STAT_CHK_LOCK = false ∧
        (∀ t0, Tab.get? (s.die d).prbsLock (8 * u + l) = some t0 →
          let new := laneQuarters (s.fld loc R.PRBS_STAT_RATE) * (s.now - t0) / 4 - Tab.get 0 (s.die d).prbsSeen (8 * u + l)
          let old := s.pair loc R.PRBS_ERR_LO_ERR R.PRBS_ERR_HI_ERR
          satNat (old + min 256 new) 48 ≤ t.pair loc R.PRBS_ERR_LO_ERR R.PRBS_ERR_HI_ERR ∧
          t.pair loc R.PRBS_ERR_LO_ERR R.PRBS_ERR_HI_ERR ≤ satNat (old + new) 48) ∧
        { t with regs := s.regs, dies := s.dies, freeCtr := s.freeCtr } = s))

/-- The IEEE 1588 engines (R110, R112 to R114, R118). Where an engine may send, its next message waits for the interval after
the last of its type: a master's Sync carries the stamp, whole nanoseconds in the message and the rest in correctionField,
and in two-step operation its Follow_Up does; a slave's end-to-end Delay_Req and a peer-to-peer Pdelay_Req keep their stamps;
each takes the next sequenceId. A message of the engine's domain and transport at a port that is UP goes to the engine: a
one-step Sync gives a slave t1 and its parent, a Delay_Req gets a master's answer. The Announce monitor expires once, at its
time, with a link event, and fails the port as a PTP source. -/
def Obligations.PtpEnginesExchange : Prop :=
  ∀ (s : State) (d p : Nat),
    let e := s.engine d p
    let x := s.eng d p
    let may := s.engineMay d p
    let msg (ty seq time : Nat) (corr : Int) : Sent :=
      .ptp d p ty seq time corr e.domain e.transp (e.altDa && e.profile == 2)
    let waits (last : Option Nat) (log : Int) : State := s.toInterval last log
    (∀ last log, let v := waits last log
      { v with tails := s.tails } = s ∧ s.now ≤ v.now ∧ (last = none → v = s) ∧
        ∀ t0, last = some t0 → t0 + logTicks log ≤ v.now) ∧
    ((may = false ∨ e.state ≠ engMaster) → exec (.ptpSyncSend d p) s = .next s) ∧
    (may = true → e.state = engMaster →
      let v := waits x.syncAt e.logSync
      let ts := v.stampTx d p
      ∃ (t : State) (free : Nat), exec (.ptpSyncSend d p) s = .next t ∧
        t.sent = (if e.twoStep then [msg 8 x.seqSync (wholeNs ts) (subNs ts), msg 0 x.seqSync free 0]
          else [msg 0 x.seqSync (wholeNs ts) (subNs ts)]) ++ s.sent ∧
        t.eng d p = { x with seqSync := (x.seqSync + 1) % 65536, syncAt := some v.now } ∧
        { t with ports := s.ports, sent := s.sent, freeCtr := s.freeCtr } = v) ∧
    ((may = false ∨ e.state ≠ engSlave ∨ e.p2p = true) → exec (.ptpDelayReqSend d p) s = .next s) ∧
    (may = true → e.state = engSlave → e.p2p = false →
      let v := waits x.dreqAt e.logDreq
      let ts := v.stampTx d p
      ∃ t : State, exec (.ptpDelayReqSend d p) s = .next t ∧ t.sent = msg 1 x.seqDreq (wholeNs ts) 0 :: s.sent ∧
        t.eng d p = { x with seqDreq := (x.seqDreq + 1) % 65536, t3 := some ts, dreqAt := some v.now } ∧
        { t with ports := s.ports, sent := s.sent } = v) ∧
    ((may = false ∨ e.p2p = false) → exec (.ptpPdelayReqSend d p) s = .next s) ∧
    (may = true → e.p2p = true →
      let v := waits x.pdelAt e.logPdel
      let ts := v.stampTx d p
      ∃ t : State, exec (.ptpPdelayReqSend d p) s = .next t ∧ t.sent = msg 2 x.seqPdel (wholeNs ts) 0 :: s.sent ∧
        t.eng d p = { x with seqPdel := (x.seqPdel + 1) % 65536, p1 := some ts, pWait := none, pdelAt := some v.now } ∧
        { t with ports := s.ports, sent := s.sent } = v) ∧
    (∀ bs, ((s.portLive d p = false ∨ e.en = false ∨ s.pstate d p ≠ psUp ∨ (parse bs).ptpAt = none) →
        exec (.ptpMessageReceive d p bs) s = .next s) ∧
      (∀ a, s.portLive d p = true → e.en = true → s.pstate d p = psUp → (parse bs).ptpAt = some a →
        let mine := ptpDomain bs a = e.domain ∧ (parse bs).transp = e.transp
        (¬mine → exec (.ptpMessageReceive d p bs) s = .next s) ∧
        (mine →
          (ptpType bs a = 0 → e.state = engSlave → ptpTwoStep bs a = false → ∃ (t : State) (t2 : Nat),
            exec (.ptpMessageReceive d p bs) s = .next t ∧ (t.eng d p).parent = some (ptpSource bs a) ∧
            (t.eng d p).sync = some ((ptpTime bs (a + 34) : Int) + ptpCorr bs a, t2) ∧ (t.eng d p).heardAt = s.now ∧
            { t with ports := s.ports, freeCtr := s.freeCtr } = s) ∧
          (ptpType bs a = 1 → may = true → e.state = engMaster → ∃ (t : State) (t4 : Nat),
            exec (.ptpMessageReceive d p bs) s = .next t ∧
            t.sent = msg 9 (ptpSeq bs a) (wholeNs t4) (ptpCorr bs a - subNs t4) :: s.sent ∧
            { t with sent := s.sent, freeCtr := s.freeCtr } = s)))) ∧
    ((s.present d p = false ∨ e.en = false ∨ x.expired = true) → exec (.announceTimeout d p) s = .next s) ∧
    (s.present d p = true → e.en = true → x.expired = false → ∃ v : State,
      exec (.announceTimeout d p) s =
        .next ((v.linkEvent d p (if e.autoPass = true ∧ e.state ≠ 1 then 1 else 0) 4).sourceLost d p (· == 5)) ∧
      (v.eng d p).expired = true ∧ (e.autoPass = true → (v.port d p).ptp.state = 1 ∨ e.state = 1) ∧
      x.announce + announceTicks e ≤ v.now ∧ { v with tails := s.tails, ports := s.ports } = s)

/-! ### Relka -/

/-- Exchanges (R119 to R131, R136, R138, R142, R143). A link that may sends its REQ at the next start of its own, with the
stamp, and a CENSUS with every 1,024th; a REQ with its check and version that comes from another package makes a RSP due at
the first block position, which goes out with its stamps. A message that fails its check is counted and dropped; one from
this package, or a response of another version, takes the link to FALLBACK. The RSP of the request outstanding, in time and
with at most 2 us of turnaround, answers it, gives delay and offset from the four stamps, and brings the sender's epoch,
clockClass and traceability; without it the exchange is missed, three misses take LINKED to DEGRADED, sixteen silent periods
ACQUIRE to FALLBACK and DEGRADED to ACQUIRE. A message whose last block has not come 2,000 ns after its mark block is
counted and dropped. -/
def Obligations.RelkaExchanges : Prop :=
  ∀ (s : State) (d p : Nat), d < 4 → p < 72 →
    let x := s.relka d p
    let may := s.rlkMay d p
    let idle := (s.port d p).sending = none
    RelkaTaken s d p 1 (.relkaReqReceive d p) (State.takeReq d p) ∧
    RelkaTaken s d p 2 (.relkaRspReceive d p) (State.takeRsp d p) ∧
    (may = false → exec (.relkaReqSend d p) s = .next s) ∧
    (may = true → idle → x.req = none → x.silent < 16 →
      let k := s.nextStart d p
      ∃ (t : State) (q : RlkReq), exec (.relkaReqSend d p) s = .next t ∧
        t.relka d p = { x with req := some q, last := some (k.1, (s.tail d).stepGen) } ∧
        q = { exseq := k.1 % 65536, t1 := t.stampTx d p, gen := (s.tail d).stepGen, tick := t.now,
              sound := s.rlkState d p == rlkSounding, hit := x.hits, a := sx (s.pfld d p R.RLK_ASYM_EFF_A) 32,
              meas := x.snd.num } ∧ 5 * k.2 ≤ (t.tail d).fu ∧
        t.sent = (if k.1 % 1024 = 0 then [.relka d p 3 (relkaBlocks 3 (s.censusMsg d p (k.1 % 65536)))] else []) ++
          .relka d p 1 (relkaBlocks 1 (reqMsg (s.rlkHead d p (k.1 % 65536) q.t1 false))) :: s.sent ∧
        { t with tails := s.tails, ports := s.ports, sent := s.sent } = s) ∧
    (∀ r, (s.toFallback d p r).rlkState d p = rlkFallback ∧ ((s.toFallback d p r).relka d p).due = []) ∧
    (∀ msg, let ok := checkOk msg 160 = true ∧ msgVersion msg = 1
      (¬ok → s.takeReq d p msg = s.badMsg d p) ∧
      (ok → msgPkg msg = s.ownPkg → s.takeReq d p msg = s.toFallback d p 2) ∧
      (ok → msgPkg msg ≠ s.ownPkg → may = false → s.takeReq d p msg = s) ∧
      (ok → msgPkg msg ≠ s.ownPkg → may = true →
        (s.takeReq d p msg).relka d p = { x with
          due := x.due ++ [{ exseq := msg % 65536, t2 := x.mkStamp, gen := x.mkGen, at_ := max s.now (s.txEnd d p) }] } ∧
        { s.takeReq d p msg with ports := s.ports } = s)) ∧
    (x.due = [] → exec (.relkaRspSend d p) s = .next s) ∧
    (∀ q rest, x.due = q :: rest →
      let v := s.advanceTo q.at_
      (may = false → idle → exec (.relkaRspSend d p) s = .next v) ∧
      (may = true → idle → ∃ t : State, exec (.relkaRspSend d p) s = .next t ∧
        t.sent = .relka d p 2 (relkaBlocks 2 (rspMsg (v.rlkHead d p q.exseq (v.stampTxAt d p q.at_)
          ((v.tail d).stepGen != q.gen)) q.t2)) :: s.sent ∧
        t.relka d p = { x with due := rest } ∧ { t with ports := s.ports, sent := s.sent } = v)) ∧
    (∀ msg, let ok := checkOk msg 248 = true ∧ msgVersion msg = 1
      let mine := ok ∧ msgPkg msg = s.pfld d p R.RLK_CTRL_PARTNER_PKG ∧ msgPkg msg ≠ s.ownPkg
      (checkOk msg 248 = false → s.takeRsp d p msg = s.badMsg d p) ∧
      (checkOk msg 248 = true → msgVersion msg ≠ 1 → s.takeRsp d p msg = (s.badMsg d p).toFallback d p 3) ∧
      (ok → ¬mine → s.takeRsp d p msg = (if x.req.isSome then s.missed d p true else s).toFallback d p 2) ∧
      (mine → x.req = none → s.takeRsp d p msg = s) ∧
      (∀ q, mine → x.req = some q →
        (q.exseq ≠ msg % 65536 → s.takeRsp d p msg = s) ∧
        (q.exseq = msg % 65536 → q.tick + s.rspWait d p < s.now → s.takeRsp d p msg = s.missed d p false) ∧
        (q.exseq = msg % 65536 → s.now ≤ q.tick + s.rspWait d p →
          (131072000 < sdiff (bits msg 48 64) (bits msg 144 64) →
            s.takeRsp d p msg = (s.rlkNews d p msg).missed d p true) ∧
          (sdiff (bits msg 48 64) (bits msg 144 64) ≤ 131072000 →
            let t := s.takeRsp d p msg
            let t3 := bits msg 48 64 + bits msg 112 16 * 2 ^ 64
            let t2 := fromTx64 t3 (bits msg 144 64)
            let lost := x.mkGen ≠ q.gen ∨ bit msg 38 = true ∨ x.hits ≠ q.hit ∨ s.activeHs = none
            (t.relka d p).req = none ∧ (t.relka d p).epoch = bits msg 128 16 ∧ (t.relka d p).cc = bits msg 24 8 ∧
            (t.relka d p).traced = bit msg 36 ∧ t.pfld d p R.RLK_STAT_MISSED = 0 ∧
            (s.dlyValid d p = true → x.snd.num = none →
              (lost → (t.relka d p).meas = x.meas ∧
                t.pfld d p R.RLK_CNT_DISCARD = satNat (s.pfld d p R.RLK_CNT_DISCARD + 1) R.RLK_CNT_DISCARD.len) ∧
              (¬lost → (t.relka d p).meas = ((d80 x.mkStamp t3 - d80 t2 q.t1 + q.a,
                d80 x.mkStamp q.t1 - d80 t3 t2) :: x.meas).take 1024)))))) ∧
    (x.req = none → exec (.relkaResponseMiss d p) s = .next s) ∧
    (∀ q, x.req = some q → ∃ t : State, exec (.relkaResponseMiss d p) s = .next t ∧ (t.relka d p).req = none ∧
      q.tick + s.rspWait d p ≤ t.now ∧
      t.pfld d p R.RLK_CNT_MISS = satNat (s.pfld d p R.RLK_CNT_MISS + 1) R.RLK_CNT_MISS.len ∧
      t.rlkState d p = (if s.rlkState d p = rlkLinked ∧ 2 ≤ x.misses then rlkDegraded else s.rlkState d p)) ∧
    (x.silent < 16 → exec (.relkaSilentPeriods d p) s = .next s) ∧
    (16 ≤ x.silent → ∃ t : State, exec (.relkaSilentPeriods d p) s = .next t ∧
      t.rlkState d p = (if s.rlkState d p = rlkAcquire then rlkFallback else if s.rlkState d p = rlkDegraded then rlkAcquire
        else s.rlkState d p)) ∧
    (x.part = [] → exec (.relkaMessageTimeout d p) s = .next s) ∧
    (x.part ≠ [] → ∃ t : State, exec (.relkaMessageTimeout d p) s = .next t ∧
      t.relka d p = { x with part := [], lost := true } ∧ x.begunAt + 1250 ≤ t.now ∧
      t.pfld d p R.RLK_CNT_BADMSG = satNat (s.pfld d p R.RLK_CNT_BADMSG + 1) R.RLK_CNT_BADMSG.len ∧
      { t with tails := s.tails, regs := s.regs, ports := s.ports } = s)

/-- Phase, span, census and credits (R129, R130, R295 to R301). Every 16 word periods of a locked port the phase codes come
in: one within 256 of the last moves PHASE_ACC, a larger step is a hit and counts; PHASE_ACC then goes to the headstock; a
mean delay that contradicts the span, after 1,024 valid exchanges, raises a link event. A census that agrees changes nothing;
cells it finds lost in the only credited class count as received, RESYNC counts and kind 0x52 is logged. A CREDIT carries
LIMIT at once after an advance of 16 cells, 1 us after a smaller one, and after 64 us; one received with INIT opens its
class, and with the last class the port is ready; of later ones the last LIMIT holds. -/
def Obligations.CreditsAndCensusesKeepCount : Prop :=
  ∀ (s : State) (d p : Nat), d < 4 → p < 72 → s.portLive d p = true →
    let x := s.relka d p
    let st := s.pstate d p
    let acc := R.RLK_PHASE_PHASE_ACC
    RelkaTaken s d p 3 (.censusReceive d p) (State.takeCensus d p) ∧
    RelkaTaken s d p 4 (.creditReceive d p) (State.takeCredit d p) ∧
    (∀ codes, s.locked d p = false ∨ s.pflag d p R.RLK_CTRL_EN = false → exec (.phaseDelivery d p codes) s = .next s) ∧
    (∀ code, s.locked d p = true → s.pflag d p R.RLK_CTRL_EN = true → ∃ t : State,
      exec (.phaseDelivery d p [code]) s = .next t ∧ (t.relka d p).phase = some code ∧ s.nextPhase d p ≤ t.now ∧
      (t.relka d p).phAt = t.now ∧
      (t.relka d p).phHs = (if s.rlkGives d p = true then sx (t.pfld d p acc) 32 else x.phHs) ∧
      (x.phase = none → t.pfld d p acc = s.pfld d p acc ∧ (t.relka d p).hits = x.hits) ∧
      (∀ old, x.phase = some old →
        let step := sx (toBits ((code : Int) - old) 12) 12
        (step.natAbs ≤ 256 → t.pfld d p acc = toBits (sx (s.pfld d p acc) 32 + step) 32 ∧ (t.relka d p).hits = x.hits) ∧
        (256 < step.natAbs → t.pfld d p acc = s.pfld d p acc ∧ (t.relka d p).hits = x.hits + 1)) ∧
      { t with tails := s.tails, ports := s.ports, regs := s.regs } = s) ∧
    (x.valid < 1024 → exec (.spanCheck d p) s = .next s) ∧
    (1024 ≤ x.valid → ∃ u : State, u.relka d p = { x with valid := x.valid - 1024 } ∧ { u with ports := s.ports } = s ∧
      exec (.spanCheck d p) s = .next (if spanBad (s.pair (portLoc d p) R.RLK_PDELAY_LO_PDELAY R.RLK_PDELAY_HI_PDELAY)
        (s.port d p).span = true then u.linkEvent d p 0 2 else u)) ∧
    (s.faults.armed = [] → ∀ msg, let ok := checkOk msg 368 = true ∧ msgVersion msg = 1
      let agree := bits msg 24 8 = s.pfld d p R.CRD_STAT_GEN ∧ bits msg 32 16 = s.creditMask d p
      (¬ok → s.takeCensus d p msg = s.badMsg d p) ∧
      (ok → msgPkg msg = s.ownPkg → bits msg 24 8 ≠ (s.toFallback d p 2).pfld d p R.CRD_STAT_GEN →
        s.takeCensus d p msg = s.toFallback d p 2) ∧
      (ok → msgPkg msg ≠ s.ownPkg → ¬agree → s.takeCensus d p msg = s) ∧
      (ok → msgPkg msg ≠ s.ownPkg → agree →
        ((∀ c ∈ s.credited d p, d20 (bits msg (48 + 20 * c) 20) (s.credit d p c).recv = 0) → s.takeCensus d p msg = s) ∧
        (∀ c, s.credited d p = [c] →
          let y := s.credit d p c
          let lost := d20 (bits msg (48 + 20 * c) 20) y.recv
          (0 < lost → lost ≤ 1152 → ∃ u : State,
            s.takeCensus d p msg = u.raise (portLoc d p) 0x52 (p + c * 128 + lost.toNat * 2048) ∧
            (u.credit d p c).recv = m20 (y.recv + lost.toNat) ∧ (u.credit d p c).limOut = m20 (y.limOut + lost.toNat) ∧
            u.pfld d p R.CRD_STAT_RESYNC = satNat (s.pfld d p R.CRD_STAT_RESYNC + 1) R.CRD_STAT_RESYNC.len ∧
            { u with ports := s.ports, regs := s.regs } = s) ∧
          (lost < 0 ∨ 1152 < lost → s.takeCensus d p msg = s.raise (portLoc d p) 0x53 3)))) ∧
    (∀ c, (st ≠ psUp ∨ s.pfld d p R.PORT_STAT_LOOP ≠ 0 ∨ c ∉ s.credited d p → exec (.creditSend d p c) s = .next s) ∧
      (st = psUp → s.pfld d p R.PORT_STAT_LOOP = 0 → c ∈ s.credited d p → s.pflag d p R.RLK_CTRL_EN = true →
        (s.port d p).sending = none → ∃ t : State, exec (.creditSend d p c) s = .next t ∧
          let y := (s.creditSync d p c).credit d p c
          let adv := d20 y.limOut y.lastTx
          t.sent = .relka d p 4 (relkaBlocks 4 (creditMsg c false (s.pfld d p R.CRD_STAT_GEN) (t.credit d p c).limOut)) ::
            s.sent ∧
          0 ≤ d20 y.limOut (s.credit d p c).limOut ∧ (t.credit d p c).lastTx = (t.credit d p c).limOut ∧
          (t.credit d p c).txAt = t.now ∧ (16 ≤ adv → t.now = s.now) ∧
          (adv < 16 → y.txAt + 40000 ≤ t.now ∨ (0 < adv ∧ y.advAt + 625 ≤ t.now)) ∧
          { t with tails := s.tails, ports := s.ports, sent := s.sent } = s)) ∧
    (∀ msg, let c := msg % 16
      let y := s.credit d p c
      let ok := checkOk msg 36 = true ∧ bits msg 5 3 = 1
      (¬ok → s.takeCredit d p msg = s.badMsg d p) ∧
      (ok → c ∉ s.credited d p → s.takeCredit d p msg = s) ∧
      (ok → c ∈ s.credited d p → bit msg 4 = true →
        let t := s.takeCredit d p msg
        (t.credit d p c).limIn = bits msg 16 20 ∧ (t.credit d p c).init = true ∧
        (s.credited d p = [c] → t.pflag d p R.CRD_STAT_READY = true ∧ (t.port d p).holdEnd = none)) ∧
      (ok → c ∈ s.credited d p → bit msg 4 = false →
        (y.init = true → (s.port d p).txGen = bits msg 8 8 →
          (s.takeCredit d p msg).credit d p c = { y with limIn := bits msg 16 20 } ∧
          { s.takeCredit d p msg with ports := s.ports } = s) ∧
        (y.init = false ∨ (s.port d p).txGen ≠ bits msg 8 8 → s.takeCredit d p msg = s)))

/-- Fence marks (R142, R144, R145). A MARK at a port that can answer it is kept, behind those not yet answered, with the
number of frames ahead of it, else counted as bad; the oldest one's MARK_ACK leaves once none is ahead. A MARK_ACK takes its
port from what the fence of that MARKER_ID waits for, and with the last of them the fence completes. Either from this
package's own number takes the link to FALLBACK. -/
def Obligations.MarksPassTheFrames : Prop :=
  ∀ (s : State) (d p : Nat), d < 4 → p < 72 →
    let x := s.relka d p
    let may := s.rlkRuns d p = true ∧ s.pfld d p R.PORT_STAT_LOOP = 0
    RelkaTaken s d p 5 (.markReceive d p) (State.takeMark d p) ∧
    RelkaTaken s d p 6 (.markAckReceive d p) (State.takeMarkAck d p) ∧
    (∀ msg, (s.pflag d p R.RLK_CTRL_MARK_CAP = false → s.takeMark d p msg = s.badMsg d p) ∧
      (s.pflag d p R.RLK_CTRL_MARK_CAP = true → ∃ u : State,
        s.takeMark d p msg = (if msgPkg msg = s.ownPkg then u.toFallback d p 2 else u) ∧
        u.relka d p = { x with marks := x.marks ++ [(msg % 65536, (s.port d p).landing.length)] } ∧
        { u with ports := s.ports } = s)) ∧
    (x.marks = [] ∨ (∃ id k rest, x.marks = (id, k + 1) :: rest) ∨ ¬may → exec (.markAckSend d p) s = .next s) ∧
    (∀ id rest, x.marks = (id, 0) :: rest → may → (s.port d p).sending = none → ∃ t : State,
      exec (.markAckSend d p) s = .next t ∧ t.relka d p = { x with marks := rest } ∧
      t.sent = .relka d p 6 (relkaBlocks 6 (markMsg id s.ownPkg (s.arb R.RLK_SYS_SYS_EPOCH))) :: s.sent ∧
      { t with ports := s.ports, sent := s.sent } = s) ∧
    (∀ msg, let v := s.ownNumber d p msg
      let w := (msgPkg msg, portKey d p)
      let hit := v.plyn.fences.find? (fun x => x.2.marked && x.2.marker == msg % 65536 && x.2.wait.contains w)
      (msgPkg msg = s.ownPkg → v = s.toFallback d p 2) ∧ (msgPkg msg ≠ s.ownPkg → v = s) ∧
      (hit = none → s.takeMarkAck d p msg = v) ∧
      (∀ n y f, hit = some (n, y) → v.flight n = some f → ∃ (u : State) (z : Fence), Tab.get? u.plyn.fences n = some z ∧
        w ∉ z.wait ∧ (∀ q, q ≠ w → (q ∈ z.wait ↔ q ∈ y.wait)) ∧ z.acked = y.acked ++ [w] ∧ { u with plyn := v.plyn } = v ∧
        (u.unacked f z ≠ [] → s.takeMarkAck d p msg = u) ∧
        (u.unacked f z = [] → s.takeMarkAck d p msg = u.fenceOk n z)))

/-! ### Rules stated whole -/

/-- R13. TX64 of a full time is its nanoseconds since TAI second 0 modulo 2^48 over its sub-nanoseconds; the way back is
relative to a reference within 2^47 ns of the value; the part takes its present timescale as that reference, as in
TIME.ARM's first instant and in the end of WAIT.TIME. -/
def Obligations.Tx64IsRelativeToThePresent : Prop :=
  (∀ secs ns sub, ns < 1000000000 → sub < 65536 →
    tx64 (secs * uSec + ns * 65536 + sub) = (secs * 1000000000 + ns) % 2 ^ 48 * 2 ^ 16 + sub) ∧
  (∀ ref u : Nat, ((u : Int) - ref).natAbs < 2 ^ 63 → fromTx64 ref (tx64 u) = u) ∧
  (∀ (n : Nat) (f : Flight) (s : State),
    let k := locUnit f.cmd.loc - 20
    let t0 := fromTx64 (s.nowU 6) f.cmd.opb
    Starts (fun c => c.opcode == 0x64 && c.opa % 4 != 0) mTimeArm n f s → f.cmd.loc = hubLoc (20 + k) →
      s.fld f.cmd.loc R.TRG_STAT_STATE = 0 → s.shapeBad k (f.cmd.opa % 4) = false → (s.nowU 6 : Int) + 65536000 ≤ t0 →
      sdiff f.cmd.opb s.txNow ≠ -horizon →
      ∃ t : State, exec (.timeArm n) s = .next (t.complete n { status := stOk }) ∧ (t.trig k).t0 = t0) ∧
  (∀ (n due : Nat) (f : Flight) (s : State), s.flight n = some f → f.phase = .exec due → f.cmd.opcode = 0x08 →
    0 < sdiff f.cmd.opb s.txNow → ∃ k, exec (.waitTimeDue n) s = .next ((s.advance k).complete n { status := stOk }) ∧
      5 * fromTx64 (s.nowU 6) f.cmd.opb ≤ ((s.advance k).tail 5).fu)

/-- R54. The record that a completion writes, where it has one to write and there is room for it in host memory, and the
record of an event, hold the fields of the layout at their bits. -/
def Obligations.RecordsHaveTheirLayout : Prop :=
  (∀ (n : Nat) (f : Flight) (s : State) (c : Compl),
    s.flight n = some f → f.cmd.timed = false → f.late = none → f.mute = false → s.memWf →
    (c.status ≠ stOk ∨ f.cmd.always = true) → s.ringOpen (s.cqOf f.ring) = true → f.started = none →
    f.ring < 32 → f.cmd.cookie < 2 ^ 16 → f.tag0 < 2 ^ 9 → c.time = none →
    let q := s.ring (s.cqOf f.ring)
    let a := q.base + 16 * (q.tail % 2 ^ q.sizeLog2)
    s.route a 16 = .host →
    ∃ w, (∀ i, i < 16 → memByte (s.complete n c).env.mem (a + i) = (leBytes 16 w).getD i 0) ∧
      bits w 112 16 = f.cmd.cookie ∧ bits w 104 8 = c.status % 256 ∧ bits w 96 8 = c.detail % 256 ∧ bits w 89 7 = f.ring ∧
      bits w 80 9 = f.tag0 ∧ bits w 64 16 = c.result % 65536 ∧
      bits w 0 64 = tx64 (s.tail (if f.cmd.timeDie < 4 then f.cmd.timeDie else 5)).u) ∧
  (∀ (s : State) (kind result time ring : Nat) (ovr : Option Nat),
    (∀ f ∈ s.plyn.flights, ¬(f.cmd.opcode = 9 ∧ f.phase.isOpen = true ∧ f.cmd.opb ≠ 0 ∧ f.cmd.opa % 16 = kind)) →
    s.eventRing kind ovr = some ring → ring < 128 → s.ringOpen ring = true → time < 2 ^ 64 →
    ∃ w, s.event kind result time ovr = (s.pushEntry ring 16 w, true) ∧
      bits w 112 16 = 0 ∧ bits w 104 8 = 0x80 ∧ bits w 96 8 = kind % 256 ∧ bits w 89 7 = ring ∧
      bits w 64 16 = result % 65536 ∧ bits w 0 64 = time)

/-- R98. STEP_GEN counts modulo 16 on the tick at which a step or a TIME.SET is applied, at each tailstock that stands on
the apply tick of the step it holds, and at no other; a transmit stamp that enters its
queue carries it, and so does a received frame, whose packet descriptor shows it at bits 48:45; neither the passing of time
under a slew, nor TIME.SLEW, nor the end of a slew changes it. -/
def Obligations.StepGenCountsAndIsCarried : Prop :=
  (∀ (s : State) (k : Nat), s.stepDue = some k → ∃ t : State, exec .stepApply s = .next t ∧
    ∀ i, i < 6 → (t.tail i).stepGen = (if (s.tail i).step.any (fun y => decide (y.tick ≤ (s.tail i).n + k)) = true
      then ((s.tail i).stepGen + 1) % 16 else (s.tail i).stepGen)) ∧
  (∀ (s : State) (d p id : Nat) (bs : List Byte) (h : Hdr),
    ∀ e ∈ ((s.tsRequest d p id bs h).port d p).tsq, e ∈ (s.port d p).tsq ∨ e.stepGen = (s.tail d).stepGen) ∧
  (∀ (s : State) (d p : Nat) (bs : List Byte) (inject : Bool), (s.rxFrame d p bs inject).1.stepGen = (s.tail d).stepGen) ∧
  (∀ (f : Frame) (len cls reason session sample : Nat) (valid drop : Bool),
    len < 2 ^ 16 → f.bytes.length < 2 ^ 14 → f.port < 128 → f.die < 4 → cls < 16 → f.stepGen < 16 →
    bits (pktEntry f len cls reason session sample valid drop) 45 4 = f.stepGen) ∧
  (∀ (s : State) (k i : Nat), i < 6 → ((s.advance k).tail i).stepGen = (s.tail i).stepGen) ∧
  (∀ (s : State) (n i : Nat), i < 6 → (∃ t : State, exec (.timeSlew n) s = .next t ∧ (t.tail i).stepGen = (s.tail i).stepGen) ∧
    ∃ t : State, exec .slewDone s = .next t ∧ (t.tail i).stepGen = (s.tail i).stepGen)

/-- R162. Every REF instruction completes STATE_CONFLICT in servo states TAKEOVER and HOLD, the servo's state code in DETAIL
[2:0] and the named slot's state in [6:4]; REF.RELEASE, and REF.FORCE of Steady Rest, name no slot, and show 0 there. -/
def Obligations.RefInstructionsConflictInTakeoverAndHold : Prop :=
  ∀ (n : Nat) (f : Flight) (s : State), (s.servoState = 6 ∨ s.servoState = 7) →
    let i := f.cmd.opa % 8
    let slot : Compl := { status := stConflict, detail := (s.servoState + s.refState i * 16) % 256 }
    let bare : Compl := { status := stConflict, detail := s.servoState }
    (Starts (fun c => c.opcode == 0x80 && bit c.opa 3) mRefSet n f s → exec (.refSetNominate n) s = .next (s.complete n slot)) ∧
    (Starts (fun c => c.opcode == 0x80 && !bit c.opa 3) mRefSet n f s → exec (.refSetWithdraw n) s = .next (s.complete n slot)) ∧
    (Starts (isOp 0x81) mRefSelect n f s → exec (.refSelect n) s = .next (s.complete n slot)) ∧
    (Starts (isOp 0x82) mRefForce n f s → exec (.refForce n) s =
      .next (s.complete n (if f.cmd.opa % 16 = 15 then bare else slot))) ∧
    (Starts (isOp 0x83) mRefRelease n f s → exec (.refRelease n) s = .next (s.complete n bare)) ∧
    (Starts (isOp 0x84) mRefAcceptStep n f s → exec (.refAcceptStep n) s = .next (s.complete n slot))
end

