-- ==== Sys2Proof/Laws/State.lean ====
section
/-! SUPPORT. What each update of the state leaves: one lemma per field per update. -/

namespace Sys2Proof.Machine

variable (s : State)

/-! ### setReg -/

@[simp] theorem State.setReg_pending (loc off : Nat) (w : Word) : (s.setReg loc off w).pending = s.pending := rfl
@[simp] theorem State.setReg_freeCtr (loc off : Nat) (w : Word) : (s.setReg loc off w).freeCtr = s.freeCtr := rfl
@[simp] theorem State.setReg_part (loc off : Nat) (w : Word) : (s.setReg loc off w).part = s.part := rfl
@[simp] theorem State.setReg_env (loc off : Nat) (w : Word) : (s.setReg loc off w).env = s.env := rfl
@[simp] theorem State.setReg_regs (loc off : Nat) (w : Word) : (s.setReg loc off w).regs = Tab.set s.regs (regKey loc off) w := rfl
@[simp] theorem State.setReg_rings (loc off : Nat) (w : Word) : (s.setReg loc off w).rings = s.rings := rfl
@[simp] theorem State.setReg_plyn (loc off : Nat) (w : Word) : (s.setReg loc off w).plyn = s.plyn := rfl
@[simp] theorem State.setReg_tails (loc off : Nat) (w : Word) : (s.setReg loc off w).tails = s.tails := rfl
@[simp] theorem State.setReg_hst (loc off : Nat) (w : Word) : (s.setReg loc off w).hst = s.hst := rfl
@[simp] theorem State.setReg_servo (loc off : Nat) (w : Word) : (s.setReg loc off w).servo = s.servo := rfl
@[simp] theorem State.setReg_refs (loc off : Nat) (w : Word) : (s.setReg loc off w).refs = s.refs := rfl
@[simp] theorem State.setReg_ports (loc off : Nat) (w : Word) : (s.setReg loc off w).ports = s.ports := rfl
@[simp] theorem State.setReg_dies (loc off : Nat) (w : Word) : (s.setReg loc off w).dies = s.dies := rfl
@[simp] theorem State.setReg_ledger (loc off : Nat) (w : Word) : (s.setReg loc off w).ledger = s.ledger := rfl
@[simp] theorem State.setReg_faults (loc off : Nat) (w : Word) : (s.setReg loc off w).faults = s.faults := rfl
@[simp] theorem State.setReg_synths (loc off : Nat) (w : Word) : (s.setReg loc off w).synths = s.synths := rfl
@[simp] theorem State.setReg_outs (loc off : Nat) (w : Word) : (s.setReg loc off w).outs = s.outs := rfl
@[simp] theorem State.setReg_trigs (loc off : Nat) (w : Word) : (s.setReg loc off w).trigs = s.trigs := rfl
@[simp] theorem State.setReg_caps (loc off : Nat) (w : Word) : (s.setReg loc off w).caps = s.caps := rfl
@[simp] theorem State.setReg_clk (loc off : Nat) (w : Word) : (s.setReg loc off w).clk = s.clk := rfl
@[simp] theorem State.setReg_boot (loc off : Nat) (w : Word) : (s.setReg loc off w).boot = s.boot := rfl
@[simp] theorem State.setReg_cals (loc off : Nat) (w : Word) : (s.setReg loc off w).cals = s.cals := rfl
@[simp] theorem State.setReg_msixTab (loc off : Nat) (w : Word) : (s.setReg loc off w).msixTab = s.msixTab := rfl
@[simp] theorem State.setReg_msixPend (loc off : Nat) (w : Word) : (s.setReg loc off w).msixPend = s.msixPend := rfl
@[simp] theorem State.setReg_tapIr (loc off : Nat) (w : Word) : (s.setReg loc off w).tapIr = s.tapIr := rfl
@[simp] theorem State.setReg_sent (loc off : Nat) (w : Word) : (s.setReg loc off w).sent = s.sent := rfl

/-! ### setRing -/

@[simp] theorem State.setRing_pending (n : Nat) (x : Ring) : (s.setRing n x).pending = s.pending := rfl
@[simp] theorem State.setRing_freeCtr (n : Nat) (x : Ring) : (s.setRing n x).freeCtr = s.freeCtr := rfl
@[simp] theorem State.setRing_part (n : Nat) (x : Ring) : (s.setRing n x).part = s.part := rfl
@[simp] theorem State.setRing_env (n : Nat) (x : Ring) : (s.setRing n x).env = s.env := rfl
@[simp] theorem State.setRing_regs (n : Nat) (x : Ring) : (s.setRing n x).regs = s.regs := rfl
@[simp] theorem State.setRing_rings (n : Nat) (x : Ring) : (s.setRing n x).rings = Tab.set s.rings n x := rfl
@[simp] theorem State.setRing_plyn (n : Nat) (x : Ring) : (s.setRing n x).plyn = s.plyn := rfl
@[simp] theorem State.setRing_tails (n : Nat) (x : Ring) : (s.setRing n x).tails = s.tails := rfl
@[simp] theorem State.setRing_hst (n : Nat) (x : Ring) : (s.setRing n x).hst = s.hst := rfl
@[simp] theorem State.setRing_servo (n : Nat) (x : Ring) : (s.setRing n x).servo = s.servo := rfl
@[simp] theorem State.setRing_refs (n : Nat) (x : Ring) : (s.setRing n x).refs = s.refs := rfl
@[simp] theorem State.setRing_ports (n : Nat) (x : Ring) : (s.setRing n x).ports = s.ports := rfl
@[simp] theorem State.setRing_dies (n : Nat) (x : Ring) : (s.setRing n x).dies = s.dies := rfl
@[simp] theorem State.setRing_ledger (n : Nat) (x : Ring) : (s.setRing n x).ledger = s.ledger := rfl
@[simp] theorem State.setRing_faults (n : Nat) (x : Ring) : (s.setRing n x).faults = s.faults := rfl
@[simp] theorem State.setRing_synths (n : Nat) (x : Ring) : (s.setRing n x).synths = s.synths := rfl
@[simp] theorem State.setRing_outs (n : Nat) (x : Ring) : (s.setRing n x).outs = s.outs := rfl
@[simp] theorem State.setRing_trigs (n : Nat) (x : Ring) : (s.setRing n x).trigs = s.trigs := rfl
@[simp] theorem State.setRing_caps (n : Nat) (x : Ring) : (s.setRing n x).caps = s.caps := rfl
@[simp] theorem State.setRing_clk (n : Nat) (x : Ring) : (s.setRing n x).clk = s.clk := rfl
@[simp] theorem State.setRing_boot (n : Nat) (x : Ring) : (s.setRing n x).boot = s.boot := rfl
@[simp] theorem State.setRing_cals (n : Nat) (x : Ring) : (s.setRing n x).cals = s.cals := rfl
@[simp] theorem State.setRing_msixTab (n : Nat) (x : Ring) : (s.setRing n x).msixTab = s.msixTab := rfl
@[simp] theorem State.setRing_msixPend (n : Nat) (x : Ring) : (s.setRing n x).msixPend = s.msixPend := rfl
@[simp] theorem State.setRing_tapIr (n : Nat) (x : Ring) : (s.setRing n x).tapIr = s.tapIr := rfl
@[simp] theorem State.setRing_sent (n : Nat) (x : Ring) : (s.setRing n x).sent = s.sent := rfl

/-! ### setTail -/

@[simp] theorem State.setTail_pending (n : Nat) (x : Tailstock) : (s.setTail n x).pending = s.pending := rfl
@[simp] theorem State.setTail_freeCtr (n : Nat) (x : Tailstock) : (s.setTail n x).freeCtr = s.freeCtr := rfl
@[simp] theorem State.setTail_part (n : Nat) (x : Tailstock) : (s.setTail n x).part = s.part := rfl
@[simp] theorem State.setTail_env (n : Nat) (x : Tailstock) : (s.setTail n x).env = s.env := rfl
@[simp] theorem State.setTail_regs (n : Nat) (x : Tailstock) : (s.setTail n x).regs = s.regs := rfl
@[simp] theorem State.setTail_rings (n : Nat) (x : Tailstock) : (s.setTail n x).rings = s.rings := rfl
@[simp] theorem State.setTail_plyn (n : Nat) (x : Tailstock) : (s.setTail n x).plyn = s.plyn := rfl
@[simp] theorem State.setTail_tails (n : Nat) (x : Tailstock) : (s.setTail n x).tails = Tab.set s.tails n x := rfl
@[simp] theorem State.setTail_hst (n : Nat) (x : Tailstock) : (s.setTail n x).hst = s.hst := rfl
@[simp] theorem State.setTail_servo (n : Nat) (x : Tailstock) : (s.setTail n x).servo = s.servo := rfl
@[simp] theorem State.setTail_refs (n : Nat) (x : Tailstock) : (s.setTail n x).refs = s.refs := rfl
@[simp] theorem State.setTail_ports (n : Nat) (x : Tailstock) : (s.setTail n x).ports = s.ports := rfl
@[simp] theorem State.setTail_dies (n : Nat) (x : Tailstock) : (s.setTail n x).dies = s.dies := rfl
@[simp] theorem State.setTail_ledger (n : Nat) (x : Tailstock) : (s.setTail n x).ledger = s.ledger := rfl
@[simp] theorem State.setTail_faults (n : Nat) (x : Tailstock) : (s.setTail n x).faults = s.faults := rfl
@[simp] theorem State.setTail_synths (n : Nat) (x : Tailstock) : (s.setTail n x).synths = s.synths := rfl
@[simp] theorem State.setTail_outs (n : Nat) (x : Tailstock) : (s.setTail n x).outs = s.outs := rfl
@[simp] theorem State.setTail_trigs (n : Nat) (x : Tailstock) : (s.setTail n x).trigs = s.trigs := rfl
@[simp] theorem State.setTail_caps (n : Nat) (x : Tailstock) : (s.setTail n x).caps = s.caps := rfl
@[simp] theorem State.setTail_clk (n : Nat) (x : Tailstock) : (s.setTail n x).clk = s.clk := rfl
@[simp] theorem State.setTail_boot (n : Nat) (x : Tailstock) : (s.setTail n x).boot = s.boot := rfl
@[simp] theorem State.setTail_cals (n : Nat) (x : Tailstock) : (s.setTail n x).cals = s.cals := rfl
@[simp] theorem State.setTail_msixTab (n : Nat) (x : Tailstock) : (s.setTail n x).msixTab = s.msixTab := rfl
@[simp] theorem State.setTail_msixPend (n : Nat) (x : Tailstock) : (s.setTail n x).msixPend = s.msixPend := rfl
@[simp] theorem State.setTail_tapIr (n : Nat) (x : Tailstock) : (s.setTail n x).tapIr = s.tapIr := rfl
@[simp] theorem State.setTail_sent (n : Nat) (x : Tailstock) : (s.setTail n x).sent = s.sent := rfl

/-! ### setPort -/

@[simp] theorem State.setPort_pending (d p : Nat) (x : Port) : (s.setPort d p x).pending = s.pending := rfl
@[simp] theorem State.setPort_freeCtr (d p : Nat) (x : Port) : (s.setPort d p x).freeCtr = s.freeCtr := rfl
@[simp] theorem State.setPort_part (d p : Nat) (x : Port) : (s.setPort d p x).part = s.part := rfl
@[simp] theorem State.setPort_env (d p : Nat) (x : Port) : (s.setPort d p x).env = s.env := rfl
@[simp] theorem State.setPort_regs (d p : Nat) (x : Port) : (s.setPort d p x).regs = s.regs := rfl
@[simp] theorem State.setPort_rings (d p : Nat) (x : Port) : (s.setPort d p x).rings = s.rings := rfl
@[simp] theorem State.setPort_plyn (d p : Nat) (x : Port) : (s.setPort d p x).plyn = s.plyn := rfl
@[simp] theorem State.setPort_tails (d p : Nat) (x : Port) : (s.setPort d p x).tails = s.tails := rfl
@[simp] theorem State.setPort_hst (d p : Nat) (x : Port) : (s.setPort d p x).hst = s.hst := rfl
@[simp] theorem State.setPort_servo (d p : Nat) (x : Port) : (s.setPort d p x).servo = s.servo := rfl
@[simp] theorem State.setPort_refs (d p : Nat) (x : Port) : (s.setPort d p x).refs = s.refs := rfl
@[simp] theorem State.setPort_ports (d p : Nat) (x : Port) : (s.setPort d p x).ports = Tab.set s.ports (portKey d p) x := rfl
@[simp] theorem State.setPort_dies (d p : Nat) (x : Port) : (s.setPort d p x).dies = s.dies := rfl
@[simp] theorem State.setPort_ledger (d p : Nat) (x : Port) : (s.setPort d p x).ledger = s.ledger := rfl
@[simp] theorem State.setPort_faults (d p : Nat) (x : Port) : (s.setPort d p x).faults = s.faults := rfl
@[simp] theorem State.setPort_synths (d p : Nat) (x : Port) : (s.setPort d p x).synths = s.synths := rfl
@[simp] theorem State.setPort_outs (d p : Nat) (x : Port) : (s.setPort d p x).outs = s.outs := rfl
@[simp] theorem State.setPort_trigs (d p : Nat) (x : Port) : (s.setPort d p x).trigs = s.trigs := rfl
@[simp] theorem State.setPort_caps (d p : Nat) (x : Port) : (s.setPort d p x).caps = s.caps := rfl
@[simp] theorem State.setPort_clk (d p : Nat) (x : Port) : (s.setPort d p x).clk = s.clk := rfl
@[simp] theorem State.setPort_boot (d p : Nat) (x : Port) : (s.setPort d p x).boot = s.boot := rfl
@[simp] theorem State.setPort_cals (d p : Nat) (x : Port) : (s.setPort d p x).cals = s.cals := rfl
@[simp] theorem State.setPort_msixTab (d p : Nat) (x : Port) : (s.setPort d p x).msixTab = s.msixTab := rfl
@[simp] theorem State.setPort_msixPend (d p : Nat) (x : Port) : (s.setPort d p x).msixPend = s.msixPend := rfl
@[simp] theorem State.setPort_tapIr (d p : Nat) (x : Port) : (s.setPort d p x).tapIr = s.tapIr := rfl
@[simp] theorem State.setPort_sent (d p : Nat) (x : Port) : (s.setPort d p x).sent = s.sent := rfl

/-! ### setDie -/

@[simp] theorem State.setDie_pending (n : Nat) (x : Die) : (s.setDie n x).pending = s.pending := rfl
@[simp] theorem State.setDie_freeCtr (n : Nat) (x : Die) : (s.setDie n x).freeCtr = s.freeCtr := rfl
@[simp] theorem State.setDie_part (n : Nat) (x : Die) : (s.setDie n x).part = s.part := rfl
@[simp] theorem State.setDie_env (n : Nat) (x : Die) : (s.setDie n x).env = s.env := rfl
@[simp] theorem State.setDie_regs (n : Nat) (x : Die) : (s.setDie n x).regs = s.regs := rfl
@[simp] theorem State.setDie_rings (n : Nat) (x : Die) : (s.setDie n x).rings = s.rings := rfl
@[simp] theorem State.setDie_plyn (n : Nat) (x : Die) : (s.setDie n x).plyn = s.plyn := rfl
@[simp] theorem State.setDie_tails (n : Nat) (x : Die) : (s.setDie n x).tails = s.tails := rfl
@[simp] theorem State.setDie_hst (n : Nat) (x : Die) : (s.setDie n x).hst = s.hst := rfl
@[simp] theorem State.setDie_servo (n : Nat) (x : Die) : (s.setDie n x).servo = s.servo := rfl
@[simp] theorem State.setDie_refs (n : Nat) (x : Die) : (s.setDie n x).refs = s.refs := rfl
@[simp] theorem State.setDie_ports (n : Nat) (x : Die) : (s.setDie n x).ports = s.ports := rfl
@[simp] theorem State.setDie_dies (n : Nat) (x : Die) : (s.setDie n x).dies = Tab.set s.dies n x := rfl
@[simp] theorem State.setDie_ledger (n : Nat) (x : Die) : (s.setDie n x).ledger = s.ledger := rfl
@[simp] theorem State.setDie_faults (n : Nat) (x : Die) : (s.setDie n x).faults = s.faults := rfl
@[simp] theorem State.setDie_synths (n : Nat) (x : Die) : (s.setDie n x).synths = s.synths := rfl
@[simp] theorem State.setDie_outs (n : Nat) (x : Die) : (s.setDie n x).outs = s.outs := rfl
@[simp] theorem State.setDie_trigs (n : Nat) (x : Die) : (s.setDie n x).trigs = s.trigs := rfl
@[simp] theorem State.setDie_caps (n : Nat) (x : Die) : (s.setDie n x).caps = s.caps := rfl
@[simp] theorem State.setDie_clk (n : Nat) (x : Die) : (s.setDie n x).clk = s.clk := rfl
@[simp] theorem State.setDie_boot (n : Nat) (x : Die) : (s.setDie n x).boot = s.boot := rfl
@[simp] theorem State.setDie_cals (n : Nat) (x : Die) : (s.setDie n x).cals = s.cals := rfl
@[simp] theorem State.setDie_msixTab (n : Nat) (x : Die) : (s.setDie n x).msixTab = s.msixTab := rfl
@[simp] theorem State.setDie_msixPend (n : Nat) (x : Die) : (s.setDie n x).msixPend = s.msixPend := rfl
@[simp] theorem State.setDie_tapIr (n : Nat) (x : Die) : (s.setDie n x).tapIr = s.tapIr := rfl
@[simp] theorem State.setDie_sent (n : Nat) (x : Die) : (s.setDie n x).sent = s.sent := rfl

/-! ### setRef -/

@[simp] theorem State.setRef_pending (n : Nat) (x : RefSlot) : (s.setRef n x).pending = s.pending := rfl
@[simp] theorem State.setRef_freeCtr (n : Nat) (x : RefSlot) : (s.setRef n x).freeCtr = s.freeCtr := rfl
@[simp] theorem State.setRef_part (n : Nat) (x : RefSlot) : (s.setRef n x).part = s.part := rfl
@[simp] theorem State.setRef_env (n : Nat) (x : RefSlot) : (s.setRef n x).env = s.env := rfl
@[simp] theorem State.setRef_regs (n : Nat) (x : RefSlot) : (s.setRef n x).regs = s.regs := rfl
@[simp] theorem State.setRef_rings (n : Nat) (x : RefSlot) : (s.setRef n x).rings = s.rings := rfl
@[simp] theorem State.setRef_plyn (n : Nat) (x : RefSlot) : (s.setRef n x).plyn = s.plyn := rfl
@[simp] theorem State.setRef_tails (n : Nat) (x : RefSlot) : (s.setRef n x).tails = s.tails := rfl
@[simp] theorem State.setRef_hst (n : Nat) (x : RefSlot) : (s.setRef n x).hst = s.hst := rfl
@[simp] theorem State.setRef_servo (n : Nat) (x : RefSlot) : (s.setRef n x).servo = s.servo := rfl
@[simp] theorem State.setRef_refs (n : Nat) (x : RefSlot) : (s.setRef n x).refs = Tab.set s.refs n x := rfl
@[simp] theorem State.setRef_ports (n : Nat) (x : RefSlot) : (s.setRef n x).ports = s.ports := rfl
@[simp] theorem State.setRef_dies (n : Nat) (x : RefSlot) : (s.setRef n x).dies = s.dies := rfl
@[simp] theorem State.setRef_ledger (n : Nat) (x : RefSlot) : (s.setRef n x).ledger = s.ledger := rfl
@[simp] theorem State.setRef_faults (n : Nat) (x : RefSlot) : (s.setRef n x).faults = s.faults := rfl
@[simp] theorem State.setRef_synths (n : Nat) (x : RefSlot) : (s.setRef n x).synths = s.synths := rfl
@[simp] theorem State.setRef_outs (n : Nat) (x : RefSlot) : (s.setRef n x).outs = s.outs := rfl
@[simp] theorem State.setRef_trigs (n : Nat) (x : RefSlot) : (s.setRef n x).trigs = s.trigs := rfl
@[simp] theorem State.setRef_caps (n : Nat) (x : RefSlot) : (s.setRef n x).caps = s.caps := rfl
@[simp] theorem State.setRef_clk (n : Nat) (x : RefSlot) : (s.setRef n x).clk = s.clk := rfl
@[simp] theorem State.setRef_boot (n : Nat) (x : RefSlot) : (s.setRef n x).boot = s.boot := rfl
@[simp] theorem State.setRef_cals (n : Nat) (x : RefSlot) : (s.setRef n x).cals = s.cals := rfl
@[simp] theorem State.setRef_msixTab (n : Nat) (x : RefSlot) : (s.setRef n x).msixTab = s.msixTab := rfl
@[simp] theorem State.setRef_msixPend (n : Nat) (x : RefSlot) : (s.setRef n x).msixPend = s.msixPend := rfl
@[simp] theorem State.setRef_tapIr (n : Nat) (x : RefSlot) : (s.setRef n x).tapIr = s.tapIr := rfl
@[simp] theorem State.setRef_sent (n : Nat) (x : RefSlot) : (s.setRef n x).sent = s.sent := rfl

/-! ### setSynth -/

@[simp] theorem State.setSynth_pending (n : Nat) (x : Synth) : (s.setSynth n x).pending = s.pending := rfl
@[simp] theorem State.setSynth_freeCtr (n : Nat) (x : Synth) : (s.setSynth n x).freeCtr = s.freeCtr := rfl
@[simp] theorem State.setSynth_part (n : Nat) (x : Synth) : (s.setSynth n x).part = s.part := rfl
@[simp] theorem State.setSynth_env (n : Nat) (x : Synth) : (s.setSynth n x).env = s.env := rfl
@[simp] theorem State.setSynth_regs (n : Nat) (x : Synth) : (s.setSynth n x).regs = s.regs := rfl
@[simp] theorem State.setSynth_rings (n : Nat) (x : Synth) : (s.setSynth n x).rings = s.rings := rfl
@[simp] theorem State.setSynth_plyn (n : Nat) (x : Synth) : (s.setSynth n x).plyn = s.plyn := rfl
@[simp] theorem State.setSynth_tails (n : Nat) (x : Synth) : (s.setSynth n x).tails = s.tails := rfl
@[simp] theorem State.setSynth_hst (n : Nat) (x : Synth) : (s.setSynth n x).hst = s.hst := rfl
@[simp] theorem State.setSynth_servo (n : Nat) (x : Synth) : (s.setSynth n x).servo = s.servo := rfl
@[simp] theorem State.setSynth_refs (n : Nat) (x : Synth) : (s.setSynth n x).refs = s.refs := rfl
@[simp] theorem State.setSynth_ports (n : Nat) (x : Synth) : (s.setSynth n x).ports = s.ports := rfl
@[simp] theorem State.setSynth_dies (n : Nat) (x : Synth) : (s.setSynth n x).dies = s.dies := rfl
@[simp] theorem State.setSynth_ledger (n : Nat) (x : Synth) : (s.setSynth n x).ledger = s.ledger := rfl
@[simp] theorem State.setSynth_faults (n : Nat) (x : Synth) : (s.setSynth n x).faults = s.faults := rfl
@[simp] theorem State.setSynth_synths (n : Nat) (x : Synth) : (s.setSynth n x).synths = Tab.set s.synths n x := rfl
@[simp] theorem State.setSynth_outs (n : Nat) (x : Synth) : (s.setSynth n x).outs = s.outs := rfl
@[simp] theorem State.setSynth_trigs (n : Nat) (x : Synth) : (s.setSynth n x).trigs = s.trigs := rfl
@[simp] theorem State.setSynth_caps (n : Nat) (x : Synth) : (s.setSynth n x).caps = s.caps := rfl
@[simp] theorem State.setSynth_clk (n : Nat) (x : Synth) : (s.setSynth n x).clk = s.clk := rfl
@[simp] theorem State.setSynth_boot (n : Nat) (x : Synth) : (s.setSynth n x).boot = s.boot := rfl
@[simp] theorem State.setSynth_cals (n : Nat) (x : Synth) : (s.setSynth n x).cals = s.cals := rfl
@[simp] theorem State.setSynth_msixTab (n : Nat) (x : Synth) : (s.setSynth n x).msixTab = s.msixTab := rfl
@[simp] theorem State.setSynth_msixPend (n : Nat) (x : Synth) : (s.setSynth n x).msixPend = s.msixPend := rfl
@[simp] theorem State.setSynth_tapIr (n : Nat) (x : Synth) : (s.setSynth n x).tapIr = s.tapIr := rfl
@[simp] theorem State.setSynth_sent (n : Nat) (x : Synth) : (s.setSynth n x).sent = s.sent := rfl

/-! ### setOut -/

@[simp] theorem State.setOut_pending (n : Nat) (x : OutLive) : (s.setOut n x).pending = s.pending := rfl
@[simp] theorem State.setOut_freeCtr (n : Nat) (x : OutLive) : (s.setOut n x).freeCtr = s.freeCtr := rfl
@[simp] theorem State.setOut_part (n : Nat) (x : OutLive) : (s.setOut n x).part = s.part := rfl
@[simp] theorem State.setOut_env (n : Nat) (x : OutLive) : (s.setOut n x).env = s.env := rfl
@[simp] theorem State.setOut_regs (n : Nat) (x : OutLive) : (s.setOut n x).regs = s.regs := rfl
@[simp] theorem State.setOut_rings (n : Nat) (x : OutLive) : (s.setOut n x).rings = s.rings := rfl
@[simp] theorem State.setOut_plyn (n : Nat) (x : OutLive) : (s.setOut n x).plyn = s.plyn := rfl
@[simp] theorem State.setOut_tails (n : Nat) (x : OutLive) : (s.setOut n x).tails = s.tails := rfl
@[simp] theorem State.setOut_hst (n : Nat) (x : OutLive) : (s.setOut n x).hst = s.hst := rfl
@[simp] theorem State.setOut_servo (n : Nat) (x : OutLive) : (s.setOut n x).servo = s.servo := rfl
@[simp] theorem State.setOut_refs (n : Nat) (x : OutLive) : (s.setOut n x).refs = s.refs := rfl
@[simp] theorem State.setOut_ports (n : Nat) (x : OutLive) : (s.setOut n x).ports = s.ports := rfl
@[simp] theorem State.setOut_dies (n : Nat) (x : OutLive) : (s.setOut n x).dies = s.dies := rfl
@[simp] theorem State.setOut_ledger (n : Nat) (x : OutLive) : (s.setOut n x).ledger = s.ledger := rfl
@[simp] theorem State.setOut_faults (n : Nat) (x : OutLive) : (s.setOut n x).faults = s.faults := rfl
@[simp] theorem State.setOut_synths (n : Nat) (x : OutLive) : (s.setOut n x).synths = s.synths := rfl
@[simp] theorem State.setOut_outs (n : Nat) (x : OutLive) : (s.setOut n x).outs = Tab.set s.outs n x := rfl
@[simp] theorem State.setOut_trigs (n : Nat) (x : OutLive) : (s.setOut n x).trigs = s.trigs := rfl
@[simp] theorem State.setOut_caps (n : Nat) (x : OutLive) : (s.setOut n x).caps = s.caps := rfl
@[simp] theorem State.setOut_clk (n : Nat) (x : OutLive) : (s.setOut n x).clk = s.clk := rfl
@[simp] theorem State.setOut_boot (n : Nat) (x : OutLive) : (s.setOut n x).boot = s.boot := rfl
@[simp] theorem State.setOut_cals (n : Nat) (x : OutLive) : (s.setOut n x).cals = s.cals := rfl
@[simp] theorem State.setOut_msixTab (n : Nat) (x : OutLive) : (s.setOut n x).msixTab = s.msixTab := rfl
@[simp] theorem State.setOut_msixPend (n : Nat) (x : OutLive) : (s.setOut n x).msixPend = s.msixPend := rfl
@[simp] theorem State.setOut_tapIr (n : Nat) (x : OutLive) : (s.setOut n x).tapIr = s.tapIr := rfl
@[simp] theorem State.setOut_sent (n : Nat) (x : OutLive) : (s.setOut n x).sent = s.sent := rfl

/-! ### setTrig -/

@[simp] theorem State.setTrig_pending (n : Nat) (x : Trig) : (s.setTrig n x).pending = s.pending := rfl
@[simp] theorem State.setTrig_freeCtr (n : Nat) (x : Trig) : (s.setTrig n x).freeCtr = s.freeCtr := rfl
@[simp] theorem State.setTrig_part (n : Nat) (x : Trig) : (s.setTrig n x).part = s.part := rfl
@[simp] theorem State.setTrig_env (n : Nat) (x : Trig) : (s.setTrig n x).env = s.env := rfl
@[simp] theorem State.setTrig_regs (n : Nat) (x : Trig) : (s.setTrig n x).regs = s.regs := rfl
@[simp] theorem State.setTrig_rings (n : Nat) (x : Trig) : (s.setTrig n x).rings = s.rings := rfl
@[simp] theorem State.setTrig_plyn (n : Nat) (x : Trig) : (s.setTrig n x).plyn = s.plyn := rfl
@[simp] theorem State.setTrig_tails (n : Nat) (x : Trig) : (s.setTrig n x).tails = s.tails := rfl
@[simp] theorem State.setTrig_hst (n : Nat) (x : Trig) : (s.setTrig n x).hst = s.hst := rfl
@[simp] theorem State.setTrig_servo (n : Nat) (x : Trig) : (s.setTrig n x).servo = s.servo := rfl
@[simp] theorem State.setTrig_refs (n : Nat) (x : Trig) : (s.setTrig n x).refs = s.refs := rfl
@[simp] theorem State.setTrig_ports (n : Nat) (x : Trig) : (s.setTrig n x).ports = s.ports := rfl
@[simp] theorem State.setTrig_dies (n : Nat) (x : Trig) : (s.setTrig n x).dies = s.dies := rfl
@[simp] theorem State.setTrig_ledger (n : Nat) (x : Trig) : (s.setTrig n x).ledger = s.ledger := rfl
@[simp] theorem State.setTrig_faults (n : Nat) (x : Trig) : (s.setTrig n x).faults = s.faults := rfl
@[simp] theorem State.setTrig_synths (n : Nat) (x : Trig) : (s.setTrig n x).synths = s.synths := rfl
@[simp] theorem State.setTrig_outs (n : Nat) (x : Trig) : (s.setTrig n x).outs = s.outs := rfl
@[simp] theorem State.setTrig_trigs (n : Nat) (x : Trig) : (s.setTrig n x).trigs = Tab.set s.trigs n x := rfl
@[simp] theorem State.setTrig_caps (n : Nat) (x : Trig) : (s.setTrig n x).caps = s.caps := rfl
@[simp] theorem State.setTrig_clk (n : Nat) (x : Trig) : (s.setTrig n x).clk = s.clk := rfl
@[simp] theorem State.setTrig_boot (n : Nat) (x : Trig) : (s.setTrig n x).boot = s.boot := rfl
@[simp] theorem State.setTrig_cals (n : Nat) (x : Trig) : (s.setTrig n x).cals = s.cals := rfl
@[simp] theorem State.setTrig_msixTab (n : Nat) (x : Trig) : (s.setTrig n x).msixTab = s.msixTab := rfl
@[simp] theorem State.setTrig_msixPend (n : Nat) (x : Trig) : (s.setTrig n x).msixPend = s.msixPend := rfl
@[simp] theorem State.setTrig_tapIr (n : Nat) (x : Trig) : (s.setTrig n x).tapIr = s.tapIr := rfl
@[simp] theorem State.setTrig_sent (n : Nat) (x : Trig) : (s.setTrig n x).sent = s.sent := rfl

/-! ### setCap -/

@[simp] theorem State.setCap_pending (n : Nat) (x : Cap) : (s.setCap n x).pending = s.pending := rfl
@[simp] theorem State.setCap_freeCtr (n : Nat) (x : Cap) : (s.setCap n x).freeCtr = s.freeCtr := rfl
@[simp] theorem State.setCap_part (n : Nat) (x : Cap) : (s.setCap n x).part = s.part := rfl
@[simp] theorem State.setCap_env (n : Nat) (x : Cap) : (s.setCap n x).env = s.env := rfl
@[simp] theorem State.setCap_regs (n : Nat) (x : Cap) : (s.setCap n x).regs = s.regs := rfl
@[simp] theorem State.setCap_rings (n : Nat) (x : Cap) : (s.setCap n x).rings = s.rings := rfl
@[simp] theorem State.setCap_plyn (n : Nat) (x : Cap) : (s.setCap n x).plyn = s.plyn := rfl
@[simp] theorem State.setCap_tails (n : Nat) (x : Cap) : (s.setCap n x).tails = s.tails := rfl
@[simp] theorem State.setCap_hst (n : Nat) (x : Cap) : (s.setCap n x).hst = s.hst := rfl
@[simp] theorem State.setCap_servo (n : Nat) (x : Cap) : (s.setCap n x).servo = s.servo := rfl
@[simp] theorem State.setCap_refs (n : Nat) (x : Cap) : (s.setCap n x).refs = s.refs := rfl
@[simp] theorem State.setCap_ports (n : Nat) (x : Cap) : (s.setCap n x).ports = s.ports := rfl
@[simp] theorem State.setCap_dies (n : Nat) (x : Cap) : (s.setCap n x).dies = s.dies := rfl
@[simp] theorem State.setCap_ledger (n : Nat) (x : Cap) : (s.setCap n x).ledger = s.ledger := rfl
@[simp] theorem State.setCap_faults (n : Nat) (x : Cap) : (s.setCap n x).faults = s.faults := rfl
@[simp] theorem State.setCap_synths (n : Nat) (x : Cap) : (s.setCap n x).synths = s.synths := rfl
@[simp] theorem State.setCap_outs (n : Nat) (x : Cap) : (s.setCap n x).outs = s.outs := rfl
@[simp] theorem State.setCap_trigs (n : Nat) (x : Cap) : (s.setCap n x).trigs = s.trigs := rfl
@[simp] theorem State.setCap_caps (n : Nat) (x : Cap) : (s.setCap n x).caps = Tab.set s.caps n x := rfl
@[simp] theorem State.setCap_clk (n : Nat) (x : Cap) : (s.setCap n x).clk = s.clk := rfl
@[simp] theorem State.setCap_boot (n : Nat) (x : Cap) : (s.setCap n x).boot = s.boot := rfl
@[simp] theorem State.setCap_cals (n : Nat) (x : Cap) : (s.setCap n x).cals = s.cals := rfl
@[simp] theorem State.setCap_msixTab (n : Nat) (x : Cap) : (s.setCap n x).msixTab = s.msixTab := rfl
@[simp] theorem State.setCap_msixPend (n : Nat) (x : Cap) : (s.setCap n x).msixPend = s.msixPend := rfl
@[simp] theorem State.setCap_tapIr (n : Nat) (x : Cap) : (s.setCap n x).tapIr = s.tapIr := rfl
@[simp] theorem State.setCap_sent (n : Nat) (x : Cap) : (s.setCap n x).sent = s.sent := rfl

/-! ### setRelka -/

@[simp] theorem State.setRelka_pending (d p : Nat) (x : Relka) : (s.setRelka d p x).pending = s.pending := rfl
@[simp] theorem State.setRelka_freeCtr (d p : Nat) (x : Relka) : (s.setRelka d p x).freeCtr = s.freeCtr := rfl
@[simp] theorem State.setRelka_part (d p : Nat) (x : Relka) : (s.setRelka d p x).part = s.part := rfl
@[simp] theorem State.setRelka_env (d p : Nat) (x : Relka) : (s.setRelka d p x).env = s.env := rfl
@[simp] theorem State.setRelka_regs (d p : Nat) (x : Relka) : (s.setRelka d p x).regs = s.regs := rfl
@[simp] theorem State.setRelka_rings (d p : Nat) (x : Relka) : (s.setRelka d p x).rings = s.rings := rfl
@[simp] theorem State.setRelka_plyn (d p : Nat) (x : Relka) : (s.setRelka d p x).plyn = s.plyn := rfl
@[simp] theorem State.setRelka_tails (d p : Nat) (x : Relka) : (s.setRelka d p x).tails = s.tails := rfl
@[simp] theorem State.setRelka_hst (d p : Nat) (x : Relka) : (s.setRelka d p x).hst = s.hst := rfl
@[simp] theorem State.setRelka_servo (d p : Nat) (x : Relka) : (s.setRelka d p x).servo = s.servo := rfl
@[simp] theorem State.setRelka_refs (d p : Nat) (x : Relka) : (s.setRelka d p x).refs = s.refs := rfl
@[simp] theorem State.setRelka_dies (d p : Nat) (x : Relka) : (s.setRelka d p x).dies = s.dies := rfl
@[simp] theorem State.setRelka_ledger (d p : Nat) (x : Relka) : (s.setRelka d p x).ledger = s.ledger := rfl
@[simp] theorem State.setRelka_faults (d p : Nat) (x : Relka) : (s.setRelka d p x).faults = s.faults := rfl
@[simp] theorem State.setRelka_synths (d p : Nat) (x : Relka) : (s.setRelka d p x).synths = s.synths := rfl
@[simp] theorem State.setRelka_outs (d p : Nat) (x : Relka) : (s.setRelka d p x).outs = s.outs := rfl
@[simp] theorem State.setRelka_trigs (d p : Nat) (x : Relka) : (s.setRelka d p x).trigs = s.trigs := rfl
@[simp] theorem State.setRelka_caps (d p : Nat) (x : Relka) : (s.setRelka d p x).caps = s.caps := rfl
@[simp] theorem State.setRelka_clk (d p : Nat) (x : Relka) : (s.setRelka d p x).clk = s.clk := rfl
@[simp] theorem State.setRelka_boot (d p : Nat) (x : Relka) : (s.setRelka d p x).boot = s.boot := rfl
@[simp] theorem State.setRelka_cals (d p : Nat) (x : Relka) : (s.setRelka d p x).cals = s.cals := rfl
@[simp] theorem State.setRelka_msixTab (d p : Nat) (x : Relka) : (s.setRelka d p x).msixTab = s.msixTab := rfl
@[simp] theorem State.setRelka_msixPend (d p : Nat) (x : Relka) : (s.setRelka d p x).msixPend = s.msixPend := rfl
@[simp] theorem State.setRelka_tapIr (d p : Nat) (x : Relka) : (s.setRelka d p x).tapIr = s.tapIr := rfl
@[simp] theorem State.setRelka_sent (d p : Nat) (x : Relka) : (s.setRelka d p x).sent = s.sent := rfl

/-! ### setServo -/

@[simp] theorem State.setServo_pending (x : Servo) : (s.setServo x).pending = s.pending := rfl
@[simp] theorem State.setServo_freeCtr (x : Servo) : (s.setServo x).freeCtr = s.freeCtr := rfl
@[simp] theorem State.setServo_part (x : Servo) : (s.setServo x).part = s.part := rfl
@[simp] theorem State.setServo_env (x : Servo) : (s.setServo x).env = s.env := rfl
@[simp] theorem State.setServo_regs (x : Servo) : (s.setServo x).regs = s.regs := rfl
@[simp] theorem State.setServo_rings (x : Servo) : (s.setServo x).rings = s.rings := rfl
@[simp] theorem State.setServo_plyn (x : Servo) : (s.setServo x).plyn = s.plyn := rfl
@[simp] theorem State.setServo_tails (x : Servo) : (s.setServo x).tails = s.tails := rfl
@[simp] theorem State.setServo_hst (x : Servo) : (s.setServo x).hst = s.hst := rfl
@[simp] theorem State.setServo_servo (x : Servo) : (s.setServo x).servo = x := rfl
@[simp] theorem State.setServo_refs (x : Servo) : (s.setServo x).refs = s.refs := rfl
@[simp] theorem State.setServo_ports (x : Servo) : (s.setServo x).ports = s.ports := rfl
@[simp] theorem State.setServo_dies (x : Servo) : (s.setServo x).dies = s.dies := rfl
@[simp] theorem State.setServo_ledger (x : Servo) : (s.setServo x).ledger = s.ledger := rfl
@[simp] theorem State.setServo_faults (x : Servo) : (s.setServo x).faults = s.faults := rfl
@[simp] theorem State.setServo_synths (x : Servo) : (s.setServo x).synths = s.synths := rfl
@[simp] theorem State.setServo_outs (x : Servo) : (s.setServo x).outs = s.outs := rfl
@[simp] theorem State.setServo_trigs (x : Servo) : (s.setServo x).trigs = s.trigs := rfl
@[simp] theorem State.setServo_caps (x : Servo) : (s.setServo x).caps = s.caps := rfl
@[simp] theorem State.setServo_clk (x : Servo) : (s.setServo x).clk = s.clk := rfl
@[simp] theorem State.setServo_boot (x : Servo) : (s.setServo x).boot = s.boot := rfl
@[simp] theorem State.setServo_cals (x : Servo) : (s.setServo x).cals = s.cals := rfl
@[simp] theorem State.setServo_msixTab (x : Servo) : (s.setServo x).msixTab = s.msixTab := rfl
@[simp] theorem State.setServo_msixPend (x : Servo) : (s.setServo x).msixPend = s.msixPend := rfl
@[simp] theorem State.setServo_tapIr (x : Servo) : (s.setServo x).tapIr = s.tapIr := rfl
@[simp] theorem State.setServo_sent (x : Servo) : (s.setServo x).sent = s.sent := rfl

/-! ### setHst -/

@[simp] theorem State.setHst_pending (x : Hst) : (s.setHst x).pending = s.pending := rfl
@[simp] theorem State.setHst_freeCtr (x : Hst) : (s.setHst x).freeCtr = s.freeCtr := rfl
@[simp] theorem State.setHst_part (x : Hst) : (s.setHst x).part = s.part := rfl
@[simp] theorem State.setHst_env (x : Hst) : (s.setHst x).env = s.env := rfl
@[simp] theorem State.setHst_regs (x : Hst) : (s.setHst x).regs = s.regs := rfl
@[simp] theorem State.setHst_rings (x : Hst) : (s.setHst x).rings = s.rings := rfl
@[simp] theorem State.setHst_plyn (x : Hst) : (s.setHst x).plyn = s.plyn := rfl
@[simp] theorem State.setHst_tails (x : Hst) : (s.setHst x).tails = s.tails := rfl
@[simp] theorem State.setHst_hst (x : Hst) : (s.setHst x).hst = x := rfl
@[simp] theorem State.setHst_servo (x : Hst) : (s.setHst x).servo = s.servo := rfl
@[simp] theorem State.setHst_refs (x : Hst) : (s.setHst x).refs = s.refs := rfl
@[simp] theorem State.setHst_ports (x : Hst) : (s.setHst x).ports = s.ports := rfl
@[simp] theorem State.setHst_dies (x : Hst) : (s.setHst x).dies = s.dies := rfl
@[simp] theorem State.setHst_ledger (x : Hst) : (s.setHst x).ledger = s.ledger := rfl
@[simp] theorem State.setHst_faults (x : Hst) : (s.setHst x).faults = s.faults := rfl
@[simp] theorem State.setHst_synths (x : Hst) : (s.setHst x).synths = s.synths := rfl
@[simp] theorem State.setHst_outs (x : Hst) : (s.setHst x).outs = s.outs := rfl
@[simp] theorem State.setHst_trigs (x : Hst) : (s.setHst x).trigs = s.trigs := rfl
@[simp] theorem State.setHst_caps (x : Hst) : (s.setHst x).caps = s.caps := rfl
@[simp] theorem State.setHst_clk (x : Hst) : (s.setHst x).clk = s.clk := rfl
@[simp] theorem State.setHst_boot (x : Hst) : (s.setHst x).boot = s.boot := rfl
@[simp] theorem State.setHst_cals (x : Hst) : (s.setHst x).cals = s.cals := rfl
@[simp] theorem State.setHst_msixTab (x : Hst) : (s.setHst x).msixTab = s.msixTab := rfl
@[simp] theorem State.setHst_msixPend (x : Hst) : (s.setHst x).msixPend = s.msixPend := rfl
@[simp] theorem State.setHst_tapIr (x : Hst) : (s.setHst x).tapIr = s.tapIr := rfl
@[simp] theorem State.setHst_sent (x : Hst) : (s.setHst x).sent = s.sent := rfl

/-! ### setLedger -/

@[simp] theorem State.setLedger_pending (x : Ledger) : (s.setLedger x).pending = s.pending := rfl
@[simp] theorem State.setLedger_freeCtr (x : Ledger) : (s.setLedger x).freeCtr = s.freeCtr := rfl
@[simp] theorem State.setLedger_part (x : Ledger) : (s.setLedger x).part = s.part := rfl
@[simp] theorem State.setLedger_env (x : Ledger) : (s.setLedger x).env = s.env := rfl
@[simp] theorem State.setLedger_regs (x : Ledger) : (s.setLedger x).regs = s.regs := rfl
@[simp] theorem State.setLedger_rings (x : Ledger) : (s.setLedger x).rings = s.rings := rfl
@[simp] theorem State.setLedger_plyn (x : Ledger) : (s.setLedger x).plyn = s.plyn := rfl
@[simp] theorem State.setLedger_tails (x : Ledger) : (s.setLedger x).tails = s.tails := rfl
@[simp] theorem State.setLedger_hst (x : Ledger) : (s.setLedger x).hst = s.hst := rfl
@[simp] theorem State.setLedger_servo (x : Ledger) : (s.setLedger x).servo = s.servo := rfl
@[simp] theorem State.setLedger_refs (x : Ledger) : (s.setLedger x).refs = s.refs := rfl
@[simp] theorem State.setLedger_ports (x : Ledger) : (s.setLedger x).ports = s.ports := rfl
@[simp] theorem State.setLedger_dies (x : Ledger) : (s.setLedger x).dies = s.dies := rfl
@[simp] theorem State.setLedger_ledger (x : Ledger) : (s.setLedger x).ledger = x := rfl
@[simp] theorem State.setLedger_faults (x : Ledger) : (s.setLedger x).faults = s.faults := rfl
@[simp] theorem State.setLedger_synths (x : Ledger) : (s.setLedger x).synths = s.synths := rfl
@[simp] theorem State.setLedger_outs (x : Ledger) : (s.setLedger x).outs = s.outs := rfl
@[simp] theorem State.setLedger_trigs (x : Ledger) : (s.setLedger x).trigs = s.trigs := rfl
@[simp] theorem State.setLedger_caps (x : Ledger) : (s.setLedger x).caps = s.caps := rfl
@[simp] theorem State.setLedger_clk (x : Ledger) : (s.setLedger x).clk = s.clk := rfl
@[simp] theorem State.setLedger_boot (x : Ledger) : (s.setLedger x).boot = s.boot := rfl
@[simp] theorem State.setLedger_cals (x : Ledger) : (s.setLedger x).cals = s.cals := rfl
@[simp] theorem State.setLedger_msixTab (x : Ledger) : (s.setLedger x).msixTab = s.msixTab := rfl
@[simp] theorem State.setLedger_msixPend (x : Ledger) : (s.setLedger x).msixPend = s.msixPend := rfl
@[simp] theorem State.setLedger_tapIr (x : Ledger) : (s.setLedger x).tapIr = s.tapIr := rfl
@[simp] theorem State.setLedger_sent (x : Ledger) : (s.setLedger x).sent = s.sent := rfl

/-! ### setClk -/

@[simp] theorem State.setClk_pending (x : Clk) : (s.setClk x).pending = s.pending := rfl
@[simp] theorem State.setClk_freeCtr (x : Clk) : (s.setClk x).freeCtr = s.freeCtr := rfl
@[simp] theorem State.setClk_part (x : Clk) : (s.setClk x).part = s.part := rfl
@[simp] theorem State.setClk_env (x : Clk) : (s.setClk x).env = s.env := rfl
@[simp] theorem State.setClk_regs (x : Clk) : (s.setClk x).regs = s.regs := rfl
@[simp] theorem State.setClk_rings (x : Clk) : (s.setClk x).rings = s.rings := rfl
@[simp] theorem State.setClk_plyn (x : Clk) : (s.setClk x).plyn = s.plyn := rfl
@[simp] theorem State.setClk_tails (x : Clk) : (s.setClk x).tails = s.tails := rfl
@[simp] theorem State.setClk_hst (x : Clk) : (s.setClk x).hst = s.hst := rfl
@[simp] theorem State.setClk_servo (x : Clk) : (s.setClk x).servo = s.servo := rfl
@[simp] theorem State.setClk_refs (x : Clk) : (s.setClk x).refs = s.refs := rfl
@[simp] theorem State.setClk_ports (x : Clk) : (s.setClk x).ports = s.ports := rfl
@[simp] theorem State.setClk_dies (x : Clk) : (s.setClk x).dies = s.dies := rfl
@[simp] theorem State.setClk_ledger (x : Clk) : (s.setClk x).ledger = s.ledger := rfl
@[simp] theorem State.setClk_faults (x : Clk) : (s.setClk x).faults = s.faults := rfl
@[simp] theorem State.setClk_synths (x : Clk) : (s.setClk x).synths = s.synths := rfl
@[simp] theorem State.setClk_outs (x : Clk) : (s.setClk x).outs = s.outs := rfl
@[simp] theorem State.setClk_trigs (x : Clk) : (s.setClk x).trigs = s.trigs := rfl
@[simp] theorem State.setClk_caps (x : Clk) : (s.setClk x).caps = s.caps := rfl
@[simp] theorem State.setClk_clk (x : Clk) : (s.setClk x).clk = x := rfl
@[simp] theorem State.setClk_boot (x : Clk) : (s.setClk x).boot = s.boot := rfl
@[simp] theorem State.setClk_cals (x : Clk) : (s.setClk x).cals = s.cals := rfl
@[simp] theorem State.setClk_msixTab (x : Clk) : (s.setClk x).msixTab = s.msixTab := rfl
@[simp] theorem State.setClk_msixPend (x : Clk) : (s.setClk x).msixPend = s.msixPend := rfl
@[simp] theorem State.setClk_tapIr (x : Clk) : (s.setClk x).tapIr = s.tapIr := rfl
@[simp] theorem State.setClk_sent (x : Clk) : (s.setClk x).sent = s.sent := rfl

/-! ### setFaults -/

@[simp] theorem State.setFaults_pending (x : Faults) : (s.setFaults x).pending = s.pending := rfl
@[simp] theorem State.setFaults_freeCtr (x : Faults) : (s.setFaults x).freeCtr = s.freeCtr := rfl
@[simp] theorem State.setFaults_part (x : Faults) : (s.setFaults x).part = s.part := rfl
@[simp] theorem State.setFaults_env (x : Faults) : (s.setFaults x).env = s.env := rfl
@[simp] theorem State.setFaults_regs (x : Faults) : (s.setFaults x).regs = s.regs := rfl
@[simp] theorem State.setFaults_rings (x : Faults) : (s.setFaults x).rings = s.rings := rfl
@[simp] theorem State.setFaults_plyn (x : Faults) : (s.setFaults x).plyn = s.plyn := rfl
@[simp] theorem State.setFaults_tails (x : Faults) : (s.setFaults x).tails = s.tails := rfl
@[simp] theorem State.setFaults_hst (x : Faults) : (s.setFaults x).hst = s.hst := rfl
@[simp] theorem State.setFaults_servo (x : Faults) : (s.setFaults x).servo = s.servo := rfl
@[simp] theorem State.setFaults_refs (x : Faults) : (s.setFaults x).refs = s.refs := rfl
@[simp] theorem State.setFaults_ports (x : Faults) : (s.setFaults x).ports = s.ports := rfl
@[simp] theorem State.setFaults_dies (x : Faults) : (s.setFaults x).dies = s.dies := rfl
@[simp] theorem State.setFaults_ledger (x : Faults) : (s.setFaults x).ledger = s.ledger := rfl
@[simp] theorem State.setFaults_faults (x : Faults) : (s.setFaults x).faults = x := rfl
@[simp] theorem State.setFaults_synths (x : Faults) : (s.setFaults x).synths = s.synths := rfl
@[simp] theorem State.setFaults_outs (x : Faults) : (s.setFaults x).outs = s.outs := rfl
@[simp] theorem State.setFaults_trigs (x : Faults) : (s.setFaults x).trigs = s.trigs := rfl
@[simp] theorem State.setFaults_caps (x : Faults) : (s.setFaults x).caps = s.caps := rfl
@[simp] theorem State.setFaults_clk (x : Faults) : (s.setFaults x).clk = s.clk := rfl
@[simp] theorem State.setFaults_boot (x : Faults) : (s.setFaults x).boot = s.boot := rfl
@[simp] theorem State.setFaults_cals (x : Faults) : (s.setFaults x).cals = s.cals := rfl
@[simp] theorem State.setFaults_msixTab (x : Faults) : (s.setFaults x).msixTab = s.msixTab := rfl
@[simp] theorem State.setFaults_msixPend (x : Faults) : (s.setFaults x).msixPend = s.msixPend := rfl
@[simp] theorem State.setFaults_tapIr (x : Faults) : (s.setFaults x).tapIr = s.tapIr := rfl
@[simp] theorem State.setFaults_sent (x : Faults) : (s.setFaults x).sent = s.sent := rfl

/-! ### send -/

@[simp] theorem State.send_pending (x : Sent) : (s.send x).pending = s.pending := rfl
@[simp] theorem State.send_freeCtr (x : Sent) : (s.send x).freeCtr = s.freeCtr := rfl
@[simp] theorem State.send_part (x : Sent) : (s.send x).part = s.part := rfl
@[simp] theorem State.send_env (x : Sent) : (s.send x).env = s.env := rfl
@[simp] theorem State.send_regs (x : Sent) : (s.send x).regs = s.regs := rfl
@[simp] theorem State.send_rings (x : Sent) : (s.send x).rings = s.rings := rfl
@[simp] theorem State.send_plyn (x : Sent) : (s.send x).plyn = s.plyn := rfl
@[simp] theorem State.send_tails (x : Sent) : (s.send x).tails = s.tails := rfl
@[simp] theorem State.send_hst (x : Sent) : (s.send x).hst = s.hst := rfl
@[simp] theorem State.send_servo (x : Sent) : (s.send x).servo = s.servo := rfl
@[simp] theorem State.send_refs (x : Sent) : (s.send x).refs = s.refs := rfl
@[simp] theorem State.send_ports (x : Sent) : (s.send x).ports = s.ports := rfl
@[simp] theorem State.send_dies (x : Sent) : (s.send x).dies = s.dies := rfl
@[simp] theorem State.send_ledger (x : Sent) : (s.send x).ledger = s.ledger := rfl
@[simp] theorem State.send_faults (x : Sent) : (s.send x).faults = s.faults := rfl
@[simp] theorem State.send_synths (x : Sent) : (s.send x).synths = s.synths := rfl
@[simp] theorem State.send_outs (x : Sent) : (s.send x).outs = s.outs := rfl
@[simp] theorem State.send_trigs (x : Sent) : (s.send x).trigs = s.trigs := rfl
@[simp] theorem State.send_caps (x : Sent) : (s.send x).caps = s.caps := rfl
@[simp] theorem State.send_clk (x : Sent) : (s.send x).clk = s.clk := rfl
@[simp] theorem State.send_boot (x : Sent) : (s.send x).boot = s.boot := rfl
@[simp] theorem State.send_cals (x : Sent) : (s.send x).cals = s.cals := rfl
@[simp] theorem State.send_msixTab (x : Sent) : (s.send x).msixTab = s.msixTab := rfl
@[simp] theorem State.send_msixPend (x : Sent) : (s.send x).msixPend = s.msixPend := rfl
@[simp] theorem State.send_tapIr (x : Sent) : (s.send x).tapIr = s.tapIr := rfl
@[simp] theorem State.send_sent (x : Sent) : (s.send x).sent = x :: s.sent := rfl

/-! ### put -/

@[simp] theorem State.put_pending (loc : Nat) (f : Fld) (v : Nat) : (s.put loc f v).pending = s.pending := rfl
@[simp] theorem State.put_freeCtr (loc : Nat) (f : Fld) (v : Nat) : (s.put loc f v).freeCtr = s.freeCtr := rfl
@[simp] theorem State.put_part (loc : Nat) (f : Fld) (v : Nat) : (s.put loc f v).part = s.part := rfl
@[simp] theorem State.put_env (loc : Nat) (f : Fld) (v : Nat) : (s.put loc f v).env = s.env := rfl
@[simp] theorem State.put_rings (loc : Nat) (f : Fld) (v : Nat) : (s.put loc f v).rings = s.rings := rfl
@[simp] theorem State.put_plyn (loc : Nat) (f : Fld) (v : Nat) : (s.put loc f v).plyn = s.plyn := rfl
@[simp] theorem State.put_tails (loc : Nat) (f : Fld) (v : Nat) : (s.put loc f v).tails = s.tails := rfl
@[simp] theorem State.put_hst (loc : Nat) (f : Fld) (v : Nat) : (s.put loc f v).hst = s.hst := rfl
@[simp] theorem State.put_servo (loc : Nat) (f : Fld) (v : Nat) : (s.put loc f v).servo = s.servo := rfl
@[simp] theorem State.put_refs (loc : Nat) (f : Fld) (v : Nat) : (s.put loc f v).refs = s.refs := rfl
@[simp] theorem State.put_ports (loc : Nat) (f : Fld) (v : Nat) : (s.put loc f v).ports = s.ports := rfl
@[simp] theorem State.put_dies (loc : Nat) (f : Fld) (v : Nat) : (s.put loc f v).dies = s.dies := rfl
@[simp] theorem State.put_ledger (loc : Nat) (f : Fld) (v : Nat) : (s.put loc f v).ledger = s.ledger := rfl
@[simp] theorem State.put_faults (loc : Nat) (f : Fld) (v : Nat) : (s.put loc f v).faults = s.faults := rfl
@[simp] theorem State.put_synths (loc : Nat) (f : Fld) (v : Nat) : (s.put loc f v).synths = s.synths := rfl
@[simp] theorem State.put_outs (loc : Nat) (f : Fld) (v : Nat) : (s.put loc f v).outs = s.outs := rfl
@[simp] theorem State.put_trigs (loc : Nat) (f : Fld) (v : Nat) : (s.put loc f v).trigs = s.trigs := rfl
@[simp] theorem State.put_caps (loc : Nat) (f : Fld) (v : Nat) : (s.put loc f v).caps = s.caps := rfl
@[simp] theorem State.put_clk (loc : Nat) (f : Fld) (v : Nat) : (s.put loc f v).clk = s.clk := rfl
@[simp] theorem State.put_boot (loc : Nat) (f : Fld) (v : Nat) : (s.put loc f v).boot = s.boot := rfl
@[simp] theorem State.put_cals (loc : Nat) (f : Fld) (v : Nat) : (s.put loc f v).cals = s.cals := rfl
@[simp] theorem State.put_msixTab (loc : Nat) (f : Fld) (v : Nat) : (s.put loc f v).msixTab = s.msixTab := rfl
@[simp] theorem State.put_msixPend (loc : Nat) (f : Fld) (v : Nat) : (s.put loc f v).msixPend = s.msixPend := rfl
@[simp] theorem State.put_tapIr (loc : Nat) (f : Fld) (v : Nat) : (s.put loc f v).tapIr = s.tapIr := rfl
@[simp] theorem State.put_sent (loc : Nat) (f : Fld) (v : Nat) : (s.put loc f v).sent = s.sent := rfl

/-! ### putB -/

@[simp] theorem State.putB_pending (loc : Nat) (f : Fld) (b : Bool) : (s.putB loc f b).pending = s.pending := rfl
@[simp] theorem State.putB_freeCtr (loc : Nat) (f : Fld) (b : Bool) : (s.putB loc f b).freeCtr = s.freeCtr := rfl
@[simp] theorem State.putB_part (loc : Nat) (f : Fld) (b : Bool) : (s.putB loc f b).part = s.part := rfl
@[simp] theorem State.putB_env (loc : Nat) (f : Fld) (b : Bool) : (s.putB loc f b).env = s.env := rfl
@[simp] theorem State.putB_rings (loc : Nat) (f : Fld) (b : Bool) : (s.putB loc f b).rings = s.rings := rfl
@[simp] theorem State.putB_plyn (loc : Nat) (f : Fld) (b : Bool) : (s.putB loc f b).plyn = s.plyn := rfl
@[simp] theorem State.putB_tails (loc : Nat) (f : Fld) (b : Bool) : (s.putB loc f b).tails = s.tails := rfl
@[simp] theorem State.putB_hst (loc : Nat) (f : Fld) (b : Bool) : (s.putB loc f b).hst = s.hst := rfl
@[simp] theorem State.putB_servo (loc : Nat) (f : Fld) (b : Bool) : (s.putB loc f b).servo = s.servo := rfl
@[simp] theorem State.putB_refs (loc : Nat) (f : Fld) (b : Bool) : (s.putB loc f b).refs = s.refs := rfl
@[simp] theorem State.putB_ports (loc : Nat) (f : Fld) (b : Bool) : (s.putB loc f b).ports = s.ports := rfl
@[simp] theorem State.putB_dies (loc : Nat) (f : Fld) (b : Bool) : (s.putB loc f b).dies = s.dies := rfl
@[simp] theorem State.putB_ledger (loc : Nat) (f : Fld) (b : Bool) : (s.putB loc f b).ledger = s.ledger := rfl
@[simp] theorem State.putB_faults (loc : Nat) (f : Fld) (b : Bool) : (s.putB loc f b).faults = s.faults := rfl
@[simp] theorem State.putB_synths (loc : Nat) (f : Fld) (b : Bool) : (s.putB loc f b).synths = s.synths := rfl
@[simp] theorem State.putB_outs (loc : Nat) (f : Fld) (b : Bool) : (s.putB loc f b).outs = s.outs := rfl
@[simp] theorem State.putB_trigs (loc : Nat) (f : Fld) (b : Bool) : (s.putB loc f b).trigs = s.trigs := rfl
@[simp] theorem State.putB_caps (loc : Nat) (f : Fld) (b : Bool) : (s.putB loc f b).caps = s.caps := rfl
@[simp] theorem State.putB_clk (loc : Nat) (f : Fld) (b : Bool) : (s.putB loc f b).clk = s.clk := rfl
@[simp] theorem State.putB_boot (loc : Nat) (f : Fld) (b : Bool) : (s.putB loc f b).boot = s.boot := rfl
@[simp] theorem State.putB_cals (loc : Nat) (f : Fld) (b : Bool) : (s.putB loc f b).cals = s.cals := rfl
@[simp] theorem State.putB_msixTab (loc : Nat) (f : Fld) (b : Bool) : (s.putB loc f b).msixTab = s.msixTab := rfl
@[simp] theorem State.putB_msixPend (loc : Nat) (f : Fld) (b : Bool) : (s.putB loc f b).msixPend = s.msixPend := rfl
@[simp] theorem State.putB_tapIr (loc : Nat) (f : Fld) (b : Bool) : (s.putB loc f b).tapIr = s.tapIr := rfl
@[simp] theorem State.putB_sent (loc : Nat) (f : Fld) (b : Bool) : (s.putB loc f b).sent = s.sent := rfl

/-! ### bumpBy -/

@[simp] theorem State.bumpBy_pending (loc : Nat) (f : Fld) (v : Nat) : (s.bumpBy loc f v).pending = s.pending := rfl
@[simp] theorem State.bumpBy_freeCtr (loc : Nat) (f : Fld) (v : Nat) : (s.bumpBy loc f v).freeCtr = s.freeCtr := rfl
@[simp] theorem State.bumpBy_part (loc : Nat) (f : Fld) (v : Nat) : (s.bumpBy loc f v).part = s.part := rfl
@[simp] theorem State.bumpBy_env (loc : Nat) (f : Fld) (v : Nat) : (s.bumpBy loc f v).env = s.env := rfl
@[simp] theorem State.bumpBy_rings (loc : Nat) (f : Fld) (v : Nat) : (s.bumpBy loc f v).rings = s.rings := rfl
@[simp] theorem State.bumpBy_plyn (loc : Nat) (f : Fld) (v : Nat) : (s.bumpBy loc f v).plyn = s.plyn := rfl
@[simp] theorem State.bumpBy_tails (loc : Nat) (f : Fld) (v : Nat) : (s.bumpBy loc f v).tails = s.tails := rfl
@[simp] theorem State.bumpBy_hst (loc : Nat) (f : Fld) (v : Nat) : (s.bumpBy loc f v).hst = s.hst := rfl
@[simp] theorem State.bumpBy_servo (loc : Nat) (f : Fld) (v : Nat) : (s.bumpBy loc f v).servo = s.servo := rfl
@[simp] theorem State.bumpBy_refs (loc : Nat) (f : Fld) (v : Nat) : (s.bumpBy loc f v).refs = s.refs := rfl
@[simp] theorem State.bumpBy_ports (loc : Nat) (f : Fld) (v : Nat) : (s.bumpBy loc f v).ports = s.ports := rfl
@[simp] theorem State.bumpBy_dies (loc : Nat) (f : Fld) (v : Nat) : (s.bumpBy loc f v).dies = s.dies := rfl
@[simp] theorem State.bumpBy_ledger (loc : Nat) (f : Fld) (v : Nat) : (s.bumpBy loc f v).ledger = s.ledger := rfl
@[simp] theorem State.bumpBy_faults (loc : Nat) (f : Fld) (v : Nat) : (s.bumpBy loc f v).faults = s.faults := rfl
@[simp] theorem State.bumpBy_synths (loc : Nat) (f : Fld) (v : Nat) : (s.bumpBy loc f v).synths = s.synths := rfl
@[simp] theorem State.bumpBy_outs (loc : Nat) (f : Fld) (v : Nat) : (s.bumpBy loc f v).outs = s.outs := rfl
@[simp] theorem State.bumpBy_trigs (loc : Nat) (f : Fld) (v : Nat) : (s.bumpBy loc f v).trigs = s.trigs := rfl
@[simp] theorem State.bumpBy_caps (loc : Nat) (f : Fld) (v : Nat) : (s.bumpBy loc f v).caps = s.caps := rfl
@[simp] theorem State.bumpBy_clk (loc : Nat) (f : Fld) (v : Nat) : (s.bumpBy loc f v).clk = s.clk := rfl
@[simp] theorem State.bumpBy_boot (loc : Nat) (f : Fld) (v : Nat) : (s.bumpBy loc f v).boot = s.boot := rfl
@[simp] theorem State.bumpBy_cals (loc : Nat) (f : Fld) (v : Nat) : (s.bumpBy loc f v).cals = s.cals := rfl
@[simp] theorem State.bumpBy_msixTab (loc : Nat) (f : Fld) (v : Nat) : (s.bumpBy loc f v).msixTab = s.msixTab := rfl
@[simp] theorem State.bumpBy_msixPend (loc : Nat) (f : Fld) (v : Nat) : (s.bumpBy loc f v).msixPend = s.msixPend := rfl
@[simp] theorem State.bumpBy_tapIr (loc : Nat) (f : Fld) (v : Nat) : (s.bumpBy loc f v).tapIr = s.tapIr := rfl
@[simp] theorem State.bumpBy_sent (loc : Nat) (f : Fld) (v : Nat) : (s.bumpBy loc f v).sent = s.sent := rfl

/-! ### bump -/

@[simp] theorem State.bump_pending (loc : Nat) (f : Fld) : (s.bump loc f).pending = s.pending := rfl
@[simp] theorem State.bump_freeCtr (loc : Nat) (f : Fld) : (s.bump loc f).freeCtr = s.freeCtr := rfl
@[simp] theorem State.bump_part (loc : Nat) (f : Fld) : (s.bump loc f).part = s.part := rfl
@[simp] theorem State.bump_env (loc : Nat) (f : Fld) : (s.bump loc f).env = s.env := rfl
@[simp] theorem State.bump_rings (loc : Nat) (f : Fld) : (s.bump loc f).rings = s.rings := rfl
@[simp] theorem State.bump_plyn (loc : Nat) (f : Fld) : (s.bump loc f).plyn = s.plyn := rfl
@[simp] theorem State.bump_tails (loc : Nat) (f : Fld) : (s.bump loc f).tails = s.tails := rfl
@[simp] theorem State.bump_hst (loc : Nat) (f : Fld) : (s.bump loc f).hst = s.hst := rfl
@[simp] theorem State.bump_servo (loc : Nat) (f : Fld) : (s.bump loc f).servo = s.servo := rfl
@[simp] theorem State.bump_refs (loc : Nat) (f : Fld) : (s.bump loc f).refs = s.refs := rfl
@[simp] theorem State.bump_ports (loc : Nat) (f : Fld) : (s.bump loc f).ports = s.ports := rfl
@[simp] theorem State.bump_dies (loc : Nat) (f : Fld) : (s.bump loc f).dies = s.dies := rfl
@[simp] theorem State.bump_ledger (loc : Nat) (f : Fld) : (s.bump loc f).ledger = s.ledger := rfl
@[simp] theorem State.bump_faults (loc : Nat) (f : Fld) : (s.bump loc f).faults = s.faults := rfl
@[simp] theorem State.bump_synths (loc : Nat) (f : Fld) : (s.bump loc f).synths = s.synths := rfl
@[simp] theorem State.bump_outs (loc : Nat) (f : Fld) : (s.bump loc f).outs = s.outs := rfl
@[simp] theorem State.bump_trigs (loc : Nat) (f : Fld) : (s.bump loc f).trigs = s.trigs := rfl
@[simp] theorem State.bump_caps (loc : Nat) (f : Fld) : (s.bump loc f).caps = s.caps := rfl
@[simp] theorem State.bump_clk (loc : Nat) (f : Fld) : (s.bump loc f).clk = s.clk := rfl
@[simp] theorem State.bump_boot (loc : Nat) (f : Fld) : (s.bump loc f).boot = s.boot := rfl
@[simp] theorem State.bump_cals (loc : Nat) (f : Fld) : (s.bump loc f).cals = s.cals := rfl
@[simp] theorem State.bump_msixTab (loc : Nat) (f : Fld) : (s.bump loc f).msixTab = s.msixTab := rfl
@[simp] theorem State.bump_msixPend (loc : Nat) (f : Fld) : (s.bump loc f).msixPend = s.msixPend := rfl
@[simp] theorem State.bump_tapIr (loc : Nat) (f : Fld) : (s.bump loc f).tapIr = s.tapIr := rfl
@[simp] theorem State.bump_sent (loc : Nat) (f : Fld) : (s.bump loc f).sent = s.sent := rfl

/-! ### incr -/

@[simp] theorem State.incr_pending (loc : Nat) (f : Fld) : (s.incr loc f).pending = s.pending := rfl
@[simp] theorem State.incr_freeCtr (loc : Nat) (f : Fld) : (s.incr loc f).freeCtr = s.freeCtr := rfl
@[simp] theorem State.incr_part (loc : Nat) (f : Fld) : (s.incr loc f).part = s.part := rfl
@[simp] theorem State.incr_env (loc : Nat) (f : Fld) : (s.incr loc f).env = s.env := rfl
@[simp] theorem State.incr_rings (loc : Nat) (f : Fld) : (s.incr loc f).rings = s.rings := rfl
@[simp] theorem State.incr_plyn (loc : Nat) (f : Fld) : (s.incr loc f).plyn = s.plyn := rfl
@[simp] theorem State.incr_tails (loc : Nat) (f : Fld) : (s.incr loc f).tails = s.tails := rfl
@[simp] theorem State.incr_hst (loc : Nat) (f : Fld) : (s.incr loc f).hst = s.hst := rfl
@[simp] theorem State.incr_servo (loc : Nat) (f : Fld) : (s.incr loc f).servo = s.servo := rfl
@[simp] theorem State.incr_refs (loc : Nat) (f : Fld) : (s.incr loc f).refs = s.refs := rfl
@[simp] theorem State.incr_ports (loc : Nat) (f : Fld) : (s.incr loc f).ports = s.ports := rfl
@[simp] theorem State.incr_dies (loc : Nat) (f : Fld) : (s.incr loc f).dies = s.dies := rfl
@[simp] theorem State.incr_ledger (loc : Nat) (f : Fld) : (s.incr loc f).ledger = s.ledger := rfl
@[simp] theorem State.incr_faults (loc : Nat) (f : Fld) : (s.incr loc f).faults = s.faults := rfl
@[simp] theorem State.incr_synths (loc : Nat) (f : Fld) : (s.incr loc f).synths = s.synths := rfl
@[simp] theorem State.incr_outs (loc : Nat) (f : Fld) : (s.incr loc f).outs = s.outs := rfl
@[simp] theorem State.incr_trigs (loc : Nat) (f : Fld) : (s.incr loc f).trigs = s.trigs := rfl
@[simp] theorem State.incr_caps (loc : Nat) (f : Fld) : (s.incr loc f).caps = s.caps := rfl
@[simp] theorem State.incr_clk (loc : Nat) (f : Fld) : (s.incr loc f).clk = s.clk := rfl
@[simp] theorem State.incr_boot (loc : Nat) (f : Fld) : (s.incr loc f).boot = s.boot := rfl
@[simp] theorem State.incr_cals (loc : Nat) (f : Fld) : (s.incr loc f).cals = s.cals := rfl
@[simp] theorem State.incr_msixTab (loc : Nat) (f : Fld) : (s.incr loc f).msixTab = s.msixTab := rfl
@[simp] theorem State.incr_msixPend (loc : Nat) (f : Fld) : (s.incr loc f).msixPend = s.msixPend := rfl
@[simp] theorem State.incr_tapIr (loc : Nat) (f : Fld) : (s.incr loc f).tapIr = s.tapIr := rfl
@[simp] theorem State.incr_sent (loc : Nat) (f : Fld) : (s.incr loc f).sent = s.sent := rfl

/-! ### putPair -/

@[simp] theorem State.putPair_pending (loc : Nat) (f g : Fld) (v : Nat) : (s.putPair loc f g v).pending = s.pending := rfl
@[simp] theorem State.putPair_freeCtr (loc : Nat) (f g : Fld) (v : Nat) : (s.putPair loc f g v).freeCtr = s.freeCtr := rfl
@[simp] theorem State.putPair_part (loc : Nat) (f g : Fld) (v : Nat) : (s.putPair loc f g v).part = s.part := rfl
@[simp] theorem State.putPair_env (loc : Nat) (f g : Fld) (v : Nat) : (s.putPair loc f g v).env = s.env := rfl
@[simp] theorem State.putPair_rings (loc : Nat) (f g : Fld) (v : Nat) : (s.putPair loc f g v).rings = s.rings := rfl
@[simp] theorem State.putPair_plyn (loc : Nat) (f g : Fld) (v : Nat) : (s.putPair loc f g v).plyn = s.plyn := rfl
@[simp] theorem State.putPair_tails (loc : Nat) (f g : Fld) (v : Nat) : (s.putPair loc f g v).tails = s.tails := rfl
@[simp] theorem State.putPair_hst (loc : Nat) (f g : Fld) (v : Nat) : (s.putPair loc f g v).hst = s.hst := rfl
@[simp] theorem State.putPair_servo (loc : Nat) (f g : Fld) (v : Nat) : (s.putPair loc f g v).servo = s.servo := rfl
@[simp] theorem State.putPair_refs (loc : Nat) (f g : Fld) (v : Nat) : (s.putPair loc f g v).refs = s.refs := rfl
@[simp] theorem State.putPair_ports (loc : Nat) (f g : Fld) (v : Nat) : (s.putPair loc f g v).ports = s.ports := rfl
@[simp] theorem State.putPair_dies (loc : Nat) (f g : Fld) (v : Nat) : (s.putPair loc f g v).dies = s.dies := rfl
@[simp] theorem State.putPair_ledger (loc : Nat) (f g : Fld) (v : Nat) : (s.putPair loc f g v).ledger = s.ledger := rfl
@[simp] theorem State.putPair_faults (loc : Nat) (f g : Fld) (v : Nat) : (s.putPair loc f g v).faults = s.faults := rfl
@[simp] theorem State.putPair_synths (loc : Nat) (f g : Fld) (v : Nat) : (s.putPair loc f g v).synths = s.synths := rfl
@[simp] theorem State.putPair_outs (loc : Nat) (f g : Fld) (v : Nat) : (s.putPair loc f g v).outs = s.outs := rfl
@[simp] theorem State.putPair_trigs (loc : Nat) (f g : Fld) (v : Nat) : (s.putPair loc f g v).trigs = s.trigs := rfl
@[simp] theorem State.putPair_caps (loc : Nat) (f g : Fld) (v : Nat) : (s.putPair loc f g v).caps = s.caps := rfl
@[simp] theorem State.putPair_clk (loc : Nat) (f g : Fld) (v : Nat) : (s.putPair loc f g v).clk = s.clk := rfl
@[simp] theorem State.putPair_boot (loc : Nat) (f g : Fld) (v : Nat) : (s.putPair loc f g v).boot = s.boot := rfl
@[simp] theorem State.putPair_cals (loc : Nat) (f g : Fld) (v : Nat) : (s.putPair loc f g v).cals = s.cals := rfl
@[simp] theorem State.putPair_msixTab (loc : Nat) (f g : Fld) (v : Nat) : (s.putPair loc f g v).msixTab = s.msixTab := rfl
@[simp] theorem State.putPair_msixPend (loc : Nat) (f g : Fld) (v : Nat) : (s.putPair loc f g v).msixPend = s.msixPend := rfl
@[simp] theorem State.putPair_tapIr (loc : Nat) (f g : Fld) (v : Nat) : (s.putPair loc f g v).tapIr = s.tapIr := rfl
@[simp] theorem State.putPair_sent (loc : Nat) (f g : Fld) (v : Nat) : (s.putPair loc f g v).sent = s.sent := rfl

/-! ### pput -/

@[simp] theorem State.pput_pending (d p : Nat) (f : Fld) (v : Nat) : (s.pput d p f v).pending = s.pending := rfl
@[simp] theorem State.pput_freeCtr (d p : Nat) (f : Fld) (v : Nat) : (s.pput d p f v).freeCtr = s.freeCtr := rfl
@[simp] theorem State.pput_part (d p : Nat) (f : Fld) (v : Nat) : (s.pput d p f v).part = s.part := rfl
@[simp] theorem State.pput_env (d p : Nat) (f : Fld) (v : Nat) : (s.pput d p f v).env = s.env := rfl
@[simp] theorem State.pput_rings (d p : Nat) (f : Fld) (v : Nat) : (s.pput d p f v).rings = s.rings := rfl
@[simp] theorem State.pput_plyn (d p : Nat) (f : Fld) (v : Nat) : (s.pput d p f v).plyn = s.plyn := rfl
@[simp] theorem State.pput_tails (d p : Nat) (f : Fld) (v : Nat) : (s.pput d p f v).tails = s.tails := rfl
@[simp] theorem State.pput_hst (d p : Nat) (f : Fld) (v : Nat) : (s.pput d p f v).hst = s.hst := rfl
@[simp] theorem State.pput_servo (d p : Nat) (f : Fld) (v : Nat) : (s.pput d p f v).servo = s.servo := rfl
@[simp] theorem State.pput_refs (d p : Nat) (f : Fld) (v : Nat) : (s.pput d p f v).refs = s.refs := rfl
@[simp] theorem State.pput_ports (d p : Nat) (f : Fld) (v : Nat) : (s.pput d p f v).ports = s.ports := rfl
@[simp] theorem State.pput_dies (d p : Nat) (f : Fld) (v : Nat) : (s.pput d p f v).dies = s.dies := rfl
@[simp] theorem State.pput_ledger (d p : Nat) (f : Fld) (v : Nat) : (s.pput d p f v).ledger = s.ledger := rfl
@[simp] theorem State.pput_faults (d p : Nat) (f : Fld) (v : Nat) : (s.pput d p f v).faults = s.faults := rfl
@[simp] theorem State.pput_synths (d p : Nat) (f : Fld) (v : Nat) : (s.pput d p f v).synths = s.synths := rfl
@[simp] theorem State.pput_outs (d p : Nat) (f : Fld) (v : Nat) : (s.pput d p f v).outs = s.outs := rfl
@[simp] theorem State.pput_trigs (d p : Nat) (f : Fld) (v : Nat) : (s.pput d p f v).trigs = s.trigs := rfl
@[simp] theorem State.pput_caps (d p : Nat) (f : Fld) (v : Nat) : (s.pput d p f v).caps = s.caps := rfl
@[simp] theorem State.pput_clk (d p : Nat) (f : Fld) (v : Nat) : (s.pput d p f v).clk = s.clk := rfl
@[simp] theorem State.pput_boot (d p : Nat) (f : Fld) (v : Nat) : (s.pput d p f v).boot = s.boot := rfl
@[simp] theorem State.pput_cals (d p : Nat) (f : Fld) (v : Nat) : (s.pput d p f v).cals = s.cals := rfl
@[simp] theorem State.pput_msixTab (d p : Nat) (f : Fld) (v : Nat) : (s.pput d p f v).msixTab = s.msixTab := rfl
@[simp] theorem State.pput_msixPend (d p : Nat) (f : Fld) (v : Nat) : (s.pput d p f v).msixPend = s.msixPend := rfl
@[simp] theorem State.pput_tapIr (d p : Nat) (f : Fld) (v : Nat) : (s.pput d p f v).tapIr = s.tapIr := rfl
@[simp] theorem State.pput_sent (d p : Nat) (f : Fld) (v : Nat) : (s.pput d p f v).sent = s.sent := rfl

/-! ### pbump -/

@[simp] theorem State.pbump_pending (d p : Nat) (f : Fld) : (s.pbump d p f).pending = s.pending := rfl
@[simp] theorem State.pbump_freeCtr (d p : Nat) (f : Fld) : (s.pbump d p f).freeCtr = s.freeCtr := rfl
@[simp] theorem State.pbump_part (d p : Nat) (f : Fld) : (s.pbump d p f).part = s.part := rfl
@[simp] theorem State.pbump_env (d p : Nat) (f : Fld) : (s.pbump d p f).env = s.env := rfl
@[simp] theorem State.pbump_rings (d p : Nat) (f : Fld) : (s.pbump d p f).rings = s.rings := rfl
@[simp] theorem State.pbump_plyn (d p : Nat) (f : Fld) : (s.pbump d p f).plyn = s.plyn := rfl
@[simp] theorem State.pbump_tails (d p : Nat) (f : Fld) : (s.pbump d p f).tails = s.tails := rfl
@[simp] theorem State.pbump_hst (d p : Nat) (f : Fld) : (s.pbump d p f).hst = s.hst := rfl
@[simp] theorem State.pbump_servo (d p : Nat) (f : Fld) : (s.pbump d p f).servo = s.servo := rfl
@[simp] theorem State.pbump_refs (d p : Nat) (f : Fld) : (s.pbump d p f).refs = s.refs := rfl
@[simp] theorem State.pbump_ports (d p : Nat) (f : Fld) : (s.pbump d p f).ports = s.ports := rfl
@[simp] theorem State.pbump_dies (d p : Nat) (f : Fld) : (s.pbump d p f).dies = s.dies := rfl
@[simp] theorem State.pbump_ledger (d p : Nat) (f : Fld) : (s.pbump d p f).ledger = s.ledger := rfl
@[simp] theorem State.pbump_faults (d p : Nat) (f : Fld) : (s.pbump d p f).faults = s.faults := rfl
@[simp] theorem State.pbump_synths (d p : Nat) (f : Fld) : (s.pbump d p f).synths = s.synths := rfl
@[simp] theorem State.pbump_outs (d p : Nat) (f : Fld) : (s.pbump d p f).outs = s.outs := rfl
@[simp] theorem State.pbump_trigs (d p : Nat) (f : Fld) : (s.pbump d p f).trigs = s.trigs := rfl
@[simp] theorem State.pbump_caps (d p : Nat) (f : Fld) : (s.pbump d p f).caps = s.caps := rfl
@[simp] theorem State.pbump_clk (d p : Nat) (f : Fld) : (s.pbump d p f).clk = s.clk := rfl
@[simp] theorem State.pbump_boot (d p : Nat) (f : Fld) : (s.pbump d p f).boot = s.boot := rfl
@[simp] theorem State.pbump_cals (d p : Nat) (f : Fld) : (s.pbump d p f).cals = s.cals := rfl
@[simp] theorem State.pbump_msixTab (d p : Nat) (f : Fld) : (s.pbump d p f).msixTab = s.msixTab := rfl
@[simp] theorem State.pbump_msixPend (d p : Nat) (f : Fld) : (s.pbump d p f).msixPend = s.msixPend := rfl
@[simp] theorem State.pbump_tapIr (d p : Nat) (f : Fld) : (s.pbump d p f).tapIr = s.tapIr := rfl
@[simp] theorem State.pbump_sent (d p : Nat) (f : Fld) : (s.pbump d p f).sent = s.sent := rfl

/-! ### arbPut -/

@[simp] theorem State.arbPut_pending (f : Fld) (v : Nat) : (s.arbPut f v).pending = s.pending := rfl
@[simp] theorem State.arbPut_freeCtr (f : Fld) (v : Nat) : (s.arbPut f v).freeCtr = s.freeCtr := rfl
@[simp] theorem State.arbPut_part (f : Fld) (v : Nat) : (s.arbPut f v).part = s.part := rfl
@[simp] theorem State.arbPut_env (f : Fld) (v : Nat) : (s.arbPut f v).env = s.env := rfl
@[simp] theorem State.arbPut_rings (f : Fld) (v : Nat) : (s.arbPut f v).rings = s.rings := rfl
@[simp] theorem State.arbPut_plyn (f : Fld) (v : Nat) : (s.arbPut f v).plyn = s.plyn := rfl
@[simp] theorem State.arbPut_tails (f : Fld) (v : Nat) : (s.arbPut f v).tails = s.tails := rfl
@[simp] theorem State.arbPut_hst (f : Fld) (v : Nat) : (s.arbPut f v).hst = s.hst := rfl
@[simp] theorem State.arbPut_servo (f : Fld) (v : Nat) : (s.arbPut f v).servo = s.servo := rfl
@[simp] theorem State.arbPut_refs (f : Fld) (v : Nat) : (s.arbPut f v).refs = s.refs := rfl
@[simp] theorem State.arbPut_ports (f : Fld) (v : Nat) : (s.arbPut f v).ports = s.ports := rfl
@[simp] theorem State.arbPut_dies (f : Fld) (v : Nat) : (s.arbPut f v).dies = s.dies := rfl
@[simp] theorem State.arbPut_ledger (f : Fld) (v : Nat) : (s.arbPut f v).ledger = s.ledger := rfl
@[simp] theorem State.arbPut_faults (f : Fld) (v : Nat) : (s.arbPut f v).faults = s.faults := rfl
@[simp] theorem State.arbPut_synths (f : Fld) (v : Nat) : (s.arbPut f v).synths = s.synths := rfl
@[simp] theorem State.arbPut_outs (f : Fld) (v : Nat) : (s.arbPut f v).outs = s.outs := rfl
@[simp] theorem State.arbPut_trigs (f : Fld) (v : Nat) : (s.arbPut f v).trigs = s.trigs := rfl
@[simp] theorem State.arbPut_caps (f : Fld) (v : Nat) : (s.arbPut f v).caps = s.caps := rfl
@[simp] theorem State.arbPut_clk (f : Fld) (v : Nat) : (s.arbPut f v).clk = s.clk := rfl
@[simp] theorem State.arbPut_boot (f : Fld) (v : Nat) : (s.arbPut f v).boot = s.boot := rfl
@[simp] theorem State.arbPut_cals (f : Fld) (v : Nat) : (s.arbPut f v).cals = s.cals := rfl
@[simp] theorem State.arbPut_msixTab (f : Fld) (v : Nat) : (s.arbPut f v).msixTab = s.msixTab := rfl
@[simp] theorem State.arbPut_msixPend (f : Fld) (v : Nat) : (s.arbPut f v).msixPend = s.msixPend := rfl
@[simp] theorem State.arbPut_tapIr (f : Fld) (v : Nat) : (s.arbPut f v).tapIr = s.tapIr := rfl
@[simp] theorem State.arbPut_sent (f : Fld) (v : Nat) : (s.arbPut f v).sent = s.sent := rfl

/-! ### fpPut -/

@[simp] theorem State.fpPut_pending (f : Fld) (v : Nat) : (s.fpPut f v).pending = s.pending := rfl
@[simp] theorem State.fpPut_freeCtr (f : Fld) (v : Nat) : (s.fpPut f v).freeCtr = s.freeCtr := rfl
@[simp] theorem State.fpPut_part (f : Fld) (v : Nat) : (s.fpPut f v).part = s.part := rfl
@[simp] theorem State.fpPut_env (f : Fld) (v : Nat) : (s.fpPut f v).env = s.env := rfl
@[simp] theorem State.fpPut_rings (f : Fld) (v : Nat) : (s.fpPut f v).rings = s.rings := rfl
@[simp] theorem State.fpPut_plyn (f : Fld) (v : Nat) : (s.fpPut f v).plyn = s.plyn := rfl
@[simp] theorem State.fpPut_tails (f : Fld) (v : Nat) : (s.fpPut f v).tails = s.tails := rfl
@[simp] theorem State.fpPut_hst (f : Fld) (v : Nat) : (s.fpPut f v).hst = s.hst := rfl
@[simp] theorem State.fpPut_servo (f : Fld) (v : Nat) : (s.fpPut f v).servo = s.servo := rfl
@[simp] theorem State.fpPut_refs (f : Fld) (v : Nat) : (s.fpPut f v).refs = s.refs := rfl
@[simp] theorem State.fpPut_ports (f : Fld) (v : Nat) : (s.fpPut f v).ports = s.ports := rfl
@[simp] theorem State.fpPut_dies (f : Fld) (v : Nat) : (s.fpPut f v).dies = s.dies := rfl
@[simp] theorem State.fpPut_ledger (f : Fld) (v : Nat) : (s.fpPut f v).ledger = s.ledger := rfl
@[simp] theorem State.fpPut_faults (f : Fld) (v : Nat) : (s.fpPut f v).faults = s.faults := rfl
@[simp] theorem State.fpPut_synths (f : Fld) (v : Nat) : (s.fpPut f v).synths = s.synths := rfl
@[simp] theorem State.fpPut_outs (f : Fld) (v : Nat) : (s.fpPut f v).outs = s.outs := rfl
@[simp] theorem State.fpPut_trigs (f : Fld) (v : Nat) : (s.fpPut f v).trigs = s.trigs := rfl
@[simp] theorem State.fpPut_caps (f : Fld) (v : Nat) : (s.fpPut f v).caps = s.caps := rfl
@[simp] theorem State.fpPut_clk (f : Fld) (v : Nat) : (s.fpPut f v).clk = s.clk := rfl
@[simp] theorem State.fpPut_boot (f : Fld) (v : Nat) : (s.fpPut f v).boot = s.boot := rfl
@[simp] theorem State.fpPut_cals (f : Fld) (v : Nat) : (s.fpPut f v).cals = s.cals := rfl
@[simp] theorem State.fpPut_msixTab (f : Fld) (v : Nat) : (s.fpPut f v).msixTab = s.msixTab := rfl
@[simp] theorem State.fpPut_msixPend (f : Fld) (v : Nat) : (s.fpPut f v).msixPend = s.msixPend := rfl
@[simp] theorem State.fpPut_tapIr (f : Fld) (v : Nat) : (s.fpPut f v).tapIr = s.tapIr := rfl
@[simp] theorem State.fpPut_sent (f : Fld) (v : Nat) : (s.fpPut f v).sent = s.sent := rfl

/-! ### setFlight -/

@[simp] theorem State.setFlight_pending (f : Flight) : (s.setFlight f).pending = s.pending := rfl
@[simp] theorem State.setFlight_freeCtr (f : Flight) : (s.setFlight f).freeCtr = s.freeCtr := rfl
@[simp] theorem State.setFlight_part (f : Flight) : (s.setFlight f).part = s.part := rfl
@[simp] theorem State.setFlight_env (f : Flight) : (s.setFlight f).env = s.env := rfl
@[simp] theorem State.setFlight_regs (f : Flight) : (s.setFlight f).regs = s.regs := rfl
@[simp] theorem State.setFlight_rings (f : Flight) : (s.setFlight f).rings = s.rings := rfl
@[simp] theorem State.setFlight_tails (f : Flight) : (s.setFlight f).tails = s.tails := rfl
@[simp] theorem State.setFlight_hst (f : Flight) : (s.setFlight f).hst = s.hst := rfl
@[simp] theorem State.setFlight_servo (f : Flight) : (s.setFlight f).servo = s.servo := rfl
@[simp] theorem State.setFlight_refs (f : Flight) : (s.setFlight f).refs = s.refs := rfl
@[simp] theorem State.setFlight_ports (f : Flight) : (s.setFlight f).ports = s.ports := rfl
@[simp] theorem State.setFlight_dies (f : Flight) : (s.setFlight f).dies = s.dies := rfl
@[simp] theorem State.setFlight_ledger (f : Flight) : (s.setFlight f).ledger = s.ledger := rfl
@[simp] theorem State.setFlight_faults (f : Flight) : (s.setFlight f).faults = s.faults := rfl
@[simp] theorem State.setFlight_synths (f : Flight) : (s.setFlight f).synths = s.synths := rfl
@[simp] theorem State.setFlight_outs (f : Flight) : (s.setFlight f).outs = s.outs := rfl
@[simp] theorem State.setFlight_trigs (f : Flight) : (s.setFlight f).trigs = s.trigs := rfl
@[simp] theorem State.setFlight_caps (f : Flight) : (s.setFlight f).caps = s.caps := rfl
@[simp] theorem State.setFlight_clk (f : Flight) : (s.setFlight f).clk = s.clk := rfl
@[simp] theorem State.setFlight_boot (f : Flight) : (s.setFlight f).boot = s.boot := rfl
@[simp] theorem State.setFlight_cals (f : Flight) : (s.setFlight f).cals = s.cals := rfl
@[simp] theorem State.setFlight_msixTab (f : Flight) : (s.setFlight f).msixTab = s.msixTab := rfl
@[simp] theorem State.setFlight_msixPend (f : Flight) : (s.setFlight f).msixPend = s.msixPend := rfl
@[simp] theorem State.setFlight_tapIr (f : Flight) : (s.setFlight f).tapIr = s.tapIr := rfl
@[simp] theorem State.setFlight_sent (f : Flight) : (s.setFlight f).sent = s.sent := rfl

/-! ### advance -/

@[simp] theorem State.advance_pending (k : Nat) : (s.advance k).pending = s.pending := rfl
@[simp] theorem State.advance_freeCtr (k : Nat) : (s.advance k).freeCtr = s.freeCtr := rfl
@[simp] theorem State.advance_part (k : Nat) : (s.advance k).part = s.part := rfl
@[simp] theorem State.advance_env (k : Nat) : (s.advance k).env = s.env := rfl
@[simp] theorem State.advance_regs (k : Nat) : (s.advance k).regs = s.regs := rfl
@[simp] theorem State.advance_rings (k : Nat) : (s.advance k).rings = s.rings := rfl
@[simp] theorem State.advance_plyn (k : Nat) : (s.advance k).plyn = s.plyn := rfl
@[simp] theorem State.advance_hst (k : Nat) : (s.advance k).hst = s.hst := rfl
@[simp] theorem State.advance_servo (k : Nat) : (s.advance k).servo = s.servo := rfl
@[simp] theorem State.advance_refs (k : Nat) : (s.advance k).refs = s.refs := rfl
@[simp] theorem State.advance_ports (k : Nat) : (s.advance k).ports = s.ports := rfl
@[simp] theorem State.advance_dies (k : Nat) : (s.advance k).dies = s.dies := rfl
@[simp] theorem State.advance_ledger (k : Nat) : (s.advance k).ledger = s.ledger := rfl
@[simp] theorem State.advance_faults (k : Nat) : (s.advance k).faults = s.faults := rfl
@[simp] theorem State.advance_synths (k : Nat) : (s.advance k).synths = s.synths := rfl
@[simp] theorem State.advance_outs (k : Nat) : (s.advance k).outs = s.outs := rfl
@[simp] theorem State.advance_trigs (k : Nat) : (s.advance k).trigs = s.trigs := rfl
@[simp] theorem State.advance_caps (k : Nat) : (s.advance k).caps = s.caps := rfl
@[simp] theorem State.advance_clk (k : Nat) : (s.advance k).clk = s.clk := rfl
@[simp] theorem State.advance_boot (k : Nat) : (s.advance k).boot = s.boot := rfl
@[simp] theorem State.advance_cals (k : Nat) : (s.advance k).cals = s.cals := rfl
@[simp] theorem State.advance_msixTab (k : Nat) : (s.advance k).msixTab = s.msixTab := rfl
@[simp] theorem State.advance_msixPend (k : Nat) : (s.advance k).msixPend = s.msixPend := rfl
@[simp] theorem State.advance_tapIr (k : Nat) : (s.advance k).tapIr = s.tapIr := rfl
@[simp] theorem State.advance_sent (k : Nat) : (s.advance k).sent = s.sent := rfl

/-! ### advanceTo -/

@[simp] theorem State.advanceTo_pending (k : Nat) : (s.advanceTo k).pending = s.pending := rfl
@[simp] theorem State.advanceTo_freeCtr (k : Nat) : (s.advanceTo k).freeCtr = s.freeCtr := rfl
@[simp] theorem State.advanceTo_part (k : Nat) : (s.advanceTo k).part = s.part := rfl
@[simp] theorem State.advanceTo_env (k : Nat) : (s.advanceTo k).env = s.env := rfl
@[simp] theorem State.advanceTo_regs (k : Nat) : (s.advanceTo k).regs = s.regs := rfl
@[simp] theorem State.advanceTo_rings (k : Nat) : (s.advanceTo k).rings = s.rings := rfl
@[simp] theorem State.advanceTo_plyn (k : Nat) : (s.advanceTo k).plyn = s.plyn := rfl
@[simp] theorem State.advanceTo_hst (k : Nat) : (s.advanceTo k).hst = s.hst := rfl
@[simp] theorem State.advanceTo_servo (k : Nat) : (s.advanceTo k).servo = s.servo := rfl
@[simp] theorem State.advanceTo_refs (k : Nat) : (s.advanceTo k).refs = s.refs := rfl
@[simp] theorem State.advanceTo_ports (k : Nat) : (s.advanceTo k).ports = s.ports := rfl
@[simp] theorem State.advanceTo_dies (k : Nat) : (s.advanceTo k).dies = s.dies := rfl
@[simp] theorem State.advanceTo_ledger (k : Nat) : (s.advanceTo k).ledger = s.ledger := rfl
@[simp] theorem State.advanceTo_faults (k : Nat) : (s.advanceTo k).faults = s.faults := rfl
@[simp] theorem State.advanceTo_synths (k : Nat) : (s.advanceTo k).synths = s.synths := rfl
@[simp] theorem State.advanceTo_outs (k : Nat) : (s.advanceTo k).outs = s.outs := rfl
@[simp] theorem State.advanceTo_trigs (k : Nat) : (s.advanceTo k).trigs = s.trigs := rfl
@[simp] theorem State.advanceTo_caps (k : Nat) : (s.advanceTo k).caps = s.caps := rfl
@[simp] theorem State.advanceTo_clk (k : Nat) : (s.advanceTo k).clk = s.clk := rfl
@[simp] theorem State.advanceTo_boot (k : Nat) : (s.advanceTo k).boot = s.boot := rfl
@[simp] theorem State.advanceTo_cals (k : Nat) : (s.advanceTo k).cals = s.cals := rfl
@[simp] theorem State.advanceTo_msixTab (k : Nat) : (s.advanceTo k).msixTab = s.msixTab := rfl
@[simp] theorem State.advanceTo_msixPend (k : Nat) : (s.advanceTo k).msixPend = s.msixPend := rfl
@[simp] theorem State.advanceTo_tapIr (k : Nat) : (s.advanceTo k).tapIr = s.tapIr := rfl
@[simp] theorem State.advanceTo_sent (k : Nat) : (s.advanceTo k).sent = s.sent := rfl

/-! ### advanceToU -/

@[simp] theorem State.advanceToU_pending (k : Nat) : (s.advanceToU k).pending = s.pending := rfl
@[simp] theorem State.advanceToU_freeCtr (k : Nat) : (s.advanceToU k).freeCtr = s.freeCtr := rfl
@[simp] theorem State.advanceToU_part (k : Nat) : (s.advanceToU k).part = s.part := rfl
@[simp] theorem State.advanceToU_env (k : Nat) : (s.advanceToU k).env = s.env := rfl
@[simp] theorem State.advanceToU_regs (k : Nat) : (s.advanceToU k).regs = s.regs := rfl
@[simp] theorem State.advanceToU_rings (k : Nat) : (s.advanceToU k).rings = s.rings := rfl
@[simp] theorem State.advanceToU_plyn (k : Nat) : (s.advanceToU k).plyn = s.plyn := rfl
@[simp] theorem State.advanceToU_hst (k : Nat) : (s.advanceToU k).hst = s.hst := rfl
@[simp] theorem State.advanceToU_servo (k : Nat) : (s.advanceToU k).servo = s.servo := rfl
@[simp] theorem State.advanceToU_refs (k : Nat) : (s.advanceToU k).refs = s.refs := rfl
@[simp] theorem State.advanceToU_ports (k : Nat) : (s.advanceToU k).ports = s.ports := rfl
@[simp] theorem State.advanceToU_dies (k : Nat) : (s.advanceToU k).dies = s.dies := rfl
@[simp] theorem State.advanceToU_ledger (k : Nat) : (s.advanceToU k).ledger = s.ledger := rfl
@[simp] theorem State.advanceToU_faults (k : Nat) : (s.advanceToU k).faults = s.faults := rfl
@[simp] theorem State.advanceToU_synths (k : Nat) : (s.advanceToU k).synths = s.synths := rfl
@[simp] theorem State.advanceToU_outs (k : Nat) : (s.advanceToU k).outs = s.outs := rfl
@[simp] theorem State.advanceToU_trigs (k : Nat) : (s.advanceToU k).trigs = s.trigs := rfl
@[simp] theorem State.advanceToU_caps (k : Nat) : (s.advanceToU k).caps = s.caps := rfl
@[simp] theorem State.advanceToU_clk (k : Nat) : (s.advanceToU k).clk = s.clk := rfl
@[simp] theorem State.advanceToU_boot (k : Nat) : (s.advanceToU k).boot = s.boot := rfl
@[simp] theorem State.advanceToU_cals (k : Nat) : (s.advanceToU k).cals = s.cals := rfl
@[simp] theorem State.advanceToU_msixTab (k : Nat) : (s.advanceToU k).msixTab = s.msixTab := rfl
@[simp] theorem State.advanceToU_msixPend (k : Nat) : (s.advanceToU k).msixPend = s.msixPend := rfl
@[simp] theorem State.advanceToU_tapIr (k : Nat) : (s.advanceToU k).tapIr = s.tapIr := rfl
@[simp] theorem State.advanceToU_sent (k : Nat) : (s.advanceToU k).sent = s.sent := rfl

end Sys2Proof.Machine
end

