-- ==== Sys2Proof/Laws/Tab.lean ====
section
/-! SUPPORT. Sorted tables, memories and register fields: what a read gives after a write, and that writes keep the one
form. -/

namespace Sys2Proof.Machine

variable {α : Type}

/-! ### Tables -/

@[simp] theorem Tab.get?_set_self (t : Tab α) (k : Nat) (v : α) : Tab.get? (Tab.set t k v) k = some v := by
  induction t with
  | nil => simp [Tab.set, Tab.get?]
  | cons x t ih =>
    obtain ⟨k', v'⟩ := x
    simp only [Tab.set]
    split
    · simp [Tab.get?]
    · split
      · simp [Tab.get?]
      · simp_all [Tab.get?]

theorem Tab.get?_set_ne (t : Tab α) {k j : Nat} (v : α) (h : j ≠ k) : Tab.get? (Tab.set t k v) j = Tab.get? t j := by
  induction t with
  | nil => simp [Tab.set, Tab.get?, h.symm]
  | cons x t ih =>
    obtain ⟨k', v'⟩ := x
    simp only [Tab.set]
    split
    · simp [Tab.get?, h.symm]
    · split
      · subst_vars; simp [Tab.get?, h.symm]
      · simp [Tab.get?, ih]

@[simp] theorem Tab.get_set_self (d : α) (t : Tab α) (k : Nat) (v : α) : Tab.get d (Tab.set t k v) k = v := by
  simp [Tab.get]

theorem Tab.get_set_ne (d : α) (t : Tab α) {k j : Nat} (v : α) (h : j ≠ k) :
    Tab.get d (Tab.set t k v) j = Tab.get d t j := by simp [Tab.get, Tab.get?_set_ne t v h]

/-- Every key of a table is above `k`. -/
def Tab.above (k : Nat) (t : Tab α) : Prop := ∀ x ∈ t, k < x.1

theorem Tab.wf_cons {k : Nat} {v : α} {t : Tab α} : Tab.wf ((k, v) :: t) = true ↔ Tab.above k t ∧ Tab.wf t = true := by
  induction t generalizing k v with
  | nil => simp [Tab.wf, Tab.above]
  | cons x t ih =>
    obtain ⟨k', v'⟩ := x
    simp only [Tab.wf, Bool.and_eq_true, decide_eq_true_eq, Tab.above, List.mem_cons, forall_eq_or_imp]
    constructor
    · rintro ⟨h1, h2⟩
      exact ⟨⟨h1, fun x hx => lt_trans h1 ((ih.1 h2).1 x hx)⟩, h2⟩
    · rintro ⟨⟨h1, _⟩, h2⟩
      exact ⟨h1, h2⟩

theorem Tab.mem_set {t : Tab α} {k : Nat} {v : α} {x : Nat × α} (h : x ∈ Tab.set t k v) : x = (k, v) ∨ x ∈ t := by
  induction t with
  | nil => simp_all [Tab.set]
  | cons y t ih =>
    obtain ⟨k', v'⟩ := y
    simp only [Tab.set] at h
    split at h
    · simpa using h
    · split at h
      · simp only [List.mem_cons] at h ⊢; tauto
      · simp only [List.mem_cons] at h ⊢
        rcases h with h | h
        · exact Or.inr (Or.inl h)
        · rcases ih h with h | h
          · exact Or.inl h
          · exact Or.inr (Or.inr h)

theorem Tab.set_wf {t : Tab α} (k : Nat) (v : α) (h : Tab.wf t = true) : Tab.wf (Tab.set t k v) = true := by
  induction t with
  | nil => simp [Tab.set, Tab.wf]
  | cons x t ih =>
    obtain ⟨k', v'⟩ := x
    have ht := Tab.wf_cons.1 h
    simp only [Tab.set]
    split
    · rename_i hk
      refine Tab.wf_cons.2 ⟨?_, h⟩
      intro y hy
      rcases List.mem_cons.1 hy with rfl | hy
      · exact hk
      · exact lt_trans hk (ht.1 y hy)
    · split
      · rename_i e; subst e
        exact Tab.wf_cons.2 ⟨ht.1, ht.2⟩
      · rename_i h1 h2
        refine Tab.wf_cons.2 ⟨?_, ih ht.2⟩
        intro y hy
        rcases Tab.mem_set hy with rfl | hy
        · show k' < k
          omega
        · exact ht.1 y hy

theorem Tab.mem_del {t : Tab α} {k : Nat} {x : Nat × α} (h : x ∈ Tab.del t k) : x ∈ t := by
  induction t with
  | nil => simp [Tab.del] at h
  | cons y t ih =>
    obtain ⟨k', v'⟩ := y
    simp only [Tab.del] at h
    split at h
    · exact List.mem_cons_of_mem _ h
    · rcases List.mem_cons.1 h with rfl | h
      · exact List.mem_cons_self
      · exact List.mem_cons_of_mem _ (ih h)

theorem Tab.del_wf {t : Tab α} (k : Nat) (h : Tab.wf t = true) : Tab.wf (Tab.del t k) = true := by
  induction t with
  | nil => simp [Tab.del, Tab.wf]
  | cons x t ih =>
    obtain ⟨k', v'⟩ := x
    have ht := Tab.wf_cons.1 h
    simp only [Tab.del]
    split
    · exact ht.2
    · exact Tab.wf_cons.2 ⟨fun y hy => ht.1 y (Tab.mem_del hy), ih ht.2⟩

theorem Tab.filter_wf {t : Tab α} (p : Nat × α → Bool) (h : Tab.wf t = true) : Tab.wf (t.filter p) = true := by
  induction t with
  | nil => simp [Tab.wf]
  | cons x t ih =>
    obtain ⟨k', v'⟩ := x
    have ht := Tab.wf_cons.1 h
    simp only [List.filter_cons]
    split
    · exact Tab.wf_cons.2 ⟨fun y hy => ht.1 y (List.mem_of_mem_filter hy), ih ht.2⟩
    · exact ih ht.2

theorem Tab.get?_del_ne (t : Tab α) {k j : Nat} (h : j ≠ k) : Tab.get? (Tab.del t k) j = Tab.get? t j := by
  induction t with
  | nil => rfl
  | cons x t ih =>
    obtain ⟨k', v'⟩ := x
    simp only [Tab.del]
    split
    · subst_vars; simp [Tab.get?, h.symm]
    · simp [Tab.get?, ih]

theorem Tab.get?_above {t : Tab α} {k j : Nat} (h : Tab.above k t) (hj : j ≤ k) : Tab.get? t j = none := by
  induction t with
  | nil => rfl
  | cons x t ih =>
    obtain ⟨k', v'⟩ := x
    have h1 : k < k' := h (k', v') List.mem_cons_self
    simp only [Tab.get?]
    rw [if_neg (by omega)]
    exact ih (fun y hy => h y (List.mem_cons_of_mem _ hy))

theorem Tab.get?_del_self {t : Tab α} (k : Nat) (h : Tab.wf t = true) : Tab.get? (Tab.del t k) k = none := by
  induction t with
  | nil => rfl
  | cons x t ih =>
    obtain ⟨k', v'⟩ := x
    have ht := Tab.wf_cons.1 h
    simp only [Tab.del]
    split
    · subst_vars; exact Tab.get?_above ht.1 (le_refl _)
    · rename_i hne
      simp only [Tab.get?, if_neg hne]
      exact ih ht.2

/-! ### Host memory -/

theorem Memory.wf_iff {m : List Host.Cell} : Memory.wf m = true ↔ Tab.wf m = true ∧ ∀ c ∈ m, c.2 ≠ 0 := by
  simp [Memory.wf]

theorem memPut_wf {m : List Host.Cell} (a : Nat) (b : Byte) (h : Memory.wf m = true) : Memory.wf (memPut m a b) = true := by
  rw [Memory.wf_iff] at h ⊢
  unfold memPut
  split
  · exact ⟨Tab.del_wf a h.1, fun c hc => h.2 c (Tab.mem_del hc)⟩
  · rename_i hb
    refine ⟨Tab.set_wf a b h.1, fun c hc => ?_⟩
    rcases Tab.mem_set hc with rfl | hc
    · exact hb
    · exact h.2 c hc

theorem memPuts_wf {m : List Host.Cell} (a : Nat) (bs : List Byte) (h : Memory.wf m = true) :
    Memory.wf (memPuts m a bs) = true := by
  induction bs generalizing m a with
  | nil => exact h
  | cons b bs ih => exact ih _ (memPut_wf a b h)

theorem memPutCells_wf {m : List Host.Cell} (ws : List Host.Cell) (h : Memory.wf m = true) :
    Memory.wf (ws.foldl (fun m c => memPut m c.1 c.2) m) = true := by
  induction ws generalizing m with
  | nil => exact h
  | cons w ws ih => exact ih (memPut_wf w.1 w.2 h)

theorem memByte_memPut_ne (m : List Host.Cell) {a j : Nat} (b : Byte) (h : j ≠ a) : memByte (memPut m a b) j = memByte m j := by
  unfold memPut memByte Tab.get
  split
  · rw [Tab.get?_del_ne m h]
  · rw [Tab.get?_set_ne m b h]

theorem memByte_memPut_self {m : List Host.Cell} (a : Nat) (b : Byte) (h : Memory.wf m = true) :
    memByte (memPut m a b) a = b := by
  rw [Memory.wf_iff] at h
  unfold memPut memByte Tab.get
  split
  · rw [Tab.get?_del_self a h.1]; simp_all
  · simp

theorem memByte_memPuts_out (m : List Host.Cell) (a : Nat) (bs : List Byte) {j : Nat} (h : j < a ∨ a + bs.length ≤ j) :
    memByte (memPuts m a bs) j = memByte m j := by
  induction bs generalizing m a with
  | nil => rfl
  | cons b bs ih =>
    simp only [List.length_cons] at h
    rw [memPuts, ih _ _ (by omega), memByte_memPut_ne m b (by omega)]

theorem memByte_memPuts_in {m : List Host.Cell} (a : Nat) (bs : List Byte) (h : Memory.wf m = true) {i : Nat}
    (hi : i < bs.length) : memByte (memPuts m a bs) (a + i) = bs.getD i 0 := by
  induction bs generalizing m a i with
  | nil => simp at hi
  | cons b bs ih =>
    rw [memPuts]
    cases i with
    | zero => rw [memByte_memPuts_out _ _ _ (by omega), Nat.add_zero, memByte_memPut_self a b h]; rfl
    | succ i =>
      have := ih (a + 1) (memPut_wf a b h) (i := i) (by simpa using hi)
      rw [show a + (i + 1) = a + 1 + i by omega, this]; rfl

end Sys2Proof.Machine
end

