-- ==== Sys2Proof/Laws/Complete.lean ====
section
/-! SUPPORT. What reporting to the host can touch: the completion of an instruction, an event, an interrupt, an entry of
a ring. Each leaves everything but registers, rings, the issuer, the memories that DMA reaches, pending vectors and what was
sent, and keeps the canonical forms. -/

namespace Sys2Proof.Machine

/-- `t` differs from `s` at most where reporting to the host writes, and keeps the canonical forms. -/
structure Reports (s t : State) : Prop where
  rest : { t with regs := s.regs, rings := s.rings, plyn := s.plyn, env := s.env, msixPend := s.msixPend, sent := s.sent } = s
  env  : { t.env with mem := s.env.mem, bulk := s.env.bulk } = s.env
  mem  : s.memWf → t.memWf
  regs : s.regsWf → t.regsWf

theorem Reports.refl (s : State) : Reports s s := ⟨rfl, rfl, id, id⟩

theorem Reports.trans {s t u : State} (h : Reports s t) (k : Reports t u) : Reports s u := by
  refine ⟨?_, ?_, fun w => k.mem (h.mem w), fun w => k.regs (h.regs w)⟩
  · conv => rhs; rw [← h.rest, ← k.rest]
  · conv => rhs; rw [← h.env, ← k.env]

theorem Reports.foldl {α : Type} {f : State → α → State} (h : ∀ s x, Reports s (f s x)) (l : List α) (s : State) :
    Reports s (l.foldl f s) := by
  induction l generalizing s with
  | nil => exact .refl s
  | cons x l ih => exact (h s x).trans (ih _)

theorem Reports.ite {s t u : State} (p : Prop) [Decidable p] (h : Reports s t) (k : Reports s u) :
    Reports s (if p then t else u) := by
  split
  · exact h
  · exact k

/-- What each field that reporting leaves reads as afterwards. -/
theorem Reports.fields {s t : State} (h : Reports s t) :
    t.pending = s.pending ∧ t.freeCtr = s.freeCtr ∧ t.part = s.part ∧ t.tails = s.tails ∧ t.hst = s.hst ∧
    t.servo = s.servo ∧ t.refs = s.refs ∧ t.ports = s.ports ∧ t.dies = s.dies ∧ t.ledger = s.ledger ∧
    t.faults = s.faults ∧ t.synths = s.synths ∧ t.outs = s.outs ∧ t.trigs = s.trigs ∧ t.caps = s.caps ∧
    t.clk = s.clk ∧ t.boot = s.boot ∧ t.cals = s.cals ∧ t.msixTab = s.msixTab ∧ t.tapIr = s.tapIr := by
  rw [← h.rest]
  simp only [and_self]

theorem Reports.setReg (s : State) (loc off : Nat) (w : Word) : Reports s (s.setReg loc off w) :=
  ⟨rfl, rfl, id, fun h => Tab.set_wf _ _ h⟩

theorem Reports.put (s : State) (loc : Nat) (f : Fld) (v : Nat) : Reports s (s.put loc f v) := .setReg s _ _ _

theorem Reports.setRing (s : State) (n : Nat) (x : Ring) : Reports s (s.setRing n x) := ⟨rfl, rfl, id, id⟩

theorem Reports.send (s : State) (x : Sent) : Reports s (s.send x) := ⟨rfl, rfl, id, id⟩

theorem Reports.setFlight (s : State) (f : Flight) : Reports s (s.setFlight f) := ⟨rfl, rfl, id, id⟩

/-- A DMA write keeps the form of the memory it goes to; one that fails writes nothing (R443). -/
theorem Reports.dmaPut (s : State) (a : Nat) (bs : List Byte) : Reports s (s.dmaPut a bs) := by
  unfold State.dmaPut State.dmaWrite
  split
  · exact ⟨rfl, rfl, fun h => ⟨h.1, memPuts_wf _ _ h.2⟩, id⟩
  · exact ⟨rfl, rfl, fun h => ⟨memPuts_wf _ _ h.1, h.2⟩, id⟩
  · exact .refl s

theorem Reports.msix (s : State) (v : Nat) : Reports s (s.msix v) := by
  unfold State.msix
  split
  · exact ⟨rfl, rfl, id, id⟩
  · exact .send s _

theorem Reports.fpInt (s : State) (b : Nat) : Reports s (s.fpInt b) := by
  unfold State.fpInt
  have h : Reports s ((s.put locFp ⟨0x24, b, 1⟩ 1).bump locFp (R.FP_INT_CNT_COUNT b)) := (Reports.put ..).trans (.put ..)
  dsimp only
  split
  · exact h.trans (.msix _ _)
  · exact h

theorem Reports.ringTest (s : State) (n : Nat) : Reports s (s.ringTest n) := by
  unfold State.ringTest
  split
  · exact (Reports.msix s _).trans (.put _ _ _ _)
  · exact .refl s

theorem Reports.pushEntry (s : State) (n len e : Nat) : Reports s (s.pushEntry n len e) := by
  unfold State.pushEntry
  exact ((Reports.dmaPut s _ _).trans (.setRing _ _ _)).trans (.ringTest _ _)

theorem Reports.haltOn (s : State) (ring status : Nat) : Reports s (s.haltOn ring status) := by
  unfold State.haltOn
  split
  · exact (Reports.setRing s _ _).trans (.fpInt _ _)
  · exact .refl s

theorem Reports.retire (s : State) (f : Flight) : Reports s (s.retire f) :=
  (Reports.setFlight s _).trans (.setRing _ _ _)

theorem Reports.endSeries (s : State) (f : Flight) (status detail : Nat) : Reports s (s.endSeries f status detail) := by
  unfold State.endSeries
  dsimp only
  split
  · exact ((Reports.haltOn s _ _).trans (.pushEntry _ _ _ _)).trans (.retire _ _)
  · exact (Reports.haltOn s _ _).trans (.setFlight _ _)

theorem Reports.afterRec (s : State) (f : Flight) (status : Nat) : Reports s (s.afterRec f status) := by
  unfold State.afterRec
  split
  · exact .retire s f
  · split
    · exact .endSeries s f _ _
    · dsimp only
      split
      · exact .setFlight s _
      · exact .endSeries s f _ _

theorem Reports.deliver (s : State) (f : Flight) (status detail result time : Nat) :
    Reports s (s.deliver f status detail result time) := by
  unfold State.deliver
  split
  · split
    · exact (Reports.pushEntry s _ _ _).trans (.afterRec _ _ _)
    · exact .setFlight s _
  · exact .afterRec s f status

/-- A completion touches nothing but what reporting touches (R55, R62, R72). -/
theorem Reports.complete (s : State) (n : Nat) (c : Compl) : Reports s (s.complete n c) := by
  unfold State.complete
  split
  · exact .refl s
  · dsimp only
    refine Reports.trans ?_ (.deliver _ _ _ _ _ _)
    refine Reports.trans ?_ (Reports.ite _ (.setRing _ _ _) (.refl _))
    exact (Reports.ite _ (.put _ _ _ _) (.refl _)).trans (.haltOn _ _ _)

theorem Reports.completeOpt (s : State) (n : Option Nat) (c : Compl) : Reports s (s.completeOpt n c) := by
  cases n with
  | none => exact .refl s
  | some n => exact .complete s n c

theorem Reports.wakeWaits (s : State) (kind result time : Nat) : Reports s (s.wakeWaits kind result time) :=
  Reports.foldl (f := fun (t : State) (f : Flight) => t.complete f.num _) (fun t f => .complete t f.num _) _ s

/-- An event touches nothing but what reporting touches, whether its record is written or dropped (R410, R433). -/
theorem Reports.event (s : State) (kind result time : Nat) (ovr : Option Nat) : Reports s (s.event kind result time ovr).1 := by
  unfold State.event
  refine (Reports.wakeWaits s kind result time).trans ?_
  dsimp only
  split
  · exact .refl _
  · split
    · exact .pushEntry _ _ _ _
    · exact (Reports.setRing _ _ _).trans (.fpInt _ _)

/-- A completion of an instruction that is not issued is none. -/
theorem State.complete_none {s : State} {n : Nat} (c : Compl) (h : s.flight n = none) : s.complete n c = s := by
  unfold State.complete
  rw [h]

end Sys2Proof.Machine
end

