-- ==== Sys2Proof/Laws/Collect.lean ====
section
/-! SUPPORT. What logging a fault can touch (R370 to R375): the collector's registers, and what an event and an interrupt
touch. -/

namespace Sys2Proof.Machine

theorem Reports.bump (s : State) (loc : Nat) (f : Fld) : Reports s (s.bump loc f) := .put s _ _ _

theorem Reports.putPair (s : State) (loc : Nat) (lo hi : Fld) (v : Nat) : Reports s (s.putPair loc lo hi v) :=
  (Reports.put s _ _ _).trans (.put _ _ _ _)

theorem Reports.latch (s : State) (base msg time : Nat) : Reports s (s.latch base msg time) := by
  unfold State.latch
  exact .ite _ ((Reports.put s _ _ _).trans (.bump _ _ _)) (((Reports.putPair s _ _ _ _).trans (.putPair _ _ _ _ _)).trans (.put _ _ _ _))

theorem Reports.faultNSync (s : State) : Reports s s.faultNSync := by
  unfold State.faultNSync
  have h : Reports s (s.putB locCol R.FLT_STAT_FAULT_N_LOW s.faultNCond) := .put s _ _ _
  exact .ite _ (h.trans (.fpInt _ _)) h

/-- A fault that is logged touches nothing but what reporting touches; its reaction is apart (R366, R370). -/
theorem Reports.logFault (s : State) (m : FaultMsg) : Reports s (s.logFault m) := by
  unfold State.logFault
  dsimp only
  refine Reports.trans ?_ (.faultNSync _)
  refine Reports.trans ?_ (.ite _ (.event _ _ _ _ _) (.refl _))
  refine Reports.trans ?_ (.ite _ (.latch _ _ _ _) (.refl _))
  refine Reports.trans ?_ (.ite _ (.latch _ _ _ _) (.refl _))
  refine ((((Reports.trans ?_ (.putPair _ _ _ _ _)).trans (.put _ _ _ _)).trans (.put _ _ _ _)).trans (.put _ _ _ _)).trans
    (.bump _ _ _)
  exact (Reports.ite _ (.bump _ _ _) (.refl _)).trans (.putPair _ _ _ _ _)

end Sys2Proof.Machine
end

