-- ==== Sys2Proof/Laws/Reg.lean ====
section
/-! SUPPORT. Registers and their fields: what a read gives after a write to the same field, to another field of the register,
and to another register. -/

namespace Sys2Proof.Machine

theorem fset_toNat (w : Word) {lo len v : Nat} (h : lo + len ≤ 32) :
    (fset w lo len v).toNat = w.toNat / 2 ^ (lo + len) * 2 ^ (lo + len) + v % 2 ^ len * 2 ^ lo + w.toNat % 2 ^ lo := by
  have hw : w.toNat < 2 ^ 32 := w.isLt
  have h1 : v % 2 ^ len < 2 ^ len := Nat.mod_lt _ (Nat.two_pow_pos _)
  have h2 : w.toNat % 2 ^ lo < 2 ^ lo := Nat.mod_lt _ (Nat.two_pow_pos _)
  have h3 : v % 2 ^ len * 2 ^ lo + w.toNat % 2 ^ lo < 2 ^ (lo + len) := by
    have : (v % 2 ^ len + 1) * 2 ^ lo ≤ 2 ^ len * 2 ^ lo := Nat.mul_le_mul_right _ h1
    rw [Nat.add_mul, ← Nat.pow_add, Nat.add_comm len lo] at this
    omega
  have h4 : w.toNat / 2 ^ (lo + len) + 1 ≤ 2 ^ (32 - (lo + len)) := by
    rw [Nat.succ_le_iff, Nat.div_lt_iff_lt_mul (Nat.two_pow_pos _), ← Nat.pow_add]
    rwa [Nat.sub_add_cancel h]
  have h5 : (w.toNat / 2 ^ (lo + len) + 1) * 2 ^ (lo + len) ≤ 2 ^ 32 := by
    calc _ ≤ 2 ^ (32 - (lo + len)) * 2 ^ (lo + len) := Nat.mul_le_mul_right _ h4
      _ = 2 ^ 32 := by rw [← Nat.pow_add, Nat.sub_add_cancel h]
  rw [Nat.add_mul] at h5
  simp only [fset, BitVec.toNat_ofNat]
  exact Nat.mod_eq_of_lt (by omega)

/-- A field reads back what was stored in it, cut to its width. -/
theorem fget_fset_self (w : Word) {lo len v : Nat} (h : lo + len ≤ 32) : fget (fset w lo len v) lo len = v % 2 ^ len := by
  have h2 : w.toNat % 2 ^ lo < 2 ^ lo := Nat.mod_lt _ (Nat.two_pow_pos _)
  rw [fget, bits, fset_toNat w h, Nat.pow_add]
  have e : w.toNat / (2 ^ lo * 2 ^ len) * (2 ^ lo * 2 ^ len) + v % 2 ^ len * 2 ^ lo + w.toNat % 2 ^ lo
      = 2 ^ lo * (w.toNat / (2 ^ lo * 2 ^ len) * 2 ^ len + v % 2 ^ len) + w.toNat % 2 ^ lo := by ring
  rw [e, Nat.mul_add_div (Nat.two_pow_pos _), Nat.div_eq_of_lt h2, Nat.add_zero, Nat.add_comm, Nat.add_mul_mod_self_right, Nat.mod_mod]

/-- Storing a field leaves every field above and below it. -/
theorem fget_fset_other (w : Word) {lo len v lo' len' : Nat} (h : lo + len ≤ 32)
    (hd : lo' + len' ≤ lo ∨ lo + len ≤ lo') : fget (fset w lo len v) lo' len' = fget w lo' len' := by
  have h1 : v % 2 ^ len < 2 ^ len := Nat.mod_lt _ (Nat.two_pow_pos _)
  have h2 : w.toNat % 2 ^ lo < 2 ^ lo := Nat.mod_lt _ (Nat.two_pow_pos _)
  rw [fget, fget, bits, bits, fset_toNat w h]
  rcases hd with hd | hd
  · obtain ⟨k, rfl⟩ : ∃ k, lo = lo' + len' + k := ⟨lo - (lo' + len'), by omega⟩
    have e : w.toNat / 2 ^ (lo' + len' + k + len) * 2 ^ (lo' + len' + k + len) + v % 2 ^ len * 2 ^ (lo' + len' + k)
        + w.toNat % 2 ^ (lo' + len' + k)
        = (w.toNat / 2 ^ (lo' + len' + k + len) * 2 ^ len + v % 2 ^ len) * 2 ^ k * 2 ^ (lo' + len')
          + w.toNat % 2 ^ (lo' + len' + k) := by
      rw [Nat.pow_add 2 (lo' + len' + k) len, Nat.pow_add 2 (lo' + len') k]; ring
    have m : ∀ x : Nat, x / 2 ^ lo' % 2 ^ len' = x % 2 ^ (lo' + len') / 2 ^ lo' := by
      intro x
      rw [Nat.pow_add, Nat.mod_mul_right_div_self]
    rw [m, m, e, Nat.add_comm, Nat.add_mul_mod_self_right, Nat.mod_mod_of_dvd _ (Nat.pow_dvd_pow 2 (by omega))]
  · obtain ⟨k, rfl⟩ : ∃ k, lo' = lo + len + k := ⟨lo' - (lo + len), by omega⟩
    have h3 : v % 2 ^ len * 2 ^ lo + w.toNat % 2 ^ lo < 2 ^ (lo + len) := by
      have : (v % 2 ^ len + 1) * 2 ^ lo ≤ 2 ^ len * 2 ^ lo := Nat.mul_le_mul_right _ h1
      rw [Nat.add_mul, ← Nat.pow_add, Nat.add_comm len lo] at this
      omega
    congr 1
    rw [Nat.pow_add 2 (lo + len) k, ← Nat.div_div_eq_div_mul, ← Nat.div_div_eq_div_mul]
    congr 1
    rw [Nat.add_assoc, Nat.add_comm, Nat.add_mul_div_right _ _ (Nat.two_pow_pos _), Nat.div_eq_of_lt h3, Nat.zero_add]

theorem regKey_inj {l o l' o' : Nat} (h : o < 16777216) (h' : o' < 16777216) (e : regKey l o = regKey l' o') :
    l = l' ∧ o = o' := by
  unfold regKey at e
  omega

@[simp] theorem State.reg_setReg_self (s : State) (loc off : Nat) (w : Word) : (s.setReg loc off w).reg loc off = w := by
  simp [State.reg, State.setReg]

theorem State.reg_setReg_ne (s : State) {loc off l o : Nat} (w : Word) (h : regKey l o ≠ regKey loc off) :
    (s.setReg loc off w).reg l o = s.reg l o := by
  simp [State.reg, State.setReg, Tab.get?_set_ne _ _ h]

theorem State.reg_setReg_loc (s : State) {loc off l o : Nat} (w : Word) (h : l ≠ loc) (h1 : off < 16777216)
    (h2 : o < 16777216) : (s.setReg loc off w).reg l o = s.reg l o :=
  s.reg_setReg_ne w (fun e => h (regKey_inj h2 h1 e).1)

theorem State.reg_setReg_off (s : State) {loc off o : Nat} (w : Word) (h : o ≠ off) :
    (s.setReg loc off w).reg loc o = s.reg loc o :=
  s.reg_setReg_ne w (fun e => h (by unfold regKey at e; omega))

theorem State.reg_put_loc (s : State) {loc l o : Nat} {f : Fld} (v : Nat) (h : l ≠ loc) (h1 : f.off < 16777216)
    (h2 : o < 16777216) : (s.put loc f v).reg l o = s.reg l o := s.reg_setReg_loc _ h h1 h2

theorem State.reg_put_off (s : State) {loc o : Nat} {f : Fld} (v : Nat) (h : o ≠ f.off) :
    (s.put loc f v).reg loc o = s.reg loc o := s.reg_setReg_off _ h

/-- A field reads back what was put there, cut to its width. -/
theorem State.fld_put_self (s : State) (loc : Nat) {f : Fld} (v : Nat) (h : f.lo + f.len ≤ 32) :
    (s.put loc f v).fld loc f = v % 2 ^ f.len := by
  simp [State.fld, State.put, fget_fset_self _ h]

/-- A put leaves every other field of the same register. -/
theorem State.fld_put_field (s : State) (loc : Nat) {f g : Fld} (v : Nat) (h : f.lo + f.len ≤ 32) (ho : g.off = f.off)
    (hd : g.lo + g.len ≤ f.lo ∨ f.lo + f.len ≤ g.lo) : (s.put loc f v).fld loc g = s.fld loc g := by
  simp only [State.fld, State.put, ho, State.reg_setReg_self]
  exact fget_fset_other _ h hd

/-- A put leaves every field of another offset. -/
theorem State.fld_put_off (s : State) (loc : Nat) {f g : Fld} (v : Nat) (h : g.off ≠ f.off) :
    (s.put loc f v).fld loc g = s.fld loc g := by simp only [State.fld, s.reg_put_off v h]

/-- A put leaves every field of another location. -/
theorem State.fld_put_loc (s : State) {loc l : Nat} {f g : Fld} (v : Nat) (h : l ≠ loc) (h1 : f.off < 16777216)
    (h2 : g.off < 16777216) : (s.put loc f v).fld l g = s.fld l g := by simp only [State.fld, s.reg_put_loc v h h1 h2]

/-- What a register read depends on. -/
theorem State.reg_congr {s t : State} (hr : t.regs = s.regs) (hp : t.part = s.part) (loc off : Nat) :
    t.reg loc off = s.reg loc off := by simp [State.reg, hr, hp]

theorem State.fld_congr {s t : State} (hr : t.regs = s.regs) (hp : t.part = s.part) (loc : Nat) (f : Fld) :
    t.fld loc f = s.fld loc f := by simp [State.fld, State.reg_congr hr hp]

/-! ### Entries of the other tables -/

@[simp] theorem State.ring_setRing_self (s : State) (n : Nat) (x : Ring) : (s.setRing n x).ring n = x := by simp [State.ring]
theorem State.ring_setRing_ne (s : State) {n m : Nat} (x : Ring) (h : m ≠ n) : (s.setRing n x).ring m = s.ring m := by
  simp [State.ring, Tab.get_set_ne _ _ _ h]
@[simp] theorem State.tail_setTail_self (s : State) (n : Nat) (x : Tailstock) : (s.setTail n x).tail n = x := by simp [State.tail]
theorem State.tail_setTail_ne (s : State) {n m : Nat} (x : Tailstock) (h : m ≠ n) : (s.setTail n x).tail m = s.tail m := by
  simp [State.tail, Tab.get_set_ne _ _ _ h]
@[simp] theorem State.port_setPort_self (s : State) (d p : Nat) (x : Port) : (s.setPort d p x).port d p = x := by simp [State.port]
theorem State.port_setPort_ne (s : State) {d p e q : Nat} (x : Port) (h : portKey e q ≠ portKey d p) :
    (s.setPort d p x).port e q = s.port e q := by simp [State.port, Tab.get_set_ne _ _ _ h]
@[simp] theorem State.die_setDie_self (s : State) (n : Nat) (x : Die) : (s.setDie n x).die n = x := by simp [State.die]
theorem State.die_setDie_ne (s : State) {n m : Nat} (x : Die) (h : m ≠ n) : (s.setDie n x).die m = s.die m := by
  simp [State.die, Tab.get_set_ne _ _ _ h]
@[simp] theorem State.ref_setRef_self (s : State) (n : Nat) (x : RefSlot) : (s.setRef n x).ref n = x := by simp [State.ref]
theorem State.ref_setRef_ne (s : State) {n m : Nat} (x : RefSlot) (h : m ≠ n) : (s.setRef n x).ref m = s.ref m := by
  simp [State.ref, Tab.get_set_ne _ _ _ h]
@[simp] theorem State.synth_setSynth_self (s : State) (n : Nat) (x : Synth) : (s.setSynth n x).synth n = x := by simp [State.synth]
@[simp] theorem State.out_setOut_self (s : State) (n : Nat) (x : OutLive) : (s.setOut n x).out n = x := by simp [State.out]
theorem State.out_setOut_ne (s : State) {n m : Nat} (x : OutLive) (h : m ≠ n) : (s.setOut n x).out m = s.out m := by
  simp [State.out, Tab.get_set_ne _ _ _ h]
@[simp] theorem State.trig_setTrig_self (s : State) (n : Nat) (x : Trig) : (s.setTrig n x).trig n = x := by simp [State.trig]
theorem State.trig_setTrig_ne (s : State) {n m : Nat} (x : Trig) (h : m ≠ n) : (s.setTrig n x).trig m = s.trig m := by
  simp [State.trig, Tab.get_set_ne _ _ _ h]
@[simp] theorem State.cap_setCap_self (s : State) (n : Nat) (x : Cap) : (s.setCap n x).cap n = x := by simp [State.cap]
theorem State.cap_setCap_ne (s : State) {n m : Nat} (x : Cap) (h : m ≠ n) : (s.setCap n x).cap m = s.cap m := by
  simp [State.cap, Tab.get_set_ne _ _ _ h]

end Sys2Proof.Machine
end

