-- ==== Sys2Proof/Laws/Relka.lean ====
section
/-! SUPPORT. The blocks of a Relka message carry it whole (R119). -/

namespace Sys2Proof.Machine

/-- A block carries the 44 bits of the message at its INDEX, under its KIND and INDEX. -/
theorem blockData_relkaBlock (kind msg i : Nat) : blockData (relkaBlock kind msg i) = msg / 2 ^ (44 * i) % 2 ^ 44 := by
  have h : msg / 2 ^ (44 * i + 16) = msg / 2 ^ (44 * i) / 2 ^ 16 := by rw [Nat.pow_add, Nat.div_div_eq_div_mul]
  simp only [blockData, relkaBlock, bits, h]
  omega

theorem blockKind_relkaBlock (kind msg i : Nat) : blockKind (relkaBlock kind msg i) = kind % 16 := by
  simp only [blockKind, relkaBlock, bits]; omega

theorem blockIndex_relkaBlock (kind msg i : Nat) : blockIndex (relkaBlock kind msg i) = i % 16 := by
  simp only [blockIndex, relkaBlock, bits]; omega

theorem blocksMsg_range' (kind msg n j : Nat) :
    blocksMsg ((List.range' j n).map (relkaBlock kind msg)) = msg / 2 ^ (44 * j) % 2 ^ (44 * n) := by
  induction n generalizing j with
  | zero => simp [blocksMsg, Nat.mod_one]
  | succ n ih =>
    have h : msg / 2 ^ (44 * (j + 1)) = msg / 2 ^ (44 * j) / 2 ^ 44 := by
      rw [Nat.mul_add, Nat.pow_add, Nat.div_div_eq_div_mul]
    rw [List.range'_succ, List.map_cons, blocksMsg, ih, blockData_relkaBlock, h, Nat.mul_add 44 n 1, Nat.mul_one,
      Nat.pow_add, Nat.mul_comm (2 ^ (44 * n)) (2 ^ 44), Nat.mod_mul]

/-- What a message's blocks carry is the message, as many bits of it as its KIND has. -/
theorem blocksMsg_relkaBlocks (kind msg : Nat) : blocksMsg (relkaBlocks kind msg) = msg % 2 ^ (44 * relkaLen kind) := by
  have h := blocksMsg_range' kind msg (relkaLen kind) 0
  simpa [relkaBlocks, List.range_eq_range'] using h

end Sys2Proof.Machine
end

