-- ==== Sys2Proof/Laws/Start.lean ====
section
/-! SUPPORT. Issued instructions: finding and replacing them, and what a row that starts one does. -/

namespace Sys2Proof.Machine

theorem State.flight_num {s : State} {n : Nat} {f : Flight} (h : s.flight n = some f) : f.num = n := by
  simpa using List.find?_some h

theorem State.flight_setFlight_self {s : State} {f g : Flight} (h : s.flight f.num = some g) :
    (s.setFlight f).flight f.num = some f := by
  unfold State.flight State.setFlight at *
  generalize s.plyn.flights = l at *
  induction l with
  | nil => simp at h
  | cons x l ih =>
    simp only [List.map_cons, List.find?_cons]
    by_cases e : x.num = f.num
    · simp [e]
    · simp only [if_neg e]
      have e' : (x.num == f.num) = false := by simpa using e
      rw [List.find?_cons, e'] at h
      simp only [e']
      exact ih h

theorem State.flight_setFlight_ne {s : State} {f : Flight} {m : Nat} (h : m ≠ f.num) :
    (s.setFlight f).flight m = s.flight m := by
  unfold State.flight State.setFlight
  generalize s.plyn.flights = l
  induction l with
  | nil => rfl
  | cons x l ih =>
    simp only [List.map_cons, List.find?_cons]
    by_cases e : x.num = f.num
    · have e1 : (f.num == m) = false := by simpa using fun h' => h h'.symm
      have e2 : (x.num == m) = false := by rw [e]; exact e1
      simp only [if_pos e, e1, e2]
      exact ih
    · simp only [if_neg e]
      split <;> simp_all

/-- What a state reads as for issued instructions depends on the issuer alone. -/
theorem State.flight_congr {s t : State} (h : t.plyn = s.plyn) (n : Nat) : t.flight n = s.flight n := by
  simp [State.flight, h]

theorem State.flight_setPhase_self {s : State} {n : Nat} {f : Flight} (p : Phase) (h : s.flight n = some f) :
    (s.setPhase n p).flight n = some { f with phase := p } := by
  have e := State.flight_num h
  unfold State.setPhase
  rw [h]
  have := State.flight_setFlight_self (f := { f with phase := p }) (s := s) (g := f) (by simpa [e] using h)
  simpa [e] using this

theorem State.setPhase_rest (s : State) (n : Nat) (p : Phase) : { s.setPhase n p with plyn := s.plyn } = s := by
  unfold State.setPhase
  split <;> rfl

theorem State.begins_iff {s : State} {n : Nat} {form : Cmd → Bool} {f : Flight} :
    s.begins n form = some f ↔
      s.flight n = some f ∧ f.phase = .issued ∧ f.cmd.timed = false ∧ form f.cmd = true ∧ s.mayStart f = true := by
  unfold State.begins
  split
  · simp_all
  · rename_i g hg
    rw [hg]
    constructor
    · intro h
      split at h
      · cases h; simp_all
      · cases h
    · rintro ⟨h1, h2, h3, h4, h5⟩
      cases h1
      simp_all

/-- A row whose instruction starts at one location does what its meaning does there, and completes it unless it goes on. -/
theorem Starts.startRow {form : Cmd → Bool} {m : Meaning} {n : Nat} {f : Flight} {s : State} (h : Starts form m n f s) :
    Sys2Proof.Machine.startRow s n form m = .next (m.finish f s (m.run f f.cmd.loc s)) := by
  have hb : f.cmd.isCast = false := by
    cases hd : f.cmd.isCast
    · rfl
    · simp only [Cmd.isCast, Bool.and_eq_true, beq_iff_eq] at hd
      simp [h.one hd.1] at hd
  unfold Sys2Proof.Machine.startRow Meaning.exec Meaning.eff
  simp only [h.begins, h.operands, hb, h.legal, Bool.false_eq_true, if_false]

/-- An effect that goes on is the state it leaves. -/
theorem Meaning.finish_goes {m : Meaning} {f : Flight} {s : State} {r : Eff} (h : r.2 = none) : m.finish f s r = r.1 := by
  simp only [Meaning.finish, h]

/-- An effect that completes, and is not refused tokens in the background (R64), completes the instruction. -/
theorem Meaning.finish_completes {m : Meaning} {f : Flight} {s : State} {r : Eff} {c : Compl} (h : r.2 = some c)
    (k : f.cmd.bg = false ∨ c.status ≠ stDenied) : m.finish f s r = r.1.complete f.num c := by
  have e : f.awaits c = false := by
    unfold Flight.awaits
    rcases k with k | k
    · simp [k]
    · simp [k]
  simp only [Meaning.finish, h, e, Bool.false_eq_true, if_false]

/-- A refusal of tokens in the background has no effect but the wait (R64). -/
theorem Meaning.finish_awaits {m : Meaning} {f : Flight} {s : State} {r : Eff} {c : Compl} (h : r.2 = some c)
    (k : f.cmd.bg = true) (d : c.status = stDenied) : m.finish f s r = m.await f s := by
  have e : f.awaits c = true := by simp [Flight.awaits, k, d]
  simp only [Meaning.finish, h, e, if_true]

theorem Starts.num {form : Cmd → Bool} {m : Meaning} {n : Nat} {f : Flight} {s : State} (h : Starts form m n f s) :
    f.num = n := State.flight_num (State.begins_iff.1 h.begins).1

theorem Starts.flight {form : Cmd → Bool} {m : Meaning} {n : Nat} {f : Flight} {s : State} (h : Starts form m n f s) :
    s.flight n = some f := (State.begins_iff.1 h.begins).1

theorem Starts.form {form : Cmd → Bool} {m : Meaning} {n : Nat} {f : Flight} {s : State} (h : Starts form m n f s) :
    form f.cmd = true := (State.begins_iff.1 h.begins).2.2.2.1

/-- An instruction that goes on: its own phase, nothing else. -/
theorem State.goesOn_spec {s : State} {n : Nat} {f : Flight} (d : Nat) (h : s.flight n = some f) :
    (s.goesOn n d).2 = none ∧ (s.goesOn n d).1.flight n = some { f with phase := .exec d } ∧
      { (s.goesOn n d).1 with plyn := s.plyn } = s :=
  ⟨rfl, State.flight_setPhase_self _ h, State.setPhase_rest s n _⟩

theorem State.going_iff {s : State} {n : Nat} {form : Cmd → Bool} {f : Flight} {d : Nat} :
    s.going n form = some (f, d) ↔ s.flight n = some f ∧ f.phase = .exec d ∧ form f.cmd = true := by
  unfold State.going
  split
  · simp_all
  · rename_i g hg
    rw [hg]
    split
    · rename_i t ht
      constructor
      · intro h
        split at h
        · cases h; exact ⟨rfl, ht, ‹_›⟩
        · cases h
      · rintro ⟨h1, h2, h3⟩
        cases h1
        rw [ht] at h2
        cases h2
        simp [h3]
    · rename_i hn
      constructor
      · intro h; cases h
      · rintro ⟨h1, h2, h3⟩
        cases h1
        exact absurd h2 (hn d)

end Sys2Proof.Machine
end

