-- ==== Sys2Proof/Laws/Time.lean ====
section
/-! SUPPORT. What the passing of time does (R82, R85): the counts of the six tailstocks grow alike, nothing else moves. -/

namespace Sys2Proof.Machine

/-- Every tailstock counts, timescale and monotonic count alike (R82, R85). -/
theorem State.tail_advance (s : State) (k : Nat) {t : Nat} (h : t < 6) :
    (s.advance k).tail t = { s.tail t with n := (s.tail t).n + k, m := (s.tail t).m + k } := by
  have h6 : t = 0 ∨ t = 1 ∨ t = 2 ∨ t = 3 ∨ t = 4 ∨ t = 5 := by omega
  rcases h6 with rfl | rfl | rfl | rfl | rfl | rfl <;> rfl

theorem State.advance_rest (s : State) (k : Nat) : { s.advance k with tails := s.tails } = s := rfl

theorem State.now_advance (s : State) (k : Nat) : (s.advance k).now = s.now + k := by
  simp only [State.now, s.tail_advance k (t := 5) (by omega)]

/-- The timescale moves by the nominal tick (R82). -/
theorem State.fu_advance (s : State) (k : Nat) {t : Nat} (h : t < 6) :
    ((s.advance k).tail t).fu = (s.tail t).fu + k * fuTick := by
  rw [s.tail_advance k h]
  show ((s.tail t).n + k) * fuTick + (s.tail t).f = (s.tail t).n * fuTick + (s.tail t).f + k * fuTick
  rw [Nat.add_mul]
  omega

/-- A tick that is due is reached; one that is past leaves the count. -/
theorem State.now_advanceTo (s : State) (tick : Nat) : (s.advanceTo tick).now = max s.now tick := by
  rw [State.advanceTo, s.now_advance]
  omega

theorem State.advanceTo_rest (s : State) (tick : Nat) : { s.advanceTo tick with tails := s.tails } = s := rfl

/-- A time that is due is reached on the event tailstock (R82). -/
theorem State.fu_advanceToU (s : State) (u : Nat) : 5 * u ≤ ((s.advanceToU u).tail 5).fu := by
  rw [State.advanceToU, s.fu_advance _ (t := 5) (by omega)]
  unfold ceilDiv fuTick
  omega

theorem State.advanceToU_rest (s : State) (u : Nat) : { s.advanceToU u with tails := s.tails } = s := rfl

end Sys2Proof.Machine
end

