-- ==== Sys2Proof/WellFormed.lean ====
section
/-! DEFINITION. The operand ranges of the commands: the instances that exist (R17, R19 to R21, R44, R323) and the
widths of the values (R7). A command outside them names nothing the part has; `exec` leaves the state as it is. -/

namespace Sys2Proof

/-- A port of an S-die (R19). -/
def wfPort (die port : Nat) : Bool := decide (die < 4) && decide (port < 72)

/-- A ring of one kind (R44). -/
def wfRing (lo hi ring : Nat) : Bool := decide (lo ≤ ring) && decide (ring < hi)

/-- A bridge endpoint, 0 to 2 for units 24 to 26 (R17). -/
def wfBridge (die ep : Nat) : Bool := decide (die < 4) && decide (ep < 3)

/-- A path pinning bucket towards another die (R276). -/
def wfBucket (die bucket far : Nat) : Bool :=
  decide (die < 4) && decide (bucket < 256) && decide (far < 4) && far != die

/-- The blocks of a Relka message: 64 bits each (R119). -/
def wfBlocks (bs : List Nat) : Bool := bs.all (fun b => decide (b < 2 ^ 64))

/-- Whether a command names instances and values that exist. -/
def Instr.wf : Instr → Bool
  | .outRelockDone k => decide (k < 4)
  | .synthUnlock k => decide (k < 4)
  | .doorbellWrite r v _ => wfRing 0 128 r && decide (v < 2 ^ 32)
  | .ringCtrlWrite r v => wfRing 0 128 r && decide (v < 2 ^ 32)
  | .ringResume r => wfRing 0 32 r
  | .commandRingReset r => wfRing 0 32 r
  | .ringResetDone r => wfRing 0 32 r
  | .completionRingReset r => wfRing 32 64 r
  | .packetRingReset r => wfRing 64 128 r
  | .faceplateWrite off v w => decide (off < 65536) && off % (if w then 8 else 4) == 0 && decide (v < 2 ^ (if w then 64 else 32))
  | .rcRegisterRead off => decide (off < 65536) && off % 4 == 0
  | .fpIntWrite off v => (off == 0x24 || off == 0x28) && decide (v < 2 ^ 32)
  | .msixUnmask v => decide (v < 256)
  | .ringIntTimer r => wfRing 32 128 r
  | .fpBootGo v _ => decide (v < 2 ^ 32)
  | .fpReset v _ => decide (v < 2 ^ 32)
  | .tailstockLrefFreeze t => decide (t < 6)
  | .pllCoast p => decide (p < 23)
  | .pllRelockDone p => decide (p < 23)
  | .pllRelockTimeout p => decide (p < 23)
  | .gateIdle l => decide (l < 65536)
  | .gateTimeout l => decide (l < 65536)
  | .spindleWordReceive t _ flips => decide (t < 6) && decide (flips < 2 ^ 320)
  | .spindleSilent t => decide (t < 6)
  | .todMessage bs => bs.length == 11
  | .refActivityFail i => decide (i < 8)
  | .refGateEnd ms => ms.all (fun m => decide (m.slot < 8))
  | .frameReceive d p _ line => wfPort d p && line.heads.all (fun h => decide (h < 4))
  | .pipelineFrame d p => wfPort d p
  | .frameTransmit d p => wfPort d p
  | .pktFromHostEntry r => wfRing 96 128 r
  | .pfcFrameReceive d p e q => wfPort d p && decide (e < 256) && q.length == 8
  | .pfcPauseExpiry d p i => wfPort d p && decide (i < 8)
  | .pfcRefresh d p i => wfPort d p && decide (i < 8)
  | .egressStatusBroadcast d => decide (d < 4)
  | .bridgeFlitReceive d e l => wfBridge d e && l.all (fun k => decide (k < 18))
  | .bridgeLaneFail d e l => wfBridge d e && decide (l < 18)
  | .bridgeFailoverDone d e => wfBridge d e
  | .bridgeDown d e => wfBridge d e
  | .bridgeUp d e => wfBridge d e
  | .drainGapEnd d b f => wfBucket d b f
  | .drainGapExpiry d b f => wfBucket d b f
  | .flapHoldExpiry d p => wfPort d p
  | .frerResetTimeout d st => decide (d < 4) && decide (st < 4096)
  | .duplicateEntryForget d st _ _ => decide (d < 4) && decide (st < 4096)
  | .signalDetect d p => wfPort d p
  | .autonegComplete d x => wfPort d x.port
  | .trainingComplete d p => wfPort d p
  | .trainingFail d p => wfPort d p
  | .lockComplete d p _ => wfPort d p
  | .lockTimeout d p => wfPort d p
  | .measuringDone d p m => wfPort d p && decide (m.nDsk ≤ 191)
  | .lossCondition d p c => wfPort d p && decide (c < 16)
  | .lossConditionClear d p => wfPort d p
  | .debounceExpiry d p => wfPort d p
  | .remoteFaultReceived d p => wfPort d p
  | .remoteFaultCleared d p => wfPort d p
  | .transmitShort d p l => wfPort d p && decide (l < 8)
  | .transmitOpenSense d p l _ => wfPort d p && decide (l < 8)
  | .fecDegradeCheck d p _ => wfPort d p
  | .prbsCheckerLock d u l => decide (d < 4) && decide (u < 17) && decide (l < 8)
  | .prbsCheckerUnlock d u l => decide (d < 4) && decide (u < 17) && decide (l < 8)
  | .announceTimeout d p => wfPort d p
  | .ptpSyncSend d p => wfPort d p
  | .ptpDelayReqSend d p => wfPort d p
  | .ptpPdelayReqSend d p => wfPort d p
  | .ptpMessageReceive d p _ => wfPort d p
  | .relkaReqSend d p => wfPort d p
  | .relkaReqReceive d p bs => wfPort d p && wfBlocks bs
  | .relkaRspSend d p => wfPort d p
  | .relkaRspReceive d p bs => wfPort d p && wfBlocks bs
  | .relkaResponseMiss d p => wfPort d p
  | .relkaSilentPeriods d p => wfPort d p
  | .relkaMessageTimeout d p => wfPort d p
  | .phaseDelivery d p cs => wfPort d p && cs.all (fun c => decide (c < 4096))
  | .spanCheck d p => wfPort d p
  | .censusReceive d p bs => wfPort d p && wfBlocks bs
  | .creditSend d p c => wfPort d p && decide (c < 16)
  | .creditReceive d p bs => wfPort d p && wfBlocks bs
  | .markReceive d p bs => wfPort d p && wfBlocks bs
  | .markAckSend d p => wfPort d p
  | .markAckReceive d p bs => wfPort d p && wfBlocks bs
  | .pipelineWakeReady d c => decide (d < 4) && decide (c < 4)
  | .autoSleep d c => decide (d < 4) && decide (c < 4)
  | .gatePrewake d p => wfPort d p
  | .gatelistStart d p => wfPort d p
  | .gateChange d p => wfPort d p
  | .thermalSample rs => rs.length == 32
  | .captureEdge c _ code => decide (c < 8) && decide (code < 4096)
  | .triggerFire c => decide (c < 8)
  | .pulseEdge k o => decide (k < 4) && decide (1 ≤ o) && decide (o ≤ 3)
  | .outputRestart k o => decide (k < 4) && decide (1 ≤ o) && decide (o ≤ 3)
  | .faultMessage ms => ms.all (fun m => decide (m.loc < 65536) && decide (m.kind < 256) && decide (m.detail < 2 ^ 32))
  | .autonegRestart d p => wfPort d p
  | .referencePulse i _ => decide (i < 2)
  | .tapInstructionLoad ir => decide (ir < 256)
  | .nop _ | .fenceUnit _ | .fenceCluster _ | .fenceRegion _ | .fenceDie _ | .fencePkg _ | .fenceSys _
  | .fenceSetComplete _ | .fenceSysTimeout _ | .waitTime _ | .waitTimeDue _ | .waitEvent _ | .waitEventTimeout _
  | .cfgRead _ | .cfgWrite _ | .cfgModify _ | .tasCancelWrite _ | .tblWrite _ | .tblDelete _ | .tblRead _
  | .tblSearch _ | .tblCommit _ | .portSetMode _ | .portSetRate _ | .portSetSpan _ | .portSetPtp _ | .portSetRelka _
  | .portSetIngress _ | .portSetDscp _ | .portUp _ | .portDown _ | .portLoopStart _ | .portLoopEnd _
  | .portPrbsStart _ | .portPrbsStop _ | .portInject _ | .portInjectTimeout _ | .queSetScheduling _
  | .queSetClassShaper _ | .queSetAdmission _ | .queSetPortShaper _ | .queSetPortFlow _ | .queGatelistLoad _
  | .queGatelistOpen _ | .queFlush _ | .mirSet _ | .timeSet _ | .timeStep _ | .timeSlew _ | .timeAlign _
  | .timeAlignApply _ | .timeArm _ | .timeArmDisarm _ | .timeCaptureDrain _ | .timeCaptureFlush _ | .tsqDrain _
  | .linkSoundBegin _ | .linkSoundMeasure _ | .soundMeasureTimeout _ | .linkSoundSolve _ | .linkSoundEnd _
  | .linkSoundAbort _ | .linkAsymSetCfg _ | .linkAsymSetCmis _ | .linkAsymSetWavelengths _ | .linkAsymSetConfig _
  | .refSetNominate _ | .refSetWithdraw _ | .refSelect _ | .refForce _ | .refRelease _ | .refAcceptStep _
  | .outSet _ | .outFreq _ | .hstSwap _ | .hstRevive _ | .hstSelftestDone _ _ | .hstCheckpoint _ | .powWake _
  | .powSleep _ | .powSleepTimeout _ | .powBudget _ | .fltInject _ | .fltInjectTimeout _ | .fltClearKind _
  | .fltClearAll _ | .fltClearLatches _ | .fltClearSafe _ | .fltReact _ | .calRun _ | .calRunDone _ _ | .calRead _
  | .calWrite _ | .calFactory _ | .calFactoryAll _ | .diagTally _ | .diagLoop _ | .diagLoopDone _ _ _ => true
  | .issue | .timedPark _ | .timedActionDue _ | .completionRecordWrite _ | .backgroundBudgetTimeout _
  | .faceplateBadAccess _ | .powerGoodRise _ | .powerGoodFall | .rstN _ | .wrstN _ | .hostPortReset | .supplyDrop _
  | .sourceStable _ | .sourceFail _ | .phaseBuildOutDone | .fastOscTimeout | .sysReturn | .sysToLref _
  | .lrefSelWrite _ | .pllRatioWrite _ | .spindleWord | .stepApply | .stepCommit | .slewDone | .heartbeat _ _
  | .heartbeatTimeout _ | .warmingFirstWord | .warmingTimeout | .dualActiveEnd | .hstLinkFail | .standbyFail
  | .checkpointWrite | .ckptStale | .settleWindowEnd _ | .servoLock | .wakeGrant | .hstLinkUp
  | .warmingSelfCheckFail _ | .portInjectDone _ | .busMasteringEnable => true

end Sys2Proof
end

