-- ==== Sys2Proof/Tests/Slice0.lean ====
section
/-! SUPPORT. The model's own tests: for each check of WellFormed a term that it refuses; for each statement of
Certificates/Slice0 states and operands that meet its hypotheses, clause by clause; and single steps with results worked out
from the spec. Every instruction in a test has issue number 0. -/

namespace Sys2Proof.Tests

set_option Elab.async false

open Sys2Proof Sys2Proof.Machine

/-! ### Small states -/

/-- An issued instruction. -/
def fl (c : Cmd) : Flight := { num := 0, ring := 0, cmd := c, td := {}, tags := [(0, 0)], tag0 := 0, phase := .issued }

/-- One that goes on. -/
def fx (c : Cmd) (due : Nat) : Flight := { fl c with phase := .exec due }

/-- A state with one issued instruction. -/
def put (f : Flight) (s : State := State.reset) : State := { s with plyn := { s.plyn with flights := [f], nextNum := 1 } }

/-- The state with an instruction that is issued. -/
def on (c : Cmd) (s : State := State.reset) : State := put (fl c) s

/-- What Starts asks for, in one piece. -/
theorem starts_of {form : Cmd → Bool} {m : Meaning} {n : Nat} {f : Flight} {s : State}
    (h : s.begins n form = some f ∧ m.bad f.cmd s = none ∧ s.legal f.cmd f.cmd.loc = none ∧
      (locDie f.cmd.loc ≠ 7 ∨ isBlocking f.cmd.opcode = true)) : Starts form m n f s :=
  ⟨h.1, h.2.1, h.2.2.1, fun k => h.2.2.2.resolve_left (fun x => x k)⟩

/-- Starts, as a test: of an issued instruction in a state. -/
def begun (form : Cmd → Bool) (m : Meaning) (c : Cmd) (s : State) : Bool :=
  decide ((on c s).begins 0 form = some (fl c) ∧ m.bad c (on c s) = none ∧ (on c s).legal c c.loc = none ∧
    (locDie c.loc = 7 → isBlocking c.opcode = true))

theorem begun_iff {form : Cmd → Bool} {m : Meaning} {c : Cmd} {s : State} :
    begun form m c s = true ↔ Starts form m 0 (fl c) (on c s) :=
  ⟨fun h => let k := of_decide_eq_true h; ⟨k.1, k.2.1, k.2.2.1, k.2.2.2⟩, fun h => decide_eq_true ⟨h.1, h.2, h.3, h.4⟩⟩

/-- A command answers a next state that passes a check. -/
def after (c : Instr) (s : State) (p : State → Bool) : Bool :=
  match exec c s with
  | .next t => p t
  | _ => false

/-- The host may be reached by DMA. -/
def withDma (s : State) : State := { s with env := { s.env with busMaster := true } }

/-- An enabled ring of 64 entries. -/
def openRing (n : Nat) (s : State) : State := s.setRing n { base := 4096 * n, en := true }

/-! ### The block as a whole -/

theorem test_wit_StepTakesTheFront : ({ State.reset with pending := [.issue, .powerGoodFall] } : State).pending =
    Instr.issue :: [.powerGoodFall] := by decide

/-- Ticks before LREF and after it. -/
theorem test_wit_EmptyQueueTicks : State.reset.pending = [] ∧ State.reset.clk.lrefOn = false ∧
    (State.reset.setClk { State.reset.clk with lrefOn := true }).clk.lrefOn = true := by decide

theorem test_wit_StepKeepsForm : State.reset.memWf ∧ State.reset.regsWf ∧
    ∃ t, step { State.reset with pending := [.powerGoodFall] } = .next t := ⟨⟨rfl, rfl⟩, rfl, _, rfl⟩

/-- PORT.UP of a service port. -/
def cPortUp : Cmd := { opcode := 0x31, loc := mkLoc 0 0 0 16 0 }

/-- Starting, badly addressed, contained, and forbidden by safe state. -/
theorem test_wit_InstructionsAreChecked :
    (Instr.portUp, isOp 0x31, mPortUp) ∈ instrRows ∧ State.reset.begins 0 (isOp 0x31) = none ∧
    ((on cPortUp).begins 0 (isOp 0x31) = some (fl cPortUp) ∧ mPortUp.bad cPortUp (on cPortUp) = none ∧
      locDie cPortUp.loc ≠ 7) ∧
    (let c : Cmd := { opcode := 0x9, opa := 8, loc := mkLoc 6 0 0 0 0 };
      (on c).begins 0 (isOp 9) = some (fl c) ∧ (if c.isCast then (on c).castLegal c else (on c).legal c c.loc) = none ∧
        mWaitEvent.bad c (on c) = some 6) ∧
    ({ on cPortUp with faults := { conts := [{ kind := 0x10, level := 4, loc := 0 }] } } : State).targetContained cPortUp
      cPortUp.loc = true ∧
    (let s := (on cPortUp).put locCol R.FLT_STAT_SAFE 1;
      s.begins 0 (isOp 0x31) = some (fl cPortUp) ∧ s.targetContained cPortUp cPortUp.loc = false ∧ s.safe = true ∧
        safeForbids 0x31 = true) := by
  refine ⟨?_, by decide, by decide, by decide, by decide, by decide⟩
  simp [instrRows, instrRows1, instrRows2]

/-- PORT.UP to every S-die: none contained (it runs on each), S0 contained (it runs on three), all contained, and in a
state where it is refused. -/
def cCast : Cmd := { opcode := 0x31, loc := mkLoc 7 0 0 16 0 }
def contain (l : List Nat) (s : State) : State :=
  { s with faults := { conts := l.map (fun d => { kind := 0x10, level := 4, loc := mkLoc d 0 0 0 0 }) } }
def castOf (s : State) : Cast :=
  ((sDies s.part).filter (fun d => !s.targetContained cCast (onDie cCast.loc d))).foldl (Cast.step mPortUp (fl cCast)) { st := s }

theorem test_wit_BroadcastsRun :
    (Instr.portUp, isOp 0x31, mPortUp) ∈ instrRows ∧ isBlocking cCast.opcode = false ∧ locDie cCast.loc = 7 ∧
    (∀ l ∈ [[], [0], [0, 1, 2, 3]], let s := contain l (on cCast);
      s.begins 0 (isOp 0x31) = some (fl cCast) ∧ mPortUp.bad cCast s = none) ∧
    (castOf (on cCast)).worst = none ∧ (castOf (on cCast)).goes = false ∧ (castOf (contain [0] (on cCast))).worst = none ∧
    (castOf ((on cCast).pput 3 64 R.PORT_STAT_STATE psUp)).worst ≠ none := by
  refine ⟨by simp [instrRows, instrRows1, instrRows2], ?_⟩
  decide +kernel

/-- A broadcast that cannot read host memory, and one whose tokens are denied with BACKGROUND set. -/
theorem test_wit_BroadcastsRefused :
    (let c : Cmd := { opcode := 0x20, opa := 5, opb := 4096, loc := mkLoc 7 0 0 0 0 }; let s := on c;
      s.begins 0 (isOp 0x20) = some (fl c) ∧ mTblWrite.bad c s = none ∧
      ((((sDies s.part).foldl (Cast.step mTblWrite (fl c)) { st := s }).worst).map Compl.status) = some stFault) ∧
    (let c : Cmd := { cCast with bg := true }; let s := (on c).ledPut (R.POW_DIE_BUDGET 0) 0;
      s.begins 0 (isOp 0x31) = some (fl c) ∧ mPortUp.bad c s = none ∧
      ((((sDies s.part).foldl (Cast.step mPortUp (fl c)) { st := s }).worst).map Compl.status) = some stDenied) := by
  decide +kernel

/-- One that goes on: PORT.INJECT is such a broadcast. -/
theorem test_wit_BroadcastsGoOn :
    (let c : Cmd := { opcode := 0x35, loc := mkLoc 7 0 0 16 0, opa := 4, opb := 1 };
      let s := (List.range 4).foldl (fun s d => s.pput d 64 R.PORT_STAT_STATE psUp) (on c);
      ((sDies s.part).foldl (Cast.step mPortInject (fl c)) { st := s }).goes) = true := by decide

/-! ### Completions -/

def cDone : Cmd := { opcode := 0, always := true, cookie := 0xABCD, loc := mkLoc 6 0 0 0 0 }
def done : State := withDma (openRing 32 (on cDone))

theorem test_wit_CompletionWritesARecord :
    done.flight 0 = some (fl cDone) ∧ cDone.timed = false ∧ (fl cDone).late = none ∧ (fl cDone).mute = false ∧
    done.memWf ∧ cDone.always = true ∧ (fl cDone).ring < 32 ∧ done.ringOpen (done.cqOf 0) = true ∧
    done.route (4096 * 32) 16 = .host ∧ cDone.cookie < 2 ^ 16 := by
  refine ⟨by decide, by decide, by decide, by decide, ⟨rfl, rfl⟩, by decide, by decide, by decide, by decide, by decide⟩

/-- The record of a NOP on ring 0: cookie, status, detail, ring, tag (R54). -/
theorem test_complete_record :
    ∀ i ∈ [(15, 0xAB), (14, 0xCD), (13, 0), (12, 0), (11, 0)],
      memByte (done.complete 0 { status := 0 }).env.mem (4096 * 32 + i.1) = i.2 := by decide

theorem test_wit_CompletionWithoutARecord :
    (on {}).flight 0 = some (fl {}) ∧ ({} : Cmd).always = false ∧
    ((on {}).ringOpen ((on {}).cqOf 0) = false ∧ stTimeout ≠ stOk) ∧
    (let s := (on {}).setRing 0 { hoe := true, en := true }; (s.ring 0).halted = false ∧ (s.ring 0).hoe = true ∧
      s.flight 0 = some (fl {}) ∧ stTimeout ≠ stLate) := by decide

/-! ### Control -/

/-- A NOP at the hub, and one that a headstock refuses. -/
theorem test_wit_Nop :
    Starts (isOp 0) mNop 0 (fl { loc := mkLoc 6 0 0 0 0 }) (on { loc := mkLoc 6 0 0 0 0 }) ∧
    (let c : Cmd := { loc := mkLoc 5 0 0 0 5 }; (on c).begins 0 (isOp 0) = some (fl c) ∧ (on c).hs true ≠ 4 ∧
      (on c).targetContained c c.loc = false ∧ (on c).safe = false) :=
  ⟨starts_of (by decide), by decide⟩

def cWaitTime (t : Nat) : Cmd := { opcode := 8, loc := mkLoc 6 0 0 0 0, opb := t }

/-- A time ahead, the time exactly a horizon away, and the ends of waits for a passed time and one ahead. -/
theorem test_wit_WaitTime :
    (Starts (isOp 8) mWaitTime 0 (fl (cWaitTime 1)) (on (cWaitTime 1)) ∧ sdiff 1 (on (cWaitTime 1)).txNow ≠ -horizon) ∧
    (Starts (isOp 8) mWaitTime 0 (fl (cWaitTime (2 ^ 63))) (on (cWaitTime (2 ^ 63))) ∧
      sdiff (2 ^ 63) (on (cWaitTime (2 ^ 63))).txNow = -horizon) ∧
    (∀ t ∈ [0, 2 ^ 63 + 1], let s := put (fx (cWaitTime t) 0); s.flight 0 = some (fx (cWaitTime t) 0) ∧
      sdiff t s.txNow ≤ 0) ∧
    (∀ t ∈ [1, 2 ^ 63 - 1], let s := put (fx (cWaitTime t) 0); s.flight 0 = some (fx (cWaitTime t) 0) ∧
      0 < sdiff t s.txNow) :=
  ⟨⟨starts_of (by decide), by decide⟩, ⟨starts_of (by decide), by decide⟩, by decide, by decide⟩

def cWaitEvent (kind : Nat) : Cmd := { opcode := 9, loc := mkLoc 6 0 0 0 0, opa := kind, opb := 1 }

theorem test_wit_WaitEvent :
    Starts (isOp 9) mWaitEvent 0 (fl (cWaitEvent 7)) (on (cWaitEvent 7)) ∧
    (∀ k ∈ [0, 8], (on (cWaitEvent k)).begins 0 (isOp 9) = some (fl (cWaitEvent k))) ∧
    (put (fx (cWaitEvent 1) 625)).flight 0 = some (fx (cWaitEvent 1) 625) :=
  ⟨starts_of (by decide), by decide, by decide⟩

/-- A wait for event 4 runs beside the others, and is no wait for event 5. -/
theorem test_wit_Events :
    let s := withDma (openRing 40 (put (fx (cWaitEvent 4) 625)))
    (∀ f ∈ s.plyn.flights, ¬(f.cmd.opcode = 9 ∧ f.phase.isOpen = true ∧ f.cmd.opb ≠ 0 ∧ f.cmd.opa % 16 = 5)) ∧
    s.eventRing 5 (some 8) = some 40 ∧ s.ringOpen 40 = true ∧ s.eventRing 5 (some 9) = some 41 ∧ s.ringOpen 41 = false ∧
    s.plyn.flights.filter (fun g => g.cmd.opcode == 9 && g.phase.isOpen && g.cmd.opb != 0 && g.cmd.opa % 16 == 4) =
      [fx (cWaitEvent 4) 625] := by
  decide

/-! ### Fences -/

def cFence (op opb : Nat) : Cmd := { opcode := op, loc := mkLoc 6 0 0 0 0, opb := opb }

theorem test_wit_FencesStart :
    (Starts (isOp 6) mFence 0 (fl (cFence 6 0)) (on (cFence 6 0)) ∧
      ∀ q ∈ (on (cFence 6 0)).partners (cFence 6 0), (on (cFence 6 0)).markPorts q ≠ []) ∧
    (Starts (isOp 6) mFence 0 (fl (cFence 6 4)) (on (cFence 6 4)) ∧
      ∃ q ∈ (on (cFence 6 4)).partners (cFence 6 4), (on (cFence 6 4)).markPorts q = []) ∧
    (Starts (isOp 1) mFence 0 (fl { opcode := 1, loc := 64 }) (on { opcode := 1, loc := 64 }) ∧
      (on (cFence 6 0)).hsRefuse (cFence 6 0).loc false = none) ∧
    (Starts (isOp 4) mFence 0 (fl { opcode := 4, loc := 0xA000 }) (on { opcode := 4, loc := 0xA000 }) ∧
      ((on { opcode := 4, loc := 0xA000 }).hsRefuse 0xA000 false).isSome = true) :=
  ⟨⟨starts_of (by decide), by decide⟩, ⟨starts_of (by decide), by decide⟩, ⟨starts_of (by decide), by decide⟩,
    starts_of (by decide), by decide⟩

/-- RS-FEC on port 0 of S0, 100 m away. -/
def fitPort (s : State) : State :=
  (s.put (mkLoc 0 0 0 0 16) R.PU_MODE_MODE 1).setPort 0 0 { (s.port 0 0) with span := 100 }
/-- Package 2 answers on port 0 of S0. -/
def partner2 (s : State) : State :=
  ((((fitPort s).pput 0 0 R.PORT_STAT_STATE psUp).pput 0 0 R.RLK_STAT_STATE rlkLinked).pput 0 0 R.RLK_CTRL_MARK_CAP 1).pput 0 0
    R.RLK_CTRL_PARTNER_PKG 2
def fenced (c : Cmd) (x : Fence) : State :=
  let s := put (fx c 6250000); partner2 { s with plyn := { s.plyn with fences := [(0, x)] } }

/-- A fence without partners, one with a partner before its MARKs, after them with the acknowledgement, and without. -/
theorem test_wit_FencesEnd :
    (∀ op ∈ [1, 6], let s := fenced (cFence op 0) { members := [], report := [] };
      s.flight 0 = some (fx (cFence op 0) 6250000) ∧ isFence op = true ∧
      Tab.get? s.plyn.fences 0 = some { members := [], report := [] } ∧ s.partners (cFence op 0) = [] ∧
      ∀ k ∈ ([] : List Nat), ∀ g, s.flight k = some g → g.changing = false) ∧
    (let s := fenced (cFence 6 4) { members := [], report := [] }; s.partners (cFence 6 4) = [2] ∧
      s.markPorts 2 = [portKey 0 0] ∧ s.pfld 0 0 R.PORT_STAT_LOOP = 0 ∧ (s.port 0 0).sending = none) ∧
    (let x : Fence := { members := [], report := [], marked := true, acked := [(2, 64)] };
      x.marked = true ∧ (fenced (cFence 6 4) x).unacked (fx (cFence 6 4) 6250000) x = []) ∧
    (let x : Fence := { members := [], report := [], marked := true, wait := [(2, 64)] };
      (fenced (cFence 6 4) x).unacked (fx (cFence 6 4) 6250000) x = [2]) ∧
    (∀ k ∈ ([0] : List Nat), ∃ g, (put { fl {} with bad := true, phase := .retired }).flight k = some g ∧ g.bad = true) :=
  ⟨by decide, by decide, by decide, by decide, fun k h => ⟨_, by simp at h; subst h; rfl, by decide⟩⟩

/-! ### The issuer, parking, rings -/

/-- Ring 0 with one entry at its head. -/
def issuing (c : List Byte) (s : State) : State :=
  let s := (withDma s).fpPut R.FP_BOOT_STATE 6
  { s with rings := [(0, { en := true, tail := 1 }), (32, { base := 4096 * 32, en := true })],
           env := { s.env with mem := memPuts s.env.mem 0 c } }

/-- The bytes of a NOP entry for the hub with ALWAYS_COMPLETE and cookie 0x0102, written out from R52: OPCODE 0x00 in byte
15, bit 115 in byte 14, LOC 0xC000 in bytes 13 and 12, COOKIE in bytes 11 and 10. -/
def nopEntry : List Byte := [0, 0, 0, 0, 0, 0, 0, 0, 0, 0, 0x02, 0x01, 0x00, 0xC0, 0x08, 0x00]
/-- The same with reserved bit 112 set. -/
def badEntry : List Byte := [0, 0, 0, 0, 0, 0, 0, 0, 0, 0, 0x02, 0x01, 0x00, 0xC0, 0x09, 0x00]
def wNop : Nat := leNat nopEntry

theorem test_entry_layout : decodeCmd wNop = { opcode := 0, always := true, loc := 0xC000, cookie := 0x0102 } := by decide

/-- All hub slots are held. -/
def noSlots (s : State) : State :=
  put { fl {} with phase := .exec 0, tags := (List.range 64).map (fun i => (6, 448 + i)) } s

theorem test_wit_Issuer :
    (let s := issuing nopEntry State.reset;
      s.issuerOn = true ∧ s.issueOrder.head? = some 0 ∧ (s.ring 0).running = true ∧ (s.ring 0).blocked = false ∧
      (s.ring 0).used ≠ 0 ∧ s.fetchEntry 0 (s.ring 0).head = some wNop ∧ (decodeCmd wNop).timed = false ∧
      s.precheck (decodeCmd wNop) (decodeTd 0) = none ∧ ∀ d ∈ slotDies s.part (decodeCmd wNop), s.freeTags d ≠ []) ∧
    (let s := issuing badEntry State.reset;
      s.precheck (decodeCmd (leNat badEntry)) (decodeTd 0) = some (badC 1) ∧ s.ringOpen (s.cqOf 0) = true ∧
      s.fetchEntry 0 (s.ring 0).head = some (leNat badEntry)) ∧
    (let s := noSlots (issuing nopEntry State.reset);
      s.precheck (decodeCmd wNop) (decodeTd 0) = none ∧ (∀ k ∈ s.issueOrder.tail, (s.ring k).running = false) ∧
      ∃ d ∈ slotDies s.part (decodeCmd wNop), s.freeTags d = []) := by decide +kernel

theorem test_issue : ∃ t, exec .issue (issuing nopEntry State.reset) = .next t ∧ (t.ring 0).head = 1 ∧
    t.plyn.flights.map (fun f => f.cmd.cookie) = [0x0102] := ⟨_, rfl, by decide +kernel⟩

/-- Late policy: in the window, expired, run late, and the next boundary of a series, at the window's edge and beyond it. -/
theorem test_wit_LatePolicy :
    let td : TimeDesc := { time := 0, period := 65536000, rep := 1 }
    sdiff 65536000 (td.at 0) ≤ (65536000 : Nat) ∧ ((65536000 : Nat) : Int) < sdiff 65536001 (td.at 0) ∧ 0 < td.period ∧
    parkDecide 65536000 0 td 65536000 0 = .park 0 0 none ∧ parkDecide 65536001 0 td 65536000 0 = .expired ∧
    parkDecide 65536001 2 td 65536000 0 = .park 1 65536000 none := by decide

def timed (late : Nat) (t : Nat) : Flight :=
  { fl { opcode := 0x31, timed := true, late := late, loc := mkLoc 0 0 0 16 0 } with td := { time := t } }
/-- A full store of the hub: 512 parked actions. -/
def parkedMany : List Flight := (List.range 512).map (fun i =>
  let f := fl { opcode := 0x64, timed := true, loc := hubLoc 20 }
  { f with num := i + 1, phase := .parked 0, tags := [], entry := true })
def storeFull (s : State) : State := { s with plyn := { s.plyn with flights := s.plyn.flights ++ parkedMany } }

theorem test_wit_TimedActions :
    (let s := put (timed 0 65536); s.flight 0 = some (timed 0 65536) ∧ (timed 0 65536).phase = .issued ∧
      s.mayStart (timed 0 65536) = true ∧
      (storeDies s.part (timed 0 65536).cmd).filter (fun d => decide (storeSize d ≤ s.parkedIn d)) = [] ∧
      sdiff 65536 (tx64 (s.nowU 0)) ≠ -horizon ∧
      parkDecide (tx64 (s.nowU 0)) 0 (timed 0 65536).td ((s.ring 0).grace * 1000 * 65536) 0 = .park 0 65536 none) ∧
    (let s := put (timed 0 (2 ^ 64 - 1)); s.mayStart (timed 0 (2 ^ 64 - 1)) = true ∧
      parkDecide (tx64 (s.nowU 0)) 0 (timed 0 (2 ^ 64 - 1)).td ((s.ring 0).grace * 1000 * 65536) 0 = .expired) ∧
    (let f := { timed 0 65536 with phase := .parked 65536 };
      (put f).flight 0 = some f ∧ (put f).parkedBefore f 65536 = false) := by decide

theorem test_wit_TimedStoreFull :
    let f : Flight := { fl { opcode := 0x64, timed := true, loc := hubLoc 21 } with td := { time := 65536 } }
    let s := storeFull (put f)
    s.mayStart f = true ∧ (storeDies s.part f.cmd).filter (fun d => decide (storeSize d ≤ s.parkedIn d)) = [6] := by
  decide +kernel

theorem test_wit_DelayedRecords :
    (let f : Flight := { fl {} with phase := .record stTimeout 0 0 0 };
      (put f).flight 0 = some f ∧ f.ring < 32 ∧ f.mute = false ∧ f.cmd.timed = false ∧
      (withDma (openRing 32 (put f))).ringOpen ((openRing 32 (put f)).cqOf 0) = true) ∧
    (let f : Flight := { fl { opcode := 0xB0, bg := true } with phase := .tokens 6250000 }; (put f).flight 0 = some f) := by
  decide

/-- Doorbells at the edges of the room, CTRL writes that are ignored, that store, and that may not enable. -/
theorem test_wit_RingDoorbells :
    (let s := openRing 0 State.reset; s.fpServes = true ∧ (s.ring 0).doorOk 0 64 = true ∧ (s.ring 0).doorOk 0 65 = false ∧
      (s.ring 0).ctrlIgnored 0 0x701 = true ∧ (s.ring 0).ctrlIgnored 0 0x601 = false ∧ bit 0x601 2 = false ∧
      bit 0x601 3 = false ∧ (s.ring 0).en = true) ∧
    (let s := (openRing 32 State.reset).setRing 32 { en := true, tail := 64 };
      (s.ring 32).doorOk 32 64 = true ∧ (s.ring 32).doorOk 32 65 = false) ∧
    (let s := State.reset.setRing 0 { base := 4 };
      (s.ring 0).ctrlIgnored 0 0x601 = false ∧ (s.ring 0).en = false ∧ bit 0x601 0 = true ∧
      ((s.ring 0).ctrl 0x601 0).mayRun 0 = false) := by decide

theorem test_wit_RingResets :
    (let s := put { fl {} with phase := .exec 0 };
      (∀ f ∈ s.plyn.flights, f.ring = 0 → f.endsAtReset = false) ∧ s.fpServes = true) ∧
    (let s := on {}; s.plyn.flights.filter (fun g => g.ring == 0 && g.endsAtReset) = [fl {}]) ∧
    (let s := State.reset.setRing 0 { resetBusy := true }; (s.ring 0).resetBusy = true ∧ s.ringDrained 0 = true) ∧
    (∀ r, r < 32 → (State.reset.ring r).en = true → (State.reset.ring r).cq + 32 ≠ 63) ∧
    (∃ r, r < 32 ∧ ((openRing 0 State.reset).ring r).en = true ∧ ((openRing 0 State.reset).ring r).cq + 32 = 32) := by
  refine ⟨by decide, by decide, by decide, by decide, ⟨0, by decide, by decide, by decide⟩⟩

/-! ### Faceplate, interrupts, host port -/

def reduced (s : State) : State := { s with faults := { s.faults with reduced := true } }

theorem test_wit_Faceplate : State.reset.faults.reduced = false ∧ (reduced State.reset).faults.reduced = true ∧
    State.reset.fpServes = true ∧ (reduced State.reset).fpServes = false ∧ (State.reset.ring 127).en = false ∧
    ((openRing 127 State.reset).ring 127).en = true ∧ State.reset.msixPend = [] ∧ 1 % 4 ≠ 0 ∧
    (0x8004 % 8 ≠ 0 ∨ 0x8004 < 0x8000 ∨ 0x9000 ≤ 0x8004) := by decide

/-- Reading RING[3].TAIL, and a write of the MSI-X table's last entry. -/
theorem test_faceplate : (∃ t, exec (.rcRegisterRead 0x1070) (State.reset.setRing 3 { tail := 9 }) = .next t ∧
      t.sent = [.fpRead 0x1070 9]) ∧
    ∃ t, exec (.faceplateWrite (0x8000 + 16 * 255) 7 true) State.reset = .next t ∧ t.msixEntry 255 % 2 ^ 64 = 7 :=
  ⟨⟨_, rfl, by decide⟩, _, rfl, by decide⟩

/-- An FP_INT_STAT bit that stays, one that is cleared, a pending vector, and a ring timer that is due. -/
def unmasked (s : State) : State := { s with msixTab := (List.range 4).map (fun i => (i, 0)) }

theorem test_wit_Interrupts :
    (let s := State.reset.setReg locFp 0x24 1; s.fpServes = true ∧
      (s.reg locFp 0x24 &&& ~~~(BitVec.ofNat 32 (127 % 128))).toNat &&& s.fp R.FP_INT_EN_EN = 0) ∧
    (let s := unmasked (State.reset.setReg locFp 0x24 64); (64 : Nat) < 128 ∧ (s.reg locFp 0x24).toNat &&& 64 ≠ 0 ∧
      bit (s.msixEntry (s.fp R.FP_INT_MAP_VECTOR)) 96 = false) ∧
    255 ∈ ({ State.reset with msixPend := [255] } : State).msixPend ∧
    (∀ n ∈ [32, 127], let s := unmasked ((((State.reset.setRing n { en := true, tail := 1, sinceArm := 1 }).fpPut (R.RING_INT_EN n) 1).fpPut
        (R.RING_INT_ARMED n) 1).fpPut (R.RING_INT_TIME n) 1);
      s.flag locFp (R.RING_INT_EN n) = true ∧ s.flag locFp (R.RING_INT_ARMED n) = true ∧ 1 ≤ s.ringPending n ∧
      s.fp (R.RING_INT_TIME n) ≠ 0 ∧ bit (s.msixEntry (s.fp (R.RING_INT_VECTOR n))) 96 = false) := by decide

theorem test_wit_TestPort : State.reset.boot.rstN = true ∧
    ({ State.reset with boot := { State.reset.boot with rstN := false } } : State).boot.rstN = false := by decide

/-! ### Resets and the boot -/

/-- An image written out from R337: MAGIC, FORMAT 1, KEY_SLOT 0, SVN 0, PART 0xFFFF, REV_MIN 0x11, TOTAL 1,024 bytes, and
its sections in their table, each of a type, an offset and a length. -/
def imageOf (secs : List (List Byte)) : List Byte :=
  [0x41, 0x56, 0x4C, 0x58, 1, 0, 0, 0, 0, 0, 0xFF, 0xFF, 0x11, 0, 0, 0, 0, 4, 0, 0, BitVec.ofNat 8 secs.length, 0]
    ++ List.replicate 10 0 ++ secs.flatten
/-- Types 1 and 2 of 16 bytes each, at 0x200 and at 0x210. -/
def codes : List (List Byte) :=
  [[1, 0, 0, 0, 0, 2, 0, 0, 16, 0, 0, 0, 0, 0, 0, 0], [2, 0, 0, 0, 0x10, 2, 0, 0, 16, 0, 0, 0, 0, 0, 0, 0]]
/-- The records of type 3 lie at 0x220; the first of them has a reserved bit set. -/
def withRecord : List Byte :=
  let b := imageOf (codes ++ [[3, 0, 0, 0, 0x20, 2, 0, 0, 16, 0, 0, 0, 0, 0, 0, 0]])
  b ++ List.replicate (0x220 - b.length) 0 ++ [0, 0, 0, 0, 0, 1, 0, 0, 0, 0, 0, 0, 0, 0, 0, 0]
def image0 : Image := { found := true, bytes := imageOf codes, keyHash := 0, sigOk := true }
def bootEnv (sel : Nat) : BootEnv :=
  { bootsel := sel, xaXtal := true, xbXtal := true, image := image0, xaStable := true, xbStable := true, memOk := true,
    badCells := [], taTest := 0, tbTest := 0 }
def powered (sel : Nat) (s : State) : State := { s with boot := { s.boot with pgood := true, bootsel := sel } }

theorem test_wit_Power : (bootEnv 0).badCells = [] ∧ (!State.reset.boot.pgood) = true ∧
    (powered 0 State.reset).boot.pgood = true ∧ (bootEnv 1).bootsel % 2 = 1 ∧ (bootEnv 2).bootsel % 2 = 0 ∧
    (bootEnv 0).memOk = true ∧ ({ bootEnv 0 with memOk := false } : BootEnv).memOk = false ∧
    ({ image0 with found := false } : Image).found = false ∧ (powered 1 State.reset).boot.bootsel % 2 = 1 ∧
    (powered 1 State.reset).faults.reduced = false ∧ State.reset.boot.pgood = false ∧
    bit 0x57530001 0 = true ∧ 0x57530001 / 65536 % 65536 ≠ 0x5752 := by decide

/-- Power-good with BOOTSEL0 at 1 waits for the host (R334). -/
theorem test_power_on : ∃ t, exec (.powerGoodRise (bootEnv 1)) State.reset = .next t ∧ t.fp R.FP_BOOT_STATE = 8 :=
  ⟨_, rfl, by decide +kernel⟩

/-- A part that waits for the host; its image lies in host memory; LREF may run from XA at 10 MHz. -/
def waiting (s : State) : State :=
  let s := ((withDma (powered 1 s)).fpPut R.FP_BOOT_STATE 8).fpPut R.FP_BOOT_LEN_LEN 1024
  { s with env := { s.env with mem := memPuts [] 0 (imageOf codes) } }
def found (s : State) : State := ((waiting s).bootState 3).faultNSync
def booting (s : State) : State := ((found s).fpPut R.FP_BOOT_KEY_SLOT 0).bootState 4
def lrefOk (s : State) : State := (s.put locClk R.CLK_XFREQ_A_HZ 10000000).put locClk R.CLK_STAT_XA_STABLE 1

theorem test_wit_HostBoot :
    (let s := waiting State.reset; s.fpServes = true ∧ s.fp R.FP_BOOT_STATE = 8 ∧ bit 1 0 = true ∧
      (s.fp R.FP_BOOT_ADDR_LO_ADDR + s.fp R.FP_BOOT_ADDR_HI_ADDR * 2 ^ 32) % 4096 = 0 ∧
      (s.dmaRead 0 (max (s.fp R.FP_BOOT_LEN_LEN) 1)).any (fun b => (found State.reset).imageBad image0 b 1024 == none &&
        imageRecords b == []) = true ∧
      ((powered 1 State.reset).fpPut R.FP_BOOT_STATE 8).dmaRead 0 1 = none) ∧
    (found State.reset).imageBad { image0 with sigOk := false } (imageOf codes) 1024 = some 5 ∧
    (found State.reset).imageBad image0 withRecord 1024 = none ∧ imageRecords withRecord = [2 ^ 40] ∧
    ((booting State.reset).applyRecords 0 [2 ^ 40]).2 = some 0 ∧
    (let x := ((booting State.reset).applyRecords 0 []).1; ((booting State.reset).applyRecords 0 []).2 = none ∧
      x.lrefReady = false) ∧
    (let x := ((booting (lrefOk State.reset)).applyRecords 0 []).1;
      ((booting (lrefOk State.reset)).applyRecords 0 []).2 = none ∧ x.lrefReady = true ∧ (bootEnv 1).taTest = 0 ∧
      x.hs (!x.flag locArb R.HST_CTRL_PREFER_TB) ≠ hsActive) := by decide +kernel

theorem test_wit_SupplyDrops : (State.reset.setHs true hsActive).hs true = hsActive ∧
    (State.reset.setHs true hsStandby).hs true = hsStandby ∧ (State.reset.setHs true hsSelftest).hs true = hsSelftest ∧
    State.reset.hs true ≠ hsActive ∧ State.reset.hs true ≠ hsStandby ∧ State.reset.hs true ≠ hsSelftest := by decide

/-! ### CFG -/

def sp : Nat := portLoc 0 64                    -- service port 64 of S0
def up (s : State) : State := s.pput 0 64 R.PORT_STAT_STATE psUp

/-- A CFG entry: opcode, location, 24-bit offset, the rest of OPB. -/
def cfg (op loc off rest : Nat) : Cmd := { opcode := op, loc := loc, opa := off % 65536, opb := off / 65536 + rest }

theorem test_wit_AccessCodes :
    (fieldsAt sp 8).isSome = true ∧ fieldsApart [⟨4, 8, .rw, 0⟩, ⟨0, 4, .w1c, 0⟩, ⟨12, 1, .ro, 0⟩] = true ∧
    (⟨0, 4, .w1c, 0⟩ : FieldDesc) ∈ [(⟨4, 8, .rw, 0⟩ : FieldDesc), ⟨0, 4, .w1c, 0⟩, ⟨12, 1, .ro, 0⟩] := by decide

theorem test_wit_CfgRead :
    (let c := cfg 0x10 sp 8 0; begun (isOp 0x10) mCfgRead c (withDma State.reset) = true ∧
      locDie sp ≠ 4 ∧ locDie sp ≠ 5 ∧ blk sp ≠ .none ∧ c.opb / 256 % 16 = 0 ∧ (fieldsAt sp 8).isSome = true ∧
      (on c).dead (blk sp) 8 = false ∧ (on c).derived (blk sp) 8 = [] ∧ (withDma (on c)).dmaWrite 0 (leBytes 4 0) ≠ none ∧
      (on c).dmaWrite 0 (leBytes 4 0) = none) := by decide +kernel

/-- The word of a debounce register is read to the host (R411). -/
theorem test_cfg_read : after (.cfgRead 0) (withDma ((on (cfg 0x10 sp 8 0)).setReg sp 8 0x1234)) (fun t =>
    memByte t.env.mem 0 == 0x34 && memByte t.env.mem 1 == 0x12) = true := by decide +kernel

def cWrite (loc off v : Nat) : Cmd := cfg 0x11 loc off (v * 2 ^ 32)
/-- CFG.MODIFY of bits 4 to 7. -/
def cModify (loc off v : Nat) : Cmd := cfg 0x12 loc off (4 * 2 ^ 8 + 7 * 2 ^ 13 + v * 2 ^ 32)
/-- A unit whose sub-block has no registers. -/
def noBlock : Nat := mkLoc 0 0 0 28 2

/-- A register that only stores, in both forms, and a unit without registers. -/
theorem test_wit_CfgWrites :
    (∀ c ∈ [cWrite sp 8 5, cModify sp 8 5], begun (isOp c.opcode) mCfgWrite c State.reset = true ∧
      (writeFields sp 8).isSome = true ∧ (on c).cfgTarget sp true = none ∧ (on c).dead (blk sp) 8 = false ∧
      (on c).ruleConflict (blk sp) 8 ((on c).reg sp 8) 5 = none ∧ plainReg (blk sp) 8 = true) ∧
    (∀ c ∈ [cWrite noBlock 0 5, cModify noBlock 0 5], begun (isOp c.opcode) mCfgWrite c State.reset = true ∧
      (on c).cfgTarget noBlock true = some { status := stNoTarget }) := by decide +kernel

theorem test_cfg_modify : after (.cfgModify 0) ((on (cModify sp 8 5)).setReg sp 8 0x0FF) (fun t =>
    t.reg sp 8 == 0x05F) = true := by decide +kernel

theorem test_wit_PortRegisters :
    (∀ v ∈ [0, 10000, 0x3FFF], begun (isOp 0x11) mCfgWrite (cWrite sp 8 v) State.reset = true ∧
      State.reset.present 0 64 = true ∧ (cWrite sp 8 v).opa = 8 ∧ (cWrite sp 8 v).opb = v * 2 ^ 32) ∧
    (let c := cWrite sp 0x300 0x11; c.opa = 0x300 ∧ c.opb = 0x11 * 2 ^ 32 ∧ (on c).rlkState 0 64 = rlkOff ∧
      (on c).rlkFit 0 64 = false ∧ (on c).begins 0 (isOp 0x11) = some (fl c)) ∧
    (let c := cWrite (portLoc 0 0) 0x300 0x11; (on c (fitPort State.reset)).present 0 0 = true ∧
      (on c (fitPort State.reset)).rlkState 0 0 = rlkOff ∧
      (on c (fitPort State.reset)).rlkFit 0 0 = true ∧ begun (isOp 0x11) mCfgWrite c (fitPort State.reset) = true) := by
  decide +kernel

theorem test_debounce_clamps : after (.cfgWrite 0) (on (cWrite sp 8 0x3FFF)) (fun t =>
    fget (t.reg sp 8) 0 14 == 10000) = true := by decide +kernel

def isTas (l : Nat) : Bool := l == 0xC041 || (locUnit l == 28 && locSub l == 1)
theorem test_wit_TasCancel : (let c := cWrite 0xC041 0x100 0x10000;
    begun (writesTo isTas (· == 0x100)) mCfgWrite c State.reset = true ∧ c.opcode = 0x11 ∧ blk c.loc = .tas 6 ∧
    ∀ t ∈ [0, 65536], let g := { fl { opcode := 0x64, timed := true, loc := hubLoc 20, cookie := 0 } with
        num := 7, ring := 1, phase := .parked t, entry := true };
      let s : State := { on c with plyn := { (on c).plyn with flights := [g, fl c] } };
      (s.plyn.flights.map Flight.num).Nodup ∧ s.flight 7 = some g ∧ 6 ∈ storeDies s.part g.cmd ∧
      g.ring = c.opb / 2 ^ 48 % 32 ∧ g.cmd.cookie = c.opb / 2 ^ 32 % 65536 ∧
      (0 < sdiff t (tx64 (s.nowU g.cmd.timeDie)) ↔ t = 65536)) := by
  decide +kernel

/-! ### The clock unit -/

def isRatio (o : Nat) : Bool := decide (0x100 ≤ o) && decide (o < 0x15C)
/-- PLLs 0 and 22 locked. -/
def locked (s : State) : State := (s.put locClk (R.CLK_PLL_LOCKED 0) 1).put locClk (R.CLK_PLL_LOCKED 22) 1
theorem test_wit_PllRatio :
    (∀ p ∈ [0, 22], (∀ v ∈ [0x10, 0x0], let c := cWrite locClk (0x100 + 4 * p) v; let s := locked State.reset;
      begun (writesTo (· == locClk) isRatio) mCfgWrite c s = true ∧ c.opb % 256 = 0 ∧
      pllOn s.part p = true ∧
      (let old := (on c s).reg locClk c.opa; let new := newWord ((fieldsAt locClk c.opa).getD []) old (BitVec.ofNat 32 v);
       (fget new 4 2 = fget old 4 2 ↔ v = 0) ∧ s.coasting p = false ∧
      s.flag locClk (R.CLK_PLL_RELOCK_BUSY p) = false ∧ s.flag locClk (R.CLK_PLL_SRC_FAST p) = false))) := by
  decide +kernel

/-- A host-ready part whose both inputs are stable at 10 MHz. -/
def clocked (s : State) : State :=
  let s := ((lrefOk s).put locClk R.CLK_XFREQ_B_HZ 10000000).put locClk R.CLK_STAT_XB_STABLE 1
  s.fpPut R.FP_BOOT_STATE 6

theorem test_wit_ClkCtrl :
    (∀ v ∈ [0, 1], let c := cWrite locClk 0 v; let s := on c (clocked State.reset);
      let u := s.setReg locClk 0 (newWord ((fieldsAt locClk 0).getD []) (s.reg locClk 0) (BitVec.ofNat 32 v));
      begun (writesTo (· == locClk) (· == 0)) mCfgWrite c (clocked State.reset) = true ∧ s.hostReady = true ∧
      u.inStable (u.flag locClk R.CLK_CTRL_LREF_SEL) = true ∧
      (u.flag locClk R.CLK_CTRL_LREF_SEL ≠ s.flag locClk R.CLK_CTRL_LREF_SEL ↔ v = 1) ∧
      (s.flag locClk R.CLK_STAT_LREF_XB ≠ u.flag locClk R.CLK_CTRL_LREF_SEL ↔ v = 1) ∧
      s.flag locClk R.CLK_STAT_LREF_LOST = false) ∧
    (let c := cWrite locClk 0 0x20; let s := (clocked State.reset).put locClk (R.CLK_PLL_SRC_FAST 0) 1;
      begun (fun c => writesTo (· == locClk) (· == 0) c && bit (c.cfgWord ((fieldsAt locClk 0).getD []) 0).toNat 5)
        mCfgWrite c s = true ∧ s.inStable (s.flag locClk R.CLK_STAT_LREF_XB) = true ∧ 0 ∈ plls s.part ∧
      s.flag locClk (R.CLK_PLL_SRC_FAST 0) = true ∧ s.flag locClk (R.CLK_PLL_RELOCK_BUSY 0) = false) := by decide +kernel

/-! ### TBL -/

/-- The record of an entry of table `id`. -/
def record (id index key res : Nat) : List Byte := recBytes id 0 { idx := index, key := key, mask := 0, res := res }
def cTbl (op opa : Nat) : Cmd := { opcode := op, opa := opa, loc := mkLoc 0 0 0 0 0, opb := 4096 }
/-- A record in host memory at 4096. -/
def atHost (r : List Byte) (s : State) : State := withDma { s with env := { s.env with mem := memPuts [] 4096 r } }
/-- The record that lies there. -/
def theRec (s : State) : TRec := recOf ((s.dmaRead 4096 256).getD [])

/-- An unreadable record; tables by index (the flow table only in its shadow bank), flow entries by INDEX; a key that is
there and one that is not; a pinning over paths that are down. -/
theorem test_wit_TblWrites :
    (begun (isOp 0x20) mTblWrite (cTbl 0x20 5) State.reset = true ∧ (on (cTbl 0x20 5)).dmaRead 4096 256 = none) ∧
    (∀ r ∈ [(4, 0), (5, 0), (7, 0), (8, 1)], let id := r.1; let s := atHost (record id 0 0 r.2) State.reset;
      begun (isOp 0x20) mTblWrite (cTbl 0x20 id) s = true ∧ (s.dmaRead 4096 256).isSome = true ∧
      s.bankOf 0 id false ≠ s.liveBank 0 id ∧ s.bankOf 0 id true = s.liveBank 0 id ∧
      (id = 5 → begun (isOp 0x20) mTblWrite (cTbl 0x20 (5 + 16)) s = true)) ∧
    (∀ i ∈ [0, 8191], begun (isOp 0x20) mTblWrite (cTbl 0x20 3) (atHost (record 3 i 1 0) State.reset) = true) ∧
    (let s := (atHost (record 1 0 (16 * 256 + 7 * 65536) 9) State.reset).setTbl 0 1 1 [⟨6, 16 * 256 + 7 * 65536, 0, 1⟩];
      begun (isOp 0x20) mTblWrite (cTbl 0x20 1) s = true ∧
      (s.tbl 0 1 (s.bankOf 0 1 false)).find? (fun e => e.key == (theRec s).key) ≠ none) ∧
    (let s := atHost (record 1 0 (16 * 256 + 7 * 65536) 9) State.reset;
      begun (isOp 0x20) mTblWrite (cTbl 0x20 1) s = true ∧ s.tbl 0 1 (s.bankOf 0 1 false) = [] ∧ 0 < tblSize 1) ∧
    (let s := atHost (record 9 0 255 0) State.reset;
      begun (isOp 0x20) mTblWrite (cTbl 0x20 9) s = true ∧ (∃ far ∈ otherDies 0, dieOn s.part far = true ∧
        s.pathUp 0 far (pathCode (theRec s).res 0 far) = false)) := by decide +kernel

/-- A table whose entries are all taken, none of them with the key. -/
def fullTbl (n : Nat) (s : State) : State := s.setTbl 0 2 1 (List.replicate n ⟨0, 8, 0, 0⟩)
theorem fullTbl_tbl (n : Nat) : let s := fullTbl n (atHost (record 2 0 7 9) State.reset)
    (s.tbl 0 2 (s.bankOf 0 2 false)).find? (fun e => e.key == 7) = none ∧
    (s.tbl 0 2 (s.bankOf 0 2 false)).length = n := by
  have b : (fullTbl n (atHost (record 2 0 7 9) State.reset)).bankOf 0 2 false = 1 :=
    show (atHost (record 2 0 7 9) State.reset).bankOf 0 2 false = 1 by decide +kernel
  have h : (fullTbl n (atHost (record 2 0 7 9) State.reset)).tbl 0 2
      ((fullTbl n (atHost (record 2 0 7 9) State.reset)).bankOf 0 2 false) = List.replicate n ⟨0, 8, 0, 0⟩ := by
    rw [b]; rfl
  show List.find? _ (State.tbl _ _ _ _) = none ∧ (State.tbl _ _ _ _).length = n
  rw [h]
  exact ⟨by simp, List.length_replicate⟩

theorem test_wit_TblFull :
    let s := fullTbl 131072 (atHost (record 2 0 7 9) State.reset)
    begun (isOp 0x20) mTblWrite (cTbl 0x20 2) s = true ∧ (theRec s).key = 7 ∧
      (s.tbl 0 2 (s.bankOf 0 2 false)).find? (fun e => e.key == 7) = none ∧
      tblSize 2 ≤ (s.tbl 0 2 (s.bankOf 0 2 false)).length :=
  ⟨by decide +kernel, by decide +kernel, (fullTbl_tbl 131072).1, Nat.le_of_eq (fullTbl_tbl 131072).2.symm⟩

theorem test_wit_TblDeletesReadsSearches :
    (let s := (atHost (record 5 0 4 0) State.reset).setTbl 0 5 1 [⟨4, 4, 0, 9⟩];
      (s.dmaRead 4096 256).isSome = true ∧
      (∀ op ∈ [(0x21, mTblDelete), (0x22, mTblRead), (0x23, mTblSearch)],
        begun (isOp op.1) op.2 (cTbl op.1 5) s = true ∧ begun (isOp op.1) op.2 (cTbl op.1 (5 + 16)) s = true) ∧
      (∀ c ∈ [cTbl 0x21 5, cTbl 0x22 5], findEnt c (theRec s) (s.tbl 0 5 (s.bankOf 0 5 false)) = some ⟨4, 4, 0, 9⟩ ∧
        findEnt c (theRec s) (s.tbl 0 5 (s.bankOf 0 5 true)) = none) ∧
      s.dmaWrite 4096 (recBytes 5 0 ⟨4, 4, 0, 9⟩) ≠ none ∧ s.dmaWrite 4096 (putAt ((s.dmaRead 4096 256).getD []) 4 [0]) ≠ none ∧
      s.dmaWrite (4096 + 256) (recBytes 5 0 ⟨4, 4, 0, 9⟩) ≠ none) := by decide +kernel

/-- The host reads the entry it asked for by key. -/
theorem test_tbl_read : after (.tblRead 0) ((on (cTbl 0x22 5) (atHost (record 5 0 4 0) State.reset)).setTbl 0 5 1 [⟨4, 4, 0, 9⟩])
    (fun t => memByte t.env.mem (4096 + 0x90) == 9 && memByte t.env.mem (4096 + 4) == 2) = true := by decide +kernel

theorem test_wit_TblCommit : ∀ m ∈ [1, 512, 1023],
    begun (isOp 0x24) mTblCommit { opcode := 0x24, opa := m, loc := mkLoc 0 0 0 0 0 } State.reset = true := by decide +kernel

theorem test_tbl_commit : after (.tblCommit 0) (on { opcode := 0x24, opa := 0x201, loc := mkLoc 0 0 0 0 0 }) (fun t =>
    t.liveBank 0 0 == 1 && t.liveBank 0 1 == 0 && t.liveBank 0 9 == 1) = true := by decide +kernel

/-! ### PORT -/

/-- PORT.SET: FUNC and the rest of OPA, OPB. -/
def cSet (opa b : Nat) (l : Nat := sp) : Cmd := { opcode := 0x30, opa := opa, opb := b, loc := l }
def isSetMode (c : Cmd) : Bool := c.opcode == 0x30 && (c.opa % 16 == 0 || decide (7 ≤ c.opa % 16))

theorem test_wit_PortSet :
    State.reset.present 0 64 = true ∧ State.reset.present 0 0 = false ∧
    begun (isFunc 0x30 3) mPortSet (cSet 3 (7 + 3 * 2 ^ 34)) State.reset = true ∧
    begun (isFunc 0x30 5) mPortSet (cSet 5 (2 ^ 32 - 1)) State.reset = true ∧
    (∀ k ∈ [0, 3], begun (isFunc 0x30 6) mPortSet (cSet (6 + 16 * k) 0x123456789ABCDEF) State.reset = true) ∧
    (∀ r ∈ [(1, 0), (2, 0), (3, 7 + 3 * 2 ^ 34), (4, 0), (5, 0), (6, 0)],
      begun (isFunc 0x30 r.1) mPortSet (cSet r.1 r.2 (portLoc 0 0)) State.reset = true) ∧
    (∀ k ∈ [7, 15], (on (cSet k 0)).begins 0 isSetMode = some (fl (cSet k 0))) := by decide +kernel

/-- Classes 16 to 31 of the DSCP map take the values of OPB (R419). -/
theorem test_port_set_dscp : after (.portSetDscp 0) (on (cSet (6 + 16) 0x00000000000000A5)) (fun t =>
    (t.port 0 64).dscpMap / 2 ^ (4 * 16) % 256 == 0xA5) = true := by decide +kernel

/-- The unit of a service port, at DISABLED ports and at one that is not; a rate; spans that fit and that do not. -/
theorem test_wit_PortSetModeRateSpan :
    (let c := cSet 0 2 (mkLoc 0 0 0 0 16); let s := fitPort State.reset; begun isSetMode mPortSet c s = true ∧
      s.unitPorts 0 0 ≠ [] ∧ (∀ q ∈ s.unitPorts 0 0, s.pstate 0 q = psDisabled) ∧
      s.raisesOver (s.put (unitLoc 0 0 16) R.PU_MODE_MODE 2) 0 = false) ∧
    (let c := cSet 0 2 (mkLoc 0 0 0 0 16);
      let s := ((fitPort State.reset).pput 0 0 R.PORT_STAT_STATE psUp);
      begun isSetMode mPortSet c s = true ∧ (s.unitPorts 0 0).find? (fun q => s.pstate 0 q != psDisabled) = some 0) ∧
    (∀ p ∈ [64, 71], (∀ b ∈ [0, 1], begun (isFunc 0x30 1) mPortSet (cSet 1 b (portLoc 0 p)) State.reset = true ∧
      State.reset.present 0 p = true ∧ State.reset.pstate 0 p = psDisabled ∧
      State.reset.raisesOver (State.reset.putB (unitLoc 0 16 16) ⟨0, 16 + (p - 64), 1⟩ (bit b 0)) 0 = false)) ∧
    (begun (isFunc 0x30 1) mPortSet (cSet 1 1) (up State.reset) = true ∧ (up State.reset).pstate 0 64 ≠ psDisabled) ∧
    (∀ b ∈ [0, 100000], begun (isFunc 0x30 2) mPortSet (cSet 2 b) State.reset = true ∧
      State.reset.raisesOver (State.reset.setPort 0 64 { State.reset.port 0 64 with span := b }) 0 = false) := by
  decide +kernel

/-- All the buffer is reserved by a class of port 65. -/
def reserved (s : State) : State :=
  s.put (portLoc 0 65) (R.QUE_CLASS_CFG_MIN_CELLS 1) 262144
/-- Relka, lossless traffic and credits on port 64. -/
def loose (s : State) : State :=
  ((s.pput 0 64 R.QUE_PORT_CFG_LOSSLESS_EN 1)).put (mkLoc 0 0 0 20 1) (R.TC_ATTR_LOSSLESS 0) 1

theorem test_wit_ReservationsOver :
    (begun (isFunc 0x30 2) mPortSet (cSet 2 (100000)) (loose (reserved State.reset)) = true ∧
      let s := loose (reserved State.reset);
      s.raisesOver (s.setPort 0 64 { s.port 0 64 with span := 100000 }) 0 = true) := by
  decide +kernel

theorem test_wit_PortSetRelka :
    (∀ b ∈ [0, 0x10], begun (isFunc 0x30 4) mPortSet (cSet 4 b) State.reset = true) ∧
    (let s := fitPort State.reset; begun (isFunc 0x30 4) mPortSet (cSet 4 1 (portLoc 0 0)) s = true ∧
      s.present 0 0 = true ∧ s.rlkState 0 0 = rlkOff) ∧
    (let s := ((fitPort State.reset).setReg (portLoc 0 0) 0x300 1).pput 0 0 R.RLK_STAT_STATE rlkLinked;
      begun (isFunc 0x30 4) mPortSet (cSet 4 0 (portLoc 0 0)) s = true ∧ s.rlkState 0 0 ≠ rlkOff ∧
      s.rlkState 0 0 ≠ rlkSounding ∧ (0 : Word) = fset (s.reg (portLoc 0 0) 0x300) 0 1 0) ∧
    (let s := ((fitPort State.reset).setReg (portLoc 0 0) 0x300 1).pput 0 0 R.RLK_STAT_STATE rlkSounding;
      begun (isFunc 0x30 4) mPortSet (cSet 4 0 (portLoc 0 0)) s = true ∧ s.rlkState 0 0 = rlkSounding) ∧
    (let s := ((fitPort State.reset).setReg (portLoc 0 0) 0x300 1).pput 0 0 R.RLK_STAT_STATE rlkLinked;
      begun (isFunc 0x30 4) mPortSet (cSet 4 0x11 (portLoc 0 0)) s = true ∧ (0x11 : Word) ≠ s.reg (portLoc 0 0) 0x300 ∧
      (0x11 : Word) ≠ fset (s.reg (portLoc 0 0) 0x300) 0 1 0) := by
  decide +kernel

def cUp (bg : Bool) : Cmd := { opcode := 0x31, loc := sp, bg := bg }
def upReq (s : State) (bg : Bool) : WakeReq :=
  { die := 0, clu := 4, prio := if bg then 4 else 3, tick := s.now, num := some 0, unit := some 16 }

/-- Service ports with power; a die without a budget. -/
def unitOn (s : State) : State := s.put (unitLoc 0 16 16) R.PU_POW_STATE 1
def broke (s : State) : State := s.ledPut (R.POW_DIE_BUDGET 0) 0

theorem test_wit_PortUpDown :
    portUnit 64 = 16 ∧
    (∀ bg ∈ [false, true], begun (isOp 0x31) mPortUp (cUp bg) State.reset = true ∧
      State.reset.pstate 0 64 = psDisabled ∧ (let s := unitOn State.reset; s.pstate 0 64 = psDisabled ∧ s.unitPow 0 16 ≠ 0) ∧
      State.reset.unitPow 0 16 = 0 ∧ State.reset.refuse (upReq State.reset bg) (State.reset.ahead (upReq State.reset bg)) = [] ∧
      (let s := broke State.reset; s.unitPow 0 16 = 0 ∧ s.refuse (upReq s bg) (s.ahead (upReq s bg)) ≠ [] ∧
        begun (isOp 0x31) mPortUp (cUp bg) s = true)) ∧
    (begun (isOp 0x31) mPortUp (cUp false) (up State.reset) = true ∧ (up State.reset).pstate 0 64 ≠ psDisabled) ∧
    (begun (isOp 0x32) mPortDown { opcode := 0x32, loc := sp } State.reset = true) ∧
    (begun (isOp 0x32) mPortDown { opcode := 0x32, loc := sp } (up State.reset) = true) := by decide +kernel

theorem test_port_down : after (.portDown 0) (on { opcode := 0x32, loc := sp } (up State.reset)) (fun t =>
    t.pstate 0 64 == psDisabled && t.pfld 0 64 R.PORT_STAT_DOWN_CAUSE == 6) = true := by decide +kernel

def cLoop (depth : Nat) : Cmd := { opcode := 0x33, opa := depth, loc := sp }
def cPrbs (opa b l : Nat) : Cmd := { opcode := 0x34, opa := opa, opb := b, loc := l }
/-- Port 64 in TEST with a pattern on its lane. -/
def testing (s : State) : State :=
  ((s.pput 0 64 R.PORT_STAT_STATE psTest).put (laneLoc 0 16 0) R.PRBS_STAT_GEN_ON 1)

theorem test_wit_PortLoopsAndPatterns :
    (∀ k ∈ [1, 2, 3, 4, 5], begun (fun c => c.opcode == 0x33 && c.opa % 8 != 0) mPortLoop (cLoop k) (unitOn State.reset) = true ∧
      (unitOn State.reset).pstate 0 64 = psDisabled ∧ (unitOn State.reset).pflag 0 64 R.RLK_CTRL_EN = false ∧
      (unitOn State.reset).unitPow 0 16 ≠ 0) ∧
    (∀ k ∈ [0, 1], let s := State.reset.pput 0 64 R.PORT_STAT_LOOP k;
      begun (fun c => c.opcode == 0x33 && c.opa % 8 == 0) mPortLoop (cLoop 0) s = true ∧
      (s.pfld 0 64 R.PORT_STAT_LOOP = 0 ↔ k = 0)) ∧
    (∀ l ∈ [0, 7], let loc := laneLoc 0 16 l; locUnit loc = 16 ∧ locSub loc - 8 = l ∧ 8 ≤ locSub loc ∧
      Tab.wf (State.reset.die 0).prbsLock = true ∧
      (∀ a ∈ [1, 2, 3, 0x47, 0x0D], begun (fun c => c.opcode == 0x34 && c.opa % 4 != 0) mPortPrbs (cPrbs a 2 loc)
          (unitOn State.reset) = true) ∧
      ((unitOn State.reset).laneOwner 0 16 l).all (fun p => (unitOn State.reset).pstate 0 p == psDisabled) = true) ∧
    (begun (fun c => c.opcode == 0x34 && c.opa % 4 == 0) mPortPrbs (cPrbs 0 0 (laneLoc 0 16 0)) (testing State.reset) = true ∧
      (testing State.reset).laneOwner 0 16 0 = some 64 ∧ (testing State.reset).pstate 0 64 = psTest ∧
      (testing State.reset).pfld 0 64 R.PORT_STAT_LOOP = 0 ∧
      ∀ k ∈ (testing State.reset).portLanes 0 64, k ≠ 0 → (testing State.reset).lanePrbs 0 16 k = false) := by decide +kernel

def cInj (opa b l : Nat) : Cmd := { opcode := 0x35, opa := opa, opb := b, loc := l }
/-- Port 0 with an injection of which `made` frames are made. -/
def injecting (made : Nat) (c : Cmd) : State :=
  let s := put (fx c 625000000) (fitPort State.reset)
  s.setPort 0 0 { s.port 0 0 with inj := some { num := 0, made := made } }

theorem test_wit_PortInjections :
    (let s := (fitPort State.reset).pput 0 0 R.PORT_STAT_STATE psUp;
      (∀ k ∈ [(2, 65536), (10, 30 * 65536), (3, 0), (4, 0)], begun (isOp 0x35) mPortInject (cInj k.1 (5 + k.2) (portLoc 0 0)) s = true) ∧
      s.present 0 0 = true ∧ locSub (portLoc 0 0) < 8 ∧ s.hasFec 0 0 = true ∧ injPort (portLoc 0 0) = (0, 0) ∧
      s.pstate 0 0 = psUp) ∧
    (begun (isOp 0x35) mPortInject (cInj 2 (5 + 65536) (portLoc 0 0)) (fitPort State.reset) = true ∧
      (fitPort State.reset).pstate 0 0 ≠ psUp ∧ (fitPort State.reset).pstate 0 0 ≠ psRemote) ∧
    (∀ c ∈ [cInj 2 (5 + 15 * 65536) (portLoc 0 0), cInj 2 (5 + 16 * 65536) (portLoc 0 0), cInj 3 65535 (portLoc 0 0),
        cInj 4 3 (portLoc 0 0)],
      (injecting 3 c).flight 0 = some (fx c 625000000) ∧ ((injecting 3 c).port 0 0).inj.map Inj.num = some 0 ∧
      locDie c.loc ≠ 7) ∧
    ((injecting 2 (cInj 4 3 (portLoc 0 0))).port 0 0).inj = some { num := 0, made := 2 } ∧
    (∀ b ∈ [0, 1], let s := State.reset.put (laneLoc 0 0 1) R.PRBS_STAT_CHK_ON b; let c := cInj 1 5 (laneLoc 0 0 1);
      begun (isOp 0x35) mPortInject c s = true ∧ 8 ≤ locSub c.loc ∧ locSub c.loc ≠ 16 ∧
      s.flag c.loc R.PRBS_STAT_CHK_ON = (b == 1)) ∧
    (let c := cInj 1 5 (laneLoc 0 0 1); let s := (put (fx c 0)).put (laneLoc 0 0 1) R.PRBS_STAT_CHK_LOCK 1;
      let s := s.setPort (injPort c.loc).1 (injPort c.loc).2 { s.port (injPort c.loc).1 (injPort c.loc).2 with inj := some { num := 0 } };
      s.flight 0 = some (fx c 0) ∧ s.flag c.loc R.PRBS_STAT_CHK_LOCK = true ∧
      (s.port (injPort c.loc).1 (injPort c.loc).2).inj.map Inj.num = some 0) := by decide +kernel

/-- Five codewords with 16 symbols in error count as uncorrectable (R250). -/
theorem test_inject_codewords : after (.portInjectDone 0) (injecting 0 (cInj 2 (5 + 16 * 65536) (portLoc 0 0))) (fun t =>
    t.fld (portLoc 0 0) R.FEC_UNCORR_UNCORR == 5 && t.fld (portLoc 0 0) R.FEC_CORR_CORR == 0) = true := by decide +kernel

/-! ### QUE, MIR -/

def cQue (opa b : Nat) : Cmd := { opcode := 0x40, opa := opa, opb := b, loc := sp }

theorem test_wit_QueSet :
    (∀ k ∈ [0, 15], begun (fun c => isQueSet 0 c || (c.opcode == 0x40 && decide (5 ≤ bits c.opa 4 4))) mQueSet
      (cQue k (100 * 65536 + 1)) State.reset = true) ∧
    begun (isQueSet 1) mQueSet (cQue 0x1F (1000 + 20000 * 2 ^ 32)) State.reset = true ∧
    (begun (isQueSet 2) mQueSet (cQue 0x22 (7 + 3 * 16 + 50 * 256)) State.reset = true ∧
      State.reset.raisesOver (State.reset.put sp (R.QUE_CLASS_CFG_MIN_CELLS 2) 50) 0 = false) ∧
    (begun (isQueSet 2) mQueSet (cQue 0x21 (262144 * 256)) State.reset = true ∧
      State.reset.raisesOver (State.reset.put sp (R.QUE_CLASS_CFG_MIN_CELLS 1) 262144) 0 = true) ∧
    begun (isQueSet 3) mQueSet (cQue 0x30 (1000 + 20000 * 2 ^ 32)) State.reset = true ∧
    (begun (isQueSet 4) mQueSet (cQue 0x40 1) State.reset = true ∧
      State.reset.raisesOver (State.reset.put sp R.QUE_PORT_CFG_LOSSLESS_EN 1) 0 = false ∧
      State.reset.pstate 0 64 = psDisabled) ∧
    (begun (isQueSet 4) mQueSet (cQue 0x40 1) (up State.reset) = true ∧ (up State.reset).losslessEn 0 64 = false ∧
      (up State.reset).pstate 0 64 ≠ psDisabled) ∧
    (begun (isQueSet 4) mQueSet (cQue 0x40 (10000 * 65536)) (up State.reset) = true ∧
      (up State.reset).losslessEn 0 64 = false ∧ (up State.reset).creditOn 0 64 = false ∧
      (up State.reset).raisesOver ((up State.reset).put sp R.QUE_PORT_CFG_LOSSLESS_EN 0) 0 = false) ∧
    (begun (isQueSet 4) mQueSet (cQue 0x40 1) (reserved State.reset) = true ∧
      (reserved State.reset).raisesOver ((reserved State.reset).put sp R.QUE_PORT_CFG_LOSSLESS_EN 1) 0 = true) := by
  decide +kernel

/-- A gate list of two entries from the host's memory: base 10^15 ns, cycle 5,000 ns, extension 2,000 ns. -/
def gateBytes : List Byte := leBytes 8 (10 ^ 15 * 65536) ++ leBytes 4 5000 ++ leBytes 4 2000 ++ leBytes 16 2 ++
  leBytes 8 (0xFF + 1000 * 65536) ++ leBytes 8 (0xFE + 4000 * 65536)
def cGate (opa b : Nat) : Cmd := { opcode := 0x41, opa := opa, loc := sp, opb := b }
def gates (g : Option GateList) (s : State) : State := s.setPort 0 64 { s.port 0 64 with oper := g }
def isLoad (c : Cmd) : Bool := c.opcode == 0x41 && bit c.opa 0
def isOpen (c : Cmd) : Bool := c.opcode == 0x41 && !bit c.opa 0

theorem test_wit_GateLists :
    (begun isLoad mGatelist (cGate 1 4096) State.reset = true ∧ (on (cGate 1 4096)).gateRec 4096 = none) ∧
    (let s := atHost gateBytes State.reset; begun isLoad mGatelist (cGate 1 4096) s = true ∧
      ∃ g, s.gateRec 4096 = some g ∧
        ((s.setPort 0 64 { s.port 0 64 with pend := some (s.gateList 0 g) }).resvSync 0).isSome = true) ∧
    (∀ bg ∈ [false, true], let c := { cGate 1 4096 with bg := bg };
      let s := (atHost gateBytes State.reset).put (mkLoc 0 0 0 20 1) (R.TC_ATTR_TIME_BOUND 0) 1; begun isLoad mGatelist c s = true ∧
      (s.gateRec 4096).any (fun g =>
        let t (s : State) : State := s.setPort 0 64 { s.port 0 64 with pend := some (s.gateList 0 g) };
        (((t s).resvLack 0).foldl (State.resvStep (fl c) 0) (t s, [])).2 == [] &&
          (((t (broke s)).resvLack 0).foldl (State.resvStep (fl c) 0) (t (broke s), [])).2 != []) = true ∧
      begun isLoad mGatelist c (broke s) = true) ∧
    (let s := gates (some { base := 5, cycle := 1000, ext := 0, entries := [(1, 100)], start := 5 }) State.reset;
      begun isOpen mGatelist (cGate 0 0) s = true ∧ (s.port 0 64).oper ≠ none) ∧
    (begun isOpen mGatelist (cGate 0 0) State.reset = true ∧ (State.reset.port 0 64).oper = none) := by decide +kernel

theorem test_wit_Flushes :
    (∀ k ∈ [0, 15, 16], begun (isOp 0x42) mQueFlush { opcode := 0x42, opa := k, loc := sp } State.reset = true) ∧
    (∀ k ∈ [0, 7, 8, 15], begun (isOp 0x50) mMirSet { opcode := 0x50, opa := k, loc := 0, opb := 1 } State.reset = true) ∧
    Tab.wf (State.reset.die 0).mirs = true := by decide +kernel

/-! ### TIME -/

def C (op a b l : Nat) : Cmd := { opcode := op, opa := a, opb := b, loc := l }
def servoIs (k : Nat) (s : State) : State := s.arbPut R.REF_SEL_SERVO_STATE k
/-- Slot `i` holds a source of a kind and is selected; its state is given. -/
def selects (i kind st : Nat) (s : State) : State :=
  (((s.arbPut R.REF_SEL_NONE 0).arbPut R.REF_SEL_SELECTED i).arbPut (R.REF_CFG_CFG i) kind).arbPut (R.REF_STAT_STATE i) st
/-- A step is committed. -/
def stepping (s : State) : State := { s with servo := { s.servo with step := some {} } }

theorem test_wit_TimeChanges :
    (∀ s ∈ [servoIs 3 State.reset, servoIs 6 State.reset, servoIs 7 State.reset, selects 0 5 3 (servoIs 1 State.reset),
        selects 7 5 3 (servoIs 5 State.reset), { State.reset with hst := { State.reset.hst with swap := some 0 } }],
      begun (isOp 0x60) mTimeSet (C 0x60 0 5 locArb) s = true ∧ begun (isOp 0x61) mTimeStep (C 0x61 0 5 locArb) s = true ∧
      begun (isOp 0x62) mTimeSlew (C 0x62 1 5 locArb) s = true ∧
      (s.servoState = 3 ∨ 6 ≤ s.servoState ∧ s.servoState ≤ 7 ∨ s.hst.swap ≠ none ∨
        (s.servoState = 1 ∨ s.servoState = 5) ∧ s.selTime = true)) ∧
    (∀ k ∈ [0, 2, 4], (servoIs k State.reset).timeRefused = false ∧ (servoIs k State.reset).servo.step = none ∧
      (∀ b ∈ [0, 2 ^ 48 - 1], begun (isOp 0x60) mTimeSet (C 0x60 0 b locArb) (servoIs k State.reset) = true) ∧
      (∀ b ∈ [0, 2 ^ 64 - 500], begun (isOp 0x61) mTimeStep (C 0x61 0 b locArb) (servoIs k State.reset) = true) ∧
      begun (isOp 0x62) mTimeSlew (C 0x62 1 5 locArb) (servoIs k State.reset) = true) ∧
    (begun (isOp 0x60) mTimeSet (C 0x60 0 5 locArb) (stepping State.reset) = true ∧
      begun (isOp 0x61) mTimeStep (C 0x61 0 5 locArb) (stepping State.reset) = true ∧
      (stepping State.reset).timeRefused = false ∧ (stepping State.reset).servo.step = some {}) := by decide +kernel

/-- TIME.SET commits its seconds. -/
theorem test_time_set : after (.timeSet 0) (on (C 0x60 0 77 locArb)) (fun t =>
    t.servo.step.any (fun x => x.set && x.secs == 77 && x.num == some 0)) = true := by decide +kernel

theorem test_wit_TimeAlign :
    begun (isOp 0x63) mTimeAlign (C 0x63 0 0 locArb) State.reset = true ∧
    (∀ o ∈ [(0 : Int), 65536], let f := fx (C 0x63 0 0 locArb) 0;
      let s := (put f).setPend o; let s := { s with servo := { s.servo with align := [(0, uSec)] } };
      s.flight 0 = some f ∧ s.servo.align.find? (fun x => x.1 == 0) = some (0, uSec) ∧ (s.refPend = (0 : Int) ↔ o = (0 : Int))) := by
  decide +kernel

/-- Trigger 0 with period 1 ms, pulses of 5 us. -/
def trg (st : Nat) (s : State) : State :=
  let l := hubLoc 20
  let s := ((((s.put l R.TRG_PERIOD_LO_NS 1000000).put l R.TRG_FRAC_DEN 7).put l R.TRG_WIDTH_WIDTH 5000))
  s.put l R.TRG_STAT_STATE st
def cArm (k t late : Nat) : Cmd := { opcode := 0x64, opa := k, opb := t, loc := hubLoc 20, late := late }
def isArm (c : Cmd) : Bool := c.opcode == 0x64 && c.opa % 4 != 0
def isDisarm (c : Cmd) : Bool := c.opcode == 0x64 && c.opa % 4 == 0

theorem test_wit_Triggers :
    (∀ k ∈ [1, 2], begun isArm mTimeArm (cArm k 65536000 0) (trg 0 State.reset) = true ∧
      begun isArm mTimeArm (cArm k 65536000 0) (trg 1 State.reset) = true ∧
      (trg 0 State.reset).shapeBad 0 k = false ∧
      (let s := (trg 0 State.reset).put (hubLoc 20) R.TRG_WIDTH_WIDTH 0; s.shapeBad 0 k = true ∧
        begun isArm mTimeArm (cArm k 65536000 0) s = true) ∧
      (let s := ((trg 0 State.reset).put locCol R.FLT_STAT_SAFE 1).put (hubLoc 20) R.TRG_CTRL_SAFE_MUTE 1;
        s.safe = true ∧ begun isArm mTimeArm (cArm k 65536000 0) s = true) ∧
      (trg 0 State.reset).fld (hubLoc 20) R.TRG_STAT_STATE = 0 ∧ (trg 1 State.reset).fld (hubLoc 20) R.TRG_STAT_STATE ≠ 0) ∧
    hubLoc 20 = hubLoc (20 + (locUnit (hubLoc 20) - 20)) ∧
    ((State.reset.nowU 6 : Int) + 65536000 - fromTx64 (State.reset.nowU 6) 65536000 ≤ 0 ∧
      sdiff 65536000 State.reset.txNow ≠ -horizon) ∧
    (∀ late ∈ [0, 1], begun isArm mTimeArm (cArm 2 0 late) (trg 0 State.reset) = true ∧
      (((State.reset.ring 0).grace * 65536000 : Nat) : Int) <
        (State.reset.nowU 6 : Int) + 65536000 - fromTx64 (State.reset.nowU 6) 0) ∧
    (∀ k ∈ [0, 1, 2], begun isDisarm mTimeArm (cArm 0 0 0) (trg k State.reset) = true) := by decide +kernel

/-- A trigger that is disarmed is IDLE with cause 1 (R222). -/
theorem test_disarm : after (.timeArmDisarm 0) (on (cArm 0 0 0) (trg 1 State.reset)) (fun t =>
    t.fld (hubLoc 20) R.TRG_STAT_STATE == 0 && t.fld (hubLoc 20) R.TRG_STAT_CAUSE == 1) = true := by decide +kernel

/-- Two edges in capture queue 0, two stamps in the queue of port 64, polling mode in both. -/
def queued (s : State) : State :=
  let s := s.put (hubLoc 12) R.CAP_CTRL_MODE 1
  let s := (s.pput 0 64 R.TS_CTRL_TSQ_MODE 1).setPort 0 64 { s.port 0 64 with
    tsq := [⟨1, 2, 3, false, false, 0, 4⟩, ⟨2, 3, 3, false, false, 0, 5⟩] }
  s.setCap 0 { s.cap 0 with queue := [⟨7, false, 0, false, false, false, false, false, 0⟩,
                                      ⟨8, true, 0, false, false, false, false, false, 1⟩] }
def isDrain (c : Cmd) : Bool := c.opcode == 0x65 && bits c.opa 14 2 != 1
def isFlush (c : Cmd) : Bool := c.opcode == 0x65 && bits c.opa 14 2 == 1

theorem test_wit_Drains :
    (∀ m ∈ [1, 256], begun isDrain mTimeCapture (C 0x65 m 4096 (hubLoc 12)) (queued State.reset) = true ∧
      (queued State.reset).flag (hubLoc 12) R.CAP_CTRL_MODE = true ∧
      (on (C 0x65 m 4096 (hubLoc 12)) (queued State.reset)).dmaWrite 4096 ((((queued State.reset).cap 0).queue.take m).map
        (fun e => e.bytes 0)).flatten = none ∧
      ((withDma (queued State.reset)).dmaWrite 4096 ((((queued State.reset).cap 0).queue.take m).map
        (fun e => e.bytes 0)).flatten).isSome = true) ∧
    begun isFlush mTimeCapture (C 0x65 0x4000 0 (hubLoc 12)) (queued State.reset) = true ∧
    begun isDrain mTimeCapture (C 0x65 1 4096 (hubLoc 12)) ((queued State.reset).setCap 0 {}) = true ∧
    (let s := (withDma (queued State.reset)).put (hubLoc 12) R.CAP_CTRL_MODE 0;
      let s := s.setCap 0 { s.cap 0 with queue := (s.cap 0).queue.map (fun e => { e with dropped := e.fall }) };
      begun isDrain mTimeCapture (C 0x65 1 4096 (hubLoc 12)) s = true ∧ s.flag (hubLoc 12) R.CAP_CTRL_MODE = false ∧
      (((s.cap 0).queue.filter CapEnt.dropped).take 1).length = 1 ∧
      (s.dmaWrite 4096 (((((s.cap 0).queue.filter CapEnt.dropped).take 1).map (fun e => e.bytes 0)).flatten)).isSome = true) ∧
    (let s := (withDma (queued State.reset)).pput 0 64 R.TS_CTRL_TSQ_MODE 0;
      let s := s.setPort 0 64 { s.port 0 64 with tsq := (s.port 0 64).tsq.map (fun e => { e with dropped := true }) };
      begun (isOp 0x66) mTsqDrain (C 0x66 1 4096 sp) s = true ∧ s.pflag 0 64 R.TS_CTRL_TSQ_MODE = false ∧
      (((s.port 0 64).tsq.filter TsqEnt.dropped).take 1).length = 1) ∧
    begun (isOp 0x66) mTsqDrain (C 0x66 1 4096 sp) State.reset = true ∧ (State.reset.port 0 64).tsq = [] ∧
    begun (isOp 0x66) mTsqDrain (C 0x66 1 4096 (portLoc 0 0)) State.reset = true ∧ State.reset.present 0 0 = false ∧
    (∀ m ∈ [1, 16], begun (isOp 0x66) mTsqDrain (C 0x66 m 4096 sp) (withDma (queued State.reset)) = true ∧
      (queued State.reset).pflag 0 64 R.TS_CTRL_TSQ_MODE = true ∧
      ((withDma (queued State.reset)).dmaWrite 4096 ((((queued State.reset).port 0 64).tsq.take m).map
        (fun e => e.bytes 0 64)).flatten).isSome = true) := by decide +kernel

theorem test_tsq_drain : after (.tsqDrain 0) (withDma (queued (on (C 0x66 1 4096 sp)))) (fun t =>
    (t.port 0 64).tsq == [⟨2, 3, 3, false, false, 0, 5⟩]) = true := by decide +kernel

/-! ### LINK -/

/-- Port 64 with a link state of Relka; it can sound. -/
def link (st : Nat) (s : State) : State := (s.pput 0 64 R.RLK_STAT_STATE st).pput 0 64 R.RLK_CTRL_SOUND_CAP 1
def wls : Nat := 1310000 + 1290000 * 2 ^ 22

theorem test_wit_LinkAsym :
    (∀ r ∈ [(0, 12345), (1, wls + 5 * 2 ^ 44), (2, wls), (3, 0)],
      begun (isAsym r.1) mLinkAsym (C 0x71 r.1 r.2 (portLoc 0 0)) State.reset = true ∧
      (∀ st ∈ [rlkSounding, rlkLinked], begun (isAsym r.1) mLinkAsym (C 0x71 r.1 r.2 sp) (link st State.reset) = true)) ∧
    (link rlkSounding State.reset).rlkState 0 64 = rlkSounding ∧ (link rlkLinked State.reset).rlkState 0 64 ≠ rlkSounding := by
  decide +kernel

def sounded (x : Sound) (s : State) : State := (link rlkSounding s).setSnd 0 64 x
def isBegin (c : Cmd) : Bool := c.opcode == 0x70 && !([2, 3, 4, 5, 15].contains (c.opa % 16))
def isMeasure (c : Cmd) : Bool := c.opcode == 0x70 && (c.opa % 16 == 2 || c.opa % 16 == 3)

theorem test_wit_LinkSound :
    (begun isBegin mLinkSound (C 0x70 1 0 sp) (link 3 State.reset) = true ∧ (link 3 State.reset).rlkState 0 64 ≠ rlkLinked) ∧
    (begun isBegin mLinkSound (C 0x70 1 0 sp) (link rlkLinked State.reset) = true ∧
      (link rlkLinked State.reset).rlkState 0 64 = rlkLinked ∧
      (link rlkLinked State.reset).pflag 0 64 R.RLK_CTRL_SOUND_CAP = true) ∧
    (∀ k ∈ [2, 3], begun isMeasure mLinkSound (C 0x70 k (wls + 5 * 2 ^ 44) sp) (link rlkSounding State.reset) = true) ∧
    (let f := fx (C 0x70 2 0 sp) 625000000; let s := (put f).setSnd 0 64 { num := some 0 };
      s.flight 0 = some f ∧ (s.snd 0 64).num = some 0) ∧
    (let s := sounded { doneA := some (1, 2), doneB := some (5, 6) } State.reset;
      begun (isFunc 0x70 4) mLinkSound (C 0x70 4 0 sp) s = true ∧ (s.snd 0 64).sumOf false = some 3 ∧
      (s.snd 0 64).sumOf true = some 11) ∧
    (let s := sounded {} State.reset; begun (isFunc 0x70 4) mLinkSound (C 0x70 4 0 sp) s = true ∧
      (s.snd 0 64).sumOf false = none) ∧
    (∀ b ∈ [false, true], let s := sounded { solved := b } State.reset;
      begun (isFunc 0x70 5) mLinkSound (C 0x70 5 wls sp) s = true ∧ (s.snd 0 64).solved = b) ∧
    (∀ st ∈ [rlkSounding, rlkLinked], begun (isFunc 0x70 15) mLinkSound (C 0x70 15 0 sp) (link st State.reset) = true) := by
  decide +kernel

/-! ### REF -/

def isNominate (c : Cmd) : Bool := c.opcode == 0x80 && bit c.opa 3
def isWithdraw (c : Cmd) : Bool := c.opcode == 0x80 && !bit c.opa 3

theorem test_wit_RefSet :
    (∀ i ∈ [0, 7], (∀ k ∈ [6, 7], begun isNominate mRefSet (C 0x80 (8 + i) 1 locArb) (servoIs k State.reset) = true) ∧
      begun isNominate mRefSet (C 0x80 (8 + i) 1 locArb) State.reset = true ∧ State.reset.refShut = false ∧
      State.reset.refState i = 0 ∧ State.reset.selected ≠ some i ∧
      begun isWithdraw mRefSet (C 0x80 i 0 locArb) State.reset = true ∧
      begun isWithdraw mRefSet (C 0x80 i 0 locArb) (selects i 5 3 State.reset) = true ∧
      (selects i 5 3 State.reset).selected = some i) ∧
    (let s := selects 3 1 3 State.reset; begun isNominate mRefSet (C 0x80 8 1 locArb) s = true ∧ s.refState 3 ≠ 0 ∧
      sameSource (s.refCfg 3) 1 = true) ∧
    (let s := selects 3 1 3 State.reset; s.refState 3 ≠ 0 ∧ s.refCfg 3 % 2 ^ 13 = 1 ∧
      begun isNominate mRefSet (C 0x80 11 (1 + 5 * 2 ^ 13) locArb) s = true ∧
      begun isNominate mRefSet (C 0x80 11 2 locArb) s = true ∧ s.refCfg 3 % 2 ^ 13 ≠ 2 ∧
      ∀ j, j < 8 → j ≠ 3 → s.refState j = 0 ∨ sameSource (s.refCfg j) 1 = false) := by decide +kernel

def isSelect (mode settling : Nat) (s : State) : State := (s.arbPut R.REF_SEL_MODE mode).arbPut R.REF_SEL_SETTLING settling

/-- The offset of slot `i` lies 3 s off; the timescale is traced, so it is refused (R164). -/
def farOff (i : Nat) (s : State) : State :=
  (s.setRef i { s.ref i with toff := 3 * 10 ^ 9 * 65536 }).arbPut R.REF_SEL_TS_TRACED 1
theorem test_wit_RefSelections :
    State.reset.refShut = false ∧
    (∀ k ∈ [6, 7], (servoIs k State.reset).refShut = true ∧
      begun (isOp 0x83) mRefRelease (C 0x83 0 0 locArb) (servoIs k State.reset) = true) ∧
    (∀ i ∈ [0, 7],
      (let s := selects i 1 3 State.reset; s.selected = some i ∧ s.arb R.REF_SEL_MODE < 2 ∧ (s.ref i).dead = false ∧
        begun (isOp 0x81) mRefSelect (C 0x81 i 0 locArb) s = true ∧ begun (isOp 0x82) mRefForce (C 0x82 i 0 locArb) s = true) ∧
      (let s := farOff i ((selects i 1 3 State.reset).arbPut R.REF_SEL_NONE 1); s.refState i = 3 ∧ s.selected = none ∧
        freqKind (s.refKind i) = false ∧ s.tooFar i (s.ref i).toff = true ∧
        begun (isOp 0x81) mRefSelect (C 0x81 i 0 locArb) s = true ∧ begun (isOp 0x82) mRefForce (C 0x82 i 0 locArb) s = true) ∧
      (let s := (selects i 1 1 State.reset).setRef i { State.reset.ref i with dead := true }; s.refState i ≠ 0 ∧
        (s.ref i).dead = true ∧ begun (isOp 0x82) mRefForce (C 0x82 i 0 locArb) s = true) ∧
      (State.reset.refState i = 0 ∧ begun (isOp 0x82) mRefForce (C 0x82 i 0 locArb) State.reset = true) ∧
      (∀ m ∈ [2, 3], 2 ≤ (isSelect m 0 State.reset).arb R.REF_SEL_MODE)) ∧
    (∀ i ∈ [0, 7], (begun (isOp 0x81) mRefSelect (C 0x81 i 0 locArb) State.reset = true ∧ State.reset.refState i ≠ 3) ∧
      (let s := (State.reset.arbPut (R.REF_STAT_STATE i) 3).arbPut R.REF_SEL_NONE 1;
        begun (isOp 0x81) mRefSelect (C 0x81 i 0 locArb) s = true ∧ s.refState i = 3 ∧
        s.flag locArb R.REF_SEL_SETTLING = false ∧ s.arb R.REF_SEL_MODE < 2 ∧ s.selected ≠ some i ∧
        s.tooFar i (s.ref i).toff = false ∧ begun (isOp 0x82) mRefForce (C 0x82 i 0 locArb) s = true ∧ s.refState i ≠ 0 ∧
        s.refState i ≠ 4 ∧ (s.ref i).dead = false) ∧
      (let s := State.reset.arbPut (R.REF_STAT_STATE i) 4; begun (isOp 0x84) mRefAcceptStep (C 0x84 i 0 locArb) s = true ∧
        s.refState i = 4) ∧
      begun (isOp 0x84) mRefAcceptStep (C 0x84 i 0 locArb) State.reset = true) ∧
    begun (isOp 0x82) mRefForce (C 0x82 15 0 locArb) State.reset = true ∧
    (∀ m ∈ [0, 1, 2, 3], begun (isOp 0x83) mRefRelease (C 0x83 0 0 locArb) (isSelect m 0 State.reset) = true) := by
  decide +kernel

theorem test_force_none : after (.refForce 0) (on (C 0x82 15 0 locArb) (selects 2 5 3 State.reset)) (fun t =>
    t.selected == none && t.arb R.REF_SEL_MODE == 3) = true := by decide +kernel

/-- A time-of-day message: seconds 0x12345678, SYNC flag set, its check. -/
def todBytes (flags : Nat) : List Byte :=
  let b : List Byte := [0xC3, 0x3C, 0, 0, 0x12, 0x34, 0x56, 0x78, BitVec.ofNat 8 flags]
  b ++ [BitVec.ofNat 8 (crc16 (leAt b 2 7) 56 / 256), BitVec.ofNat 8 (crc16 (leAt b 2 7) 56)]
def after0 (t : Nat) : State := State.reset.advance t

theorem test_wit_ReferenceInputs :
    (∀ b ∈ [0, 1], (todBytes b).length = 11 ∧ beAt (todBytes b) 0 2 = 0xC33C ∧
      crc16 (leAt (todBytes b) 2 7) 56 = beAt (todBytes b) 9 2) ∧
    (∀ t ∈ [6250000, 562500000], State.reset.servo.pulse0 + 6250000 ≤ (after0 t).now ∧
      (after0 t).now ≤ (after0 t).servo.pulse0 + 562500000) ∧
    (after0 6249999).now < (after0 6249999).servo.pulse0 + 6250000 ∧ ([] : List Byte).length ≠ 11 ∧
    (∀ st ∈ [2, 3, 4], ∀ i ∈ [0, 7], 2 ≤ (State.reset.arbPut (R.REF_STAT_STATE i) st).refState i) ∧
    State.reset.servoState ≠ 6 ∧ State.reset.refState 0 = 0 ∧
    (let s := { State.reset with servo := { State.reset.servo with pulse0 := 1, pulse1 := 1, todOk := true } };
      s.servo.pulse1 ≠ 0 ∧ s.servo.pulse0 ≠ 0 ∧ s.servo.todOk = true ∧ (∀ i, i < 8 → s.refState i = 0)) ∧
    (-62500 : Int).natAbs ≤ 62500 ∧ 62500 < (62501 : Int).natAbs := by decide +kernel

/-- Slot 7 is a clock input, or a pulse input, in a state; no vote. -/
def gated (kind st : Nat) : State := (selects 7 kind st State.reset).arbPut R.REF_CTRL_VOTE_EN 0
/-- A gate of a slot: one that brings two samples of an offset, one without a sample, and one with a failure. -/
def meas0 : GateMeas := ⟨7, 5, [(0, 3), (625000000, 4)], false⟩
theorem test_wit_Gates :
    (∀ st ∈ [1, 2, 3], let s := gated 2 st;
      s.servoState ≠ 6 ∧ s.servo.gateBad = false ∧ s.flag locArb R.REF_CTRL_VOTE_EN = false ∧ s.refState 7 = st ∧
      s.refKind 7 ≠ 5 ∧ s.refKind 7 ≠ 6 ∧ phaseKind (s.refKind 7) = false ∧ (∀ x ∈ meas0.offs, x.1 ≤ 625000000) ∧
      (∀ m ∈ [meas0, { meas0 with offs := [] }], let offs := s.gateOffs m; (offs = [] ↔ m.offs = []) ∧
        s.gateCause ((s.ref 7).dead || m.fail || s.standing 7) (s.gateFoff m offs) offs = 0 ∧
        beyond (s.gateFoff m offs) (s.arb R.REF_QUAL_ACCEPT) = false) ∧
      s.gateCause true 5 [] = 1 ∧
      (let m := { meas0 with foff := (s.arb R.REF_QUAL_REJECT * 1000 : Nat) };
        s.gateCause ((s.ref 7).dead || m.fail || s.standing 7) (s.gateFoff m []) [] = 0 ∧
        beyond (s.gateFoff m []) (s.arb R.REF_QUAL_ACCEPT) = true) ∧
      s.gateCause false (s.arb R.REF_QUAL_REJECT * 1000 + 1 : Nat) [] = 2 ∧ (gated 7 st).standing 7 = true) ∧
    (let s := { gated 2 3 with servo := { (gated 2 3).servo with gateBad := true } };
      s.servoState ≠ 6 ∧ s.servo.gateBad = true) ∧
    (servoIs 6 State.reset).servoState = 6 := by decide +kernel

theorem test_wit_Settling :
    State.reset.flag locArb R.REF_SEL_SETTLING = false ∧
    (∀ k ∈ [2, 5], let s := isSelect 0 1 (selects 7 k 3 (servoIs 5 State.reset)); s.flag locArb R.REF_SEL_SETTLING = true ∧
      s.servoState = 5 ∧ s.selected = some 7 ∧ (freqKind (s.refKind 7) = true ↔ k = 2)) ∧
    (∀ k ∈ [2, 5], let s := selects 0 k 3 (servoIs 1 State.reset); s.servoState = 1 ∧ s.selected = some 0) ∧
    State.reset.servoState ≠ 1 := by decide +kernel

/-! ### Outputs, triggers, captures -/

/-- Synthesizer 0 in or out of lock, its ratio 8 * 2^40; PULSE outputs of 1 ms are staged. -/
def synth (lock : Nat) (s : State) : State :=
  let s := (s.put (hubLoc 8) R.OUT_SYN_STAT_LOCKED lock).putPair (hubLoc 8) R.OUT_SYN_RATIO_LO_M R.OUT_SYN_RATIO_HI_M (8 * 2 ^ 40)
  [1, 2, 3].foldl (fun s o =>
    let s := (s.setReg (outLoc 0 o) 0 (4 * 32 + 128)).put (outLoc 0 o) R.OUT_DIV_N 5000
    (s.put (outLoc 0 o) R.OUT_PULSE_PERIOD_PERIOD 1000000).put (outLoc 0 o) R.OUT_PULSE_WIDTH_WIDTH 5000) s

theorem test_wit_Synthesizers :
    (∀ m ∈ [1, 2, 5, 7], begun (isOp 0x90) mOutSet (C 0x90 m 0 (hubLoc 8)) (synth 1 State.reset) = true) ∧
    (∀ m ∈ [8 * 2 ^ 40, 8 * 2 ^ 40 + 8 * 2 ^ 40 / 5000, 8 * 2 ^ 40 + 8 * 2 ^ 40 / 5000 + 1],
      begun (isOp 0x91) mOutFreq (C 0x91 0 m (hubLoc 8)) (synth 1 State.reset) = true) ∧
    (synth 1 State.reset).ratio 0 = 8 * 2 ^ 40 ∧
    ((synth 1 State.reset).flag (hubLoc 8) R.OUT_SYN_STAT_LOCKED = true) ∧
    ((synth 0 State.reset).calBusy (hubLoc 8) 5 = false ∧
      ({ State.reset with cals := [(calKey (hubLoc 8) 5, { num := some 0 })] } : State).calBusy (hubLoc 8) 5 = true) ∧
    (let s := put (fx (C 0x90 1 0 (hubLoc 8)) 0); s.flight 0 = some (fx (C 0x90 1 0 (hubLoc 8)) 0)) ∧
    ((synth 0 State.reset).flag (hubLoc 8) R.OUT_SYN_STAT_LOCKED = false) := by decide +kernel

/-- OUT.SET mutes the outputs it names. -/
theorem test_out_set : after (.outSet 0) (on (C 0x90 1 0 (hubLoc 8)) (synth 1 State.reset)) (fun t =>
    t.flag (outLoc 0 1) R.OUT_STAT_MUTED && (t.out (outIdx 0 1)).startAt != 0) = true := by decide +kernel

def withOut (k o : Nat) (x : OutLive) (live : Nat) (s : State) : State := (s.setOut (outIdx k o) x).put (outLoc k o) R.OUT_STAT_LIVE live
theorem test_wit_Outputs :
    (∀ ko ∈ [(0, 1), (3, 3)],
      ((State.reset.out (outIdx ko.1 ko.2)).startAt = 0 ∧ State.reset.flag (hubLoc (8 + ko.1)) R.OUT_SYN_STAT_LOCKED = false) ∧
      (let s := withOut ko.1 ko.2 { startAt := 65536 } 0 State.reset; (s.out (outIdx ko.1 ko.2)).startAt ≠ 0 ∧
        s.outHeld (s.out (outIdx ko.1 ko.2)) = false) ∧
      (let s := reduced (withOut ko.1 ko.2 { startAt := 65536, cfg := 0xFFF } 0 State.reset);
        s.outHeld (s.out (outIdx ko.1 ko.2)) = true) ∧
      (let s := withOut ko.1 ko.2 { cfg := 0xFFF, period := 1000000 } 1 State.reset;
        (s.out (outIdx ko.1 ko.2)).pulse = true ∧ s.flag (outLoc ko.1 ko.2) R.OUT_STAT_LIVE = true)) := by decide +kernel

/-- A trigger in a mode, its burst of three pulses. -/
def armed (n : Nat) (x : Trig) (count : Nat) (s : State) : State :=
  ((((s.setTrig n x).put (hubLoc (20 + n)) R.TRG_STAT_STATE 1).put (hubLoc (20 + n)) R.TRG_BURST_B_M1 2).put (hubLoc (20 + n))
    R.TRG_COUNT_COUNT count).put (hubLoc (20 + n)) R.TRG_FRAC_DEN 1
theorem test_wit_TriggersFire :
    (∀ n ∈ [0, 7], State.reset.trgLive n = false ∧
      (∀ x ∈ [{ mode := 1, now := true }, { mode := 3, b := 0 }, { mode := 3, b := 1 }, ({ mode := 3, b := 2 } : Trig)],
        (armed n x 0 State.reset).trgLive n = true ∧ ((armed n x 0 State.reset).trig n).mode = x.mode) ∧
      (let s := armed n { mode := 2, k := 4 } 5 State.reset; s.trgLive n = true ∧ s.trgCount n = some 5) ∧
      (let s := armed n { mode := 2, k := 3 } 5 State.reset; s.trgLive n = true ∧ s.trgCount n = some 5) ∧
      (armed n { mode := 2 } 0 State.reset).trgCount n = none ∧
      (let s := armed n { mode := 1 } 0 State.reset; s.calBusy (hubLoc (20 + n)) 3 = false ∧ s.loopCaps n = [] ∧
        ({ s with cals := [(calKey (hubLoc (20 + n)) 3, { num := some 0 })] } : State).calBusy (hubLoc (20 + n)) 3 = true)) := by
  decide +kernel

theorem test_trigger_ends : after (.triggerFire 0) (armed 0 { mode := 1 } 0 State.reset) (fun t =>
    t.fld (hubLoc 20) R.TRG_STAT_STATE == 0 && t.fld (hubLoc 20) R.TRG_FIRED_FIRED == 1) = true := by decide +kernel

/-- Capture channel `ch` with an edge selection, in polling mode. -/
def capture (ch edge : Nat) (x : Cap) (s : State) : State :=
  (((s.setCap ch x).put (hubLoc (12 + ch)) R.CAP_CTRL_EN 1).put (hubLoc (12 + ch)) R.CAP_CTRL_MODE 1).put (hubLoc (12 + ch))
    R.CAP_CTRL_EDGE edge
def ent0 : CapEnt := ⟨0, false, 0, false, false, false, false, false, 0⟩
theorem test_wit_Captures :
    (∀ ch ∈ [0, 7], State.reset.flag (hubLoc (12 + ch)) R.CAP_CTRL_EN = false ∧
      (∀ e ∈ [0, 1, 2], let s := capture ch e {} State.reset; s.flag (hubLoc (12 + ch)) R.CAP_CTRL_EN = true ∧
        s.fld (hubLoc (12 + ch)) R.CAP_CTRL_EDGE = e ∧ s.flag (hubLoc (12 + ch)) R.CAP_CTRL_MODE = true ∧
        (s.cap ch).last = none ∧ (s.cap ch).queue.length < 256 ∧ s.faults.reduced = false ∧
        s.flag (hubLoc (12 + ch)) R.CAP_CTRL_LOOP = false ∧ s.calBusy (hubLoc (12 + ch)) 2 = false ∧
        s.calBusy (hubLoc (20 + ch)) 3 = false ∧
        ((capture ch e {} State.reset).put (hubLoc (12 + ch)) R.CAP_CTRL_MODE 0).flag (hubLoc (12 + ch)) R.CAP_CTRL_MODE = false ∧
        ((capture ch e {} State.reset).put (hubLoc (12 + ch)) R.CAP_CTRL_LOOP 1).flag (hubLoc (12 + ch)) R.CAP_CTRL_LOOP = true) ∧
      (256 ≤ ((capture ch 2 { queue := List.replicate 256 ent0 } State.reset).cap ch).queue.length) ∧
      (((capture ch 2 { queue := List.replicate 255 ent0 } State.reset).cap ch).queue.length < 256) ∧
      (let s := (capture ch 2 { last := some 0 } State.reset).put (hubLoc (12 + ch)) R.CAP_CTRL_DEAD 1;
        ((s.tail 5).m * 4096 + 0 - 0) * 16 < s.fld (hubLoc (12 + ch)) R.CAP_CTRL_DEAD * 40960)) := by decide +kernel

theorem test_capture : after (.captureEdge 3 true 17) (capture 3 2 {} State.reset) (fun t =>
    (t.cap 3).queue.map (fun e => (e.fall, e.seq)) == [(true, 0)] && t.fld (hubLoc 15) R.CAP_SEQ_SEQ == 1) = true := by
  decide +kernel

/-! ### The spindle and the headstocks -/

/-- Headstock TA and TB in their states. -/
def heads (a b : Nat) (s : State) : State := (s.setHs false a).setHs true b
def hstIs (f : Hst) (s : State) : State := { s with hst := f }

theorem test_wit_Words :
    State.reset.activeHs = none ∧ State.reset.warmingHs = none ∧
    (let s := heads hsActive hsStandby State.reset; s.activeHs = some false ∧ s.hst.starting ≠ some false ∧
      s.drive false = false) ∧
    (let s := (heads hsFailed hsActive State.reset).setDrive true true; s.activeHs = some true ∧
      s.hst.starting ≠ some true ∧ s.drive true = true) ∧
    (let s := heads hsActive hsOff State.reset; let s := hstIs { s.hst with starting := some false } s;
      s.activeHs = some false ∧ s.hst.starting = some false) ∧
    (let s := heads hsActive hsWarming State.reset; s.warmingHs = some true ∧ s.wordValid true = false) ∧
    (∀ x ∈ [(none, hsFailed), (some 0, hsActive)], let s := heads x.2 hsWarming State.reset;
      let s := hstIs { s.hst with swap := x.1 } s; s.warmingHs = some true ∧ s.wordValid true = true ∧ s.hst.swap = x.1) := by
  decide +kernel

/-- A word on TA's lane, as sent at tick 0. -/
def word (w : SpWord) (s : State) : State :=
  let s := heads hsActive hsStandby s
  hstIs { s.hst with laneA := some w.bits320 } s
def word0 : SpWord :=
  { fcw := 7, epoch := 0, seq := 1, hold := false, step := none, traceable := false, servo := 0, tb := false, slewLeft := 0,
    slewRate := 0, tick := 0 }
def step1 : StepC := { offset := -12345, tick := 800 }
theorem test_wit_TailstocksObey :
    (∀ t ∈ [0, 5], (State.reset.hst.laneA = none ∧ State.reset.hst.laneB = none) ∧
      (∀ w ∈ [word0, { word0 with hold := true }, { word0 with step := some step1.wire, slewLeft := -5, traceable := true }],
        let s := word w State.reset; s.hst.laneA = some w.bits320 ∧ wordCrcOk w.bits320 = true ∧ spWord w.bits320 = w ∧
        w.epoch = (s.tail t).epoch ∧
        w.tick = toBits (((s.tail t).n : Int) - (((s.tail t).m : Int) - s.hst.wordAt)) 48) ∧
      (let w := { word0 with epoch := 1 }; (spWord w.bits320).epoch ≠ ((word w State.reset).tail t).epoch) ∧
      (let w := { word0 with tick := 1 }; (spWord w.bits320).tick ≠
        toBits (((State.reset.tail t).n : Int) - (((State.reset.tail t).m : Int) - State.reset.hst.wordAt)) 48) ∧
      (∀ k ∈ [0, 303, 319], wordCrcOk (Nat.xor word0.bits320 (2 ^ k)) = false) ∧
      (let s := word word0 State.reset; s.activeHs = some false ∧ bit s.hst.crcSeen t = false) ∧
      (let s := word word0 State.reset; let s := hstIs { s.hst with crcSeen := 63 - 2 ^ t, crcRun := 3 } s;
        bit s.hst.crcSeen t = false ∧ s.hst.crcSeen + 2 ^ t = 63) ∧
      (State.reset.activeHs ≠ some false) ∧ State.reset.faults.armed = [] ∧
      State.reset.now ≤ (State.reset.tail t).heardAt + 409600) := by decide +kernel

/-- A word whose 100th bit was turned over on the way is counted and ignored (R184). -/
theorem test_bad_word : after (.spindleWordReceive 2 false (2 ^ 100)) (word word0 State.reset) (fun t =>
    t.fld (tailLoc 2) R.SPN_CNT_BAD_WORD == 1 && (t.tail 2).fcw == (State.reset.tail 2).fcw) = true := by decide +kernel

/-- A step of 12,345 units held by all tailstocks for tick 400. -/
def step0 : StepC := { offset := 12345, tick := 400 }
def held (x : StepC) (s : State) : State :=
  { s with tails := (List.range 6).map (fun i => (i, { s.tail i with step := some x })) }
theorem test_wit_Steps :
    State.reset.servo.due = none ∧
    (∀ d ∈ [(1 : Int), -(2 ^ 63) + 1, 2 ^ 63], let s := { State.reset with servo := { State.reset.servo with due := some (7, d) } };
      s.servo.due = some (7, d) ∧ s.servo.step = none ∧ s.hst.swap = none ∧ s.servoState < 6) ∧
    State.reset.stepDue = none ∧
    (∀ x ∈ [step0, { set := true, secs := 7, tick := 400 }], let s := held x State.reset;
      let s := { s with servo := { s.servo with step := some { x with num := some 0 },
                                                applying := [⟨0, 400, List.range 6, none⟩] } };
      (∀ i, i < 6 → (s.tail i).step = some x ∧ (s.tail i).n = (s.tail 5).n) ∧
      s.servo.step.map (fun y => (y.wire, y.num)) = some (x, some 0) ∧
      s.servo.applying = [{ num := 0, tick := x.tick, left := List.range 6, result := none }]) ∧
    (let s := State.reset.setTail 2 { State.reset.tail 2 with step := some step0 };
      s.stepDue = some 400 ∧ (s.advance 400).stepHere.contains 5 = false ∧ (s.tail 3).step = none) ∧
    State.reset.servo.slewRate = 0 ∧
    ({ State.reset with servo := { State.reset.servo with slewRate := 5, slewEnd := 9 } } : State).servo.slewRate ≠ 0 := by
  decide +kernel

/-- A step moves every tailstock and counts STEP_GEN (R94, R98). -/
theorem test_step_apply : after .stepApply (held step0 State.reset) (fun t =>
    (List.range 6).all (fun i => (t.tail i).stepGen == 1 && (t.tail i).fu == 400 * fuTick + 5 * 12345)) = true := by
  decide +kernel

theorem test_wit_Failures :
    (∀ tb ∈ [false, true], let s := heads (if tb then hsStandby else hsActive) (if tb then hsActive else hsStandby) State.reset;
      s.hs tb = hsActive ∧ s.hs (!tb) = hsStandby ∧ s.faults.armed = [] ∧ s.hsIn hsStandby = some (!tb) ∧ s.hs tb ≠ hsOff ∧
      s.hs tb ≠ hsStandby ∧ s.hst.writes = [] ∧ State.reset.hs tb = hsOff ∧ State.reset.hs tb ≠ hsActive) ∧
    State.reset.hsIn hsStandby = none := by decide +kernel

/-- Two misses fail the active headstock with cause 1 (R179, R180); the standby has no power for 6,000 ns (R191). -/
theorem test_heartbeat_timeout : after (.heartbeatTimeout false) (heads hsActive hsStandby State.reset) (fun t =>
    t.hs false == hsFailed && t.hs true == hsStandby && (t.advance 3750).hs true == hsWarming &&
      t.arb R.HST_LAST_CAUSE == 1) = true := by decide +kernel

/-- Ready for a swap: checkpoint fresh, link up. -/
def swappable (s : State) : State := ((heads hsActive hsStandby s).arbPut R.HST_STAT_LINK_UP 1).arbPut R.HST_STAT_CKPT_STALE 0
/-- TA's last word carries a step for tick 800. -/
def aheadOf (s : State) : State := hstIs { s.hst with laneA := some ({ word0 with step := some step1.wire } : SpWord).bits320 } s
theorem test_wit_Swaps :
    (let s := swappable State.reset; begun (isOp 0xA0) mHstSwap (C 0xA0 0 0 locArb) s = true ∧ s.activeHs = some false ∧
      s.hsIn hsStandby = some true ∧ s.flag locArb R.HST_STAT_CKPT_STALE = false ∧ s.flag locArb R.HST_STAT_LINK_UP = true ∧
      s.stepAhead false = false ∧ s.servoState < 6 ∧ s.hst.swap = none ∧ s.hst.writes = [] ∧ s.faults.armed = []) ∧
    (aheadOf (swappable State.reset)).stepAhead false = true ∧
    (∀ s ∈ [State.reset, heads hsActive hsFailed State.reset, (swappable State.reset).arbPut R.HST_STAT_CKPT_STALE 1,
        (swappable State.reset).arbPut R.HST_STAT_LINK_UP 0, aheadOf (swappable State.reset), servoIs 6 (swappable State.reset),
        hstIs { (swappable State.reset).hst with swap := some 0 } (swappable State.reset)],
      begun (isOp 0xA0) mHstSwap (C 0xA0 0 0 locArb) s = true) ∧
    (∀ k ∈ [0, 1], begun (isOp 0xA1) mHstRevive (C 0xA1 k 0 locArb) State.reset = true ∧
      State.reset.hs (bit k 0) ≠ hsFailed ∧
      begun (isOp 0xA1) mHstRevive (C 0xA1 k 0 locArb) (heads hsFailed hsFailed State.reset) = true ∧
      (heads hsFailed hsFailed State.reset).pgLost (bit k 0) = false) ∧
    (State.reset.hs true ≠ hsSelftest ∧ (heads hsActive hsSelftest State.reset).hs true = hsSelftest ∧
      (heads hsActive hsSelftest State.reset).hs (!true) = hsActive ∧ (heads hsOff hsSelftest State.reset).hs (!true) ≠ hsActive) ∧
    (State.reset.flag locArb R.HST_STAT_DUAL_ACTIVE = false ∧
      (State.reset.arbPut R.HST_STAT_DUAL_ACTIVE 1).flag locArb R.HST_STAT_DUAL_ACTIVE = true) ∧
    State.reset.warmingHs = none ∧ (heads hsActive hsWarming State.reset).warmingHs = some true := by decide +kernel

/-- The STANDBY that a swap powered fails its self-check: the swap is aborted, and TA stays (R201). -/
theorem test_swap_aborted : after (.warmingSelfCheckFail 3) (let s := heads hsActive hsWarming (on (C 0xA0 0 0 locArb));
      hstIs { s.hst with swap := some 0 } s) (fun t =>
    t.hs true == hsFailed && t.hs false == hsActive && t.hst.swap == none) = true := by decide +kernel

/-- A checkpoint, number 7, whose COMMIT is not written. -/
def ckpt0 : Ckpt :=
  { seq := 7, tb := true, time := 0, torn := true, hist := {}, refs := [],
    servo := { state := 0, mode := 0, slot := 0, settle := 0, fcw := 0, traced := false, step := none, slewLeft := 0,
               slewRate := 0, pend := 0 } }
theorem test_wit_Checkpoints :
    (State.reset.ckptOpen = false ∧ begun (isOp 0xA2) mHstCheckpoint (C 0xA2 0 0 locArb) State.reset = true) ∧
    (let s := swappable State.reset; begun (isOp 0xA2) mHstCheckpoint (C 0xA2 0 0 locArb) s = true ∧
      s.activeHs = some false ∧ s.hsIn hsStandby = some true ∧ s.hsRaw true = hsStandby ∧
      s.flag locArb R.HST_STAT_LINK_UP = true ∧ s.faults.armed = [] ∧ s.hst.writes = []) ∧
    (let s := hstIs { State.reset.hst with slots := [(3, ckpt0)], writes := [⟨3, 7, 0, some 0⟩] } State.reset;
      s.hst.writes = [⟨3, 7, 0, some 0⟩] ∧ (0 : Nat) ≤ s.now ∧ Tab.get? s.hst.slots 3 = some ckpt0 ∧ ckpt0.seq = 7) ∧
    (State.reset.settleCkpts.hsIn hsStandby = none ∧ ((swappable State.reset).settleCkpts.hsIn hsStandby).isSome = true ∧
      (swappable State.reset).settleCkpts.flag locArb R.HST_STAT_CKPT_STALE = false) := by decide +kernel

/-- The COMMIT of a checkpoint makes its slot valid, and HST.CHECKPOINT reports the number (R189). -/
theorem test_commit : (let s := on (C 0xA2 0 0 locArb); (hstIs { s.hst with slots := [(3, ckpt0)], writes := [⟨3, 7, 0, some 0⟩] }
    s).settleCkpts.hst.slots) = [(3, { ckpt0 with torn := false })] := by decide +kernel

/-! ### Power -/

/-- An IPv4 frame of 64 bytes or more that came in at port 0 of S0. -/
def frameOf (n : Nat) : Frame :=
  { bytes := withFcs (beBytes 6 0x020000000002 ++ beBytes 6 0x020000000001 ++ beBytes 2 0x0800 ++ List.replicate (n - 18) 0),
    die := 0, port := 0, stamp := 5, mono := 5, stepGen := 0, uncal := false, inject := false }
def frame0 : Frame := frameOf 100

/-- One cell of frame 3 in slice 0 of S0. -/
def withCell (bad : Option Nat) (s : State) : State :=
  s.setDie 0 { s.die 0 with cells := [{ fid := 3, cells := 1, refs := 1, port := 0, cls := 2, slices := [(0, 1)], bad := bad }] }

/-- The pipeline of cluster 0 of S0, awake or asleep, with its slice. -/
def pipe (k : Nat) (s : State) : State :=
  (s.put (cluLoc 0 0 20 0) R.FWD_STAT_AWAKE k).put (cluLoc 0 0 21 0) R.BUF_SLICE_AWAKE k
def cWake (bg sl : Bool) : Cmd := { opcode := 0xB0, opa := b2n (!sl), loc := cluLoc 0 0 (if sl then 21 else 20) 0, bg := bg }
def cluReq (s : State) (bg sl : Bool) : WakeReq :=
  { die := 0, clu := 0, prio := if bg then 4 else 3, tick := s.now, num := some 0, slice := sl }
def ledgerIs (x : Ledger) (s : State) : State := { s with ledger := x }
def waking (sl : Bool) (s : State) : State := ledgerIs { s.ledger with waking := [(gateKey 0 0 sl, { ready := 157, num := some 0 })] } s
def sleeping (sl : Bool) (s : State) : State := ledgerIs { s.ledger with sleep := [(gateKey 0 0 sl, { deadline := 7 })] } s
def cBudget (level loc tokens : Nat) : Cmd := { opcode := 0xB2, opa := level, opb := loc + tokens * 65536, loc := locLed }

theorem test_wit_PowWake :
    (∀ bg ∈ [false, true], ∀ sl ∈ [false, true],
      let up (s : State) : Bool := if sl then s.sliceAwake 0 0 else s.awake 0 0
      (∀ s ∈ [pipe 1 State.reset, sleeping false (pipe 1 State.reset)],
        begun (isOp 0xB0) mPowWake (cWake bg sl) s = true ∧ up s = true) ∧
      (let s := pipe 0 State.reset; begun (isOp 0xB0) mPowWake (cWake bg sl) s = true ∧ up s = false ∧
        s.refuse (cluReq s bg sl) (s.ahead (cluReq s bg sl)) = [] ∧ Tab.get? s.ledger.waking (gateKey 0 0 sl) = none) ∧
      (let s := waking sl (pipe 0 State.reset); begun (isOp 0xB0) mPowWake (cWake bg sl) s = true ∧ up s = false ∧
        s.refuse (cluReq s bg sl) (s.ahead (cluReq s bg sl)) = [] ∧
        (Tab.get? s.ledger.waking (gateKey 0 0 sl)).map (·.ready) = some 157) ∧
      (let s := broke (pipe 0 State.reset); begun (isOp 0xB0) mPowWake (cWake bg sl) s = true ∧ up s = false ∧
        s.refuse (cluReq s bg sl) (s.ahead (cluReq s bg sl)) ≠ [])) := by decide +kernel

/-- Port 0 of S0 is UP and carries class 0 without loss towards a PFC partner. -/
def lossyPfc (s : State) : State :=
  (((fitPort s).put (mkLoc 0 0 0 20 1) (R.TC_ATTR_LOSSLESS 0) 1).pput 0 0 R.QUE_PORT_CFG_LOSSLESS_EN 1).pput 0 0
    R.PORT_STAT_STATE psUp
theorem test_wit_PowSleep :
    (let c : Cmd := { opcode := 0xB1, loc := cluLoc 0 0 20 0 };
      (let s := waking false (pipe 0 State.reset); begun (isOp 0xB1) mPowSleep c s = true ∧ s.pipeWaking 0 0 = true) ∧
      (let s := lossyPfc (pipe 1 State.reset);
        begun (isOp 0xB1) mPowSleep c s = true ∧ s.pipeWaking 0 0 = false ∧ s.awake 0 0 = true ∧ (s.sleepBar 0 0).isSome = true) ∧
      (let s := pipe 0 State.reset; begun (isOp 0xB1) mPowSleep c s = true ∧ s.pipeWaking 0 0 = false ∧ s.awake 0 0 = false) ∧
      (let s := pipe 1 State.reset; begun (isOp 0xB1) mPowSleep c s = true ∧ s.pipeWaking 0 0 = false ∧ s.awake 0 0 = true ∧
        s.sleepBar 0 0 = none) ∧
      ((put (fx c 1250000)).flight 0 = some (fx c 1250000))) ∧
    (let c : Cmd := { opcode := 0xB1, loc := cluLoc 0 0 21 0 };
      (let s := waking true (pipe 0 State.reset); begun (isOp 0xB1) mPowSleep c s = true ∧ s.sliceWaking 0 0 = true) ∧
      (let s := pipe 0 State.reset; begun (isOp 0xB1) mPowSleep c s = true ∧ s.sliceWaking 0 0 = false ∧
        s.sliceAwake 0 0 = false) ∧
      (let s := pipe 1 State.reset; begun (isOp 0xB1) mPowSleep c s = true ∧ s.sliceWaking 0 0 = false ∧
        s.sliceAwake 0 0 = true ∧ s.sliceUsed 0 0 = 0 ∧ (withCell none s).sliceUsed 0 0 ≠ 0 ∧
        begun (isOp 0xB1) mPowSleep c (withCell none s) = true)) := by decide +kernel

theorem test_wit_PowBudget :
    (∀ c ∈ [cBudget 0 0 12200, cBudget 3 0 300, cBudget 1 0 2900], begun (isOp 0xB2) mPowBudget c State.reset = true ∧
      (c.opa % 4 = 0 ∨ dieOn State.reset.part (locDie c.budLoc) = true) ∧
      (let b := State.reset.budgetOf (c.opa % 4) c.budLoc; (State.reset.ledPut b.1 c.budTokens).nested = true ∧
        b.2.1 ≤ c.budTokens)) ∧
    (let c := cBudget 1 0 2901; begun (isOp 0xB2) mPowBudget c State.reset = true ∧
      (State.reset.ledPut (State.reset.budgetOf 1 c.budLoc).1 2901).nested = false) ∧
    (let c := cBudget 3 0 9; let s := State.reset.ledPut (R.POW_CLU_USED 0) 10; begun (isOp 0xB2) mPowBudget c s = true ∧
      (s.ledPut (s.budgetOf 3 c.budLoc).1 9).nested = true ∧ 9 < (s.budgetOf 3 c.budLoc).2.1) ∧
    (let c := cBudget 1 (mkLoc 2 0 0 0 0) 100; let s : State := { State.reset with part := .ft2560E };
      begun (isOp 0xB2) mPowBudget c s = true ∧ dieOn s.part (locDie c.budLoc) = false) := by decide +kernel

theorem test_wit_Pipelines :
    (∀ dk ∈ [(0, 0), (3, 3)], Tab.get? State.reset.ledger.waking (gateKey dk.1 dk.2 false) = none ∧
      Tab.get? State.reset.ledger.waking (gateKey dk.1 dk.2 true) = none ∧ State.reset.attempt dk.1 dk.2 false = none ∧
      State.reset.attempt dk.1 dk.2 true = none) ∧
    (Tab.get? (waking false State.reset).ledger.waking (gateKey 0 0 false)).isSome = true ∧
    Tab.get? (waking false State.reset).ledger.waking (gateKey 0 0 true) = none ∧
    (Tab.get? (waking true State.reset).ledger.waking (gateKey 0 0 true)).isSome = true ∧
    Tab.get? (waking true State.reset).ledger.waking (gateKey 0 0 false) = none ∧
    (let s := sleeping false (pipe 1 State.reset); (s.attempt 0 0 false).isSome = true ∧ s.awake 0 0 = true ∧
      s.landEmpty 0 0 = true ∧ s.sleepBar 0 0 = none ∧ s.acked 0 0 = true) ∧
    (let s := sleeping false (pipe 0 State.reset); (s.attempt 0 0 false).isSome = true ∧ s.awake 0 0 = false ∧
      s.sleepBar 0 0 = none) ∧
    (let s := sleeping false (lossyPfc (pipe 1 State.reset)); (s.attempt 0 0 false).isSome = true ∧
      (s.sleepBar 0 0).isSome = true) ∧
    (let s := ledgerIs { State.reset.ledger with waking := [(gateKey 0 0 false, { ready := 157 }),
        (gateKey 0 0 true, { ready := 125 })] } State.reset;
      (Tab.get? s.ledger.waking (gateKey 0 0 true)).map (·.ready) = some 125 ∧
      (Tab.get? s.ledger.waking (gateKey 0 0 false)).map (·.ready) = some 157) ∧
    (sleeping true State.reset).attempt 0 0 true ≠ none ∧
    (let s := State.reset.put (cluLoc 0 0 21 0) R.BUF_SLICE_AWAKE 1; s.sliceAwake 0 0 = true ∧ s.awake 0 0 = false ∧
      s.pipeWaking 0 0 = false ∧ s.sliceUsed 0 0 = 0) ∧
    (let s := (pipe 1 State.reset).put (cluLoc 0 0 20 0) R.PWR_CTRL_AUTO_SLEEP 1;
      (s.advanceTo (s.idleDue 0 0)).maySleep 0 0 = true) ∧
    ((pipe 0 State.reset).advanceTo ((pipe 0 State.reset).idleDue 0 0)).maySleep 0 0 = false := by decide +kernel

theorem test_wake_ready : after (.pipelineWakeReady 0 0) (waking false State.reset) (fun t =>
    t.awake 0 0 && !t.sliceAwake 0 0 && decide (157 ≤ t.now)) = true := by decide +kernel

/-- A time-bound gate of port 64 that opens 3 us from now, and a list that waits for its start. -/
def gateOf (s : State) (entries : List (Nat × Nat)) : GateList :=
  { base := s.nowU 0, cycle := 5000, ext := 0, entries := entries, start := s.nowU 0 + 3000 * 65536 }
def operIs (s : State) : State :=
  gates (some (gateOf s [(0, 3000), (0xFF, 2000)])) (s.put (mkLoc 0 0 0 20 1) (R.TC_ATTR_TIME_BOUND 0) 1)
def pendIs (entries : List (Nat × Nat)) (s : State) : State :=
  s.setPort 0 64 { s.port 0 64 with pend := some (gateOf s entries) }
def hot : List Int := (List.range 32).map (fun i => 900 + (i % 4 : Nat))

theorem test_wit_Grants :
    (∀ r ∈ State.reset.ledger.reqs, r.prio < 6 → State.reset.grantOf r = none) ∧
    (∀ sl ∈ [false, true], let r : WakeReq := { die := 0, clu := 1, prio := 2, tick := 0, num := none, slice := sl };
      let s := ledgerIs { State.reset.ledger with reqs := [r] } State.reset;
      r ∈ s.ledger.reqs ∧ s.grantOf r ≠ none ∧ s.upOrWaking r.die r.clu r.slice = false ∧ (broke s).grantOf r = none) ∧
    (let s := on (cWake true false); let r := cluReq s true false; let s := ledgerIs { s.ledger with reqs := [r] } s;
      r ∈ s.ledger.reqs ∧ r.prio < 6 ∧ s.grantOf r ≠ none ∧ s.flight 0 = some (fl (cWake true false)) ∧
      ((mPowWake.eff (fl (cWake true false)) s).2 = none) ∧
      ((mPowWake.eff (fl (cWake true false)) (pipe 1 s)).2 = some (okC 0)) ∧ (pipe 1 s).grantOf r ≠ none) ∧
    (State.reset.nextOpening 0 64 = none ∧ (State.reset.port 0 64).pend = none ∧ (State.reset.port 0 64).oper = none) ∧
    ((pendIs [] State.reset).port 0 64).pend ≠ none ∧
    (let s := operIs (ledgerIs { State.reset.ledger with resv := [cluNo 0 (portClu 64)] } State.reset);
      (s.port 0 64).oper ≠ none ∧ s.nextOpening 0 64 ≠ none ∧ s.hasResv 0 (portClu 64) = true ∧
      s.upOrWaking 0 (portClu 64) false = false ∧ s.attempt 0 (portClu 64) false = none ∧
      (gateOf State.reset [(0, 3000), (0xFF, 2000)]).nextOf (s.nowU 0 + 1) (fun _ => true) ≠ none) ∧
    (∀ i, i < 8 → dieOn State.reset.part (i / 2) = true → ∀ k, k < 4 →
      readingOk ((hot.drop (4 * i)).take 4) k = true ∧ ((hot.drop (4 * i)).take 4).getD k 0 ≤ gradeMax State.reset.part) := by
  decide +kernel

/-! ### Faults -/

theorem test_wit_FaultMessages :
    kindSev 0x99 = none ∧
    (∀ inj ∈ [false, true], let m : FaultMsg := ⟨portLoc 0 0, 0x52, inj, 3⟩; kindSev m.kind ≠ none ∧ m.loc < 65536 ∧
      State.reset.faults.armed = [] ∧ (m.inj = true ∨ m.kind ≠ 0x61 ∧ m.kind ≠ 0x62) ∧ locDie m.loc ≠ 4 ∧ locDie m.loc ≠ 5) ∧
    ((State.reset.put locCol (R.FLT_PEND_LEVEL 0x52) 0).levelOf ⟨portLoc 0 0, 0x52, false, 3⟩ = 0) := by decide +kernel

/-- A logged message sets its flag and its count (R370, R374). -/
theorem test_fault : after (.faultMessage [⟨portLoc 0 0, 0x52, false, 3⟩]) State.reset (fun t =>
    t.fld locCol R.FLT_LOG_PTR_NEXT == 1 && t.fld locCol (R.FLT_PEND_COUNT 0x52) == 1 &&
      t.flag locCol (R.FLT_PEND_REAL 0x52)) = true := by decide +kernel

/-- Safe state with nothing that keeps it: all PLLs locked, a headstock ACTIVE, a muted trigger. -/
def safeState (s : State) : State :=
  let s := (plls s.part).foldl (fun s p => s.put locClk (R.CLK_PLL_LOCKED p) 1) (s.put locCol R.FLT_STAT_SAFE 1)
  (heads hsActive hsStandby s).put (hubLoc 20) R.TRG_STAT_STATE 3

theorem test_wit_FaultCommands :
    (∀ k ∈ [0x101, 0x60], let c := C 0xC0 k 77 (if k = 0x60 then locCol else hubLoc 5);
      begun (isOp 0xC0) mFltInject c State.reset = true) ∧
    (put (fx (C 0xC0 0x60 77 locCol) 6250000)).flight 0 = some (fx (C 0xC0 0x60 77 locCol) 6250000) ∧
    begun (isClear 0) mFltClear (C 0xC1 0x5200 0 locCol) State.reset = true ∧
    begun (isClear 1) mFltClear (C 0xC1 1 0 locCol) State.reset = true ∧
    (∀ k ∈ [2 + 4, 2 + 8, 2 + 12], begun (isClear 2) mFltClear (C 0xC1 k 0 locCol) State.reset = true) ∧
    (∀ s ∈ [State.reset, safeState State.reset, safeState { State.reset with faults := { State.reset.faults with only := [3] } },
        (safeState State.reset).put locCol (R.FLT_PEND_REAL 0x22) 1], begun (isClear 3) mFltClear (C 0xC1 3 0 locCol) s = true) ∧
    (State.reset.safe = false ∧ (safeState State.reset).safe = true ∧ (safeState State.reset).faults.only = [] ∧
      kinds.find? (safeState State.reset).blocksExit = none ∧
      kinds.find? ((safeState State.reset).put locCol (R.FLT_PEND_REAL 0x22) 1).blocksExit = some 0x22 ∧
      (safeState State.reset).fld (hubLoc 20) R.TRG_STAT_STATE = 3) ∧
    (∀ k ∈ [0x601, 0x352, 0x001], begun (isOp 0xC2) mFltReact (C 0xC2 k 0 locCol) State.reset = true) := by decide +kernel

/-- The end of safe state (R377). -/
theorem test_clear_safe : after (.fltClearSafe 0) (on (C 0xC1 3 0 locCol) (safeState State.reset)) (fun t =>
    !t.safe && t.fld (hubLoc 20) R.TRG_STAT_CAUSE == 3) = true := by decide +kernel

/-! ### CAL and DIAG -/

/-- The servo follows, with a history; both headstocks are up. -/
def settled (s : State) : State :=
  let s := ((heads hsActive hsStandby (servoIs 2 s)).arbPut R.SR_STAT_HIST_VALID 1).put (hubLoc 12) R.CAL_STAT_VALID 1
  { s with servo := { s.servo with hist := { s.servo.hist with short := [5, -7, 1000000] } } }
/-- A record of an item's values in host memory. -/
def calAtHost (item loc : Nat) (s : State) : State :=
  let vs := (List.range (calCount item loc)).map (fun k => (k : Int) * 3 - 50)
  withDma { s with env := { s.env with mem := (s.calRecord loc item 2 vs).zipIdx.map (fun x => (4096 + x.2, x.1)) } }

theorem test_wit_Calibrations :
    (∀ r ∈ [(6, locArb), (5, hubLoc 8), (2, hubLoc 12), (3, hubLoc 20), (4, detLoc 4)],
      begun (isOp 0xD0) mCalRun (C 0xD0 r.1 0 r.2) (settled State.reset) = true ∧
      (settled State.reset).calRunBar r.1 r.2 = none) ∧
    (let s := up (settled State.reset); let s := s.put sp R.DLY_STAT_VALID 1; begun (isOp 0xD0) mCalRun (C 0xD0 1 0 sp) s = true ∧
      s.absent sp = false ∧ s.calRunBar 1 sp = none) ∧
    (begun (isOp 0xD0) mCalRun (C 0xD0 6 0 locArb) State.reset = true ∧ (State.reset.calRunBar 6 locArb).isSome = true) ∧
    (let f := fx (C 0xD0 5 0 (hubLoc 8)) 0; let s : State := { put f with cals := [(calKey (hubLoc 8) 5, { num := some 0 })] };
      s.flight 0 = some f ∧ locDie f.cmd.loc = 6 ∧ (s.calOf (calHome 5 (hubLoc 8)) 5).num = some 0) ∧
    (∀ a ∈ [5, 0x15], let c := C 0xD1 a 8192 (hubLoc 8); begun (isOp 0xD1) mCalRead c State.reset = true ∧
      begun (isOp 0xD1) mCalRead c (withDma State.reset) = true ∧
      (on c).dmaWrite 8192 (State.reset.calRecord (hubLoc 8) 5 0 (State.reset.calSetOf (hubLoc 8) 5)) = none ∧
      ((withDma (on c)).dmaWrite 8192 (State.reset.calRecord (hubLoc 8) 5 0 (State.reset.calFactOf (hubLoc 8) 5))).isSome = true ∧
      ((withDma (on c)).dmaWrite 8192 (State.reset.calRecord (hubLoc 8) 5 (State.reset.fld (hubLoc 8) R.CAL_STAT_SOURCE)
        (State.reset.calSetOf (hubLoc 8) 5))).isSome = true) ∧
    (begun (fun c => c.opcode == 0xD3 && c.item != 15) mCalFactory (C 0xD3 5 0 (hubLoc 8)) State.reset = true ∧
      begun (fun c => c.opcode == 0xD3 && c.item != 15) mCalFactory (C 0xD3 4 0 (detLoc 4)) (settled State.reset) = true ∧
      begun (fun c => c.opcode == 0xD3 && c.item == 15) mCalFactory (C 0xD3 15 0 locIss) State.reset = true) := by
  decide +kernel

set_option maxRecDepth 20000 in
theorem test_wit_CalWrite :
    (let c := C 0xD2 1 4096 (mkLoc 0 0 0 0 16); let s := calAtHost 1 (mkLoc 0 0 0 0 16) State.reset;
      begun (isOp 0xD2) mCalWrite c s = true ∧ s.calWriteBar 1 (mkLoc 0 0 0 0 16) = none ∧ (s.calFetch 4096).isSome = true ∧
      begun (isOp 0xD2) mCalWrite c State.reset = true ∧ State.reset.calFetch 4096 = none ∧
      begun (isOp 0xD2) mCalWrite (C 0xD2 4 4096 (detLoc 4)) (settled State.reset) = true ∧
      ((settled State.reset).calWriteBar 4 (detLoc 4)).isSome = true) := by decide +kernel

/-- Port 64 in a state, with a loop. -/
def looped (k : Nat) (s : State) : State := (up s).pput 0 64 R.PORT_STAT_LOOP k
theorem test_wit_Diag :
    (begun (isOp 0xE0) mDiagTally (C 0xE0 0 4096 locIss) State.reset = true ∧
      (State.reset.dmaWrite 4096 (List.replicate 512 0)) = none ∧
      ((withDma State.reset).dmaWrite 4096 (List.replicate 512 0)).isSome = true) ∧
    (∀ k ∈ [0, 1, 2, 3, 4], begun (isOp 0xE1) mDiagLoop (C 0xE1 100 100 sp) (looped k State.reset) = true ∧
      (looped k State.reset).absent sp = false) ∧
    (begun (isOp 0xE1) mDiagLoop (C 0xE1 100 64 (portLoc 0 0)) State.reset = true ∧
      State.reset.absent (portLoc 0 0) = true) ∧
    (put (fx (C 0xE1 100 100 sp) 0) (looped 2 State.reset)).flight 0 = some (fx (C 0xE1 100 100 sp) 0) := by decide +kernel

/-- The residuals of a loop (R253). -/
theorem test_diag_loop : after (.diagLoopDone 0 0 [3, -2, 5]) (put (fx (C 0xE1 100 100 sp) 0) (looped 2 State.reset)) (fun t =>
    sx (t.pfld 0 64 R.DIAG_LOOP_MIN_MIN) 32 == -2 && sx (t.pfld 0 64 R.DIAG_LOOP_MAX_MAX) 32 == 5) = true := by decide +kernel

/-! ### Clock sources and system PLLs -/

def xaStable (s : State) : State := s.put locClk R.CLK_STAT_XA_STABLE 1
def clkIs (x : Clk) (s : State) : State := { s with clk := x }
/-- PLL 0 under relock on FAST_OSC. -/
def relocking (s : State) : State :=
  clkIs { s.clk with relockAt := [(0, 9)], num := [(0, (0, 7))], lrefOn := true } (((s.put locClk (R.CLK_PLL_RELOCK_BUSY 0) 1).put locClk
    (R.CLK_PLL_ON_FAST 0) 1))

theorem test_wit_Sources :
    State.reset.boot.pgood = false ∧ (powered 0 State.reset).boot.pgood = true ∧
    (∀ k ∈ [0, 1], (State.reset.put locClk R.CLK_CTRL_XB_EN k).flag locClk R.CLK_CTRL_XB_EN = (k == 1)) ∧
    ((clkIs { State.reset.clk with fastOn := true } State.reset).clk.fastOn = true ∧ State.reset.fastStable = false) ∧
    (State.reset.inStable false = false ∧ State.reset.inStable true = false ∧ (xaStable State.reset).inStable false = true ∧
      (State.reset.put locClk R.CLK_STAT_XB_STABLE 1).inStable true = true) ∧
    (State.reset.put locClk R.CLK_STAT_FAST_STABLE 1).fastStable = true ∧
    (State.reset.clk.lrefOn = false ∧ (clkIs { State.reset.clk with lrefOn := true } State.reset).clk.lrefOn = true) ∧
    (State.reset.clk.buildOut = false ∧ (clkIs { State.reset.clk with buildOut := true } State.reset).clk.buildOut = true) := by
  decide +kernel

theorem test_wit_Plls :
    (∀ p ∈ [0, 22], pllOn State.reset.part p = true ∧ (let s := locked (powered 0 State.reset);
      s.boot.pgood = true ∧ s.faults.reduced = false ∧ s.coasting p = false) ∧
      (State.reset.put locClk (R.CLK_PLL_COAST p) 1).coasting p = true) ∧
    ((relocking State.reset).flag locClk (R.CLK_PLL_RELOCK_BUSY 0) = true ∧
      (relocking State.reset).flag locClk (R.CLK_PLL_ON_FAST 0) = true ∧
      Tab.get? (relocking State.reset).clk.num 0 = some (0, 7) ∧ Tab.get? State.reset.clk.num 0 = none ∧
      Tab.get? (relocking State.reset).clk.relockAt 0 = some 9 ∧ Tab.get? State.reset.clk.relockAt 0 = none ∧
      State.reset.flag locClk (R.CLK_PLL_RELOCK_BUSY 0) = false) ∧
    (State.reset.clk.tripAt = none ∧ (clkIs { State.reset.clk with tripAt := some 5 } State.reset).clk.tripAt = some 5) ∧
    (let s := clocked (clkIs { State.reset.clk with lrefOn := true } State.reset);
      let s := (s.put locClk R.CLK_CTRL_SYS_RETURN 1).put locClk (R.CLK_PLL_SRC_FAST 0) 1;
      s.flag locClk R.CLK_CTRL_SYS_RETURN = true ∧ s.lrefStable = true ∧ s.clk.lrefOn = true ∧ s.hostReady = true ∧
      s.flag locClk (R.CLK_PLL_SRC_FAST 0) = true ∧ s.flag locClk (R.CLK_PLL_RELOCK_BUSY 0) = false) := by decide +kernel

/-! ### Frames and bridges -/

/-- Port 0 of S0 is UP, its pipeline and slice awake. -/
def carrying (s : State) : State := (fitPort (pipe 1 s)).pput 0 0 R.PORT_STAT_STATE psUp
def portIs (f : Port → Port) (s : State) : State := s.setPort 0 0 (f (s.port 0 0))
def bytes64 : List Byte := (frameOf 68).bytes
/-- A line without errors: data and control blocks alone. -/
def clean : RxLine := { heads := [2, 1, 1, 2], badCw := 0, part := false }

def queuedFrame : QEnt := { fid := 3, frame := frame0, cls := 2, queue := 2, cells := 1, src := 0, vlan := 1 }
theorem test_wit_Received :
    (State.reset.portLive 0 0 = false ∧ (fitPort State.reset).portLive 0 0 = true ∧
      (let s := (fitPort State.reset).pput 0 0 R.PORT_STAT_STATE psRemote; s.pstate 0 0 = psRemote ∧ s.nearLoop 0 0 = false) ∧
      (∀ k ∈ [1, 3], ((carrying State.reset).pput 0 0 R.PORT_STAT_LOOP k).nearLoop 0 0 = true)) ∧
    (let s := carrying State.reset; (∀ h ∈ clean.heads, h = 1 ∨ h = 2) ∧ (s.port 0 0).lossAt = none ∧
      s.lineErr 0 0 64 clean = false ∧ (∀ h ∈ [0, 3], s.lineErr 0 0 64 { clean with heads := [2, h, 2] } = true) ∧
      s.lineErr 0 0 64 { clean with badCw := 1 } = true ∧ s.safe = false ∧
      (portIs (fun x => { x with lossAt := some (0, 2) }) s).lineErr 0 0 64 clean = true) ∧
    (let s := carrying State.reset; s.portLive 0 0 = true ∧ s.nearLoop 0 0 = false ∧ s.pstate 0 0 = psUp ∧ s.awake 0 0 = true ∧
      s.attempt 0 0 false = none ∧ (s.port 0 0).inj = none ∧ s.creditOn 0 0 = false ∧ portClu 0 = 0 ∧
      (s.put locCol R.FLT_STAT_SAFE 1).safe = true ∧ (s.port 0 0).landing = [] ∧
      fcsOk bytes64 = true ∧ bytes64.length = 64 ∧ 64 ≤ s.maxFrame 0 0 ∧ pfcOf bytes64 = none ∧
      s.contained (pipeLoc 0 0) = false ∧ s.landFits 0 0 (s.rxClass 0 0 bytes64) 64 = true ∧ Tab.wf (s.port 0 0).pause = true) ∧
    (let s := portIs (fun x => { x with landing := List.replicate 8 { frame0 with bytes := List.replicate 9000 0 } }) (carrying State.reset);
      (s.port 0 0).landing ≠ [] ∧ s.landFits 0 0 (s.rxClass 0 0 bytes64) 64 = false) ∧
    (∀ i ∈ [0, 7], ∀ x ∈ [none, some queuedFrame],
      let s := portIs (fun y => { y with pause := [(i, 5)], xoffAt := [(i, 5)], sending := x }) (carrying State.reset);
      Tab.get? (s.port 0 0).pause i = some 5 ∧ Tab.get? (s.port 0 0).xoffAt i = some 5 ∧ Tab.wf (s.port 0 0).pause = true ∧
      s.nearLoop 0 0 = false ∧ (s.port 0 0).sending = x) := by
  decide +kernel

/-- A block whose sync header is neither 01 nor 10 makes the frame an errored one (R236). -/
theorem test_error_block : after (.frameReceive 0 0 bytes64 { clean with heads := [2, 0, 2] }) (carrying State.reset) (fun t =>
    (t.port 0 0).landing.map (·.bad) == [true]) = true := by decide +kernel

/-- A pause of priority 3 by 0xFFFF quanta (R302). -/
theorem test_pfc : after (.pfcFrameReceive 0 0 8 [0, 0, 0, 0xFFFF]) (carrying State.reset) (fun t =>
    (t.port 0 0).pause.map Prod.fst == [3]) = true := by decide +kernel

/-- An entry for port 0 of S0: DIRECT, class 5, 60 bytes at 4096. -/
def pktDirect : Nat := 4096 + 60 * 2 ^ 64 + 5 * 2 ^ 89 + 2 ^ 93
def pktRing (e : Nat) (s : State) : State :=
  let s := withDma (s.setRing 96 { base := 8192, en := true, tail := 1 })
  { s with env := { s.env with mem := memPuts [] 8192 (leBytes 32 e) } }

theorem test_wit_Passage :
    ((carrying State.reset).port 0 0).landing = [] ∧
    ((waking true (carrying State.reset)).sliceWaking 0 (portClu 0) = true ∧
      ({ carrying State.reset with faults := { conts := [{ kind := 0x10, level := 4, loc := 0 }] } } : State).contained
        (pipeLoc 0 0) = true) ∧
    (let s := portIs (fun x => { x with landing := [frame0] }) (carrying State.reset);
      (∃ p < 72, 64 ≤ p ∧ portClu p = 0 ∧ s.present 0 0 = true ∧ (s.port 0 0).landing ≠ [])) ∧
    (State.reset.portLive 0 0 = false ∧ (let s := carrying State.reset; s.portLive 0 0 = true ∧
      ((s.finishTx 0 0).rxUnlocked 0 0 = false) ∧
      ((portIs (fun x => { x with lossAt := some (0, 2) }) s).finishTx 0 0).rxUnlocked 0 0 = true)) ∧
    (let s := portIs (fun x => { x with landing := [{ frame0 with bytes := bytes64 }] }) (carrying State.reset);
      dieOn s.part 0 = true ∧ s.awake 0 (portClu 0) = true ∧ (s.port 0 0).landing ≠ [] ∧ s.sliceWaking 0 (portClu 0) = false ∧
      s.contained (pipeLoc 0 (portClu 0)) = false ∧
      (s.setPort 0 0 { s.port 0 0 with landing := [] }).pipe { frame0 with bytes := bytes64 } ≠ none) ∧
    (let s := (portIs (fun x => { x with landing := [frame0] }) (carrying State.reset)).put locCol R.FLT_STAT_SAFE 1;
      s.safe = true ∧ frame0.die < 4 ∧ (s.port 0 0).landing = [frame0] ∧ s.awake 0 (portClu 0) = true) ∧
    (let s := carrying State.reset; s.present 0 0 = true ∧ s.pstate 0 0 = psUp ∧ ((s.finishTx 0 0).choose' 0 0) = none) ∧
    (∀ bad ∈ [none, some 4], let s := withCell bad (portIs (fun x => { x with queue := [queuedFrame] }) (carrying State.reset));
      ((s.finishTx 0 0).choose' 0 0).map (fun r => r.1.fid) = some 3 ∧
      (((s.finishTx 0 0).die 0).cells.any (fun g => g.fid == 3 && g.bad.isSome) = bad.isSome)) ∧
    (∀ e ∈ [pktDirect, pktDirect + 2 ^ 95, pktDirect - 2 ^ 64], let s := pktRing e (carrying State.reset);
      (s.ring 96).running = true ∧ (s.ring 96).used ≠ 0 ∧ (s.dmaRead ((s.ring 96).base + 32 * ((s.ring 96).head % 2 ^ (s.ring 96).sizeLog2)) 32).map leNat = some e) ∧
    (let s := pktRing pktDirect (carrying State.reset); pktDirect < 2 ^ 112 ∧ bit pktDirect 95 = false ∧ bit pktDirect 93 = true ∧
      bits pktDirect 64 14 = 60 ∧ s.present (bits pktDirect 87 2) (bits pktDirect 80 7) = true ∧ s.pstate 0 0 = psUp ∧
      60 + 4 ≤ s.maxFrame 0 0 ∧ (s.dmaRead (pktDirect % 2 ^ 64) 60).isSome = true ∧
      (s.direct 0 0 5 none (withFcs (List.replicate 60 0 ++ leBytes 4 0))).isSome = true) ∧
    (dieOn State.reset.part 3 = true ∧ dieOn State.reset.part 7 = false ∧
      dieOn ({ State.reset with part := .ft2560E } : State).part 2 = false) := by decide +kernel

/-- Bridges between S0 and the dies 1 and 2, up; one flit from die 1 for `far`. -/
def flit1 (far : Nat) : Flit := ⟨0, 1, 3, [(64, queuedFrame)], far, 0, 0⟩
def bridged (far : Nat) (s : State) : State :=
  let s := [(0, 1), (1, 0), (0, 2), (2, 0)].foldl (fun s x => s.put (brgLoc x.1 x.2) R.BRG_STAT_UP 1) s
  s.setBrg 1 0 { s.brg 1 0 with replay := [flit1 far] }
/-- A lane of the bridge between S0 and S1 fails at tick 0; so many spares. -/
def failing (spares : Nat) (s : State) : State :=
  let s := (bridged 0 s).put (brgLoc 0 1) R.BRG_STAT_SPARES_LEFT spares
  s.setBrg 0 1 { s.brg 0 1 with failAt := some 0, badLane := 5 }
def gapOf (pin : Nat) (s : State) : State := s.setDie 0 { s.die 0 with gaps := [(1, { until_ := 7 })], pin := [(1, pin)] }

theorem test_wit_Bridges :
    (State.reset.brgUp 0 1 = false ∧ (State.reset.brg 1 0).replay = [] ∧ facingDie 0 0 = 1) ∧
    (∀ far ∈ [0, 2], let s := bridged far State.reset; s.brgUp 0 1 = true ∧ s.brgHalted 0 1 = false ∧
      (s.brg 1 0).replay = [flit1 far] ∧ s.faults.armed = [] ∧ s.brgUp 0 2 = true ∧ s.brgFail 0 1 = none ∧
      s.takesFlits 0 2 1 = true) ∧
    (∀ n ∈ [2, 3], let e := List.replicate n (5, 0);
      let s := bridged 0 State.reset; let s := s.setBrg 0 1 { s.brg 0 1 with errs := e };
      ((s.brg 0 1).errs.filter (fun e => e.1 == 5 && decide (s.now ≤ e.2 + 625))).length = n) ∧
    (let s := bridged 2 State.reset; s.setBrg 0 2 { s.brg 0 2 with replay := List.replicate 1024 (flit1 2) } |>.takesFlits 0 2 1) = false ∧
    ((bridged 2 State.reset).put (brgLoc 0 2) R.BRG_STAT_UP 0).brgUp 0 2 = false ∧
    ((carrying State.reset).takeCell 0 (flit1 0)).isSome = true ∧ State.reset.takeCell 0 (flit1 0) = none ∧
    (∀ k ∈ [0, 1, 3], (failing k State.reset).brgFail 0 1 = some 0 ∧ ((failing k State.reset).brg 0 1).failAt = some 0 ∧
      ((failing k State.reset).advance 313).brgHalted 0 1 = true ∧
      (failing k State.reset).fld (brgLoc 0 1) R.BRG_STAT_SPARES_LEFT = k) ∧
    (dieOn State.reset.part 0 = true ∧ dieOn State.reset.part 1 = true) ∧
    (let s := gapOf 0 State.reset; (Tab.get? (s.die 0).gaps (4 * 0 + 1)).isSome = true ∧ s.gapClear 0 0 1 = true ∧
      (gapOf 2 State.reset).gapClear 0 0 1 = false ∧ Tab.get? (State.reset.die 0).gaps 1 = none) := by decide +kernel

theorem test_failover : after (.bridgeFailoverDone 0 0) (failing 1 State.reset) (fun t =>
    t.fld (brgLoc 0 1) R.BRG_STAT_SPARES_LEFT == 0 && t.brgFail 0 1 == none && decide (4063 ≤ t.now)) = true := by
  decide +kernel

/-- A recovery stream in use, and a duplicate entry. -/
def recovering (fresh : Bool) (s : State) : State :=
  let s := s.setTbl 0 4 (s.liveBank 0 4) [⟨9, 9, 0, 2 + 8 * 256 + 5 * 65536⟩]
  s.setDie 0 { s.die 0 with streams := [(9, { s.stream 0 9 with fresh := fresh })],
                            dups := [{ stream := 9, src := 1, seq := 2, tick := 3 }] }
theorem test_wit_FrameTimers :
    (State.reset.port 0 64).holdEnd = none ∧ State.reset.liveTbl 0 4 = [] ∧ (State.reset.die 0).dups = [] ∧
    ((portIs (fun x => { x with holdEnd := some 7 }) State.reset).port 0 0).holdEnd = some 7 ∧
    (∀ b ∈ [false, true], let s := recovering b State.reset; (s.liveTbl 0 4).find? (fun e => e.idx == 9) ≠ none ∧
      byteAt (2 + 8 * 256 + 5 * 65536) 0 1 = 2 ∧ (s.stream 0 9).fresh = b ∧ (Tab.get? (s.die 0).streams 9).isSome = true ∧
      (s.die 0).dups.find? (fun u => u.stream == 9 && u.src == 1 && u.seq == 2) ≠ none) := by decide +kernel

/-! ### Links -/

/-- Service port 64 of S0 in a state of Table 24. -/
def inSt (k : Nat) (s : State) : State := s.pput 0 64 R.PORT_STAT_STATE k
def samples (agree : Bool) : LockMeas := ⟨5, 1, 2, 3, -77, agree⟩
def lossy (x : Nat × Nat) (s : State) : State := s.setPort 0 64 { s.port 0 64 with lossAt := some x }
def debounced (k : Nat) (s : State) : State := s.pput 0 64 R.PORT_DEBOUNCE_DEBOUNCE k

theorem test_wit_Links :
    (∀ k ∈ [0, 1, 2, 3, 4, 5, 6, 7, 8], let s := inSt k State.reset; s.portLive 0 64 = true ∧ s.pstate 0 64 = k ∧
      s.pfld 0 64 R.PORT_STAT_LOOP ≠ 1 ∧ s.dlyValid 0 64 = false) ∧
    ((samples true).agree = true ∧ (samples true).nDsk ≤ 191 ∧ (samples false).agree = false ∧
      191 < ({ samples true with nDsk := 192 } : LockMeas).nDsk) ∧
    (let s := inSt 2 State.reset; s.unitMode 0 (portUnit 64) ∈ [2, 1, 0, s.unitMode 0 (portUnit 64)] ∧
      s.unitMode 0 (portUnit 64) ∉ []) ∧
    (let s := (fitPort State.reset).pput 0 0 R.PORT_STAT_STATE 4; s.portLive 0 0 = true ∧ s.pstate 0 0 = 4 ∧
      1 < (s.portLanes 0 0).length ∧ (State.reset.portLanes 0 64).length ≤ 1) ∧
    (State.reset.pput 0 64 R.PORT_STAT_LOOP 1).pfld 0 64 R.PORT_STAT_LOOP = 1 ∧
    (∀ k ∈ [0, 1, 1000], let s := debounced k (inSt psUp State.reset); s.pfld 0 64 R.PORT_DEBOUNCE_DEBOUNCE = k ∧
      s.pstate 0 64 = psUp ∧ (s.port 0 64).lossAt = none) ∧
    (∀ c ∈ [0, 9, 15], let s := debounced 1 (lossy (0, c) State.reset); (s.port 0 64).lossAt = some (0, c) ∧
      s.now < 0 + 625 * s.pfld 0 64 R.PORT_DEBOUNCE_DEBOUNCE) ∧
    (let s := lossy (0, 3) (debounced 0 State.reset); (s.port 0 64).lossAt = some (0, 3) ∧
      0 + 625 * s.pfld 0 64 R.PORT_DEBOUNCE_DEBOUNCE ≤ s.now) := by decide +kernel

/-- Training that fails restarts negotiation (R246); lock and samples that agree bring the port up (R91, R241). -/
theorem test_train : after (.trainingFail 0 64) (inSt 3 State.reset) (fun t =>
    t.pstate 0 64 == 2 && t.pfld 0 64 R.PORT_STAT_DOWN_CAUSE == 8) = true := by decide +kernel
theorem test_comesUp : after (.measuringDone 0 64 (samples true)) (inSt 5 State.reset) (fun t =>
    t.pstate 0 64 == psUp && t.pfld 0 64 R.DLY_STAT_LOCKS == 1 && t.dlyValid 0 64) = true := by decide +kernel
theorem test_disagree : after (.measuringDone 0 64 (samples false)) (inSt 5 State.reset) (fun t =>
    t.pstate 0 64 == 4 && t.pfld 0 64 R.PORT_STAT_DOWN_CAUSE == 4) = true := by decide +kernel
/-- Lanes more than 120 ns apart are no lock (R239). -/
theorem test_skew : after (.lockComplete 0 0 ⟨[], 120001⟩) ((fitPort State.reset).pput 0 0 R.PORT_STAT_STATE 4) (fun t =>
    t.pfld 0 0 R.PORT_STAT_DOWN_CAUSE == 4) = true := by decide +kernel
/-- Loss without debounce (R243), and a glitch within it (R243). -/
theorem test_loss : after (.lossCondition 0 64 3) (debounced 0 (inSt psUp State.reset)) (fun t =>
    t.pstate 0 64 == t.startState 0 64 && t.pfld 0 64 R.PORT_STAT_DOWN_CAUSE == 3) = true := by decide +kernel
theorem test_glitch : after (.lossConditionClear 0 64) (lossy (0, 3) (debounced 1 (inSt psUp State.reset))) (fun t =>
    t.pfld 0 64 R.PORT_GLITCH_GLITCHES == 1 && t.pstate 0 64 == psUp) = true := by decide +kernel
theorem test_remoteFault : after (.remoteFaultReceived 0 64) (inSt psUp State.reset) (fun t =>
    t.pstate 0 64 == 7 && t.pfld 0 64 R.PORT_STAT_DOWN_CAUSE == 5) = true := by decide +kernel

/-- Lane 0 of port unit 0 of S0, its checker on. -/
def checking (lock : Nat) (s : State) : State :=
  (s.put (laneLoc 0 0 0) R.PRBS_STAT_CHK_ON 1).put (laneLoc 0 0 0) R.PRBS_STAT_CHK_LOCK lock

/-- Port 0 has been decoding codewords since tick 0. -/
def decoding (s : State) : State := portIs (fun x => { x with cwAt := some 0 }) (fitPort s)
theorem test_wit_Lanes :
    (let s := fitPort State.reset; s.portLive 0 0 = true ∧ 0 ∈ s.portLanes 0 0 ∧ 3 ∈ s.portLanes 0 0 ∧ 4 ∉ s.portLanes 0 0 ∧
      State.reset.portLive 0 0 = false) ∧
    ((fitPort State.reset).pput 0 0 R.PORT_STAT_TX_ON 1).laneDrives 0 0 0 = true ∧
    (fitPort State.reset).laneDrives 0 0 0 = false ∧
    (∀ l ∈ [0, 7], let s := State.reset.put (laneLoc 0 0 l) R.PRBS_STAT_GEN_ON 1; s.portLive 0 0 = false ∧
      s.flag (laneLoc 0 0 l) R.PRBS_STAT_GEN_ON = true ∧ s.gatedOff (laneLoc 0 0 l) = false ∧ s.laneOwner 0 0 l = none) ∧
    (((fitPort State.reset).port 0 0).cwAt = none ∧ (decoding State.reset).portLive 0 0 = true ∧
      ((decoding State.reset).port 0 0).cwAt = some 0) ∧
    (let s := (checking 1 State.reset).setDie 0 { State.reset.die 0 with prbsLock := [(0, 0)] };
      Tab.get? (s.die 0).prbsLock (8 * 0 + 0) = some 0) ∧
    (∀ k ∈ [0, 1], let s := checking k State.reset; s.flag (laneLoc 0 0 0) R.PRBS_STAT_CHK_ON = true ∧
      s.flag (laneLoc 0 0 0) R.PRBS_STAT_CHK_LOCK = (k == 1)) ∧
    State.reset.flag (laneLoc 0 0 0) R.PRBS_STAT_CHK_ON = false := by decide +kernel

theorem test_short : after (.transmitShort 0 0 2) (fitPort State.reset) (fun t =>
    t.pstate 0 0 == 0 && t.pfld 0 0 R.PORT_STAT_DOWN_CAUSE == 7 && t.flag (laneLoc 0 0 2) R.LANE_STAT_TX_SHORT) = true := by
  decide +kernel
theorem test_fec : after (.fecDegradeCheck 0 0 ⟨77, 5, 2⟩) (decoding State.reset) (fun t =>
    t.pfld 0 0 R.FEC_CW_CW == 1048576 && t.pfld 0 0 R.FEC_SYM_SYM == 77 && t.pfld 0 0 R.FEC_CORR_CORR == 5 &&
      t.pfld 0 0 R.FEC_UNCORR_UNCORR == 2) = true := by decide +kernel
theorem test_relock : after (.prbsCheckerLock 0 0 0) (checking 0 State.reset) (fun t =>
    t.flag (laneLoc 0 0 0) R.PRBS_STAT_CHK_LOCK && t.fld (laneLoc 0 0 0) R.PRBS_STAT_RELOCKS == 1) = true := by decide +kernel

/-- An engine at port 64 of S0, its port UP with sums valid. -/
def engAt (st : Nat) (f : PtpCfg → PtpCfg) (s : State) : State :=
  let s := (inSt psUp s).pput 0 64 R.DLY_STAT_VALID 1
  s.setPort 0 64 { s.port 0 64 with ptp := f { (s.port 0 64).ptp with en := true, state := st } }
/-- A message over Ethernet: type, domain, two-step; sequenceId 7, originTimestamp 1 s 2 ns, correction 5 ns. -/
def ptpMsg (ty dom : Nat) (two : Bool) : List Byte :=
  ([1, 2, 3, 4, 5, 6, 7, 8, 9, 10, 11, 12, 0x88, 0xF7, ty, 2, 0, 44, dom, 0, if two then 2 else 0, 0, 0, 0, 0, 0, 0, 5, 0, 0,
    0, 0, 0, 0, 9, 9, 9, 9, 9, 9, 9, 9, 9, 9, 0, 7, 0, 0, 0, 0, 0, 0, 0, 1, 0, 0, 0, 2].map (BitVec.ofNat 8)) ++
  List.replicate 10 0
def p2pOn (b : Bool) (x : PtpCfg) : PtpCfg := { x with p2p := b, twoStep := !b }

theorem test_wit_PtpEngines :
    (State.reset.engineMay 0 64 = false ∧ (State.reset.engine 0 64).en = false) ∧
    (∀ st ∈ [engMaster, engSlave], ∀ b ∈ [false, true], let s := engAt st (p2pOn b) State.reset; s.engineMay 0 64 = true ∧
      (s.engine 0 64).state = st ∧ (s.engine 0 64).p2p = b ∧ (s.engine 0 64).twoStep = !b ∧ (s.eng 0 64).expired = false) ∧
    ((parse (List.replicate 64 0)).ptpAt = none) ∧
    (let s := engAt engSlave id State.reset; let dom := (s.engine 0 64).domain;
      s.present 0 64 = true ∧ s.pstate 0 64 = psUp ∧
      (parse (ptpMsg 0 dom false)).ptpAt = some 14 ∧ ptpDomain (ptpMsg 0 dom false) 14 = dom ∧
      ptpType (ptpMsg 0 dom false) 14 = 0 ∧ ptpTwoStep (ptpMsg 0 dom false) 14 = false ∧
      ptpTwoStep (ptpMsg 0 dom true) 14 = true ∧ ptpType (ptpMsg 1 dom false) 14 = 1 ∧
      ptpDomain (ptpMsg 0 (dom + 1) false) 14 ≠ dom ∧ s.portLive 0 64 = true ∧
      (parse (ptpMsg 0 dom false)).transp = (s.engine 0 64).transp ∧
      (parse (ptpMsg 0 dom false)).transp ≠ ((engAt engSlave (fun x => { x with transp := 2 }) State.reset).engine 0 64).transp) ∧
    (let s := engAt engMaster id State.reset; s.engineMay 0 64 = true ∧ (s.engine 0 64).state = engMaster) ∧
    (let s := engAt engSlave (fun x => { x with autoPass := true }) State.reset; (s.engine 0 64).autoPass = true ∧
      (s.engine 0 64).state ≠ 1) ∧
    (let s := engAt engSlave id State.reset; (s.setEng 0 64 { s.eng 0 64 with expired := true }).eng 0 64 |>.expired) = true := by
  decide +kernel

/-- A one-step Sync: t1 is its origin and correction (R112). -/
theorem test_sync : after (.ptpMessageReceive 0 64 (ptpMsg 0 0 false)) (engAt engSlave (fun x => { x with domain := 0 }) State.reset)
    (fun t => (t.eng 0 64).sync.map Prod.fst == some ((1000000002 + 5) * 65536)) = true := by decide +kernel
theorem test_expired : after (.announceTimeout 0 64) (engAt engSlave (fun x => { x with autoPass := true }) State.reset) (fun t =>
    (t.eng 0 64).expired && (t.port 0 64).ptp.state == 1) = true := by decide +kernel

/-! ### Relka -/

/-- Port 0 of S0 is UP with valid sums; its link to package 9 is in a state of Table 9; this package is 5. -/
def rlkAt (st : Nat) (s : State) : State :=
  let s := (((fitPort s).pput 0 0 R.PORT_STAT_STATE psUp).pput 0 0 R.DLY_STAT_VALID 1).arbPut R.RLK_SYS_PKG_NUM 5
  ((s.pput 0 0 R.RLK_STAT_STATE st).pput 0 0 R.RLK_CTRL_PARTNER_PKG 9).pput 0 0 R.RLK_CTRL_EN 1
def rlkHas (f : Relka → Relka) (s : State) : State := s.setRelka 0 0 (f (s.relka 0 0))
def req77 (s : State) : RlkReq := { exseq := 77, t1 := (s.tail 0).u, gen := 0, tick := s.now, sound := false, hit := 0, a := 0 }
def asked (s : State) : State := rlkHas (fun x => { x with req := some (req77 s) }) s
/-- Request or answer 77 from a package: version, epoch 33, clockClass 6, traceable; sent 500 units later. -/
def rlkMsg (pkg ver : Nat) : Nat := 77 + pkg * 2 ^ 16 + ver * 2 ^ 21 + 6 * 2 ^ 24 + 2 ^ 36 + 500 * 2 ^ 48 + 33 * 2 ^ 128

theorem test_wit_RelkaMay :
    (State.reset.rlkMay 0 0 = false ∧ State.reset.rlkHears 0 0 = false ∧ (State.reset.relka 0 0).req = none ∧
      (State.reset.relka 0 0).due = [] ∧ (State.reset.relka 0 0).silent < 16 ∧ (State.reset.relka 0 0).part = []) ∧
    (∀ st ∈ [rlkAcquire, rlkLinked, rlkDegraded, rlkSounding], let s := rlkAt st State.reset; s.rlkMay 0 0 = true ∧
      s.rlkHears 0 0 = true ∧ s.rlkState 0 0 = st ∧ (s.port 0 0).sending = none ∧ (s.relka 0 0).part = []) ∧
    (let s := rlkAt rlkFallback State.reset; s.rlkMay 0 0 = false ∧ s.rlkHears 0 0 = true) ∧
    (∀ k ∈ [16, 17], ((rlkHas (fun x => { x with silent := k }) (rlkAt rlkAcquire State.reset)).relka 0 0).silent = k) ∧
    (let s := rlkHas (fun x => { x with part := [relkaBlock 1 0 0] }) (rlkAt rlkLinked State.reset); (s.relka 0 0).part ≠ []) ∧
    (∀ st ∈ [rlkLinked, rlkFallback], let s := rlkHas (fun x => { x with due := [⟨7, 9, 3, 40⟩] }) (rlkAt st State.reset);
      (s.relka 0 0).due = [⟨7, 9, 3, 40⟩] ∧ s.rlkMay 0 0 = (st == rlkLinked) ∧ (s.port 0 0).sending = none) := by
  decide +kernel

/-- The blocks of a message give it back (R119); one of another type, and one whose KIND R120 does not name. -/
theorem test_wit_RelkaBlocks :
    (∀ k ∈ [1, 2, 3, 4, 5, 6], let m := 2 ^ (44 * relkaLen k) - 3; m < 2 ^ (44 * relkaLen k) ∧ blocksMsg (relkaBlocks k m) = m ∧
      (relkaBlocks k m).map blockIndex = List.range (relkaLen k)) ∧
    (0x78 : Nat) % 256 ≠ 0x4B ∧ (let b := relkaBlock 9 0 0; b % 256 = 0x4B ∧ bits b 32 4 = 0xA ∧ relkaLen (blockKind b) = 0) := by
  decide +kernel
/-- Block 1 of a REQ, written out from R119: KIND 1, INDEX 1, message bits 44 to 59 in DATA_LO, 60 to 87 in DATA_HI. -/
theorem test_block : relkaBlock 1 (0x1234567 * 2 ^ 60 + 0xABCD * 2 ^ 44) 1 = 0x1234567AABCD114B := by decide +kernel

theorem test_wit_RelkaReq :
    (let m := reqMsg (rlkMsg 9 1); checkOk m 160 = true ∧ msgVersion m = 1 ∧ msgPkg m = 9 ∧ checkOk (m + 2 ^ 160) 160 = false) ∧
    (let m := reqMsg (rlkMsg 9 2); checkOk m 160 = true ∧ msgVersion m ≠ 1) ∧
    (let m := reqMsg (rlkMsg 5 1); checkOk m 160 = true ∧ msgVersion m = 1 ∧ msgPkg m = (rlkAt 2 State.reset).ownPkg) ∧
    (let m := reqMsg (rlkMsg 9 1); msgPkg m ≠ (rlkAt 2 State.reset).ownPkg ∧ msgPkg m ≠ State.reset.ownPkg) := by
  decide +kernel

set_option maxRecDepth 20000 in
theorem test_wit_RelkaRsp :
    (let m := rspMsg (rlkMsg 9 1) 400; let s := asked (rlkAt rlkAcquire State.reset);
      checkOk m 248 = true ∧ checkOk (m + 2 ^ 248) 248 = false ∧ msgVersion m = 1 ∧
      msgPkg m = s.pfld 0 0 R.RLK_CTRL_PARTNER_PKG ∧ msgPkg m ≠ s.ownPkg ∧
      (s.relka 0 0).req = some (req77 (rlkAt rlkAcquire State.reset)) ∧ 77 = m % 65536 ∧
      s.now ≤ (req77 (rlkAt rlkAcquire State.reset)).tick + s.rspWait 0 0 ∧
      sdiff (bits m 48 64) (bits m 144 64) ≤ 131072000) ∧
    (let m := rspMsg (rlkMsg 9 1) 400; let s := asked (rlkAt rlkAcquire State.reset); s.dlyValid 0 0 = true ∧
      (s.relka 0 0).snd.num = none ∧ s.activeHs = none ∧ bit m 38 = false ∧
      (let s := heads hsActive hsStandby s; s.activeHs ≠ none ∧ (s.relka 0 0).mkGen = (req77 s).gen ∧
        (s.relka 0 0).hits = (req77 s).hit) ∧
      (s.advance 704001).now > (req77 s).tick + s.rspWait 0 0) ∧
    (let m := rspMsg (rlkMsg 9 2) 400; checkOk m 248 = true ∧ msgVersion m ≠ 1) ∧
    (let m := rspMsg (rlkMsg 8 1) 400; checkOk m 248 = true ∧ msgVersion m = 1 ∧
      msgPkg m ≠ (rlkAt rlkAcquire State.reset).pfld 0 0 R.RLK_CTRL_PARTNER_PKG) ∧
    (let m := rspMsg (rlkMsg 9 1 + 131072001 * 2 ^ 48) 400; 131072000 < sdiff (bits m 48 64) (bits m 144 64)) ∧
    (78 : Nat) ≠ rspMsg (rlkMsg 9 1) 400 % 65536 := by decide +kernel

/-- The third miss in LINKED (R131), and the sixteenth silent period in ACQUIRE (R131). -/
theorem test_miss : after (.relkaResponseMiss 0 0) (rlkHas (fun x => { x with misses := 2 }) (asked (rlkAt rlkLinked State.reset)))
    (fun t => t.rlkState 0 0 == rlkDegraded && t.pfld 0 0 R.RLK_CNT_MISS == 1) = true := by decide +kernel
theorem test_silent : after (.relkaSilentPeriods 0 0) (rlkHas (fun x => { x with silent := 16 }) (rlkAt rlkAcquire State.reset))
    (fun t => t.rlkState 0 0 == rlkFallback) = true := by decide +kernel
/-- A RSP of the request outstanding brings the sender's epoch and clockClass (R123). -/
theorem test_rsp : after (.relkaRspReceive 0 0 (relkaBlocks 2 (rspMsg (rlkMsg 9 1) 400))) (asked (rlkAt rlkAcquire State.reset))
    (fun t => (t.relka 0 0).epoch == 33 && (t.relka 0 0).cc == 6 && (t.relka 0 0).traced) = true := by decide +kernel

/-- CREDIT on at the port, one class lossless: class 3, of which 100 cells have come in; generation 3 here, 4 there. -/
def creditsOn (init : Bool) (s : State) : State :=
  let s := (rlkAt rlkLinked s).put (mkLoc 0 0 0 20 1) (R.TC_ATTR_LOSSLESS 3) 1
  let s := ((s.pput 0 0 R.QUE_PORT_CFG_CREDIT 1).pput 0 0 R.QUE_PORT_CFG_LOSSLESS_EN 1).pput 0 0 R.CRD_STAT_GEN 3
  s.setPort 0 0 { s.port 0 0 with credit := [(3, { sent := 9, recv := 100, limIn := 50, limOut := 200, init := init })], txGen := 4 }
def census (sent : Nat) : Nat := let m := 77 + 9 * 2 ^ 16 + 2 ^ 21 + 3 * 2 ^ 24 + 8 * 2 ^ 32 + sent * 2 ^ 108; m + crc16 m 368 * 2 ^ 368

theorem test_wit_Censuses :
    (∀ sent ∈ [100, 101, 1252, 1253, 99], let s := creditsOn true State.reset; let m := census sent;
      s.portLive 0 0 = true ∧ msgPkg m ≠ s.ownPkg ∧ s.faults.armed = [] ∧ checkOk m 368 = true ∧ msgVersion m = 1 ∧
      bits m 24 8 = s.pfld 0 0 R.CRD_STAT_GEN ∧ bits m 32 16 = s.creditMask 0 0 ∧ s.credited 0 0 = [3] ∧
      d20 (bits m (48 + 20 * 3) 20) (s.credit 0 0 3).recv = (sent : Int) - 100) ∧
    checkOk (census 5 + 2 ^ 368) 368 = false ∧
    (let s := (creditsOn true State.reset).arbPut R.RLK_SYS_PKG_NUM 9; let s := s.pput 0 0 R.CRD_STAT_GEN 4;
      msgPkg (census 5) = s.ownPkg ∧ bits (census 5) 24 8 ≠ (s.toFallback 0 0 2).pfld 0 0 R.CRD_STAT_GEN) ∧
    (let s := (creditsOn true State.reset).pput 0 0 R.CRD_STAT_GEN 4; bits (census 5) 24 8 ≠ s.pfld 0 0 R.CRD_STAT_GEN) := by
  decide +kernel

theorem test_wit_Credits :
    (∀ b ∈ [false, true], let s := creditsOn b State.reset; s.pstate 0 0 = psUp ∧ s.rlkState 0 0 ≠ rlkOff ∧
      s.pfld 0 0 R.PORT_STAT_LOOP = 0 ∧ s.pflag 0 0 R.RLK_CTRL_EN = true ∧ s.credited 0 0 = [3] ∧ 5 ∉ s.credited 0 0 ∧
      (s.credit 0 0 3).init = b ∧ (s.port 0 0).txGen = 4 ∧ (s.port 0 0).sending = none) ∧
    (let s := creditsOn true State.reset; 16 ≤ d20 ((s.creditSync 0 0 3).credit 0 0 3).limOut ((s.creditSync 0 0 3).credit 0 0 3).lastTx ∧
      (let y := (s.creditSync 0 0 3).credit 0 0 3; let s := s.setCredit 0 0 3 { y with lastTx := m20 (y.limOut - 3) };
        d20 ((s.creditSync 0 0 3).credit 0 0 3).limOut ((s.creditSync 0 0 3).credit 0 0 3).lastTx = 3)) ∧
    (State.reset.pstate 0 0 ≠ psUp) ∧
    (∀ i ∈ [false, true], ∀ lim ∈ [60, 50, 49], let m := creditMsg 3 i 4 lim; checkOk m 36 = true ∧ bits m 5 3 = 1 ∧ m % 16 = 3 ∧
      bit m 4 = i ∧ bits m 8 8 = 4 ∧ d20 (bits m 16 20) 50 = (lim : Int) - 50) ∧
    (creditMsg 5 false 4 60 % 16 = 5 ∧ checkOk (creditMsg 5 false 4 60) 36 = true ∧ checkOk (creditMsg 5 false 4 60 + 2 ^ 36) 36 = false) := by
  decide +kernel

/-- Five cells lost: they count as received, and kind 0x52 is logged (R301). -/
theorem test_census : after (.censusReceive 0 0 (relkaBlocks 3 (census 105))) (creditsOn true State.reset) (fun t =>
    (t.credit 0 0 3).recv == 105 && t.pfld 0 0 R.CRD_STAT_RESYNC == 1) = true := by decide +kernel
theorem test_credit : after (.creditReceive 0 0 (relkaBlocks 4 (creditMsg 3 true 7 60))) (creditsOn false State.reset) (fun t =>
    (t.credit 0 0 3).limIn == 60 && (t.credit 0 0 3).init && t.pflag 0 0 R.CRD_STAT_READY) = true := by decide +kernel

theorem test_wit_Phases :
    (∀ k ∈ [5, 6, 7], let s := (rlkAt rlkLinked State.reset).pput 0 0 R.PORT_STAT_STATE k; s.locked 0 0 = true ∧
      s.pflag 0 0 R.RLK_CTRL_EN = true ∧ (s.relka 0 0).phase = none) ∧
    (State.reset.locked 0 0 = false ∧ (rlkAt rlkLinked State.reset).rlkGives 0 0 = false ∧
      (heads hsActive hsStandby (rlkAt rlkLinked State.reset)).rlkGives 0 0 = true) ∧
    (let s := rlkHas (fun x => { x with phase := some 50 }) (rlkAt rlkLinked State.reset); (s.relka 0 0).phase = some 50) ∧
    ((sx (toBits (((306 : Nat) : Int) - (50 : Nat)) 12) 12).natAbs = 256 ∧ (sx (toBits (((307 : Nat) : Int) - (50 : Nat)) 12) 12).natAbs = 257) ∧
    ((State.reset.relka 0 0).valid < 1024 ∧
      1024 ≤ ((rlkHas (fun x => { x with valid := 1024 }) State.reset).relka 0 0).valid) ∧
    (spanBad 0 0 = false ∧ spanBad 0 3000 = true) := by decide +kernel
theorem test_phase : after (.phaseDelivery 0 0 [4090]) (rlkHas (fun x => { x with phase := some 5 }) (rlkAt rlkLinked State.reset))
    (fun t => t.pfld 0 0 R.RLK_PHASE_PHASE_ACC == 2 ^ 32 - 11) = true := by decide +kernel

/-- A FENCE.SYS towards package 9 that waits for the MARK_ACKs of its MARKER_ID 7. -/
def markWait (both : Bool) (s : State) : State :=
  let w := (9, portKey 0 0) :: (if both then [(9, portKey 0 65)] else [])
  let s := put { fl (C 0x06 0 (2 ^ 9) locArb) with phase := .exec 0 } (rlkAt rlkLinked s)
  { s with plyn := { s.plyn with fences := [(0, { members := [], report := [], marked := true, marker := 7, wait := w })] } }

theorem test_wit_Marks :
    (State.reset.rlkHears 0 0 = false ∧ (State.reset.relka 0 0).marks = []) ∧
    (let s := rlkAt rlkLinked State.reset; s.rlkRuns 0 0 = true ∧ s.pflag 0 0 R.RLK_CTRL_MARK_CAP = false ∧
      (s.pput 0 0 R.RLK_CTRL_MARK_CAP 1).pflag 0 0 R.RLK_CTRL_MARK_CAP = true ∧ s.pfld 0 0 R.PORT_STAT_LOOP = 0) ∧
    (∀ k ∈ [0, 1, 2], ((rlkHas (fun x => { x with marks := [(7, k), (8, 9)] }) (rlkAt rlkLinked State.reset)).relka 0 0).marks =
      (7, k) :: [(8, 9)]) ∧ (State.reset.rlkRuns 0 0 = false) ∧
    (∀ q ∈ [5, 9], let m := markMsg 7 q 33; (msgPkg m = (rlkAt rlkLinked State.reset).ownPkg ↔ q = 5)) ∧
    (∀ b ∈ [false, true], let s := markWait b State.reset; let m := markMsg 7 9 33;
      (s.ownNumber 0 0 m).plyn = s.plyn ∧ msgPkg m = 9 ∧ m % 65536 = 7 ∧
      (s.plyn.fences.find? (fun x => x.2.marked && x.2.marker == 7 && x.2.wait.contains (9, portKey 0 0))).map Prod.fst = some 0 ∧
      (s.plyn.fences.find? (fun x => x.2.marked && x.2.marker == 8 && x.2.wait.contains (9, portKey 0 0))) = none ∧
      s.flight 0 = some { fl (C 0x06 0 (2 ^ 9) locArb) with phase := .exec 0 }) := by decide +kernel
theorem test_markAck : after (.markAckReceive 0 0 (relkaBlocks 6 (markMsg 7 9 33))) (markWait true State.reset) (fun t =>
    (t.plyn.fences.map (fun x => (x.2.wait, x.2.acked))) == [([(9, portKey 0 65)], [(9, portKey 0 0)])]) = true := by decide +kernel

/-! ### Rules stated whole -/

theorem test_wit_Tx64 :
    (∀ secs ∈ [0, 1, 2 ^ 48 - 1], ∀ ns ∈ [0, 999999999], ∀ sub ∈ [0, 65535],
      tx64 (secs * uSec + ns * 65536 + sub) = (secs * 1000000000 + ns) % 2 ^ 48 * 2 ^ 16 + sub) ∧
    (((5 : Nat) : Int) - (2 ^ 62 : Nat)).natAbs < 2 ^ 63 ∧
    (let s := trg 0 State.reset; let c := cArm 1 (2 ^ 40) 0; begun isArm mTimeArm c s = true ∧ c.loc = hubLoc (20 + 0) ∧
      (on c s).fld c.loc R.TRG_STAT_STATE = 0 ∧ (on c s).shapeBad 0 1 = false ∧
      ((on c s).nowU 6 : Int) + 65536000 ≤ fromTx64 ((on c s).nowU 6) c.opb ∧
      sdiff c.opb (on c s).txNow ≠ -horizon) ∧
    (let c : Cmd := { opcode := 0x08, opb := 1000000, loc := locArb }; let s := put (fx c 0);
      s.flight 0 = some (fx c 0) ∧ (fx c 0).phase = .exec 0 ∧ 0 < sdiff c.opb s.txNow) := by decide +kernel

/-- An instruction of ring 31 with ALWAYS, COOKIE 0xABCD and TAG 300; the ring its completions go to is enabled. -/
def telling : Flight := { fl { C 0x31 0 0 locArb with cookie := 0xABCD, always := true } with ring := 31, tag0 := 300 }
def heardAt (s : State) : State := let s := withDma (put telling s); openRing (s.cqOf 31) s

theorem test_wit_Records :
    (let s := heardAt State.reset; s.flight 0 = some telling ∧ telling.cmd.timed = false ∧ telling.late = none ∧
      telling.mute = false ∧  telling.cmd.always = true ∧ s.ringOpen (s.cqOf 31) = true ∧
      (let q := s.ring (s.cqOf 31); s.route (q.base + 16 * (q.tail % 2 ^ q.sizeLog2)) 16 = .host)) ∧
    (let s := withDma (openRing 33 ((State.reset.put locFp (R.EVT_ROUTE_EN 6) 1).put locFp (R.EVT_ROUTE_RING 6) 1));
      s.plyn.flights = [] ∧ s.eventRing 6 none = some 33 ∧ s.eventRing 6 (some 1) = some 33 ∧ s.ringOpen 33 = true) := by
  decide +kernel
theorem test_wit_RecordsMem : (heardAt State.reset).memWf := ⟨rfl, rfl⟩

theorem test_wit_StepGen :
    (∀ i, i < 6 → ((held step0 State.reset).tail i).step = some step0) ∧
    (let f := frameOf 64; f.bytes.length < 2 ^ 14 ∧ f.port < 128 ∧ f.die < 4 ∧ f.stepGen < 16) ∧
    (bits (pktEntry { frameOf 64 with stepGen := 15 } 64 2 0 0 0 false false) 45 4 = 15) := by decide +kernel

theorem test_wit_RefConflict :
    ∀ k ∈ [6, 7], let s := servoIs k State.reset; s.servoState = k ∧
      begun (fun c => c.opcode == 0x80 && bit c.opa 3) mRefSet (C 0x80 9 0 locArb) s = true ∧
      begun (fun c => c.opcode == 0x80 && !bit c.opa 3) mRefSet (C 0x80 1 0 locArb) s = true ∧
      begun (isOp 0x81) mRefSelect (C 0x81 1 0 locArb) s = true ∧
      begun (isOp 0x82) mRefForce (C 0x82 1 0 locArb) s = true ∧ begun (isOp 0x82) mRefForce (C 0x82 15 0 locArb) s = true ∧
      begun (isOp 0x83) mRefRelease (C 0x83 0 0 locArb) s = true ∧
      begun (isOp 0x84) mRefAcceptStep (C 0x84 1 0 locArb) s = true := by decide +kernel

/-! ### Operand ranges: an ill-formed term for each check (R17, R19, R44) -/

def illRings : List Instr :=
  [.outRelockDone 4, .synthUnlock 4, .doorbellWrite 128 0 [], .doorbellWrite 0 (2 ^ 32) [], .ringCtrlWrite 128 0,
   .ringCtrlWrite 0 (2 ^ 32), .ringResume 32, .commandRingReset 32, .ringResetDone 32, .completionRingReset 31,
   .completionRingReset 64, .packetRingReset 63, .packetRingReset 128, .faceplateWrite 65536 0 false,
   .faceplateWrite 2 0 false, .faceplateWrite 4 0 true, .faceplateWrite 4 (2 ^ 32) false, .rcRegisterRead 65536,
   .rcRegisterRead 2, .fpIntWrite 0x2C 0, .fpIntWrite 0x24 (2 ^ 32), .msixUnmask 256, .ringIntTimer 31, .ringIntTimer 128]
def illClocks (env : BootEnv) : List Instr :=
  [.fpBootGo (2 ^ 32) env, .fpReset (2 ^ 32) env, .tailstockLrefFreeze 6, .pllCoast 23, .pllRelockDone 23,
   .pllRelockTimeout 23, .gateIdle 65536, .gateTimeout 65536, .spindleWordReceive 6 false 0, .spindleWordReceive 0 false (2 ^ 320), .spindleSilent 6,
   .todMessage (List.replicate 10 0), .refActivityFail 8, .refGateEnd [⟨8, 0, [], false⟩], .captureEdge 8 false 0,
   .captureEdge 0 false 4096, .triggerFire 8, .pulseEdge 0 0, .pulseEdge 4 1, .outputRestart 0 4,
   .faultMessage [⟨0, 256, false, 0⟩], .referencePulse 2 0, .thermalSample [0], .tapInstructionLoad 256]
def illFrames : List Instr :=
  [.frameReceive 4 0 [] clean, .frameReceive 0 0 [] { clean with heads := [4] }, .pipelineFrame 0 72, .frameTransmit 4 0, .pktFromHostEntry 95, .pktFromHostEntry 128,
   .pfcFrameReceive 0 0 256 (List.replicate 8 0), .pfcFrameReceive 0 0 0 [0], .pfcPauseExpiry 0 0 8, .pfcRefresh 0 0 8,
   .egressStatusBroadcast 4, .bridgeFlitReceive 0 3 none, .bridgeFlitReceive 0 0 (some 18), .bridgeLaneFail 0 0 18, .bridgeFailoverDone 4 0, .bridgeDown 0 3,
   .bridgeUp 0 3, .drainGapEnd 0 256 1, .drainGapEnd 1 0 1, .drainGapExpiry 0 0 4, .flapHoldExpiry 0 72,
   .frerResetTimeout 0 4096, .duplicateEntryForget 4 0 0 0, .pipelineWakeReady 0 4, .autoSleep 4 0, .gatePrewake 0 72,
   .gatelistStart 0 72, .gateChange 0 72]
def illLinks : List Instr :=
  [.signalDetect 4 0, .autonegComplete 0 ⟨72, []⟩, .autonegRestart 0 72, .trainingComplete 0 72, .trainingFail 0 72,
   .lockComplete 0 72 ⟨[], 0⟩, .lockTimeout 0 72, .measuringDone 0 72 (samples true), .measuringDone 0 0 { samples true with nDsk := 192 }, .lossCondition 0 0 16,
   .lossConditionClear 0 72, .debounceExpiry 0 72, .remoteFaultReceived 0 72, .remoteFaultCleared 0 72,
   .transmitShort 0 0 8, .transmitOpenSense 0 0 8 true, .fecDegradeCheck 0 72 ⟨0, 0, 0⟩, .prbsCheckerLock 0 17 0,
   .prbsCheckerUnlock 0 0 8]
def illMessages : List Instr :=
  [.announceTimeout 0 72, .ptpSyncSend 0 72, .ptpDelayReqSend 0 72, .ptpPdelayReqSend 0 72, .ptpMessageReceive 0 72 [],
   .relkaReqSend 0 72, .relkaReqReceive 0 72 [], .relkaReqReceive 0 0 [2 ^ 64], .relkaRspSend 0 72, .relkaRspReceive 0 72 [], .relkaRspReceive 0 0 [2 ^ 64], .relkaResponseMiss 0 72,
   .relkaSilentPeriods 0 72, .relkaMessageTimeout 0 72, .phaseDelivery 0 0 [4096], .spanCheck 0 72, .censusReceive 0 72 [], .censusReceive 0 0 [2 ^ 64],
   .creditSend 0 0 16, .creditReceive 0 72 [], .creditReceive 0 0 [2 ^ 64], .markReceive 0 72 [], .markReceive 0 0 [2 ^ 64], .markAckSend 0 72, .markAckReceive 0 72 [], .markAckReceive 0 0 [2 ^ 64]]
theorem test_ill_rings : illRings.all (fun c => !c.wf) = true := by decide +kernel
theorem test_ill_clocks : (illClocks (bootEnv 0)).all (fun c => !c.wf) = true := by decide +kernel
theorem test_ill_frames : illFrames.all (fun c => !c.wf) = true := by decide +kernel
theorem test_ill_links : illLinks.all (fun c => !c.wf) = true := by decide +kernel
theorem test_ill_messages : illMessages.all (fun c => !c.wf) = true := by decide +kernel
/-- Their neighbours in range are well formed. -/
theorem test_well : [Instr.outRelockDone 3, .doorbellWrite 127 0 [], .ringResume 31, .completionRingReset 63,
    .packetRingReset 127, .faceplateWrite 65528 0 true, .msixUnmask 255, .pllCoast 22, .frameReceive 3 71 [] clean,
    .drainGapEnd 0 255 1, .lossCondition 0 0 15, .creditSend 0 0 15, .captureEdge 7 true 4095].all Instr.wf = true := by
  decide +kernel

end Sys2Proof.Tests
end

section
/-! PROOFS. Times relative to the present (R13 to R15): the difference of two TX64 values that lie within the horizon, the
way back to the full time, the first instant that TIME.ARM takes and the tick on which WAIT.TIME ends. -/

namespace Sys2Proof.Machine

/-! ### TX64 and its differences -/

/-- A full time's TX64: seconds and nanoseconds come together to the nanoseconds since TAI second 0, cut to 48 bits, over
the sub-nanoseconds (R12, R13). -/
theorem tx64_fullTime (secs ns : Nat) {sub : Nat} (hsub : sub < 65536) :
    tx64 (secs * uSec + ns * 65536 + sub) = (secs * 1000000000 + ns) % 2 ^ 48 * 2 ^ 16 + sub := by
  have hsum : secs * uSec + ns * 65536 + sub = (secs * 1000000000 + ns) * 2 ^ 16 + sub := by
    unfold uSec
    omega
  rw [tx64, hsum]
  omega

/-- An integer inside the range of a 64-bit two's complement number is what its bits read as. -/
theorem sx_toBits_64 {i : Int} (hlo : -2 ^ 63 ≤ i) (hhi : i < 2 ^ 63) : sx (toBits i 64) 64 = i := by
  unfold sx toBits
  split <;> omega

/-- A difference taken modulo 2^64 does not see that its operands were cut to 64 bits. -/
theorem toBits_sub_tx64 (a b : Nat) : toBits ((tx64 a : Int) - tx64 b) 64 = toBits ((a : Int) - b) 64 := by
  unfold toBits tx64
  omega

/-- The difference of the TX64 of two times within the horizon of each other is that of the times (R14). -/
theorem sdiff_tx64 {a b : Nat} (h : ((a : Int) - b).natAbs < 2 ^ 63) : sdiff (tx64 a) (tx64 b) = (a : Int) - b := by
  rw [sdiff, toBits_sub_tx64]
  exact sx_toBits_64 (by omega) (by omega)

/-- The way back, relative to any reference within the horizon, finds the time that a TX64 value was made of (R13). -/
theorem fromTx64_tx64 {ref u : Nat} (h : ((u : Int) - ref).natAbs < 2 ^ 63) : fromTx64 ref (tx64 u) = u := by
  rw [fromTx64, sdiff_tx64 h]
  omega

/-! ### TIME.ARM's first instant -/

@[simp] theorem State.muteTrig_trigs (s : State) (n : Nat) : (s.muteTrig n).trigs = s.trigs := by
  unfold State.muteTrig
  dsimp only
  split <;> rfl

@[simp] theorem State.trgSafe_trigs (s : State) (n : Nat) : (s.trgSafe n).trigs = s.trigs := by
  unfold State.trgSafe
  split
  · exact s.muteTrig_trigs n
  · rfl

/-- An armed trigger holds what it was armed with, muted at once or not (R226, R229). -/
theorem State.trig_arm_self (s : State) (n mode t0 k : Nat) (now : Bool) :
    (s.arm n mode t0 k now).trig n = { mode := mode, t0 := t0, k := k, now := now } := by
  simp [State.arm, State.trig, State.put]

/-- TIME.ARM of an idle trigger with a first instant no later than the grace window after the present arms it with that
instant, counted from the present timescale (R13, R224). -/
theorem mTimeArm_run_inTime {f : Flight} {loc : Nat} {s : State} (hmode : f.cmd.opa % 4 ≠ 0)
    (hidle : s.fld loc R.TRG_STAT_STATE = 0) (hshape : s.shapeBad (locUnit loc - 20) (f.cmd.opa % 4) = false)
    (hhorizon : sdiff f.cmd.opb s.txNow ≠ -horizon)
    (hgrace : (s.nowU 6 : Int) + 65536000 - fromTx64 (s.nowU 6) f.cmd.opb ≤
      ((s.ring f.ring).grace * 1000 * 65536 : Nat)) :
    mTimeArm.run f loc s =
      (s.arm (locUnit loc - 20) (f.cmd.opa % 4) (fromTx64 (s.nowU 6) f.cmd.opb) 0 false, some (okC 0)) := by
  have hlive : ¬ ((f.cmd.opa % 4 = 0) = (s.fld loc R.TRG_STAT_STATE = 0)) := by simp [hmode, hidle]
  simp only [mTimeArm, if_neg hlive, if_neg hmode, hshape, Bool.false_eq_true, if_false, if_neg hhorizon, if_pos hgrace]

/-- TIME.ARM with a first instant at least 1,000 ns ahead of the present completes OK and leaves its trigger with that
instant. -/
theorem exec_timeArm_ahead {n : Nat} {f : Flight} {s : State}
    (hstarts : Starts (fun c => c.opcode == 0x64 && c.opa % 4 != 0) mTimeArm n f s)
    (hidle : s.fld f.cmd.loc R.TRG_STAT_STATE = 0)
    (hshape : s.shapeBad (locUnit f.cmd.loc - 20) (f.cmd.opa % 4) = false)
    (hahead : (s.nowU 6 : Int) + 65536000 ≤ fromTx64 (s.nowU 6) f.cmd.opb)
    (hhorizon : sdiff f.cmd.opb s.txNow ≠ -horizon) :
    ∃ t : State, exec (.timeArm n) s = .next (t.complete n { status := stOk }) ∧
      (t.trig (locUnit f.cmd.loc - 20)).t0 = fromTx64 (s.nowU 6) f.cmd.opb := by
  have hmode : f.cmd.opa % 4 ≠ 0 := by
    have := hstarts.form
    simp only [Bool.and_eq_true, bne_iff_ne] at this
    exact this.2
  have hrun := mTimeArm_run_inTime hmode hidle hshape hhorizon (by omega)
  refine ⟨s.arm (locUnit f.cmd.loc - 20) (f.cmd.opa % 4) (fromTx64 (s.nowU 6) f.cmd.opb) 0 false, ?_, ?_⟩
  · have hfinish := Meaning.finish_completes (m := mTimeArm) (f := f) (s := s) (congrArg Prod.snd hrun) (.inr (by decide))
    calc exec (.timeArm n) s = .next (mTimeArm.finish f s (mTimeArm.run f f.cmd.loc s)) := hstarts.startRow
      _ = .next ((s.arm _ _ _ 0 false).complete n (okC 0)) := by rw [hfinish, hrun, hstarts.num]
  · rw [State.trig_arm_self]

/-! ### The end of WAIT.TIME -/

/-- The end of a WAIT.TIME whose instant is still to come: the ticks that bring the event tailstock to it pass, and the
wait completes OK (R81). -/
theorem exec_waitTimeDue_ahead {n due : Nat} {f : Flight} {s : State} (hflight : s.flight n = some f)
    (hphase : f.phase = .exec due) (hop : f.cmd.opcode = 0x08) (hahead : 0 < sdiff f.cmd.opb s.txNow) :
    exec (.waitTimeDue n) s =
      .next ((s.advanceToU (fromTx64 (s.nowU 6) f.cmd.opb)).complete n { status := stOk }) := by
  have hgoing : s.going n (isOp 0x08) = some (f, due) := State.going_iff.2 ⟨hflight, hphase, by simp [isOp, hop]⟩
  show execWaitTimeDue n s = _
  simp only [execWaitTimeDue, hgoing, if_pos hahead]
  rfl

/-! ### The obligation -/

/-- Settles O57: the difference of TX64 values within the horizon is that of the times, and both TIME.ARM and the end of
WAIT.TIME take the way back relative to the hub's present timescale. -/
theorem tx64IsRelativeToThePresent : Obligations.Tx64IsRelativeToThePresent := by
  unfold Obligations.Tx64IsRelativeToThePresent
  refine ⟨?fullTime, ?wayBack, ?timeArm, ?waitTime⟩
  case fullTime =>
    intro secs ns sub _ hsub
    exact tx64_fullTime secs ns hsub
  case wayBack =>
    intro ref u h
    exact fromTx64_tx64 h
  case timeArm =>
    intro n f s k t0 hstarts _ hidle hshape hahead hhorizon
    exact exec_timeArm_ahead hstarts hidle hshape hahead hhorizon
  case waitTime =>
    intro n due f s hflight hphase hop hahead
    exact ⟨_, exec_waitTimeDue_ahead hflight hphase hop hahead, s.fu_advanceToU _⟩

end Sys2Proof.Machine
end

section
/-! PROOFS. The records of R54: which bits of the 128-bit record hold which field, the completion and the event that write
one, and where it then lies in host memory. -/

namespace Sys2Proof.Machine

/-! ### The fields of the record -/

section
variable {cookie status detail ring tag result time : Nat}

@[simp] theorem bits_recWord_time :
    bits (recWord cookie status detail ring tag result time) 0 64 = time % 2 ^ 64 := by
  unfold bits recWord
  omega

@[simp] theorem bits_recWord_result :
    bits (recWord cookie status detail ring tag result time) 64 16 = result % 65536 := by
  unfold bits recWord
  omega

theorem bits_recWord_tag (htag : tag < 2 ^ 9) :
    bits (recWord cookie status detail ring tag result time) 80 9 = tag := by
  unfold bits recWord
  omega

theorem bits_recWord_ring (hring : ring < 2 ^ 7) (htag : tag < 2 ^ 9) :
    bits (recWord cookie status detail ring tag result time) 89 7 = ring := by
  unfold bits recWord
  omega

theorem bits_recWord_detail (hring : ring < 2 ^ 7) (htag : tag < 2 ^ 9) :
    bits (recWord cookie status detail ring tag result time) 96 8 = detail % 256 := by
  unfold bits recWord
  omega

theorem bits_recWord_status (hring : ring < 2 ^ 7) (htag : tag < 2 ^ 9) :
    bits (recWord cookie status detail ring tag result time) 104 8 = status % 256 := by
  unfold bits recWord
  omega

theorem bits_recWord_cookie (hcookie : cookie < 2 ^ 16) (hring : ring < 2 ^ 7) (htag : tag < 2 ^ 9) :
    bits (recWord cookie status detail ring tag result time) 112 16 = cookie := by
  unfold bits recWord
  omega

end

/-! ### An entry of a ring in host memory -/

@[simp] theorem length_leBytes (len v : Nat) : (leBytes len v).length = len := by
  induction len generalizing v with
  | zero => rfl
  | succ len ih => simp [leBytes, ih]

/-- A number written to a memory in its one form stands there byte by byte. -/
theorem memByte_memPuts_leBytes {m : List Host.Cell} (a v : Nat) {len i : Nat} (h : Memory.wf m = true) (hi : i < len) :
    memByte (memPuts m a (leBytes len v)) (a + i) = (leBytes len v).getD i 0 :=
  memByte_memPuts_in a _ h (by rwa [length_leBytes])

/-- A DMA write that goes to host memory puts its bytes there (R443). -/
theorem State.dmaPut_host {s : State} {a : Nat} {bs : List Byte} (hroute : s.route a bs.length = .host) :
    s.dmaPut a bs = { s with env := { s.env with mem := memPuts s.env.mem a bs } } := by
  simp [State.dmaPut, State.dmaWrite, hroute]

@[simp] theorem State.msix_env (s : State) (v : Nat) : (s.msix v).env = s.env := by
  unfold State.msix
  split <;> rfl

@[simp] theorem State.msix_rings (s : State) (v : Nat) : (s.msix v).rings = s.rings := by
  unfold State.msix
  split <;> rfl

@[simp] theorem State.ringTest_env (s : State) (n : Nat) : (s.ringTest n).env = s.env := by
  unfold State.ringTest
  split
  · simp [State.ringFire]
  · rfl

/-- An entry whose place is in host memory is written there, least significant byte first (R7, R47). -/
theorem State.mem_pushEntry_host {s : State} {n len a : Nat} (entry : Nat)
    (ha : a = (s.ring n).base + len * ((s.ring n).tail % 2 ^ (s.ring n).sizeLog2)) (hroute : s.route a len = .host) :
    (s.pushEntry n len entry).env.mem = memPuts s.env.mem a (leBytes len entry) := by
  subst ha
  have hput := State.dmaPut_host (bs := leBytes len entry) (by rw [length_leBytes]; exact hroute)
  simp only [State.pushEntry, State.ringTest_env, State.setRing_env, hput]

/-! ### What a completion does before its record -/

/-- The state in which a completion delivers its record: a refusal of tokens is counted (R362), the ring halts (R72), and
BLOCKED is released (R61). -/
def State.reported (s : State) (f : Flight) (status : Nat) : State :=
  let s := if status = stDenied then s.bump locLed R.POW_CNT_DENIED else s
  let s := s.haltOn f.ring status
  if isBlocking f.cmd.opcode then s.setRing f.ring { s.ring f.ring with blocked := false } else s

/-- The instruction with one more completion counted (R71, R80). -/
def Flight.tallied (f : Flight) (status : Nat) : Flight :=
  { f with bad := f.bad || isBad status, execs := f.execs + b2n f.started.isSome }

/-- An untimed instruction that is not late delivers the completion as it stands (R62). -/
theorem State.complete_untimed {s : State} {n : Nat} {f : Flight} (c : Compl) (hflight : s.flight n = some f)
    (htimed : f.cmd.timed = false) (hlate : f.late = none) :
    s.complete n c = (s.reported f c.status).deliver (f.tallied c.status) c.status c.detail c.result
      (f.started.getD (c.time.getD (tx64 (s.nowU f.cmd.timeDie)))) := by
  simp [State.complete, State.reported, Flight.tallied, hflight, htimed, hlate]

/-- An untimed instruction with a record to write and room for it writes it and retires (R55, R62). -/
theorem State.deliver_untimed_open {s : State} {f : Flight} {status : Nat} (detail result time : Nat)
    (htimed : f.cmd.timed = false) (hwants : f.wantsRec status = true) (hopen : s.ringOpen (s.cqOf f.ring) = true) :
    s.deliver f status detail result time = (s.putRec f status detail result time).retire f := by
  simp [State.deliver, State.afterRec, State.lastOf, hwants, hopen, htimed]

theorem Flight.wantsRec_of_not_mute {f : Flight} {status : Nat} (hmute : f.mute = false)
    (h : status ≠ stOk ∨ f.cmd.always = true) : f.wantsRec status = true := by
  simpa [Flight.wantsRec, hmute] using h

@[simp] theorem State.fpInt_env (s : State) (b : Nat) : (s.fpInt b).env = s.env := by
  unfold State.fpInt
  dsimp only
  split <;> simp

@[simp] theorem State.fpInt_rings (s : State) (b : Nat) : (s.fpInt b).rings = s.rings := by
  unfold State.fpInt
  dsimp only
  split <;> simp

@[simp] theorem State.haltOn_env (s : State) (ring status : Nat) : (s.haltOn ring status).env = s.env := by
  unfold State.haltOn
  split <;> simp

/-- Halting a ring leaves the other rings. -/
theorem State.haltOn_ring_ne (s : State) {ring m : Nat} (status : Nat) (h : m ≠ ring) :
    (s.haltOn ring status).ring m = s.ring m := by
  unfold State.haltOn
  split
  · simp [State.ring, Tab.get_set_ne _ _ _ h]
  · rfl

/-- Halting a ring leaves where its records go (R45). -/
@[simp] theorem State.haltOn_cqOf (s : State) (ring status : Nat) : (s.haltOn ring status).cqOf ring = s.cqOf ring := by
  unfold State.haltOn
  split
  · simp [State.cqOf, State.ring]
  · rfl

@[simp] theorem State.reported_env (s : State) (f : Flight) (status : Nat) : (s.reported f status).env = s.env := by
  simp only [State.reported, apply_ite State.env, State.setRing_env, State.haltOn_env, State.bump_env, ite_self]

theorem State.reported_ring_ne (s : State) {f : Flight} {m : Nat} (status : Nat) (h : m ≠ f.ring) :
    (s.reported f status).ring m = s.ring m := by
  have hcount : (if status = stDenied then s.bump locLed R.POW_CNT_DENIED else s).ring m = s.ring m := by
    split <;> rfl
  simp only [State.reported]
  split
  · rw [State.ring_setRing_ne _ _ h, State.haltOn_ring_ne _ _ h, hcount]
  · rw [State.haltOn_ring_ne _ _ h, hcount]

@[simp] theorem State.reported_cqOf (s : State) (f : Flight) (status : Nat) :
    (s.reported f status).cqOf f.ring = s.cqOf f.ring := by
  have hcount : (if status = stDenied then s.bump locLed R.POW_CNT_DENIED else s).cqOf f.ring = s.cqOf f.ring := by
    split <;> rfl
  have hhalt := (State.haltOn_cqOf _ f.ring status).trans hcount
  simp only [State.reported]
  split
  · rw [← hhalt]
    simp [State.cqOf]
  · exact hhalt

/-! ### The record of a completion -/

/-- Whether a ring takes an entry depends on that ring and on what the host-memory accesses meet. -/
theorem State.ringOpen_congr {s t : State} {n : Nat} (len : Nat) (henv : t.env = s.env) (hring : t.ring n = s.ring n) :
    t.ringOpen n len = s.ringOpen n len := by
  simp [State.ringOpen, State.ringReach, State.route, henv, hring]

/-- Completion rings are none of the 32 command rings (R45). -/
theorem State.cqOf_ne (s : State) {ring m : Nat} (h : ring < 32) : s.cqOf m ≠ ring := by
  unfold State.cqOf
  omega

/-- An untimed completion with a record to write, and room for it in host memory, writes the record of R54 at the TAIL of
its completion ring, and nothing else to host memory. -/
theorem State.mem_complete_host {s : State} {n a : Nat} {f : Flight} {c : Compl} (hflight : s.flight n = some f)
    (htimed : f.cmd.timed = false) (hlate : f.late = none) (hwants : f.wantsRec c.status = true) (hring : f.ring < 32)
    (hopen : s.ringOpen (s.cqOf f.ring) = true)
    (ha : a = (s.ring (s.cqOf f.ring)).base +
      16 * ((s.ring (s.cqOf f.ring)).tail % 2 ^ (s.ring (s.cqOf f.ring)).sizeLog2))
    (hroute : s.route a 16 = .host) :
    (s.complete n c).env.mem = memPuts s.env.mem a (leBytes 16 (recWord f.cmd.cookie c.status c.detail f.ring f.tag0
      c.result (f.started.getD (c.time.getD (tx64 (s.nowU f.cmd.timeDie)))))) := by
  have hcq := s.reported_cqOf f c.status
  have henv := s.reported_env f c.status
  have hsame := s.reported_ring_ne c.status (s.cqOf_ne hring (m := f.ring))
  rw [State.complete_untimed c hflight htimed hlate]
  generalize s.reported f c.status = u at hcq henv hsame ⊢
  have hopen' : u.ringOpen (u.cqOf f.ring) = true := by
    rw [hcq, State.ringOpen_congr 16 henv hsame, hopen]
  have hroute' : u.route a 16 = .host := by
    simpa only [State.route, henv] using hroute
  rw [State.deliver_untimed_open (f := f.tallied c.status) _ _ _ htimed hwants hopen', ← henv]
  exact State.mem_pushEntry_host _ (by rw [ha, ← hsame, ← hcq]; rfl) hroute'

/-! ### The record of an event -/

/-- An event of a kind that no WAIT.EVENT waits for completes none (R410). -/
theorem State.wakeWaits_none {s : State} {kind : Nat} (result time : Nat)
    (h : ∀ f ∈ s.plyn.flights, ¬(f.cmd.opcode = 9 ∧ f.phase.isOpen = true ∧ f.cmd.opb ≠ 0 ∧ f.cmd.opa % 16 = kind)) :
    s.wakeWaits kind result time = s := by
  have hnone : s.plyn.flights.filter (fun f => f.cmd.opcode == 9 && f.phase.isOpen && f.cmd.opb != 0
      && f.cmd.opa % 16 == kind) = [] := by
    simpa [and_assoc] using h
  simp only [State.wakeWaits, hnone, List.foldl_nil]

/-- An event that no instruction waits for, routed to a ring with room, writes its record there (R54, R433). -/
theorem State.event_open {s : State} {kind ring : Nat} {ovr : Option Nat} (result time : Nat)
    (hwaits : ∀ f ∈ s.plyn.flights,
      ¬(f.cmd.opcode = 9 ∧ f.phase.isOpen = true ∧ f.cmd.opb ≠ 0 ∧ f.cmd.opa % 16 = kind))
    (hroute : s.eventRing kind ovr = some ring) (hopen : s.ringOpen ring = true) :
    s.event kind result time ovr = (s.pushEntry ring 16 (recWord 0 0x80 kind ring 0 result time), true) := by
  simp only [State.event, State.wakeWaits_none result time hwaits, hroute, hopen, if_true]

/-! ### The obligation -/

/-- Settles O58: a completion and an event each write the `recWord` of their values, and that word holds every field at its
bits. -/
theorem recordsHaveTheirLayout : Obligations.RecordsHaveTheirLayout := by
  unfold Obligations.RecordsHaveTheirLayout
  refine ⟨?completion, ?event⟩
  case completion =>
    intro n f s c hflight htimed hlate hmute hmem hwrites hopen hstarted hring hcookie htag htime q a hroute
    have hwritten := State.mem_complete_host hflight htimed hlate (Flight.wantsRec_of_not_mute hmute hwrites) hring hopen
      (a := a) rfl hroute
    rw [hstarted, htime, Option.getD_none, Option.getD_none] at hwritten
    have hring' : f.ring < 2 ^ 7 := by omega
    rw [hwritten]
    refine ⟨_, fun i hi => memByte_memPuts_leBytes a _ hmem.1 hi, bits_recWord_cookie hcookie hring' htag,
      bits_recWord_status hring' htag, bits_recWord_detail hring' htag, bits_recWord_ring hring' htag,
      bits_recWord_tag htag, bits_recWord_result, ?_⟩
    rw [bits_recWord_time]
    exact Nat.mod_mod _ _
  case event =>
    intro s kind result time ring ovr hwaits hroute hring hopen htime
    refine ⟨_, State.event_open result time hwaits hroute hopen, bits_recWord_cookie (by decide) hring (by decide),
      bits_recWord_status hring (by decide), bits_recWord_detail hring (by decide),
      bits_recWord_ring hring (by decide), bits_recWord_result, ?_⟩
    rw [bits_recWord_time, Nat.mod_eq_of_lt htime]

end Sys2Proof.Machine
end

section
/-! PROOFS. STEP_GEN (R98): which functions of the model leave the tailstocks, how a due step counts STEP_GEN at those that
stand on its apply tick, and the stamps that carry it. -/

namespace Sys2Proof.Machine

/-! ### Reporting and folds leave the tailstocks -/

theorem Reports.tails {s t : State} (h : Reports s t) : t.tails = s.tails := by rw [← h.rest]

theorem Reports.ports {s t : State} (h : Reports s t) : t.ports = s.ports := by rw [← h.rest]

/-- What a tailstock reads as depends on the tailstocks alone. -/
theorem State.tail_congr {s t : State} (h : t.tails = s.tails) (i : Nat) : t.tail i = s.tail i := by
  rw [State.tail, h, State.tail]

theorem State.port_congr {s t : State} (h : t.ports = s.ports) (d p : Nat) : t.port d p = s.port d p := by
  rw [State.port, h, State.port]

theorem State.foldl_tails {α : Type} {f : State → α → State} (h : ∀ s x, (f s x).tails = s.tails) (l : List α)
    (s : State) : (l.foldl f s).tails = s.tails := by
  induction l generalizing s with
  | nil => rfl
  | cons x l ih => exact (ih _).trans (h s x)

@[simp] theorem State.complete_tails (s : State) (n : Nat) (c : Compl) : (s.complete n c).tails = s.tails :=
  (Reports.complete s n c).tails

@[simp] theorem State.event'_tails (s : State) (kind result time : Nat) : (s.event' kind result time).tails = s.tails :=
  (Reports.event s kind result time none).tails

@[simp] theorem State.setPhase_tails (s : State) (n : Nat) (p : Phase) : (s.setPhase n p).tails = s.tails := by
  unfold State.setPhase
  split <;> rfl

/-! ### What a step of the timescale does beside the tailstocks (R79, R99, R143, R166, R225, R307) -/

@[simp] theorem State.abortFlight_tails (s : State) (f : Flight) : (s.abortFlight f).tails = s.tails := by
  simp [State.abortFlight]

@[simp] theorem State.abortParked_tails (s : State) : s.abortParked.tails = s.tails :=
  State.foldl_tails State.abortFlight_tails _ s

@[simp] theorem State.lateParked_tails (s : State) (size : Int) : (s.lateParked size).tails = s.tails := by
  unfold State.lateParked
  split <;> rfl

@[simp] theorem State.setGates_tails (s : State) (d p : Nat) : (s.setGates d p).tails = s.tails := by
  unfold State.setGates
  dsimp only
  split <;> simp

@[simp] theorem State.gatesSync_tails (s : State) : s.gatesSync.tails = s.tails :=
  State.foldl_tails (fun s k => s.setGates_tails (k / 128) (k % 128)) _ s

@[simp] theorem State.trgIdle_tails (s : State) (n cause : Nat) : (s.trgIdle n cause).tails = s.tails := rfl

@[simp] theorem State.trgSkipTo_tails (s : State) (n k : Nat) : (s.trgSkipTo n k).tails = s.tails := by
  unfold State.trgSkipTo
  extract_lets x last t
  have ht : t.tails = s.tails := s.bumpBy_tails _ _ _
  split
  · rfl
  · split
    · exact ht
    · split
      · split <;> exact ht
      · exact ht

@[simp] theorem State.trgRestart_tails (s : State) (n k : Nat) : (s.trgRestart n k).tails = s.tails := by
  unfold State.trgRestart
  split <;> simp

@[simp] theorem State.trgFollow_tails (s : State) (n u : Nat) : (s.trgFollow n u).tails = s.tails := by
  unfold State.trgFollow
  dsimp only
  split
  · simp
  · split
    · simp
    · split <;> simp

@[simp] theorem State.stepTrigs_tails (s : State) (size : Int) : (s.stepTrigs size).tails = s.tails := by
  unfold State.stepTrigs
  refine State.foldl_tails (fun s n => ?_) _ s
  simp only [apply_ite State.tails, State.trgIdle_tails, State.trgFollow_tails, ite_self]

@[simp] theorem State.outSkipTo_tails (s : State) (k o u : Nat) : (s.outSkipTo k o u).tails = s.tails := by
  simp [State.outSkipTo]

@[simp] theorem State.pulseRestart_tails (s : State) (u : Nat) (lim : Option Nat) :
    (s.pulseRestart u lim).tails = s.tails := by
  unfold State.pulseRestart
  refine (State.foldl_tails (fun s n => ?_) _ _).trans (State.foldl_tails (fun s x => ?_) _ s)
  · simp only [apply_ite State.tails, State.trgRestart_tails, ite_self]
  · simp only [apply_ite State.tails, State.outSkipTo_tails, ite_self]

@[simp] theorem State.setPend_tails (s : State) (p : Int) : (s.setPend p).tails = s.tails := rfl

@[simp] theorem State.pendStep_tails (s : State) (size : Int) : (s.pendStep size).tails = s.tails := by
  unfold State.pendStep
  dsimp only
  split <;> simp

@[simp] theorem State.shiftOffs_tails (s : State) (size : Int) : (s.shiftOffs size).tails = s.tails := rfl

@[simp] theorem State.adoptEpoch_tails (s : State) : s.adoptEpoch.tails = s.tails := by
  unfold State.adoptEpoch
  split <;> simp

@[simp] theorem State.stepsDone_tails (s : State) : s.stepsDone.tails = s.tails :=
  State.foldl_tails (fun (s : State) (w : StepWait) => s.complete_tails w.num (okC (w.result.getD 0))) _ _

@[simp] theorem State.slewStop_tails (s : State) : s.slewStop.tails = s.tails := rfl

@[simp] theorem State.commit_tails (s : State) (x : StepC) : (s.commit x).tails = s.tails := by
  unfold State.commit
  dsimp only
  split <;> simp

@[simp] theorem State.nextStep_tails (s : State) : s.nextStep.tails = s.tails := by
  unfold State.nextStep
  split <;> simp

/-! ### The tailstocks after a step (R94, R98, R184) -/

/-- A table made of one entry for each number of a list has the entry of each number there. -/
theorem Tab.get_map_of_mem {α : Type} (d : α) (g : Nat → α) {l : List Nat} {i : Nat} (h : i ∈ l) :
    Tab.get d (l.map (fun t => (t, g t))) i = g i := by
  induction l with
  | nil => simp at h
  | cons t l ih =>
    by_cases e : t = i
    · simp [Tab.get, Tab.get?, e]
    · have hmem : i ∈ l := by simpa [Ne.symm e] using h
      simpa [Tab.get, Tab.get?, e] using ih hmem

/-- Whether a tailstock stands on the apply tick of a step that it holds. -/
def Tailstock.stepReached (x : Tailstock) : Bool := x.step.any (fun y => decide (y.tick ≤ x.n))

theorem State.stepHere_contains (s : State) {i : Nat} (h : i < 6) :
    s.stepHere.contains i = (s.tail i).stepReached := by
  rw [Bool.eq_iff_iff]
  simp [State.stepHere, Tailstock.stepReached, h]

/-- STEP_GEN counts at the tailstocks that stand on the apply tick of the step they hold, and at no other. -/
theorem State.applyTails_stepGen (s : State) {i : Nat} (h : i < 6) :
    (s.applyTails.tail i).stepGen =
      if (s.tail i).stepReached then ((s.tail i).stepGen + 1) % 16 else (s.tail i).stepGen := by
  unfold State.applyTails
  dsimp only
  rw [State.tail, State.setServo_tails, Tab.get_map_of_mem _ _ (List.mem_range.2 h), s.stepHere_contains h]
  cases hstep : (s.tail i).step with
  | none => simp [Tailstock.stepReached, hstep]
  | some x => simp only [apply_ite Tailstock.stepGen, Tailstock.apply]

/-- What the tailstocks become depends on the tailstocks alone. -/
theorem State.applyTails_tails_congr {s t : State} (h : t.tails = s.tails) :
    t.applyTails.tails = s.applyTails.tails := by
  have htail : t.tail = s.tail := funext (State.tail_congr h)
  have hhere : t.stepHere = s.stepHere := by simp only [State.stepHere, htail]
  simp only [State.applyTails, State.setServo_tails, htail, hhere]

/-- Of all that a step of the timescale does, only its application reaches the tailstocks. -/
theorem State.packageStep_tails (s : State) (x : StepC) : (s.packageStep x).tails = s.applyTails.tails := by
  have happly : ∀ size : Int,
      (if 2 ^ 63 < size.natAbs then s.abortParked else s).applyTails.tails = s.applyTails.tails := by
    intro size
    apply State.applyTails_tails_congr
    split <;> simp
  rw [← happly (x.size (s.nowU 6))]
  simp [State.packageStep, apply_ite State.tails]

theorem State.stepNow_tails (s : State) : s.stepNow.tails = s.applyTails.tails := by
  unfold State.stepNow
  split
  · exact s.packageStep_tails _
  · exact s.applyTails.stepsDone_tails

/-- A due step brings its apply tick and is applied there (R94, R184). -/
theorem exec_stepApply_due {s : State} {k : Nat} (h : s.stepDue = some k) :
    exec .stepApply s = .next (s.advance k).stepNow := by
  show execStepApply s = _
  simp only [execStepApply, h]

/-! ### Instructions that leave the tailstocks -/

section
variable {m : Meaning} (hrun : ∀ f loc s, (m.run f loc s).1.tails = s.tails)
include hrun

theorem Meaning.at_tails (f : Flight) (loc : Nat) (s : State) : (m.at f loc s).1.tails = s.tails := by
  unfold Meaning.at
  split
  · rfl
  · exact hrun f loc s

theorem Cast.step_tails (f : Flight) (x : Cast) (d : Nat) : (Cast.step m f x d).st.tails = x.st.tails := by
  have hat := Meaning.at_tails hrun f (onDie f.cmd.loc d) x.st
  unfold Cast.step
  split <;> simpa [*] using hat

theorem Cast.foldl_step_tails (f : Flight) (dies : List Nat) (x : Cast) :
    (dies.foldl (Cast.step m f) x).st.tails = x.st.tails := by
  induction dies generalizing x with
  | nil => rfl
  | cons d dies ih => exact (ih _).trans (Cast.step_tails hrun f x d)

theorem broadcast_tails (f : Flight) (s : State) : (broadcast m f s).1.tails = s.tails := by
  have hfold := fun dies => Cast.foldl_step_tails hrun f dies { st := s }
  unfold broadcast
  dsimp only
  split
  · simp only [apply_ite State.tails, hfold, ite_self]
  · simp only [apply_ite Prod.fst, hfold, ite_self]

theorem Meaning.eff_tails (f : Flight) (s : State) : (m.eff f s).1.tails = s.tails := by
  unfold Meaning.eff
  split
  · rfl
  · split
    · rfl
    · split
      · exact broadcast_tails hrun f s
      · exact hrun f f.cmd.loc s

/-- An instruction whose effect leaves the tailstocks leaves them when it completes or waits for tokens as well. -/
theorem Meaning.exec_tails (f : Flight) (s : State) : (m.exec f s).tails = s.tails := by
  have heff := Meaning.eff_tails hrun f s
  unfold Meaning.exec Meaning.finish
  split
  · exact heff
  · split
    · simp [Meaning.await]
    · rw [State.complete_tails, heff]

theorem startRow_tails (s : State) (n : Nat) (form : Cmd → Bool) :
    ∃ t : State, startRow s n form m = .next t ∧ t.tails = s.tails := by
  unfold startRow
  split
  · exact ⟨s, rfl, rfl⟩
  · exact ⟨_, rfl, Meaning.exec_tails hrun _ s⟩

end

/-- TIME.SLEW changes what the words carry, and no tailstock (R96). -/
theorem mTimeSlew_run_tails (f : Flight) (loc : Nat) (s : State) : (mTimeSlew.run f loc s).1.tails = s.tails := by
  simp only [mTimeSlew]
  split
  · rfl
  · simp [State.goesOn, State.slewBy]

/-! ### Slews and the passing of time -/

theorem State.advance_stepGen (s : State) (k : Nat) {i : Nat} (h : i < 6) :
    ((s.advance k).tail i).stepGen = (s.tail i).stepGen := by
  rw [s.tail_advance k h]

/-- The end of a slew lets time pass to it and changes no STEP_GEN (R96). -/
theorem exec_slewDone_stepGen (s : State) {i : Nat} (h : i < 6) :
    ∃ t : State, exec .slewDone s = .next t ∧ (t.tail i).stepGen = (s.tail i).stepGen := by
  show ∃ t : State, execSlewDone s = .next t ∧ _
  unfold execSlewDone
  split
  · exact ⟨s, rfl, rfl⟩
  · refine ⟨_, rfl, ?_⟩
    have htails : ∀ u : State, (if u.servo.epochBySlew then u.adoptEpoch else u).slewStop.tails = u.tails := by
      intro u
      simp [apply_ite State.tails]
    rw [State.advanceTo, State.tail_congr (htails _), s.advance_stepGen _ h]

/-! ### The stamps that carry it -/

/-- A stamp that enters the queue of a port is its only new entry (R100). -/
theorem State.mem_tsq_keep {s : State} {d p : Nat} {e new : TsqEnt}
    (h : e ∈ ((s.setPort d p { s.port d p with tsq := (s.port d p).tsq ++ [new] }).port d p).tsq) :
    e ∈ (s.port d p).tsq ∨ e = new := by
  simpa using h

/-- What a requested transmit stamp adds to its queue shows the STEP_GEN of the port's tailstock (R98, R102). -/
theorem State.tsRequest_tsq (s : State) (d p tsId : Nat) (bs : List Byte) (h : Hdr) :
    ∀ e ∈ ((s.tsRequest d p tsId bs h).port d p).tsq, e ∈ (s.port d p).tsq ∨ e.stepGen = (s.tail d).stepGen := by
  have hevent : ∀ kind result time ovr, (s.event kind result time ovr).1.port d p = s.port d p :=
    fun kind result time ovr => State.port_congr (Reports.event s kind result time ovr).ports d p
  intro e he
  unfold State.tsRequest at he
  split at he
  · exact .inl he
  split at he
  · exact .inl he
  dsimp only at he
  generalize (if s.flag locFp (R.EVT_ROUTE_TSQ_OVR d) then some (s.fp (R.EVT_ROUTE_TSQ_RING d)) else none) = ovr at he
  by_cases hpoll : s.pflag d p R.TS_CTRL_TSQ_MODE = true
  · rw [if_pos hpoll] at he
    exact (State.mem_tsq_keep he).imp_right (congrArg TsqEnt.stepGen)
  · rw [if_neg hpoll] at he
    by_cases hwritten : (s.event 1 tsId (tx64 (s.stampTx d p)) ovr).2 = true
    · rw [if_pos hwritten, hevent] at he
      exact .inl he
    · rw [if_neg hwritten] at he
      have hkeep := State.mem_tsq_keep he
      rw [hevent] at hkeep
      exact hkeep.imp_right (congrArg TsqEnt.stepGen)

/-- The descriptor of a packet shows the frame's STEP_GEN at bits 48:45 (R98, R439). -/
theorem bits_pktEntry_stepGen {f : Frame} {len cls : Nat} (reason session sample : Nat) (valid drop : Bool)
    (hlen : len < 2 ^ 16) (horig : f.bytes.length < 2 ^ 14) (hport : f.port < 128) (hdie : f.die < 4) (hcls : cls < 16)
    (hgen : f.stepGen < 16) : bits (pktEntry f len cls reason session sample valid drop) 45 4 = f.stepGen := by
  have hb2n : ∀ b, b2n b ≤ 1 := by decide
  have hcut := hb2n (decide (len < f.bytes.length))
  unfold bits pktEntry
  dsimp only
  omega

/-! ### The obligation -/

/-- Settles O59: of all that a due step does only its application reaches the tailstocks, and it counts STEP_GEN at those
that stand on their apply tick; stamps copy it, and slews and the passing of time leave it. -/
theorem stepGenCountsAndIsCarried : Obligations.StepGenCountsAndIsCarried := by
  unfold Obligations.StepGenCountsAndIsCarried
  refine ⟨?step, ?txStamp, ?rxFrame, ?descriptor, ?time, ?slew⟩
  case step =>
    intro s k hdue
    refine ⟨_, exec_stepApply_due hdue, fun i hi => ?_⟩
    rw [State.tail_congr (State.stepNow_tails _), State.applyTails_stepGen _ hi, s.tail_advance k hi]
    rfl
  case txStamp => exact State.tsRequest_tsq
  case rxFrame => exact fun _ _ _ _ _ => rfl
  case descriptor =>
    intro f len cls reason session sample valid drop
    exact bits_pktEntry_stepGen reason session sample valid drop
  case time => exact fun s k _ hi => s.advance_stepGen k hi
  case slew =>
    intro s n i hi
    refine ⟨?_, exec_slewDone_stepGen s hi⟩
    obtain ⟨t, hexec, htails⟩ := startRow_tails mTimeSlew_run_tails s n (isOp 0x62)
    exact ⟨t, hexec, by rw [State.tail_congr htails]⟩

end Sys2Proof.Machine
end

section
/-! PROOFS. The REF group in TAKEOVER and HOLD (R162): the servo state shuts the group, so each of its instructions has no
effect there and completes with a conflict that shows where the servo and the named slot stand. -/

namespace Sys2Proof.Machine

/-! ### The servo states that shut the group, and what the refusal shows -/

/-- The REF group is shut in exactly TAKEOVER (6) and HOLD (7) (R162, R168). -/
theorem State.refShut_iff {s : State} : s.refShut = true ↔ s.servoState = 6 ∨ s.servoState = 7 := by
  simp [State.refShut]

/-- A refusal that names a slot shows the slot's state above the servo's. -/
theorem State.refConflict_slot (s : State) (i : Nat) :
    s.refConflict (some i) = { status := stConflict, detail := (s.servoState + s.refState i * 16) % 256 } := rfl

/-- A refusal that names no slot shows the servo state alone. -/
theorem State.refConflict_noSlot {s : State} (hshut : s.refShut = true) :
    s.refConflict none = { status := stConflict, detail := s.servoState } := by
  have hcode : s.servoState % 256 = s.servoState := by
    rcases State.refShut_iff.1 hshut with h | h <;> simp [h]
  simp [State.refConflict, conflictC, hcode]

/-! ### An instruction refused without effect -/

/-- An instruction that starts, and whose effect is a refusal for the state alone, completes with it and changes nothing
else. -/
theorem Starts.startRow_refConflict {form : Cmd → Bool} {m : Meaning} {n : Nat} {f : Flight} {s : State}
    {slot : Option Nat} (hstarts : Starts form m n f s)
    (hrun : m.run f f.cmd.loc s = (s, some (s.refConflict slot))) :
    Sys2Proof.Machine.startRow s n form m = .next (s.complete n (s.refConflict slot)) := by
  have hstatus : (s.refConflict slot).status ≠ stDenied := show stConflict ≠ stDenied by decide
  rw [hstarts.startRow, hrun, Meaning.finish_completes rfl (.inr hstatus), hstarts.num]

/-! ### Each meaning of the group, shut -/

theorem mRefSet_run_shut {s : State} (hshut : s.refShut = true) (f : Flight) (loc : Nat) :
    mRefSet.run f loc s = (s, some (s.refConflict (some (f.cmd.opa % 8)))) := by
  simp only [mRefSet, hshut, if_true]

theorem mRefSelect_run_shut {s : State} (hshut : s.refShut = true) (f : Flight) (loc : Nat) :
    mRefSelect.run f loc s = (s, some (s.refConflict (some (f.cmd.opa % 8)))) := by
  simp only [mRefSelect, hshut, true_or, if_true]

theorem mRefRelease_run_shut {s : State} (hshut : s.refShut = true) (f : Flight) (loc : Nat) :
    mRefRelease.run f loc s = (s, some (s.refConflict none)) := by
  simp only [mRefRelease, hshut, true_or, if_true]

theorem mRefAcceptStep_run_shut {s : State} (hshut : s.refShut = true) (f : Flight) (loc : Nat) :
    mRefAcceptStep.run f loc s = (s, some (s.refConflict (some (f.cmd.opa % 8)))) := by
  simp only [mRefAcceptStep, hshut, true_or, if_true]

/-- REF.FORCE of 15, Steady Rest, names no slot (R161). -/
theorem mRefForce_run_shut_rest {s : State} {f : Flight} (hshut : s.refShut = true) (hrest : f.cmd.opa % 16 = 15)
    (loc : Nat) : mRefForce.run f loc s = (s, some (s.refConflict none)) := by
  simp only [mRefForce, hshut, hrest, if_true]

theorem mRefForce_run_shut_slot {s : State} {f : Flight} (hshut : s.refShut = true) (hslot : f.cmd.opa % 16 ≠ 15)
    (loc : Nat) : mRefForce.run f loc s = (s, some (s.refConflict (some (f.cmd.opa % 16)))) := by
  simp only [mRefForce, hshut, if_neg hslot, true_or, if_true]

/-- A slot that passes REF.FORCE's operand check is one of the eight, unless it is Steady Rest. -/
theorem opa_mod_of_mRefForce_bad {c : Cmd} {s : State} (hbad : mRefForce.bad c s = none) (hslot : c.opa % 16 ≠ 15) :
    c.opa % 16 = c.opa % 8 := by
  have hlow : c.opa % 16 < 8 := by simpa [mRefForce, rangeBad, hslot] using hbad
  omega

/-- REF.FORCE in TAKEOVER and HOLD: its two targets. -/
theorem exec_refForce_shut {n : Nat} {f : Flight} {s : State} (hshut : s.refShut = true)
    (hstarts : Starts (isOp 0x82) mRefForce n f s) :
    exec (.refForce n) s =
      .next (s.complete n (s.refConflict (if f.cmd.opa % 16 = 15 then none else some (f.cmd.opa % 8)))) := by
  by_cases hrest : f.cmd.opa % 16 = 15
  · rw [if_pos hrest]
    exact hstarts.startRow_refConflict (mRefForce_run_shut_rest hshut hrest _)
  · rw [if_neg hrest, ← opa_mod_of_mRefForce_bad hstarts.operands hrest]
    exact hstarts.startRow_refConflict (mRefForce_run_shut_slot hshut hrest _)

/-! ### The obligation -/

/-- Settles O60: TAKEOVER and HOLD shut the REF group, and the refusal of each instruction carries the servo state and,
where it names a slot, the slot's. -/
theorem refInstructionsConflictInTakeoverAndHold : Obligations.RefInstructionsConflictInTakeoverAndHold := by
  unfold Obligations.RefInstructionsConflictInTakeoverAndHold
  intro n f s hservo
  have hshut : s.refShut = true := State.refShut_iff.2 hservo
  dsimp only
  rw [← State.refConflict_slot, ← State.refConflict_noSlot hshut]
  refine ⟨?nominate, ?withdraw, ?select, ?force, ?release, ?acceptStep⟩
  case nominate => exact fun hstarts => hstarts.startRow_refConflict (mRefSet_run_shut hshut f _)
  case withdraw => exact fun hstarts => hstarts.startRow_refConflict (mRefSet_run_shut hshut f _)
  case select => exact fun hstarts => hstarts.startRow_refConflict (mRefSelect_run_shut hshut f _)
  case force =>
    intro hstarts
    rw [exec_refForce_shut hshut hstarts, apply_ite s.refConflict]
  case release => exact fun hstarts => hstarts.startRow_refConflict (mRefRelease_run_shut hshut f _)
  case acceptStep => exact fun hstarts => hstarts.startRow_refConflict (mRefAcceptStep_run_shut hshut f _)

end Sys2Proof.Machine
end

section
/-! PROOFS. Every command answers a state and keeps the one form of both memories and of the register file. One lemma for
each operation of the model that hands on a state, in the model's order, so that each cites those of the operations it calls;
the 234 commands come last. -/

namespace Sys2Proof.Machine

-- The lemmas form one long chain of citations; elaborating them one after another keeps the memory that this takes bounded.
set_option Elab.async false

/-! ### The form, and what it means to keep it -/

/-- Both memories that DMA reaches and the register file are in their one form. -/
def State.InForm (s : State) : Prop :=
  Memory.wf s.env.mem = true ∧ Memory.wf s.env.bulk = true ∧ Tab.wf s.regs = true

theorem State.inForm_iff {s : State} : s.InForm ↔ s.memWf ∧ s.regsWf := by
  simp only [State.InForm, State.memWf, State.regsWf, and_assoc]

/-- The effect of an instruction keeps the form. -/
def Meaning.KeepsForm (m : Meaning) : Prop := ∀ (f : Flight) (loc : Nat) (s : State), s.InForm → (m.run f loc s).1.InForm

/-- A command in state `s` answers a state, which is in form where `s` is. -/
def Out.KeepsForm (s : State) (o : Out) : Prop := ∃ t, o = .next t ∧ (s.InForm → t.InForm)

theorem Out.keepsForm_next {s t : State} : Out.KeepsForm s (.next t) ↔ (s.InForm → t.InForm) := by
  simp [Out.KeepsForm]

theorem Meaning.KeepsForm.run {m : Meaning} (hm : m.KeepsForm) (f : Flight) (loc : Nat) {s : State} (h : s.InForm) :
    (m.run f loc s).1.InForm := hm f loc s h

/-- Reporting to the host keeps the form. -/
theorem Reports.inForm {s t : State} (r : Reports s t) (h : s.InForm) : t.InForm :=
  State.inForm_iff.2 ⟨r.mem (State.inForm_iff.1 h).1, r.regs (State.inForm_iff.1 h).2⟩

/-- What each step of a fold keeps, the fold keeps. -/
theorem foldl_keeps {α β : Type} {P : β → Prop} {f : β → α → β} (h : ∀ b x, P b → P (f b x)) (l : List α) {b : β}
    (hb : P b) : P (l.foldl f b) := by
  induction l generalizing b with
  | nil => exact hb
  | cons x l ih => exact ih (h b x hb)

theorem foldl_inForm {α : Type} {f : State → α → State} (h : ∀ s x, s.InForm → (f s x).InForm) (l : List α) {s : State}
    (hs : s.InForm) : (l.foldl f s).InForm := foldl_keeps h l hs

theorem getD_inForm {o : Option State} {s : State} (ho : ∀ t, o = some t → t.InForm) (h : s.InForm) :
    (o.getD s).InForm := by
  cases o with
  | none => exact h
  | some t => exact ho t rfl

theorem State.InForm.ite {s t : State} {p : Prop} [Decidable p] (hs : s.InForm) (ht : t.InForm) :
    (if p then s else t).InForm := by
  split
  · exact hs
  · exact ht

theorem State.InForm.ite_fst {α : Type} {x y : State × α} {p : Prop} [Decidable p] (hx : x.1.InForm) (hy : y.1.InForm) :
    (if p then x else y).1.InForm := by
  split
  · exact hx
  · exact hy

theorem Out.KeepsForm.ite {s : State} {x y : Out} {p : Prop} [Decidable p] (hx : Out.KeepsForm s x)
    (hy : Out.KeepsForm s y) : Out.KeepsForm s (if p then x else y) := by
  split
  · exact hx
  · exact hy

/-! ### Registers, tables, host memory -/

theorem State.setReg_inForm {s : State} {loc off : Nat} {w : Sys2Proof.Word} (h : s.InForm) :
    (State.setReg s loc off w).InForm := by
  exact ⟨h.1, h.2.1, Tab.set_wf _ _ h.2.2⟩

theorem State.put_inForm {s : State} {loc : Nat} {f : Fld} {v : Nat} (h : s.InForm) :
    (State.put s loc f v).InForm := by
  unfold State.put
  grind [State.setReg_inForm]

theorem State.putB_inForm {s : State} {loc : Nat} {f : Fld} {b : Bool} (h : s.InForm) :
    (State.putB s loc f b).InForm := by
  unfold State.putB
  grind [State.put_inForm]

theorem State.bumpBy_inForm {s : State} {loc : Nat} {f : Fld} {n : Nat} (h : s.InForm) :
    (State.bumpBy s loc f n).InForm := by
  unfold State.bumpBy
  grind [State.put_inForm]

theorem State.bump_inForm {s : State} {loc : Nat} {f : Fld} (h : s.InForm) : (State.bump s loc f).InForm := by
  unfold State.bump
  grind [State.bumpBy_inForm]

theorem State.incr_inForm {s : State} {loc : Nat} {f : Fld} (h : s.InForm) : (State.incr s loc f).InForm := by
  unfold State.incr
  grind [State.put_inForm]

theorem State.putPair_inForm {s : State} {loc : Nat} {lo hi : Fld} {v : Nat} (h : s.InForm) :
    (State.putPair s loc lo hi v).InForm := by
  unfold State.putPair
  grind [State.put_inForm]

theorem State.setRing_inForm {s : State} {n : Nat} {r : Ring} (h : s.InForm) : (State.setRing s n r).InForm := h

theorem State.setTail_inForm {s : State} {t : Nat} {x : Tailstock} (h : s.InForm) : (State.setTail s t x).InForm := h

theorem State.setPort_inForm {s : State} {die port : Nat} {x : Port} (h : s.InForm) :
    (State.setPort s die port x).InForm := h

theorem State.updPort_inForm {s : State} {die port : Nat} {f : Port → Port} (h : s.InForm) :
    (State.updPort s die port f).InForm := by
  unfold State.updPort
  grind [State.setPort_inForm, State.InForm]

theorem State.setDie_inForm {s : State} {d : Nat} {x : Die} (h : s.InForm) : (State.setDie s d x).InForm := h

theorem State.updDie_inForm {s : State} {d : Nat} {f : Die → Die} (h : s.InForm) : (State.updDie s d f).InForm := by
  unfold State.updDie
  grind [State.setDie_inForm, State.InForm]

theorem State.setRef_inForm {s : State} {i : Nat} {x : RefSlot} (h : s.InForm) : (State.setRef s i x).InForm := h

theorem State.setSynth_inForm {s : State} {k : Nat} {x : Synth} (h : s.InForm) : (State.setSynth s k x).InForm := h

theorem State.setOut_inForm {s : State} {i : Nat} {x : OutLive} (h : s.InForm) : (State.setOut s i x).InForm := h

theorem State.setTrig_inForm {s : State} {i : Nat} {x : Trig} (h : s.InForm) : (State.setTrig s i x).InForm := h

theorem State.setCap_inForm {s : State} {i : Nat} {x : Cap} (h : s.InForm) : (State.setCap s i x).InForm := h

theorem State.setRelka_inForm {s : State} {die port : Nat} {x : Relka} (h : s.InForm) :
    (State.setRelka s die port x).InForm := by
  unfold State.setRelka
  grind [State.setPort_inForm, State.InForm]

theorem State.updRelka_inForm {s : State} {die port : Nat} {f : Relka → Relka} (h : s.InForm) :
    (State.updRelka s die port f).InForm := by
  unfold State.updRelka
  grind [State.updPort_inForm, State.InForm]

theorem State.setServo_inForm {s : State} {x : Servo} (h : s.InForm) : (State.setServo s x).InForm := h

theorem State.setHst_inForm {s : State} {x : Hst} (h : s.InForm) : (State.setHst s x).InForm := h

theorem State.setLedger_inForm {s : State} {x : Ledger} (h : s.InForm) : (State.setLedger s x).InForm := h

theorem State.setClk_inForm {s : State} {x : Clk} (h : s.InForm) : (State.setClk s x).InForm := h

theorem State.setFaults_inForm {s : State} {x : Faults} (h : s.InForm) : (State.setFaults s x).InForm := h

theorem State.send_inForm {s : State} {x : Sent} (h : s.InForm) : (State.send s x).InForm := h

theorem State.freeNat_inForm {s : State} (h : s.InForm) : (State.freeNat s).2.InForm := by
  unfold State.freeNat
  grind [State.InForm]

theorem State.advance_inForm {s : State} {k : Nat} (h : s.InForm) : (State.advance s k).InForm := h

theorem State.advanceTo_inForm {s : State} {tick : Nat} (h : s.InForm) : (State.advanceTo s tick).InForm := by
  unfold State.advanceTo
  grind [State.advance_inForm]

theorem State.advanceToU_inForm {s : State} {u : Nat} (h : s.InForm) : (State.advanceToU s u).InForm := by
  unfold State.advanceToU
  grind [State.advance_inForm]

theorem State.toSecond_inForm {s : State} (h : s.InForm) : (State.toSecond s).InForm := by
  unfold State.toSecond
  grind [State.advanceToU_inForm]

theorem State.dmaWrite_inForm {s : State} {a : Nat} {bs : List Byte} {t : State} (h : s.InForm) (e : State.dmaWrite
    s a bs = some t) : t.InForm := by
  unfold State.dmaWrite at e
  obtain ⟨hmem, hbulk, hregs⟩ := h
  split at e <;> cases e
  · exact ⟨hmem, memPuts_wf _ _ hbulk, hregs⟩
  · exact ⟨memPuts_wf _ _ hmem, hbulk, hregs⟩

theorem State.dmaPut_inForm {s : State} {a : Nat} {bs : List Byte} (h : s.InForm) : (State.dmaPut s a bs).InForm := by
  exact getD_inForm (fun t e => State.dmaWrite_inForm h e) h

theorem State.pput_inForm {s : State} {d p : Nat} {f : Fld} {v : Nat} (h : s.InForm) :
    (State.pput s d p f v).InForm := by
  unfold State.pput
  grind [State.put_inForm]

theorem State.pbump_inForm {s : State} {d p : Nat} {f : Fld} (h : s.InForm) : (State.pbump s d p f).InForm := by
  unfold State.pbump
  grind [State.bump_inForm]

theorem State.setBrg_inForm {s : State} {d far : Nat} {x : Bridge} (h : s.InForm) :
    (State.setBrg s d far x).InForm := by
  unfold State.setBrg
  grind [State.setDie_inForm, State.InForm]

theorem State.arbPut_inForm {s : State} {f : Fld} {v : Nat} (h : s.InForm) : (State.arbPut s f v).InForm := by
  unfold State.arbPut
  grind [State.put_inForm]

/-! ### Rings, records, completions -/

theorem State.fpPut_inForm {s : State} {f : Fld} {v : Nat} (h : s.InForm) : (State.fpPut s f v).InForm := by
  unfold State.fpPut
  grind [State.put_inForm]

theorem State.msix_inForm {s : State} {v : Nat} (h : s.InForm) : (State.msix s v).InForm := by
  unfold State.msix
  grind [State.send_inForm, State.InForm]

theorem State.fpInt_inForm {s : State} {b : Nat} (h : s.InForm) : (State.fpInt s b).InForm := by
  unfold State.fpInt
  grind [State.bump_inForm, State.put_inForm, State.msix_inForm]

theorem State.bootState_inForm {s : State} {v : Nat} (h : s.InForm) : (State.bootState s v).InForm := by
  unfold State.bootState
  grind [State.fpInt_inForm, State.fpPut_inForm]

theorem State.ringErr_inForm {s : State} {n : Nat} (h : s.InForm) : (State.ringErr s n).InForm := by
  unfold State.ringErr
  grind [State.fpInt_inForm, State.setRing_inForm, State.InForm]

theorem State.ringFire_inForm {s : State} {n : Nat} (h : s.InForm) : (State.ringFire s n).InForm := by
  unfold State.ringFire
  grind [State.fpPut_inForm, State.msix_inForm]

theorem State.ringTest_inForm {s : State} {n : Nat} (h : s.InForm) : (State.ringTest s n).InForm := by
  unfold State.ringTest
  grind [State.ringFire_inForm]

theorem State.pushEntry_inForm {s : State} {n len entry : Nat} (h : s.InForm) :
    (State.pushEntry s n len entry).InForm := by
  unfold State.pushEntry
  grind [State.dmaPut_inForm, State.ringTest_inForm, State.setRing_inForm, State.InForm]

theorem State.setFlight_inForm {s : State} {f : Flight} (h : s.InForm) : (State.setFlight s f).InForm := by
  unfold State.setFlight
  grind [State.InForm]

theorem State.setPhase_inForm {s : State} {n : Nat} {p : Phase} (h : s.InForm) : (State.setPhase s n p).InForm := by
  unfold State.setPhase
  grind [State.setFlight_inForm, State.InForm]

theorem State.retire_inForm {s : State} {f : Flight} (h : s.InForm) : (State.retire s f).InForm := by
  unfold State.retire
  grind [State.setFlight_inForm, State.setRing_inForm, State.InForm]

theorem State.putRec_inForm {s : State} {f : Flight} {status detail result time : Nat} (h : s.InForm) :
    (State.putRec s f status detail result time).InForm := by
  unfold State.putRec
  grind [State.pushEntry_inForm]

theorem State.haltOn_inForm {s : State} {ring status : Nat} (h : s.InForm) : (State.haltOn s ring status).InForm := by
  unfold State.haltOn
  grind [State.fpInt_inForm, State.setRing_inForm, State.InForm]

theorem State.endSeries_inForm {s : State} {f : Flight} {status detail : Nat} (h : s.InForm) :
    (State.endSeries s f status detail).InForm := by
  unfold State.endSeries
  grind [State.haltOn_inForm, State.retire_inForm, State.putRec_inForm, State.setFlight_inForm, State.InForm]

theorem State.park_inForm {s : State} {f : Flight} {idx due : Nat} {late : Option Nat} (h : s.InForm) :
    (State.park s f idx due late).InForm := by
  unfold State.park
  grind [State.setFlight_inForm, State.InForm]

theorem State.afterRec_inForm {s : State} {f : Flight} {status : Nat} (h : s.InForm) :
    (State.afterRec s f status).InForm := by
  unfold State.afterRec
  grind [State.retire_inForm, State.endSeries_inForm, State.park_inForm, State.InForm]

theorem State.deliver_inForm {s : State} {f : Flight} {status detail result time : Nat} (h : s.InForm) :
    (State.deliver s f status detail result time).InForm := by
  unfold State.deliver
  grind [State.afterRec_inForm, State.putRec_inForm, State.setFlight_inForm, State.InForm]

theorem State.complete_inForm {s : State} {n : Nat} {c : Compl} (h : s.InForm) : (State.complete s n c).InForm := by
  unfold State.complete
  grind [State.bump_inForm, State.haltOn_inForm, State.setRing_inForm, State.deliver_inForm, State.InForm]

theorem State.abortFlight_inForm {s : State} {f : Flight} (h : s.InForm) : (State.abortFlight s f).InForm := by
  unfold State.abortFlight
  grind [State.setLedger_inForm, State.complete_inForm, State.setFlight_inForm, State.InForm]

theorem State.completeOpt_inForm {s : State} {n : Option Nat} {c : Compl} (h : s.InForm) :
    (State.completeOpt s n c).InForm := by
  unfold State.completeOpt
  grind [State.complete_inForm]

theorem State.wakeWaits_inForm {s : State} {kind result time : Nat} (h : s.InForm) :
    (State.wakeWaits s kind result time).InForm := by
  unfold State.wakeWaits
  grind [State.complete_inForm, foldl_inForm]

theorem State.event_inForm {s : State} {kind result time : Nat} {ovr : optParam (Option Nat) none} (h : s.InForm) :
    (State.event s kind result time ovr).1.InForm := by
  unfold State.event
  grind [State.wakeWaits_inForm, State.pushEntry_inForm, State.fpInt_inForm, State.setRing_inForm, State.InForm]

theorem State.event'_inForm {s : State} {kind result time : Nat} (h : s.InForm) :
    (State.event' s kind result time).InForm := by
  unfold State.event'
  grind [State.event_inForm]

/-! ### Servo -/

theorem State.setRefState_inForm {s : State} {i v : Nat} (h : s.InForm) : (State.setRefState s i v).InForm := by
  unfold State.setRefState
  grind [State.arbPut_inForm]

theorem State.traceSync_inForm {s : State} (h : s.InForm) : (State.traceSync s).InForm := by
  unfold State.traceSync
  grind [State.putB_inForm]

theorem State.toServo_inForm {s : State} {v : Nat} (h : s.InForm) : (State.toServo s v).InForm := by
  unfold State.toServo
  grind [State.traceSync_inForm, State.arbPut_inForm, State.setServo_inForm, State.InForm]

theorem State.slewStop_inForm {s : State} (h : s.InForm) : (State.slewStop s).InForm := by
  unfold State.slewStop
  grind [State.setServo_inForm, State.InForm]

theorem State.commit_inForm {s : State} {x : StepC} (h : s.InForm) : (State.commit s x).InForm := by
  unfold State.commit
  grind [State.setServo_inForm, State.slewStop_inForm, State.InForm]

theorem State.askStep_inForm {s : State} {x : StepC} (h : s.InForm) : (State.askStep s x).InForm := by
  unfold State.askStep
  grind [State.setServo_inForm, State.commit_inForm, State.InForm]

theorem State.nextStep_inForm {s : State} (h : s.InForm) : (State.nextStep s).InForm := by
  unfold State.nextStep
  grind [State.commit_inForm, State.setServo_inForm, State.InForm]

theorem State.slewBy_inForm {s : State} {off : Int} {rate : Nat} (h : s.InForm) :
    (State.slewBy s off rate).InForm := by
  unfold State.slewBy
  grind [State.setServo_inForm, State.InForm]

theorem State.record_inForm {s : State} {inAcc : Bool} (h : s.InForm) : (State.record s inAcc).InForm := by
  unfold State.record
  grind [State.setServo_inForm, State.arbPut_inForm, State.putB_inForm, State.InForm]

theorem State.restModel_inForm {s : State} {byGate : Bool} (h : s.InForm) : (State.restModel s byGate).InForm := by
  unfold State.restModel
  grind [State.setServo_inForm, State.InForm]

theorem State.toRest_inForm {s : State} {byGate : Bool} (h : s.InForm) : (State.toRest s byGate).InForm := by
  unfold State.toRest
  grind [State.arbPut_inForm, State.setServo_inForm, State.toServo_inForm, State.restModel_inForm, State.InForm]

theorem State.refEvent_inForm {s : State} {prev cause : Nat} {warn : Bool} (h : s.InForm) :
    (State.refEvent s prev cause warn).InForm := by
  unfold State.refEvent
  grind [State.event'_inForm]

theorem State.failSlot_inForm {s : State} {i cause : Nat} (h : s.InForm) : (State.failSlot s i cause).InForm := by
  unfold State.failSlot
  grind [State.setRefState_inForm, State.setRef_inForm, State.arbPut_inForm, State.setServo_inForm, State.InForm]

theorem State.refuseSlot_inForm {s : State} {i : Nat} {delta : Int} (h : s.InForm) :
    (State.refuseSlot s i delta).InForm := by
  unfold State.refuseSlot
  grind [State.setRef_inForm, State.arbPut_inForm, State.setRefState_inForm, State.setServo_inForm, State.InForm]

theorem State.passDelta_inForm {s : State} {i : Nat} {delta : Int} (h : s.InForm) :
    (State.passDelta s i delta).InForm := by
  unfold State.passDelta
  grind [State.setRef_inForm, State.slewBy_inForm, State.setServo_inForm, State.InForm]

theorem State.choose_inForm {s : State} {i : Nat} (h : s.InForm) : (State.choose s i).InForm := by
  unfold State.choose
  grind [State.arbPut_inForm, State.setServo_inForm, State.toServo_inForm, State.setRef_inForm,
    State.passDelta_inForm, State.InForm]

theorem State.decideN_inForm {x0 x1 x2 : Nat} {x3 : Bool} {x4 : State} (hx4 : x4.InForm) :
    (State.decideN x0 x1 x2 x3 x4).InForm := by
  induction x0 generalizing x1 x2 x3 x4 with
  | zero => unfold State.decideN; exact hx4
  | succ k ih =>
    unfold State.decideN
    grind [State.setServo_inForm, State.arbPut_inForm, State.refEvent_inForm, State.toRest_inForm, State.refuseSlot_inForm,
      State.choose_inForm]

theorem State.reselect_inForm {s : State} {must : optParam Bool false} (h : s.InForm) :
    (State.reselect s must).InForm := by
  unfold State.reselect
  grind [State.decideN_inForm, State.setServo_inForm, State.InForm]

theorem State.jump_inForm {s : State} {i : Nat} {delta : Int} (h : s.InForm) : (State.jump s i delta).InForm := by
  unfold State.jump
  grind [State.reselect_inForm, State.refuseSlot_inForm, State.passDelta_inForm]

theorem State.adoptEpoch_inForm {s : State} (h : s.InForm) : (State.adoptEpoch s).InForm := by
  unfold State.adoptEpoch
  grind [State.setServo_inForm, State.arbPut_inForm, State.InForm]

theorem State.activityFail_inForm {s : State} {i : Nat} (h : s.InForm) : (State.activityFail s i).InForm := by
  unfold State.activityFail
  grind [State.setRef_inForm, State.reselect_inForm, State.failSlot_inForm, State.InForm]

theorem State.sourceLost_inForm {s : State} {d p : Nat} {ok : Nat → Bool} (h : s.InForm) :
    (State.sourceLost s d p ok).InForm := by
  unfold State.sourceLost
  grind [State.activityFail_inForm, foldl_inForm]

/-! ### LedgerOps -/

theorem State.ledPut_inForm {s : State} {f : Fld} {v : Nat} (h : s.InForm) : (State.ledPut s f v).InForm := by
  unfold State.ledPut
  grind [State.put_inForm]

theorem State.regSync_inForm {s : State} {i : Nat} {stepped : optParam Bool false} (h : s.InForm) :
    (State.regSync s i stepped).InForm := by
  unfold State.regSync
  grind [State.ledPut_inForm, State.event'_inForm]

theorem State.freeSync_inForm {s : State} (h : s.InForm) : (State.freeSync s).InForm := by
  unfold State.freeSync
  grind [State.ledPut_inForm]

theorem State.useBy_inForm {s : State} {d : Nat} {clu : Option Nat} {n : Int} (h : s.InForm) :
    (State.useBy s d clu n).InForm := by
  unfold State.useBy
  grind [State.ledPut_inForm, State.regSync_inForm]

theorem State.charge_inForm {s : State} {d : Nat} {clu : Option Nat} {n : Int} (h : s.InForm) :
    (State.charge s d clu n).InForm := by
  unfold State.charge
  grind [State.freeSync_inForm, State.useBy_inForm, State.ledPut_inForm]

theorem State.reserveBy_inForm {s : State} {d clu : Nat} {n : Int} (h : s.InForm) :
    (State.reserveBy s d clu n).InForm := by
  unfold State.reserveBy
  grind [State.freeSync_inForm, State.useBy_inForm, State.ledPut_inForm]

theorem State.setUnitPow_inForm {s : State} {d u st : Nat} (h : s.InForm) : (State.setUnitPow s d u st).InForm := by
  unfold State.setUnitPow
  grind [State.put_inForm]

theorem State.unitRest_inForm {s : State} {d u : Nat} (h : s.InForm) : (State.unitRest s d u).InForm := by
  unfold State.unitRest
  grind [State.charge_inForm, State.setUnitPow_inForm]

theorem State.dropReqs_inForm {s : State} {n : Nat} (h : s.InForm) : (State.dropReqs s n).InForm := by
  unfold State.dropReqs
  grind [State.setLedger_inForm, State.InForm]

theorem State.grantWake_inForm {s : State} {d clu : Nat} {slice : Bool} {num : Option Nat} (h : s.InForm) :
    (State.grantWake s d clu slice num).InForm := by
  unfold State.grantWake
  grind [State.charge_inForm, State.setLedger_inForm, State.InForm]

theorem State.demandWake_inForm {s : State} {d clu prio : Nat} {slice : optParam Bool false} (h : s.InForm) :
    (State.demandWake s d clu prio slice).InForm := by
  unfold State.demandWake
  grind [State.grantWake_inForm, State.setLedger_inForm, State.bump_inForm, State.InForm]

theorem State.wakeReady_inForm {s : State} {d clu : Nat} {slice : Bool} {w : Waking} (h : s.InForm) :
    (State.wakeReady s d clu slice w).InForm := by
  unfold State.wakeReady
  grind [State.putB_inForm, State.setUnitPow_inForm, State.bump_inForm, State.setLedger_inForm, State.InForm,
    foldl_inForm]

theorem State.pipeSleep_inForm {s : State} {d clu : Nat} (h : s.InForm) : (State.pipeSleep s d clu).1.InForm := by
  unfold State.pipeSleep
  grind [State.setUnitPow_inForm, State.putB_inForm, State.charge_inForm, foldl_inForm]

theorem State.sliceSleep_inForm {s : State} {d clu : Nat} (h : s.InForm) : (State.sliceSleep s d clu).1.InForm := by
  unfold State.sliceSleep
  grind [State.putB_inForm, State.setLedger_inForm, State.charge_inForm, State.InForm]

theorem State.takeResv_inForm {s : State} {d clu : Nat} (h : s.InForm) : (State.takeResv s d clu).InForm := by
  unfold State.takeResv
  grind [State.reserveBy_inForm, State.putB_inForm, State.setLedger_inForm, State.InForm]

theorem State.dropResv_inForm {s : State} {d clu : Nat} (h : s.InForm) : (State.dropResv s d clu).InForm := by
  unfold State.dropResv
  grind [State.reserveBy_inForm, State.setLedger_inForm, State.putB_inForm, State.charge_inForm, State.InForm]

theorem State.unitOn_inForm {s : State} {d u : Nat} (h : s.InForm) : (State.unitOn s d u).InForm := by
  unfold State.unitOn
  grind [State.setUnitPow_inForm, State.charge_inForm]

/-! ### PortOps -/

theorem State.addCells_inForm {s : State} {d : Nat} {g : CellGrp} (h : s.InForm) : (State.addCells s d g).InForm := by
  unfold State.addCells
  grind [State.setDie_inForm, State.InForm]

theorem State.setCredit_inForm {s : State} {d p c : Nat} {x : Credit} (h : s.InForm) :
    (State.setCredit s d p c x).InForm := by
  unfold State.setCredit
  grind [State.setPort_inForm, State.InForm]

theorem State.putLimit_inForm {s : State} {d p c lim : Nat} (h : s.InForm) : (State.putLimit s d p c lim).InForm := by
  unfold State.putLimit
  grind [State.setCredit_inForm, State.InForm]

theorem State.creditSync_inForm {s : State} {d p c : Nat} (h : s.InForm) : (State.creditSync s d p c).InForm := by
  unfold State.creditSync
  grind [State.putLimit_inForm]

theorem State.pfcOne_inForm {s : State} {d p i q : Nat} (h : s.InForm) : (State.pfcOne s d p i q).InForm := by
  unfold State.pfcOne
  grind [State.pput_inForm, State.setPort_inForm, State.InForm]

theorem State.pfcRx_inForm {s : State} {d p enable : Nat} {quanta : List Nat} (h : s.InForm) :
    (State.pfcRx s d p enable quanta).InForm := by
  unfold State.pfcRx
  grind [State.pfcOne_inForm, State.pbump_inForm, foldl_inForm]

theorem State.emitCtl_inForm {s : State} {d p : Nat} {x : Ctl} (h : s.InForm) : (State.emitCtl s d p x).InForm := by
  unfold State.emitCtl
  grind [State.pfcRx_inForm, State.send_inForm]

theorem State.sendCtl_inForm {s : State} {d p : Nat} {x : Ctl} (h : s.InForm) : (State.sendCtl s d p x).InForm := by
  unfold State.sendCtl
  grind [State.setPort_inForm, State.emitCtl_inForm, State.InForm]

theorem State.sendRelka_inForm {s : State} {d p kind msg : Nat} (h : s.InForm) :
    (State.sendRelka s d p kind msg).InForm := by
  unfold State.sendRelka
  grind [State.sendCtl_inForm]

theorem State.sendCredit_inForm {s : State} {d p c : Nat} {init : Bool} (h : s.InForm) :
    (State.sendCredit s d p c init).InForm := by
  unfold State.sendCredit
  grind [State.sendRelka_inForm, State.setCredit_inForm, State.InForm]

theorem State.sendInits_inForm {s : State} {d p : Nat} (h : s.InForm) : (State.sendInits s d p).InForm := by
  unfold State.sendInits
  grind [State.sendCredit_inForm, State.setCredit_inForm, State.pput_inForm, State.InForm, foldl_inForm]

theorem State.voidCredits_inForm {s : State} {d p : Nat} (h : s.InForm) : (State.voidCredits s d p).InForm := by
  unfold State.voidCredits
  grind [State.setPort_inForm, State.pput_inForm, State.InForm]

theorem State.sendPfc_inForm {s : State} {d p prio quanta : Nat} (h : s.InForm) :
    (State.sendPfc s d p prio quanta).InForm := by
  unfold State.sendPfc
  grind [State.sendCtl_inForm, State.setPort_inForm, State.InForm]

theorem State.xonTest_inForm {s : State} {d p : Nat} (h : s.InForm) : (State.xonTest s d p).InForm := by
  unfold State.xonTest
  grind [State.sendPfc_inForm, State.pput_inForm, foldl_inForm]

theorem State.ingressRelease_inForm {s : State} {d : Nat} {g : CellGrp} (h : s.InForm) :
    (State.ingressRelease s d g).InForm := by
  unfold State.ingressRelease
  grind [State.setPort_inForm, State.creditSync_inForm, State.setCredit_inForm, State.xonTest_inForm, State.InForm]

theorem State.releaseRef_inForm {s : State} {d fid : Nat} (h : s.InForm) : (State.releaseRef s d fid).InForm := by
  unfold State.releaseRef
  grind [State.setDie_inForm, State.ingressRelease_inForm, State.InForm]

theorem State.dropQueued_inForm {s : State} {d p : Nat} {test : QEnt → Bool} {ctr : Nat → Fld} (h : s.InForm) :
    (State.dropQueued s d p test ctr).1.InForm := by
  unfold State.dropQueued
  grind [State.setPort_inForm, State.pbump_inForm, State.releaseRef_inForm, State.InForm, foldl_inForm]

theorem State.flushPort_inForm {s : State} {d p : Nat} (h : s.InForm) : (State.flushPort s d p).InForm := by
  unfold State.flushPort
  grind [State.dropQueued_inForm, State.setPort_inForm, State.pbump_inForm, State.releaseRef_inForm, State.InForm,
    foldl_inForm]

theorem State.endHold_inForm {s : State} {d p : Nat} (h : s.InForm) : (State.endHold s d p).InForm := by
  unfold State.endHold
  grind [State.pput_inForm, State.setPort_inForm, State.InForm]

theorem State.linkEvent_inForm {s : State} {d p val src : Nat} (h : s.InForm) :
    (State.linkEvent s d p val src).InForm := by
  unfold State.linkEvent
  grind [State.event'_inForm]

theorem State.dropMark_inForm {s : State} {d p : Nat} (h : s.InForm) : (State.dropMark s d p).InForm := h

theorem State.rlkMove_inForm {s : State} {d p st : Nat} (h : s.InForm) : (State.rlkMove s d p st).InForm := by
  unfold State.rlkMove
  grind [State.pput_inForm, State.setRelka_inForm, State.dropMark_inForm, State.sourceLost_inForm, State.InForm]

theorem State.rlkMoveR_inForm {s : State} {d p st reason : Nat} (h : s.InForm) :
    (State.rlkMoveR s d p st reason).InForm := by
  unfold State.rlkMoveR
  grind [State.pput_inForm, State.rlkMove_inForm, State.InForm]

theorem State.rlkPortDown_inForm {s : State} {d p : Nat} (h : s.InForm) : (State.rlkPortDown s d p).InForm := by
  unfold State.rlkPortDown
  grind [State.setRelka_inForm, State.rlkMove_inForm, State.dropMark_inForm, State.InForm]

theorem State.setPState_inForm {s : State} {d p st : Nat} (h : s.InForm) : (State.setPState s d p st).InForm := by
  unfold State.setPState
  grind [State.pput_inForm, State.setPort_inForm, State.send_inForm, State.InForm]

theorem State.endTx_inForm {s : State} {d p : Nat} (h : s.InForm) : (State.endTx s d p).InForm := by
  unfold State.endTx
  grind [State.advanceTo_inForm, State.updPort_inForm, State.send_inForm, State.releaseRef_inForm,
    State.emitCtl_inForm, State.InForm, foldl_inForm]

theorem State.dropPartial_inForm {s : State} {d p : Nat} (h : s.InForm) : (State.dropPartial s d p).InForm := by
  unfold State.dropPartial
  grind [State.bumpBy_inForm, State.updPort_inForm, State.InForm]

theorem State.loseTx_inForm {s : State} {d p : Nat} (h : s.InForm) : (State.loseTx s d p).InForm := by
  unfold State.loseTx
  grind [State.pbump_inForm, State.releaseRef_inForm, State.updPort_inForm, State.InForm]

theorem State.beginHold_inForm {s : State} {d p : Nat} (h : s.InForm) : (State.beginHold s d p).InForm := by
  unfold State.beginHold
  grind [State.flushPort_inForm, State.pput_inForm, State.updPort_inForm, State.InForm]

theorem State.leaveUp_inForm {s : State} {d p st : Nat} (h : s.InForm) : (State.leaveUp s d p st).InForm := by
  unfold State.leaveUp
  grind [State.setPState_inForm, State.linkEvent_inForm, State.pput_inForm, State.dropPartial_inForm,
    State.voidCredits_inForm, State.dropQueued_inForm, State.beginHold_inForm, State.loseTx_inForm,
    State.sourceLost_inForm, State.rlkPortDown_inForm]

theorem State.enterUp_inForm {s : State} {d p : Nat} (h : s.InForm) : (State.enterUp s d p).InForm := by
  unfold State.enterUp
  grind [State.linkEvent_inForm, State.setPState_inForm, State.sendInits_inForm, State.endHold_inForm, State.InForm]

theorem State.portTo_inForm {s : State} {d p st : Nat} (h : s.InForm) : (State.portTo s d p st).InForm := by
  unfold State.portTo
  grind [State.leaveUp_inForm, State.setPState_inForm]

theorem State.setCause_inForm {s : State} {d p cause : Nat} (h : s.InForm) : (State.setCause s d p cause).InForm := by
  unfold State.setCause
  grind [State.pput_inForm]

theorem State.clearValid_inForm {s : State} {d p : Nat} (h : s.InForm) : (State.clearValid s d p).InForm := by
  unfold State.clearValid
  grind [State.pput_inForm]

theorem State.prbsSync_inForm {s : State} {d u l least : Nat} (h : s.InForm) :
    (State.prbsSync s d u l least).InForm := by
  unfold State.prbsSync
  grind [State.freeNat_inForm, State.putPair_inForm, State.setDie_inForm, State.InForm]

theorem State.prbsUnlock_inForm {s : State} {d u l : Nat} {least : optParam Nat 0} (h : s.InForm) :
    (State.prbsUnlock s d u l least).InForm := by
  unfold State.prbsUnlock
  grind [State.prbsSync_inForm, State.putPair_inForm, State.put_inForm, State.setDie_inForm, State.InForm]

theorem State.prbsStop_inForm {s : State} {d u l : Nat} (h : s.InForm) : (State.prbsStop s d u l).InForm := by
  unfold State.prbsStop
  grind [State.put_inForm, State.prbsUnlock_inForm]

theorem State.stopTests_inForm {s : State} {d p : Nat} (h : s.InForm) : (State.stopTests s d p).InForm := by
  unfold State.stopTests
  grind [State.prbsStop_inForm, State.pput_inForm, foldl_inForm]

theorem State.cwSync_inForm {s : State} {d p : Nat} (h : s.InForm) : (State.cwSync s d p).InForm := by
  unfold State.cwSync
  grind [State.setPort_inForm, State.bumpBy_inForm, State.InForm]

theorem State.cwStart_inForm {s : State} {d p : Nat} (h : s.InForm) : (State.cwStart s d p).InForm := by
  unfold State.cwStart
  grind [State.setPort_inForm, State.InForm]

theorem State.cwStop_inForm {s : State} {d p : Nat} (h : s.InForm) : (State.cwStop s d p).InForm := by
  unfold State.cwStop
  grind [State.cwSync_inForm, State.setPort_inForm, State.InForm]

theorem State.lanesUnlock_inForm {s : State} {d p : Nat} (h : s.InForm) : (State.lanesUnlock s d p).InForm := by
  unfold State.lanesUnlock
  grind [State.put_inForm, State.cwStop_inForm, foldl_inForm]

theorem State.disable_inForm {s : State} {d p : Nat} (h : s.InForm) : (State.disable s d p).InForm := by
  unfold State.disable
  grind [State.portTo_inForm, State.lanesUnlock_inForm, State.clearValid_inForm, State.stopTests_inForm,
    State.setPort_inForm, State.unitRest_inForm, State.pput_inForm, State.InForm]

/-! ### Collect -/

theorem State.ccSync_inForm {s : State} (h : s.InForm) : (State.ccSync s).InForm := by
  unfold State.ccSync
  grind [State.put_inForm]

theorem State.faultNSync_inForm {s : State} (h : s.InForm) : (State.faultNSync s).InForm := by
  unfold State.faultNSync
  grind [State.putB_inForm, State.fpInt_inForm]

theorem State.latch_inForm {s : State} {base msg time : Nat} (h : s.InForm) :
    (State.latch s base msg time).InForm := by
  unfold State.latch
  grind [State.bump_inForm, State.put_inForm, State.putPair_inForm]

theorem State.logFault_inForm {s : State} {m : Sys2Proof.FaultMsg} (h : s.InForm) : (State.logFault s m).InForm := by
  unfold State.logFault
  grind [State.bump_inForm, State.putPair_inForm, State.put_inForm, State.latch_inForm, State.event'_inForm,
    State.faultNSync_inForm]

theorem State.muteOut_inForm {s : State} {k o : Nat} (h : s.InForm) : (State.muteOut s k o).InForm := by
  unfold State.muteOut
  grind [State.bump_inForm, State.put_inForm]

theorem State.muteTrig_inForm {s : State} {n : Nat} (h : s.InForm) : (State.muteTrig s n).InForm := by
  unfold State.muteTrig
  grind [State.put_inForm]

theorem State.trgSafe_inForm {s : State} {n : Nat} (h : s.InForm) : (State.trgSafe s n).InForm := by
  unfold State.trgSafe
  grind [State.muteTrig_inForm, State.InForm]

theorem State.safeMutes_inForm {s : State} {every : Bool} (h : s.InForm) : (State.safeMutes s every).InForm := by
  unfold State.safeMutes
  grind [State.muteOut_inForm, State.muteTrig_inForm, foldl_inForm]

theorem State.enterSafe_inForm {s : State} {kind : Nat} (h : s.InForm) : (State.enterSafe s kind).InForm := by
  unfold State.enterSafe
  grind [State.put_inForm, State.setFaults_inForm, State.fpInt_inForm, State.bump_inForm, State.faultNSync_inForm,
    State.ccSync_inForm, State.safeMutes_inForm, State.InForm]

theorem State.instOff_inForm {s : State} {c : Cont} (h : s.InForm) : (State.instOff s c).InForm := by
  unfold State.instOff
  grind [State.disable_inForm, State.pipeSleep_inForm, State.sliceSleep_inForm, foldl_inForm]

theorem State.flushRegion_inForm {s : State} {d r : Nat} (h : s.InForm) : (State.flushRegion s d r).InForm := by
  unfold State.flushRegion
  grind [State.dropQueued_inForm, foldl_inForm]

theorem State.dropRemote_inForm {s : State} {d : Nat} {r : Remote} (h : s.InForm) :
    (State.dropRemote s d r).InForm := by
  unfold State.dropRemote
  grind [State.pbump_inForm, State.releaseRef_inForm, foldl_inForm]

theorem State.fenceFrom_inForm {s : State} {d e : Nat} (h : s.InForm) : (State.fenceFrom s d e).InForm := by
  unfold State.fenceFrom
  grind [State.bumpBy_inForm, State.setBrg_inForm, State.updDie_inForm, State.dropRemote_inForm,
    State.releaseRef_inForm, State.InForm, foldl_inForm]

theorem State.fenceDie_inForm {s : State} {d : Nat} (h : s.InForm) : (State.fenceDie s d).InForm := by
  unfold State.fenceDie
  grind [State.fenceFrom_inForm, foldl_inForm]

theorem State.contain_inForm {s : State} {c : Cont} (h : s.InForm) : (State.contain s c).InForm := by
  unfold State.contain
  grind [State.instOff_inForm, State.flushRegion_inForm, State.fenceDie_inForm, State.pipeSleep_inForm,
    State.setFaults_inForm, State.InForm]

theorem State.restart_inForm {s : State} {c : Cont} (h : s.InForm) : (State.restart s c).InForm := by
  unfold State.restart
  have hfilter : ∀ (t : State) (p : Nat × Word → Bool), t.InForm → ({ t with regs := t.regs.filter p } : State).InForm :=
    fun t p ht => ⟨ht.1, ht.2.1, Tab.filter_wf p ht.2.2⟩
  grind [State.instOff_inForm, State.dropResv_inForm, State.setPort_inForm, State.flushPort_inForm, State.updDie_inForm,
    foldl_inForm]

theorem State.releaseKind_inForm {s : State} {kind : Nat} (h : s.InForm) : (State.releaseKind s kind).InForm := by
  unfold State.releaseKind
  grind [State.setFaults_inForm, State.restart_inForm, State.InForm, foldl_inForm]

theorem State.react_inForm {s : State} {m : Sys2Proof.FaultMsg} (h : s.InForm) : (State.react s m).InForm := by
  unfold State.react
  grind [State.enterSafe_inForm, State.contain_inForm]

theorem State.faultBase_inForm {s : State} {loc kind detail : Nat} (h : s.InForm) :
    (State.faultBase s loc kind detail).InForm := by
  unfold State.faultBase
  grind [State.react_inForm, State.logFault_inForm]

/-! ### Takeover -/

theorem State.setHs_inForm {s : State} {tb : Bool} {v : Nat} (h : s.InForm) : (State.setHs s tb v).InForm := by
  unfold State.setHs
  grind [State.arbPut_inForm]

theorem State.giveEpoch_inForm {s : State} {tb : Bool} (h : s.InForm) : (State.giveEpoch s tb).InForm := by
  unfold State.giveEpoch
  grind [State.setHst_inForm, State.InForm]

theorem State.bumpEpoch_inForm {s : State} (h : s.InForm) : (State.bumpEpoch s).InForm := by
  unfold State.bumpEpoch
  grind [State.arbPut_inForm, State.InForm]

theorem State.setDrive_inForm {s : State} {tb on : Bool} (h : s.InForm) : (State.setDrive s tb on).InForm := by
  unfold State.setDrive
  grind [State.setHst_inForm, State.InForm]

theorem State.abortDie_inForm {s : State} {die : Nat} (h : s.InForm) : (State.abortDie s die).InForm := by
  unfold State.abortDie
  grind [State.abortFlight_inForm, foldl_inForm]

theorem State.stopCals_inForm {s : State} {die : Nat} (h : s.InForm) : (State.stopCals s die).InForm := by
  unfold State.stopCals
  grind [State.put_inForm, State.InForm, foldl_inForm]

theorem State.servoHide_inForm {s : State} {st : Nat} (h : s.InForm) : (State.servoHide s st).InForm := by
  unfold State.servoHide
  grind [State.setServo_inForm, State.arbPut_inForm, State.InForm]

theorem State.commitCkpt_inForm {s : State} {w : CkptWrite} (h : s.InForm) : (State.commitCkpt s w).InForm := by
  unfold State.commitCkpt
  grind [State.setHst_inForm, State.completeOpt_inForm, State.arbPut_inForm, State.InForm]

theorem State.settleCkpts_inForm {s : State} (h : s.InForm) : (State.settleCkpts s).InForm := by
  unfold State.settleCkpts
  grind [State.commitCkpt_inForm, State.setHst_inForm, State.InForm, foldl_inForm]

theorem State.dropCkpts_inForm {s : State} (h : s.InForm) : (State.dropCkpts s).InForm := by
  unfold State.dropCkpts
  grind [State.settleCkpts_inForm, State.completeOpt_inForm, State.setHst_inForm, State.InForm, foldl_inForm]

theorem State.declareFailed_inForm {s : State} {tb : Bool} {cause : Nat} (h : s.InForm) :
    (State.declareFailed s tb cause).InForm := by
  unfold State.declareFailed
  grind [State.dropCkpts_inForm, State.arbPut_inForm, State.setHs_inForm, State.bumpEpoch_inForm,
    State.setHst_inForm, State.servoHide_inForm, State.setServo_inForm, State.faultBase_inForm,
    State.stopCals_inForm, State.abortDie_inForm, State.completeOpt_inForm, State.giveEpoch_inForm, State.InForm]

theorem State.failStandby_inForm {s : State} {tb : Bool} (h : s.InForm) : (State.failStandby s tb).InForm := by
  unfold State.failStandby
  grind [State.dropCkpts_inForm, State.faultBase_inForm, State.setHs_inForm, State.completeOpt_inForm,
    State.setHst_inForm, State.InForm]

theorem State.failRevive_inForm {s : State} {tb : Bool} {code : Nat} (h : s.InForm) :
    (State.failRevive s tb code).InForm := by
  unfold State.failRevive
  grind [State.setHst_inForm, State.setHs_inForm, State.completeOpt_inForm, State.InForm]

theorem State.hstFault_inForm {s : State} {m : Sys2Proof.FaultMsg} (h : s.InForm) : (State.hstFault s m).InForm := by
  unfold State.hstFault
  grind [State.failRevive_inForm, State.declareFailed_inForm]

theorem State.fault_inForm {s : State} {m : Sys2Proof.FaultMsg} (h : s.InForm) : (State.fault s m).InForm := by
  unfold State.fault
  grind [State.react_inForm, State.logFault_inForm, State.hstFault_inForm]

theorem State.raise_inForm {s : State} {loc kind detail : Nat} (h : s.InForm) :
    (State.raise s loc kind detail).InForm := by
  unfold State.raise
  grind [State.fault_inForm]

theorem State.checked_inForm {s : State} {kind : Nat} {here : Nat → Bool} {off detail : Nat} (h : s.InForm) :
    (State.checked s kind here off detail).1.InForm := by
  unfold State.checked
  grind [State.setFaults_inForm, State.complete_inForm, State.fault_inForm, State.InForm]

theorem State.touch_inForm {s : State} {kind : Nat} {here : Nat → Bool} {off detail : Nat} (h : s.InForm) :
    (State.touch s kind here off detail).InForm := by
  unfold State.touch
  grind [State.checked_inForm]

/-! ### Start -/

theorem Meaning_at_inForm {m : Meaning} {f : Flight} {loc : Nat} {s : State} (hm : m.KeepsForm) (h : s.InForm) :
    (Meaning.at m f loc s).1.InForm := by
  unfold Meaning.at
  grind [Meaning.KeepsForm.run, State.InForm]

theorem Cast.step_inForm {m : Meaning} {f : Flight} {x : Cast} {d : Nat} (hm : m.KeepsForm) (hx : x.st.InForm) :
    (Cast.step m f x d).st.InForm := by
  have hat := Meaning_at_inForm (f := f) (loc := onDie f.cmd.loc d) hm hx
  unfold Cast.step
  grind

theorem broadcast_inForm {m : Meaning} {f : Flight} {s : State} (hm : m.KeepsForm) (h : s.InForm) :
    (broadcast m f s).1.InForm := by
  have hcast : (List.foldl (Cast.step m f) { st := s }
      ((sDies s.part).filter fun d => !s.targetContained f.cmd (onDie f.cmd.loc d))).st.InForm :=
    foldl_keeps (P := fun x : Cast => x.st.InForm) (fun _ _ hx => Cast.step_inForm hm hx) _ h
  unfold broadcast
  grind

theorem Meaning_eff_inForm {m : Meaning} {f : Flight} {s : State} (hm : m.KeepsForm) (h : s.InForm) :
    (Meaning.eff m f s).1.InForm := by
  unfold Meaning.eff
  grind [broadcast_inForm, Meaning.KeepsForm.run]

theorem Meaning_await_inForm {m : Meaning} {f : Flight} {s : State} (h : s.InForm) :
    (Meaning.await m f s).InForm := by
  unfold Meaning.await
  grind [State.setPhase_inForm, State.setLedger_inForm, State.InForm]

theorem Meaning_finish_inForm {m : Meaning} {f : Flight} {s : State} {r : Eff} (h : s.InForm) (hr : r.1.InForm) :
    (Meaning.finish m f s r).InForm := by
  unfold Meaning.finish
  grind [Meaning_await_inForm, State.complete_inForm]

theorem Meaning_exec_inForm {m : Meaning} {f : Flight} {s : State} (hm : m.KeepsForm) (h : s.InForm) :
    (Meaning.exec m f s).InForm := by
  unfold Meaning.exec
  grind [Meaning_finish_inForm, Meaning_eff_inForm]

theorem startRow_inForm {s : State} {n : Nat} {form : Cmd → Bool} {m : Meaning} (hm : m.KeepsForm) :
    Out.KeepsForm s (startRow s n form m) := by
  unfold startRow
  grind [Meaning_exec_inForm, State.InForm, Out.keepsForm_next]

theorem State.goesOn_inForm {s : State} {n deadline : Nat} (h : s.InForm) : (State.goesOn s n deadline).1.InForm := by
  unfold State.goesOn
  grind [State.setPhase_inForm, State.InForm]

theorem State.finishPart_inForm {s : State} {n : Option Nat} {c : Compl} (h : s.InForm) :
    (State.finishPart s n c).InForm := by
  unfold State.finishPart
  grind [State.complete_inForm, State.InForm]

/-! ### Control -/

theorem mNop_keepsForm : mNop.KeepsForm := by
  intro f loc s h
  simp only [mNop]
  grind [State.InForm]

theorem execNop_keepsForm {n : Nat} {s : State} : Out.KeepsForm s (execNop n s) := by
  unfold execNop
  grind [startRow_inForm, mNop_keepsForm, Out.keepsForm_next]

theorem mFence_keepsForm : mFence.KeepsForm := by
  intro f loc s h
  simp only [mFence]
  grind [State.setRing_inForm, State.goesOn_inForm, State.InForm]

theorem execFenceUnit_keepsForm {n : Nat} {s : State} : Out.KeepsForm s (execFenceUnit n s) := by
  unfold execFenceUnit
  grind [startRow_inForm, mFence_keepsForm, Out.keepsForm_next]

theorem execFenceCluster_keepsForm {n : Nat} {s : State} : Out.KeepsForm s (execFenceCluster n s) := by
  unfold execFenceCluster
  grind [startRow_inForm, mFence_keepsForm, Out.keepsForm_next]

theorem execFenceRegion_keepsForm {n : Nat} {s : State} : Out.KeepsForm s (execFenceRegion n s) := by
  unfold execFenceRegion
  grind [startRow_inForm, mFence_keepsForm, Out.keepsForm_next]

theorem execFenceDie_keepsForm {n : Nat} {s : State} : Out.KeepsForm s (execFenceDie n s) := by
  unfold execFenceDie
  grind [startRow_inForm, mFence_keepsForm, Out.keepsForm_next]

theorem execFencePkg_keepsForm {n : Nat} {s : State} : Out.KeepsForm s (execFencePkg n s) := by
  unfold execFencePkg
  grind [startRow_inForm, mFence_keepsForm, Out.keepsForm_next]

theorem execFenceSys_keepsForm {n : Nat} {s : State} : Out.KeepsForm s (execFenceSys n s) := by
  unfold execFenceSys
  grind [startRow_inForm, mFence_keepsForm, Out.keepsForm_next]

theorem State.fenceOk_inForm {s : State} {n : Nat} {x : Fence} (h : s.InForm) : (State.fenceOk s n x).InForm := by
  unfold State.fenceOk
  grind [State.complete_inForm, State.InForm]

theorem State.sendMarks_inForm {s : State} {f : Flight} {x : Fence} (h : s.InForm) :
    (State.sendMarks s f x).InForm := by
  unfold State.sendMarks
  grind [State.sendRelka_inForm, State.InForm, foldl_inForm]

theorem execFenceSetComplete_keepsForm {n : Nat} {s : State} : Out.KeepsForm s (execFenceSetComplete n s) := by
  unfold execFenceSetComplete
  grind [State.fenceOk_inForm, State.sendMarks_inForm, Out.keepsForm_next]

theorem execFenceSysTimeout_keepsForm {n : Nat} {s : State} : Out.KeepsForm s (execFenceSysTimeout n s) := by
  unfold execFenceSysTimeout
  grind [State.advanceTo_inForm, State.complete_inForm, State.InForm, Out.keepsForm_next]

theorem mWaitTime_keepsForm : mWaitTime.KeepsForm := by
  intro f loc s h
  exact .ite_fst h (State.goesOn_inForm h)

theorem execWaitTime_keepsForm {n : Nat} {s : State} : Out.KeepsForm s (execWaitTime n s) := by
  unfold execWaitTime
  grind [startRow_inForm, mWaitTime_keepsForm, Out.keepsForm_next]

theorem execWaitTimeDue_keepsForm {n : Nat} {s : State} : Out.KeepsForm s (execWaitTimeDue n s) := by
  unfold execWaitTimeDue
  split
  · exact Out.keepsForm_next.2 id
  · exact Out.keepsForm_next.2 fun h =>
      State.complete_inForm (.ite (State.advanceToU_inForm h) (State.advance_inForm h))

theorem mWaitEvent_keepsForm : mWaitEvent.KeepsForm := by
  intro f loc s h
  simp only [mWaitEvent]
  grind [State.goesOn_inForm]

theorem execWaitEvent_keepsForm {n : Nat} {s : State} : Out.KeepsForm s (execWaitEvent n s) := by
  unfold execWaitEvent
  grind [startRow_inForm, mWaitEvent_keepsForm, Out.keepsForm_next]

theorem execWaitEventTimeout_keepsForm {n : Nat} {s : State} : Out.KeepsForm s (execWaitEventTimeout n s) := by
  unfold execWaitEventTimeout
  grind [State.complete_inForm, State.advanceTo_inForm, State.InForm, Out.keepsForm_next]

/-! ### CfgOps -/

theorem State.clkPut_inForm {s : State} {f : Fld} {v : Nat} (h : s.InForm) : (State.clkPut s f v).InForm := by
  unfold State.clkPut
  grind [State.put_inForm]

theorem State.fastStart_inForm {s : State} (h : s.InForm) : (State.fastStart s).InForm := by
  unfold State.fastStart
  grind [State.setClk_inForm, State.InForm]

theorem State.relockRun_inForm {s : State} {p : Nat} (h : s.InForm) : (State.relockRun s p).InForm := by
  unfold State.relockRun
  grind [State.setClk_inForm, State.clkPut_inForm, State.InForm]

theorem State.relock_inForm {s : State} {p : Nat} {fast : Bool} (h : s.InForm) : (State.relock s p fast).InForm := by
  unfold State.relock
  grind [State.fastStart_inForm, State.clkPut_inForm, State.relockRun_inForm, State.setClk_inForm, State.InForm]

theorem State.sysBack_inForm {s : State} (h : s.InForm) : (State.sysBack s).InForm := by
  unfold State.sysBack
  grind [State.relock_inForm, foldl_inForm]

theorem State.fastRest_inForm {s : State} (h : s.InForm) : (State.fastRest s).InForm := by
  unfold State.fastRest
  grind [State.clkPut_inForm, State.setClk_inForm, State.InForm]

theorem State.lrefSwitch_inForm {s : State} {xb : Bool} (h : s.InForm) : (State.lrefSwitch s xb).InForm := by
  unfold State.lrefSwitch
  grind [State.clkPut_inForm, State.putB_inForm, State.bump_inForm, State.setClk_inForm, State.raise_inForm,
    State.InForm]

theorem State.lrefSel_inForm {s : State} {changed : Bool} (h : s.InForm) : (State.lrefSel s changed).InForm := by
  unfold State.lrefSel
  grind [State.lrefSwitch_inForm]

theorem State.asymSync_inForm {s : State} {d p : Nat} (h : s.InForm) : (State.asymSync s d p).InForm := by
  unfold State.asymSync
  grind [State.pput_inForm, State.setRelka_inForm, State.InForm]

theorem State.rlkEnable_inForm {s : State} {d p : Nat} (h : s.InForm) : (State.rlkEnable s d p).InForm := by
  unfold State.rlkEnable
  grind [State.rlkMove_inForm, State.pput_inForm, State.setRelka_inForm, State.InForm]

theorem State.rlkDisable_inForm {s : State} {d p : Nat} (h : s.InForm) : (State.rlkDisable s d p).InForm := by
  unfold State.rlkDisable
  grind [State.rlkMoveR_inForm, State.setRelka_inForm, State.InForm]

theorem State.rlkSwitch_inForm {s : State} {d p : Nat} {en : Bool} (h : s.InForm) :
    (State.rlkSwitch s d p en).InForm := by
  unfold State.rlkSwitch
  grind [State.rlkEnable_inForm, State.rlkDisable_inForm]

theorem State.resvSync_inForm {s : State} {d : Nat} {t : State} (h : s.InForm) (e : State.resvSync s d = some t) :
    t.InForm := by
  refine foldl_keeps (P := fun o : Option State => ∀ t, o = some t → t.InForm) (fun o k ho => ?_) (List.range 4)
    (b := some s) (by rintro t ⟨⟩; exact h) t e
  grind [State.takeResv_inForm, State.dropResv_inForm]

theorem State.resvSync_getD_inForm {s : State} {d : ℕ} (h : s.InForm) : ((s.resvSync d).getD s).InForm :=
  getD_inForm (fun _ e => State.resvSync_inForm h e) h

theorem State.resvStep_inForm {f : Flight} {d : ℕ} {x : State × List (ℕ × ℕ)} {k : ℕ} (h : x.1.InForm) : (State.resvStep f d x k).1.InForm := by
  unfold State.resvStep
  grind [State.takeResv_inForm]

theorem State.resvGet_inForm {s old : State} {f : Flight} {d : ℕ} {c : Compl} (h : s.InForm) (hold : old.InForm) :
    (State.resvGet s old f d c).1.InForm := by
  have hx : ((s.resvLack d).foldl (State.resvStep f d) (s, [])).1.InForm :=
    foldl_keeps (P := fun x : State × List (Nat × Nat) => x.1.InForm) (fun x k hx => State.resvStep_inForm hx) _ h
  unfold State.resvGet
  grind [State.resvSync_getD_inForm]

/-! ### Cfg -/

theorem State.settle_inForm {s : State} {b : Blk} {off : Nat} (h : s.InForm) : (State.settle s b off).InForm := by
  unfold State.settle
  grind [State.cwSync_inForm, State.prbsSync_inForm, State.InForm]

theorem State.readReg_inForm {s : State} {loc off : Nat} (h : s.InForm) : (State.readReg s loc off).2.InForm := by
  unfold State.readReg
  grind [State.settle_inForm, State.setReg_inForm, State.InForm]

theorem State.windowSync_inForm {s : State} {d p : Nat} (h : s.InForm) : (State.windowSync s d p).InForm := by
  unfold State.windowSync
  grind [State.creditSync_inForm, foldl_inForm]

theorem State.cancelAction_inForm {s : State} {f : Flight} (h : s.InForm) : (State.cancelAction s f).InForm := by
  unfold State.cancelAction
  split
  · exact .ite (State.setFlight_inForm h) (State.abortFlight_inForm h)
  · exact State.setFlight_inForm h

theorem State.tasCancel_inForm {s : State} {die cookie ring : Nat} (h : s.InForm) :
    (State.tasCancel s die cookie ring).InForm := by
  unfold State.tasCancel
  grind [State.cancelAction_inForm, foldl_inForm]

theorem State.untraced_inForm {s : State} (h : s.InForm) : (State.untraced s).InForm := by
  unfold State.untraced
  grind [State.activityFail_inForm, foldl_inForm]

theorem State.ruleEffect_inForm {s : State} {b : Blk} {off : Nat} {old new w : Sys2Proof.Word} {f : Flight} {res :
    Nat} (h : s.InForm) : (State.ruleEffect s b off old new w f res).1.InForm := by
  unfold State.ruleEffect
  grind [State.windowSync_inForm, State.rlkSwitch_inForm, State.asymSync_inForm, State.resvGet_inForm,
    State.tasCancel_inForm, State.untraced_inForm, State.trgSafe_inForm, State.faultNSync_inForm,
    State.lrefSel_inForm, State.sysBack_inForm, State.fastStart_inForm, State.fastRest_inForm, State.relock_inForm,
    State.setClk_inForm, State.setPhase_inForm, State.InForm, foldl_inForm]

theorem mCfgRead_keepsForm : mCfgRead.KeepsForm := by
  intro f loc s h
  have hr (l : List Nat) : (l.foldl (fun (x : List Nat × State) i => (x.1 ++ [(x.2.readReg loc (f.cmd.cfgOff + 4 * i)).1],
      (x.2.readReg loc (f.cmd.cfgOff + 4 * i)).2)) ([], s)).2.InForm :=
    foldl_keeps (P := fun x : List Nat × State => x.2.InForm) (fun x i hx => State.readReg_inForm hx) _ h
  simp only [mCfgRead]
  grind [State.dmaWrite_inForm]

theorem mCfgWrite_keepsForm : mCfgWrite.KeepsForm := by
  intro f loc s h
  simp only [mCfgWrite]
  grind [State.ruleEffect_inForm, State.setReg_inForm]

theorem execCfgRead_keepsForm {n : Nat} {s : State} : Out.KeepsForm s (execCfgRead n s) := by
  unfold execCfgRead
  grind [startRow_inForm, mCfgRead_keepsForm, Out.keepsForm_next]

theorem execCfgWrite_keepsForm {n : Nat} {s : State} : Out.KeepsForm s (execCfgWrite n s) := by
  unfold execCfgWrite
  grind [startRow_inForm, mCfgWrite_keepsForm, Out.keepsForm_next]

theorem execCfgModify_keepsForm {n : Nat} {s : State} : Out.KeepsForm s (execCfgModify n s) := by
  unfold execCfgModify
  grind [startRow_inForm, mCfgWrite_keepsForm, Out.keepsForm_next]

theorem execTasCancelWrite_keepsForm {n : Nat} {s : State} : Out.KeepsForm s (execTasCancelWrite n s) := by
  unfold execTasCancelWrite
  grind [startRow_inForm, mCfgWrite_keepsForm, Out.keepsForm_next]

theorem execSysToLref_keepsForm {n : Nat} {s : State} : Out.KeepsForm s (execSysToLref n s) := by
  unfold execSysToLref
  grind [startRow_inForm, mCfgWrite_keepsForm, State.InForm, Out.keepsForm_next]

theorem execLrefSelWrite_keepsForm {n : Nat} {s : State} : Out.KeepsForm s (execLrefSelWrite n s) := by
  unfold execLrefSelWrite
  grind [startRow_inForm, mCfgWrite_keepsForm, Out.keepsForm_next]

theorem execPllRatioWrite_keepsForm {n : Nat} {s : State} : Out.KeepsForm s (execPllRatioWrite n s) := by
  unfold execPllRatioWrite
  grind [startRow_inForm, mCfgWrite_keepsForm, Out.keepsForm_next]

/-! ### Tables -/

theorem State.setTbl_inForm {s : State} {d id bank : Nat} {es : List TEnt} (h : s.InForm) :
    (State.setTbl s d id bank es).InForm := by
  unfold State.setTbl
  grind [State.setDie_inForm, State.InForm]

theorem State.enterGap_inForm {s : State} {d bucket far : Nat} (h : s.InForm) :
    (State.enterGap s d bucket far).InForm := by
  unfold State.enterGap
  grind [State.setDie_inForm, State.InForm]

theorem State.bucketGaps_inForm {s old : State} {d bucket : Nat} (h : s.InForm) :
    (State.bucketGaps s old d bucket).InForm := by
  unfold State.bucketGaps
  grind [State.enterGap_inForm, foldl_inForm]

theorem State.streamSync_inForm {s old : State} {d st : Nat} (h : s.InForm) :
    (State.streamSync s old d st).InForm := by
  unfold State.streamSync
  grind [State.setDie_inForm, State.InForm]

theorem State.liveSync_inForm {s old : State} {d id : Nat} {idxs : List Nat} (h : s.InForm) :
    (State.liveSync s old d id idxs).InForm := by
  unfold State.liveSync
  grind [State.bucketGaps_inForm, State.streamSync_inForm, foldl_inForm]

theorem mTblWrite_keepsForm : mTblWrite.KeepsForm := by
  intro f loc s h
  simp only [mTblWrite]
  grind [State.setTbl_inForm, State.updDie_inForm, State.liveSync_inForm, State.freeNat_inForm, State.InForm]

theorem mTblDelete_keepsForm : mTblDelete.KeepsForm := by
  intro f loc s h
  simp only [mTblDelete]
  grind [State.setTbl_inForm, State.updDie_inForm, State.liveSync_inForm, State.InForm]

theorem mTblRead_keepsForm : mTblRead.KeepsForm := by
  intro f loc s h
  simp only [mTblRead]
  grind [State.dmaWrite_inForm]

theorem mTblSearch_keepsForm : mTblSearch.KeepsForm := by
  intro f loc s h
  simp only [mTblSearch]
  grind [State.dmaWrite_inForm]

theorem mTblCommit_keepsForm : mTblCommit.KeepsForm := by
  intro f loc s h
  simp only [mTblCommit]
  grind [State.put_inForm, State.incr_inForm, State.liveSync_inForm, foldl_inForm]

theorem execTblWrite_keepsForm {n : Nat} {s : State} : Out.KeepsForm s (execTblWrite n s) := by
  unfold execTblWrite
  grind [startRow_inForm, mTblWrite_keepsForm, Out.keepsForm_next]

theorem execTblDelete_keepsForm {n : Nat} {s : State} : Out.KeepsForm s (execTblDelete n s) := by
  unfold execTblDelete
  grind [startRow_inForm, mTblDelete_keepsForm, Out.keepsForm_next]

theorem execTblRead_keepsForm {n : Nat} {s : State} : Out.KeepsForm s (execTblRead n s) := by
  unfold execTblRead
  grind [startRow_inForm, mTblRead_keepsForm, Out.keepsForm_next]

theorem execTblSearch_keepsForm {n : Nat} {s : State} : Out.KeepsForm s (execTblSearch n s) := by
  unfold execTblSearch
  grind [startRow_inForm, mTblSearch_keepsForm, Out.keepsForm_next]

theorem execTblCommit_keepsForm {n : Nat} {s : State} : Out.KeepsForm s (execTblCommit n s) := by
  unfold execTblCommit
  grind [startRow_inForm, mTblCommit_keepsForm, Out.keepsForm_next]

/-! ### PortInstr -/

theorem State.unitGate_inForm {s : State} {f : Flight} {d u : Nat} {act : State → State} (h : s.InForm) (hact : ∀ s
    : State, s.InForm → (act s).InForm) : (State.unitGate s f d u act).1.InForm := by
  unfold State.unitGate
  grind [State.unitOn_inForm]

theorem State.setMode_inForm {s : State} {d u mode : Nat} (h : s.InForm) : (State.setMode s d u mode).1.InForm := by
  unfold State.setMode
  grind [State.put_inForm, State.endHold_inForm, State.flushPort_inForm, State.prbsStop_inForm, State.setPort_inForm,
    State.unitRest_inForm, State.resvSync_getD_inForm, foldl_inForm]

theorem State.setRate_inForm {s : State} {d p : Nat} {fast : Bool} (h : s.InForm) :
    (State.setRate s d p fast).1.InForm := by
  unfold State.setRate
  grind [State.putB_inForm, State.windowSync_inForm]

theorem State.setSpan_inForm {s : State} {d p span : Nat} (h : s.InForm) : (State.setSpan s d p span).1.InForm := by
  unfold State.setSpan
  grind [State.setPort_inForm, State.asymSync_inForm, State.windowSync_inForm, State.InForm]

theorem State.setPtp_inForm {s : State} {d p opb : Nat} (h : s.InForm) : (State.setPtp s d p opb).InForm := by
  unfold State.setPtp
  grind [State.updPort_inForm, State.InForm]

theorem State.setRelkaCtrl_inForm {s : State} {d p v : Nat} (h : s.InForm) :
    (State.setRelkaCtrl s d p v).1.InForm := by
  unfold State.setRelkaCtrl
  grind [State.rlkSwitch_inForm, State.setReg_inForm]

theorem mPortSet_keepsForm : mPortSet.KeepsForm := by
  intro f loc s h
  simp only [mPortSet]
  grind [State.setMode_inForm, State.setRate_inForm, State.setSpan_inForm, State.setPtp_inForm,
    State.setRelkaCtrl_inForm, State.setPort_inForm, State.InForm]

theorem execPortSetMode_keepsForm {n : Nat} {s : State} : Out.KeepsForm s (execPortSetMode n s) := by
  unfold execPortSetMode
  grind [startRow_inForm, mPortSet_keepsForm, State.InForm, Out.keepsForm_next]

theorem execPortSetRate_keepsForm {n : Nat} {s : State} : Out.KeepsForm s (execPortSetRate n s) := by
  unfold execPortSetRate
  grind [startRow_inForm, mPortSet_keepsForm, Out.keepsForm_next]

theorem execPortSetSpan_keepsForm {n : Nat} {s : State} : Out.KeepsForm s (execPortSetSpan n s) := by
  unfold execPortSetSpan
  grind [startRow_inForm, mPortSet_keepsForm, Out.keepsForm_next]

theorem execPortSetPtp_keepsForm {n : Nat} {s : State} : Out.KeepsForm s (execPortSetPtp n s) := by
  unfold execPortSetPtp
  grind [startRow_inForm, mPortSet_keepsForm, Out.keepsForm_next]

theorem execPortSetRelka_keepsForm {n : Nat} {s : State} : Out.KeepsForm s (execPortSetRelka n s) := by
  unfold execPortSetRelka
  grind [startRow_inForm, mPortSet_keepsForm, Out.keepsForm_next]

theorem execPortSetIngress_keepsForm {n : Nat} {s : State} : Out.KeepsForm s (execPortSetIngress n s) := by
  unfold execPortSetIngress
  grind [startRow_inForm, mPortSet_keepsForm, Out.keepsForm_next]

theorem execPortSetDscp_keepsForm {n : Nat} {s : State} : Out.KeepsForm s (execPortSetDscp n s) := by
  unfold execPortSetDscp
  grind [startRow_inForm, mPortSet_keepsForm, Out.keepsForm_next]

theorem State.portUp_inForm {s : State} {d p : Nat} (h : s.InForm) : (State.portUp s d p).InForm := by
  unfold State.portUp
  grind [State.put_inForm, State.setPState_inForm, State.pput_inForm, foldl_inForm]

theorem mPortUp_keepsForm : mPortUp.KeepsForm := by
  intro f loc s h
  dsimp only [mPortUp]
  split
  · exact h
  · split
    · exact h
    · exact State.unitGate_inForm h fun _ => State.portUp_inForm

theorem execPortUp_keepsForm {n : Nat} {s : State} : Out.KeepsForm s (execPortUp n s) := by
  unfold execPortUp
  grind [startRow_inForm, mPortUp_keepsForm, Out.keepsForm_next]

theorem mPortDown_keepsForm : mPortDown.KeepsForm := by
  intro f loc s h
  simp only [mPortDown]
  grind [State.disable_inForm, State.setCause_inForm, State.endTx_inForm]

theorem execPortDown_keepsForm {n : Nat} {s : State} : Out.KeepsForm s (execPortDown n s) := by
  unfold execPortDown
  grind [startRow_inForm, mPortDown_keepsForm, Out.keepsForm_next]

theorem State.loopOn_inForm {s : State} {d p depth : Nat} (h : s.InForm) : (State.loopOn s d p depth).InForm := by
  unfold State.loopOn
  grind [State.pput_inForm, State.enterUp_inForm, State.setPState_inForm]

theorem mPortLoop_keepsForm : mPortLoop.KeepsForm := by
  intro f loc s h
  dsimp only [mPortLoop]
  split
  · exact h
  · split
    · grind [State.disable_inForm]
    · split
      · exact h
      · exact State.unitGate_inForm h fun _ => State.loopOn_inForm

theorem execPortLoopStart_keepsForm {n : Nat} {s : State} : Out.KeepsForm s (execPortLoopStart n s) := by
  unfold execPortLoopStart
  grind [startRow_inForm, mPortLoop_keepsForm, Out.keepsForm_next]

theorem execPortLoopEnd_keepsForm {n : Nat} {s : State} : Out.KeepsForm s (execPortLoopEnd n s) := by
  unfold execPortLoopEnd
  grind [startRow_inForm, mPortLoop_keepsForm, Out.keepsForm_next]

theorem State.prbsTx_inForm {s : State} {d u p : Nat} (h : s.InForm) : (State.prbsTx s d u p).InForm := by
  unfold State.prbsTx
  grind [State.pput_inForm, State.InForm]

theorem State.prbsStart_inForm {s : State} {d u l fn pattern rate : Nat} {inv : Bool} (h : s.InForm) :
    (State.prbsStart s d u l fn pattern rate inv).InForm := by
  unfold State.prbsStart
  grind [State.put_inForm, State.putPair_inForm, State.prbsUnlock_inForm, State.setDie_inForm, State.prbsTx_inForm,
    State.setPState_inForm, State.InForm]

theorem State.prbsEnd_inForm {s : State} {d u l : Nat} (h : s.InForm) : (State.prbsEnd s d u l).InForm := by
  unfold State.prbsEnd
  grind [State.prbsStop_inForm, State.disable_inForm, State.prbsTx_inForm, State.unitRest_inForm, State.InForm]

theorem mPortPrbs_keepsForm : mPortPrbs.KeepsForm := by
  intro f loc s h
  dsimp only [mPortPrbs]
  exact .ite_fst h (.ite_fst (State.prbsEnd_inForm h) (State.unitGate_inForm h fun _ => State.prbsStart_inForm))

theorem execPortPrbsStart_keepsForm {n : Nat} {s : State} : Out.KeepsForm s (execPortPrbsStart n s) := by
  unfold execPortPrbsStart
  grind [startRow_inForm, mPortPrbs_keepsForm, Out.keepsForm_next]

theorem execPortPrbsStop_keepsForm {n : Nat} {s : State} : Out.KeepsForm s (execPortPrbsStop n s) := by
  unfold execPortPrbsStop
  grind [startRow_inForm, mPortPrbs_keepsForm, Out.keepsForm_next]

theorem mPortInject_keepsForm : mPortInject.KeepsForm := by
  intro f loc s h
  simp only [mPortInject]
  grind [State.goesOn_inForm, State.updPort_inForm, State.InForm]

theorem execPortInject_keepsForm {n : Nat} {s : State} : Out.KeepsForm s (execPortInject n s) := by
  unfold execPortInject
  grind [startRow_inForm, mPortInject_keepsForm, Out.keepsForm_next]

theorem State.injCount_inForm {s : State} {f : Flight} {loc : Nat} (h : s.InForm) :
    (State.injCount s f loc).InForm := by
  unfold State.injCount
  grind [State.putPair_inForm, State.updPort_inForm, State.bumpBy_inForm, State.InForm]

theorem State.injEnd_inForm {s : State} {loc : Nat} (h : s.InForm) : (State.injEnd s loc).InForm := by
  unfold State.injEnd
  grind [State.setPort_inForm, State.InForm]

theorem execPortInjectDone_keepsForm {n : Nat} {s : State} : Out.KeepsForm s (execPortInjectDone n s) := by
  unfold execPortInjectDone
  grind [State.advanceTo_inForm, State.injEnd_inForm, State.injCount_inForm, State.complete_inForm, State.InForm,
    Out.keepsForm_next, foldl_inForm]

theorem execPortInjectTimeout_keepsForm {n : Nat} {s : State} : Out.KeepsForm s (execPortInjectTimeout n s) := by
  unfold execPortInjectTimeout
  grind [State.injEnd_inForm, State.advanceTo_inForm, State.complete_inForm, State.InForm, Out.keepsForm_next,
    foldl_inForm]

/-! ### QueInstr -/

theorem State.setFlow_inForm {s : State} {d p b : Nat} (h : s.InForm) : (State.setFlow s d p b).1.InForm := by
  unfold State.setFlow
  grind [State.put_inForm, State.putB_inForm, State.windowSync_inForm]

theorem mQueSet_keepsForm : mQueSet.KeepsForm := by
  intro f loc s h
  simp only [mQueSet]
  grind [State.put_inForm, State.setFlow_inForm]

theorem execQueSetScheduling_keepsForm {n : Nat} {s : State} : Out.KeepsForm s (execQueSetScheduling n s) := by
  unfold execQueSetScheduling
  grind [startRow_inForm, mQueSet_keepsForm, State.InForm, Out.keepsForm_next]

theorem execQueSetClassShaper_keepsForm {n : Nat} {s : State} : Out.KeepsForm s (execQueSetClassShaper n s) := by
  unfold execQueSetClassShaper
  grind [startRow_inForm, mQueSet_keepsForm, Out.keepsForm_next]

theorem execQueSetAdmission_keepsForm {n : Nat} {s : State} : Out.KeepsForm s (execQueSetAdmission n s) := by
  unfold execQueSetAdmission
  grind [startRow_inForm, mQueSet_keepsForm, Out.keepsForm_next]

theorem execQueSetPortShaper_keepsForm {n : Nat} {s : State} : Out.KeepsForm s (execQueSetPortShaper n s) := by
  unfold execQueSetPortShaper
  grind [startRow_inForm, mQueSet_keepsForm, Out.keepsForm_next]

theorem execQueSetPortFlow_keepsForm {n : Nat} {s : State} : Out.KeepsForm s (execQueSetPortFlow n s) := by
  unfold execQueSetPortFlow
  grind [startRow_inForm, mQueSet_keepsForm, Out.keepsForm_next]

theorem mGatelist_keepsForm : mGatelist.KeepsForm := by
  intro f loc s h
  simp only [mGatelist]
  grind [State.setPort_inForm, State.put_inForm, State.resvGet_inForm, State.resvSync_getD_inForm]

theorem execQueGatelistLoad_keepsForm {n : Nat} {s : State} : Out.KeepsForm s (execQueGatelistLoad n s) := by
  unfold execQueGatelistLoad
  grind [startRow_inForm, mGatelist_keepsForm, Out.keepsForm_next]

theorem execQueGatelistOpen_keepsForm {n : Nat} {s : State} : Out.KeepsForm s (execQueGatelistOpen n s) := by
  unfold execQueGatelistOpen
  grind [startRow_inForm, mGatelist_keepsForm, Out.keepsForm_next]

theorem mQueFlush_keepsForm : mQueFlush.KeepsForm := by
  intro f loc s h
  simp only [mQueFlush]
  grind [State.dropQueued_inForm, State.setPort_inForm, State.pbump_inForm, State.releaseRef_inForm, State.InForm,
    foldl_inForm]

theorem execQueFlush_keepsForm {n : Nat} {s : State} : Out.KeepsForm s (execQueFlush n s) := by
  unfold execQueFlush
  grind [startRow_inForm, mQueFlush_keepsForm, Out.keepsForm_next]

theorem mMirSet_keepsForm : mMirSet.KeepsForm := by
  intro f loc s h
  simp only [mMirSet]
  grind [State.setDie_inForm, State.InForm]

theorem execMirSet_keepsForm {n : Nat} {s : State} : Out.KeepsForm s (execMirSet n s) := by
  unfold execMirSet
  grind [startRow_inForm, mMirSet_keepsForm, Out.keepsForm_next]

/-! ### TimeInstr -/

theorem mTimeSet_keepsForm : mTimeSet.KeepsForm := by
  intro f loc s h
  simp only [mTimeSet]
  grind [State.goesOn_inForm, State.askStep_inForm]

theorem execTimeSet_keepsForm {n : Nat} {s : State} : Out.KeepsForm s (execTimeSet n s) := by
  unfold execTimeSet
  grind [startRow_inForm, mTimeSet_keepsForm, Out.keepsForm_next]

theorem mTimeStep_keepsForm : mTimeStep.KeepsForm := by
  intro f loc s h
  simp only [mTimeStep]
  grind [State.goesOn_inForm, State.askStep_inForm]

theorem execTimeStep_keepsForm {n : Nat} {s : State} : Out.KeepsForm s (execTimeStep n s) := by
  unfold execTimeStep
  grind [startRow_inForm, mTimeStep_keepsForm, Out.keepsForm_next]

theorem mTimeSlew_keepsForm : mTimeSlew.KeepsForm := by
  intro f loc s h
  simp only [mTimeSlew]
  grind [State.slewBy_inForm, State.goesOn_inForm, State.setServo_inForm, State.InForm]

theorem execTimeSlew_keepsForm {n : Nat} {s : State} : Out.KeepsForm s (execTimeSlew n s) := by
  unfold execTimeSlew
  grind [startRow_inForm, mTimeSlew_keepsForm, Out.keepsForm_next]

theorem mTimeAlign_keepsForm : mTimeAlign.KeepsForm := by
  intro f loc s h
  simp only [mTimeAlign]
  grind [State.goesOn_inForm, State.setServo_inForm, State.InForm]

theorem execTimeAlign_keepsForm {n : Nat} {s : State} : Out.KeepsForm s (execTimeAlign n s) := by
  unfold execTimeAlign
  grind [startRow_inForm, mTimeAlign_keepsForm, Out.keepsForm_next]

theorem State.trgIdle_inForm {s : State} {n cause : Nat} (h : s.InForm) : (State.trgIdle s n cause).InForm := by
  unfold State.trgIdle
  grind [State.put_inForm, State.setTrig_inForm, State.InForm]

theorem State.trgSkipTo_inForm {s : State} {n k : Nat} (h : s.InForm) : (State.trgSkipTo s n k).InForm := by
  unfold State.trgSkipTo
  grind [State.bumpBy_inForm, State.trgIdle_inForm, State.setTrig_inForm, State.InForm]

theorem State.trgRestart_inForm {s : State} {n k : Nat} (h : s.InForm) : (State.trgRestart s n k).InForm := by
  unfold State.trgRestart
  grind [State.trgSkipTo_inForm, State.setTrig_inForm, State.InForm]

theorem State.trgFollow_inForm {s : State} {n u : Nat} (h : s.InForm) : (State.trgFollow s n u).InForm := by
  unfold State.trgFollow
  grind [State.trgSkipTo_inForm, State.setTrig_inForm, State.trgIdle_inForm, State.InForm]

theorem State.outSkipTo_inForm {s : State} {k o u : Nat} (h : s.InForm) : (State.outSkipTo s k o u).InForm := by
  unfold State.outSkipTo
  grind [State.bumpBy_inForm, State.setOut_inForm, State.InForm]

theorem State.pulseRestart_inForm {s : State} {u : Nat} {lim : Option Nat} (h : s.InForm) :
    (State.pulseRestart s u lim).InForm := by
  unfold State.pulseRestart
  grind [State.outSkipTo_inForm, State.trgRestart_inForm, foldl_inForm]

theorem State.setPend_inForm {s : State} {p : Int} (h : s.InForm) : (State.setPend s p).InForm := by
  unfold State.setPend
  grind [State.putPair_inForm]

theorem State.arm_inForm {s : State} {n mode t0 k : Nat} {now : Bool} (h : s.InForm) :
    (State.arm s n mode t0 k now).InForm := by
  unfold State.arm
  grind [State.trgSafe_inForm, State.put_inForm, State.setTrig_inForm, State.InForm]

theorem mTimeArm_keepsForm : mTimeArm.KeepsForm := by
  intro f loc s h
  dsimp only [mTimeArm]
  refine .ite_fst h (.ite_fst (.ite h (State.trgIdle_inForm h)) (.ite_fst h (.ite_fst h ?_)))
  exact .ite_fst (State.arm_inForm h) (.ite_fst h (.ite_fst (State.arm_inForm h) (.ite_fst (State.arm_inForm h) h)))

theorem execTimeArm_keepsForm {n : Nat} {s : State} : Out.KeepsForm s (execTimeArm n s) := by
  unfold execTimeArm
  grind [startRow_inForm, mTimeArm_keepsForm, Out.keepsForm_next]

theorem execTimeArmDisarm_keepsForm {n : Nat} {s : State} : Out.KeepsForm s (execTimeArmDisarm n s) := by
  unfold execTimeArmDisarm
  grind [startRow_inForm, mTimeArm_keepsForm, Out.keepsForm_next]

theorem mTimeCapture_keepsForm : mTimeCapture.KeepsForm := by
  intro f loc s h
  simp only [mTimeCapture]
  grind [State.setCap_inForm, State.dmaWrite_inForm, State.InForm]

theorem execTimeCaptureDrain_keepsForm {n : Nat} {s : State} : Out.KeepsForm s (execTimeCaptureDrain n s) := by
  unfold execTimeCaptureDrain
  grind [startRow_inForm, mTimeCapture_keepsForm, Out.keepsForm_next]

theorem execTimeCaptureFlush_keepsForm {n : Nat} {s : State} : Out.KeepsForm s (execTimeCaptureFlush n s) := by
  unfold execTimeCaptureFlush
  grind [startRow_inForm, mTimeCapture_keepsForm, Out.keepsForm_next]

theorem mTsqDrain_keepsForm : mTsqDrain.KeepsForm := by
  intro f loc s h
  simp only [mTsqDrain]
  grind [State.dmaWrite_inForm, State.setPort_inForm, State.InForm]

theorem execTsqDrain_keepsForm {n : Nat} {s : State} : Out.KeepsForm s (execTsqDrain n s) := by
  unfold execTsqDrain
  grind [startRow_inForm, mTsqDrain_keepsForm, Out.keepsForm_next]

/-! ### LinkInstr -/

theorem mLinkAsym_keepsForm : mLinkAsym.KeepsForm := by
  intro f loc s h
  simp only [mLinkAsym]
  grind [State.pput_inForm, State.asymSync_inForm]

theorem execLinkAsymSetCfg_keepsForm {n : Nat} {s : State} : Out.KeepsForm s (execLinkAsymSetCfg n s) := by
  unfold execLinkAsymSetCfg
  grind [startRow_inForm, mLinkAsym_keepsForm, Out.keepsForm_next]

theorem execLinkAsymSetCmis_keepsForm {n : Nat} {s : State} : Out.KeepsForm s (execLinkAsymSetCmis n s) := by
  unfold execLinkAsymSetCmis
  grind [startRow_inForm, mLinkAsym_keepsForm, Out.keepsForm_next]

theorem execLinkAsymSetWavelengths_keepsForm {n : Nat} {s : State} :
    Out.KeepsForm s (execLinkAsymSetWavelengths n s) := by
  unfold execLinkAsymSetWavelengths
  grind [startRow_inForm, mLinkAsym_keepsForm, Out.keepsForm_next]

theorem execLinkAsymSetConfig_keepsForm {n : Nat} {s : State} : Out.KeepsForm s (execLinkAsymSetConfig n s) := by
  unfold execLinkAsymSetConfig
  grind [startRow_inForm, mLinkAsym_keepsForm, Out.keepsForm_next]

theorem State.setSnd_inForm {s : State} {d p : Nat} {x : Sound} (h : s.InForm) : (State.setSnd s d p x).InForm := by
  unfold State.setSnd
  grind [State.setRelka_inForm, State.InForm]

theorem State.solve_inForm {s : State} {d p : Nat} (h : s.InForm) : (State.solve s d p).1.InForm := by
  unfold State.solve
  grind [State.asymSync_inForm, State.pput_inForm, State.setSnd_inForm, State.InForm]

theorem mLinkSound_keepsForm : mLinkSound.KeepsForm := by
  intro f loc s h
  simp only [mLinkSound]
  grind [State.rlkMove_inForm, State.setSnd_inForm, State.solve_inForm, State.pput_inForm, State.asymSync_inForm,
    State.goesOn_inForm, State.InForm]

theorem execLinkSoundBegin_keepsForm {n : Nat} {s : State} : Out.KeepsForm s (execLinkSoundBegin n s) := by
  unfold execLinkSoundBegin
  grind [startRow_inForm, mLinkSound_keepsForm, State.InForm, Out.keepsForm_next]

theorem execLinkSoundMeasure_keepsForm {n : Nat} {s : State} : Out.KeepsForm s (execLinkSoundMeasure n s) := by
  unfold execLinkSoundMeasure
  grind [startRow_inForm, mLinkSound_keepsForm, Out.keepsForm_next]

theorem execLinkSoundSolve_keepsForm {n : Nat} {s : State} : Out.KeepsForm s (execLinkSoundSolve n s) := by
  unfold execLinkSoundSolve
  grind [startRow_inForm, mLinkSound_keepsForm, Out.keepsForm_next]

theorem execLinkSoundEnd_keepsForm {n : Nat} {s : State} : Out.KeepsForm s (execLinkSoundEnd n s) := by
  unfold execLinkSoundEnd
  grind [startRow_inForm, mLinkSound_keepsForm, Out.keepsForm_next]

theorem execLinkSoundAbort_keepsForm {n : Nat} {s : State} : Out.KeepsForm s (execLinkSoundAbort n s) := by
  unfold execLinkSoundAbort
  grind [startRow_inForm, mLinkSound_keepsForm, Out.keepsForm_next]

theorem execSoundMeasureTimeout_keepsForm {n : Nat} {s : State} : Out.KeepsForm s (execSoundMeasureTimeout n s) := by
  unfold execSoundMeasureTimeout
  grind [State.advanceTo_inForm, State.complete_inForm, State.InForm, Out.keepsForm_next]

/-! ### RefInstr -/

theorem State.nominate_inForm {s : State} {i : Nat} (h : s.InForm) : (State.nominate s i).InForm := by
  unfold State.nominate
  grind [State.setRefState_inForm, State.setRef_inForm, State.arbPut_inForm]

theorem mRefSet_keepsForm : mRefSet.KeepsForm := by
  intro f loc s h
  simp only [mRefSet]
  grind [State.arbPut_inForm, State.nominate_inForm, State.traceSync_inForm, State.setRefState_inForm]

theorem execRefSetNominate_keepsForm {n : Nat} {s : State} : Out.KeepsForm s (execRefSetNominate n s) := by
  unfold execRefSetNominate
  grind [startRow_inForm, mRefSet_keepsForm, Out.keepsForm_next]

theorem execRefSetWithdraw_keepsForm {n : Nat} {s : State} : Out.KeepsForm s (execRefSetWithdraw n s) := by
  unfold execRefSetWithdraw
  grind [startRow_inForm, mRefSet_keepsForm, Out.keepsForm_next]

theorem State.useSlot_inForm {s : State} {i mode : Nat} (h : s.InForm) : (State.useSlot s i mode).InForm := by
  unfold State.useSlot
  grind [State.arbPut_inForm, State.refuseSlot_inForm, State.refEvent_inForm, State.toRest_inForm,
    State.reselect_inForm, State.choose_inForm]

theorem mRefSelect_keepsForm : mRefSelect.KeepsForm := by
  intro f loc s h
  simp only [mRefSelect]
  grind [State.useSlot_inForm]

theorem execRefSelect_keepsForm {n : Nat} {s : State} : Out.KeepsForm s (execRefSelect n s) := by
  unfold execRefSelect
  grind [startRow_inForm, mRefSelect_keepsForm, Out.keepsForm_next]

theorem mRefForce_keepsForm : mRefForce.KeepsForm := by
  intro f loc s h
  simp only [mRefForce]
  grind [State.refEvent_inForm, State.toRest_inForm, State.arbPut_inForm, State.useSlot_inForm]

theorem execRefForce_keepsForm {n : Nat} {s : State} : Out.KeepsForm s (execRefForce n s) := by
  unfold execRefForce
  grind [startRow_inForm, mRefForce_keepsForm, Out.keepsForm_next]

theorem mRefRelease_keepsForm : mRefRelease.KeepsForm := by
  intro f loc s h
  simp only [mRefRelease]
  grind [State.reselect_inForm, State.arbPut_inForm]

theorem execRefRelease_keepsForm {n : Nat} {s : State} : Out.KeepsForm s (execRefRelease n s) := by
  unfold execRefRelease
  grind [startRow_inForm, mRefRelease_keepsForm, Out.keepsForm_next]

theorem mRefAcceptStep_keepsForm : mRefAcceptStep.KeepsForm := by
  intro f loc s h
  simp only [mRefAcceptStep]
  grind [State.setRefState_inForm, State.setRef_inForm, State.reselect_inForm, State.InForm]

theorem execRefAcceptStep_keepsForm {n : Nat} {s : State} : Out.KeepsForm s (execRefAcceptStep n s) := by
  unfold execRefAcceptStep
  grind [startRow_inForm, mRefAcceptStep_keepsForm, Out.keepsForm_next]

theorem execRefActivityFail_keepsForm {i : Nat} {s : State} : Out.KeepsForm s (execRefActivityFail i s) := by
  unfold execRefActivityFail
  grind [State.activityFail_inForm, Out.keepsForm_next]

theorem execTodMessage_keepsForm {bs : List (BitVec 8)} {s : State} : Out.KeepsForm s (execTodMessage bs s) := by
  unfold execTodMessage
  grind [State.traceSync_inForm, State.setServo_inForm, State.InForm, Out.keepsForm_next]

theorem execReferencePulse_keepsForm {inp : Nat} {offset : Int} {s : State} :
    Out.KeepsForm s (execReferencePulse inp offset s) := by
  unfold execReferencePulse
  grind [State.advanceTo_inForm, State.setServo_inForm, State.activityFail_inForm, State.InForm, Out.keepsForm_next,
    foldl_inForm]

theorem State.warnSlot_inForm {s : State} {i : Nat} (h : s.InForm) : (State.warnSlot s i).InForm := by
  unfold State.warnSlot
  grind [State.event'_inForm, State.bump_inForm, State.arbPut_inForm]

theorem State.gateMove_inForm {s : State} {i cause : Nat} {foff : Int} (h : s.InForm) :
    (State.gateMove s i cause foff).InForm := by
  unfold State.gateMove
  grind [State.setRefState_inForm, State.setRef_inForm, State.failSlot_inForm, State.arbPut_inForm, State.InForm]

theorem State.gateSlot_inForm {s : State} {m : Sys2Proof.GateMeas} (h : s.InForm) : (State.gateSlot s m).InForm := by
  unfold State.gateSlot
  grind [State.setRef_inForm, State.arbPut_inForm, State.warnSlot_inForm, State.gateMove_inForm, State.putB_inForm,
    State.InForm]

theorem State.wtrDown_inForm {s : State} (h : s.InForm) : (State.wtrDown s).InForm := by
  unfold State.wtrDown
  grind [State.arbPut_inForm, foldl_inForm]

theorem State.gateFresh_inForm {s : State} (h : s.InForm) : (State.gateFresh s).InForm := h

theorem State.trackSel_inForm {s : State} {before : List (Nat × Int)} (h : s.InForm) :
    (State.trackSel s before).InForm := by
  unfold State.trackSel
  grind [State.jump_inForm, State.adoptEpoch_inForm]

theorem State.xdiffSync_inForm {s : State} (h : s.InForm) : (State.xdiffSync s).InForm := by
  unfold State.xdiffSync
  grind [State.freeNat_inForm, State.clkPut_inForm]

theorem State.monitors_inForm {s : State} {meas : List Sys2Proof.GateMeas} (h : s.InForm) :
    (State.monitors s meas).InForm := by
  unfold State.monitors
  grind [State.gateFresh_inForm, State.gateSlot_inForm, State.failSlot_inForm, foldl_inForm]

theorem execRefGateEnd_keepsForm {meas : List Sys2Proof.GateMeas} {s : State} :
    Out.KeepsForm s (execRefGateEnd meas s) := by
  unfold execRefGateEnd
  grind [State.advance_inForm, State.xdiffSync_inForm, State.toSecond_inForm, State.setServo_inForm,
    State.arbPut_inForm, State.gateFresh_inForm, State.wtrDown_inForm, State.monitors_inForm, State.record_inForm,
    State.reselect_inForm, State.traceSync_inForm, State.trackSel_inForm, State.InForm, Out.keepsForm_next]

theorem execSettleWindowEnd_keepsForm {residual : Int} {s : State} :
    Out.KeepsForm s (execSettleWindowEnd residual s) := by
  unfold execSettleWindowEnd
  grind [State.arbPut_inForm, State.advanceTo_inForm, State.adoptEpoch_inForm, State.toServo_inForm,
    State.setServo_inForm, State.reselect_inForm, State.InForm, Out.keepsForm_next]

theorem execServoLock_keepsForm {s : State} : Out.KeepsForm s (execServoLock s) := by
  unfold execServoLock
  grind [State.advanceTo_inForm, State.toServo_inForm, Out.keepsForm_next]

/-! ### OutInstr -/

theorem State.calSet_inForm {s : State} {loc item source : Nat} {values : List Int} {valid : Bool} (h : s.InForm) :
    (State.calSet s loc item source values valid).InForm := by
  unfold State.calSet
  grind [State.put_inForm, State.putB_inForm, State.putPair_inForm, State.InForm]

theorem State.calLoad_inForm {s : State} {loc item : Nat} (h : s.InForm) : (State.calLoad s loc item).InForm := by
  unfold State.calLoad
  grind [State.calSet_inForm]

theorem State.calSelf_inForm {s : State} {die : Nat} (h : s.InForm) : (State.calSelf s die).InForm := by
  unfold State.calSelf
  grind [State.calSet_inForm, State.InForm]

theorem mOutSet_keepsForm : mOutSet.KeepsForm := by
  intro f loc s h
  simp only [mOutSet]
  grind [State.muteOut_inForm, State.setOut_inForm, State.goesOn_inForm, State.InForm, foldl_inForm]

theorem execOutSet_keepsForm {n : Nat} {s : State} : Out.KeepsForm s (execOutSet n s) := by
  unfold execOutSet
  grind [startRow_inForm, mOutSet_keepsForm, Out.keepsForm_next]

theorem State.synthDown_inForm {s : State} {k : Nat} {num : Option Nat} {counts : Bool} (h : s.InForm) :
    (State.synthDown s k num counts).InForm := by
  unfold State.synthDown
  grind [State.put_inForm, State.muteOut_inForm, State.setOut_inForm, State.setSynth_inForm, State.InForm,
    foldl_inForm]

theorem mOutFreq_keepsForm : mOutFreq.KeepsForm := by
  intro f loc s h
  simp only [mOutFreq]
  split
  · exact State.goesOn_inForm (State.setSynth_inForm (State.putPair_inForm h))
  · exact State.goesOn_inForm (State.synthDown_inForm (State.putPair_inForm h))

theorem execOutFreq_keepsForm {n : Nat} {s : State} : Out.KeepsForm s (execOutFreq n s) := by
  unfold execOutFreq
  grind [startRow_inForm, mOutFreq_keepsForm, Out.keepsForm_next]

theorem State.outDone_inForm {s : State} {num : Option Nat} {since : Nat} (h : s.InForm) :
    (State.outDone s num since).InForm := by
  unfold State.outDone
  grind [State.finishPart_inForm]

theorem execOutRelockDone_keepsForm {k : Nat} {s : State} : Out.KeepsForm s (execOutRelockDone k s) := by
  unfold execOutRelockDone
  grind [State.put_inForm, State.bump_inForm, State.setSynth_inForm, State.setOut_inForm, State.outDone_inForm,
    State.InForm, Out.keepsForm_next, foldl_inForm]

theorem execSynthUnlock_keepsForm {k : Nat} {s : State} : Out.KeepsForm s (execSynthUnlock k s) := by
  unfold execSynthUnlock
  grind [State.raise_inForm, State.synthDown_inForm, State.InForm, Out.keepsForm_next]

theorem execOutputRestart_keepsForm {k o : Nat} {s : State} : Out.KeepsForm s (execOutputRestart k o s) := by
  unfold execOutputRestart
  grind [State.completeOpt_inForm, State.setSynth_inForm, State.advanceToU_inForm, State.setOut_inForm,
    State.put_inForm, State.outDone_inForm, State.InForm, Out.keepsForm_next]

theorem State.advanceToTick_inForm {s : State} {n : Nat} (h : s.InForm) : (State.advanceToTick s n).InForm := by
  unfold State.advanceToTick
  grind [State.advance_inForm]

theorem execPulseEdge_keepsForm {k o : Nat} {s : State} : Out.KeepsForm s (execPulseEdge k o s) := by
  unfold execPulseEdge
  grind [State.advanceToU_inForm, State.setOut_inForm, State.send_inForm, State.InForm, Out.keepsForm_next]

theorem State.trgStep_inForm {s : State} {n : Nat} (h : s.InForm) : (State.trgStep s n).InForm := by
  unfold State.trgStep
  grind [State.trgIdle_inForm, State.setTrig_inForm, State.InForm]

theorem State.capEdge_inForm {s : State} {ch : Nat} {falling : Bool} {here stamp : Nat} (h : s.InForm) :
    (State.capEdge s ch falling here stamp).InForm := by
  unfold State.capEdge
  grind [State.put_inForm, State.bump_inForm, State.setCap_inForm, State.event_inForm, State.InForm]

theorem execCaptureEdge_keepsForm {ch : Nat} {falling : Bool} {code : Nat} {s : State} :
    Out.KeepsForm s (execCaptureEdge ch falling code s) := by
  unfold execCaptureEdge
  grind [State.capEdge_inForm, State.InForm, Out.keepsForm_next]

theorem State.loopEdge_inForm {s : State} {n : Nat} {falling : Bool} {inst : Int} {den : Nat} {at_ : Nat × Nat} (h :
    s.InForm) : (State.loopEdge s n falling inst den at_).InForm := by
  unfold State.loopEdge
  grind [State.freeNat_inForm, State.capEdge_inForm, State.InForm, foldl_inForm]

theorem execTriggerFire_keepsForm {n : Nat} {s : State} : Out.KeepsForm s (execTriggerFire n s) := by
  unfold execTriggerFire
  grind [State.advance_inForm, State.advanceToTick_inForm, State.send_inForm, State.put_inForm, State.incr_inForm,
    State.loopEdge_inForm, State.trgStep_inForm, Out.keepsForm_next]

/-! ### Spindle -/

theorem State.servoFcw_inForm {s : State} (h : s.InForm) : (State.servoFcw s).InForm := by
  unfold State.servoFcw
  grind [State.setServo_inForm, State.freeNat_inForm, State.setClk_inForm, State.InForm]

theorem State.nextSlot_inForm {s : State} (h : s.InForm) : (State.nextSlot s).InForm := by
  unfold State.nextSlot
  grind [State.advance_inForm]

theorem State.putWord_inForm {s : State} {tb : Bool} {f : SpWord → SpWord} (h : s.InForm) :
    (State.putWord s tb f).InForm := by
  unfold State.putWord
  grind [State.setHst_inForm, State.settleCkpts_inForm, State.ccSync_inForm, State.InForm]

theorem State.sendWord_inForm {s : State} {tb : Bool} (h : s.InForm) : (State.sendWord s tb).InForm := by
  unfold State.sendWord
  grind [State.putWord_inForm]

theorem State.loadSlots_inForm {s : State} {c : Option Ckpt} (h : s.InForm) : (State.loadSlots s c).InForm := by
  unfold State.loadSlots
  grind [State.setRef_inForm, State.InForm, foldl_inForm]

theorem State.loadHist_inForm {s : State} {tb : Bool} (h : s.InForm) : (State.loadHist s tb).InForm := by
  unfold State.loadHist
  grind [State.bumpBy_inForm, State.loadSlots_inForm, State.arbPut_inForm, State.setServo_inForm, State.InForm]

theorem State.readback_inForm {s : State} (h : s.InForm) : (State.readback s).InForm := by
  unfold State.readback
  grind [State.setServo_inForm, State.slewBy_inForm, State.commit_inForm, State.InForm]

theorem State.servoBack_inForm {s : State} (h : s.InForm) : (State.servoBack s).InForm := by
  unfold State.servoBack
  grind [State.setServo_inForm, State.ccSync_inForm, State.toServo_inForm, State.InForm]

theorem State.selectAfter_inForm {s : State} (h : s.InForm) : (State.selectAfter s).InForm := by
  unfold State.selectAfter
  grind [State.activityFail_inForm, State.reselect_inForm, foldl_inForm]

theorem State.firstWord_inForm {s : State} {tb : Bool} (h : s.InForm) : (State.firstWord s tb).InForm := by
  unfold State.firstWord
  grind [State.settleCkpts_inForm, State.nextSlot_inForm, State.arbPut_inForm, State.giveEpoch_inForm,
    State.bumpEpoch_inForm, State.setHs_inForm, State.setDrive_inForm, State.loadHist_inForm, State.readback_inForm,
    State.incr_inForm, State.servoBack_inForm, State.setHst_inForm, State.putWord_inForm, State.refEvent_inForm,
    State.selectAfter_inForm, State.completeOpt_inForm, State.InForm]

theorem execSpindleWord_keepsForm {s : State} : Out.KeepsForm s (execSpindleWord s) := by
  unfold execSpindleWord
  grind [State.firstWord_inForm, State.advanceTo_inForm, State.sendWord_inForm, State.servoFcw_inForm,
    State.nextSlot_inForm, State.InForm, Out.keepsForm_next]

theorem execWarmingFirstWord_keepsForm {s : State} : Out.KeepsForm s (execWarmingFirstWord s) := by
  unfold execWarmingFirstWord
  grind [State.firstWord_inForm, State.advanceTo_inForm, Out.keepsForm_next]

theorem State.slewObeyed_inForm {s : State} (h : s.InForm) : (State.slewObeyed s).InForm := by
  unfold State.slewObeyed
  grind [State.complete_inForm, State.setServo_inForm, State.InForm, foldl_inForm]

theorem State.crcReject_inForm {s : State} {t : Nat} {tb : Bool} (h : s.InForm) :
    (State.crcReject s t tb).InForm := by
  unfold State.crcReject
  grind [State.bump_inForm, State.setHst_inForm, State.declareFailed_inForm, State.InForm]

theorem execSpindleWordReceive_keepsForm {t : Nat} {tb : Bool} {flips : Nat} {s : State} :
    Out.KeepsForm s (execSpindleWordReceive t tb flips s) := by
  unfold execSpindleWordReceive
  grind [State.crcReject_inForm, State.bump_inForm, State.slewObeyed_inForm, State.setTail_inForm,
    State.touch_inForm, Out.keepsForm_next, foldl_inForm]

theorem execSpindleSilent_keepsForm {t : Nat} {s : State} : Out.KeepsForm s (execSpindleSilent t s) := by
  unfold execSpindleSilent
  grind [State.advanceTo_inForm, State.raise_inForm, State.InForm, Out.keepsForm_next]

theorem execStepCommit_keepsForm {s : State} : Out.KeepsForm s (execStepCommit s) := by
  unfold execStepCommit
  grind [State.advanceTo_inForm, State.setServo_inForm, State.commit_inForm, State.InForm, Out.keepsForm_next]

theorem State.abortParked_inForm {s : State} (h : s.InForm) : (State.abortParked s).InForm := by
  unfold State.abortParked
  grind [State.abortFlight_inForm, foldl_inForm]

theorem State.lateParked_inForm {s : State} {size : Int} (h : s.InForm) : (State.lateParked s size).InForm := by
  unfold State.lateParked
  grind [State.InForm]

theorem State.setGates_inForm {s : State} {d p : Nat} (h : s.InForm) : (State.setGates s d p).InForm := by
  unfold State.setGates
  grind [State.pput_inForm, State.setPort_inForm, State.InForm]

theorem State.gatesSync_inForm {s : State} (h : s.InForm) : (State.gatesSync s).InForm := by
  unfold State.gatesSync
  grind [State.setGates_inForm, foldl_inForm]

theorem State.stepTrigs_inForm {s : State} {size : Int} (h : s.InForm) : (State.stepTrigs s size).InForm := by
  unfold State.stepTrigs
  grind [State.trgIdle_inForm, State.trgFollow_inForm, foldl_inForm]

theorem State.pendStep_inForm {s : State} {size : Int} (h : s.InForm) : (State.pendStep s size).InForm := by
  unfold State.pendStep
  grind [State.pulseRestart_inForm, State.setPend_inForm]

theorem State.shiftOffs_inForm {s : State} {size : Int} (h : s.InForm) : (State.shiftOffs s size).InForm := by
  unfold State.shiftOffs
  grind [State.InForm]

theorem State.applyTails_inForm {s : State} (h : s.InForm) : (State.applyTails s).InForm := by
  unfold State.applyTails
  grind [State.setServo_inForm, State.InForm]

theorem State.stepsDone_inForm {s : State} (h : s.InForm) : (State.stepsDone s).InForm := by
  unfold State.stepsDone
  grind [State.complete_inForm, State.setServo_inForm, State.InForm, foldl_inForm]

theorem State.packageStep_inForm {s : State} {x : StepC} (h : s.InForm) : (State.packageStep s x).InForm := by
  unfold State.packageStep
  grind [State.abortParked_inForm, State.applyTails_inForm, State.arbPut_inForm, State.setServo_inForm,
    State.putPair_inForm, State.shiftOffs_inForm, State.lateParked_inForm, State.pendStep_inForm,
    State.gatesSync_inForm, State.stepTrigs_inForm, State.adoptEpoch_inForm, State.nextStep_inForm,
    State.stepsDone_inForm, State.event'_inForm, State.InForm]

theorem State.stepNow_inForm {s : State} (h : s.InForm) : (State.stepNow s).InForm := by
  unfold State.stepNow
  grind [State.packageStep_inForm, State.stepsDone_inForm, State.applyTails_inForm, State.InForm]

theorem execStepApply_keepsForm {s : State} : Out.KeepsForm s (execStepApply s) := by
  unfold execStepApply
  grind [State.stepNow_inForm, State.advance_inForm, Out.keepsForm_next]

theorem execTimeAlignApply_keepsForm {n : Nat} {s : State} : Out.KeepsForm s (execTimeAlignApply n s) := by
  have htime : ∀ k, s.InForm → (if s.stepDue = some k then (s.advance k).stepNow else s.advance k).InForm := fun _ h =>
    .ite (State.stepNow_inForm (State.advance_inForm h)) (State.advance_inForm h)
  unfold execTimeAlignApply
  split
  · dsimp only
    refine Out.keepsForm_next.2 fun h => State.complete_inForm (State.setPend_inForm ?_)
    exact .ite (State.setServo_inForm (htime _ h)) (State.pulseRestart_inForm (State.setServo_inForm (htime _ h)))
  · exact Out.keepsForm_next.2 id

theorem execSlewDone_keepsForm {s : State} : Out.KeepsForm s (execSlewDone s) := by
  unfold execSlewDone
  grind [State.advanceTo_inForm, State.adoptEpoch_inForm, State.slewStop_inForm, Out.keepsForm_next]

theorem execHeartbeat_keepsForm {tb selfOk : Bool} {s : State} : Out.KeepsForm s (execHeartbeat tb selfOk s) := by
  unfold execHeartbeat
  grind [State.settleCkpts_inForm, State.advanceTo_inForm, State.setHst_inForm, State.touch_inForm,
    State.declareFailed_inForm, State.InForm, Out.keepsForm_next]

theorem execHeartbeatTimeout_keepsForm {tb : Bool} {s : State} : Out.KeepsForm s (execHeartbeatTimeout tb s) := by
  unfold execHeartbeatTimeout
  grind [State.advanceTo_inForm, State.bumpBy_inForm, State.declareFailed_inForm, State.failStandby_inForm,
    State.InForm, Out.keepsForm_next]

theorem State.writeCkpt_inForm {s : State} {num : Option Nat} (h : s.InForm) : (State.writeCkpt s num).InForm := by
  unfold State.writeCkpt
  grind [State.freeNat_inForm, State.setHst_inForm, State.touch_inForm, State.InForm]

theorem execCheckpointWrite_keepsForm {s : State} : Out.KeepsForm s (execCheckpointWrite s) := by
  unfold execCheckpointWrite
  grind [State.advance_inForm, State.settleCkpts_inForm, State.advanceToU_inForm, State.writeCkpt_inForm,
    State.setHst_inForm, State.InForm, Out.keepsForm_next]

theorem execCkptStale_keepsForm {s : State} : Out.KeepsForm s (execCkptStale s) := by
  unfold execCkptStale
  grind [State.settleCkpts_inForm, State.advanceTo_inForm, State.raise_inForm, State.arbPut_inForm,
    Out.keepsForm_next]

theorem execHstLinkFail_keepsForm {s : State} : Out.KeepsForm s (execHstLinkFail s) := by
  unfold execHstLinkFail
  grind [State.arbPut_inForm, State.dropCkpts_inForm, State.raise_inForm, Out.keepsForm_next]

theorem execHstLinkUp_keepsForm {s : State} : Out.KeepsForm s (execHstLinkUp s) := by
  unfold execHstLinkUp
  grind [State.arbPut_inForm, Out.keepsForm_next]

theorem execStandbyFail_keepsForm {s : State} : Out.KeepsForm s (execStandbyFail s) := by
  unfold execStandbyFail
  grind [State.failStandby_inForm, Out.keepsForm_next]

theorem mHstCheckpoint_keepsForm : mHstCheckpoint.KeepsForm := by
  intro f loc s h
  simp only [mHstCheckpoint]
  grind [State.settleCkpts_inForm, State.goesOn_inForm, State.writeCkpt_inForm, State.InForm]

theorem execHstCheckpoint_keepsForm {n : Nat} {s : State} : Out.KeepsForm s (execHstCheckpoint n s) := by
  unfold execHstCheckpoint
  grind [startRow_inForm, mHstCheckpoint_keepsForm, Out.keepsForm_next]

theorem mHstSwap_keepsForm : mHstSwap.KeepsForm := by
  intro f loc s h
  simp only [mHstSwap]
  grind [State.settleCkpts_inForm, State.writeCkpt_inForm, State.setHst_inForm, State.goesOn_inForm,
    State.setHs_inForm, State.InForm]

theorem execHstSwap_keepsForm {n : Nat} {s : State} : Out.KeepsForm s (execHstSwap n s) := by
  unfold execHstSwap
  grind [startRow_inForm, mHstSwap_keepsForm, Out.keepsForm_next]

theorem execDualActiveEnd_keepsForm {s : State} : Out.KeepsForm s (execDualActiveEnd s) := by
  unfold execDualActiveEnd
  grind [State.setDrive_inForm, State.setHst_inForm, State.arbPut_inForm, State.completeOpt_inForm, State.InForm,
    Out.keepsForm_next]

theorem State.failWarming_inForm {s : State} {tb : Bool} {code : Nat} (h : s.InForm) :
    (State.failWarming s tb code).InForm := by
  unfold State.failWarming
  grind [State.setHs_inForm, State.completeOpt_inForm, State.raise_inForm, State.setHst_inForm, State.InForm]

theorem execWarmingTimeout_keepsForm {s : State} : Out.KeepsForm s (execWarmingTimeout s) := by
  unfold execWarmingTimeout
  grind [State.failWarming_inForm, State.advanceTo_inForm, Out.keepsForm_next]

theorem execWarmingSelfCheckFail_keepsForm {code : Nat} {s : State} :
    Out.KeepsForm s (execWarmingSelfCheckFail code s) := by
  unfold execWarmingSelfCheckFail
  grind [State.failWarming_inForm, State.advanceTo_inForm, Out.keepsForm_next]

theorem mHstRevive_keepsForm : mHstRevive.KeepsForm := by
  intro f loc s h
  simp only [mHstRevive]
  grind [State.setHst_inForm, State.setHs_inForm, State.goesOn_inForm, State.InForm]

theorem execHstRevive_keepsForm {n : Nat} {s : State} : Out.KeepsForm s (execHstRevive n s) := by
  unfold execHstRevive
  grind [startRow_inForm, mHstRevive_keepsForm, Out.keepsForm_next]

theorem execHstSelftestDone_keepsForm {tb : Bool} {code : Nat} {s : State} :
    Out.KeepsForm s (execHstSelftestDone tb code s) := by
  unfold execHstSelftestDone
  grind [State.setHst_inForm, State.calSelf_inForm, State.completeOpt_inForm, State.raise_inForm,
    State.setHs_inForm, State.arbPut_inForm, State.setDrive_inForm, State.giveEpoch_inForm, State.bumpEpoch_inForm,
    State.InForm, Out.keepsForm_next]

/-! ### Power -/

theorem State.reduceWindow_inForm {s : State} {d p : Nat} (h : s.InForm) : (State.reduceWindow s d p).InForm := by
  unfold State.reduceWindow
  grind [State.updPort_inForm, State.sendCredit_inForm, State.setCredit_inForm, State.InForm, foldl_inForm]

theorem State.restoreWindows_inForm {s : State} {d clu : Nat} (h : s.InForm) :
    (State.restoreWindows s d clu).InForm := by
  unfold State.restoreWindows
  grind [State.updPort_inForm, State.creditSync_inForm, State.InForm, foldl_inForm]

theorem State.dropAttempt_inForm {s : State} {d clu : Nat} {slice : Bool} (h : s.InForm) :
    (State.dropAttempt s d clu slice).InForm := by
  unfold State.dropAttempt
  grind [State.setLedger_inForm, State.InForm]

theorem State.failSleep_inForm {s : State} {n : Option Nat} {c : Compl} (h : s.InForm) :
    (State.failSleep s n c).InForm := by
  unfold State.failSleep
  grind [State.complete_inForm, State.setLedger_inForm, State.InForm]

theorem State.endAttempt_inForm {s : State} {d clu : Nat} {slice : Bool} {c : Compl} (h : s.InForm) :
    (State.endAttempt s d clu slice c).InForm := by
  unfold State.endAttempt
  grind [State.dropAttempt_inForm, State.setLedger_inForm, State.restoreWindows_inForm, State.failSleep_inForm,
    State.InForm]

theorem State.cancelSleep_inForm {s : State} {d clu : Nat} (h : s.InForm) : (State.cancelSleep s d clu).InForm := by
  unfold State.cancelSleep
  grind [State.endAttempt_inForm]

theorem State.withdrawWakes_inForm {s : State} {d clu : Nat} (h : s.InForm) :
    (State.withdrawWakes s d clu).InForm := by
  unfold State.withdrawWakes
  grind [State.setLedger_inForm, State.InForm]

theorem State.startSleep_inForm {s : State} {d clu : Nat} {num : Option Nat} (h : s.InForm) :
    (State.startSleep s d clu num).InForm := by
  unfold State.startSleep
  grind [State.reduceWindow_inForm, State.setLedger_inForm, State.InForm, foldl_inForm]

theorem State.sliceRest_inForm {s : State} {d clu : Nat} (h : s.InForm) : (State.sliceRest s d clu).InForm := by
  unfold State.sliceRest
  grind [State.sliceSleep_inForm, State.finishPart_inForm, State.dropAttempt_inForm, State.InForm]

theorem State.giveWake_inForm {s : State} {d clu : Nat} {slice : Bool} {num : Option Nat} (h : s.InForm) :
    (State.giveWake s d clu slice num).InForm := by
  unfold State.giveWake
  grind [State.setLedger_inForm, State.grantWake_inForm, State.InForm]

theorem State.applyPin_inForm {s : State} {f : Flight} {d clu : Nat} {slice : Bool} (h : s.InForm) :
    (State.applyPin s f d clu slice).InForm := by
  unfold State.applyPin
  grind [State.put_inForm]

theorem mPowWake_keepsForm : mPowWake.KeepsForm := by
  intro f loc s h
  simp only [mPowWake]
  grind [State.applyPin_inForm, State.cancelSleep_inForm, State.goesOn_inForm, State.giveWake_inForm]

theorem execPowWake_keepsForm {n : Nat} {s : State} : Out.KeepsForm s (execPowWake n s) := by
  unfold execPowWake
  grind [startRow_inForm, mPowWake_keepsForm, Out.keepsForm_next]

theorem drawMeaning_keepsForm {op : Nat} : (drawMeaning op).KeepsForm := by
  unfold drawMeaning
  split
  · exact mPowWake_keepsForm
  · exact mPortUp_keepsForm
  · exact mPortLoop_keepsForm
  · exact mPortPrbs_keepsForm
  · exact mGatelist_keepsForm
  · exact mCfgWrite_keepsForm

theorem State.grantDemand_inForm {s : State} {r : WakeReq} (h : s.InForm) : (State.grantDemand s r).InForm := by
  unfold State.grantDemand
  grind [State.setLedger_inForm, State.ledPut_inForm, State.grantWake_inForm, State.InForm]

theorem State.grantInstr_inForm {s : State} {n : Nat} {t : State} (h : s.InForm) (e : State.grantInstr s n = some t)
    : t.InForm := by
  unfold State.grantInstr at e
  grind [State.dropReqs_inForm, Meaning_eff_inForm, drawMeaning_keepsForm, State.complete_inForm]

theorem State.grantOf_inForm {s : State} {r : WakeReq} {t : State} (h : s.InForm) (e : State.grantOf s r = some t) :
    t.InForm := by
  unfold State.grantOf at e
  grind [State.grantDemand_inForm, State.grantInstr_inForm]

theorem State.nextGrant_inForm {s t : State} (h : s.InForm) (e : State.nextGrant s = some t) : t.InForm := by
  obtain ⟨r, -, hr⟩ := List.exists_of_findSome?_eq_some e
  exact State.grantOf_inForm h hr

theorem State.nextGrant_getD_inForm {s : State} (h : s.InForm) : (s.nextGrant.getD s).InForm :=
  getD_inForm (fun _ e => State.nextGrant_inForm h e) h

theorem execWakeGrant_keepsForm {s : State} : Out.KeepsForm s (execWakeGrant s) := by
  exact Out.keepsForm_next.2 State.nextGrant_getD_inForm

theorem State.retest_inForm {s : State} (h : s.InForm) : (State.retest s).InForm := by
  exact foldl_inForm (fun _ _ h => State.nextGrant_getD_inForm h) _ h

theorem execPipelineWakeReady_keepsForm {d clu : Nat} {s : State} : Out.KeepsForm s (execPipelineWakeReady d clu s) := by
  unfold execPipelineWakeReady
  grind [State.wakeReady_inForm, State.advanceTo_inForm, State.restoreWindows_inForm, State.finishPart_inForm,
    Out.keepsForm_next]

theorem mPowSleep_keepsForm : mPowSleep.KeepsForm := by
  intro f loc s h
  simp only [mPowSleep]
  grind [State.goesOn_inForm, State.setLedger_inForm, State.put_inForm, State.startSleep_inForm, State.InForm]

theorem execPowSleep_keepsForm {n : Nat} {s : State} : Out.KeepsForm s (execPowSleep n s) := by
  unfold execPowSleep
  grind [startRow_inForm, mPowSleep_keepsForm, Out.keepsForm_next]

theorem execPowSleepTimeout_keepsForm {n : Nat} {s : State} : Out.KeepsForm s (execPowSleepTimeout n s) := by
  unfold execPowSleepTimeout
  grind [State.advanceTo_inForm, State.dropAttempt_inForm, State.restoreWindows_inForm, State.complete_inForm,
    Out.keepsForm_next, foldl_inForm]

theorem execGateIdle_keepsForm {loc : Nat} {s : State} : Out.KeepsForm s (execGateIdle loc s) := by
  unfold execGateIdle
  grind [State.retest_inForm, State.sliceRest_inForm, State.endAttempt_inForm, State.pipeSleep_inForm,
    State.finishPart_inForm, State.dropAttempt_inForm, Out.keepsForm_next]

theorem execGateTimeout_keepsForm {loc : Nat} {s : State} : Out.KeepsForm s (execGateTimeout loc s) := by
  unfold execGateTimeout
  grind [State.endAttempt_inForm, State.raise_inForm, State.InForm, Out.keepsForm_next]

theorem execAutoSleep_keepsForm {d clu : Nat} {s : State} : Out.KeepsForm s (execAutoSleep d clu s) := by
  unfold execAutoSleep
  grind [State.advanceTo_inForm, State.startSleep_inForm, Out.keepsForm_next]

theorem execGatePrewake_keepsForm {d p : Nat} {s : State} : Out.KeepsForm s (execGatePrewake d p s) := by
  unfold execGatePrewake
  grind [State.advanceToU_inForm, State.cancelSleep_inForm, State.grantWake_inForm, Out.keepsForm_next]

theorem execGatelistStart_keepsForm {d p : Nat} {s : State} : Out.KeepsForm s (execGatelistStart d p s) := by
  unfold execGatelistStart
  grind [State.advanceToU_inForm, State.setPort_inForm, State.setGates_inForm, State.resvSync_getD_inForm, Out.keepsForm_next]

theorem execGateChange_keepsForm {d p : Nat} {s : State} : Out.KeepsForm s (execGateChange d p s) := by
  unfold execGateChange
  grind [State.setGates_inForm, State.advanceToU_inForm, Out.keepsForm_next]

theorem mPowBudget_keepsForm : mPowBudget.KeepsForm := by
  intro f loc s h
  simp only [mPowBudget]
  grind [State.ledPut_inForm, State.freeSync_inForm, State.regSync_inForm, State.retest_inForm]

theorem execPowBudget_keepsForm {n : Nat} {s : State} : Out.KeepsForm s (execPowBudget n s) := by
  unfold execPowBudget
  grind [startRow_inForm, mPowBudget_keepsForm, Out.keepsForm_next]

theorem State.sample_inForm {s : State} {i : Nat} {rs : List Int} (h : s.InForm) : (State.sample s i rs).InForm := by
  have hraise : ∀ (t : State) loc (l : List Nat), t.InForm → (l.foldl (fun s k => s.raise loc 0x11 k) t).InForm :=
    fun t loc l ht => foldl_inForm (fun _ _ h => State.raise_inForm h) l ht
  unfold State.sample
  dsimp only
  generalize List.foldl _ (none : Option Int) _ = hot
  have hregs : ∀ a b c e st g, ((((((s.ledPut (R.POW_REG_TEMP_SENSOR0 i) a).ledPut (R.POW_REG_TEMP_SENSOR1 i) b).ledPut
      (R.POW_REG_TEMP_SENSOR2 i) c).ledPut (R.POW_REG_TEMP_SENSOR3 i) e).ledPut (R.POW_REG_STEP i) st).regSync i g).InForm :=
    fun a b c e st g => State.regSync_inForm (State.ledPut_inForm (State.ledPut_inForm (State.ledPut_inForm
      (State.ledPut_inForm (State.ledPut_inForm h)))))
  cases hot with
  | none => exact hraise _ _ _ (hregs ..)
  | some t => exact .ite (State.raise_inForm (hraise _ _ _ (hregs ..))) (hraise _ _ _ (hregs ..))

theorem execThermalSample_keepsForm {readings : List Int} {s : State} :
    Out.KeepsForm s (execThermalSample readings s) := by
  unfold execThermalSample
  grind [State.sample_inForm, State.retest_inForm, Out.keepsForm_next, foldl_inForm]

/-! ### Flt -/

theorem mFltInject_keepsForm : mFltInject.KeepsForm := by
  intro f loc s h
  simp only [mFltInject]
  grind [State.fault_inForm, State.goesOn_inForm, State.setFaults_inForm, State.InForm]

theorem execFltInject_keepsForm {n : Nat} {s : State} : Out.KeepsForm s (execFltInject n s) := by
  unfold execFltInject
  grind [startRow_inForm, mFltInject_keepsForm, Out.keepsForm_next]

theorem execFltInjectTimeout_keepsForm {n : Nat} {s : State} : Out.KeepsForm s (execFltInjectTimeout n s) := by
  unfold execFltInjectTimeout
  grind [State.advanceTo_inForm, State.setFaults_inForm, State.complete_inForm, State.InForm, Out.keepsForm_next]

theorem State.clearPend_inForm {s : State} {k : Nat} (h : s.InForm) : (State.clearPend s k).InForm := by
  unfold State.clearPend
  grind [State.put_inForm]

theorem State.leaveSafe_inForm {s : State} (h : s.InForm) : (State.leaveSafe s).InForm := by
  unfold State.leaveSafe
  grind [State.fpInt_inForm, State.put_inForm, State.setOut_inForm, State.trgIdle_inForm, State.faultNSync_inForm,
    State.ccSync_inForm, State.InForm, foldl_inForm]

theorem mFltClear_keepsForm : mFltClear.KeepsForm := by
  intro f loc s h
  simp only [mFltClear]
  grind [State.faultNSync_inForm, State.releaseKind_inForm, State.clearPend_inForm, State.put_inForm,
    State.leaveSafe_inForm, foldl_inForm]

theorem execFltClearKind_keepsForm {n : Nat} {s : State} : Out.KeepsForm s (execFltClearKind n s) := by
  unfold execFltClearKind
  grind [startRow_inForm, mFltClear_keepsForm, Out.keepsForm_next]

theorem execFltClearAll_keepsForm {n : Nat} {s : State} : Out.KeepsForm s (execFltClearAll n s) := by
  unfold execFltClearAll
  grind [startRow_inForm, mFltClear_keepsForm, Out.keepsForm_next]

theorem execFltClearLatches_keepsForm {n : Nat} {s : State} : Out.KeepsForm s (execFltClearLatches n s) := by
  unfold execFltClearLatches
  grind [startRow_inForm, mFltClear_keepsForm, Out.keepsForm_next]

theorem execFltClearSafe_keepsForm {n : Nat} {s : State} : Out.KeepsForm s (execFltClearSafe n s) := by
  unfold execFltClearSafe
  grind [startRow_inForm, mFltClear_keepsForm, Out.keepsForm_next]

theorem mFltReact_keepsForm : mFltReact.KeepsForm := by
  intro f loc s h
  simp only [mFltReact]
  grind [State.put_inForm]

theorem execFltReact_keepsForm {n : Nat} {s : State} : Out.KeepsForm s (execFltReact n s) := by
  unfold execFltReact
  grind [startRow_inForm, mFltReact_keepsForm, Out.keepsForm_next]

theorem State.parity_inForm {s : State} {m : Sys2Proof.FaultMsg} (h : s.InForm) : (State.parity s m).InForm := by
  unfold State.parity
  grind [State.put_inForm, foldl_inForm]

theorem execFaultMessage_keepsForm {msgs : List Sys2Proof.FaultMsg} {s : State} :
    Out.KeepsForm s (execFaultMessage msgs s) := by
  unfold execFaultMessage
  grind [State.fault_inForm, State.parity_inForm, State.touch_inForm, Out.keepsForm_next, foldl_inForm]

/-! ### Cal -/

theorem State.calPut_inForm {s : State} {home item source : Nat} {values : List Int} (h : s.InForm) :
    (State.calPut s home item source values).InForm := by
  unfold State.calPut
  grind [State.putPair_inForm, State.calSet_inForm]

theorem mCalRun_keepsForm : mCalRun.KeepsForm := by
  intro f loc s h
  simp only [mCalRun]
  grind [State.put_inForm, State.calPut_inForm, State.servoHide_inForm, State.setServo_inForm,
    State.synthDown_inForm, State.goesOn_inForm, State.InForm]

theorem execCalRun_keepsForm {n : Nat} {s : State} : Out.KeepsForm s (execCalRun n s) := by
  unfold execCalRun
  grind [startRow_inForm, mCalRun_keepsForm, Out.keepsForm_next]

theorem State.rephase_inForm {s : State} {loc : Nat} {delta : Int} (h : s.InForm) :
    (State.rephase s loc delta).InForm := by
  unfold State.rephase
  grind [State.bump_inForm, State.put_inForm, State.setPort_inForm, State.InForm]

theorem State.abandonLock_inForm {s : State} {d p : Nat} (h : s.InForm) : (State.abandonLock s d p).InForm := by
  unfold State.abandonLock
  grind [State.portTo_inForm, State.lanesUnlock_inForm, State.clearValid_inForm, State.setCause_inForm,
    State.InForm]

theorem State.holdEnd_inForm {s : State} (h : s.InForm) : (State.holdEnd s).InForm := by
  unfold State.holdEnd
  grind [State.advance_inForm, State.selectAfter_inForm, State.servoBack_inForm]

theorem execCalRunDone_keepsForm {n : Nat} {e : Sys2Proof.CalEnd} {s : State} :
    Out.KeepsForm s (execCalRunDone n e s) := by
  unfold execCalRunDone
  grind [State.advanceTo_inForm, State.put_inForm, State.abandonLock_inForm, State.holdEnd_inForm,
    State.finishPart_inForm, State.calPut_inForm, State.rephase_inForm, State.InForm, Out.keepsForm_next]

theorem mCalRead_keepsForm : mCalRead.KeepsForm := by
  intro f loc s h
  simp only [mCalRead]
  grind [State.dmaWrite_inForm]

theorem execCalRead_keepsForm {n : Nat} {s : State} : Out.KeepsForm s (execCalRead n s) := by
  unfold execCalRead
  grind [startRow_inForm, mCalRead_keepsForm, Out.keepsForm_next]

theorem mCalWrite_keepsForm : mCalWrite.KeepsForm := by
  intro f loc s h
  simp only [mCalWrite]
  grind [State.calPut_inForm]

theorem execCalWrite_keepsForm {n : Nat} {s : State} : Out.KeepsForm s (execCalWrite n s) := by
  unfold execCalWrite
  grind [startRow_inForm, mCalWrite_keepsForm, Out.keepsForm_next]

theorem State.calRestore_inForm {s : State} {home item : Nat} (h : s.InForm) :
    (State.calRestore s home item).InForm := by
  unfold State.calRestore
  grind [State.calLoad_inForm, State.putPair_inForm]

theorem mCalFactory_keepsForm : mCalFactory.KeepsForm := by
  intro f loc s h
  simp only [mCalFactory]
  grind [State.calRestore_inForm, State.InForm, foldl_inForm]

theorem execCalFactory_keepsForm {n : Nat} {s : State} : Out.KeepsForm s (execCalFactory n s) := by
  unfold execCalFactory
  grind [startRow_inForm, mCalFactory_keepsForm, State.InForm, Out.keepsForm_next]

theorem execCalFactoryAll_keepsForm {n : Nat} {s : State} : Out.KeepsForm s (execCalFactoryAll n s) := by
  unfold execCalFactoryAll
  grind [startRow_inForm, mCalFactory_keepsForm, Out.keepsForm_next]

theorem mDiagTally_keepsForm : mDiagTally.KeepsForm := by
  intro f loc s h
  simp only [mDiagTally]
  grind [State.dmaWrite_inForm]

theorem execDiagTally_keepsForm {n : Nat} {s : State} : Out.KeepsForm s (execDiagTally n s) := by
  unfold execDiagTally
  grind [startRow_inForm, mDiagTally_keepsForm, Out.keepsForm_next]

theorem mDiagLoop_keepsForm : mDiagLoop.KeepsForm := by
  intro f loc s h
  simp only [mDiagLoop]
  grind [State.goesOn_inForm]

theorem execDiagLoop_keepsForm {n : Nat} {s : State} : Out.KeepsForm s (execDiagLoop n s) := by
  unfold execDiagLoop
  grind [startRow_inForm, mDiagLoop_keepsForm, Out.keepsForm_next]

theorem execDiagLoopDone_keepsForm {n bad : Nat} {resid : List Int} {s : State} :
    Out.KeepsForm s (execDiagLoopDone n bad resid s) := by
  unfold execDiagLoopDone
  grind [State.pput_inForm, State.complete_inForm, Out.keepsForm_next, foldl_inForm]

/-! ### Operands -/

theorem meaningOf_keepsForm {op : Nat} : (meaningOf op).KeepsForm := by
  unfold meaningOf
  split
  exacts [mFence_keepsForm, mFence_keepsForm, mFence_keepsForm, mFence_keepsForm, mFence_keepsForm, mFence_keepsForm,
    mWaitTime_keepsForm, mWaitEvent_keepsForm, mCfgRead_keepsForm, mCfgWrite_keepsForm, mCfgWrite_keepsForm, mTblWrite_keepsForm,
    mTblDelete_keepsForm, mTblRead_keepsForm, mTblSearch_keepsForm, mTblCommit_keepsForm, mPortSet_keepsForm, mPortUp_keepsForm,
    mPortDown_keepsForm, mPortLoop_keepsForm, mPortPrbs_keepsForm, mPortInject_keepsForm, mQueSet_keepsForm, mGatelist_keepsForm,
    mQueFlush_keepsForm, mMirSet_keepsForm, mTimeSet_keepsForm, mTimeStep_keepsForm, mTimeSlew_keepsForm, mTimeAlign_keepsForm,
    mTimeArm_keepsForm, mTimeCapture_keepsForm, mTsqDrain_keepsForm, mLinkSound_keepsForm, mLinkAsym_keepsForm, mRefSet_keepsForm,
    mRefSelect_keepsForm, mRefForce_keepsForm, mRefRelease_keepsForm, mRefAcceptStep_keepsForm, mOutSet_keepsForm, mOutFreq_keepsForm,
    mHstSwap_keepsForm, mHstRevive_keepsForm, mHstCheckpoint_keepsForm, mPowWake_keepsForm, mPowSleep_keepsForm, mPowBudget_keepsForm,
    mFltInject_keepsForm, mFltClear_keepsForm, mFltReact_keepsForm, mCalRun_keepsForm, mCalRead_keepsForm, mCalWrite_keepsForm,
    mCalFactory_keepsForm, mDiagTally_keepsForm, mDiagLoop_keepsForm, mNop_keepsForm]

/-! ### Issue -/

theorem State.stall_inForm {s : State} {r : Nat} (h : s.InForm) : (State.stall s r).InForm := by
  unfold State.stall
  grind [State.setRing_inForm, State.InForm]

theorem State.takeHead_inForm {s : State} {r n : Nat} (h : s.InForm) : (State.takeHead s r n).InForm := by
  unfold State.takeHead
  grind [State.setRing_inForm, State.InForm]

theorem State.reject_inForm {s : State} {r n : Nat} {c : Cmd} {k : Compl} (h : s.InForm) :
    (State.reject s r n c k).InForm := by
  unfold State.reject
  grind [State.freeNat_inForm, State.pushEntry_inForm, State.takeHead_inForm, State.setRing_inForm,
    State.haltOn_inForm, State.InForm]

theorem State.takeSlots_inForm {s : State} {dies : List Nat} (h : s.InForm) : (State.takeSlots s dies).2.InForm := by
  unfold State.takeSlots
  refine foldl_keeps (P := fun x : List (Nat × Nat) × State => x.2.InForm) ?_ dies ?_
  · exact fun x d hx => hx
  · exact h

theorem State.issueCmd_inForm {s : State} {r n : Nat} {c : Cmd} {td : TimeDesc} (h : s.InForm) :
    (State.issueCmd s r n c td).InForm := by
  unfold State.issueCmd
  grind [State.takeSlots_inForm, State.takeHead_inForm, State.setRing_inForm, State.InForm]

theorem State.tryRing_inForm {s : State} {r : Nat} (h : s.InForm) : (State.tryRing s r).1.InForm := by
  unfold State.tryRing
  grind [State.reject_inForm, State.stall_inForm, State.issueCmd_inForm]

theorem State.issueFrom_inForm {s : State} {x1 : List Nat} (h : s.InForm) : (State.issueFrom s x1).InForm := by
  induction x1 generalizing s with
  | nil => unfold State.issueFrom; exact h
  | cons r rs ih =>
    unfold State.issueFrom
    have htry := State.tryRing_inForm (r := r) h
    grind [State.InForm]

theorem execIssue_keepsForm {s : State} : Out.KeepsForm s (execIssue s) := by
  unfold execIssue
  grind [State.issueFrom_inForm, Out.keepsForm_next]

theorem execTimedPark_keepsForm {n : Nat} {s : State} : Out.KeepsForm s (execTimedPark n s) := by
  unfold execTimedPark
  split
  · exact Out.keepsForm_next.2 id
  · dsimp only
    refine .ite (Out.keepsForm_next.2 id) (.ite (Out.keepsForm_next.2 fun h => ?_) (.ite ?_ ?_))
    · exact foldl_inForm (fun _ _ => State.bump_inForm) _ h
    · exact Out.keepsForm_next.2 State.complete_inForm
    · split
      · exact Out.keepsForm_next.2 State.park_inForm
      · exact Out.keepsForm_next.2 State.complete_inForm

theorem State.advanceDie_inForm {s : State} {die u : Nat} (h : s.InForm) : (State.advanceDie s die u).InForm := by
  unfold State.advanceDie
  grind [State.advance_inForm]

theorem execTimedActionDue_keepsForm {n : Nat} {s : State} : Out.KeepsForm s (execTimedActionDue n s) := by
  unfold execTimedActionDue
  grind [State.advanceDie_inForm, Meaning_exec_inForm, meaningOf_keepsForm, State.setFlight_inForm, Out.keepsForm_next]

theorem execCompletionRecordWrite_keepsForm {n : Nat} {s : State} : Out.KeepsForm s (execCompletionRecordWrite n s) := by
  unfold execCompletionRecordWrite
  grind [State.afterRec_inForm, State.putRec_inForm, Out.keepsForm_next]

theorem execBackgroundBudgetTimeout_keepsForm {n : Nat} {s : State} :
    Out.KeepsForm s (execBackgroundBudgetTimeout n s) := by
  unfold execBackgroundBudgetTimeout
  grind [State.advanceTo_inForm, State.complete_inForm, State.dropReqs_inForm, State.InForm, Out.keepsForm_next]

theorem State.rearm_inForm {s : State} {n : Nat} (h : s.InForm) : (State.rearm s n).InForm := by
  unfold State.rearm
  grind [State.setRing_inForm, State.ringTest_inForm, State.fpPut_inForm, State.InForm]

theorem execDoorbellWrite_keepsForm {n value : Nat} {writes : List Host.Cell} {s : State} :
    Out.KeepsForm s (execDoorbellWrite n value writes s) := by
  have hwrites : s.InForm →
      ({ s with env := { s.env with mem := writes.foldl (fun m c => memPut m c.1 c.2) s.env.mem } } : State).InForm :=
    fun h => ⟨memPutCells_wf writes h.1, h.2⟩
  unfold execDoorbellWrite
  grind [State.setRing_inForm, State.ringErr_inForm, State.rearm_inForm, Out.keepsForm_next]

theorem State.ringCtrl_inForm {s : State} {n v : Nat} (h : s.InForm) : (State.ringCtrl s n v).InForm := by
  unfold State.ringCtrl
  grind [State.ringErr_inForm, State.setRing_inForm, State.InForm]

theorem State.ringResume_inForm {s : State} {n : Nat} (h : s.InForm) : (State.ringResume s n).InForm := by
  unfold State.ringResume
  grind [State.setRing_inForm, State.InForm]

theorem execRingResume_keepsForm {n : Nat} {s : State} : Out.KeepsForm s (execRingResume n s) := by
  unfold execRingResume
  grind [State.ringResume_inForm, Out.keepsForm_next]

theorem State.cmdReset_inForm {s : State} {n : Nat} (h : s.InForm) : (State.cmdReset s n).InForm := by
  unfold State.cmdReset
  grind [State.setRing_inForm, State.abortFlight_inForm, State.InForm, foldl_inForm]

theorem execCommandRingReset_keepsForm {n : Nat} {s : State} : Out.KeepsForm s (execCommandRingReset n s) := by
  unfold execCommandRingReset
  grind [State.cmdReset_inForm, Out.keepsForm_next]

theorem State.ringResetDone_inForm {s : State} {n : Nat} (h : s.InForm) : (State.ringResetDone s n).InForm := by
  unfold State.ringResetDone
  grind [State.setRing_inForm, State.InForm]

theorem execRingResetDone_keepsForm {n : Nat} {s : State} : Out.KeepsForm s (execRingResetDone n s) := by
  unfold execRingResetDone
  grind [State.ringResetDone_inForm, Out.keepsForm_next]

theorem State.emptyRing_inForm {s : State} {n : Nat} (h : s.InForm) : (State.emptyRing s n).InForm := by
  unfold State.emptyRing
  grind [State.setRing_inForm, State.InForm]

theorem State.cqReset_inForm {s : State} {n : Nat} (h : s.InForm) : (State.cqReset s n).InForm := by
  unfold State.cqReset
  grind [State.ringErr_inForm, State.emptyRing_inForm]

theorem execCompletionRingReset_keepsForm {n : Nat} {s : State} : Out.KeepsForm s (execCompletionRingReset n s) := by
  unfold execCompletionRingReset
  grind [State.cqReset_inForm, Out.keepsForm_next]

theorem execPacketRingReset_keepsForm {n : Nat} {s : State} : Out.KeepsForm s (execPacketRingReset n s) := by
  unfold execPacketRingReset
  grind [State.emptyRing_inForm, State.InForm, Out.keepsForm_next]

theorem State.ringReset_inForm {s : State} {n : Nat} (h : s.InForm) : (State.ringReset s n).InForm := by
  unfold State.ringReset
  grind [State.cmdReset_inForm, State.cqReset_inForm, State.emptyRing_inForm]

theorem execRingCtrlWrite_keepsForm {n value : Nat} {s : State} : Out.KeepsForm s (execRingCtrlWrite n value s) := by
  unfold execRingCtrlWrite
  grind [State.ringErr_inForm, State.ringCtrl_inForm, State.ringResume_inForm, State.ringReset_inForm,
    Out.keepsForm_next]

/-! ### Faceplate -/

theorem State.fpClear_inForm {s : State} {off : Nat} (h : s.InForm) : (State.fpClear s off).InForm := by
  unfold State.fpClear
  grind [State.readReg_inForm, State.setRing_inForm, State.InForm]

theorem State.fpIntWrite_inForm {s : State} {off value : Nat} (h : s.InForm) :
    (State.fpIntWrite s off value).InForm := by
  unfold State.fpIntWrite
  grind [State.setReg_inForm, State.fpPut_inForm, State.msix_inForm]

theorem execFpIntWrite_keepsForm {off value : Nat} {s : State} : Out.KeepsForm s (execFpIntWrite off value s) := by
  unfold execFpIntWrite
  grind [State.fpIntWrite_inForm, Out.keepsForm_next]

theorem State.setMsix_inForm {s : State} {v x : Nat} (h : s.InForm) : (State.setMsix s v x).InForm := by
  unfold State.setMsix
  grind [State.send_inForm, State.InForm]

theorem execMsixUnmask_keepsForm {vec : Nat} {s : State} : Out.KeepsForm s (execMsixUnmask vec s) := by
  unfold execMsixUnmask
  grind [State.setMsix_inForm, Out.keepsForm_next]

theorem State.msixWord_inForm {s : State} {off v : Nat} (h : s.InForm) : (State.msixWord s off v).InForm := by
  unfold State.msixWord
  grind [State.setMsix_inForm]

theorem execRingIntTimer_keepsForm {n : Nat} {s : State} : Out.KeepsForm s (execRingIntTimer n s) := by
  unfold execRingIntTimer
  grind [State.ringFire_inForm, State.advanceTo_inForm, Out.keepsForm_next]

theorem State.ringStore_inForm {s : State} {n : Nat} {f : Ring → Ring} (h : s.InForm) :
    (State.ringStore s n f).InForm := by
  unfold State.ringStore
  grind [State.ringErr_inForm, State.setRing_inForm, State.InForm]

theorem State.fpStore_inForm {s : State} {off v : Nat} (h : s.InForm) : (State.fpStore s off v).InForm := by
  unfold State.fpStore
  grind [State.setReg_inForm]

theorem State.fpWrite_inForm {s : State} {off v : Nat} (h : s.InForm) : (State.fpWrite s off v).InForm := by
  unfold State.fpWrite
  grind [State.fpIntWrite_inForm, State.fpStore_inForm, State.ringStore_inForm, State.setRing_inForm,
    State.msixWord_inForm, State.InForm]

theorem State.badAccess_inForm {s : State} {write : Bool} (h : s.InForm) : (State.badAccess s write).InForm := by
  unfold State.badAccess
  grind [State.bump_inForm, State.send_inForm]

theorem execRcRegisterRead_keepsForm {off : Nat} {s : State} : Out.KeepsForm s (execRcRegisterRead off s) := by
  unfold execRcRegisterRead
  grind [State.badAccess_inForm, State.send_inForm, State.fpClear_inForm, Out.keepsForm_next]

theorem execFaceplateBadAccess_keepsForm {write : Bool} {s : State} :
    Out.KeepsForm s (execFaceplateBadAccess write s) := by
  unfold execFaceplateBadAccess
  grind [State.badAccess_inForm, Out.keepsForm_next]

theorem execFaceplateWrite_keepsForm {off value : Nat} {wide : Bool} {s : State} :
    Out.KeepsForm s (execFaceplateWrite off value wide s) := by
  unfold execFaceplateWrite
  grind [State.msixWord_inForm, State.badAccess_inForm, execDoorbellWrite_keepsForm, execRingCtrlWrite_keepsForm,
    State.fpWrite_inForm, Out.keepsForm_next]

theorem execBusMasteringEnable_keepsForm {s : State} : Out.KeepsForm s (execBusMasteringEnable s) := by
  unfold execBusMasteringEnable
  grind [State.InForm, Out.keepsForm_next]

theorem State.fpHostReset_inForm {s : State} (h : s.InForm) : (State.fpHostReset s).InForm := by
  exact ⟨h.1, h.2.1, Tab.filter_wf _ h.2.2⟩

theorem State.hostReset_inForm {s : State} (h : s.InForm) : (State.hostReset s).InForm := by
  unfold State.hostReset
  grind [State.fpHostReset_inForm, State.cmdReset_inForm, State.afterRec_inForm, State.emptyRing_inForm,
    State.ringResetDone_inForm, State.InForm, foldl_inForm]

theorem execHostPortReset_keepsForm {s : State} : Out.KeepsForm s (execHostPortReset s) := by
  unfold execHostPortReset
  grind [State.hostReset_inForm, Out.keepsForm_next]

theorem execTapInstructionLoad_keepsForm {ir : Nat} {s : State} : Out.KeepsForm s (execTapInstructionLoad ir s) := by
  unfold execTapInstructionLoad
  grind [State.InForm, Out.keepsForm_next]

/-! ### Boot -/

theorem State.cold_inForm {s : State} (h : s.InForm) : (State.cold s).InForm := by
  exact ⟨h.1, rfl, rfl⟩

theorem State.warm_inForm {s : State} (h : s.InForm) : (State.warm s).InForm := by
  unfold State.warm
  have hcold := State.cold_inForm h
  have hkept : ({ s.cold with
      regs := s.regs.filter (fun x => warmKeeps (x.1 / 16777216) (x.1 % 16777216)),
      boot := s.boot, tapIr := s.tapIr,
      dies := (List.range 4).map (fun d => (d, { quarMap := (s.die d).quarMap })) } : State).InForm :=
    ⟨hcold.1, hcold.2.1, Tab.filter_wf _ h.2.2⟩
  grind [State.clkPut_inForm, State.fpPut_inForm]

theorem State.bootFail_inForm {s : State} {code : Nat} {flash : Bool} (h : s.InForm) :
    (State.bootFail s code flash).InForm := by
  unfold State.bootFail
  grind [State.fpPut_inForm, State.faultNSync_inForm, State.bootState_inForm]

theorem State.applyRecord_inForm {s : State} {w : Nat} {t : State} (h : s.InForm) (e : State.applyRecord s w = some
    t) : t.InForm := by
  unfold State.applyRecord at e
  grind [Meaning_eff_inForm, mCfgWrite_keepsForm]

theorem State.applyRecords_inForm {s : State} {i : Nat} {x2 : List Nat} (h : s.InForm) :
    (State.applyRecords s i x2).1.InForm := by
  induction x2 generalizing s i with
  | nil => unfold State.applyRecords; exact h
  | cons w ws ih =>
    unfold State.applyRecords
    grind [State.applyRecord_inForm]

theorem State.startLref_inForm {s : State} (h : s.InForm) : (State.startLref s).InForm := by
  have hservo : ∀ (t : State) x y, t.InForm → ({ t.setServo x with tails := y } : State).InForm := fun _ _ _ ht => ht
  refine State.setClk_inForm (hservo _ _ _ (foldl_inForm (fun _ _ => State.calLoad_inForm) _ ?_))
  exact foldl_inForm (fun _ _ => State.clkPut_inForm) _ (State.clkPut_inForm h)

theorem State.bootHs_inForm {s : State} {tb : Bool} {code : Nat} (h : s.InForm) :
    (State.bootHs s tb code).InForm := by
  unfold State.bootHs
  grind [State.setHs_inForm, State.raise_inForm, State.calSelf_inForm, State.arbPut_inForm, State.setDrive_inForm,
    State.giveEpoch_inForm]

theorem State.startHst_inForm {s : State} {ta tb : Nat} (h : s.InForm) : (State.startHst s ta tb).InForm := by
  unfold State.startHst
  grind [State.bootHs_inForm, State.raise_inForm, State.arbPut_inForm, State.InForm]

theorem State.bootFrom_inForm {s : State} {b : List Byte} {len : Nat} {e : Sys2Proof.BootEnv} {flash : Bool} (h :
    s.InForm) : (State.bootFrom s b len e flash).InForm := by
  unfold State.bootFrom
  grind [State.faultNSync_inForm, State.bootState_inForm, State.bootFail_inForm, State.fpPut_inForm,
    State.applyRecords_inForm, State.startHst_inForm, State.startLref_inForm, State.ccSync_inForm,
    State.fastRest_inForm]

theorem State.quarantine_inForm {s : State} {bad : List Nat} (h : s.InForm) : (State.quarantine s bad).InForm := by
  unfold State.quarantine
  grind [State.setDie_inForm, State.raise_inForm, State.InForm, foldl_inForm]

theorem State.powerUp_inForm {s : State} {e : Sys2Proof.BootEnv} {crystals : Bool} (h : s.InForm) :
    (State.powerUp s e crystals).InForm := by
  unfold State.powerUp
  grind [State.bootState_inForm, State.setClk_inForm, State.clkPut_inForm, State.putB_inForm,
    State.quarantine_inForm, State.faultNSync_inForm, State.bootFail_inForm, State.bootFrom_inForm, State.InForm,
    foldl_inForm]

theorem State.straps_inForm {s : State} {e : Sys2Proof.BootEnv} (h : s.InForm) : (State.straps s e).InForm := by
  unfold State.straps
  grind [State.fpPut_inForm, State.InForm]

theorem execPowerGoodRise_keepsForm {e : Sys2Proof.BootEnv} {s : State} : Out.KeepsForm s (execPowerGoodRise e s) := by
  unfold execPowerGoodRise
  grind [State.cold_inForm, State.powerUp_inForm, State.straps_inForm, State.InForm, Out.keepsForm_next]

theorem execPowerGoodFall_keepsForm {s : State} : Out.KeepsForm s (execPowerGoodFall s) := by
  unfold execPowerGoodFall
  grind [State.cold_inForm, Out.keepsForm_next]

theorem State.rstCause_inForm {s : State} {was : Bool} {cause : Nat} (h : s.InForm) :
    (State.rstCause s was cause).InForm := by
  unfold State.rstCause
  grind [State.fpPut_inForm]

theorem execRstN_keepsForm {e : Sys2Proof.BootEnv} {s : State} : Out.KeepsForm s (execRstN e s) := by
  unfold execRstN
  grind [State.cold_inForm, State.rstCause_inForm, State.straps_inForm, State.powerUp_inForm, State.InForm,
    Out.keepsForm_next]

theorem execWrstN_keepsForm {e : Sys2Proof.BootEnv} {s : State} : Out.KeepsForm s (execWrstN e s) := by
  unfold execWrstN
  grind [State.powerUp_inForm, State.rstCause_inForm, State.warm_inForm, Out.keepsForm_next]

theorem execFpReset_keepsForm {value : Nat} {e : Sys2Proof.BootEnv} {s : State} :
    Out.KeepsForm s (execFpReset value e s) := by
  unfold execFpReset
  grind [State.powerUp_inForm, State.rstCause_inForm, State.warm_inForm, State.InForm, Out.keepsForm_next]

theorem execFpBootGo_keepsForm {value : Nat} {e : Sys2Proof.BootEnv} {s : State} :
    Out.KeepsForm s (execFpBootGo value e s) := by
  unfold execFpBootGo
  dsimp only
  refine .ite (Out.keepsForm_next.2 id) ?_
  cases (if (s.fp R.FP_BOOT_ADDR_LO_ADDR + s.fp R.FP_BOOT_ADDR_HI_ADDR * 2 ^ 32) % 4096 ≠ 0 then none else
    s.dmaRead (s.fp R.FP_BOOT_ADDR_LO_ADDR + s.fp R.FP_BOOT_ADDR_HI_ADDR * 2 ^ 32) (max (s.fp R.FP_BOOT_LEN_LEN) 1)) with
  | none => exact Out.keepsForm_next.2 State.bootFail_inForm
  | some b => exact Out.keepsForm_next.2 fun h => .ite (State.bootFrom_inForm h) (State.bootFail_inForm h)

theorem execSupplyDrop_keepsForm {rail : Sys2Proof.Rail} {s : State} : Out.KeepsForm s (execSupplyDrop rail s) := by
  unfold execSupplyDrop
  grind [State.setHst_inForm, State.failRevive_inForm, State.declareFailed_inForm, State.failStandby_inForm,
    State.cold_inForm, State.InForm, Out.keepsForm_next]

/-! ### Clocks -/

theorem State.toFast_inForm {s : State} {p : Nat} (h : s.InForm) : (State.toFast s p).InForm := by
  unfold State.toFast
  grind [State.clkPut_inForm, State.relock_inForm]

theorem State.coast_inForm {s : State} {p : Nat} (h : s.InForm) : (State.coast s p).InForm := by
  unfold State.coast
  grind [State.clkPut_inForm, State.bump_inForm, State.fastStart_inForm, State.setClk_inForm, State.toFast_inForm,
    State.InForm]

theorem execPllCoast_keepsForm {p : Nat} {s : State} : Out.KeepsForm s (execPllCoast p s) := by
  unfold execPllCoast
  grind [State.coast_inForm, Out.keepsForm_next]

theorem State.coastAll_inForm {s : State} {fast : Bool} (h : s.InForm) : (State.coastAll s fast).InForm := by
  unfold State.coastAll
  grind [State.coast_inForm, foldl_inForm]

theorem execPllRelockDone_keepsForm {p : Nat} {s : State} : Out.KeepsForm s (execPllRelockDone p s) := by
  unfold execPllRelockDone
  grind [State.advanceTo_inForm, State.clkPut_inForm, State.putB_inForm, State.setClk_inForm, State.complete_inForm,
    State.fastRest_inForm, State.InForm, Out.keepsForm_next]

theorem execPllRelockTimeout_keepsForm {p : Nat} {s : State} : Out.KeepsForm s (execPllRelockTimeout p s) := by
  unfold execPllRelockTimeout
  grind [State.advanceTo_inForm, State.raise_inForm, State.setClk_inForm, State.InForm, Out.keepsForm_next]

theorem execSysReturn_keepsForm {s : State} : Out.KeepsForm s (execSysReturn s) := by
  unfold execSysReturn
  grind [State.sysBack_inForm, State.advanceTo_inForm, State.InForm, Out.keepsForm_next]

theorem State.fastUp_inForm {s : State} (h : s.InForm) : (State.fastUp s).InForm := by
  unfold State.fastUp
  grind [State.setClk_inForm, State.clkPut_inForm, State.toFast_inForm, State.relockRun_inForm, State.InForm,
    foldl_inForm]

theorem execSourceStable_keepsForm {src : Sys2Proof.ClkSrc} {s : State} : Out.KeepsForm s (execSourceStable src s) := by
  unfold execSourceStable
  grind [State.clkPut_inForm, State.fastUp_inForm, Out.keepsForm_next]

theorem State.lrefFail_inForm {s : State} {xb : Bool} (h : s.InForm) : (State.lrefFail s xb).InForm := by
  unfold State.lrefFail
  grind [State.lrefSwitch_inForm, State.clkPut_inForm, State.raise_inForm, State.coastAll_inForm, State.InForm]

theorem State.crystalFail_inForm {s : State} {xb : Bool} (h : s.InForm) : (State.crystalFail s xb).InForm := by
  unfold State.crystalFail
  grind [State.clkPut_inForm, State.bump_inForm, State.raise_inForm, State.lrefFail_inForm]

theorem execSourceFail_keepsForm {src : Sys2Proof.ClkSrc} {s : State} : Out.KeepsForm s (execSourceFail src s) := by
  unfold execSourceFail
  grind [State.crystalFail_inForm, State.coastAll_inForm, State.clkPut_inForm, Out.keepsForm_next]

theorem execTailstockLrefFreeze_keepsForm {t : Nat} {s : State} : Out.KeepsForm s (execTailstockLrefFreeze t s) := by
  unfold execTailstockLrefFreeze
  grind [State.setTail_inForm, State.InForm, Out.keepsForm_next]

theorem execPhaseBuildOutDone_keepsForm {s : State} : Out.KeepsForm s (execPhaseBuildOutDone s) := by
  unfold execPhaseBuildOutDone
  grind [State.setClk_inForm, State.InForm, Out.keepsForm_next]

theorem State.reduce_inForm {s : State} (h : s.InForm) : (State.reduce s).InForm := by
  unfold State.reduce
  grind [State.warm_inForm, State.fpPut_inForm, State.setReg_inForm, State.setFaults_inForm, State.bump_inForm,
    State.put_inForm, State.faultNSync_inForm, State.safeMutes_inForm, State.InForm]

theorem execFastOscTimeout_keepsForm {s : State} : Out.KeepsForm s (execFastOscTimeout s) := by
  unfold execFastOscTimeout
  grind [State.reduce_inForm, State.advanceTo_inForm, Out.keepsForm_next]

/-! ### Sched -/

theorem State.rxFrame_inForm {s : State} {d p : Nat} {bytes : List Byte} {inject : Bool} (h : s.InForm) :
    (State.rxFrame s d p bytes inject).2.InForm := by
  unfold State.rxFrame
  grind [State.freeNat_inForm]

theorem State.shaperPay_inForm {s : State} {d p c len : Nat} (h : s.InForm) :
    (State.shaperPay s d p c len).InForm := by
  unfold State.shaperPay
  grind [State.setPort_inForm, State.InForm]

/-! ### Forward -/

theorem State.look_inForm {s : State} {d clu id idx : Nat} {hit : Option TEnt} (h : s.InForm) :
    (State.look s d clu id idx hit).2.InForm := by
  unfold State.look
  grind [State.checked_inForm, State.bump_inForm, State.updDie_inForm, State.fault_inForm, State.InForm]

theorem State.lookIdx_inForm {s : State} {d clu id idx : Nat} (h : s.InForm) :
    (State.lookIdx s d clu id idx).2.InForm := by
  unfold State.lookIdx
  grind [State.look_inForm]

theorem State.lookMac_inForm {s : State} {d clu vid dst : Nat} (h : s.InForm) :
    (State.lookMac s d clu vid dst).2.InForm := by
  unfold State.lookMac
  grind [State.look_inForm]

theorem State.lookRoute_inForm {s : State} {d clu vrf : Nat} {hdr : Hdr} (h : s.InForm) :
    (State.lookRoute s d clu vrf hdr).2.InForm := by
  unfold State.lookRoute
  grind [State.look_inForm]

theorem State.lookCls_inForm {s : State} {d clu key : Nat} (h : s.InForm) : (State.lookCls s d clu key).2.InForm := by
  unfold State.lookCls
  grind [State.look_inForm]

theorem State.targets_inForm {s : State} {d clu kind t hash : Nat} (h : s.InForm) :
    (State.targets s d clu kind t hash).2.InForm := by
  unfold State.targets
  grind [State.lookIdx_inForm, State.bump_inForm]

theorem State.route4_inForm {s : State} {d clu vrf : Nat} {hdr : Hdr} {x : Fate} (h : s.InForm) :
    (State.route4 s d clu vrf hdr x).2.InForm := by
  unfold State.route4
  grind [State.lookRoute_inForm, State.bump_inForm, State.lookIdx_inForm, State.InForm]

theorem State.bridge3_inForm {s : State} {d clu vid : Nat} {hdr : Hdr} {ve : TEnt} {x : Fate} (h : s.InForm) :
    (State.bridge3 s d clu vid hdr ve x).2.InForm := by
  unfold State.bridge3
  grind [State.lookMac_inForm, State.InForm]

theorem State.forward_inForm {s : State} {d p : Nat} {hdr : Hdr} (h : s.InForm) :
    (State.forward s d p hdr).2.InForm := by
  unfold State.forward
  grind [State.lookIdx_inForm, State.bridge3_inForm, State.route4_inForm, State.InForm]

theorem State.resolve_inForm {s : State} {d p hash : Nat} {x : Fate} (h : s.InForm) :
    (State.resolve s d p hash x).2.InForm := by
  unfold State.resolve
  grind [State.targets_inForm, State.lookIdx_inForm, State.InForm]

theorem State.setStream_inForm {s : State} {d st : Nat} {x : Stream} (h : s.InForm) :
    (State.setStream s d st x).InForm := by
  unfold State.setStream
  grind [State.setDie_inForm, State.InForm]

theorem State.dupCount_inForm {s : State} {d st : Nat} (h : s.InForm) : (State.dupCount s d st).InForm := by
  unfold State.dupCount
  grind [State.setStream_inForm, State.InForm]

theorem State.dupTest_inForm {s : State} {d st src seq : Nat} {t : State} (h : s.InForm) (e : State.dupTest s d st
    src seq = some t) : t.InForm := by
  unfold State.dupTest at e
  grind [State.setDie_inForm, State.InForm]

theorem State.nextSeq_inForm {s : State} {d st : Nat} (h : s.InForm) : (State.nextSeq s d st).2.InForm := by
  unfold State.nextSeq
  grind [State.setStream_inForm, State.InForm]

theorem State.redundancy_inForm {s : State} {d p : Nat} {f : Frame} {hdr : Hdr} {st : Nat} {e : TEnt} {x : Fate} (h
    : s.InForm) : (State.redundancy s d p f hdr st e x).2.InForm := by
  have hdup : ∀ (t : State) q, t.InForm → ((t.dupTest d st hdr.src q).getD t).InForm := fun t q ht =>
    getD_inForm (fun _ e => State.dupTest_inForm ht e) ht
  unfold State.redundancy
  dsimp only
  split <;> grind [State.nextSeq_inForm, State.dupCount_inForm, State.setStream_inForm, State.dupTest_inForm]

/-! ### Admit -/

theorem State.pinBy_inForm {s : State} {d bucket far : Nat} {n : Int} (h : s.InForm) :
    (State.pinBy s d bucket far n).InForm := by
  unfold State.pinBy
  grind [State.setDie_inForm, State.InForm]

theorem State.sendRemote_inForm {s : State} {d : Nat} {r : Remote} (h : s.InForm) :
    (State.sendRemote s d r).InForm := by
  unfold State.sendRemote
  grind [State.setBrg_inForm, State.pinBy_inForm, State.InForm]

theorem State.serveWaits_inForm {s : State} {d : Nat} (h : s.InForm) : (State.serveWaits s d).InForm := by
  unfold State.serveWaits
  have hsend : ∀ (t : State) (l : List Remote), t.InForm → (l.foldl (fun (a : State × List Remote) r =>
      if a.2.any (fun k => k.far == r.far && k.bucket == r.bucket) || !a.1.remoteOk d r then (a.1, a.2 ++ [r])
      else (a.1.sendRemote d r, a.2)) (t, [])).1.InForm := fun t l ht =>
    foldl_keeps (P := fun a : State × List Remote => a.1.InForm) (fun a r ha => by
      split
      · exact ha
      · exact State.sendRemote_inForm ha) l ht
  grind [State.dropRemote_inForm, State.updDie_inForm, State.setDie_inForm, foldl_inForm]

theorem State.remoteGo_inForm {s : State} {d : Nat} {r : Remote} (h : s.InForm) : (State.remoteGo s d r).InForm := by
  unfold State.remoteGo
  grind [State.setDie_inForm, State.serveWaits_inForm, State.InForm]

theorem State.toHost_inForm {s : State} {n : Nat} {f : Frame} {lim cls reason session sample : Nat} {valid drop :
    Bool} {t : State} (h : s.InForm) (e : State.toHost s n f lim cls reason session sample valid drop = some t) :
    t.InForm := by
  unfold State.toHost at e
  grind [State.dmaPut_inForm, State.pushEntry_inForm, State.setRing_inForm, State.InForm]

theorem State.mirror_inForm {s : State} {f : Frame} {x : Fate} {k : Nat} (h : s.InForm) :
    (State.mirror s f x k).InForm := by
  have hhost : ∀ (t u : State) n len cls k j v dr, t.InForm → u.InForm → ((t.toHost n f len cls 0 k j v dr).getD u).InForm :=
    fun t u n len cls k j v dr ht hu => getD_inForm (fun _ e => State.toHost_inForm ht e) hu
  unfold State.mirror
  grind [State.setDie_inForm, State.bump_inForm]

theorem State.creditDrop_inForm {s : State} {f : Frame} (h : s.InForm) : (State.creditDrop s f).InForm := by
  unfold State.creditDrop
  grind [State.creditSync_inForm, State.setCredit_inForm, State.InForm]

theorem State.takeCharge_inForm {s : State} {f : Frame} {g : Charge} {n : Nat} (h : s.InForm) :
    (State.takeCharge s f g n).InForm := by
  unfold State.takeCharge
  grind [State.setPort_inForm, State.sendPfc_inForm, State.pput_inForm, State.InForm]

theorem State.enqueue_inForm {s : State} {d p : Nat} {e : QEnt} (h : s.InForm) : (State.enqueue s d p e).InForm := by
  unfold State.enqueue
  grind [State.setPort_inForm, State.pbump_inForm, State.InForm]

theorem State.admitFrame_inForm {s : State} {f : Frame} {hdr : Hdr} {x : Fate} {hash : Nat} {t : State} (h :
    s.InForm) (e : State.admitFrame s f hdr x hash = some t) : t.InForm := by
  unfold State.admitFrame at e
  grind [State.pbump_inForm, State.creditDrop_inForm, State.addCells_inForm, State.takeCharge_inForm,
    State.enqueue_inForm, State.remoteGo_inForm, foldl_inForm]

theorem State.redund7_inForm {s : State} {f : Frame} {hdr : Hdr} {res : Nat} {x : Fate} (h : s.InForm) :
    (State.redund7 s f hdr res x).2.InForm := by
  unfold State.redund7
  grind [State.lookIdx_inForm, State.redundancy_inForm, State.InForm]

theorem State.fate_inForm {s : State} {f : Frame} {hdr : Hdr} {hash : Nat} (h : s.InForm) :
    (State.fate s f hdr hash).2.InForm := by
  unfold State.fate
  grind [State.forward_inForm, State.lookCls_inForm, State.redund7_inForm, State.resolve_inForm, State.InForm]

theorem State.wakeSlice_inForm {s : State} {d c : Nat} (h : s.InForm) : (State.wakeSlice s d c).InForm := by
  unfold State.wakeSlice
  grind [State.demandWake_inForm]

theorem State.pipe_inForm {s : State} {f : Frame} {t : State} (h : s.InForm) (e : State.pipe s f = some t) :
    t.InForm := by
  unfold State.pipe at e
  grind [State.creditDrop_inForm, State.bump_inForm, State.setLedger_inForm, State.putPair_inForm,
    State.fate_inForm, State.pbump_inForm, State.mirror_inForm, State.toHost_inForm, State.setRing_inForm,
    State.admitFrame_inForm, State.InForm, foldl_inForm]

theorem State.markPass_inForm {s : State} {d p : Nat} (h : s.InForm) : (State.markPass s d p).InForm := by
  unfold State.markPass
  grind [State.setRelka_inForm, State.InForm]

theorem execPipelineFrame_keepsForm {d p : Nat} {s : State} : Out.KeepsForm s (execPipelineFrame d p s) := by
  unfold execPipelineFrame
  grind [State.setPort_inForm, State.pipe_inForm, State.markPass_inForm, State.wakeSlice_inForm, State.InForm,
    Out.keepsForm_next]

/-! ### Frames -/

theorem execPfcFrameReceive_keepsForm {d p enable : Nat} {quanta : List Nat} {s : State} :
    Out.KeepsForm s (execPfcFrameReceive d p enable quanta s) := by
  unfold execPfcFrameReceive
  grind [State.pfcRx_inForm, Out.keepsForm_next]

theorem execPfcPauseExpiry_keepsForm {d p i : Nat} {s : State} : Out.KeepsForm s (execPfcPauseExpiry d p i s) := by
  unfold execPfcPauseExpiry
  grind [State.pfcOne_inForm, State.advanceTo_inForm, Out.keepsForm_next]

theorem execPfcRefresh_keepsForm {d p i : Nat} {s : State} : Out.KeepsForm s (execPfcRefresh d p i s) := by
  unfold execPfcRefresh
  grind [State.sendPfc_inForm, State.advanceTo_inForm, Out.keepsForm_next]

theorem State.injectFcs_inForm {s : State} {d p : Nat} {tx : Bool} (h : s.InForm) :
    (State.injectFcs s d p tx).2.InForm := by
  unfold State.injectFcs
  grind [State.setPort_inForm, State.InForm]

theorem State.land_inForm {s : State} {d p c : Nat} {f : Frame} (h : s.InForm) : (State.land s d p c f).InForm := by
  unfold State.land
  grind [State.setCredit_inForm, State.setPort_inForm, State.pput_inForm, State.InForm]

theorem State.heardParent_inForm {s : State} {d p : Nat} {bs : List Byte} (h : s.InForm) :
    (State.heardParent s d p bs).InForm := by
  unfold State.heardParent
  grind [State.setPort_inForm, State.InForm]

theorem State.arrive_inForm {s : State} {d p c : Nat} {f : Frame} {bad : Bool} (h : s.InForm) :
    (State.arrive s d p c f bad).InForm := by
  unfold State.arrive
  grind [State.creditSync_inForm, State.pbump_inForm, State.cancelSleep_inForm, State.demandWake_inForm,
    State.land_inForm, State.heardParent_inForm, State.InForm]

theorem State.receive_inForm {s : State} {d p : Nat} {bytes : List Byte} {errored : Bool} (h : s.InForm) :
    (State.receive s d p bytes errored).InForm := by
  unfold State.receive
  grind [State.injectFcs_inForm, State.rxFrame_inForm, State.setCredit_inForm, State.creditSync_inForm,
    State.pfcRx_inForm, State.withdrawWakes_inForm, State.arrive_inForm, State.InForm]

theorem execFrameReceive_keepsForm {d p : Nat} {bytes : List Byte} {line : Sys2Proof.RxLine} {s : State} :
    Out.KeepsForm s (execFrameReceive d p bytes line s) := by
  unfold execFrameReceive
  grind [State.updPort_inForm, State.bumpBy_inForm, State.pbump_inForm, State.receive_inForm, State.InForm,
    Out.keepsForm_next]

theorem State.drainLoop_inForm {s : State} {d p : Nat} (h : s.InForm) : (State.drainLoop s d p).InForm := by
  unfold State.drainLoop
  grind [State.receive_inForm, State.updPort_inForm, State.InForm, foldl_inForm]

theorem State.afterRelease_inForm {s old : State} {d : Nat} (h : s.InForm) : (State.afterRelease s old d).InForm := by
  unfold State.afterRelease
  grind [State.raise_inForm, State.sliceRest_inForm, foldl_inForm]

theorem State.readCells_inForm {s : State} {d fid : Nat} (h : s.InForm) : (State.readCells s d fid).1.InForm := by
  unfold State.readCells
  grind [State.freeNat_inForm, State.touch_inForm, State.checked_inForm, State.setDie_inForm, State.bump_inForm,
    State.InForm]

theorem State.addCorr_inForm {s : State} {d p : Nat} {bs : List Byte} {hdr : Hdr} {a : Nat} {add : Int} (h :
    s.InForm) : (State.addCorr s d p bs hdr a add).2.InForm := by
  unfold State.addCorr
  grind [State.pbump_inForm, State.InForm]

theorem State.transClock_inForm {s : State} {d p : Nat} {f : Frame} {bs : List Byte} {hdr : Hdr} (h : s.InForm) :
    (State.transClock s d p f bs hdr).2.InForm := by
  unfold State.transClock
  grind [State.pbump_inForm, State.setPort_inForm, State.addCorr_inForm, State.InForm]

theorem State.tsRequest_inForm {s : State} {d p tsId : Nat} {bs : List Byte} {hdr : Hdr} (h : s.InForm) :
    (State.tsRequest s d p tsId bs hdr).InForm := by
  unfold State.tsRequest
  grind [State.pbump_inForm, State.setPort_inForm, State.event_inForm, State.InForm]

theorem State.finishTx_inForm {s : State} {d p : Nat} (h : s.InForm) : (State.finishTx s d p).InForm := by
  unfold State.finishTx
  grind [State.drainLoop_inForm, State.afterRelease_inForm, State.endTx_inForm]

theorem State.startTx_inForm {s : State} {d p : Nat} {e : QEnt} {ts : Option Nat} (h : s.InForm) :
    (State.startTx s d p e ts).InForm := by
  unfold State.startTx
  grind [State.readCells_inForm, State.transClock_inForm, State.tsRequest_inForm, State.injectFcs_inForm,
    State.pbump_inForm, State.shaperPay_inForm, State.setCredit_inForm, State.updPort_inForm, State.InForm]

theorem execFrameTransmit_keepsForm {d p : Nat} {s : State} : Out.KeepsForm s (execFrameTransmit d p s) := by
  unfold execFrameTransmit
  grind [State.finishTx_inForm, State.setPort_inForm, State.afterRelease_inForm, State.releaseRef_inForm,
    State.startTx_inForm, State.InForm, Out.keepsForm_next]

theorem State.pktNext_inForm {s : State} {n : Nat} {bad : Bool} (h : s.InForm) : (State.pktNext s n bad).InForm := by
  unfold State.pktNext
  grind [State.ringTest_inForm, State.setRing_inForm, State.InForm]

theorem State.direct_inForm {s : State} {d p cls : Nat} {ts : Option Nat} {bs : List Byte} {t : State} (h :
    s.InForm) (e : State.direct s d p cls ts bs = some t) : t.InForm := by
  unfold State.direct at e
  grind [State.addCells_inForm, State.setPort_inForm, State.InForm]

theorem execPktFromHostEntry_keepsForm {n : Nat} {s : State} : Out.KeepsForm s (execPktFromHostEntry n s) := by
  unfold execPktFromHostEntry
  grind [State.pktNext_inForm, State.direct_inForm, State.wakeSlice_inForm, State.demandWake_inForm,
    State.rxFrame_inForm, State.pipe_inForm, State.InForm, Out.keepsForm_next]

theorem execFlapHoldExpiry_keepsForm {d p : Nat} {s : State} : Out.KeepsForm s (execFlapHoldExpiry d p s) := by
  unfold execFlapHoldExpiry
  grind [State.advanceTo_inForm, State.afterRelease_inForm, State.endHold_inForm, State.flushPort_inForm,
    Out.keepsForm_next]

theorem execFrerResetTimeout_keepsForm {d st : Nat} {s : State} : Out.KeepsForm s (execFrerResetTimeout d st s) := by
  unfold execFrerResetTimeout
  grind [State.advanceTo_inForm, State.setStream_inForm, State.InForm, Out.keepsForm_next]

theorem execDuplicateEntryForget_keepsForm {d st src seq : Nat} {s : State} :
    Out.KeepsForm s (execDuplicateEntryForget d st src seq s) := by
  unfold execDuplicateEntryForget
  grind [State.advanceTo_inForm, State.setDie_inForm, State.InForm, Out.keepsForm_next]

/-! ### Bridges -/

theorem execEgressStatusBroadcast_keepsForm {d : Nat} {s : State} : Out.KeepsForm s (execEgressStatusBroadcast d s) := by
  unfold execEgressStatusBroadcast
  grind [State.serveWaits_inForm, State.setDie_inForm, State.InForm, Out.keepsForm_next, foldl_inForm]

theorem State.takeCell_inForm {s : State} {d : Nat} {w : Flit} {t : State × Nat} (h : s.InForm) (e : State.takeCell
    s d w = some t) : t.1.InForm := by
  unfold State.takeCell at e
  grind [State.setDie_inForm, State.addCells_inForm, State.InForm]

theorem State.unland_inForm {s : State} {d lfid src : Nat} (h : s.InForm) : (State.unland s d lfid src).InForm := by
  unfold State.unland
  grind [State.setDie_inForm, State.setBrg_inForm, State.InForm]

theorem State.growCut_inForm {s : State} {d lfid : Nat} {e : Nat × QEnt} (h : s.InForm) :
    (State.growCut s d lfid e).InForm := by
  unfold State.growCut
  grind [State.updPort_inForm, State.InForm]

theorem State.deliverCell_inForm {s : State} {d : Nat} {w : Flit} {lfid : Nat} (h : s.InForm) :
    (State.deliverCell s d w lfid).InForm := by
  unfold State.deliverCell
  grind [State.pinBy_inForm, State.unland_inForm, State.enqueue_inForm, State.growCut_inForm, State.setDie_inForm,
    State.serveWaits_inForm, State.afterRelease_inForm, State.releaseRef_inForm, State.InForm, foldl_inForm]

theorem State.loseFrame_inForm {s : State} {at_ : Nat × Nat} {w : Flit} (h : s.InForm) :
    (State.loseFrame s at_ w).InForm := by
  unfold State.loseFrame
  grind [State.setBrg_inForm, State.pinBy_inForm, State.bumpBy_inForm, State.unland_inForm, State.setDie_inForm,
    State.setPort_inForm, State.afterRelease_inForm, State.releaseRef_inForm, State.InForm, foldl_inForm]

theorem State.laneFail_inForm {s : State} {d far lane : Nat} (h : s.InForm) :
    (State.laneFail s d far lane).InForm := by
  unfold State.laneFail
  grind [State.setBrg_inForm, State.InForm]

theorem State.crcError_inForm {s : State} {d from_ lane : Nat} (h : s.InForm) :
    (State.crcError s d from_ lane).InForm := by
  unfold State.crcError
  grind [State.bump_inForm, State.setBrg_inForm, State.laneFail_inForm, State.InForm]

theorem execBridgeFlitReceive_keepsForm {d ep : Nat} {badLane : Option Nat} {s : State} :
    Out.KeepsForm s (execBridgeFlitReceive d ep badLane s) := by
  unfold execBridgeFlitReceive
  dsimp only
  refine .ite (Out.keepsForm_next.2 id) ?_
  split
  · exact Out.keepsForm_next.2 id
  · have hchecked : ∀ k here a b c, s.InForm →
        (((s.checked 0x41 here 0 0).1.checked 0x42 here 0 a).1.checked k here b c).1.InForm :=
      fun _ _ _ _ _ h => State.checked_inForm (State.checked_inForm (State.checked_inForm h))
    refine .ite (Out.keepsForm_next.2 fun h => State.crcError_inForm (hchecked _ _ _ _ _ h)) (.ite ?_ ?_)
    · split
      · exact Out.keepsForm_next.2 fun h => State.wakeSlice_inForm (hchecked _ _ _ _ _ h)
      · next heq =>
        exact Out.keepsForm_next.2 fun h => State.serveWaits_inForm (State.deliverCell_inForm (State.setBrg_inForm
          (State.setBrg_inForm (State.takeCell_inForm (hchecked _ _ _ _ _ h) heq))))
    · refine .ite (Out.keepsForm_next.2 fun h => State.loseFrame_inForm (hchecked _ _ _ _ _ h))
        (.ite (Out.keepsForm_next.2 fun h => hchecked _ _ _ _ _ h) (Out.keepsForm_next.2 fun h => ?_))
      exact State.serveWaits_inForm (State.setBrg_inForm (State.setBrg_inForm (State.setBrg_inForm (hchecked _ _ _ _ _ h))))

theorem execBridgeLaneFail_keepsForm {d ep lane : Nat} {s : State} :
    Out.KeepsForm s (execBridgeLaneFail d ep lane s) := by
  unfold execBridgeLaneFail
  grind [State.laneFail_inForm, Out.keepsForm_next]

theorem execBridgeFailoverDone_keepsForm {d ep : Nat} {s : State} : Out.KeepsForm s (execBridgeFailoverDone d ep s) := by
  unfold execBridgeFailoverDone
  grind [State.advanceTo_inForm, State.setBrg_inForm, State.bumpBy_inForm, State.raise_inForm, State.put_inForm,
    State.serveWaits_inForm, State.InForm, Out.keepsForm_next]

theorem State.setPath_inForm {s : State} {d bank bucket far code : Nat} (h : s.InForm) :
    (State.setPath s d bank bucket far code).InForm := by
  unfold State.setPath
  grind [State.setTbl_inForm]

theorem State.repin_inForm {s : State} {d bucket far a b : Nat} (h : s.InForm) :
    (State.repin s d bucket far a b).InForm := by
  unfold State.repin
  grind [State.setPath_inForm]

theorem State.rerouteWaits_inForm {s : State} {d : Nat} (h : s.InForm) : (State.rerouteWaits s d).InForm := by
  unfold State.rerouteWaits
  grind [State.updDie_inForm, State.InForm]

theorem State.repinAll_inForm {s : State} {a b : Nat} (h : s.InForm) : (State.repinAll s a b).InForm := by
  unfold State.repinAll
  grind [State.serveWaits_inForm, State.rerouteWaits_inForm, State.repin_inForm, foldl_inForm]

theorem State.loseReplay_inForm {s : State} {d far : Nat} (h : s.InForm) : (State.loseReplay s d far).InForm := by
  unfold State.loseReplay
  grind [State.loseFrame_inForm, State.InForm, foldl_inForm]

theorem execBridgeDown_keepsForm {d ep : Nat} {s : State} : Out.KeepsForm s (execBridgeDown d ep s) := by
  unfold execBridgeDown
  grind [State.put_inForm, State.setBrg_inForm, State.raise_inForm, State.repinAll_inForm, State.loseReplay_inForm,
    State.InForm, Out.keepsForm_next]

theorem execBridgeUp_keepsForm {d ep : Nat} {s : State} : Out.KeepsForm s (execBridgeUp d ep s) := by
  unfold execBridgeUp
  grind [State.put_inForm, State.serveWaits_inForm, Out.keepsForm_next]

theorem State.endGap_inForm {s : State} {d bucket far : Nat} (h : s.InForm) :
    (State.endGap s d bucket far).InForm := by
  unfold State.endGap
  grind [State.serveWaits_inForm, State.setDie_inForm, State.InForm]

theorem execDrainGapEnd_keepsForm {d bucket far : Nat} {s : State} :
    Out.KeepsForm s (execDrainGapEnd d bucket far s) := by
  unfold execDrainGapEnd
  grind [State.endGap_inForm, Out.keepsForm_next]

theorem execDrainGapExpiry_keepsForm {d bucket far : Nat} {s : State} :
    Out.KeepsForm s (execDrainGapExpiry d bucket far s) := by
  unfold execDrainGapExpiry
  grind [State.endGap_inForm, State.bump_inForm, State.advanceTo_inForm, Out.keepsForm_next]

/-! ### LinkUp -/

theorem State.lanesPut_inForm {s : State} {d p : Nat} {f : Fld} {v : Nat} (h : s.InForm) :
    (State.lanesPut s d p f v).InForm := by
  unfold State.lanesPut
  grind [State.put_inForm, foldl_inForm]

theorem execSignalDetect_keepsForm {d p : Nat} {s : State} : Out.KeepsForm s (execSignalDetect d p s) := by
  unfold execSignalDetect
  grind [State.setPState_inForm, State.lanesPut_inForm, Out.keepsForm_next]

theorem execAutonegComplete_keepsForm {d : Nat} {x : Sys2Proof.AnEnd} {s : State} :
    Out.KeepsForm s (execAutonegComplete d x s) := by
  unfold execAutonegComplete
  grind [State.pbump_inForm, State.setPState_inForm, State.lanesPut_inForm, Out.keepsForm_next]

theorem execAutonegRestart_keepsForm {d p : Nat} {s : State} : Out.KeepsForm s (execAutonegRestart d p s) := by
  unfold execAutonegRestart
  grind [State.pbump_inForm, Out.keepsForm_next]

theorem execTrainingComplete_keepsForm {d p : Nat} {s : State} : Out.KeepsForm s (execTrainingComplete d p s) := by
  unfold execTrainingComplete
  grind [State.setPState_inForm, Out.keepsForm_next]

theorem execTrainingFail_keepsForm {d p : Nat} {s : State} : Out.KeepsForm s (execTrainingFail d p s) := by
  unfold execTrainingFail
  grind [State.setPState_inForm, State.setCause_inForm, Out.keepsForm_next]

theorem State.newLock_inForm {s : State} {d p : Nat} (h : s.InForm) : (State.newLock s d p).InForm := by
  unfold State.newLock
  grind [State.pput_inForm, State.setRelka_inForm, State.InForm]

theorem execLockComplete_keepsForm {d p : Nat} {seen : Sys2Proof.LockSeen} {s : State} :
    Out.KeepsForm s (execLockComplete d p seen s) := by
  unfold execLockComplete
  grind [State.setPState_inForm, State.lanesUnlock_inForm, State.setCause_inForm, State.put_inForm,
    State.putB_inForm, State.setPort_inForm, State.newLock_inForm, State.cwStart_inForm, State.InForm,
    Out.keepsForm_next, foldl_inForm]

theorem execLockTimeout_keepsForm {d p : Nat} {s : State} : Out.KeepsForm s (execLockTimeout d p s) := by
  unfold execLockTimeout
  grind [State.advanceTo_inForm, State.setPState_inForm, State.lanesUnlock_inForm, State.setCause_inForm,
    State.InForm, Out.keepsForm_next]

theorem State.writeSums_inForm {s : State} {d p : Nat} {m : Sys2Proof.LockMeas} (h : s.InForm) :
    (State.writeSums s d p m).InForm := by
  unfold State.writeSums
  grind [State.pput_inForm, State.incr_inForm, State.pbump_inForm, State.setPort_inForm, State.InForm]

theorem execMeasuringDone_keepsForm {d p : Nat} {m : Sys2Proof.LockMeas} {s : State} :
    Out.KeepsForm s (execMeasuringDone d p m s) := by
  unfold execMeasuringDone
  grind [State.advanceTo_inForm, State.enterUp_inForm, State.writeSums_inForm, State.abandonLock_inForm,
    Out.keepsForm_next]

theorem State.lanesLose_inForm {s : State} {d p cause : Nat} (h : s.InForm) :
    (State.lanesLose s d p cause).InForm := by
  unfold State.lanesLose
  grind [State.put_inForm, State.bump_inForm, State.cwStop_inForm, foldl_inForm]

theorem State.lossExit_inForm {s : State} {d p cause : Nat} (h : s.InForm) : (State.lossExit s d p cause).InForm := by
  unfold State.lossExit
  grind [State.clearValid_inForm, State.setCause_inForm, State.pput_inForm, State.setPort_inForm,
    State.withdrawWakes_inForm, State.portTo_inForm, State.InForm]

theorem execLossCondition_keepsForm {d p cause : Nat} {s : State} : Out.KeepsForm s (execLossCondition d p cause s) := by
  unfold execLossCondition
  grind [State.lanesLose_inForm, State.sourceLost_inForm, State.clearValid_inForm, State.setPState_inForm,
    State.lanesUnlock_inForm, State.setCause_inForm, State.abandonLock_inForm, State.lossExit_inForm,
    State.setPort_inForm, State.InForm, Out.keepsForm_next]

theorem State.lanesRelock_inForm {s : State} {d p : Nat} (h : s.InForm) : (State.lanesRelock s d p).InForm := by
  unfold State.lanesRelock
  grind [State.newLock_inForm, State.cwStart_inForm, State.lanesPut_inForm]

theorem execLossConditionClear_keepsForm {d p : Nat} {s : State} : Out.KeepsForm s (execLossConditionClear d p s) := by
  unfold execLossConditionClear
  grind [State.lossExit_inForm, State.updPort_inForm, State.lanesRelock_inForm, State.pbump_inForm, State.InForm,
    Out.keepsForm_next]

theorem execDebounceExpiry_keepsForm {d p : Nat} {s : State} : Out.KeepsForm s (execDebounceExpiry d p s) := by
  unfold execDebounceExpiry
  grind [State.lossExit_inForm, State.advanceTo_inForm, Out.keepsForm_next]

theorem execRemoteFaultReceived_keepsForm {d p : Nat} {s : State} : Out.KeepsForm s (execRemoteFaultReceived d p s) := by
  unfold execRemoteFaultReceived
  grind [State.withdrawWakes_inForm, State.portTo_inForm, State.pput_inForm, State.setCause_inForm, State.InForm,
    Out.keepsForm_next]

theorem execRemoteFaultCleared_keepsForm {d p : Nat} {s : State} : Out.KeepsForm s (execRemoteFaultCleared d p s) := by
  unfold execRemoteFaultCleared
  grind [State.enterUp_inForm, State.pput_inForm, Out.keepsForm_next]

theorem execTransmitShort_keepsForm {d p lane : Nat} {s : State} : Out.KeepsForm s (execTransmitShort d p lane s) := by
  unfold execTransmitShort
  grind [State.setCause_inForm, State.put_inForm, State.withdrawWakes_inForm, State.raise_inForm,
    State.disable_inForm, State.unitRest_inForm, State.InForm, Out.keepsForm_next]

theorem execTransmitOpenSense_keepsForm {d p lane : Nat} {isOpen : Bool} {s : State} :
    Out.KeepsForm s (execTransmitOpenSense d p lane isOpen s) := by
  unfold execTransmitOpenSense
  grind [State.putB_inForm, State.raise_inForm, Out.keepsForm_next]

theorem execFecDegradeCheck_keepsForm {d p : Nat} {fec : Sys2Proof.FecCount} {s : State} :
    Out.KeepsForm s (execFecDegradeCheck d p fec s) := by
  unfold execFecDegradeCheck
  grind [State.cwSync_inForm, State.advanceTo_inForm, State.bumpBy_inForm, State.updPort_inForm,
    State.linkEvent_inForm, State.InForm, Out.keepsForm_next]

theorem execPrbsCheckerLock_keepsForm {d u l : Nat} {s : State} : Out.KeepsForm s (execPrbsCheckerLock d u l s) := by
  unfold execPrbsCheckerLock
  grind [State.bump_inForm, State.put_inForm, State.setDie_inForm, State.InForm, Out.keepsForm_next]

theorem execPrbsCheckerUnlock_keepsForm {d u l : Nat} {s : State} : Out.KeepsForm s (execPrbsCheckerUnlock d u l s) := by
  unfold execPrbsCheckerUnlock
  grind [State.prbsUnlock_inForm, State.InForm, Out.keepsForm_next]

/-! ### Ptp -/

theorem State.setEng_inForm {s : State} {d p : Nat} {x : PtpEng} (h : s.InForm) : (State.setEng s d p x).InForm := by
  unfold State.setEng
  grind [State.setPort_inForm, State.InForm]

theorem State.ptpSend_inForm {s : State} {d p ty seq time : Nat} {corr : Int} (h : s.InForm) :
    (State.ptpSend s d p ty seq time corr).InForm := by
  unfold State.ptpSend
  grind [State.send_inForm]

theorem State.toInterval_inForm {s : State} {last : Option Nat} {log : Int} (h : s.InForm) :
    (State.toInterval s last log).InForm := by
  unfold State.toInterval
  grind [State.advanceTo_inForm]

theorem execPtpSyncSend_keepsForm {d p : Nat} {s : State} : Out.KeepsForm s (execPtpSyncSend d p s) := by
  unfold execPtpSyncSend
  grind [State.toInterval_inForm, State.setEng_inForm, State.freeNat_inForm, State.ptpSend_inForm, State.InForm,
    Out.keepsForm_next]

theorem execPtpDelayReqSend_keepsForm {d p : Nat} {s : State} : Out.KeepsForm s (execPtpDelayReqSend d p s) := by
  unfold execPtpDelayReqSend
  grind [State.toInterval_inForm, State.setEng_inForm, State.ptpSend_inForm, State.InForm, Out.keepsForm_next]

theorem execPtpPdelayReqSend_keepsForm {d p : Nat} {s : State} : Out.KeepsForm s (execPtpPdelayReqSend d p s) := by
  unfold execPtpPdelayReqSend
  grind [State.toInterval_inForm, State.setEng_inForm, State.ptpSend_inForm, State.InForm, Out.keepsForm_next]

theorem State.handOver_inForm {s : State} {d p : Nat} {t : List Int} (h : s.InForm) :
    (State.handOver s d p t).InForm := by
  unfold State.handOver
  grind [State.setEng_inForm, State.InForm]

theorem State.handOffset_inForm {s : State} {d p : Nat} {t1 t2 : Int} (h : s.InForm) :
    (State.handOffset s d p t1 t2).InForm := by
  unfold State.handOffset
  grind [State.setEng_inForm, State.InForm]

theorem State.syncKnown_inForm {s : State} {d p : Nat} {t1 : Int} {t2 : Nat} (h : s.InForm) :
    (State.syncKnown s d p t1 t2).InForm := by
  unfold State.syncKnown
  grind [State.setEng_inForm, State.handOffset_inForm, State.InForm]

theorem State.rxSync_inForm {s : State} {d p : Nat} {bs : List Byte} {a t2 : Nat} (h : s.InForm) :
    (State.rxSync s d p bs a t2).InForm := by
  unfold State.rxSync
  grind [State.setEng_inForm, State.syncKnown_inForm, State.InForm]

theorem State.rxFollowUp_inForm {s : State} {d p : Nat} {bs : List Byte} {a : Nat} (h : s.InForm) :
    (State.rxFollowUp s d p bs a).InForm := by
  unfold State.rxFollowUp
  grind [State.syncKnown_inForm]

theorem State.rxDelayResp_inForm {s : State} {d p : Nat} {bs : List Byte} {a : Nat} (h : s.InForm) :
    (State.rxDelayResp s d p bs a).InForm := by
  unfold State.rxDelayResp
  grind [State.setEng_inForm, State.handOffset_inForm, State.handOver_inForm, State.InForm]

theorem State.pdelayDone_inForm {s : State} {d p t1 : Nat} {t2 t3 : Int} {t4 : Nat} (h : s.InForm) :
    (State.pdelayDone s d p t1 t2 t3 t4).InForm := by
  unfold State.pdelayDone
  grind [State.handOver_inForm, State.setEng_inForm, State.InForm]

theorem State.rxPdelayResp_inForm {s : State} {d p : Nat} {bs : List Byte} {a t4 : Nat} (h : s.InForm) :
    (State.rxPdelayResp s d p bs a t4).InForm := by
  unfold State.rxPdelayResp
  grind [State.setEng_inForm, State.pdelayDone_inForm, State.InForm]

theorem State.rxPdelayFollowUp_inForm {s : State} {d p : Nat} {bs : List Byte} {a : Nat} (h : s.InForm) :
    (State.rxPdelayFollowUp s d p bs a).InForm := by
  unfold State.rxPdelayFollowUp
  grind [State.pdelayDone_inForm]

theorem State.answerPdelay_inForm {s : State} {d p seq t2 : Nat} {corr : Int} (h : s.InForm) :
    (State.answerPdelay s d p seq t2 corr).InForm := by
  unfold State.answerPdelay
  grind [State.ptpSend_inForm, State.InForm]

theorem State.ptpTake_inForm {s : State} {d p : Nat} {bs : List Byte} {a t : Nat} (h : s.InForm) :
    (State.ptpTake s d p bs a t).InForm := by
  unfold State.ptpTake
  grind [State.rxSync_inForm, State.ptpSend_inForm, State.answerPdelay_inForm, State.rxPdelayResp_inForm,
    State.rxFollowUp_inForm, State.rxDelayResp_inForm, State.rxPdelayFollowUp_inForm, State.heardParent_inForm]

theorem execPtpMessageReceive_keepsForm {d p : Nat} {bytes : List (BitVec 8)} {s : State} :
    Out.KeepsForm s (execPtpMessageReceive d p bytes s) := by
  unfold execPtpMessageReceive
  grind [State.rxFrame_inForm, State.ptpTake_inForm, Out.keepsForm_next]

theorem execAnnounceTimeout_keepsForm {d p : Nat} {s : State} : Out.KeepsForm s (execAnnounceTimeout d p s) := by
  unfold execAnnounceTimeout
  grind [State.advanceTo_inForm, State.setEng_inForm, State.setPort_inForm, State.sourceLost_inForm,
    State.linkEvent_inForm, State.InForm, Out.keepsForm_next]

/-! ### RelkaEvents -/

theorem State.badMsg_inForm {s : State} {d p : Nat} (h : s.InForm) : (State.badMsg s d p).InForm := by
  unfold State.badMsg
  grind [State.pbump_inForm]

theorem State.rlkEvent_inForm {s : State} {d p st : Nat} (h : s.InForm) : (State.rlkEvent s d p st).InForm := by
  unfold State.rlkEvent
  grind [State.linkEvent_inForm]

theorem State.toFallback_inForm {s : State} {d p reason : Nat} (h : s.InForm) :
    (State.toFallback s d p reason).InForm := by
  unfold State.toFallback
  grind [State.updRelka_inForm, State.rlkEvent_inForm, State.rlkMoveR_inForm, State.InForm]

theorem State.dropMsg_inForm {s : State} {d p : Nat} (h : s.InForm) : (State.dropMsg s d p).InForm := by
  unfold State.dropMsg
  grind [State.badMsg_inForm, State.updRelka_inForm, State.InForm]

theorem State.endMsg_inForm {s : State} {d p kind : Nat} {act : Nat → State → State} (h : s.InForm) (hact : ∀ (m :
    Nat) (s : State), s.InForm → (act m s).InForm) : (State.endMsg s d p kind act).InForm := by
  unfold State.endMsg
  grind [State.updRelka_inForm]

theorem State.markBlock_inForm {s : State} {d p b : Nat} (h : s.InForm) : (State.markBlock s d p b).InForm := by
  unfold State.markBlock
  grind [State.freeNat_inForm, State.updRelka_inForm, State.InForm]

theorem State.rxBlock_inForm {s : State} {d p kind : Nat} {act : Nat → State → State} {b : Nat} (h : s.InForm) (hact
    : ∀ (m : Nat) (s : State), s.InForm → (act m s).InForm) : (State.rxBlock s d p kind act b).InForm := by
  unfold State.rxBlock
  grind [State.badMsg_inForm, State.dropMsg_inForm, State.endMsg_inForm, State.markBlock_inForm,
    State.updRelka_inForm, State.InForm]

theorem State.rxBlocks_inForm {s : State} {d p kind : Nat} {act : Nat → State → State} {bs : List Nat} (h :
    s.InForm) (hact : ∀ (m : Nat) (s : State), s.InForm → (act m s).InForm) :
    (State.rxBlocks s d p kind act bs).InForm := by
  unfold State.rxBlocks
  split
  · exact foldl_inForm (fun _ _ ht => State.rxBlock_inForm ht hact) _ h
  · exact h

theorem State.silentTest_inForm {s : State} {d p : Nat} (h : s.InForm) : (State.silentTest s d p).InForm := by
  unfold State.silentTest
  grind [State.toFallback_inForm, State.rlkMoveR_inForm, State.InForm]

theorem State.missed_inForm {s : State} {d p : Nat} {heard : Bool} (h : s.InForm) :
    (State.missed s d p heard).InForm := by
  unfold State.missed
  grind [State.setRelka_inForm, State.pbump_inForm, State.rlkEvent_inForm, State.rlkMoveR_inForm, State.InForm]

theorem State.answered_inForm {s : State} {d p sentAt : Nat} (h : s.InForm) :
    (State.answered s d p sentAt).InForm := by
  unfold State.answered
  grind [State.updPort_inForm, State.setRelka_inForm, State.incr_inForm, State.pput_inForm, State.rlkEvent_inForm,
    State.rlkMove_inForm, State.InForm]

theorem execRelkaResponseMiss_keepsForm {d p : Nat} {s : State} : Out.KeepsForm s (execRelkaResponseMiss d p s) := by
  unfold execRelkaResponseMiss
  grind [State.missed_inForm, State.advanceTo_inForm, Out.keepsForm_next]

theorem execRelkaSilentPeriods_keepsForm {d p : Nat} {s : State} : Out.KeepsForm s (execRelkaSilentPeriods d p s) := by
  unfold execRelkaSilentPeriods
  grind [State.silentTest_inForm, State.InForm, Out.keepsForm_next]

theorem execRelkaMessageTimeout_keepsForm {d p : Nat} {s : State} : Out.KeepsForm s (execRelkaMessageTimeout d p s) := by
  unfold execRelkaMessageTimeout
  grind [State.dropMsg_inForm, State.advanceTo_inForm, State.InForm, Out.keepsForm_next]

theorem execRelkaReqSend_keepsForm {d p : Nat} {s : State} : Out.KeepsForm s (execRelkaReqSend d p s) := by
  unfold execRelkaReqSend
  grind [State.finishTx_inForm, State.advance_inForm, State.missed_inForm, State.silentTest_inForm,
    State.setRelka_inForm, State.sendRelka_inForm, State.InForm, Out.keepsForm_next]

theorem State.takeReq_inForm {d p msg : Nat} {s : State} (h : s.InForm) : (State.takeReq d p msg s).InForm := by
  unfold State.takeReq
  grind [State.badMsg_inForm, State.toFallback_inForm, State.updRelka_inForm, State.InForm]

theorem execRelkaReqReceive_keepsForm {d p : Nat} {blocks : List Nat} {s : State} :
    Out.KeepsForm s (execRelkaReqReceive d p blocks s) := by
  exact Out.keepsForm_next.2 fun h => State.rxBlocks_inForm h fun _ _ => State.takeReq_inForm

theorem execRelkaRspSend_keepsForm {d p : Nat} {s : State} : Out.KeepsForm s (execRelkaRspSend d p s) := by
  unfold execRelkaRspSend
  grind [State.finishTx_inForm, State.advanceTo_inForm, State.sendRelka_inForm, State.updRelka_inForm, State.InForm,
    Out.keepsForm_next]

theorem State.rlkMeans_inForm {s : State} {d p : Nat} (h : s.InForm) : (State.rlkMeans s d p).InForm := by
  unfold State.rlkMeans
  grind [State.putPair_inForm, State.pput_inForm]

theorem State.rlkEpoch_inForm {s : State} {d p e : Nat} (h : s.InForm) : (State.rlkEpoch s d p e).InForm := by
  unfold State.rlkEpoch
  grind [State.setServo_inForm, State.InForm]

theorem State.soundOne_inForm {s : State} {d p : Nat} {q : RlkReq} {rspSound : Bool} {rtt : Option Int} (h :
    s.InForm) : (State.soundOne s d p q rspSound rtt).InForm := by
  unfold State.soundOne
  grind [State.setSnd_inForm, State.putPair_inForm, State.finishPart_inForm, State.InForm]

theorem State.measureOne_inForm {s : State} {d p : Nat} {q : RlkReq} {msg t4 : Nat} (h : s.InForm) :
    (State.measureOne s d p q msg t4).InForm := by
  unfold State.measureOne
  grind [State.soundOne_inForm, State.pbump_inForm, State.setRelka_inForm, State.rlkMeans_inForm, State.InForm]

theorem State.rlkNews_inForm {s : State} {d p msg : Nat} (h : s.InForm) : (State.rlkNews s d p msg).InForm := by
  unfold State.rlkNews
  grind [State.setRelka_inForm, State.traceSync_inForm, State.rlkEpoch_inForm, State.sourceLost_inForm,
    State.InForm]

theorem State.takeRsp_inForm {d p msg : Nat} {s : State} (h : s.InForm) : (State.takeRsp d p msg s).InForm := by
  unfold State.takeRsp
  grind [State.badMsg_inForm, State.toFallback_inForm, State.missed_inForm, State.rlkNews_inForm,
    State.answered_inForm, State.measureOne_inForm]

theorem execRelkaRspReceive_keepsForm {d p : Nat} {blocks : List Nat} {s : State} :
    Out.KeepsForm s (execRelkaRspReceive d p blocks s) := by
  exact Out.keepsForm_next.2 fun h => State.rxBlocks_inForm h fun _ _ => State.takeRsp_inForm

theorem State.phaseOne_inForm {s : State} {d p code : Nat} (h : s.InForm) : (State.phaseOne s d p code).InForm := by
  unfold State.phaseOne
  grind [State.setRelka_inForm, State.pbump_inForm, State.pput_inForm, State.InForm]

theorem execPhaseDelivery_keepsForm {d p : Nat} {codes : List Nat} {s : State} :
    Out.KeepsForm s (execPhaseDelivery d p codes s) := by
  unfold execPhaseDelivery
  grind [State.phaseOne_inForm, State.advanceTo_inForm, State.updRelka_inForm, State.InForm, Out.keepsForm_next,
    foldl_inForm]

theorem execSpanCheck_keepsForm {d p : Nat} {s : State} : Out.KeepsForm s (execSpanCheck d p s) := by
  unfold execSpanCheck
  dsimp only
  split
  · exact Out.keepsForm_next.2 id
  · split
    · exact Out.keepsForm_next.2 fun h => State.linkEvent_inForm (State.setRelka_inForm h)
    · exact Out.keepsForm_next.2 State.setRelka_inForm

theorem State.censusOne_inForm {s : State} {d p c sent : Nat} (h : s.InForm) :
    (State.censusOne s d p c sent).InForm := by
  unfold State.censusOne
  grind [State.putLimit_inForm, State.setCredit_inForm, State.raise_inForm, State.pbump_inForm, State.InForm]

theorem State.ownNumber_inForm {s : State} {d p msg : Nat} (h : s.InForm) : (State.ownNumber s d p msg).InForm := by
  unfold State.ownNumber
  grind [State.toFallback_inForm]

theorem State.takeCensus_inForm {d p msg : Nat} {s : State} (h : s.InForm) : (State.takeCensus d p msg s).InForm := by
  unfold State.takeCensus
  grind [State.badMsg_inForm, State.touch_inForm, State.ownNumber_inForm, State.censusOne_inForm, foldl_inForm]

theorem execCensusReceive_keepsForm {d p : Nat} {blocks : List Nat} {s : State} :
    Out.KeepsForm s (execCensusReceive d p blocks s) := by
  exact Out.keepsForm_next.2 fun h => State.rxBlocks_inForm h fun _ _ => State.takeCensus_inForm

theorem execCreditSend_keepsForm {d p c : Nat} {s : State} : Out.KeepsForm s (execCreditSend d p c s) := by
  unfold execCreditSend
  grind [State.creditSync_inForm, State.sendCredit_inForm, State.advanceTo_inForm, Out.keepsForm_next]

theorem State.creditGen_inForm {s : State} {d p gen : Nat} (h : s.InForm) : (State.creditGen s d p gen).InForm := by
  unfold State.creditGen
  grind [State.setPort_inForm, State.InForm]

theorem State.takeCredit_inForm {d p msg : Nat} {s : State} (h : s.InForm) : (State.takeCredit d p msg s).InForm := by
  unfold State.takeCredit
  grind [State.badMsg_inForm, State.creditGen_inForm, State.setCredit_inForm, State.endHold_inForm,
    State.pput_inForm, State.InForm]

theorem execCreditReceive_keepsForm {d p : Nat} {blocks : List Nat} {s : State} :
    Out.KeepsForm s (execCreditReceive d p blocks s) := by
  exact Out.keepsForm_next.2 fun h => State.rxBlocks_inForm h fun _ _ => State.takeCredit_inForm

theorem State.takeMark_inForm {d p msg : Nat} {s : State} (h : s.InForm) : (State.takeMark d p msg s).InForm := by
  unfold State.takeMark
  grind [State.badMsg_inForm, State.ownNumber_inForm, State.updPort_inForm, State.InForm]

theorem execMarkReceive_keepsForm {d p : Nat} {blocks : List Nat} {s : State} :
    Out.KeepsForm s (execMarkReceive d p blocks s) := by
  exact Out.keepsForm_next.2 fun h => State.rxBlocks_inForm h fun _ _ => State.takeMark_inForm

theorem execMarkAckSend_keepsForm {d p : Nat} {s : State} : Out.KeepsForm s (execMarkAckSend d p s) := by
  unfold execMarkAckSend
  grind [State.sendRelka_inForm, State.updRelka_inForm, State.InForm, Out.keepsForm_next]

theorem State.takeMarkAck_inForm {d p msg : Nat} {s : State} (h : s.InForm) :
    (State.takeMarkAck d p msg s).InForm := by
  unfold State.takeMarkAck
  grind [State.ownNumber_inForm, State.fenceOk_inForm, State.InForm]

theorem execMarkAckReceive_keepsForm {d p : Nat} {blocks : List Nat} {s : State} :
    Out.KeepsForm s (execMarkAckReceive d p blocks s) := by
  exact Out.keepsForm_next.2 fun h => State.rxBlocks_inForm h fun _ _ => State.takeMarkAck_inForm

/-! ### The commands -/

/-- Every command answers a state and keeps the form. -/
theorem exec_keepsForm (c : Instr) (s : State) : Out.KeepsForm s (exec c s) := by
  cases c
  exacts [execNop_keepsForm, execFenceUnit_keepsForm, execFenceCluster_keepsForm, execFenceRegion_keepsForm,
    execFenceDie_keepsForm, execFencePkg_keepsForm, execFenceSys_keepsForm, execFenceSetComplete_keepsForm,
    execFenceSysTimeout_keepsForm, execWaitTime_keepsForm, execWaitTimeDue_keepsForm, execWaitEvent_keepsForm,
    execWaitEventTimeout_keepsForm, execCfgRead_keepsForm, execCfgWrite_keepsForm, execCfgModify_keepsForm,
    execTasCancelWrite_keepsForm, execTblWrite_keepsForm, execTblDelete_keepsForm, execTblRead_keepsForm,
    execTblSearch_keepsForm, execTblCommit_keepsForm, execPortSetMode_keepsForm, execPortSetRate_keepsForm,
    execPortSetSpan_keepsForm, execPortSetPtp_keepsForm, execPortSetRelka_keepsForm, execPortSetIngress_keepsForm,
    execPortSetDscp_keepsForm, execPortUp_keepsForm, execPortDown_keepsForm, execPortLoopStart_keepsForm,
    execPortLoopEnd_keepsForm, execPortPrbsStart_keepsForm, execPortPrbsStop_keepsForm, execPortInject_keepsForm,
    execPortInjectTimeout_keepsForm, execQueSetScheduling_keepsForm, execQueSetClassShaper_keepsForm,
    execQueSetAdmission_keepsForm, execQueSetPortShaper_keepsForm, execQueSetPortFlow_keepsForm,
    execQueGatelistLoad_keepsForm, execQueGatelistOpen_keepsForm, execQueFlush_keepsForm, execMirSet_keepsForm,
    execTimeSet_keepsForm, execTimeStep_keepsForm, execTimeSlew_keepsForm, execTimeAlign_keepsForm,
    execTimeAlignApply_keepsForm, execTimeArm_keepsForm, execTimeArmDisarm_keepsForm,
    execTimeCaptureDrain_keepsForm, execTimeCaptureFlush_keepsForm, execTsqDrain_keepsForm,
    execLinkSoundBegin_keepsForm, execLinkSoundMeasure_keepsForm, execSoundMeasureTimeout_keepsForm,
    execLinkSoundSolve_keepsForm, execLinkSoundEnd_keepsForm, execLinkSoundAbort_keepsForm,
    execLinkAsymSetCfg_keepsForm, execLinkAsymSetCmis_keepsForm, execLinkAsymSetWavelengths_keepsForm,
    execLinkAsymSetConfig_keepsForm, execRefSetNominate_keepsForm, execRefSetWithdraw_keepsForm,
    execRefSelect_keepsForm, execRefForce_keepsForm, execRefRelease_keepsForm, execRefAcceptStep_keepsForm,
    execOutSet_keepsForm, execOutFreq_keepsForm, execOutRelockDone_keepsForm, execSynthUnlock_keepsForm,
    execHstSwap_keepsForm, execHstRevive_keepsForm, execHstSelftestDone_keepsForm, execHstCheckpoint_keepsForm,
    execPowWake_keepsForm, execPowSleep_keepsForm, execPowSleepTimeout_keepsForm, execPowBudget_keepsForm,
    execFltInject_keepsForm, execFltInjectTimeout_keepsForm, execFltClearKind_keepsForm, execFltClearAll_keepsForm,
    execFltClearLatches_keepsForm, execFltClearSafe_keepsForm, execFltReact_keepsForm, execCalRun_keepsForm,
    execCalRunDone_keepsForm, execCalRead_keepsForm, execCalWrite_keepsForm, execCalFactory_keepsForm,
    execCalFactoryAll_keepsForm, execDiagTally_keepsForm, execDiagLoop_keepsForm, execDiagLoopDone_keepsForm,
    execIssue_keepsForm, execTimedPark_keepsForm, execTimedActionDue_keepsForm, execCompletionRecordWrite_keepsForm,
    execBackgroundBudgetTimeout_keepsForm, execDoorbellWrite_keepsForm, execRingCtrlWrite_keepsForm,
    execRingResume_keepsForm, execCommandRingReset_keepsForm, execRingResetDone_keepsForm,
    execCompletionRingReset_keepsForm, execPacketRingReset_keepsForm, execFaceplateWrite_keepsForm,
    execFaceplateBadAccess_keepsForm, execRcRegisterRead_keepsForm, execFpIntWrite_keepsForm,
    execMsixUnmask_keepsForm, execRingIntTimer_keepsForm, execFpBootGo_keepsForm, execFpReset_keepsForm,
    execPowerGoodRise_keepsForm, execPowerGoodFall_keepsForm, execRstN_keepsForm, execWrstN_keepsForm,
    execHostPortReset_keepsForm, execSupplyDrop_keepsForm, execSourceStable_keepsForm, execSourceFail_keepsForm,
    execTailstockLrefFreeze_keepsForm, execPhaseBuildOutDone_keepsForm, execPllCoast_keepsForm,
    execPllRelockDone_keepsForm, execPllRelockTimeout_keepsForm, execFastOscTimeout_keepsForm,
    execSysReturn_keepsForm, execSysToLref_keepsForm, execLrefSelWrite_keepsForm, execPllRatioWrite_keepsForm,
    execGateIdle_keepsForm, execGateTimeout_keepsForm, execSpindleWord_keepsForm, execSpindleWordReceive_keepsForm,
    execSpindleSilent_keepsForm, execStepApply_keepsForm, execStepCommit_keepsForm, execSlewDone_keepsForm,
    execHeartbeat_keepsForm, execHeartbeatTimeout_keepsForm, execWarmingFirstWord_keepsForm,
    execWarmingTimeout_keepsForm, execDualActiveEnd_keepsForm, execHstLinkFail_keepsForm, execStandbyFail_keepsForm,
    execCheckpointWrite_keepsForm, execCkptStale_keepsForm, execTodMessage_keepsForm, execRefActivityFail_keepsForm,
    execRefGateEnd_keepsForm, execSettleWindowEnd_keepsForm, execServoLock_keepsForm, execFrameReceive_keepsForm,
    execPipelineFrame_keepsForm, execFrameTransmit_keepsForm, execPktFromHostEntry_keepsForm,
    execPfcFrameReceive_keepsForm, execPfcPauseExpiry_keepsForm, execPfcRefresh_keepsForm,
    execEgressStatusBroadcast_keepsForm, execBridgeFlitReceive_keepsForm, execBridgeLaneFail_keepsForm,
    execBridgeFailoverDone_keepsForm, execBridgeDown_keepsForm, execBridgeUp_keepsForm, execDrainGapEnd_keepsForm,
    execDrainGapExpiry_keepsForm, execFlapHoldExpiry_keepsForm, execFrerResetTimeout_keepsForm,
    execDuplicateEntryForget_keepsForm, execSignalDetect_keepsForm, execAutonegComplete_keepsForm,
    execTrainingComplete_keepsForm, execTrainingFail_keepsForm, execLockComplete_keepsForm,
    execLockTimeout_keepsForm, execMeasuringDone_keepsForm, execLossCondition_keepsForm,
    execLossConditionClear_keepsForm, execDebounceExpiry_keepsForm, execRemoteFaultReceived_keepsForm,
    execRemoteFaultCleared_keepsForm, execTransmitShort_keepsForm, execTransmitOpenSense_keepsForm,
    execFecDegradeCheck_keepsForm, execPrbsCheckerLock_keepsForm, execPrbsCheckerUnlock_keepsForm,
    execAnnounceTimeout_keepsForm, execPtpSyncSend_keepsForm, execPtpDelayReqSend_keepsForm,
    execPtpPdelayReqSend_keepsForm, execPtpMessageReceive_keepsForm, execRelkaReqSend_keepsForm,
    execRelkaReqReceive_keepsForm, execRelkaRspSend_keepsForm, execRelkaRspReceive_keepsForm,
    execRelkaResponseMiss_keepsForm, execRelkaSilentPeriods_keepsForm, execRelkaMessageTimeout_keepsForm,
    execPhaseDelivery_keepsForm, execSpanCheck_keepsForm, execCensusReceive_keepsForm, execCreditSend_keepsForm,
    execCreditReceive_keepsForm, execMarkReceive_keepsForm, execMarkAckSend_keepsForm, execMarkAckReceive_keepsForm,
    execWakeGrant_keepsForm, execPipelineWakeReady_keepsForm, execAutoSleep_keepsForm, execGatePrewake_keepsForm,
    execGatelistStart_keepsForm, execGateChange_keepsForm, execThermalSample_keepsForm, execCaptureEdge_keepsForm,
    execTriggerFire_keepsForm, execPulseEdge_keepsForm, execFaultMessage_keepsForm, execHstLinkUp_keepsForm,
    execWarmingSelfCheckFail_keepsForm, execPortInjectDone_keepsForm, execOutputRestart_keepsForm,
    execAutonegRestart_keepsForm, execReferencePulse_keepsForm, execBusMasteringEnable_keepsForm,
    execTapInstructionLoad_keepsForm]

end Sys2Proof.Machine
end

section
/-! PROOFS. The block as a whole: one step, the rows that start an instruction, the checks before its effect (R62, R63, R376,
R402), and a broadcast over the S-dies (R32). -/

namespace Sys2Proof.Machine

/-! ### One step -/

theorem exec_answers (c : Instr) (s : State) : ∃ t, exec c s = .next t := (exec_keepsForm c s).imp fun _ h => h.1

theorem step_cons {s : State} {c : Instr} {rest : List Instr} (h : s.pending = c :: rest) :
    step s = exec c { s with pending := rest } := by
  unfold step
  rw [h]

theorem step_nil {s : State} (h : s.pending = []) : step s = .next (idle s) := by
  unfold step
  rw [h]

theorem idle_inForm {s : State} (h : s.InForm) : (idle s).InForm := .ite (State.advance_inForm h) h

theorem step_inForm {s t : State} (h : s.InForm) (hstep : step s = .next t) : t.InForm := by
  cases hp : s.pending with
  | nil =>
    rw [step_nil hp] at hstep
    cases hstep
    exact idle_inForm h
  | cons c rest =>
    obtain ⟨u, hu, hform⟩ := exec_keepsForm c { s with pending := rest }
    rw [step_cons hp, hu] at hstep
    cases hstep
    exact hform h

/-- Settles O4: the form is kept by each command's effect, and by the tick of an empty queue. -/
theorem stepKeepsMemoryAndRegisterForm : Obligations.StepKeepsMemoryAndRegisterForm := by
  unfold Obligations.StepKeepsMemoryAndRegisterForm
  intro s t hmem hregs hstep
  exact State.inForm_iff.1 (step_inForm (State.inForm_iff.2 ⟨hmem, hregs⟩) hstep)

/-- Settles O1: `step` is the front command's effect, or a tick. -/
theorem stepTakesTheFrontOrTicks : Obligations.StepTakesTheFrontOrTicks := by
  unfold Obligations.StepTakesTheFrontOrTicks
  refine ⟨fun s c rest h => step_cons h, fun s h => ⟨idle s, step_nil h, ?_, ?_, ?_⟩⟩
  · intro hoff
    simp [idle, hoff]
  · intro hon i hi
    simp only [idle, hon, if_true]
    exact s.tail_advance 1 hi
  · unfold idle
    split <;> rfl

/-- Settles O3: nothing is listed at reset, so every register reads its reset word. -/
theorem resetIsInForm : Obligations.ResetIsInForm := by
  unfold Obligations.ResetIsInForm
  refine ⟨rfl, ⟨rfl, rfl⟩, rfl, rfl, fun _ _ => rfl, ?_, ?_, ?_⟩ <;> decide

/-! ### The rows that start an instruction -/

/-- A row that is an instruction starts it. -/
theorem exec_instrRow {row : (Nat → Instr) × (Cmd → Bool) × Meaning} (h : row ∈ instrRows) (n : Nat) (s : State) :
    exec (row.1 n) s = startRow s n row.2.1 row.2.2 := by
  have hall : ∀ row ∈ instrRows, exec (row.1 n) s = startRow s n row.2.1 row.2.2 := by
    simp only [instrRows, List.forall_mem_append]
    refine ⟨⟨⟨?_, ?_⟩, ?_⟩, ?_⟩
    · simp only [instrRows1, List.forall_mem_cons]; repeat' constructor
      simp
    · simp only [instrRows2, List.forall_mem_cons]; repeat' constructor
      simp
    · simp only [instrRows3, List.forall_mem_cons]; repeat' constructor
      simp
    · simp only [instrRows4, List.forall_mem_cons]; repeat' constructor
      simp
  exact hall row h

/-- Settles O2: each arm answers, and a row that is an instruction does what `Meaning.finish` makes of its effect. -/
theorem everyCommandAnswers : Obligations.EveryCommandAnswers := by
  unfold Obligations.EveryCommandAnswers
  refine ⟨exec_answers, fun row hrow n f s hstarts => ?_⟩
  have hexec : exec (row.1 n) s = .next (row.2.2.finish f s (row.2.2.run f f.cmd.loc s)) := by
    rw [exec_instrRow hrow, hstarts.startRow]
  refine ⟨fun hgoes => ?_, fun c hc hwaits => ?_, fun c hc hwaits => ?_⟩
  · rw [hexec, Meaning.finish_goes hgoes]
  · rw [hexec, Meaning.finish_awaits hc hwaits.1 hwaits.2]
  · have hdone : f.cmd.bg = false ∨ c.status ≠ stDenied := by
      rcases Decidable.not_and_iff_or_not.1 hwaits with h | h
      · exact .inl (by simpa using h)
      · exact .inr h
    rw [hexec, Meaning.finish_completes hc hdone, hstarts.num]

/-! ### The checks before the effect -/

theorem startRow_none {s : State} {n : Nat} {form : Cmd → Bool} (m : Meaning) (h : s.begins n form = none) :
    startRow s n form m = .next s := by
  simp only [startRow, h]

theorem startRow_some {s : State} {n : Nat} {form : Cmd → Bool} {f : Flight} (m : Meaning) (h : s.begins n form = some f) :
    startRow s n form m = .next (m.exec f s) := by
  simp only [startRow, h]

theorem State.begins_num {s : State} {n : Nat} {form : Cmd → Bool} {f : Flight} (h : s.begins n form = some f) :
    f.num = n := State.flight_num (State.begins_iff.1 h).1

/-- An instruction whose effect is a completion that is no refusal of tokens completes with it. -/
theorem startRow_completes {s : State} {n : Nat} {form : Cmd → Bool} {f : Flight} {m : Meaning} {c : Compl}
    (h : s.begins n form = some f) (he : (m.eff f s).2 = some c) (hc : c.status ≠ stDenied) :
    startRow s n form m = .next ((m.eff f s).1.complete n c) := by
  rw [startRow_some m h, Meaning.exec, Meaning.finish_completes he (.inr hc), State.begins_num h]

theorem Meaning.eff_refused {m : Meaning} {f : Flight} {s : State} {c : Compl}
    (h : (if f.cmd.isCast then s.castLegal f.cmd else s.legal f.cmd f.cmd.loc) = some c) : m.eff f s = (s, some c) := by
  simp only [Meaning.eff, h]

theorem Meaning.eff_bad {m : Meaning} {f : Flight} {s : State} {d : Nat}
    (h : (if f.cmd.isCast then s.castLegal f.cmd else s.legal f.cmd f.cmd.loc) = none) (hd : m.bad f.cmd s = some d) :
    m.eff f s = (s, some (badC d)) := by
  simp only [Meaning.eff, h, hd]

theorem Cmd.isCast_of_die {c : Cmd} (h : locDie c.loc ≠ 7) : c.isCast = false := by simp [Cmd.isCast, h]

theorem startRow_illegal {s : State} {n : Nat} {form : Cmd → Bool} {f : Flight} {m : Meaning} {c : Compl}
    (h : s.begins n form = some f) (hdie : locDie f.cmd.loc ≠ 7) (hl : s.legal f.cmd f.cmd.loc = some c)
    (hc : c.status ≠ stDenied) : startRow s n form m = .next (s.complete n c) := by
  have he : m.eff f s = (s, some c) := Meaning.eff_refused (by simpa [Cmd.isCast_of_die hdie] using hl)
  have := startRow_completes (m := m) h (c := c) (by rw [he]) hc
  rwa [he] at this

theorem State.legal_contained {s : State} {c : Cmd} {loc : Nat} (h : s.targetContained c loc = true) :
    s.legal c loc = some (conflictC 0xFD) := by
  simp only [State.legal, h, if_true]

theorem State.legal_safe {s : State} {c : Cmd} {loc : Nat} (h : s.targetContained c loc = false) (hs : s.safe = true)
    (hf : safeForbids c.opcode = true) : s.legal c loc = some (conflictC 0xFE) := by
  simp [State.legal, h, hs, hf]

theorem State.hs_lt (s : State) (tb : Bool) : s.hs tb < 256 := by
  have hraw : s.hsRaw tb < 256 := by
    unfold State.hsRaw State.arb State.fld fget bits
    cases tb <;> exact lt_of_lt_of_le (Nat.mod_lt _ (Nat.two_pow_pos _)) (by decide)
  unfold State.hs
  split
  · decide
  · exact hraw

/-- A headstock refuses with its state's code (R178). -/
theorem State.legal_headstock {s : State} {c : Cmd} {loc : Nat} (h : s.targetContained c loc = false)
    (hs : s.safe = true → safeForbids c.opcode = false) (hb : isBlocking c.opcode = false)
    (hd : locDie loc = 4 ∨ locDie loc = 5) (hst : s.hs (locDie loc == 5) ≠ hsActive)
    (hr : ¬(c.opcode = 0x10 ∧ locUnit loc = 5 ∧ s.hs (locDie loc == 5) = hsStandby)) :
    s.legal c loc = some { status := stConflict, detail := s.hs (locDie loc == 5) } := by
  have hforbid : (s.safe && safeForbids c.opcode) = false := by
    cases hsafe : s.safe
    · rfl
    · simp [hs hsafe]
  have hread : ¬(s.hs (locDie loc == 5) = hsStandby ∧ (c.opcode == 0x10 && locUnit loc == 5) = true) := by
    simp only [Bool.and_eq_true, beq_iff_eq]
    tauto
  simp only [State.legal, h, hforbid, hb, State.hsRefuse, if_pos hd, hst, hread, or_self, if_false, Bool.false_eq_true,
    conflictC, Nat.mod_eq_of_lt (s.hs_lt _)]

/-- Settles O5: the checks are made in this order, and each is a completion without effect. -/
theorem instructionsAreCheckedInOrder : Obligations.InstructionsAreCheckedInOrder := by
  unfold Obligations.InstructionsAreCheckedInOrder
  intro r hr n s
  refine ⟨fun hnone => ?_, fun f hbegins => ⟨fun hdie => ⟨?contained, ?safe, ?headstock⟩, ?operands⟩⟩
  · rw [exec_instrRow hr, startRow_none _ hnone]
  case contained =>
    intro hc
    rw [exec_instrRow hr, startRow_illegal hbegins hdie (State.legal_contained hc) (by decide)]
    rfl
  case safe =>
    intro hc hsafe hforbids
    rw [exec_instrRow hr, startRow_illegal hbegins hdie (State.legal_safe hc hsafe hforbids) (by decide)]
    rfl
  case headstock =>
    intro hc hsafe hblock hhst hstate hread
    rw [exec_instrRow hr, startRow_illegal hbegins hdie (State.legal_headstock hc hsafe hblock hhst hstate hread)
      (show stConflict ≠ stDenied by decide)]
  case operands =>
    intro hlegal d hbad
    have he : r.2.2.eff f s = (s, some (badC d)) := Meaning.eff_bad hlegal hbad
    rw [exec_instrRow hr, startRow_completes hbegins (by rw [he]) (show stBadOperand ≠ stDenied by decide), he]
    rfl

/-! ### Broadcasts -/

/-- The S-dies on which a broadcast's target is not contained, in ascending order (R402). -/
def State.castDies (s : State) (f : Flight) : List Nat :=
  (sDies s.part).filter (fun d => !s.targetContained f.cmd (onDie f.cmd.loc d))

/-- A broadcast that has run on those S-dies. -/
def Meaning.castRun (m : Meaning) (f : Flight) (s : State) : Cast := (s.castDies f).foldl (Cast.step m f) { st := s }

/-- Safe state refuses a forbidden broadcast on each die where it is not contained, so that none has any effect. -/
theorem Meaning.castRun_safe (m : Meaning) {f : Flight} {s : State} (hsafe : s.safe = true)
    (hforbids : safeForbids f.cmd.opcode = true) (hdies : s.castDies f ≠ []) :
    (m.castRun f s).worst = some (conflictC 0xFE) := by
  have hstep (x : Cast) (d : Nat) (hx : x.st = s) (hd : s.targetContained f.cmd (onDie f.cmd.loc d) = false) :
      Cast.step m f x d = { x with worst := if x.worst.isNone then some (conflictC 0xFE) else x.worst,
                                   first := if x.first.isNone then some 0 else x.first } := by
    have hat : m.at f (onDie f.cmd.loc d) s = (s, some (conflictC 0xFE)) := by
      simp only [Meaning.at, State.legal_safe hd hsafe hforbids]
    have hbad : isBad (conflictC 0xFE).status = true := by decide
    simp only [Cast.step, hx, hat, hbad, Bool.and_true]
    rfl
  have hrun (l : List Nat) (hl : ∀ d ∈ l, s.targetContained f.cmd (onDie f.cmd.loc d) = false) (x : Cast)
      (hx : x.st = s) (hw : x.worst = some (conflictC 0xFE)) : (l.foldl (Cast.step m f) x).worst = some (conflictC 0xFE) := by
    induction l generalizing x with
    | nil => exact hw
    | cons d l ih =>
      rw [List.foldl_cons, hstep x d hx (hl d List.mem_cons_self)]
      exact ih (fun e he => hl e (List.mem_cons_of_mem _ he)) _ hx (by simp [hw])
  have hmem : ∀ d ∈ s.castDies f, s.targetContained f.cmd (onDie f.cmd.loc d) = false := by
    intro d hd
    simpa using (List.mem_filter.1 hd).2
  unfold Meaning.castRun
  generalize s.castDies f = dies at hdies hmem
  cases dies with
  | nil => exact absurd rfl hdies
  | cons d l =>
    rw [List.foldl_cons, hstep _ d rfl (hmem d List.mem_cons_self)]
    exact hrun l (fun e he => hmem e (List.mem_cons_of_mem _ he)) _ rfl rfl

theorem State.castLegal_iff {s : State} {f : Flight} : s.castDies f = [] ↔
    (sDies s.part).all (fun d => s.targetContained f.cmd (onDie f.cmd.loc d)) = true := by
  simp [State.castDies, List.filter_eq_nil_iff]

/-- The effect of a broadcast that may execute. -/
theorem Meaning.eff_cast {m : Meaning} {f : Flight} {s : State} (hcast : f.cmd.isCast = true)
    (hlegal : s.castLegal f.cmd = none) (hbad : m.bad f.cmd s = none) : m.eff f s = broadcast m f s := by
  simp only [Meaning.eff, hcast, if_true, hlegal, hbad]

theorem broadcast_worst {m : Meaning} {f : Flight} {s : State} {c : Compl} (h : (m.castRun f s).worst = some c) :
    broadcast m f s = (if c.status = stFault then (m.castRun f s).st else s, some c) := by
  unfold Meaning.castRun State.castDies at *
  simp only [broadcast, h]

theorem broadcast_done {m : Meaning} {f : Flight} {s : State} (h : (m.castRun f s).worst = none) :
    broadcast m f s = if (m.castRun f s).goes then ((m.castRun f s).st, none)
      else if (s.castDies f).length < (sDies s.part).length then ((m.castRun f s).st, some (conflictC 0xFD))
      else ((m.castRun f s).st, some (okC ((m.castRun f s).first.getD 0))) := by
  unfold Meaning.castRun State.castDies at *
  simp only [broadcast, h]

/-- Settles O6: the legal-state check of the whole broadcast, then its run over the dies that are left. -/
theorem broadcastsRunOnEveryDieOrNone : Obligations.BroadcastsRunOnEveryDieOrNone := by
  unfold Obligations.BroadcastsRunOnEveryDieOrNone
  intro r hr n f s hbegins hbad hdie hblock free x
  have hcast : f.cmd.isCast = true := by simp [Cmd.isCast, hdie, hblock]
  have hfree : s.castDies f = free := rfl
  have hx : r.2.2.castRun f s = x := rfl
  rw [exec_instrRow hr, ← hfree, ← hx]
  have hrefused {c : Compl} (hc : s.castLegal f.cmd = some c) (hd : c.status ≠ stDenied) :
      startRow s n r.2.1 r.2.2 = .next (s.complete n c) := by
    have he : r.2.2.eff f s = (s, some c) := Meaning.eff_refused (by simpa [hcast] using hc)
    have hdone := startRow_completes (m := r.2.2) hbegins (c := c) (by rw [he]) hd
    rwa [he] at hdone
  refine ⟨fun hnone => ?_, fun hsome => ?_⟩
  · exact hrefused (by simp only [State.castLegal, State.castLegal_iff.1 hnone, if_true]) (by decide)
  have hleft : (sDies s.part).all (fun d => s.targetContained f.cmd (onDie f.cmd.loc d)) = false := by
    simpa using fun h => hsome (State.castLegal_iff.2 h)
  by_cases hsafe : s.safe = true ∧ safeForbids f.cmd.opcode = true
  · have hworst := r.2.2.castRun_safe hsafe.1 hsafe.2 hsome
    have hexec := hrefused (c := conflictC 0xFE) (by simp [State.castLegal, hleft, hsafe.1, hsafe.2]) (by decide)
    rw [hworst]
    refine ⟨fun c hc => ?_, fun h => by cases h⟩
    cases hc
    exact ⟨fun _ _ => hexec, fun h => absurd h (by decide), fun _ h => absurd h (by decide)⟩
  have hlegal : s.castLegal f.cmd = none := by
    simpa [State.castLegal, hleft] using hsafe
  have heff : r.2.2.eff f s = broadcast r.2.2 f s := Meaning.eff_cast hcast hlegal hbad
  refine ⟨fun c hc => ?_, fun hdone => ?_⟩
  · have hb := broadcast_worst hc
    rw [startRow_some _ hbegins, Meaning.exec, heff, hb]
    refine ⟨fun hfault hwaits => ?_, fun hfault => ?_, fun hbg hdenied => ?_⟩
    · rw [if_neg hfault, Meaning.finish_completes rfl (by simpa using (Decidable.not_and_iff_or_not.1 hwaits)),
        State.begins_num hbegins]
    · rw [if_pos hfault, Meaning.finish_completes rfl (.inr (by rw [hfault]; decide)), State.begins_num hbegins]
    · rw [Meaning.finish_awaits rfl hbg hdenied]
  · rw [startRow_some _ hbegins, Meaning.exec, heff, broadcast_done hdone]
    refine ⟨fun hgoes => ?_, fun hgoes => ⟨fun hlt => ?_, fun heq => ?_⟩⟩
    · rw [if_pos hgoes, Meaning.finish_goes rfl]
    · rw [if_neg (by simp [hgoes]), if_pos hlt, Meaning.finish_completes rfl (.inr (by decide)), State.begins_num hbegins]
    · rw [if_neg (by simp [hgoes]), if_neg (by omega),
        Meaning.finish_completes rfl (.inr (show stOk ≠ stDenied by decide)),
        State.begins_num hbegins]

end Sys2Proof.Machine
end

section
/-! PROOFS. Completions (R54, R55, R57, R62, R72): what a completion makes of its instruction, of the rings, and of host memory. -/

namespace Sys2Proof.Machine

/-! ### Rings and issued instructions under the operations of a completion -/

@[simp] theorem State.msix_plyn (s : State) (v : Nat) : (s.msix v).plyn = s.plyn := by
  unfold State.msix
  split <;> rfl

@[simp] theorem State.fpInt_plyn (s : State) (b : Nat) : (s.fpInt b).plyn = s.plyn := by
  unfold State.fpInt
  dsimp only
  split <;> simp

@[simp] theorem State.haltOn_plyn (s : State) (ring status : Nat) : (s.haltOn ring status).plyn = s.plyn := by
  unfold State.haltOn
  split <;> simp

@[simp] theorem State.ringTest_plyn (s : State) (n : Nat) : (s.ringTest n).plyn = s.plyn := by
  unfold State.ringTest
  split <;> simp [State.ringFire]

@[simp] theorem State.ringTest_rings (s : State) (n : Nat) : (s.ringTest n).rings = s.rings := by
  unfold State.ringTest
  split <;> simp [State.ringFire]

@[simp] theorem State.dmaPut_plyn (s : State) (a : Nat) (bs : List Byte) : (s.dmaPut a bs).plyn = s.plyn := by
  unfold State.dmaPut State.dmaWrite
  split <;> rfl

@[simp] theorem State.dmaPut_rings (s : State) (a : Nat) (bs : List Byte) : (s.dmaPut a bs).rings = s.rings := by
  unfold State.dmaPut State.dmaWrite
  split <;> rfl

@[simp] theorem State.pushEntry_plyn (s : State) (n len entry : Nat) : (s.pushEntry n len entry).plyn = s.plyn := by
  simp [State.pushEntry]

theorem State.ring_congr {s t : State} (h : t.rings = s.rings) (n : Nat) : t.ring n = s.ring n := by
  simp only [State.ring, h]

/-- An entry moves the TAIL of its ring on by one (R46). -/
theorem State.tail_pushEntry (s : State) (n len entry : Nat) :
    ((s.pushEntry n len entry).ring n).tail = ((s.ring n).tail + 1) % (s.ring n).span := by
  simp [State.pushEntry, State.ring]

theorem State.ring_pushEntry_ne (s : State) {n m : Nat} (len entry : Nat) (h : m ≠ n) :
    (s.pushEntry n len entry).ring m = s.ring m := by
  simp [State.pushEntry, State.ring, Tab.get_set_ne _ _ _ h]

/-- A ring with HOE that is not halted halts on a bad status (R72). -/
theorem State.ring_haltOn_self (s : State) (ring status : Nat) :
    (s.haltOn ring status).ring ring =
      if (s.ring ring).hoe && isBad status && !(s.ring ring).halted then
        { s.ring ring with halted := true, haltStatus := status } else s.ring ring := by
  unfold State.haltOn
  split
  · rw [State.ring_congr (State.fpInt_rings _ _), State.ring_setRing_self]
  · rfl

@[simp] theorem State.reported_plyn (s : State) (f : Flight) (status : Nat) : (s.reported f status).plyn = s.plyn := by
  have hcount : (if status = stDenied then s.bump locLed R.POW_CNT_DENIED else s).plyn = s.plyn := by
    split <;> simp
  simp only [State.reported]
  split <;> simp [hcount]

/-- What a completion leaves of its own command ring before the record: BLOCKED is released and the ring may halt. -/
theorem State.ring_reported_self (s : State) (f : Flight) (status : Nat) :
    ((s.reported f status).ring f.ring).retired = (s.ring f.ring).retired ∧
      ((s.reported f status).ring f.ring).halted = ((s.haltOn f.ring status).ring f.ring).halted ∧
      ((s.reported f status).ring f.ring).haltStatus = ((s.haltOn f.ring status).ring f.ring).haltStatus := by
  have hcount : (if status = stDenied then s.bump locLed R.POW_CNT_DENIED else s).ring f.ring = s.ring f.ring := by
    split <;> rfl
  have hhalt : ((if status = stDenied then s.bump locLed R.POW_CNT_DENIED else s).haltOn f.ring status).ring f.ring =
      (s.haltOn f.ring status).ring f.ring := by
    rw [State.ring_haltOn_self, State.ring_haltOn_self, hcount]
  have hretired : ((s.haltOn f.ring status).ring f.ring).retired = (s.ring f.ring).retired := by
    rw [State.ring_haltOn_self]
    split <;> rfl
  simp only [State.reported]
  split
  · rw [State.ring_setRing_self, hhalt]
    exact ⟨hretired, rfl, rfl⟩
  · rw [hhalt]
    exact ⟨hretired, rfl, rfl⟩

/-- An entry whose place is in host memory leaves the bulk window. -/
theorem State.bulk_pushEntry_host {s : State} {n len : Nat} (entry : Nat)
    (hroute : s.route ((s.ring n).base + len * ((s.ring n).tail % 2 ^ (s.ring n).sizeLog2)) len = .host) :
    (s.pushEntry n len entry).env.bulk = s.env.bulk := by
  have hput := State.dmaPut_host (bs := leBytes len entry) (by rw [length_leBytes]; exact hroute)
  simp only [State.pushEntry, State.ringTest_env, State.setRing_env, hput]

/-! ### An untimed instruction that retires -/

theorem State.flight_retire {s : State} {f g : Flight} (h : s.flight f.num = some g) :
    (s.retire f).flight f.num = some { f with phase := .retired, tags := [], entry := false } := by
  simp only [State.retire]
  rw [State.flight_congr (State.setRing_plyn _ _ _)]
  exact State.flight_setFlight_self (f := { f with phase := .retired, tags := [], entry := false }) h

theorem State.ring_retire_self (s : State) (f : Flight) :
    (s.retire f).ring f.ring = { s.ring f.ring with retired := ((s.ring f.ring).retired + 1) % 2 ^ 32 } := by
  simp only [State.retire, State.ring_setRing_self]
  rfl

theorem State.ring_retire_ne (s : State) {f : Flight} {m : Nat} (h : m ≠ f.ring) : (s.retire f).ring m = s.ring m := by
  simp only [State.retire, State.ring_setRing_ne _ _ h]
  rfl

/-- An untimed completion without a record to write retires the instruction at once (R55). -/
theorem State.deliver_untimed_silent {s : State} {f : Flight} {status : Nat} (detail result time : Nat)
    (htimed : f.cmd.timed = false) (hwants : f.wantsRec status = false) :
    s.deliver f status detail result time = s.retire f := by
  simp [State.deliver, State.afterRec, State.lastOf, hwants, htimed]

/-- A record without room waits in its instruction (R55). -/
theorem State.deliver_closed {s : State} {f : Flight} {status : Nat} (detail result time : Nat)
    (hwants : f.wantsRec status = true) (hopen : s.ringOpen (s.cqOf f.ring) = false) :
    s.deliver f status detail result time = s.setFlight { f with phase := .record status detail result time } := by
  simp [State.deliver, hwants, hopen]

theorem Flight.wantsRec_silent {f : Flight} (h : f.cmd.always = false) : f.wantsRec stOk = false := by
  simp [Flight.wantsRec, h]

theorem State.flight_reported {s : State} {n : Nat} {f : Flight} (status : Nat) (h : s.flight n = some f) :
    (s.reported f status).flight (f.tallied status).num = some f := by
  rw [State.flight_congr (State.reported_plyn s f status), show (f.tallied status).num = f.num from rfl,
    State.flight_num h]
  exact h

/-! ### The obligations -/

/-- Settles O7: the record is pushed on the completion ring, then the instruction retires on its own. -/
theorem completionWritesARecordAndRetires : Obligations.CompletionWritesARecordAndRetires := by
  unfold Obligations.CompletionWritesARecordAndRetires
  intro n f s c hflight htimed hlate hmute hwf hwants hring hopen q a t
  have hrec := Flight.wantsRec_of_not_mute hmute hwants
  have hcq : s.cqOf f.ring ≠ f.ring := s.cqOf_ne hring
  obtain ⟨hretired, -, -⟩ := s.ring_reported_self f c.status
  have hsame := s.reported_ring_ne c.status hcq
  have hfound := State.flight_reported c.status hflight
  have hopen' : (s.reported f c.status).ringOpen ((s.reported f c.status).cqOf (f.tallied c.status).ring) = true := by
    rw [show (f.tallied c.status).ring = f.ring from rfl, State.reported_cqOf,
      State.ringOpen_congr 16 (s.reported_env f c.status) hsame, hopen]
  have ht : t = ((s.reported f c.status).putRec (f.tallied c.status) c.status c.detail c.result
      (f.started.getD (c.time.getD (tx64 (s.nowU f.cmd.timeDie))))).retire (f.tallied c.status) := by
    rw [← State.deliver_untimed_open (f := f.tallied c.status) _ _ _ htimed hrec hopen']
    exact State.complete_untimed c hflight htimed hlate
  refine ⟨?flight, ?tail, ?retired, fun hroute => ⟨fun i hi => ?_, fun b hb => ?_, ?_⟩⟩
  case flight =>
    refine ⟨{ f.tallied c.status with phase := .retired, tags := [], entry := false }, ?_, rfl, rfl, rfl⟩
    rw [ht, ← State.flight_num hflight]
    exact State.flight_retire (f := f.tallied c.status) (g := f)
      ((State.flight_congr (State.pushEntry_plyn _ _ _ _) _).trans hfound)
  case tail =>
    rw [ht, State.ring_retire_ne _ (f := f.tallied c.status) hcq]
    simp only [State.putRec]
    rw [show (f.tallied c.status).ring = f.ring from rfl, State.reported_cqOf, State.tail_pushEntry, hsame]
  case retired =>
    rw [ht, show f.ring = (f.tallied c.status).ring from rfl, State.ring_retire_self]
    simp only [State.putRec]
    rw [show (f.tallied c.status).ring = f.ring from rfl, State.reported_cqOf, State.ring_pushEntry_ne _ _ _ hcq.symm,
      hretired]
  all_goals
    have hmem := State.mem_complete_host hflight htimed hlate hrec hring hopen rfl hroute
  · rw [hmem, memByte_memPuts_leBytes _ _ hwf.1 hi]
  · rw [hmem, memByte_memPuts_out _ _ _ (by rw [length_leBytes]; exact hb)]
  · rw [ht]
    refine (State.bulk_pushEntry_host (s := s.reported f c.status) _ ?_).trans (by rw [State.reported_env])
    rw [show (f.tallied c.status).ring = f.ring from rfl, State.reported_cqOf, hsame]
    simpa only [State.route, State.reported_env] using hroute

/-! A ring's CQ and the number of a completion ring are not bounded in the state; 4,194,048 is a ring whose interrupt register
lies 2^24 bytes behind the faceplate's first, under the key of another location's register. -/

/-- A part whose ring 0 reports to ring 4,194,048, enabled and with its interrupt armed, while instruction 0 executes. -/
def farRing : State :=
  { State.reset with
    env := { State.reset.env with busMaster := true }
    regs := [(regKey (locFp + 1) 0, 0x300)]
    rings := [(0, { cq := 4194016 }), (4194048, { en := true, sinceArm := 1 })]
    plyn := { flights := [{ num := 0, ring := 0, cmd := { always := true }, td := {}, tags := [], tag0 := 0, phase := .exec 0 }] } }

/-- Its record sends the interrupt of ring 4,194,048, which disarms it in a register of another location. -/
theorem farRing_disarms : (farRing.complete 0 { status := stOk }).reg (locFp + 1) 0 ≠ farRing.reg (locFp + 1) 0 := by
  decide

/-- Refutes O8: the statement lets a completion change faceplate registers only, for every state. The state does not bound a
ring's CQ; where it names a ring whose interrupt register lies beyond the faceplate, sending that ring's message changes a
register of another location. -/
theorem not_completionsWithoutARecordAndFrame : ¬ Obligations.CompletionsWithoutARecordAndFrame := by
  unfold Obligations.CompletionsWithoutARecordAndFrame
  rintro ⟨-, -, hframe⟩
  obtain ⟨-, -, hregs, -⟩ := hframe 0 farRing { status := stOk }
  exact farRing_disarms (hregs (locFp + 1) 0 (by decide) (by decide) (.inl (by decide)))

end Sys2Proof.Machine
end

section
/-! PROOFS. The CTL group: NOP and the waits (R81, R409, R410). -/

namespace Sys2Proof.Machine

/-! ### Rows that start an instruction, by what its effect answers -/

/-- An instruction that starts and goes on. -/
theorem Starts.startRow_goes {form : Cmd → Bool} {m : Meaning} {n : Nat} {f : Flight} {s t : State} (h : Starts form m n f s)
    (hrun : m.run f f.cmd.loc s = (t, none)) : Sys2Proof.Machine.startRow s n form m = .next t := by
  rw [h.startRow, hrun, Meaning.finish_goes rfl]

/-- An instruction that starts and completes with anything but a refusal of tokens. -/
theorem Starts.startRow_completes {form : Cmd → Bool} {m : Meaning} {n : Nat} {f : Flight} {s t : State} {c : Compl}
    (h : Starts form m n f s) (hrun : m.run f f.cmd.loc s = (t, some c)) (hc : c.status ≠ stDenied) :
    Sys2Proof.Machine.startRow s n form m = .next (t.complete n c) := by
  rw [h.startRow, hrun, Meaning.finish_completes rfl (.inr hc), h.num]

/-- A fence or a wait that begins passes every check but that of its operands (R178, R409; log entry 51). -/
theorem startRow_blocking_bad {s : State} {n op d : Nat} {f : Flight} {m : Meaning} (h : s.begins n (isOp op) = some f)
    (hblock : isBlocking op = true) (hsafe : safeForbids op = false) (hbad : m.bad f.cmd s = some d) :
    startRow s n (isOp op) m = .next (s.complete n { status := stBadOperand, detail := d }) := by
  obtain ⟨-, -, -, hform, -⟩ := State.begins_iff.1 h
  have hop : f.cmd.opcode = op := by simpa [isOp] using hform
  have he : m.eff f s = (s, some (badC d)) :=
    Meaning.eff_bad (by simp [Cmd.isCast, State.legal, State.targetContained, hop, hblock, hsafe]) hbad
  rw [Sys2Proof.Machine.startRow_completes h (by rw [he]) (show stBadOperand ≠ stDenied by decide), he]
  rfl

/-! ### The end of a wait -/

/-- Time passes to the first tick at or after an instant on the event tailstock, and no further (R82). -/
theorem State.fu_advance_before {s : State} {u k : Nat} (hk : k = ceilDiv (5 * u - (s.tail 5).fu) fuTick) (hpos : k ≠ 0) :
    ((s.advance (k - 1)).tail 5).fu < 5 * u := by
  rw [s.fu_advance _ (t := 5) (by omega)]
  unfold ceilDiv fuTick at *
  omega

theorem exec_waitTimeDue_past {n due : Nat} {f : Flight} {s : State} (hflight : s.flight n = some f)
    (hphase : f.phase = .exec due) (hop : f.cmd.opcode = 0x08) (hpast : sdiff f.cmd.opb s.txNow ≤ 0) :
    exec (.waitTimeDue n) s = .next ((s.advance 1).complete n { status := stOk }) := by
  have hgoing : s.going n (isOp 0x08) = some (f, due) := State.going_iff.2 ⟨hflight, hphase, by simp [isOp, hop]⟩
  show execWaitTimeDue n s = _
  simp only [execWaitTimeDue, hgoing, if_neg (not_lt.2 hpast)]
  rfl

/-- Settles O9: each wait goes on from its start, and its end completes it with the time that has come. -/
theorem nopAndWaitsComplete : Obligations.NopAndWaitsComplete := by
  unfold Obligations.NopAndWaitsComplete
  refine ⟨?nop, ?waitTime, ?waitEvent⟩
  case nop =>
    intro n f s hstarts
    exact hstarts.startRow_completes rfl (show stOk ≠ stDenied by decide)
  case waitTime =>
    intro n f s
    refine ⟨fun hstarts => ⟨fun hnear => ?_, fun hfar => ?_⟩, fun due hflight hphase hop => ⟨fun hpast => ?_, fun hahead => ?_⟩⟩
    · obtain ⟨-, hphase, hrest⟩ := State.goesOn_spec 0 hstarts.flight
      refine ⟨_, hstarts.startRow_goes (t := (s.goesOn n 0).1) ?_, hphase, hrest⟩
      simp only [mWaitTime, if_neg hnear, hstarts.num]
      rfl
    · refine hstarts.startRow_completes ?_ (show stHorizon ≠ stDenied by decide)
      simp only [mWaitTime, if_pos hfar]
    · exact exec_waitTimeDue_past hflight hphase hop hpast
    · refine ⟨_, exec_waitTimeDue_ahead hflight hphase hop hahead, s.fu_advanceToU _, ?_⟩
      exact (Nat.eq_zero_or_pos _).imp id fun hpos => State.fu_advance_before rfl hpos.ne'
  case waitEvent =>
    intro n f s
    refine ⟨fun hstarts => ?_, fun hbegins hbad => ?_, fun due hflight hphase hop => ⟨?_, ?_, ?_⟩, ?_⟩
    · obtain ⟨-, hphase, hrest⟩ := State.goesOn_spec (f.at_ + 625 * (f.cmd.opb % 2 ^ 32)) hstarts.flight
      refine ⟨_, hstarts.startRow_goes (t := (s.goesOn n (f.at_ + 625 * (f.cmd.opb % 2 ^ 32))).1) ?_, hphase, hrest⟩
      simp only [mWaitEvent, hstarts.num]
      rfl
    · refine startRow_blocking_bad hbegins (by decide) (by decide) ?_
      have : f.cmd.opa % 16 == 0 || decide (7 < f.cmd.opa % 16) || f.cmd.opb % 2 ^ 32 == 0 := by
        simpa [or_assoc] using hbad
      simp only [mWaitEvent, rangeBad, this, if_true]
    · have hgoing : s.going n (isOp 0x09) = some (f, due) := State.going_iff.2 ⟨hflight, hphase, by simp [isOp, hop]⟩
      show execWaitEventTimeout n s = _
      simp only [execWaitEventTimeout, hgoing]
    · rw [State.now_advanceTo]
      exact le_max_right _ _
    · rw [State.now_advanceTo]
      exact le_max_left _ _
    · intro kind result time hnum hwaits
      rw [State.wakeWaits, hwaits, List.foldl_cons, List.foldl_nil, hnum]

end Sys2Proof.Machine
end

section
/-! PROOFS. Fences (R68 to R71, R144, R145, R178): the set taken at the start, the MARKs, and the end. -/

namespace Sys2Proof.Machine

/-! ### A Relka message towards a port (R121) -/

section
variable (s : State) (d p kind msg : Nat)

/-- A message leaves, or waits at its port behind the frame in transmission; nothing else changes. -/
theorem State.sendRelka_rest : { s.sendRelka d p kind msg with sent := s.sent, ports := s.ports } = s := by
  unfold State.sendRelka State.sendCtl
  split
  · split <;> rfl
  · rfl

theorem State.sendRelka_regs : (s.sendRelka d p kind msg).regs = s.regs := by
  conv_rhs => rw [← s.sendRelka_rest d p kind msg]

theorem State.sendRelka_part : (s.sendRelka d p kind msg).part = s.part := by
  conv_rhs => rw [← s.sendRelka_rest d p kind msg]

theorem State.mem_sent_sendRelka {x : Sent} (h : x ∈ s.sent) : x ∈ (s.sendRelka d p kind msg).sent := by
  unfold State.sendRelka State.sendCtl
  split
  · split
    · exact h
    · exact List.mem_cons_of_mem _ h
  · exact h

/-- What a message does to a port's record: it may join what waits there. -/
theorem State.port_sendRelka (d' p' : Nat) :
    ((s.sendRelka d p kind msg).port d' p').sending = (s.port d' p').sending ∧
      ∀ x ∈ (s.port d' p').ctl, x ∈ ((s.sendRelka d p kind msg).port d' p').ctl := by
  unfold State.sendRelka State.sendCtl
  split
  · split
    · by_cases hkey : portKey d' p' = portKey d p
      · have hport : s.port d' p' = s.port d p := by simp only [State.port, hkey]
        have hset (x : Port) : (s.setPort d p x).port d' p' = x := by
          simp only [State.port, State.setPort_ports, hkey, Tab.get_set_self]
        rw [hset, hport]
        exact ⟨rfl, fun x hx => List.mem_append_left _ hx⟩
      · rw [State.port_setPort_ne _ _ hkey]
        exact ⟨rfl, fun x hx => hx⟩
    · exact ⟨rfl, fun x hx => hx⟩
  · exact ⟨rfl, fun x hx => hx⟩

theorem State.sendRelka_idle (hloop : s.pfld d p R.PORT_STAT_LOOP = 0) (hidle : (s.port d p).sending = none) :
    .relka d p kind (relkaBlocks kind msg) ∈ (s.sendRelka d p kind msg).sent := by
  simp [State.sendRelka, hloop, State.sendCtl, hidle, State.emitCtl, State.send]

theorem State.sendRelka_busy (hloop : s.pfld d p R.PORT_STAT_LOOP = 0) (hbusy : (s.port d p).sending.isSome = true) :
    .relka kind (relkaBlocks kind msg) ∈ ((s.sendRelka d p kind msg).port d p).ctl := by
  simp [State.sendRelka, hloop, State.sendCtl, hbusy]

end

/-! ### The MARKs of a FENCE.SYS (R144) -/

/-- One MARK of a fence, towards a partner over a port. -/
def State.sendMark (id : Nat) (s : State) (w : Nat × Nat) : State :=
  s.sendRelka (w.2 / 128) (w.2 % 128) 5 (markMsg id (s.arb R.RLK_SYS_PKG_NUM) (s.arb R.RLK_SYS_SYS_EPOCH))

theorem State.sendMark_rest (id : Nat) (s : State) (w : Nat × Nat) :
    { s.sendMark id w with sent := s.sent, ports := s.ports } = s := s.sendRelka_rest _ _ _ _

theorem State.foldl_sendMark_rest (id : Nat) (l : List (Nat × Nat)) (s : State) :
    { l.foldl (State.sendMark id) s with sent := s.sent, ports := s.ports } = s := by
  induction l generalizing s with
  | nil => rfl
  | cons w l ih =>
    conv_rhs => rw [← s.sendMark_rest id w, ← ih (s.sendMark id w)]
    rfl

/-- Every MARK has left or waits behind the frame in transmission (R121). -/
theorem State.foldl_sendMark_mem (id : Nat) (l : List (Nat × Nat)) (s : State) :
    (∀ x ∈ s.sent, x ∈ (l.foldl (State.sendMark id) s).sent) ∧
    (∀ d p, ∀ x ∈ (s.port d p).ctl, x ∈ ((l.foldl (State.sendMark id) s).port d p).ctl) ∧
    ∀ w ∈ l, s.pfld (w.2 / 128) (w.2 % 128) R.PORT_STAT_LOOP = 0 →
      let out := relkaBlocks 5 (markMsg id (s.arb R.RLK_SYS_PKG_NUM) (s.arb R.RLK_SYS_SYS_EPOCH))
      ((s.port (w.2 / 128) (w.2 % 128)).sending = none →
        .relka (w.2 / 128) (w.2 % 128) 5 out ∈ (l.foldl (State.sendMark id) s).sent) ∧
      ((s.port (w.2 / 128) (w.2 % 128)).sending.isSome = true →
        .relka 5 out ∈ ((l.foldl (State.sendMark id) s).port (w.2 / 128) (w.2 % 128)).ctl) := by
  induction l generalizing s with
  | nil => exact ⟨fun _ hx => hx, fun _ _ _ hx => hx, by simp⟩
  | cons w l ih =>
    obtain ⟨hsent, hctl, hmarks⟩ := ih (s.sendMark id w)
    have hfld (loc : Nat) (f : Fld) : (s.sendMark id w).fld loc f = s.fld loc f :=
      State.fld_congr (s.sendRelka_regs _ _ _ _) (s.sendRelka_part _ _ _ _) loc f
    refine ⟨fun x hx => hsent x (s.mem_sent_sendRelka _ _ _ _ hx),
      fun d p x hx => hctl d p x ((s.port_sendRelka _ _ _ _ d p).2 x hx), fun v hv hloop => ?_⟩
    rcases List.mem_cons.1 hv with rfl | hv
    · exact ⟨fun hidle => hsent _ (s.sendRelka_idle _ _ _ _ hloop hidle),
        fun hbusy => hctl _ _ _ (s.sendRelka_busy _ _ _ _ hloop hbusy)⟩
    · obtain ⟨hidle, hbusy⟩ := hmarks v hv (by rw [State.pfld, hfld]; exact hloop)
      rw [← (s.port_sendRelka _ _ _ _ _ _).1]
      simp only [State.arb, hfld] at hidle hbusy
      exact ⟨hidle, hbusy⟩

/-! ### The start of a fence -/

/-- The state in which a fence has taken its place: the ring's next fence reports from behind it (R71). -/
def State.fencePlaced (s : State) (f : Flight) : State :=
  s.setRing f.ring { s.ring f.ring with fenceFrom := f.num + 1 }

/-- The tracker of a fence that starts (R68, R71). -/
def State.newFence (s : State) (f : Flight) : Fence :=
  let members := (s.plyn.flights.filter ((s.fencePlaced f).inSet f)).map Flight.num
  { members := members, report := members.filter (fun k => decide ((s.ring f.ring).fenceFrom ≤ k)),
    mask := f.cmd.opb % 2 ^ 32 }

/-- A fence at a headstock that refuses it (R178). -/
theorem mFence_run_refused {f : Flight} {loc : Nat} {s : State} {c : Compl} (h : s.hsRefuse loc false = some c) :
    mFence.run f loc s = (s.fencePlaced f, some c) := by
  have hplaced : (s.fencePlaced f).hsRefuse loc false = some c := h
  unfold State.fencePlaced at *
  simp only [mFence, hplaced]

/-- A FENCE.SYS with a partner that no port qualifies for (R70). -/
theorem mFence_run_noTarget {f : Flight} {loc q : Nat} {s : State} (h : s.hsRefuse loc false = none)
    (hq : (s.partners f.cmd).find? (fun q => (s.markPorts q).isEmpty) = some q) :
    mFence.run f loc s = (s.fencePlaced f, some { status := stNoTarget, detail := q }) := by
  have hplaced : (s.fencePlaced f).hsRefuse loc false = none := h
  have hfind : ((s.fencePlaced f).partners f.cmd).find? (fun q => ((s.fencePlaced f).markPorts q).isEmpty) = some q := hq
  unfold State.fencePlaced at *
  simp only [mFence, hplaced, hfind]

/-- A fence that waits for its set. -/
theorem mFence_run_waits {f : Flight} {loc : Nat} {s : State} (h : s.hsRefuse loc false = none)
    (hq : (s.partners f.cmd).find? (fun q => (s.markPorts q).isEmpty) = none) :
    mFence.run f loc s = ({ s.fencePlaced f with
      plyn := { s.plyn with fences := Tab.set s.plyn.fences f.num (s.newFence f) } } : State).goesOn f.num
        (f.at_ + fenceTicks f.cmd) := by
  have hplaced : (s.fencePlaced f).hsRefuse loc false = none := h
  have hfind : ((s.fencePlaced f).partners f.cmd).find? (fun q => ((s.fencePlaced f).markPorts q).isEmpty) = none := hq
  unfold State.newFence State.fencePlaced at *
  simp only [mFence, hplaced, hfind]
  rfl

/-- A fence's place leaves the rings' groups, by which its mask names them (R68). -/
theorem State.group_fencePlaced (s : State) (f : Flight) (m : Nat) :
    ((s.fencePlaced f).ring m).group = (s.ring m).group := by
  unfold State.fencePlaced
  by_cases h : m = f.ring
  · rw [h, State.ring_setRing_self]
  · rw [State.ring_setRing_ne _ _ h]

theorem State.mem_newFence {s : State} {f : Flight} {k : Nat} :
    k ∈ (s.newFence f).members ↔ ∃ g ∈ s.plyn.flights, g.num = k ∧ k < f.num ∧ isBlocking g.cmd.opcode = false ∧
      (g.ring = f.ring ∨ bit (f.cmd.opa % 256) (s.ring g.ring).group = true) ∧
      inScope f.cmd.opcode f.cmd.loc g.cmd = true ∧ (g.cmd.timed = true → g.td.rep ≠ 0xFFFF) := by
  simp only [State.newFence, List.mem_map, List.mem_filter, State.inSet, State.group_fencePlaced]
  refine exists_congr fun g => ?_
  constructor
  · rintro ⟨⟨hg, hin⟩, rfl⟩
    simp only [Bool.and_eq_true, Bool.or_eq_true, Bool.not_eq_true', decide_eq_true_eq, beq_iff_eq,
      Bool.and_eq_false_iff, beq_eq_false_iff_ne] at hin
    obtain ⟨⟨⟨⟨hlt, hblock⟩, hgroup⟩, hscope⟩, hseries⟩ := hin
    exact ⟨hg, rfl, hlt, hblock, hgroup, hscope, fun htimed => hseries.resolve_left (by simp [htimed])⟩
  · rintro ⟨hg, rfl, hlt, hblock, hgroup, hscope, hseries⟩
    refine ⟨⟨hg, ?_⟩, rfl⟩
    simp only [Bool.and_eq_true, Bool.or_eq_true, Bool.not_eq_true', decide_eq_true_eq, beq_iff_eq,
      Bool.and_eq_false_iff, beq_eq_false_iff_ne]
    refine ⟨⟨⟨⟨hlt, hblock⟩, hgroup⟩, hscope⟩, ?_⟩
    cases htimed : g.cmd.timed
    · exact .inl rfl
    · exact .inr (hseries htimed)

/-! ### The end of a fence -/

theorem State.fenceDone_of {s : State} {w : Bool} {g : Flight} (huntimed : g.cmd.timed = false → g.phase.isOpen = false)
    (hparked : g.cmd.timed = true → w = false → g.phase ≠ .issued)
    (hfinal : g.cmd.timed = true → w = true →
      g.phase = .retired ∨ ∃ st d r t, g.phase = .record st d r t ∧ s.lastOf g st = true) : s.fenceDone w g = true := by
  unfold State.fenceDone
  cases htimed : g.cmd.timed
  · simp [huntimed htimed]
  · cases w
    · simpa using hparked htimed rfl
    · rcases hfinal htimed rfl with h | ⟨st, d, r, t, h, hlast⟩
      · simp [h]
      · simp [h, hlast]

/-- The local set of a fence is waited out (R68, R69). -/
theorem State.setDone_of {s : State} {f : Flight} {x : Fence}
    (hmembers : ∀ k ∈ x.members, ∀ g, s.flight k = some g → s.fenceDone (bit f.cmd.opa 8) g = true)
    (hobeyed : f.cmd.opcode < 5 ∨ ∀ k ∈ x.members, ∀ g, s.flight k = some g → g.changing = false) :
    s.setDone f x = true := by
  simp only [State.setDone, State.timeObeyed, Bool.and_eq_true, Bool.or_eq_true, List.all_eq_true, decide_eq_true_eq]
  refine ⟨fun k hk => ?_, hobeyed.imp id fun h k hk => ?_⟩
  · split
    · rfl
    · exact hmembers k hk _ ‹_›
  · cases hg : s.flight k with
    | none => rfl
    | some g => simp [h k hk g hg]

/-- The report of R71 over the flights of a state. -/
theorem State.fenceOk_eq {s : State} {n d : Nat} {x : Fence}
    (hd : (d = 1 ∧ (∃ k ∈ x.report, ∃ g, s.flight k = some g ∧ g.bad = true) ∨
      d = 0 ∧ ∀ k ∈ x.report, ∀ g, s.flight k = some g → g.bad = false)) :
    s.fenceOk n x = ({ s with plyn := { s.plyn with fences := Tab.del s.plyn.fences n } } : State).complete n
      { status := stOk, detail := d, result := min x.report.length 0xFFFF } := by
  have hbad : b2n (x.report.any (fun k => match s.flight k with
      | none => false
      | some g => g.bad)) = d := by
    rcases hd with ⟨rfl, k, hk, g, hg, hb⟩ | ⟨rfl, hgood⟩
    · have : (x.report.any (fun k => match s.flight k with
          | none => false
          | some g => g.bad)) = true := List.any_eq_true.2 ⟨k, hk, by simp [hg, hb]⟩
      simp only [this, b2n, if_true]
    · have : (x.report.any (fun k => match s.flight k with
          | none => false
          | some g => g.bad)) = false := by
        rw [List.any_eq_false]
        intro k hk
        cases hg : s.flight k with
        | none => simp
        | some g => simp [hgood k hk g hg]
      simp only [this, b2n, Bool.false_eq_true, if_false]
  exact congrArg (fun d => ({ s with plyn := { s.plyn with fences := Tab.del s.plyn.fences n } } : State).complete n
    { status := stOk, detail := d, result := min x.report.length 0xFFFF }) hbad

/-- The fence that has sent its MARKs (R144). -/
def State.markedFence (s : State) (f : Flight) (x : Fence) : Fence :=
  { x with marked := true, marker := (s.plyn.markerId + 1) % 65536,
           wait := ((s.partners f.cmd).map (fun q => (s.markPorts q).map (fun k => (q, k)))).flatten }

theorem State.mem_markedFence {s : State} {f : Flight} {x : Fence} {q k : Nat} :
    (q, k) ∈ (s.markedFence f x).wait ↔ q ∈ s.partners f.cmd ∧ k ∈ s.markPorts q := by
  simp [State.markedFence, List.mem_flatten]

theorem State.sendMarks_eq (s : State) (f : Flight) (x : Fence) :
    s.sendMarks f x = (s.markedFence f x).wait.foldl (State.sendMark ((s.plyn.markerId + 1) % 65536))
      { s with plyn := { s.plyn with markerId := (s.plyn.markerId + 1) % 65536,
                                     fences := Tab.set s.plyn.fences f.num (s.markedFence f x) } } := rfl

/-- A FENCE.SYS whose set is done sends its MARKs. -/
theorem State.sendMarks_spec (s : State) (f : Flight) (x : Fence) :
    (s.sendMarks f x).plyn = { s.plyn with markerId := (s.plyn.markerId + 1) % 65536,
                                           fences := Tab.set s.plyn.fences f.num (s.markedFence f x) } ∧
      { s.sendMarks f x with plyn := s.plyn, sent := s.sent, ports := s.ports } = s := by
  rw [State.sendMarks_eq]
  have hrest := State.foldl_sendMark_rest ((s.plyn.markerId + 1) % 65536) (s.markedFence f x).wait
    { s with plyn := { s.plyn with markerId := (s.plyn.markerId + 1) % 65536,
                                   fences := Tab.set s.plyn.fences f.num (s.markedFence f x) } }
  generalize (s.markedFence f x).wait.foldl _ _ = t at hrest ⊢
  exact ⟨congrArg State.plyn hrest, congrArg (fun u : State => { u with plyn := s.plyn }) hrest⟩

theorem going_fence {s : State} {n due : Nat} {f : Flight} (hflight : s.flight n = some f) (hphase : f.phase = .exec due)
    (hfence : isFence f.cmd.opcode = true) : s.going n (fun c => isFence c.opcode) = some (f, due) :=
  State.going_iff.2 ⟨hflight, hphase, hfence⟩

theorem State.partners_of_ne {s : State} {c : Cmd} (h : c.opcode ≠ 6) : s.partners c = [] := by
  simp [State.partners, h]

/-- Settles O10: a fence takes its set at the start, and its end is the report over that set. -/
theorem fencesWaitForTheirSets : Obligations.FencesWaitForTheirSets := by
  unfold Obligations.FencesWaitForTheirSets
  refine ⟨?start, ?finish⟩
  case start =>
    intro r hr n f s hstarts
    have hexec : exec (r.1 n) s = startRow s n (isOp r.2) mFence := by
      fin_cases hr <;> rfl
    have hnum := hstarts.num
    rw [hexec]
    refine ⟨fun c hc => ?refused, fun hopen hports => ?waits, fun hopen hports => ?noTarget⟩
    case refused =>
      have hstatus : c.status ≠ stDenied := by
        unfold State.hsRefuse at hc
        split at hc
        · dsimp only at hc
          split at hc <;> cases hc
          show stConflict ≠ stDenied
          decide
        · cases hc
      rw [hstarts.startRow_completes (mFence_run_refused hc) hstatus, State.fencePlaced, hnum]
    case noTarget =>
      obtain ⟨q, hq, hnone⟩ := hports
      have hsome : ((s.partners f.cmd).find? (fun q => (s.markPorts q).isEmpty)).isSome := by
        rw [List.find?_isSome]
        exact ⟨q, hq, by simp [hnone]⟩
      obtain ⟨q', hq'⟩ := Option.isSome_iff_exists.1 hsome
      refine ⟨q', List.mem_of_find?_eq_some hq', by simpa using List.find?_some hq', ?_⟩
      rw [hstarts.startRow_completes (mFence_run_noTarget hopen hq') (show stNoTarget ≠ stDenied by decide),
        State.fencePlaced, hnum]
    case waits =>
      have hnone : (s.partners f.cmd).find? (fun q => (s.markPorts q).isEmpty) = none := by
        rw [List.find?_eq_none]
        intro q hq
        simpa using hports q hq
      have hrun := mFence_run_waits (loc := f.cmd.loc) hopen hnone
      let u : State := { s.fencePlaced f with
        plyn := { s.plyn with fences := Tab.set s.plyn.fences n (s.newFence f) } }
      have hu : u.flight n = some f := hstarts.flight
      obtain ⟨-, hphase, hrest⟩ := State.goesOn_spec (f.at_ + fenceTicks f.cmd) hu
      have hrings : (u.goesOn n (f.at_ + fenceTicks f.cmd)).1.rings = (s.fencePlaced f).rings :=
        (congrArg State.rings hrest :)
      refine ⟨_, s.newFence f, hstarts.startRow_goes (t := (u.goesOn n (f.at_ + fenceTicks f.cmd)).1) ?_, hphase, ?_, rfl,
        fun k => ?_, fun k => ?_, ?_, fun m hm => ?_, ?_⟩
      · rw [hrun, hnum]
        rfl
      · simp only [State.goesOn, State.setPhase, hu]
        exact Tab.get?_set_self _ _ _
      · rw [State.mem_newFence, hnum]
      · simp [State.newFence, List.mem_filter]
      · rw [State.ring_congr hrings, State.fencePlaced, State.ring_setRing_self, hnum]
      · rw [State.ring_congr hrings, State.fencePlaced, State.ring_setRing_ne _ _ hm]
      · exact congrArg (fun v : State => { v with plyn := s.plyn, rings := s.rings }) hrest
  case finish =>
    intro n f s x due hflight hphase hfence hx done d hd report
    have hgoing := going_fence hflight hphase hfence
    have hexec : ∀ t, execFenceSetComplete n s = .next t → exec (.fenceSetComplete n) s = .next t := fun _ h => h
    have hnum := State.flight_num hflight
    refine ⟨fun hmarked hmembers hobeyed => ?_, fun hmarked hacked => hexec _ ?_, fun hop q rest hleft => ?_⟩
    · have hdone : s.setDone f x = true := State.setDone_of
        (fun k hk g hg => by
          obtain ⟨huntimed, hparked, hfinal⟩ := hmembers k hk g hg
          exact State.fenceDone_of huntimed hparked hfinal) hobeyed
      obtain ⟨hplyn, hrest⟩ := s.sendMarks_spec f x
      refine ⟨fun hop => hexec _ ?_, fun hop hnone => ?_, fun hsome => ?_⟩
      · simp only [execFenceSetComplete, hgoing, hx, hmarked, hdone, State.partners_of_ne hop, hop, Bool.false_eq_true,
          Bool.not_true, if_false, List.isEmpty_nil, if_true]
        rw [State.fenceOk_eq hd]
      · have hflights : ∀ k, (s.sendMarks f x).flight k = s.flight k := fun k => by
          simp only [State.flight, hplyn]
        have hwait : (s.markedFence f x).wait = [] := by simp [State.markedFence, hnone]
        have hsame : { s.sendMarks f x with plyn := s.plyn } = s := by
          rw [State.sendMarks_eq, hwait]
          rfl
        refine ⟨{ s.sendMarks f x with
          plyn := { (s.sendMarks f x).plyn with fences := Tab.del (s.sendMarks f x).plyn.fences n } }, hexec _ ?_, hsame,
          by rw [hplyn]⟩
        simp only [execFenceSetComplete, hgoing, hx, hmarked, hdone, hnone, hop, Bool.false_eq_true,
          Bool.not_true, if_false, List.isEmpty_nil, if_true]
        rw [State.fenceOk_eq (d := d) (by simpa only [hflights] using hd)]
      · refine ⟨s.sendMarks f x, s.markedFence f x, hexec _ ?_, ?_, rfl, rfl, by rw [hplyn], rfl, rfl,
          fun q k => State.mem_markedFence, fun w hw hloop => ?_, hrest⟩
        · have hempty : (s.partners f.cmd).isEmpty = false := by simpa using hsome
          simp only [execFenceSetComplete, hgoing, hx, hmarked, hdone, hempty, Bool.false_eq_true, Bool.not_true, if_false]
        · rw [hplyn, ← hnum, Tab.get?_set_self]
        · obtain ⟨-, -, hmarks⟩ := State.foldl_sendMark_mem ((s.plyn.markerId + 1) % 65536) (s.markedFence f x).wait
            { s with plyn := { s.plyn with markerId := (s.plyn.markerId + 1) % 65536,
                                           fences := Tab.set s.plyn.fences f.num (s.markedFence f x) } }
          exact hmarks w hw hloop
    · simp only [execFenceSetComplete, hgoing, hx, hmarked, hacked, List.isEmpty_nil, if_true]
      rw [State.fenceOk_eq hd]
    · have hgoing6 : s.going n (isOp 6) = some (f, due) := State.going_iff.2 ⟨hflight, hphase, by simp [isOp, hop]⟩
      show execFenceSysTimeout n s = _
      simp only [execFenceSysTimeout, hgoing6, hx, hleft, List.isEmpty_cons, Bool.false_eq_true, if_false]
      rfl

end Sys2Proof.Machine
end

section
/-! PROOFS. Events and delayed records (R55, R64, R410, R433), the issuer (R58 to R62), timed actions (R75 to R77), doorbells
and ring resets (R46 to R50, R72 to R74). -/

namespace Sys2Proof.Machine

/-! ### Interrupt bits (R431) -/

theorem bit_iff_fget (w : Word) (i : Nat) : bit w.toNat i = true ↔ fget w i 1 = 1 := by
  simp [bit, fget, bits]

@[simp] theorem State.msix_regs (s : State) (v : Nat) : (s.msix v).regs = s.regs := by
  unfold State.msix
  split <;> rfl

@[simp] theorem State.msix_part (s : State) (v : Nat) : (s.msix v).part = s.part := by
  unfold State.msix
  split <;> rfl

/-- An interrupt that hardware raises stands in FP_INT_STAT (R431). -/
theorem State.bit_fpInt (s : State) {b : Nat} (hb : b < 32) : bit ((s.fpInt b).reg locFp 0x24).toNat b = true := by
  have hput : fget (((s.put locFp ⟨0x24, b, 1⟩ 1).bump locFp (R.FP_INT_CNT_COUNT b)).reg locFp 0x24) b 1 = 1 := by
    rw [State.bump, State.bumpBy, State.reg_put_off _ _ (show 0x24 ≠ 0x40 + 4 * b by omega)]
    exact (s.fld_put_self locFp (f := ⟨0x24, b, 1⟩) 1 (show b + 1 ≤ 32 by omega))
  rw [bit_iff_fget]
  unfold State.fpInt
  dsimp only
  split
  · rw [State.reg_congr (State.msix_regs _ _) (State.msix_part _ _)]
    exact hput
  · exact hput

/-! ### Events and delayed records -/

/-- An event whose ring takes no entry is lost and counted (R433). -/
theorem State.event_closed {s : State} {kind ring : Nat} {ovr : Option Nat} (result time : Nat)
    (hwaits : ∀ f ∈ s.plyn.flights,
      ¬(f.cmd.opcode = 9 ∧ f.phase.isOpen = true ∧ f.cmd.opb ≠ 0 ∧ f.cmd.opa % 16 = kind))
    (hroute : s.eventRing kind ovr = some ring) (hopen : s.ringOpen ring = false) :
    s.event kind result time ovr = ((s.setRing ring { s.ring ring with
      evtOvf := true, count1c := satNat ((s.ring ring).count1c + 1) 32 }).fpInt intEvtOvf, false) := by
  simp only [State.event, State.wakeWaits_none result time hwaits, hroute, hopen, Bool.false_eq_true, if_false]

theorem foldl_min_le {α : Type} (f : α → Nat) (l : List α) (a : Nat) : l.foldl (fun m x => min m (f x)) a ≤ a := by
  induction l generalizing a with
  | nil => exact le_refl a
  | cons x l ih => exact (ih _).trans (min_le_left _ _)

/-- A refusal after the wait for tokens carries bit 7 of DETAIL (R64). -/
theorem bit_deniedC (rs : List (Nat × Nat)) : bit (deniedC rs true).detail 7 = true := by
  have hle := foldl_min_le Prod.fst rs 4
  simp only [deniedC, b2n, if_true, bit]
  generalize rs.foldl _ 4 = m at hle
  simp only [beq_iff_eq]
  omega

theorem exec_backgroundBudgetTimeout {s : State} {n due : Nat} {f : Flight} (hflight : s.flight n = some f)
    (hphase : f.phase = .tokens due) : ∃ rs, exec (.backgroundBudgetTimeout n) s =
      .next (((s.advanceTo due).dropReqs n).complete n (deniedC rs true)) := by
  refine ⟨(((s.advanceTo due).ledger.reqs.filter (fun r => r.num == some n)).map
    (fun r => (s.advanceTo due).refuse r ((s.advanceTo due).ahead r))).flatten, ?_⟩
  show execBackgroundBudgetTimeout n s = _
  simp only [execBackgroundBudgetTimeout, hflight, hphase]

/-- Settles O11: an event's record is pushed or counted as lost; a delayed record is pushed and its instruction retires. -/
theorem eventsAndDelayedRecords : Obligations.EventsAndDelayedRecords := by
  unfold Obligations.EventsAndDelayedRecords
  refine ⟨fun s kind result time ovr ring hwaits hroute => ⟨State.event_open result time hwaits hroute, fun hclosed => ?_⟩,
    fun n f s hflight hring => ⟨?_, fun due hphase => ?_⟩⟩
  · intro t
    have ht : t = (s.setRing ring { s.ring ring with
        evtOvf := true, count1c := satNat ((s.ring ring).count1c + 1) 32 }).fpInt intEvtOvf := by
      simp only [t, State.event_closed result time hwaits hroute hclosed]
    refine ⟨?_, ?_, ?_⟩
    · rw [ht, State.ring_congr (State.fpInt_rings _ _), State.ring_setRing_self]
      rfl
    · rw [ht, State.fpInt_env, State.setRing_env]
    · rw [ht]
      exact State.bit_fpInt _ (by decide)
  · intro status detail result time hphase hmute htimed hopen
    have hcq : s.cqOf f.ring ≠ f.ring := s.cqOf_ne hring
    have hexec : exec (.completionRecordWrite n) s = .next ((s.putRec f status detail result time).retire f) := by
      show execCompletionRecordWrite n s = _
      simp [execCompletionRecordWrite, hflight, hphase, hmute, hopen, State.afterRec, State.lastOf, htimed]
    have hreports : Reports s ((s.putRec f status detail result time).retire f) :=
      (Reports.pushEntry s _ _ _).trans (.retire _ _)
    have hrest := hreports.rest
    refine ⟨_, hexec, ⟨{ f with phase := .retired, tags := [], entry := false }, ?_, rfl, rfl⟩, ?_, ?_, ?_, ?_, ?_⟩
    · rw [← State.flight_num hflight]
      refine State.flight_retire (g := f) ((State.flight_congr (State.pushEntry_plyn _ _ _ _) _).trans ?_)
      rw [State.flight_num hflight]
      exact hflight
    · rw [State.ring_retire_self, State.putRec, State.ring_pushEntry_ne _ _ _ hcq.symm]
    · rw [State.ring_retire_ne _ hcq, State.putRec, State.tail_pushEntry]
    · exact (congrArg State.ports hrest :)
    · exact (congrArg State.dies hrest :)
    · exact (congrArg State.tails hrest :)
  · obtain ⟨rs, hexec⟩ := exec_backgroundBudgetTimeout hflight hphase
    refine ⟨_, _, hexec, rfl, bit_deniedC rs, ?_, ?_, ?_, rfl, rfl⟩
    · show due ≤ (s.advanceTo due).now
      rw [State.now_advanceTo]
      exact le_max_right _ _
    · intro q hq
      simpa using (List.mem_filter.1 hq).2
    · intro q hq hnum
      exact List.mem_filter.2 ⟨hq, by simpa using hnum⟩

/-! ### The issuer -/

/-- The slots of an instruction: one on each die, and nothing taken but free values (R32, R56). -/
theorem State.takeSlots_spec (s : State) (dies : List Nat) :
    (s.takeSlots dies).1.map Prod.fst = dies ∧ ∃ k, (s.takeSlots dies).2 = { s with freeCtr := k } := by
  have hfold (dies : List Nat) (x : List (Nat × Nat) × State) (hx : ∃ k, x.2 = { s with freeCtr := k }) :
      let y := dies.foldl (fun (x : List (Nat × Nat) × State) d =>
        (x.1 ++ [(d, (x.2.freeTags d).getD (Config.tagPick x.2.freeCtr % max (x.2.freeTags d).length 1) 0)],
          { x.2 with freeCtr := x.2.freeCtr + 1 })) x
      y.1.map Prod.fst = x.1.map Prod.fst ++ dies ∧ ∃ k, y.2 = { s with freeCtr := k } := by
    induction dies generalizing x with
    | nil => exact ⟨(List.append_nil _).symm, hx⟩
    | cons d dies ih =>
      obtain ⟨k, hk⟩ := hx
      obtain ⟨hfst, hsnd⟩ := ih (x.1 ++ [(d, (x.2.freeTags d).getD
        (Config.tagPick x.2.freeCtr % max (x.2.freeTags d).length 1) 0)], { x.2 with freeCtr := x.2.freeCtr + 1 })
        ⟨k + 1, by rw [hk]⟩
      refine ⟨hfst.trans ?_, hsnd⟩
      simp
  obtain ⟨hfst, hsnd⟩ := hfold dies ([], s) ⟨s.freeCtr, rfl⟩
  exact ⟨hfst, hsnd⟩

/-- The issuer's clock where the first ring in order answers. -/
theorem exec_issue_taken {s t : State} {r : Nat} {rest : List Nat} (hon : s.issuerOn = true)
    (horder : s.issueOrder = r :: rest) (htry : s.tryRing r = (t, true)) : exec .issue s =
      .next { t with plyn := if (s.ring r).prio then { t.plyn with rrHi := (r + 1) % 32 }
                             else { t.plyn with rrLo := (r + 1) % 32 } } := by
  show execIssue s = _
  simp only [execIssue, hon, if_true, horder, State.issueFrom, htry]

theorem exec_issue_left {s t : State} {r : Nat} {rest : List Nat} (hon : s.issuerOn = true)
    (horder : s.issueOrder = r :: rest) (htry : s.tryRing r = (t, false)) :
    exec .issue s = .next (t.issueFrom rest) := by
  show execIssue s = _
  simp only [execIssue, hon, if_true, horder, State.issueFrom, htry]

/-- The issuer at a ring with an untimed entry at HEAD (R59, R60). -/
theorem State.tryRing_untimed {s : State} {r w : Nat} (hrun : (s.ring r).running = true)
    (hblocked : (s.ring r).blocked = false) (hused : (s.ring r).used ≠ 0)
    (hfetch : s.fetchEntry r (s.ring r).head = some w) (htimed : (decodeCmd w).timed = false) :
    s.tryRing r = match s.precheck (decodeCmd w) (decodeTd 0) with
      | some k => if s.ringOpen (s.cqOf r) then (s.reject r 1 (decodeCmd w) k, true) else (s.stall r, false)
      | none =>
        if (slotDies s.part (decodeCmd w)).any (fun d => (s.freeTags d).isEmpty) then (s.stall r, false)
        else (s.issueCmd r 1 (decodeCmd w) (decodeTd 0), true) := by
  have hone : ¬ (s.ring r).used < 1 := by omega
  simp only [State.tryRing, hrun, hblocked, hfetch, htimed, Bool.not_true, Bool.or_self, Bool.false_or, beq_iff_eq, hused,
    if_false, Bool.false_eq_true, hone] <;> rfl

theorem State.issueFrom_idle {s : State} {l : List Nat} (h : ∀ k ∈ l, (s.ring k).running = false) : s.issueFrom l = s := by
  induction l with
  | nil => rfl
  | cons k l ih =>
    have htry : s.tryRing k = (s, false) := by simp [State.tryRing, h k List.mem_cons_self]
    simp only [State.issueFrom, htry]
    exact ih fun j hj => h j (List.mem_cons_of_mem _ hj)

theorem Ring.took_of_not_blocked {x : Ring} (h : x.blocked = false) (k : Nat) :
    ({ x with head := k, stalled := false } : Ring) = { x with head := k, stalled := false, blocked := false } := by
  cases x
  subst h
  rfl

/-- An instruction that is issued: slots on its dies, HEAD behind it, the ring BLOCKED by a fence or a wait (R57, R61). -/
theorem State.issueCmd_spec (s : State) (r : Nat) (c : Cmd) (td : TimeDesc) (hblocked : (s.ring r).blocked = false) :
    ∃ f : Flight, (s.issueCmd r 1 c td).plyn = { s.plyn with flights := s.plyn.flights ++ [f], nextNum := s.plyn.nextNum + 1 } ∧
      f.num = s.plyn.nextNum ∧ f.cmd = c ∧ f.ring = r ∧ f.phase = .issued ∧ f.at_ = s.now ∧
      f.tags.map Prod.fst = slotDies s.part c ∧
      (s.issueCmd r 1 c td).ring r = { s.ring r with head := ((s.ring r).head + 1) % (s.ring r).span, stalled := false,
                                                     blocked := isBlocking c.opcode } ∧
      { s.issueCmd r 1 c td with plyn := s.plyn, rings := s.rings, freeCtr := s.freeCtr } = s := by
  obtain ⟨htags, k, hk⟩ := s.takeSlots_spec (slotDies s.part c)
  refine ⟨{ num := s.plyn.nextNum, ring := r, cmd := c, td := td, tags := (s.takeSlots (slotDies s.part c)).1,
            tag0 := ((s.takeSlots (slotDies s.part c)).1.headD (0, 0)).2, phase := .issued, at_ := s.now },
    ?_, rfl, rfl, rfl, rfl, rfl, htags, ?_, ?_⟩
  all_goals
    unfold State.issueCmd
    dsimp only
    rw [hk]
    cases hb : isBlocking c.opcode
  · rfl
  · rfl
  · simp only [Bool.false_eq_true, if_false, State.takeHead, State.ring_setRing_self]
    exact Ring.took_of_not_blocked hblocked _
  · simp only [if_true, State.takeHead, State.ring_setRing_self]
    rfl
  · rfl
  · rfl

/-- An entry that fails the precheck: its record, HEAD and RETIRED advance (R59). -/
theorem State.reject_spec (s : State) {r : Nat} (c : Cmd) (k : Compl) (hr : r < 32) :
    (s.reject r 1 c k).plyn = s.plyn ∧ ((s.reject r 1 c k).ring r).head = ((s.ring r).head + 1) % (s.ring r).span ∧
      ((s.reject r 1 c k).ring r).retired = ((s.ring r).retired + 1) % 2 ^ 32 ∧
      ((s.reject r 1 c k).ring (s.cqOf r)).tail =
        ((s.ring (s.cqOf r)).tail + 1) % (s.ring (s.cqOf r)).span := by
  have hcq : s.cqOf r ≠ r := s.cqOf_ne hr
  unfold State.reject
  dsimp only
  generalize hpush : State.pushEntry _ _ 16 _ = u
  have hself : u.ring r = s.ring r := by
    rw [← hpush]
    exact State.ring_pushEntry_ne _ _ _ hcq.symm
  have htail : (u.ring (s.cqOf r)).tail = ((s.ring (s.cqOf r)).tail + 1) % (s.ring (s.cqOf r)).span := by
    rw [← hpush]
    exact State.tail_pushEntry _ _ _ _
  have hplyn : u.plyn = s.plyn := by
    rw [← hpush, State.pushEntry_plyn]
    rfl
  simp only [State.haltOn_plyn, State.setRing_plyn, State.takeHead, hplyn, State.haltOn_ring_ne _ _ hcq,
    State.ring_setRing_ne _ _ hcq, htail, State.ring_haltOn_self, State.ring_setRing_self, hself, true_and, and_true]
  split <;> exact ⟨rfl, rfl⟩

/-- Settles O12: the issuer's clock by the precheck of the head entry and the free slots. -/
theorem issuerTakesTheHead : Obligations.IssuerTakesTheHead := by
  unfold Obligations.IssuerTakesTheHead
  intro s r w rest hon horder hrun hblocked hused hr hfetch htimed c td
  have htry := State.tryRing_untimed hrun hblocked hused hfetch htimed
  refine ⟨fun hpass hslots => ?issued, fun k hfails hopen => ?rejected, fun hpass hrest hfull => ?stalled⟩
  case issued =>
    have hfree : ¬ (slotDies s.part (decodeCmd w)).any (fun d => (s.freeTags d).isEmpty) = true := by
      simpa using hslots
    obtain ⟨f, hplyn, hnum, hcmd, hring, hphase, hat, htags, hself, hframe⟩ :=
      s.issueCmd_spec r c td hblocked
    have htaken : s.tryRing r = (s.issueCmd r 1 c td, true) := by
      rw [htry, show s.precheck (decodeCmd w) (decodeTd 0) = none from hpass]
      simp only [hfree]
      rfl
    refine ⟨_, f, exec_issue_taken hon horder htaken, ?_, hnum, hcmd, hring, hphase, hat, ?_, htags, hself, hframe⟩
    · dsimp only
      rw [hplyn]
      split <;> rfl
    · dsimp only
      rw [hplyn]
      split <;> rfl
  case rejected =>
    obtain ⟨hplyn, hhead, hretired, htail⟩ := s.reject_spec c k hr
    have htaken : s.tryRing r = (s.reject r 1 c k, true) := by
      rw [htry, show s.precheck (decodeCmd w) (decodeTd 0) = some k from hfails]
      simp only [hopen, if_true]
      rfl
    refine ⟨_, exec_issue_taken hon horder htaken, ?_, hhead, hretired, htail⟩
    dsimp only
    rw [hplyn]
    split <;> rfl
  case stalled =>
    obtain ⟨d, hd, hnone⟩ := hfull
    have hany : (slotDies s.part (decodeCmd w)).any (fun d => (s.freeTags d).isEmpty) = true :=
      List.any_eq_true.2 ⟨d, hd, by simp [hnone]⟩
    have hleft : s.tryRing r = (s.stall r, false) := by
      rw [htry, show s.precheck (decodeCmd w) (decodeTd 0) = none from hpass]
      simp only [hany, if_true]
    have hidle : ∀ k ∈ rest, ((s.stall r).ring k).running = false := by
      intro k hk
      have hne : k ≠ r := by
        rintro rfl
        rw [hrest _ hk] at hrun
        cases hrun
      rw [State.stall, State.ring_setRing_ne _ _ hne]
      exact hrest k hk
    refine ⟨s.stall r, ?_, rfl, ?_, ?_⟩
    · rw [exec_issue_left hon horder hleft, State.issueFrom_idle hidle]
    · simp [State.stall]
    · simp [State.stall]

/-! ### The late policy and timed actions -/

/-- The first later boundary of a series that is at most `g` behind, where boundary 0 is `l` behind (R77). -/
theorem ceilDiv_boundary {l g p : Int} (hg : g < l) (hp : 0 < p) :
    let k := ceilDiv (l - g).toNat p.toNat
    0 < k ∧ l - k * p ≤ g ∧ g < l - (k - 1 : Nat) * p := by
  intro k
  obtain ⟨a, ha⟩ : ∃ a : Nat, l - g = a := ⟨(l - g).toNat, by omega⟩
  obtain ⟨b, rfl⟩ : ∃ b : Nat, p = b := ⟨p.toNat, by omega⟩
  have hk : k = (a + b - 1) / b := by simp [k, ceilDiv, ha]
  have hb : 0 < b := by omega
  have ha0 : 0 < a := by omega
  have hpos : 0 < k := by
    rw [hk]
    exact Nat.div_pos (by omega) hb
  have hmod := Nat.div_add_mod (a + b - 1) b
  have hlt := Nat.mod_lt (a + b - 1) hb
  rw [← hk] at hmod
  have hup : a ≤ k * b := by
    rw [Nat.mul_comm]
    omega
  have hlow : (k - 1) * b < a := by
    have : (k - 1) * b + b = b * k := by
      rw [Nat.mul_comm b k, ← Nat.succ_mul, Nat.succ_eq_add_one, Nat.sub_add_cancel hpos]
    omega
  have hup' : (a : Int) ≤ k * b := by exact_mod_cast hup
  have hlow' : ((k - 1 : Nat) : Int) * b < a := by exact_mod_cast hlow
  exact ⟨hpos, by omega, by omega⟩

theorem parkDecide_inTime {now late g j : Nat} {td : TimeDesc} (h : sdiff now (td.at j) ≤ g) :
    parkDecide now late td g j = .park j (td.at j) none := by
  simp only [parkDecide, h, if_true]

theorem parkDecide_late {now g j : Nat} {td : TimeDesc} (late : Nat) (h : (g : Int) < sdiff now (td.at j)) :
    parkDecide now late td g j =
      if late = 0 then .expired
      else if late = 1 then .park j (td.at j) (some (lateNs (sdiff now (td.at j))))
      else
        let j' := j + ceilDiv (sdiff now (td.at j) - g).toNat (max td.period 1)
        if td.has j' then .park j' (td.at j') none else .expired := by
  simp only [parkDecide, if_neg (not_le.2 h)]

/-- A timed instruction that may be parked, with room in its stores and a time within the horizon (R75). -/
theorem exec_timedPark {n : Nat} {f : Flight} {s : State} (hflight : s.flight n = some f) (htimed : f.cmd.timed = true)
    (hphase : f.phase = .issued) (hstart : s.mayStart f = true)
    (hroom : (storeDies s.part f.cmd).filter (fun d => decide (storeSize d ≤ s.parkedIn d)) = [])
    (hnear : sdiff f.td.time (tx64 (s.nowU f.cmd.timeDie)) ≠ -horizon) :
    exec (.timedPark n) s = .next (match parkDecide (tx64 (s.nowU f.cmd.timeDie)) f.cmd.late f.td
        ((s.ring f.ring).grace * 1000 * 65536) 0 with
      | .park j due late => s.park f j due late
      | .expired => s.complete n { status := stExpired }) := by
  show execTimedPark n s = _
  simp only [execTimedPark, hflight, hphase, htimed, hstart, hroom, hnear, ne_eq, not_true_eq_false, Bool.not_true,
    Bool.false_eq_true, or_self, if_false]
  split <;> simp_all

theorem dieTail_lt (d : Nat) : dieTail d < 6 := by
  unfold dieTail
  split <;> omega

/-- A die's tailstock reaches the instant to which time passes there (R76). -/
theorem State.fu_advanceDie (s : State) (d u : Nat) : 5 * u ≤ ((s.advanceDie d u).tail (dieTail d)).fu := by
  rw [State.advanceDie, s.fu_advance _ (dieTail_lt d)]
  unfold ceilDiv fuTick
  omega

/-- Settles O13: the policy's boundary by rounding the lateness up to whole periods; parking and the start of a parked action
follow it. -/
theorem timedActionsFollowTheLatePolicy : Obligations.TimedActionsFollowTheLatePolicy := by
  unfold Obligations.TimedActionsFollowTheLatePolicy
  refine ⟨fun now late g j td => ⟨fun h => parkDecide_inTime h, fun h => ⟨fun h0 => ?_, fun h1 => ?_, fun h2 hperiod => ?_⟩⟩,
    fun n f s hflight htimed => ⟨fun hphase hstart => ⟨fun hroom hnear => ⟨fun j due late hpark => ?_, fun hexpired => ?_⟩,
      fun d hfull => ?_⟩, fun due hphase hfirst => ⟨?_, rfl, rfl, rfl, s.fu_advanceDie _ _⟩⟩⟩
  · rw [parkDecide_late _ h, if_pos h0]
  · rw [parkDecide_late _ h, if_neg (by omega), if_pos h1]
  · have hmax : max td.period 1 = td.period := max_eq_left hperiod
    obtain ⟨hpos, hin, hout⟩ := ceilDiv_boundary h (p := td.period) (by omega)
    refine ⟨ceilDiv (sdiff now (td.at j) - g).toNat td.period, hpos, hin, hout, ?_⟩
    rw [parkDecide_late _ h, if_neg (by omega), if_neg (by omega), hmax]
  · refine ⟨s.park f j due late, ?_, ?_, rfl⟩
    · rw [exec_timedPark hflight htimed hphase hstart hroom hnear, hpark]
    · have hnum := State.flight_num hflight
      subst hnum
      exact State.flight_setFlight_self
        (f := { f with phase := .parked due, idx := j, late := late, tags := [], started := none, entry := true }) hflight
  · rw [exec_timedPark hflight htimed hphase hstart hroom hnear, hexpired]
  · show execTimedPark n s = _
    simp only [execTimedPark, hflight, hphase, htimed, hstart, hfull, ne_eq, not_true_eq_false, Bool.not_true,
      Bool.false_eq_true, or_self, if_false, List.cons_ne_nil, not_false_eq_true, if_true, List.foldl_cons, List.foldl_nil]
  · show execTimedActionDue n s = _
    simp only [execTimedActionDue, hflight, hphase, hfirst, Bool.false_eq_true, if_false] <;> rfl

/-! ### Doorbells, CTRL and the resets of rings -/

/-- An illegal write to a ring (R46, R50). -/
theorem State.ringErr_spec (s : State) (n : Nat) :
    (s.ringErr n).ring n = { s.ring n with cfgErr := true, errCnt := satNat ((s.ring n).errCnt + 1) 16 } ∧
      (s.ringErr n).env = s.env ∧ bit ((s.ringErr n).reg locFp 0x24).toNat 4 = true := by
  refine ⟨?_, ?_, State.bit_fpInt _ (by decide)⟩
  · rw [State.ringErr, State.ring_congr (State.fpInt_rings _ _), State.ring_setRing_self]
  · rw [State.ringErr, State.fpInt_env, State.setRing_env]

/-- The state in which the host has written to its memory (R46). -/
def State.hostWrites (s : State) (writes : List Host.Cell) : State :=
  { s with env := { s.env with mem := writes.foldl (fun m c => memPut m c.1 c.2) s.env.mem } }

theorem exec_doorbellWrite {s : State} {n : Nat} (v : Nat) (writes : List Host.Cell) (hn : n < 128)
    (hserves : s.fpServes = true) : exec (.doorbellWrite n v writes) s =
      .next ((if (s.ring n).doorOk n v then
          (if hostProduces n then (s.hostWrites writes).setRing n { s.ring n with tail := v }
            else (s.hostWrites writes).setRing n { s.ring n with
              head := v, pendAt := (s.ring n).pendAt.drop ((v + (s.ring n).span - (s.ring n).head) % (s.ring n).span) })
        else (s.hostWrites writes).ringErr n).rearm n) := by
  have hserves' : (s.hostWrites writes).fpServes = true := hserves
  show execDoorbellWrite n v writes s = _
  unfold State.hostWrites at *
  simp only [execDoorbellWrite, hserves', Bool.not_true, Bool.false_eq_true, or_false, if_neg (not_le.2 hn)]
  rfl

/-- A ring whose interrupt is armed again keeps its indices. -/
theorem State.ring_rearm (s : State) (n : Nat) :
    ((s.rearm n).ring n).head = (s.ring n).head ∧ ((s.rearm n).ring n).tail = (s.ring n).tail := by
  unfold State.rearm
  split
  · exact ⟨rfl, rfl⟩
  · dsimp only
    rw [State.ring_congr (State.ringTest_rings _ _), State.ring_congr (State.fpPut_rings _ _ _), State.ring_setRing_self]
    exact ⟨rfl, rfl⟩

theorem State.rearm_command {s : State} {n : Nat} (h : n < 32) : s.rearm n = s := by
  simp only [State.rearm, if_pos h]

/-- A CTRL write without RESUME and RESET stores its fields (R49). -/
theorem exec_ringCtrlWrite {s : State} {n v : Nat} (hn : n < 128) (hserves : s.fpServes = true)
    (htaken : (s.ring n).ctrlIgnored n v = false) (hresume : bit v 2 = false) (hreset : bit v 3 = false) :
    exec (.ringCtrlWrite n v) s = .next (s.ringCtrl n v) := by
  show execRingCtrlWrite n v s = _
  simp only [execRingCtrlWrite, hserves, htaken, hresume, hreset, Bool.not_true, Bool.false_eq_true, or_false,
    if_neg (not_le.2 hn), if_false]

/-- Settles O14: doorbells, CTRL writes, RESUME and the resets, each by its own case of the ring. -/
theorem ringsObeyTheHost : Obligations.RingsObeyTheHost := by
  unfold Obligations.RingsObeyTheHost
  refine ⟨fun s n v hn hserves => ⟨fun writes hcmd => ⟨fun hok => ?_, fun hbad => ?_⟩, fun hlo hhi hok => ?_, fun hign => ?_,
    fun htaken hresume hreset => ⟨fun hmay => ?_, fun hen hoff hmay => ?_⟩⟩, fun s n hserves => ⟨fun hn => ?_, fun hn hnone => ?_,
    fun f hn hone => ?_, fun hbusy hdrained => ?_, fun hlo hhi => ⟨fun hunused => ?_, fun hused => ?_⟩, fun hlo hhi => ?_⟩⟩
  · have hhost : hostProduces n = true := by simp [hostProduces, hcmd]
    refine ⟨(s.hostWrites writes).setRing n { s.ring n with tail := v }, ?_, State.ring_setRing_self _ _ _, rfl,
      fun k hk => State.ring_setRing_ne _ _ hk, rfl⟩
    rw [exec_doorbellWrite v writes hn hserves, if_pos hok, if_pos hhost, State.rearm_command hcmd]
  · obtain ⟨hself, henv, hbit⟩ := (s.hostWrites writes).ringErr_spec n
    refine ⟨(s.hostWrites writes).ringErr n, ?_, hself, congrArg Env.mem henv, hbit⟩
    rw [exec_doorbellWrite v writes hn hserves, if_neg (by simp [hbad]), State.rearm_command hcmd]
  · have hhost : hostProduces n = false := by simp [hostProduces, hlo, hhi]
    refine ⟨_, exec_doorbellWrite v [] hn hserves, ?_⟩
    rw [if_pos hok, if_neg (by simp [hhost]), (State.ring_rearm _ n).1, (State.ring_rearm _ n).2, State.ring_setRing_self]
    exact ⟨rfl, rfl⟩
  · show execRingCtrlWrite n v s = _
    simp only [execRingCtrlWrite, hserves, hign, Bool.not_true, Bool.false_eq_true, or_false, if_neg (not_le.2 hn), if_true]
  · have hstores : (((s.ring n).ctrl v s.plyn.nextNum).en && !(s.ring n).en &&
        !((s.ring n).ctrl v s.plyn.nextNum).mayRun n) = false := by
      rcases hmay with h | h | h
      · simp [Ring.ctrl, h]
      · simp [h]
      · simp [h]
    rw [exec_ringCtrlWrite hn hserves htaken hresume hreset]
    simp only [State.ringCtrl, hstores, Bool.false_eq_true, if_false]
  · refine ⟨_, exec_ringCtrlWrite hn hserves htaken hresume hreset, ?_⟩
    have hrefused : (((s.ring n).ctrl v s.plyn.nextNum).en && !(s.ring n).en &&
        !((s.ring n).ctrl v s.plyn.nextNum).mayRun n) = true := by
      rw [hmay, hoff, show ((s.ring n).ctrl v s.plyn.nextNum).en = true from hen]
      rfl
    simp only [State.ringCtrl, hrefused, if_true, (State.ringErr_spec _ n).1, State.ring_setRing_self, and_self]
  · show execRingResume n s = _
    simp only [execRingResume, hserves, if_true, State.ringResume, if_pos hn]
  · have hfilter : s.plyn.flights.filter (fun f => f.ring == n && f.endsAtReset) = [] := by
      simpa [List.filter_eq_nil_iff] using hnone
    show execCommandRingReset n s = _
    simp only [execCommandRingReset, hn, hserves, and_self, if_true, State.cmdReset, State.setRing_plyn, hfilter,
      List.foldl_nil]
  · show execCommandRingReset n s = _
    simp only [execCommandRingReset, hn, hserves, and_self, if_true, State.cmdReset, State.setRing_plyn, hone,
      List.foldl_cons, List.foldl_nil]
  · show execRingResetDone n s = _
    simp only [execRingResetDone, State.ringResetDone, hbusy, hdrained, Bool.and_self, if_true]
  · have hany : (List.range 32).any (fun r => (s.ring r).en && s.cqOf r == n) = false := by
      rw [List.any_eq_false]
      intro r hr
      have hr' := List.mem_range.1 hr
      cases hen : (s.ring r).en
      · simp
      · have := hunused r hr' hen
        simp only [State.cqOf, Bool.true_and, beq_iff_eq]
        omega
    show execCompletionRingReset n s = _
    simp only [execCompletionRingReset, hlo, hhi, hserves, and_self, if_true, State.cqReset, hany, Bool.false_eq_true,
      if_false, State.emptyRing]
  · obtain ⟨r, hr, hen, hcq⟩ := hused
    have hany : (List.range 32).any (fun r => (s.ring r).en && s.cqOf r == n) = true :=
      List.any_eq_true.2 ⟨r, List.mem_range.2 hr, by simp [hen, State.cqOf, ← hcq, Nat.add_comm]⟩
    show execCompletionRingReset n s = _
    simp only [execCompletionRingReset, hlo, hhi, hserves, and_self, if_true, State.cqReset, hany]
  · show execPacketRingReset n s = _
    simp only [execPacketRingReset, hlo, hhi, hserves, and_self, if_true, State.emptyRing]

end Sys2Proof.Machine
end

section
/-! PROOFS. Interrupt writes and timers, MSI-X, the host port and its reset, and the test access port (R333, R431 to R437,
R458). The reset of the host port closes every ring first: from there on nothing that it ends writes a byte. -/

namespace Sys2Proof.Machine

/-- A message that the vector's mask lets through (R436). -/
theorem State.msix_unmasked {s : State} {v : Nat} (h : bit (s.msixEntry v) 96 = false) : s.msix v = s.send (.msix v) := by
  simp [State.msix, h]

/-! ### What the reset of the host port leaves as it is -/

/-- Every ring is closed. -/
def State.ringsShut (s : State) : Prop := ∀ n, (s.ring n).en = false

/-- A change that opens no ring and, while all rings are shut, writes nothing outside: host memory and the bulk window, the
tailstocks and the ports are as before. -/
structure ShutKept (s t : State) : Prop where
  env   : t.env = s.env
  tails : t.tails = s.tails
  ports : t.ports = s.ports
  part  : t.part = s.part
  shut  : s.ringsShut → t.ringsShut

theorem ShutKept.refl (s : State) : ShutKept s s := ⟨rfl, rfl, rfl, rfl, id⟩

theorem ShutKept.trans {s t u : State} (h : ShutKept s t) (k : ShutKept t u) : ShutKept s u :=
  ⟨k.env.trans h.env, k.tails.trans h.tails, k.ports.trans h.ports, k.part.trans h.part, fun hs => k.shut (h.shut hs)⟩

theorem ShutKept.foldl {α : Type} {f : State → α → State} (h : ∀ s x, s.ringsShut → ShutKept s (f s x)) (l : List α)
    {s : State} (hs : s.ringsShut) : ShutKept s (l.foldl f s) := by
  induction l generalizing s with
  | nil => exact .refl s
  | cons x l ih => exact (h s x hs).trans (ih ((h s x hs).shut hs))

theorem ShutKept.foldlAll {α : Type} {f : State → α → State} (h : ∀ s x, ShutKept s (f s x)) (l : List α) (s : State) :
    ShutKept s (l.foldl f s) := by
  induction l generalizing s with
  | nil => exact .refl s
  | cons x l ih => exact (h s x).trans (ih _)

/-- What leaves the rings shut because it leaves them alone. -/
theorem ShutKept.of_rings {s t : State} (henv : t.env = s.env) (htails : t.tails = s.tails) (hports : t.ports = s.ports)
    (hpart : t.part = s.part) (hrings : t.rings = s.rings) : ShutKept s t :=
  ⟨henv, htails, hports, hpart, fun hs n => by rw [State.ring_congr hrings]; exact hs n⟩

theorem ShutKept.setFlight (s : State) (f : Flight) : ShutKept s (s.setFlight f) := .of_rings rfl rfl rfl rfl rfl

/-- A ring is written back with EN as it was. -/
theorem ShutKept.setRing (s : State) {n : Nat} {x : Ring} (h : x.en = (s.ring n).en) : ShutKept s (s.setRing n x) := by
  refine ⟨rfl, rfl, rfl, rfl, fun hs m => ?_⟩
  by_cases hm : m = n
  · subst hm
    rw [State.ring_setRing_self, h]
    exact hs m
  · rw [State.ring_setRing_ne _ _ hm]
    exact hs m

theorem ShutKept.fpInt (s : State) (b : Nat) : ShutKept s (s.fpInt b) :=
  .of_rings (s.fpInt_env b) (Reports.fpInt s b).tails (Reports.fpInt s b).ports (Reports.fpInt s b).fields.2.2.1 (s.fpInt_rings b)

theorem ShutKept.haltOn (s : State) (ring status : Nat) : ShutKept s (s.haltOn ring status) := by
  unfold State.haltOn
  split
  · refine ShutKept.trans (.setRing s ?_) (.fpInt _ _)
    rfl
  · exact .refl s

theorem ShutKept.retire (s : State) (f : Flight) : ShutKept s (s.retire f) :=
  (ShutKept.setFlight s _).trans (.setRing _ rfl)

/-- A shut ring takes no entry (R55). -/
theorem State.ringOpen_shut {s : State} (h : s.ringsShut) (n len : Nat) : s.ringOpen n len = false := by
  simp [State.ringOpen, h n]

theorem ShutKept.endSeries {s : State} (f : Flight) (status detail : Nat) (h : s.ringsShut) :
    ShutKept s (s.endSeries f status detail) := by
  have hhalt := ShutKept.haltOn s f.ring status
  have hopen := State.ringOpen_shut (hhalt.shut h) ((s.haltOn f.ring status).cqOf f.ring) 16
  simp only [State.endSeries, hopen, Bool.false_eq_true, if_false]
  exact hhalt.trans (.setFlight _ _)

theorem ShutKept.afterRec {s : State} (f : Flight) (status : Nat) (h : s.ringsShut) :
    ShutKept s (s.afterRec f status) := by
  unfold State.afterRec
  split
  · exact .retire s f
  · split
    · exact .endSeries f _ _ h
    · dsimp only
      split
      · exact .setFlight s _
      · exact .endSeries f _ _ h

theorem ShutKept.deliver {s : State} (f : Flight) (status detail result time : Nat) (h : s.ringsShut) :
    ShutKept s (s.deliver f status detail result time) := by
  unfold State.deliver
  split
  · rw [State.ringOpen_shut h, if_neg Bool.false_ne_true]
    exact .setFlight s _
  · exact .afterRec f status h

/-- Completing an instruction while all rings are shut. -/
theorem ShutKept.complete {s : State} (n : Nat) (c : Compl) (h : s.ringsShut) : ShutKept s (s.complete n c) := by
  have hdenied : ∀ (u : State) (p : Prop) [Decidable p], ShutKept u (if p then u.bump locLed R.POW_CNT_DENIED else u) := by
    intro u p _
    split
    · exact .of_rings rfl rfl rfl rfl rfl
    · exact .refl u
  have hunblock : ∀ (u : State) (p : Prop) [Decidable p] (r : Nat),
      ShutKept u (if p then u.setRing r { u.ring r with blocked := false } else u) := by
    intro u p _ r
    split
    · exact .setRing u rfl
    · exact .refl u
  unfold State.complete
  split
  · exact .refl s
  · have hbefore := fun (status : Nat) (f : Flight) =>
      ((hdenied s (status = stDenied)).trans (.haltOn _ f.ring status)).trans (hunblock _ (isBlocking f.cmd.opcode = true) f.ring)
    exact (hbefore _ _).trans (.deliver _ _ _ _ _ ((hbefore _ _).shut h))

theorem ShutKept.abortFlight {s : State} (f : Flight) (h : s.ringsShut) : ShutKept s (s.abortFlight f) := by
  have hafter : ∀ u : State, ShutKept s u → ∀ c, ShutKept s (u.complete f.num c) :=
    fun u hu c => hu.trans (.complete _ c (hu.shut h))
  unfold State.abortFlight
  dsimp only
  refine hafter _ ?_ _
  exact .of_rings rfl rfl rfl rfl rfl

theorem ShutKept.cmdReset {s : State} (n : Nat) (h : s.ringsShut) : ShutKept s (s.cmdReset n) := by
  have hset : ShutKept s (s.setRing n { s.ring n with resetBusy := true, head := (s.ring n).tail, stalled := false }) :=
    .setRing s rfl
  exact hset.trans (.foldl (fun _ f hs => .abortFlight f hs) _ (hset.shut h))

theorem ShutKept.emptyRing (s : State) (n : Nat) : ShutKept s (s.emptyRing n) := by
  unfold State.emptyRing
  refine .setRing s ?_
  rfl

theorem ShutKept.ringResetDone (s : State) (n : Nat) : ShutKept s (s.ringResetDone n) := by
  unfold State.ringResetDone
  split
  · exact .setRing s rfl
  · exact .refl s

/-- A ring as the reset of the host port leaves it. -/
def Ring.hostCut (x : Ring) : Ring := { x with en := false, errCnt := 0, pktBase := 0, slotLog2 := 0xB }

/-- The state in which the reset begins: DMA is stopped, every ring is shut, and every instruction is mute (R333, R437). -/
def State.hostCut (s : State) : State :=
  let u := { s with env := { s.env with busMaster := false, bar2 := none } }.fpHostReset
  { u with
    plyn := { u.plyn with flights := u.plyn.flights.map (fun f => { f with mute := true }) },
    rings := u.rings.map (fun x => (x.1, x.2.hostCut)) }

/-- What a table of mapped values holds. -/
theorem Tab.get?_map {α : Type} (g : α → α) (t : Tab α) (k : Nat) :
    Tab.get? (t.map (fun x => (x.1, g x.2))) k = (Tab.get? t k).map g := by
  induction t with
  | nil => rfl
  | cons x t ih =>
    simp only [List.map_cons, Tab.get?]
    split
    · rfl
    · exact ih

/-- A table holds nothing under a key whose entries were all removed. -/
theorem Tab.get?_filter_none {α : Type} (p : Nat × α → Bool) (t : Tab α) {k : Nat} (h : ∀ v, p (k, v) = false) :
    Tab.get? (t.filter p) k = none := by
  induction t with
  | nil => rfl
  | cons x t ih =>
    obtain ⟨j, v⟩ := x
    rw [List.filter_cons]
    split
    case isTrue hp =>
      have hk : j ≠ k := fun e => by rw [e, h v] at hp; exact absurd hp (by decide)
      simp only [Tab.get?, hk, if_false, ih]
    case isFalse => exact ih

theorem State.hostCut_shut (s : State) : s.hostCut.ringsShut := by
  intro n
  have hget : Tab.get? s.hostCut.rings n = (Tab.get? s.rings n).map Ring.hostCut := Tab.get?_map _ _ _
  rw [State.ring, Tab.get, hget]
  cases Tab.get? s.rings n <;> rfl

/-- The end of the instructions and rings that the reset of the host port brings. -/
theorem State.hostReset_cut (s : State) : ∃ t : State, s.hostReset = t.fpHostReset ∧ ShutKept s.hostCut t := by
  refine ⟨_, rfl, ?_⟩
  have hcut := s.hostCut_shut
  have hcmd := ShutKept.foldl (f := State.cmdReset) (fun _ n hs => .cmdReset n hs) (List.range 32) hcut
  refine ShutKept.trans ?_ (.foldlAll (fun u i => .ringResetDone u i) _ _)
  refine ShutKept.trans ?_ (.foldlAll (fun u i => .emptyRing u (32 + i)) _ _)
  refine hcmd.trans (.foldl (fun u f hs => ?_) _ (hcmd.shut hcut))
  cases f.phase with
  | record status _ _ _ => exact .afterRec f status hs
  | _ => exact .refl u

/-- A register that the reset clears holds its reset word (R333). -/
theorem State.reg_fpHostReset (s : State) {off : Nat} (h : hostResetOff off = true) :
    s.fpHostReset.reg locFp off = resetWord s.part locFp off := by
  have hoff : off < 16777216 := by
    simp only [hostResetOff, Bool.or_eq_true, Bool.and_eq_true, beq_iff_eq, decide_eq_true_eq] at h
    omega
  have hnone : Tab.get? s.fpHostReset.regs (regKey locFp off) = none := by
    refine Tab.get?_filter_none _ _ ?_
    have h1 : regKey locFp off / 16777216 = locFp := by unfold regKey; omega
    have h2 : regKey locFp off % 16777216 = off := by unfold regKey; omega
    intro v
    simp [h1, h2, h]
  rw [State.reg, hnone]
  rfl

/-! ### The statement -/

/-- Settles O16. -/
theorem interruptsAndHostPort : Obligations.InterruptsAndHostPort := by
  refine ⟨fun s hserves => ⟨fun v hquiet => ?_, fun v hv hset hmask => ?_, fun v hv hpend => ?_,
    fun n hlo hhi hen harmed hpending htime hmask => ?_⟩, fun s => ⟨rfl, ?_, fun ir h => ?_, fun ir h hrst => ?_,
    fun ir h => ?_, fun ir h h6 hrst => ?_⟩⟩
  · show execFpIntWrite 0x24 v s = _
    have hen : ∀ w, (s.setReg locFp 0x24 w).fp R.FP_INT_EN_EN = s.fp R.FP_INT_EN_EN := fun w => by
      simp only [State.fp, State.fld]
      rw [s.reg_setReg_off w (by decide)]
    simp only [execFpIntWrite, hserves, if_true, State.fpIntWrite, State.reg_setReg_self, hen]
    rw [if_neg]
    rintro ⟨-, hne⟩
    exact hne hquiet
  · show execFpIntWrite 0x28 v s = _
    have hstat : (s.put locFp R.FP_INT_EN_EN v).reg locFp 0x24 = s.reg locFp 0x24 := s.reg_put_off v (by decide)
    have hfield : (s.put locFp R.FP_INT_EN_EN v).fp R.FP_INT_EN_EN = v := by
      rw [State.fp, s.fld_put_self _ v (by decide)]
      exact Nat.mod_eq_of_lt hv
    have hmap : (s.put locFp R.FP_INT_EN_EN v).fp R.FP_INT_MAP_VECTOR = s.fp R.FP_INT_MAP_VECTOR :=
      s.fld_put_off (g := R.FP_INT_MAP_VECTOR) locFp v (by decide)
    have hmask' : bit ((s.put locFp R.FP_INT_EN_EN v).msixEntry (s.fp R.FP_INT_MAP_VECTOR)) 96 = false := hmask
    have hoff : ¬ (0x28 : Nat) = 0x24 := by decide
    have hmsg : Nat.land (s.reg locFp 0x24).toNat v ≠ 0 := hset
    simp only [execFpIntWrite, hserves, State.fpIntWrite, State.fpPut, if_neg hoff, if_true, hstat, hfield, hmap,
      State.msix_unmasked hmask', hmsg, or_true, ne_eq, not_false_eq_true, and_self]
  · show ∃ t, execMsixUnmask v s = _ ∧ _
    have hbit : bit (s.msixEntry v % 2 ^ 96) 96 = false := by
      rw [bit, Nat.div_eq_of_lt (Nat.mod_lt _ (by decide))]
      rfl
    have hcontains : s.msixPend.contains v = true := by simpa using hpend
    have hset : s.setMsix v (s.msixEntry v % 2 ^ 96) = State.send { s with
        msixTab := Tab.set s.msixTab v (s.msixEntry v % 2 ^ 96), msixPend := s.msixPend.filter (· != v) } (.msix v) := by
      simp only [State.setMsix, hbit, hcontains, Bool.not_false, Bool.and_self, if_true]
    refine ⟨_, by rw [execMsixUnmask, if_pos ⟨hv, hserves⟩, hset], rfl, by simp [State.send], ?_⟩
    simp only [State.send, State.msixEntry, Tab.get_set_self]
    exact hbit
  · show ∃ t, execRingIntTimer n s = _ ∧ _
    have hguard : (s.flag locFp (R.RING_INT_EN n) && s.flag locFp (R.RING_INT_ARMED n) && decide (1 ≤ s.ringPending n)
        && s.fp (R.RING_INT_TIME n) != 0) = true := by simp [hen, harmed, hpending, htime]
    refine ⟨_, by simp only [execRingIntTimer]; rw [if_neg (by omega), if_pos hguard], ?_, ?_, ?_⟩
    · rw [State.ringFire, State.msix_unmasked (by exact hmask)]
      rfl
    · rw [State.flag, State.ringFire, State.fpPut, State.fld_put_self _ _ _ (by simp [R.RING_INT_ARMED])]
      rfl
    · rw [State.ringFire, State.msix_unmasked (by exact hmask)]
      show _ ≤ ((s.advanceTo _)).now
      rw [s.now_advanceTo, usTicks]
      omega
  · obtain ⟨t, ht, hkept⟩ := s.hostReset_cut
    refine ⟨t.fpHostReset, congrArg Host.Outcome.next ht, hkept.env, rfl, rfl, fun off hoff => ?_, hkept.shut s.hostCut_shut,
      hkept.tails, hkept.ports⟩
    rw [t.reg_fpHostReset hoff, hkept.part]
    rfl
  · show execTapInstructionLoad ir s = _
    rw [execTapInstructionLoad, if_pos h]
  · show execTapInstructionLoad ir s = _
    rw [execTapInstructionLoad, if_neg (by omega), if_pos (Or.inr hrst)]
    rfl
  · show execTapInstructionLoad ir s = _
    rw [execTapInstructionLoad, if_neg (by omega), if_pos (Or.inl h)]
    rfl
  · show execTapInstructionLoad ir s = _
    rw [execTapInstructionLoad, if_neg (by omega), if_neg (by simp [hrst]; omega)]

end Sys2Proof.Machine
end

section
/-! PROOFS. Power-on and FP_BOOT_GO (R331 to R341): which registers the boot writes, and the state and code that it ends
with. -/

namespace Sys2Proof.Machine

/-! ### Which registers interrupts, FAULT_N and the boot state write -/

theorem State.reg_put_ne (s : State) {loc l o : Nat} {f : Fld} (v : Nat) (h : regKey l o ≠ regKey loc f.off) :
    (s.put loc f v).reg l o = s.reg l o := s.reg_setReg_ne _ h

theorem State.fld_put_ne (s : State) {loc l : Nat} {f g : Fld} (v : Nat) (h : regKey l g.off ≠ regKey loc f.off) :
    (s.put loc f v).fld l g = s.fld l g := by rw [State.fld, s.reg_put_ne v h, State.fld]

theorem State.fld_of_reg {s t : State} {loc : Nat} {f : Fld} (h : t.reg loc f.off = s.reg loc f.off) :
    t.fld loc f = s.fld loc f := by rw [State.fld, h, State.fld]

@[simp] theorem State.reg_msix (s : State) (v l o : Nat) : (s.msix v).reg l o = s.reg l o :=
  State.reg_congr (s.msix_regs v) (s.msix_part v) l o

/-- The registers that an interrupt bit writes (R431): FP_INT_STAT and its counter. -/
theorem State.reg_fpInt_ne (s : State) {b l o : Nat} (hstat : regKey l o ≠ regKey locFp 0x24)
    (hcnt : regKey l o ≠ regKey locFp (0x40 + 4 * b)) : (s.fpInt b).reg l o = s.reg l o := by
  have h : ((s.put locFp ⟨0x24, b, 1⟩ 1).bump locFp (R.FP_INT_CNT_COUNT b)).reg l o = s.reg l o := by
    rw [State.bump, State.bumpBy, State.reg_put_ne _ _ hcnt, State.reg_put_ne _ _ hstat]
  unfold State.fpInt
  dsimp only
  split
  · rw [State.reg_msix, h]
  · exact h

/-- The registers that FAULT_N's test writes (R367). -/
theorem State.reg_faultNSync_ne (s : State) {l o : Nat} (hflt : regKey l o ≠ regKey locCol 4)
    (hstat : regKey l o ≠ regKey locFp 0x24) (hcnt : regKey l o ≠ regKey locFp 0x4C) :
    (s.faultNSync).reg l o = s.reg l o := by
  have h : (s.putB locCol R.FLT_STAT_FAULT_N_LOW s.faultNCond).reg l o = s.reg l o := s.reg_put_ne _ hflt
  unfold State.faultNSync
  dsimp only
  split
  · rw [State.reg_fpInt_ne _ hstat hcnt, h]
  · exact h

/-- The registers that a new boot state writes (R341, R431). -/
theorem State.reg_bootState_ne (s : State) (v : Nat) {l o : Nat} (hboot : regKey l o ≠ regKey locFp 4)
    (hstat : regKey l o ≠ regKey locFp 0x24) (hcnt : regKey l o ≠ regKey locFp 0x40) :
    (s.bootState v).reg l o = s.reg l o := by
  unfold State.bootState
  split
  · rfl
  · rw [State.reg_fpInt_ne _ hstat hcnt]
    exact s.reg_put_ne _ hboot

/-- FP_BOOT.STATE takes the new state. -/
theorem State.fp_bootState (s : State) {v : Nat} (h : v < 16) : (s.bootState v).fp R.FP_BOOT_STATE = v := by
  unfold State.bootState
  split
  case isTrue heq => exact heq
  case isFalse =>
    rw [State.fp, State.fld_of_reg (State.reg_fpInt_ne _ (by decide) (by decide)), State.fpPut,
      State.fld_put_self _ _ _ (by decide)]
    exact Nat.mod_eq_of_lt h

/-- The other fields of FP_BOOT do not move with it. -/
theorem State.fp_bootState_field (s : State) (v : Nat) {g : Fld} (hoff : g.off = 4) (hlo : 4 ≤ g.lo) :
    (s.bootState v).fp g = s.fp g := by
  have hself : ((s.fpPut R.FP_BOOT_STATE v).fpInt intBoot).fp g = s.fp g := by
    rw [State.fp, State.fld_of_reg (State.reg_fpInt_ne _ (by rw [hoff]; decide) (by rw [hoff]; decide))]
    exact s.fld_put_field _ v (by decide) hoff (Or.inr hlo)
  unfold State.bootState
  split
  · rfl
  · exact hself

/-- What FAULT_N's test leaves of the faceplate's boot registers. -/
theorem State.fp_faultNSync (s : State) {g : Fld} (hoff : g.off < 0x24) : s.faultNSync.fp g = s.fp g := by
  have hkey : ∀ o, 0x24 ≤ o → o < 16777216 → regKey locFp g.off ≠ regKey locFp o := fun o ho hlt e => by
    have := (regKey_inj (by omega) hlt e).2
    omega
  refine State.fld_of_reg (State.reg_faultNSync_ne _ (fun e => ?_) (hkey _ (by omega) (by omega)) (hkey _ (by omega) (by omega)))
  exact absurd (regKey_inj (by omega) (by omega) e).1 (by decide)

theorem Reports.bootState (s : State) (v : Nat) : Reports s (s.bootState v) := by
  unfold State.bootState
  split
  · exact .refl s
  · exact (Reports.put s _ _ _).trans (.fpInt _ _)

/-! ### A boot that fails -/

/-- The state that a failed boot ends in (R341). -/
def bootFailState (s : State) (code : Nat) (flash : Bool) : Nat :=
  if flash && s.boot.bootsel == 2 && decide (1 ≤ code) && decide (code ≤ 6) then 8 else 7

/-- A boot that fails shows its state and its code, and FP_BOOT_INFO stays (R341). -/
theorem State.bootFail_spec (s : State) {code : Nat} (flash : Bool) (h : code < 256) :
    (s.bootFail code flash).fp R.FP_BOOT_STATE = bootFailState s code flash ∧
      (s.bootFail code flash).fp R.FP_BOOT_CODE = code ∧
      (s.bootFail code flash).fp R.FP_BOOT_INFO_INFO = s.fp R.FP_BOOT_INFO_INFO := by
  have hform : s.bootFail code flash =
      ((s.fpPut R.FP_BOOT_CODE code).bootState (bootFailState s code flash)).faultNSync := rfl
  have hlt : bootFailState s code flash < 16 := by
    unfold bootFailState
    split <;> omega
  refine ⟨?_, ?_, ?_⟩
  · rw [hform, State.fp_faultNSync _ (by decide), State.fp_bootState _ hlt]
  · rw [hform, State.fp_faultNSync _ (by decide), State.fp_bootState_field _ _ rfl (by decide), State.fpPut, State.fp,
      State.fld_put_self _ _ _ (by decide)]
    exact Nat.mod_eq_of_lt h
  · rw [hform, State.fp_faultNSync _ (by decide), State.fp,
      State.fld_of_reg (State.reg_bootState_ne _ _ (by decide) (by decide) (by decide))]
    exact s.fld_put_off _ _ (by decide)

theorem Reports.bootFail (s : State) (code : Nat) (flash : Bool) : Reports s (s.bootFail code flash) :=
  ((Reports.put s _ _ _).trans (.bootState _ _)).trans (.faultNSync _)

theorem bootFailState_go (s : State) (code : Nat) : bootFailState s code false = 7 := rfl

/-- The codes of R341 that refuse an image. -/
theorem State.imageBad_lt {s : State} {i : Image} {b : List Byte} {len code : Nat} (h : s.imageBad i b len = some code) :
    code < 256 := by
  have hall : ∀ o : Option Nat, s.imageBad i b len = o → ∀ c ∈ o, c < 256 := by
    intro o ho
    subst ho
    unfold State.imageBad
    dsimp only
    repeat' split
    all_goals simp
  exact hall _ rfl code (by rw [h]; rfl)

/-! ### The states of the headstocks -/

/-- The field that holds a headstock's state. -/
def hsField (tb : Bool) : Fld := if tb then R.HST_STAT_TB_STATE else R.HST_STAT_TA_STATE

theorem State.hsRaw_of_reg {s t : State} (h : t.reg locArb 0x704 = s.reg locArb 0x704) (tb : Bool) :
    t.hsRaw tb = s.hsRaw tb := by
  cases tb <;> exact State.fld_of_reg h

@[simp] theorem State.hsRaw_setHs_self (s : State) (tb : Bool) {v : Nat} (h : v < 8) : (s.setHs tb v).hsRaw tb = v := by
  cases tb <;> exact (s.fld_put_self _ v (by decide)).trans (Nat.mod_eq_of_lt h)

@[simp] theorem State.hsRaw_setHs_not (s : State) (tb : Bool) (v : Nat) : (s.setHs tb v).hsRaw (!tb) = s.hsRaw (!tb) := by
  cases tb <;> exact s.fld_put_field _ v (by decide) rfl (by decide)

@[simp] theorem State.hsRaw_setHs_not' (s : State) (tb : Bool) (v : Nat) : (s.setHs (!tb) v).hsRaw tb = s.hsRaw tb := by
  have h := s.hsRaw_setHs_not (!tb) v
  rwa [Bool.not_not] at h

/-- A headstock's state is the stored one, but for one that warms before it has power. -/
theorem State.hs_of_hsRaw {s : State} {tb : Bool} {v : Nat} (h : s.hsRaw tb = v) (hv : v ≠ hsWarming) : s.hs tb = v := by
  rw [State.hs, if_neg (by rw [h]; exact fun hw => hv hw.1), h]

theorem State.hs_eq_active {s : State} {tb : Bool} : s.hs tb = hsActive ↔ s.hsRaw tb = hsActive := by
  constructor
  · intro h
    unfold State.hs at h
    split at h
    · exact absurd h (by decide)
    · exact h
  · exact fun h => State.hs_of_hsRaw h (by decide)

theorem State.activeHs_of {s : State} {tb : Bool} (h : s.hsRaw tb = hsActive) : s.activeHs.isSome = true := by
  have hs := State.hs_of_hsRaw h (by decide)
  cases tb <;> by_cases hf : s.hs false = hsActive <;> simp_all [State.activeHs, State.hsIn]

theorem State.activeHs_none {s : State} {tb : Bool} (h : s.hsRaw tb ≠ hsActive) (h' : s.hsRaw (!tb) ≠ hsActive) :
    s.activeHs = none := by
  rw [Ne, ← State.hs_eq_active] at h h'
  cases tb <;> simp_all [State.activeHs, State.hsIn]

theorem State.hsIn_isSome {s : State} {tb : Bool} {v : Nat} (h : s.hs tb = v) : (s.hsIn v).isSome = true := by
  unfold State.hsIn
  split
  · rfl
  · cases tb
    · contradiction
    · rw [if_pos h]
      rfl

/-! ### The calibrations that a boot loads -/

/-- The registers that a calibration's status is kept in (R384). -/
theorem State.reg_calSet_ne (s : State) (loc item source : Nat) (values : List Int) (valid : Bool) {l o : Nat}
    (h : o < 0xF00) : (s.calSet loc item source values valid).reg l o = s.reg l o := by
  have hkey : ∀ off, 0xF00 ≤ off → off < 16777216 → regKey l o ≠ regKey loc off := fun off hlo hlt e => by
    have := (regKey_inj (by omega) hlt e).2
    omega
  simp only [State.calSet, State.putPair, State.putB]
  rw [State.reg_put_ne _ _ (hkey _ (by decide) (by decide)), State.reg_put_ne _ _ (hkey _ (by decide) (by decide)),
    State.reg_put_ne _ _ (hkey _ (by decide) (by decide)), State.reg_put_ne _ _ (hkey _ (by decide) (by decide)),
    State.reg_put_ne _ _ (hkey _ (by decide) (by decide))]
  rfl

theorem State.reg_foldl {α : Type} {f : State → α → State} {l o : Nat} (h : ∀ s x, (f s x).reg l o = s.reg l o)
    (xs : List α) (s : State) : (xs.foldl f s).reg l o = s.reg l o := by
  induction xs generalizing s with
  | nil => rfl
  | cons x xs ih => exact (ih _).trans (h s x)

/-! ### The headstocks at power-on -/

/-- A headstock that passes its self-test with no other ACTIVE is ACTIVE (R177, R334). -/
theorem State.bootHs_active {s : State} {tb : Bool} (h : s.hsRaw (!tb) ≠ hsActive) :
    (s.bootHs tb 0).hsRaw tb = hsActive ∧ (s.bootHs tb 0).hsRaw (!tb) = s.hsRaw (!tb) := by
  have hcal : ∀ b, ((s.setHs tb hsSelftest).calSelf (hsDie tb)).hsRaw b = (s.setHs tb hsSelftest).hsRaw b :=
    State.hsRaw_of_reg (State.reg_calSet_ne _ _ _ _ _ _ (by decide))
  have hnone : ((s.setHs tb hsSelftest).calSelf (hsDie tb)).activeHs.isSome = false := by
    rw [State.activeHs_none (tb := tb)]
    · rfl
    · rw [hcal, State.hsRaw_setHs_self _ _ (by decide)]
      decide
    · rw [hcal, State.hsRaw_setHs_not]
      exact h
  have hact : ∀ (u : State) b, (((u.arbPut R.HST_STAT_ACTIVE_TB (b2n tb)).giveEpoch tb).setDrive tb true).hsRaw b = u.hsRaw b := by
    intro u b
    cases b <;> exact u.fld_put_field _ _ (by decide) rfl (by decide)
  simp only [State.bootHs, ne_eq, not_true_eq_false, if_false, hnone, Bool.false_eq_true, hact]
  rw [State.hsRaw_setHs_self _ _ (by decide), State.hsRaw_setHs_not, hcal, State.hsRaw_setHs_not]
  exact ⟨rfl, rfl⟩

/-- Beside an ACTIVE one it is STANDBY (R177, R334). -/
theorem State.bootHs_standby {s : State} {tb : Bool} (h : s.hsRaw (!tb) = hsActive) :
    (s.bootHs tb 0).hsRaw tb = hsStandby ∧ (s.bootHs tb 0).hsRaw (!tb) = hsActive := by
  have hcal : ∀ b, ((s.setHs tb hsSelftest).calSelf (hsDie tb)).hsRaw b = (s.setHs tb hsSelftest).hsRaw b :=
    State.hsRaw_of_reg (State.reg_calSet_ne _ _ _ _ _ _ (by decide))
  have hsome : ((s.setHs tb hsSelftest).calSelf (hsDie tb)).activeHs.isSome = true :=
    State.activeHs_of (tb := !tb) (by rw [hcal, State.hsRaw_setHs_not, h])
  simp only [State.bootHs, ne_eq, not_true_eq_false, if_false, hsome, if_true]
  rw [State.hsRaw_setHs_self _ _ (by decide), State.hsRaw_setHs_not, hcal, State.hsRaw_setHs_not]
  exact ⟨rfl, h⟩

theorem State.bootHs_fields (s : State) (tb : Bool) : (s.bootHs tb 0).tails = s.tails ∧ (s.bootHs tb 0).clk = s.clk := by
  simp only [State.bootHs, ne_eq, not_true_eq_false, if_false]
  split <;> exact ⟨rfl, rfl⟩

/-- Both headstocks pass: the preferred one is ACTIVE, the other STANDBY, and their link is up (R177, R334). -/
theorem State.startHst_spec {s : State} (h : s.hsRaw (!s.flag locArb R.HST_CTRL_PREFER_TB) ≠ hsActive) :
    (s.startHst 0 0).hsRaw (s.flag locArb R.HST_CTRL_PREFER_TB) = hsActive ∧
      (s.startHst 0 0).hsRaw (!s.flag locArb R.HST_CTRL_PREFER_TB) = hsStandby ∧
      (s.startHst 0 0).tails = s.tails ∧ (s.startHst 0 0).clk = s.clk := by
  generalize hpref : s.flag locArb R.HST_CTRL_PREFER_TB = pref at h ⊢
  obtain ⟨hact, -⟩ := State.bootHs_active h
  obtain ⟨hstb, hact'⟩ := State.bootHs_standby (s := s.bootHs pref 0) (tb := !pref) (by rw [Bool.not_not]; exact hact)
  rw [Bool.not_not] at hact'
  have hlink : ∀ (u : State) b, (u.arbPut R.HST_STAT_LINK_UP 1).hsRaw b = u.hsRaw b := fun u b => by
    cases b <;> exact u.fld_put_field _ 1 (by decide) rfl (by decide)
  have hform : s.startHst 0 0 = ((s.bootHs pref 0).bootHs (!pref) 0).arbPut R.HST_STAT_LINK_UP 1 := by
    have hsome := State.activeHs_of hact'
    have hin := State.hsIn_isSome (State.hs_of_hsRaw hstb (by decide))
    simp only [State.startHst, hpref, ite_self, hin, if_true]
    rw [if_neg]
    simpa using Option.isSome_iff_ne_none.mp hsome
  obtain ⟨htails, hclk⟩ := State.bootHs_fields s pref
  obtain ⟨htails', hclk'⟩ := State.bootHs_fields (s.bootHs pref 0) (!pref)
  rw [hform, hlink, hlink]
  exact ⟨hact', hstb, htails'.trans htails, hclk'.trans hclk⟩

/-! ### LREF at power-on -/

/-- The first part of the LREF step: its input, the PLLs back on it, the calibrations loaded (R334). -/
def State.lrefLoaded (s : State) : State :=
  let s := s.clkPut R.CLK_STAT_LREF_XB (s.clkF R.CLK_CTRL_LREF_SEL)
  let s := (plls s.part).foldl (fun s p => s.clkPut (R.CLK_PLL_SRC_FAST p) 0) s
  s.calAll.foldl (fun s x => s.calLoad x.1 x.2) s

theorem State.reg_lrefRun (s : State) (x : Servo) (y : Tab Tailstock) (z : Clk) (l o : Nat) :
    ({ s.setServo x with tails := y }.setClk z).reg l o = s.reg l o := rfl

theorem State.reg_clkPut_arb (s : State) {f : Fld} (v : Nat) {o : Nat} (hf : f.off < 16777216) (h : o < 0xF00) :
    (s.clkPut f v).reg locArb o = s.reg locArb o := s.reg_put_loc v (by decide) hf (by omega)

theorem State.reg_calLoads (s : State) (xs : List (Nat × Nat)) {l o : Nat} (h : o < 0xF00) :
    (xs.foldl (fun s x => s.calLoad x.1 x.2) s).reg l o = s.reg l o :=
  State.reg_foldl (fun t _ => t.reg_calSet_ne _ _ _ _ _ h) xs s

theorem State.reg_srcFast_arb (s : State) (l : List Nat) (hall : ∀ p ∈ l, p < 23) {o : Nat} (h : o < 0xF00) :
    (l.foldl (fun s p => s.clkPut (R.CLK_PLL_SRC_FAST p) 0) s).reg locArb o = s.reg locArb o := by
  induction l generalizing s with
  | nil => rfl
  | cons p l ih =>
    have hp := hall p (by simp)
    have hoff : (R.CLK_PLL_SRC_FAST p).off < 16777216 := by
      simp only [R.CLK_PLL_SRC_FAST]
      omega
    exact (ih _ (fun q hq => hall q (by simp [hq]))).trans (s.reg_clkPut_arb 0 hoff h)

theorem mem_plls_lt {p : Part} {k : Nat} (h : k ∈ plls p) : k < 23 := by
  simpa using (List.mem_filter.mp h).1

/-- The start of LREF leaves the arbiter's registers below the calibration's (R334). -/
theorem State.reg_startLref_arb (s : State) {o : Nat} (h : o < 0xF00) : s.startLref.reg locArb o = s.reg locArb o := by
  have hloaded : s.lrefLoaded.reg locArb o = s.reg locArb o := by
    rw [State.lrefLoaded, State.reg_calLoads _ _ h, State.reg_srcFast_arb _ _ (fun _ => mem_plls_lt) h,
      State.reg_clkPut_arb _ _ (by decide) h]
  rw [State.startLref]
  exact (State.reg_lrefRun _ _ _ _ _ _).trans hloaded

/-- After it every tailstock stands at 0 (R334). -/
theorem State.startLref_tails (s : State) {k : Nat} (h : k < 6) :
    (s.startLref.tail k).n = 0 ∧ (s.startLref.tail k).f = 0 ∧ (s.startLref.tail k).m = 0 := by
  have htail : ∀ (c : Int), Tab.get {} ((List.range 6).map (fun t => (t, ({ fcw := c } : Tailstock)))) k = { fcw := c } := by
    intro c
    interval_cases k <;> rfl
  have hk : ∃ c : Int, s.startLref.tail k = { fcw := c } := ⟨_, htail _⟩
  obtain ⟨c, hc⟩ := hk
  rw [hc]
  exact ⟨rfl, rfl, rfl⟩

/-! ### Power-on up to the image -/

/-- Quarantining no cell touches at most the dies' maps (R312). -/
theorem State.quarantine_nil (s : State) : ∃ d : Tab Die, s.quarantine [] = { s with dies := d } := by
  unfold State.quarantine
  generalize sDies s.part = l
  induction l generalizing s with
  | nil => exact ⟨s.dies, rfl⟩
  | cons d l ih =>
    obtain ⟨x, hx⟩ := ih (s.setDie d { s.die d with quarMap := (s.die d).quarMap })
    refine ⟨x, ?_⟩
    have hno : ¬ ((s.die d).quarMap.length < 4096 ∧ 4096 ≤ (s.die d).quarMap.length) := by omega
    simp only [List.foldl_cons, List.filter_nil, List.map_nil, List.foldl_nil, if_neg hno] at hx ⊢
    rw [hx]
    rfl

/-- The first steps of R334: FAST_OSC, the PLLs on it, the crystals, the memory's cells. -/
def State.powered (s : State) (e : BootEnv) (crystals : Bool) : State :=
  let s := s.bootState 1
  let s := s.setClk { s.clk with fastOn := true }
  let s := s.clkPut R.CLK_STAT_FAST_STABLE 1
  let s := (plls s.part).foldl (fun s p => (s.clkPut (R.CLK_PLL_LOCKED p) 1).clkPut (R.CLK_PLL_SRC_FAST p) 1) s
  let s := if crystals then
      (s.putB locClk R.CLK_STAT_XA_STABLE e.xaStable).putB locClk R.CLK_STAT_XB_STABLE e.xbStable else s
  s.quarantine e.badCells

/-- What these steps leave as it is, and that FAST_OSC is stable after them. -/
structure Powered (s t : State) : Prop where
  boot   : t.boot = s.boot
  plyn   : t.plyn = s.plyn
  ports  : t.ports = s.ports
  env    : t.env = s.env

theorem Powered.trans {s t u : State} (h : Powered s t) (k : Powered t u) : Powered s u :=
  ⟨k.boot.trans h.boot, k.plyn.trans h.plyn, k.ports.trans h.ports, k.env.trans h.env⟩

theorem Powered.bootState (s : State) (v : Nat) : Powered s (s.bootState v) := by
  unfold State.bootState
  split
  · exact ⟨rfl, rfl, rfl, rfl⟩
  · obtain ⟨-, -, -, -, -, -, -, hports, -, -, -, -, -, -, -, -, hboot, -⟩ :=
      (Reports.fpInt (s.fpPut R.FP_BOOT_STATE v) intBoot).fields
    exact ⟨hboot, State.fpInt_plyn _ _, hports, State.fpInt_env _ _⟩

/-- A PLL in lock on FAST_OSC, and so on for each (R334). -/
theorem State.onFast_spec (s : State) (l : List Nat) :
    let t := l.foldl (fun s p => (s.clkPut (R.CLK_PLL_LOCKED p) 1).clkPut (R.CLK_PLL_SRC_FAST p) 1) s
    Powered s t ∧ t.clk = s.clk ∧ t.reg locClk 4 = s.reg locClk 4 := by
  induction l generalizing s with
  | nil => exact ⟨⟨rfl, rfl, rfl, rfl⟩, rfl, rfl⟩
  | cons p l ih =>
    obtain ⟨hp, hclk, hreg⟩ := ih ((s.clkPut (R.CLK_PLL_LOCKED p) 1).clkPut (R.CLK_PLL_SRC_FAST p) 1)
    refine ⟨Powered.trans ?_ hp, hclk, hreg.trans ?_⟩
    · exact ⟨rfl, rfl, rfl, rfl⟩
    rw [State.clkPut, State.reg_put_off _ _ (by simp [R.CLK_PLL_SRC_FAST]; omega), State.clkPut,
      State.reg_put_off _ _ (by simp [R.CLK_PLL_LOCKED]; omega)]

theorem State.powered_spec (s : State) {e : BootEnv} (h : e.badCells = []) :
    Powered s (s.powered e true) ∧ (s.powered e true).flag locClk R.CLK_STAT_FAST_STABLE = true := by
  rw [State.powered, h, if_pos rfl]
  dsimp only
  generalize hu : ((s.bootState 1).setClk { (s.bootState 1).clk with fastOn := true }).clkPut R.CLK_STAT_FAST_STABLE 1 = u
  have hpu : Powered s u := by
    rw [← hu]
    exact (Powered.bootState s 1).trans ⟨rfl, rfl, rfl, rfl⟩
  have hfast : u.fld locClk R.CLK_STAT_FAST_STABLE = 1 := by
    rw [← hu]
    exact State.fld_put_self _ _ _ (by decide)
  obtain ⟨hv, -, hreg⟩ := u.onFast_spec (plls u.part)
  generalize (plls u.part).foldl (fun s p => (s.clkPut (R.CLK_PLL_LOCKED p) 1).clkPut (R.CLK_PLL_SRC_FAST p) 1) u = v at hv hreg ⊢
  obtain ⟨d, hd⟩ := ((v.putB locClk R.CLK_STAT_XA_STABLE e.xaStable).putB locClk R.CLK_STAT_XB_STABLE e.xbStable).quarantine_nil
  rw [hd]
  refine ⟨(hpu.trans hv).trans ⟨rfl, rfl, rfl, rfl⟩, ?_⟩
  have hxb := (v.putB locClk R.CLK_STAT_XA_STABLE e.xaStable).fld_put_field locClk (f := R.CLK_STAT_XB_STABLE)
    (g := R.CLK_STAT_FAST_STABLE) (b2n e.xbStable) (by decide) rfl (by decide)
  have hxa := v.fld_put_field locClk (f := R.CLK_STAT_XA_STABLE) (g := R.CLK_STAT_FAST_STABLE) (b2n e.xaStable)
    (by decide) rfl (by decide)
  have hall := hxb.trans (hxa.trans ((State.fld_of_reg hreg).trans hfast))
  simp only [State.flag, beq_iff_eq]
  exact hall

/-- What of the boot leaves CLK_STAT alone. -/
theorem State.flag_bootState_clk (s : State) (v : Nat) (f : Fld) (h : f.off = 4) :
    (s.bootState v).flag locClk f = s.flag locClk f := by
  rw [State.flag, State.fld_of_reg (State.reg_bootState_ne _ _ (by rw [h]; decide) (by rw [h]; decide) (by rw [h]; decide)),
    State.flag]

theorem State.flag_faultNSync_clk (s : State) (f : Fld) (h : f.off = 4) :
    s.faultNSync.flag locClk f = s.flag locClk f := by
  rw [State.flag, State.fld_of_reg (State.reg_faultNSync_ne _ (by rw [h]; decide) (by rw [h]; decide) (by rw [h]; decide)),
    State.flag]

theorem State.flag_bootFail_clk (s : State) (code : Nat) (flash : Bool) (f : Fld) (h : f.off = 4) :
    (s.bootFail code flash).flag locClk f = s.flag locClk f := by
  have hform : s.bootFail code flash =
      ((s.fpPut R.FP_BOOT_CODE code).bootState (bootFailState s code flash)).faultNSync := rfl
  have hput : (s.fpPut R.FP_BOOT_CODE code).fld locClk f = s.fld locClk f := s.fld_put_ne _ (by rw [h]; decide)
  rw [hform, State.flag_faultNSync_clk _ _ h, State.flag_bootState_clk _ _ _ h, State.flag, hput, State.flag]

/-- Power-on from a state whose straps are sampled (R334, R341). -/
theorem State.powerUp_spec (s : State) {e : BootEnv} (hcells : e.badCells = []) (hpgood : s.boot.pgood = true)
    (hstraps : s.boot.bootsel = e.bootsel % 4) :
    (e.bootsel % 2 = 1 → (s.powerUp e true).boot.pgood = true ∧ (s.powerUp e true).boot.bootsel = e.bootsel % 4 ∧
      (s.powerUp e true).flag locClk R.CLK_STAT_FAST_STABLE = true ∧
      (e.memOk = true → (s.powerUp e true).fp R.FP_BOOT_STATE = 8) ∧
      (e.memOk = false → (s.powerUp e true).fp R.FP_BOOT_STATE = 7 ∧ (s.powerUp e true).fp R.FP_BOOT_CODE = 0x09)) ∧
    (e.bootsel % 2 = 0 → e.image.found = false → (s.powerUp e true).fp R.FP_BOOT_CODE = 0x01 ∧
      (s.powerUp e true).fp R.FP_BOOT_STATE = (if e.bootsel % 4 = 2 then 8 else 7)) ∧
    (e.bootsel % 2 = 0 → e.image.found = true → e.memOk = true →
      ∃ u : State, s.powerUp e true = u.bootFrom e.image.bytes e.image.bytes.length e true ∧ u.fp R.FP_BOOT_STATE = 2 ∧
        Powered s u) := by
  obtain ⟨hpow, hfast⟩ := s.powered_spec hcells
  have hform : s.powerUp e true = (if (s.powered e true).boot.bootsel % 2 = 1 then
      if e.memOk then ((s.powered e true).bootState 8).faultNSync else (s.powered e true).bootFail 0x09 false
    else
      if !e.image.found then ((s.powered e true).bootState 2).bootFail 0x01 true
      else if !e.memOk then ((s.powered e true).bootState 2).bootFail 0x09 true
      else ((s.powered e true).bootState 2).bootFrom e.image.bytes e.image.bytes.length e true) := rfl
  generalize s.powered e true = u at hpow hfast hform
  have hsel : u.boot.bootsel = e.bootsel % 4 := by rw [hpow.boot, hstraps]
  have hodd : u.boot.bootsel % 2 = e.bootsel % 2 := by rw [hsel]; omega
  rw [hodd] at hform
  refine ⟨fun hs => ?_, fun hs hfound => ?_, fun hs hfound hmem => ?_⟩
  · rw [if_pos hs] at hform
    cases hmem : e.memOk with
    | true =>
      rw [hmem, if_pos rfl] at hform
      have hrep : (s.powerUp e true).boot = u.boot := by
        obtain ⟨-, -, -, -, -, -, -, -, -, -, -, -, -, -, -, -, hboot, -⟩ :=
          ((Reports.bootState u 8).trans (.faultNSync _)).fields
        rw [hform, hboot]
      refine ⟨by rw [hrep, hpow.boot, hpgood], by rw [hrep, hsel], ?_, fun _ => ?_, by simp⟩
      · rw [hform, State.flag_faultNSync_clk _ _ rfl, State.flag_bootState_clk _ _ _ rfl, hfast]
      · rw [hform, State.fp_faultNSync _ (by decide), State.fp_bootState _ (by decide)]
    | false =>
      rw [hmem, if_neg Bool.false_ne_true] at hform
      have hrep : (s.powerUp e true).boot = u.boot := by
        obtain ⟨-, -, -, -, -, -, -, -, -, -, -, -, -, -, -, -, hboot, -⟩ := (Reports.bootFail u 9 false).fields
        rw [hform, hboot]
      obtain ⟨hstate, hcode, -⟩ := u.bootFail_spec (code := 9) false (by decide)
      refine ⟨by rw [hrep, hpow.boot, hpgood], by rw [hrep, hsel], ?_, by simp, fun _ => ?_⟩
      · rw [hform, State.flag_bootFail_clk _ _ _ _ rfl, hfast]
      · rw [hform]
        exact ⟨hstate, hcode⟩
  · rw [if_neg (by omega), hfound, if_pos (by decide)] at hform
    obtain ⟨hstate, hcode, -⟩ := (u.bootState 2).bootFail_spec (code := 1) true (by decide)
    have hsel' : (u.bootState 2).boot.bootsel = e.bootsel % 4 := by rw [(Powered.bootState u 2).boot, hsel]
    rw [hform, hstate, hcode, bootFailState, hsel']
    refine ⟨rfl, ?_⟩
    by_cases h2 : e.bootsel % 4 = 2 <;> simp [h2]
  · rw [if_neg (by omega), hfound, hmem, if_neg (by decide), if_neg (by decide)] at hform
    exact ⟨_, hform, State.fp_bootState _ (by decide), hpow.trans (.bootState u 2)⟩

/-! ### FP_BOOT_GO -/

/-- FP_BOOT_GO in a state that takes it (R340). -/
theorem exec_fpBootGo_taken {s : State} {v : Nat} (e : BootEnv) (hserves : s.fpServes = true) (hgo : bit v 0 = true)
    (hstate : s.fp R.FP_BOOT_STATE = 7 ∨ s.fp R.FP_BOOT_STATE = 8) {o : Option (List Byte)}
    (hread : (if (s.fp R.FP_BOOT_ADDR_LO_ADDR + s.fp R.FP_BOOT_ADDR_HI_ADDR * 2 ^ 32) % 4096 ≠ 0 then none
      else s.dmaRead (s.fp R.FP_BOOT_ADDR_LO_ADDR + s.fp R.FP_BOOT_ADDR_HI_ADDR * 2 ^ 32) (max (s.fp R.FP_BOOT_LEN_LEN) 1)) = o) :
    exec (.fpBootGo v e) s = .next (o.elim (s.bootFail 0x0A false) (fun b =>
      if e.memOk then s.bootFrom b (s.fp R.FP_BOOT_LEN_LEN) e false else s.bootFail 0x09 false)) := by
  show execFpBootGo v e s = _
  have htaken : ¬ ((!bit v 0) = true ∨ (s.fp R.FP_BOOT_STATE ≠ 7 ∧ s.fp R.FP_BOOT_STATE ≠ 8) ∨ (!s.fpServes) = true) := by
    rw [hgo, hserves]
    simp only [Bool.not_true, Bool.false_eq_true, or_false, false_or]
    omega
  simp only [execFpBootGo, if_neg htaken, hread]
  cases o <;> rfl

/-- The end of a boot that finds LREF: both headstocks pass their self-test (R334, R342). -/
theorem State.hostReady_spec {x : State} (hother : x.hs (!x.flag locArb R.HST_CTRL_PREFER_TB) ≠ hsActive) :
    let t := ((((((x.startLref.bootState 5).startHst 0 0).fpPut R.FP_BOOT_CODE 0).bootState 6).fastRest).ccSync).faultNSync
    t.fp R.FP_BOOT_STATE = 6 ∧ t.fp R.FP_BOOT_CODE = 0 ∧ t.hs (x.flag locArb R.HST_CTRL_PREFER_TB) = hsActive ∧
      t.hs (!x.flag locArb R.HST_CTRL_PREFER_TB) = hsStandby ∧ t.clk.lrefOn = true ∧
      ∀ k, k < 6 → (t.tail k).n = 0 ∧ (t.tail k).f = 0 ∧ (t.tail k).m = 0 := by
  generalize hpref : x.flag locArb R.HST_CTRL_PREFER_TB = pref at hother ⊢
  have hreg5 : ∀ o, o < 0xF00 → (x.startLref.bootState 5).reg locArb o = x.reg locArb o := fun o ho => by
    have hne : ∀ p, p < 16777216 → regKey locArb o ≠ regKey locFp p := fun p hp e =>
      absurd (regKey_inj (by omega) hp e).1 (by decide)
    rw [State.reg_bootState_ne _ _ (hne _ (by decide)) (hne _ (by decide)) (hne _ (by decide)),
      x.reg_startLref_arb ho]
  have hflag : (x.startLref.bootState 5).flag locArb R.HST_CTRL_PREFER_TB = pref := by
    rw [← hpref, State.flag, State.fld_of_reg (hreg5 _ (by decide)), State.flag]
  have hraw : (x.startLref.bootState 5).hsRaw (!pref) ≠ hsActive := by
    rw [State.hsRaw_of_reg (hreg5 _ (by decide)), Ne, ← State.hs_eq_active]
    exact hother
  obtain ⟨hact, hstb, htails, hclk⟩ := State.startHst_spec (s := x.startLref.bootState 5) (by rw [hflag]; exact hraw)
  rw [hflag] at hact hstb
  have hrep5 := (Reports.bootState x.startLref 5).fields
  obtain ⟨-, -, -, htails5, -, -, -, -, -, -, -, -, -, -, -, hclk5, -⟩ := hrep5
  rw [htails5] at htails
  rw [hclk5] at hclk
  generalize (x.startLref.bootState 5).startHst 0 0 = u at hact hstb htails hclk ⊢
  obtain ⟨-, -, -, htails6, -, -, -, -, -, -, -, -, -, -, -, hclk6, -⟩ :=
    ((Reports.put u locFp R.FP_BOOT_CODE 0).trans (.bootState _ 6)).fields
  have hstate6 : ((u.put locFp R.FP_BOOT_CODE 0).bootState 6).fp R.FP_BOOT_STATE = 6 := State.fp_bootState _ (by decide)
  have hcode6 : ((u.put locFp R.FP_BOOT_CODE 0).bootState 6).fp R.FP_BOOT_CODE = 0 := by
    rw [State.fp_bootState_field _ _ rfl (by decide), State.fp, State.fld_put_self _ _ _ (by decide)]
    rfl
  have hreg6 : ((u.put locFp R.FP_BOOT_CODE 0).bootState 6).reg locArb 0x704 = u.reg locArb 0x704 := by
    rw [State.reg_bootState_ne _ _ (by decide) (by decide) (by decide), State.reg_put_ne _ _ (by decide)]
  simp only [State.fpPut]
  generalize (u.put locFp R.FP_BOOT_CODE 0).bootState 6 = v at htails6 hclk6 hstate6 hcode6 hreg6 ⊢
  have hrest : v.fastRest.tails = v.tails ∧ v.fastRest.clk.lrefOn = v.clk.lrefOn ∧
      (∀ l o, l ≠ locClk → o < 16777216 → v.fastRest.reg l o = v.reg l o) := by
    unfold State.fastRest
    split
    · exact ⟨rfl, rfl, fun l o hl ho => (v.setClk { v.clk with fastOn := false }).reg_put_loc _ hl (by decide) ho⟩
    · exact ⟨rfl, rfl, fun _ _ _ _ => rfl⟩
  obtain ⟨htails7, hclk7, hreg7⟩ := hrest
  generalize v.fastRest = w at htails7 hclk7 hreg7 ⊢
  obtain ⟨-, -, -, htails8, -, -, -, -, -, -, -, -, -, -, -, hclk8, -⟩ :=
    ((Reports.put w locArb R.CC_NOW_CLOCK_CLASS w.clockClass).trans (.faultNSync _)).fields
  have hfp : ∀ g : Fld, g.off < 0x24 → (w.ccSync.faultNSync).fp g = v.fp g := fun g hg => by
    rw [State.fp_faultNSync _ hg, State.fp, State.ccSync, State.fld_put_loc _ _ (by decide) (by decide) (by omega), State.fp,
      State.fld_of_reg (hreg7 _ _ (by decide) (by omega))]
  have hregs : (w.ccSync.faultNSync).reg locArb 0x704 = u.reg locArb 0x704 := by
    rw [State.reg_faultNSync_ne _ (by decide) (by decide) (by decide), State.ccSync, State.reg_put_ne _ _ (by decide),
      hreg7 _ _ (by decide) (by decide), hreg6]
  refine ⟨(hfp _ (by decide)).trans hstate6, (hfp _ (by decide)).trans hcode6,
    State.hs_of_hsRaw ((State.hsRaw_of_reg hregs _).trans hact) (by decide),
    State.hs_of_hsRaw ((State.hsRaw_of_reg hregs _).trans hstb) (by decide), ?_, fun k hk => ?_⟩
  · have hlref : x.startLref.clk.lrefOn = true := rfl
    have hclk' : (w.ccSync.faultNSync).clk = w.clk := hclk8
    rw [hclk', hclk7, hclk6, hclk, hlref]
  · have htails' : (w.ccSync.faultNSync).tails = x.startLref.tails := by
      have h8 : (w.ccSync.faultNSync).tails = w.tails := htails8
      rw [h8, htails7, htails6, htails]
    rw [State.tail_congr htails']
    exact x.startLref_tails hk

/-- A boot from an image that is refused (R337, R338, R341). -/
theorem State.bootFrom_refused {s : State} {b : List Byte} {len : Nat} {e : BootEnv} {code : Nat}
    (hbad : ((s.bootState 3).faultNSync).imageBad e.image b len = some code) :
    s.bootFrom b len e false = ((s.bootState 3).faultNSync).bootFail code false := by
  unfold State.bootFrom
  dsimp only
  generalize (s.bootState 3).faultNSync = u at hbad ⊢
  rw [hbad]

/-- The state in which an image's configuration records are applied (R339). -/
def State.imageTaken (s : State) (b : List Byte) : State :=
  (((s.bootState 3).faultNSync).fpPut R.FP_BOOT_KEY_SLOT (leAt b 6 1)).bootState 4

/-- A boot from an image with a record that is refused (R339, R341). -/
theorem State.bootFrom_record {s x : State} {b : List Byte} {len k : Nat} {e : BootEnv}
    (hgood : ((s.bootState 3).faultNSync).imageBad e.image b len = none)
    (hrec : (s.imageTaken b).applyRecords 0 (imageRecords b) = (x, some k)) :
    s.bootFrom b len e false = (x.fpPut R.FP_BOOT_INFO_INFO k).bootFail 0x07 false := by
  unfold State.bootFrom
  unfold State.imageTaken at hrec
  dsimp only
  generalize (s.bootState 3).faultNSync = u at hgood hrec ⊢
  rw [hgood]
  dsimp only
  rw [hrec]

/-- A boot from an image that is taken whole (R334, R339). -/
theorem State.bootFrom_taken {s x : State} {b : List Byte} {len : Nat} {e : BootEnv}
    (hgood : ((s.bootState 3).faultNSync).imageBad e.image b len = none)
    (hrec : (s.imageTaken b).applyRecords 0 (imageRecords b) = (x, none)) :
    s.bootFrom b len e false = if !x.lrefReady then x.bootFail 0x08 false
      else ((((((x.startLref.bootState 5).startHst e.taTest e.tbTest).fpPut R.FP_BOOT_CODE 0).bootState 6).fastRest).ccSync).faultNSync := by
  unfold State.bootFrom
  unfold State.imageTaken at hrec
  dsimp only
  generalize (s.bootState 3).faultNSync = u at hgood hrec ⊢
  rw [hgood]
  dsimp only
  rw [hrec]

/-- Settles O18. -/
theorem bootsReachTheirState : Obligations.BootsReachTheirState := by
  refine ⟨fun s e hcells p hp => ?_, fun s v e hserves => ⟨fun hno => ?_, fun hgo hstate => ⟨fun hbad => ?_,
    fun b halign hread hmem => ?_, fun b halign hread hmem => ?_⟩⟩⟩
  · have hcold : ∀ start : State, start.boot.pgood = true → start.boot.bootsel = e.bootsel % 4 → start.plyn = {} →
        start.ports = [] → start.env.mem = s.env.mem → exec p.1 s = .next (start.powerUp e true) →
        (e.bootsel % 2 = 1 → ∃ t : State, exec p.1 s = .next t ∧ t.boot.pgood = true ∧ t.boot.bootsel = e.bootsel % 4 ∧
           t.flag locClk R.CLK_STAT_FAST_STABLE = true ∧
           (e.memOk = true → t.fp R.FP_BOOT_STATE = 8) ∧
           (e.memOk = false → t.fp R.FP_BOOT_STATE = 7 ∧ t.fp R.FP_BOOT_CODE = 0x09)) ∧
         (e.bootsel % 2 = 0 → e.image.found = false → ∃ t : State, exec p.1 s = .next t ∧ t.fp R.FP_BOOT_CODE = 0x01 ∧
           t.fp R.FP_BOOT_STATE = (if e.bootsel % 4 = 2 then 8 else 7)) ∧
         (e.bootsel % 2 = 0 → e.image.found = true → e.memOk = true →
           ∃ u : State, exec p.1 s = .next (u.bootFrom e.image.bytes e.image.bytes.length e true) ∧
             u.fp R.FP_BOOT_STATE = 2 ∧ u.boot.pgood = true ∧ u.plyn = {} ∧ u.ports = [] ∧ u.env.mem = s.env.mem) := by
      intro start hpgood hstraps hplyn hports henv hexec
      obtain ⟨hhost, hnone, himage⟩ := start.powerUp_spec hcells hpgood hstraps
      refine ⟨fun h => ⟨_, hexec, hhost h⟩, fun h hf => ⟨_, hexec, hnone h hf⟩, fun h hf hm => ?_⟩
      obtain ⟨u, hu, hst, hpow⟩ := himage h hf hm
      exact ⟨u, hexec.trans (congrArg Host.Outcome.next hu), hst, hpow.boot ▸ hpgood, hpow.plyn.trans hplyn,
        hpow.ports.trans hports, (congrArg _ hpow.env).trans henv⟩
    simp only [List.mem_cons, List.not_mem_nil, or_false] at hp
    obtain rfl | rfl := hp
    · refine ⟨fun hpg => ?_, fun hpg => hcold (State.straps { s.cold with
        boot := { s.cold.boot with pgood := true } } e) rfl rfl rfl rfl rfl ?_⟩
      · have hon : s.boot.pgood = true := by simpa using hpg
        show execPowerGoodRise e s = _
        rw [execPowerGoodRise, if_pos hon]
      · have hoff : ¬ s.boot.pgood = true := by simpa using hpg
        show execPowerGoodRise e s = _
        rw [execPowerGoodRise, if_neg hoff]
    · refine ⟨fun hpg => ?_, fun hpg => ?_⟩
      · have hoff : (!s.boot.pgood) = true := by simpa using hpg
        show execRstN e s = _
        rw [execRstN, if_pos hoff]
      · have hon : ¬ (!s.boot.pgood) = true := by simpa using hpg
        have hcause : ∀ (u : State) was c, (u.rstCause was c).boot = u.boot ∧ (u.rstCause was c).plyn = u.plyn ∧
            (u.rstCause was c).ports = u.ports ∧ (u.rstCause was c).env = u.env := by
          intro u was c
          unfold State.rstCause
          split <;> exact ⟨rfl, rfl, rfl, rfl⟩
        have hexec : exec (.rstN e) s = .next ((State.rstCause (State.straps { s.cold with
            boot := { s.cold.boot with pgood := true } } e) s.faults.reduced 1).powerUp e true) := by
          show execRstN e s = _
          rw [execRstN, if_neg hon]
        obtain ⟨hb, hp, hpo, hen⟩ := hcause (State.straps { s.cold with boot := { s.cold.boot with pgood := true } } e)
          s.faults.reduced 1
        exact hcold _ (by rw [hb]; rfl) (by rw [hb]; rfl) (by rw [hp]; rfl) (by rw [hpo]; rfl) (by rw [hen]; rfl) hexec
  · show execFpBootGo v e s = _
    rw [execFpBootGo]
    dsimp only
    rw [if_pos]
    rcases hno with h | h
    · exact Or.inl (by rw [h]; rfl)
    · exact Or.inr (Or.inl h)
  · have hread : (if (s.fp R.FP_BOOT_ADDR_LO_ADDR + s.fp R.FP_BOOT_ADDR_HI_ADDR * 2 ^ 32) % 4096 ≠ 0 then none
      else s.dmaRead (s.fp R.FP_BOOT_ADDR_LO_ADDR + s.fp R.FP_BOOT_ADDR_HI_ADDR * 2 ^ 32) (max (s.fp R.FP_BOOT_LEN_LEN) 1)) = none := by
      split
      · rfl
      case isFalse h => exact hbad.resolve_left h
    obtain ⟨hst, hcode, -⟩ := s.bootFail_spec (code := 0x0A) false (by decide)
    exact ⟨_, exec_fpBootGo_taken e hserves hgo hstate hread, hst, hcode⟩
  · have hexec := exec_fpBootGo_taken e hserves hgo hstate (o := some b) (by rw [if_neg (by omega), hread])
    rw [Option.elim_some, if_neg (by simp [hmem])] at hexec
    obtain ⟨hst, hcode, -⟩ := s.bootFail_spec (code := 0x09) false (by decide)
    exact ⟨_, hexec, hst, hcode⟩
  · have hexec := exec_fpBootGo_taken e hserves hgo hstate (o := some b) (by rw [if_neg (by omega), hread])
    rw [Option.elim_some, if_pos hmem] at hexec
    refine ⟨fun code hbad => ?_, fun hgood => ?_⟩
    · rw [State.bootFrom_refused hbad] at hexec
      obtain ⟨hst, hcode, -⟩ := ((s.bootState 3).faultNSync).bootFail_spec false (State.imageBad_lt hbad)
      exact ⟨_, hexec, hst, hcode⟩
    · refine ⟨fun x k hrec hk => ?_, fun x hrec => ⟨fun hno => ?_, fun hready hta htb => ?_⟩⟩
      · rw [State.bootFrom_record hgood hrec] at hexec
        obtain ⟨hst, hcode, hinfo⟩ := (x.fpPut R.FP_BOOT_INFO_INFO k).bootFail_spec (code := 7) false (by decide)
        refine ⟨_, hexec, hst, hcode, hinfo.trans ?_⟩
        rw [State.fpPut, State.fp, State.fld_put_self _ _ _ (by decide)]
        exact Nat.mod_eq_of_lt hk
      · rw [State.bootFrom_taken hgood hrec, hno, Bool.not_false, if_pos rfl] at hexec
        obtain ⟨hst, hcode, -⟩ := x.bootFail_spec (code := 8) false (by decide)
        exact ⟨_, hexec, hst, hcode⟩
      · rw [State.bootFrom_taken hgood hrec, hready, Bool.not_true, if_neg Bool.false_ne_true, hta, htb] at hexec
        exact fun hother => ⟨_, hexec, State.hostReady_spec hother⟩

end Sys2Proof.Machine
end

section
/-! PROOFS. What registers reporting, faults and the reference selector can write: completions and events those of the
faceplate and one counter of the ledger, the selector those of the hub, so that the registers of ports and lanes stay. -/

namespace Sys2Proof.Machine

/-! ### Fields that lie apart -/

/-- Two fields share no bit: they lie in different registers of a block, or apart in one. -/
def Fld.apart (f g : Fld) : Bool :=
  g.off != f.off || (decide (f.lo + f.len ≤ 32) && (decide (g.lo + g.len ≤ f.lo) || decide (f.lo + f.len ≤ g.lo)))

/-- A put leaves the fields that lie apart. -/
theorem State.fld_put_apart (s : State) (loc : Nat) {f g : Fld} (v : Nat) (h : f.apart g = true) :
    (s.put loc f v).fld loc g = s.fld loc g := by
  by_cases ho : g.off = f.off
  · simp only [Fld.apart, ho, bne_self_eq_false, Bool.false_or, Bool.and_eq_true, Bool.or_eq_true, decide_eq_true_eq] at h
    exact s.fld_put_field loc v h.1 ho h.2
  · exact s.fld_put_off loc v ho

/-! ### Registers outside a set of keys stay -/

/-- A change that leaves every register whose key lies outside `K`. -/
structure RegsOnly (K : Nat → Prop) (s t : State) : Prop where
  part : t.part = s.part
  regs : ∀ k, ¬ K k → Tab.get? t.regs k = Tab.get? s.regs k

section
variable {K : Nat → Prop} {s t u : State}

theorem RegsOnly.refl (s : State) : RegsOnly K s s := ⟨rfl, fun _ _ => rfl⟩

theorem RegsOnly.trans (h : RegsOnly K s t) (k : RegsOnly K t u) : RegsOnly K s u :=
  ⟨k.part.trans h.part, fun i hi => (k.regs i hi).trans (h.regs i hi)⟩

theorem RegsOnly.mono {K' : Nat → Prop} (h : RegsOnly K s t) (hK : ∀ k, K k → K' k) : RegsOnly K' s t :=
  ⟨h.part, fun i hi => h.regs i (fun hk => hi (hK i hk))⟩

theorem RegsOnly.foldl {α : Type} {f : State → α → State} (h : ∀ s x, RegsOnly K s (f s x)) (l : List α) (s : State) :
    RegsOnly K s (l.foldl f s) := by
  induction l generalizing s with
  | nil => exact .refl s
  | cons x l ih => exact (h s x).trans (ih _)

theorem RegsOnly.ite (p : Prop) [Decidable p] (h : RegsOnly K s t) (k : RegsOnly K s u) :
    RegsOnly K s (if p then t else u) := by
  split
  · exact h
  · exact k

/-- What leaves the register file leaves every register. -/
theorem RegsOnly.of_eq (hregs : t.regs = s.regs) (hpart : t.part = s.part) : RegsOnly K s t :=
  ⟨hpart, fun _ _ => by rw [hregs]⟩

theorem RegsOnly.setReg (s : State) {loc off : Nat} (w : Word) (h : K (regKey loc off)) :
    RegsOnly K s (s.setReg loc off w) :=
  ⟨rfl, fun _ hi => Tab.get?_set_ne _ _ (fun e => hi (e ▸ h))⟩

theorem RegsOnly.put (s : State) {loc : Nat} {f : Fld} (v : Nat) (h : K (regKey loc f.off)) : RegsOnly K s (s.put loc f v) :=
  .setReg s _ h

theorem RegsOnly.reg (h : RegsOnly K s t) {l o : Nat} (hk : ¬ K (regKey l o)) : t.reg l o = s.reg l o := by
  rw [State.reg, h.regs _ hk, h.part, State.reg]

theorem RegsOnly.fld (h : RegsOnly K s t) {l : Nat} {f : Fld} (hk : ¬ K (regKey l f.off)) : t.fld l f = s.fld l f :=
  State.fld_of_reg (h.reg hk)

end

/-! ### Completions and events -/

/-- The registers that completions and events write: the faceplate's, and the ledger's count of refusals. -/
def reportKey (k : Nat) : Prop := locFp * 16777216 ≤ k ∨ k = regKey locLed R.POW_CNT_DENIED.off

theorem reportKey_fp (off : Nat) : reportKey (regKey locFp off) := Or.inl (by unfold regKey; omega)

/-- The registers of the hub and of the faceplate, above those of every die. -/
def hubKey (k : Nat) : Prop := 0xC000 * 16777216 ≤ k

theorem hubKey_of_loc {loc : Nat} (h : 0xC000 ≤ loc) (off : Nat) : hubKey (regKey loc off) := by
  unfold hubKey regKey
  omega

theorem hubKey_report {k : Nat} (h : reportKey k) : hubKey k := by
  rcases h with h | rfl
  · unfold hubKey
    unfold locFp at h
    omega
  · exact hubKey_of_loc (by decide) _

theorem not_hubKey {loc off : Nat} (hloc : loc < 0xC000) (hoff : off < 16777216) : ¬ hubKey (regKey loc off) := by
  unfold hubKey regKey
  omega

theorem not_reportKey {loc off : Nat} (hloc : loc < locFp) (hled : loc ≠ locLed ∨ off ≠ R.POW_CNT_DENIED.off)
    (hoff : off < 16777216) : ¬ reportKey (regKey loc off) := by
  rintro (h | h)
  · unfold regKey locFp at *
    omega
  · obtain ⟨h1, h2⟩ := regKey_inj hoff (by decide) h
    omega

/-- What reporting leaves of the registers. -/
abbrev ReportRegs (s t : State) : Prop := RegsOnly reportKey s t

theorem RegsOnly.fpPut (s : State) (f : Fld) (v : Nat) : ReportRegs s (s.put locFp f v) := .put s v (reportKey_fp _)

theorem RegsOnly.msix (s : State) (v : Nat) : ReportRegs s (s.msix v) := .of_eq (s.msix_regs v) (s.msix_part v)

theorem RegsOnly.fpInt (s : State) (b : Nat) : ReportRegs s (s.fpInt b) := by
  have h : ReportRegs s ((s.put locFp ⟨0x24, b, 1⟩ 1).bump locFp (R.FP_INT_CNT_COUNT b)) :=
    (RegsOnly.fpPut ..).trans (.fpPut ..)
  unfold State.fpInt
  exact .ite _ (h.trans (.msix _ _)) h

theorem RegsOnly.setRing (s : State) (n : Nat) (x : Ring) : ReportRegs s (s.setRing n x) := .of_eq rfl rfl

theorem RegsOnly.setFlight (s : State) (f : Flight) : ReportRegs s (s.setFlight f) := .of_eq rfl rfl

theorem RegsOnly.dmaPut (s : State) (a : Nat) (bs : List Byte) : ReportRegs s (s.dmaPut a bs) := by
  unfold State.dmaPut State.dmaWrite
  split <;> exact .of_eq rfl rfl

theorem RegsOnly.ringTest (s : State) (n : Nat) : ReportRegs s (s.ringTest n) := by
  unfold State.ringTest
  exact .ite _ ((RegsOnly.msix s _).trans (.fpPut _ _ _)) (.refl s)

theorem RegsOnly.pushEntry (s : State) (n len e : Nat) : ReportRegs s (s.pushEntry n len e) :=
  ((RegsOnly.dmaPut s _ _).trans (.setRing _ _ _)).trans (.ringTest _ _)

theorem RegsOnly.haltOn (s : State) (ring status : Nat) : ReportRegs s (s.haltOn ring status) := by
  unfold State.haltOn
  exact .ite _ ((RegsOnly.setRing s _ _).trans (.fpInt _ _)) (.refl s)

theorem RegsOnly.retire (s : State) (f : Flight) : ReportRegs s (s.retire f) := .of_eq rfl rfl

theorem RegsOnly.endSeries (s : State) (f : Flight) (status detail : Nat) : ReportRegs s (s.endSeries f status detail) := by
  unfold State.endSeries
  exact .ite _ (((RegsOnly.haltOn s _ _).trans (.pushEntry _ _ _ _)).trans (.retire _ _))
    ((RegsOnly.haltOn s _ _).trans (.setFlight _ _))

theorem RegsOnly.afterRec (s : State) (f : Flight) (status : Nat) : ReportRegs s (s.afterRec f status) := by
  unfold State.afterRec
  refine .ite _ (.retire s f) (.ite _ (.endSeries s f _ _) ?_)
  dsimp only
  split
  · exact .setFlight s _
  · exact .endSeries s f _ _

theorem RegsOnly.deliver (s : State) (f : Flight) (status detail result time : Nat) :
    ReportRegs s (s.deliver f status detail result time) := by
  unfold State.deliver
  exact .ite _ (.ite _ ((RegsOnly.pushEntry s _ _ _).trans (.afterRec _ _ _)) (.setFlight s _)) (.afterRec s f status)

/-- The registers that a completion writes. -/
theorem RegsOnly.complete (s : State) (n : Nat) (c : Compl) : ReportRegs s (s.complete n c) := by
  unfold State.complete
  split
  · exact .refl s
  · dsimp only
    refine RegsOnly.trans ?_ (.deliver _ _ _ _ _ _)
    refine RegsOnly.trans ?_ (RegsOnly.ite _ (.setRing _ _ _) (.refl _))
    exact (RegsOnly.ite _ (.put _ _ (Or.inr rfl)) (.refl _)).trans (.haltOn _ _ _)

theorem RegsOnly.completeOpt (s : State) (n : Option Nat) (c : Compl) : ReportRegs s (s.completeOpt n c) := by
  cases n with
  | none => exact .refl s
  | some n => exact .complete s n c

theorem RegsOnly.wakeWaits (s : State) (kind result time : Nat) : ReportRegs s (s.wakeWaits kind result time) :=
  RegsOnly.foldl (f := fun (t : State) (f : Flight) => t.complete f.num _) (fun t f => .complete t f.num _) _ s

/-- The registers that an event writes. -/
theorem RegsOnly.event (s : State) (kind result time : Nat) (ovr : Option Nat) :
    ReportRegs s (s.event kind result time ovr).1 := by
  unfold State.event
  refine (RegsOnly.wakeWaits s kind result time).trans ?_
  dsimp only
  split
  · exact .refl _
  · split
    · exact .pushEntry _ _ _ _
    · exact (RegsOnly.setRing _ _ _).trans (.fpInt _ _)

/-! ### Faults that are logged -/

/-- What leaves the registers of every die. -/
abbrev HubRegs (s t : State) : Prop := RegsOnly hubKey s t

theorem RegsOnly.of_report {s t : State} (h : ReportRegs s t) : HubRegs s t := h.mono (fun _ => hubKey_report)

theorem RegsOnly.hubPut (s : State) {loc : Nat} (f : Fld) (v : Nat) (h : 0xC000 ≤ loc) : HubRegs s (s.put loc f v) :=
  .put s v (hubKey_of_loc h _)

theorem RegsOnly.colPut (s : State) (f : Fld) (v : Nat) : HubRegs s (s.put locCol f v) := .hubPut s f v (by decide)

theorem RegsOnly.arbPut (s : State) (f : Fld) (v : Nat) : HubRegs s (s.arbPut f v) := .hubPut s f v (by decide)

theorem RegsOnly.colPair (s : State) (lo hi : Fld) (v : Nat) : HubRegs s (s.putPair locCol lo hi v) :=
  (RegsOnly.colPut s _ _).trans (.colPut _ _ _)

theorem RegsOnly.latch (s : State) (base msg time : Nat) : HubRegs s (s.latch base msg time) := by
  unfold State.latch
  exact .ite _ ((RegsOnly.colPut s _ _).trans (.colPut _ _ _))
    (((RegsOnly.colPair s _ _ _).trans (.colPair _ _ _ _)).trans (.colPut _ _ _))

theorem RegsOnly.faultNSync (s : State) : HubRegs s s.faultNSync := by
  have h : HubRegs s (s.putB locCol R.FLT_STAT_FAULT_N_LOW s.faultNCond) := .colPut s _ _
  unfold State.faultNSync
  exact .ite _ (h.trans (.of_report (.fpInt _ _))) h

theorem RegsOnly.hubEvent (s : State) (kind result time : Nat) (ovr : Option Nat) :
    HubRegs s (s.event kind result time ovr).1 := .of_report (.event s kind result time ovr)

theorem RegsOnly.hubComplete (s : State) (n : Nat) (c : Compl) : HubRegs s (s.complete n c) := .of_report (.complete s n c)

/-- The registers that logging a fault writes. -/
theorem RegsOnly.logFault (s : State) (m : FaultMsg) : HubRegs s (s.logFault m) := by
  unfold State.logFault
  dsimp only
  refine RegsOnly.trans ?_ (.faultNSync _)
  refine RegsOnly.trans ?_ (.ite _ (.hubEvent _ _ _ _ _) (.refl _))
  refine RegsOnly.trans ?_ (.ite _ (.latch _ _ _ _) (.refl _))
  refine RegsOnly.trans ?_ (.ite _ (.latch _ _ _ _) (.refl _))
  refine ((((RegsOnly.trans ?_ (.colPair _ _ _ _)).trans (.colPut _ _ _)).trans (.colPut _ _ _)).trans
    (.colPut _ _ _)).trans (.colPut _ _ _)
  exact (RegsOnly.ite _ (.colPut _ _ _) (.refl _)).trans (.colPair _ _ _ _)

/-! ### The reference selector (R158 to R168) -/

/-- What the selector can change: the hub's registers, the reference slots, the servo, and what reporting changes. -/
structure SelKept (s t : State) : Prop where
  rest : { t with regs := s.regs, rings := s.rings, plyn := s.plyn, env := s.env, msixPend := s.msixPend, sent := s.sent,
                  refs := s.refs, servo := s.servo } = s
  regs : HubRegs s t

theorem SelKept.refl (s : State) : SelKept s s := ⟨rfl, .refl s⟩

theorem SelKept.trans {s t u : State} (h : SelKept s t) (k : SelKept t u) : SelKept s u := by
  refine ⟨?_, h.regs.trans k.regs⟩
  conv => rhs; rw [← h.rest, ← k.rest]

theorem SelKept.ite {s t u : State} (p : Prop) [Decidable p] (h : SelKept s t) (k : SelKept s u) :
    SelKept s (if p then t else u) := by
  split
  · exact h
  · exact k

theorem SelKept.foldl {α : Type} {f : State → α → State} (h : ∀ s x, SelKept s (f s x)) (l : List α) (s : State) :
    SelKept s (l.foldl f s) := by
  induction l generalizing s with
  | nil => exact .refl s
  | cons x l ih => exact (h s x).trans (ih _)

theorem SelKept.ports {s t : State} (h : SelKept s t) : t.ports = s.ports := (congrArg State.ports h.rest :)

theorem SelKept.of_reports {s t : State} (h : Reports s t) (k : ReportRegs s t) : SelKept s t := by
  obtain ⟨-, -, -, -, -, hservo, hrefs, -⟩ := h.fields
  refine ⟨?_, .of_report k⟩
  conv => rhs; rw [← h.rest]
  rw [hservo, hrefs]

theorem SelKept.arbPut (s : State) (f : Fld) (v : Nat) : SelKept s (s.arbPut f v) := ⟨rfl, .arbPut s f v⟩

theorem SelKept.putB (s : State) (f : Fld) (b : Bool) : SelKept s (s.putB locArb f b) := ⟨rfl, .arbPut s f _⟩

theorem SelKept.setServo (s : State) (x : Servo) : SelKept s (s.setServo x) := ⟨rfl, .of_eq rfl rfl⟩

theorem SelKept.setRef (s : State) (i : Nat) (x : RefSlot) : SelKept s (s.setRef i x) := ⟨rfl, .of_eq rfl rfl⟩

theorem SelKept.event' (s : State) (kind result time : Nat) : SelKept s (s.event' kind result time) :=
  .of_reports (.event s kind result time none) (.event s kind result time none)

theorem SelKept.traceSync (s : State) : SelKept s s.traceSync := by
  unfold State.traceSync
  exact .ite _ (.putB s _ _) (.ite _ (.putB s _ _) (.refl s))

theorem SelKept.toServo (s : State) (v : Nat) : SelKept s (s.toServo v) := by
  have h : SelKept s (s.arbPut R.REF_SEL_SERVO_STATE v).traceSync := (SelKept.arbPut s _ _).trans (.traceSync _)
  unfold State.toServo
  exact .ite _ (h.trans (.arbPut _ _ _)) (.ite _ (h.trans (.setServo _ _)) h)

theorem SelKept.refEvent (s : State) (prev cause : Nat) (warn : Bool) : SelKept s (s.refEvent prev cause warn) :=
  .event' s _ _ _

theorem SelKept.failSlot (s : State) (i cause : Nat) : SelKept s (s.failSlot i cause) := by
  unfold State.failSlot
  refine .ite _ (.refl s) ?_
  refine SelKept.trans ?_ (.ite _ (.setServo _ _) (.refl _))
  refine SelKept.trans ?_ (.ite _ (.arbPut _ _ _) (.refl _))
  exact (SelKept.setRef s _ _).trans (.arbPut _ _ _)

theorem SelKept.refuseSlot (s : State) (i : Nat) (delta : Int) : SelKept s (s.refuseSlot i delta) := by
  unfold State.refuseSlot
  refine SelKept.trans ?_ (.ite _ (.setServo _ _) (.refl _))
  exact ((SelKept.setRef s _ _).trans (.arbPut _ _ _)).trans (.arbPut _ _ _)

theorem SelKept.passDelta (s : State) (i : Nat) (delta : Int) : SelKept s (s.passDelta i delta) := by
  unfold State.passDelta
  dsimp only
  refine .ite _ (.ite _ (.setRef s _ _) ?_) ((SelKept.setRef s _ _).trans (.setServo _ _))
  exact ((SelKept.setRef s _ _).trans (.setServo _ _)).trans (.setServo _ _)

theorem SelKept.choose (s : State) (i : Nat) : SelKept s (s.choose i) := by
  unfold State.choose
  dsimp only
  have h : ∀ x y v, SelKept s (((((((s.arbPut R.REF_SEL_SELECTED i).arbPut R.REF_SEL_NONE 0).arbPut
      R.REF_SEL_SETTLING 1).setServo x).setRef i y)).toServo v) := fun x y v =>
    ((((SelKept.arbPut s _ _).trans (.arbPut _ _ _)).trans (.arbPut _ _ _)).trans (.setServo _ _)).trans
      ((SelKept.setRef _ _ _).trans (.toServo _ _))
  exact .ite _ (h _ _ _) ((h _ _ _).trans (.passDelta _ _ _))

theorem SelKept.toRest (s : State) (byGate : Bool) : SelKept s (s.toRest byGate) := by
  unfold State.toRest
  dsimp only
  have h : ∀ x, SelKept s (((s.arbPut R.REF_SEL_NONE 1).arbPut R.REF_SEL_SETTLING 0).setServo x) := fun x =>
    ((SelKept.arbPut s _ _).trans (.arbPut _ _ _)).trans (.setServo _ _)
  have hmodel : ∀ u : State, SelKept u (u.restModel byGate) := fun u => .setServo u _
  exact .ite _ (h _) (.ite _ (((h _).trans (hmodel _)).trans ((SelKept.arbPut _ _ _).trans (.toServo _ _)))
    (((h _).trans (.setServo _ _)).trans (.toServo _ _)))

theorem SelKept.decideN (k prev why : Nat) (must : Bool) (s : State) : SelKept s (s.decideN k prev why must) := by
  induction k generalizing s with
  | zero => exact .refl s
  | succ k ih =>
    unfold State.decideN
    refine .ite _ (.ite _ (.setServo s _) (.refl s)) ?_
    dsimp only
    have hmode : SelKept s (if s.arb R.REF_SEL_MODE = 1 ∧ s.refState (s.arb R.REF_SEL_SELECTED) ≠ 3 then
        s.arbPut R.REF_SEL_MODE 0 else s) := .ite _ (.arbPut s _ _) (.refl s)
    refine hmode.trans ?_
    generalize (if s.arb R.REF_SEL_MODE = 1 ∧ s.refState (s.arb R.REF_SEL_SELECTED) ≠ 3 then
        s.arbPut R.REF_SEL_MODE 0 else s) = u
    refine .ite _ (.ite _ (.refEvent _ _ _ _) (.refl _)) ?_
    split
    · exact (SelKept.toRest _ _).trans (.refEvent _ _ _ _)
    · exact .ite _ (((SelKept.refuseSlot _ _ _).trans (.refEvent _ _ _ _)).trans (ih _))
        ((SelKept.choose _ _).trans (.refEvent _ _ _ _))

theorem SelKept.reselect (s : State) (must : Bool) : SelKept s (s.reselect must) := by
  unfold State.reselect
  dsimp only
  split
  · exact (SelKept.setServo s _).trans (.decideN _ _ _ _ _)
  · exact .decideN _ _ _ _ s

theorem SelKept.activityFail (s : State) (i : Nat) : SelKept s (s.activityFail i) := by
  unfold State.activityFail
  dsimp only
  exact .ite _ (.refl s) (.ite _ (.setRef s _ _) ((SelKept.setRef s _ _).trans ((SelKept.failSlot _ _ _).trans
    (.reselect _ _))))

/-- A source that is lost on a port concerns the selector alone (R153). -/
theorem SelKept.sourceLost (s : State) (d p : Nat) (ok : Nat → Bool) : SelKept s (s.sourceLost d p ok) :=
  .foldl (fun s i => .activityFail s i) _ s

end Sys2Proof.Machine
end

section
/-! PROOFS. The CFG group (R9, R411 to R413, R445): the access codes bit by bit, what a read leaves as it is, and what the
writes of single registers set going. -/

namespace Sys2Proof.Machine

/-! ### The fields of a register -/

/-- Two words agree in a field that they hold the same bits of. -/
theorem fget_congr {w w' : Word} {lo len : Nat} (h : ∀ i, i < len → w.toNat.testBit (lo + i) = w'.toNat.testBit (lo + i)) :
    fget w lo len = fget w' lo len := by
  refine Nat.eq_of_testBit_eq fun i => ?_
  simp only [fget, bits, Nat.testBit_mod_two_pow, Nat.testBit_div_two_pow]
  by_cases hi : i < len
  · rw [Nat.add_comm i lo, h i hi]
  · simp [hi]

theorem bit_eq_testBit (x i : Nat) : bit x i = x.testBit i := by
  rw [bit, Nat.testBit_eq_decide_div_mod_eq]
  by_cases h : x / 2 ^ i % 2 = 1 <;> simp [h]

/-- Whether a field of some list covers a bit with its access code. -/
def covered (fs : List FieldDesc) (a : Acc → Bool) (i : Nat) : Bool :=
  fs.any (fun f => a f.acc && decide (f.lo ≤ i) && decide (i < f.lo + f.len))

theorem testBit_fieldMask {len lo i : Nat} (hi : i < 32) :
    ((BitVec.ofNat 32 ((2 ^ len - 1) * 2 ^ lo)).toNat).testBit i = (decide (lo ≤ i) && decide (i < lo + len)) := by
  rw [BitVec.toNat_ofNat, Nat.testBit_mod_two_pow, Nat.testBit_mul_two_pow, Nat.testBit_two_pow_sub_one]
  by_cases h : lo ≤ i
  · have hlt : (i - lo < len) ↔ (i < lo + len) := by omega
    simp [h, hi, hlt]
  · simp [h]

/-- A mask has the bits of the fields of its access code (R9). -/
theorem testBit_maskOf (fs : List FieldDesc) (a : Acc → Bool) {i : Nat} (hi : i < 32) :
    (maskOf fs a).toNat.testBit i = covered fs a i := by
  have hfold : ∀ m : Word, (fs.foldl (fun m f => if a f.acc then m ||| BitVec.ofNat 32 ((2 ^ f.len - 1) * 2 ^ f.lo) else m)
      m).toNat.testBit i = (m.toNat.testBit i || covered fs a i) := by
    induction fs with
    | nil => simp [covered]
    | cons f fs ih =>
      intro m
      rw [List.foldl_cons, ih]
      cases ha : a f.acc with
      | false => simp [covered, ha]
      | true =>
        rw [if_pos rfl, BitVec.toNat_or, Nat.testBit_or, testBit_fieldMask hi]
        simp [covered, ha, Bool.or_assoc]
  rw [maskOf, hfold]
  simp

/-- The fields of a register lie apart: a bit belongs to one of them (R7). -/
theorem covered_of_apart {fs : List FieldDesc} {f : FieldDesc} {i : Nat} (a : Acc → Bool) (h : fieldsApart fs = true)
    (hf : f ∈ fs) (hlo : f.lo ≤ i) (hhi : i < f.lo + f.len) : covered fs a i = a f.acc := by
  induction fs with
  | nil => simp at hf
  | cons g fs ih =>
    simp only [fieldsApart, Bool.and_eq_true, List.all_eq_true, Bool.or_eq_true, decide_eq_true_eq] at h
    obtain ⟨⟨⟨-, -⟩, hapart⟩, hrest⟩ := h
    have hcons : covered (g :: fs) a i = ((a g.acc && decide (g.lo ≤ i) && decide (i < g.lo + g.len)) || covered fs a i) := rfl
    rw [hcons]
    rcases List.mem_cons.1 hf with rfl | hmem
    · have hnone : covered fs a i = false := by
        rw [covered, List.any_eq_false]
        intro x hx
        have := hapart x hx
        simp only [Bool.and_eq_true, decide_eq_true_eq, not_and, not_lt]
        omega
      simp [hnone, hlo, hhi]
    · have := hapart f hmem
      have hoff : (decide (g.lo ≤ i) && decide (i < g.lo + g.len)) = false := by
        rw [Bool.and_eq_false_iff, decide_eq_false_iff_not, decide_eq_false_iff_not]
        omega
      rw [Bool.and_assoc, hoff, Bool.and_false, Bool.false_or]
      exact ih hrest hmem

theorem fieldsApart_le {fs : List FieldDesc} {f : FieldDesc} (h : fieldsApart fs = true) (hf : f ∈ fs) :
    f.lo + f.len ≤ 32 := by
  induction fs with
  | nil => simp at hf
  | cons g fs ih =>
    simp only [fieldsApart, Bool.and_eq_true, decide_eq_true_eq] at h
    rcases List.mem_cons.1 hf with rfl | hmem
    · exact h.1.1.1
    · exact ih h.2 hmem

/-- The word stored by a write, bit by bit (R9). -/
theorem testBit_newWord (fs : List FieldDesc) (old w : Word) {i : Nat} (hi : i < 32) :
    (newWord fs old w).toNat.testBit i =
      ((old.toNat.testBit i && !covered fs isRw i && !(w.toNat.testBit i && covered fs isW1c i)) ||
        (w.toNat.testBit i && covered fs isRw i)) := by
  have hnot : ∀ x : Word, (~~~x).toNat.testBit i = !x.toNat.testBit i := fun x => by
    have h := BitVec.getLsbD_not (x := x) (i := i)
    simpa [BitVec.getLsbD, hi] using h
  simp only [newWord, BitVec.toNat_or, BitVec.toNat_and, Nat.testBit_or, Nat.testBit_and, hnot, testBit_maskOf fs _ hi]

/-- What a write makes of one bit of a field (R9). -/
theorem testBit_newWord_field {fs : List FieldDesc} {f : FieldDesc} (old w : Word) {i : Nat} (h : fieldsApart fs = true)
    (hf : f ∈ fs) (hi : i < f.len) : (newWord fs old w).toNat.testBit (f.lo + i) =
      ((old.toNat.testBit (f.lo + i) && !isRw f.acc && !(w.toNat.testBit (f.lo + i) && isW1c f.acc)) ||
        (w.toNat.testBit (f.lo + i) && isRw f.acc)) := by
  have hle := fieldsApart_le h hf
  rw [testBit_newWord fs old w (by omega), covered_of_apart isRw h hf (by omega) (by omega),
    covered_of_apart isW1c h hf (by omega) (by omega)]

/-! ### The registers of the part -/

/-- Every register of a list has its fields apart. -/
def regsApart (rs : List RegDesc) : Bool := rs.all (fun r => fieldsApart r.fields)

theorem regsApart_ite {a b : List RegDesc} (p : Prop) [Decidable p] (ha : regsApart a = true) (hb : regsApart b = true) :
    regsApart (if p then a else b) = true := by
  split
  · exact ha
  · exact hb

/-- The registers of every location have their fields apart (R7, R445). -/
theorem regsApart_blockRegs (loc : Nat) : regsApart (blockRegs loc) = true := by
  unfold blockRegs
  dsimp only
  repeat' refine regsApart_ite _ ?_ ?_
  all_goals rfl

theorem fieldsApart_fieldsAt {loc off : Nat} {fs : List FieldDesc} (h : fieldsAt loc off = some fs) : fieldsApart fs = true := by
  obtain ⟨r, hr, rfl⟩ := Option.map_eq_some_iff.1 h
  exact List.all_eq_true.1 (regsApart_blockRegs loc) r (List.mem_of_find?_eq_some hr)

/-! ### CFG.READ -/

/-- What reading registers leaves as it is: all but registers, ports' and dies' marks and the counter of open values. -/
def ReadKept (s u : State) : Prop :=
  { u with regs := s.regs, ports := s.ports, dies := s.dies, freeCtr := s.freeCtr } = s

theorem ReadKept.trans {s t u : State} (h : ReadKept s t) (k : ReadKept t u) : ReadKept s u := by
  unfold ReadKept at *
  conv => rhs; rw [← h, ← k]

theorem ReadKept.cwSync (s : State) (d p : Nat) : ReadKept s (s.cwSync d p) := by
  unfold State.cwSync
  split <;> rfl

theorem ReadKept.prbsSync (s : State) (d u l least : Nat) : ReadKept s (s.prbsSync d u l least) := by
  unfold State.prbsSync
  dsimp only
  split
  · rfl
  · split <;> rfl

theorem ReadKept.settle (s : State) (b : Blk) (off : Nat) : ReadKept s (s.settle b off) := by
  unfold State.settle
  split
  · split
    · exact .cwSync s _ _
    · rfl
  · split
    · exact .prbsSync s _ _ _ _
    · rfl
  · rfl

theorem ReadKept.readReg (s : State) (loc off : Nat) : ReadKept s (s.readReg loc off).2 := by
  have h := ReadKept.settle s (blk loc) off
  unfold State.readReg
  dsimp only
  split
  · exact h
  · dsimp only
    split
    · exact h
    · exact ReadKept.trans h rfl

/-- The words and the state of a read of several registers (R412). -/
def State.readRegs (s : State) (loc off cnt : Nat) : List Nat × State :=
  (List.range cnt).foldl (fun (x : List Nat × State) i => (x.1 ++ [(x.2.readReg loc (off + 4 * i)).1],
    (x.2.readReg loc (off + 4 * i)).2)) ([], s)

theorem State.readRegs_succ (s : State) (loc off cnt : Nat) : s.readRegs loc off (cnt + 1) =
    ((s.readRegs loc off cnt).1 ++ [((s.readRegs loc off cnt).2.readReg loc (off + 4 * cnt)).1],
      ((s.readRegs loc off cnt).2.readReg loc (off + 4 * cnt)).2) := by
  rw [State.readRegs, List.range_succ, List.foldl_append]
  rfl

theorem State.readRegs_spec (s : State) (loc off cnt : Nat) :
    (s.readRegs loc off cnt).1.length = cnt ∧ ReadKept s (s.readRegs loc off cnt).2 := by
  induction cnt with
  | zero => exact ⟨rfl, rfl⟩
  | succ k ih =>
    rw [State.readRegs_succ, List.length_append]
    exact ⟨by rw [ih.1]; rfl, ih.2.trans (.readReg _ _ _)⟩

theorem State.cfgTarget_read {s : State} {loc : Nat} (h : blk loc ≠ .none) : s.cfgTarget loc false = none := by
  unfold State.cfgTarget
  split
  · exact absurd ‹_› h
  · rfl
  · rfl

/-- A read of one register that shows no other state (R9, R412). -/
theorem State.readReg_plain {s : State} {loc off : Nat} {fs : List FieldDesc} (hfs : fieldsAt loc off = some fs)
    (hlive : s.dead (blk loc) off = false) (hplain : s.derived (blk loc) off = []) (hsettled : s.settle (blk loc) off = s)
    (hckpt : ∀ tb, blk loc ≠ .ckpt tb) :
    (s.readReg loc off).1 = (s.reg loc off &&& ~~~(maskOf fs isWo)).toNat ∧
      (s.readReg loc off).2.reg loc off = s.reg loc off &&& ~~~(maskOf fs isRc) ∧
      { (s.readReg loc off).2 with regs := s.regs } = s ∧
      ∀ l o, regKey l o ≠ regKey loc off → (s.readReg loc off).2.reg l o = s.reg l o := by
  have hpeek : s.peek loc off = s.reg loc off := by
    unfold State.peek
    dsimp only
    split
    case h_1 tb heq => exact absurd heq (hckpt tb)
    case h_2 => rw [hfs, hlive, hplain]; rfl
  have hread : s.readReg loc off = ((s.reg loc off &&& ~~~(maskOf fs isWo)).toNat,
      if s.reg loc off &&& maskOf fs isRc = 0 then s
      else s.setReg loc off (s.reg loc off &&& ~~~(maskOf fs isRc))) := by
    unfold State.readReg
    dsimp only
    rw [hsettled, hfs, hpeek]
  rw [hread]
  dsimp only
  split
  case isTrue hzero =>
    refine ⟨rfl, ?_, rfl, fun _ _ _ => rfl⟩
    have hsplit : s.reg loc off = (s.reg loc off &&& maskOf fs isRc) ||| (s.reg loc off &&& ~~~(maskOf fs isRc)) := by
      rw [← BitVec.and_or_distrib_left, BitVec.or_not_self, BitVec.and_allOnes]
    conv => lhs; rw [hsplit, hzero]
    exact BitVec.zero_or
  case isFalse => exact ⟨rfl, s.reg_setReg_self _ _ _, rfl, fun _ _ h => s.reg_setReg_ne _ h⟩

/-- Settles O19. -/
theorem cfgReadsAndAccessCodes : Obligations.CfgReadsAndAccessCodes := by
  refine ⟨⟨fun loc off fs h => fieldsApart_fieldsAt h, fun fs f old w h hf => ⟨fun hacc => ?_, fun hacc => ?_,
    fun hacc i hi => ?_⟩⟩, fun n f s hstarts => ⟨fun hnone => ?_, fun hsome => ?_⟩⟩
  · refine fget_congr fun i hi => ?_
    rw [testBit_newWord_field old w h hf hi, hacc]
    simp [isRw, isW1c]
  · refine fget_congr fun i hi => ?_
    rw [testBit_newWord_field old w h hf hi]
    rcases hacc with hacc | hacc | hacc <;> simp [hacc, isRw, isW1c]
  · rw [bit_eq_testBit, bit_eq_testBit, bit_eq_testBit, testBit_newWord_field old w h hf hi, hacc]
    simp [isRw, isW1c]
  · refine hstarts.startRow_completes ?_ (show stNoTarget ≠ stDenied by decide)
    simp only [mCfgRead, State.cfgTarget, hnone]
  · have hop : f.cmd.opcode = 0x10 := by simpa [isOp] using hstarts.form
    have hdie : locDie f.cmd.loc ≠ 7 := fun h => by
      have := hstarts.one h
      rw [hop] at this
      exact absurd this (by decide)
    have hlow : (locDie f.cmd.loc != 7 || (sDies s.part).find?
        (fun d => !s.targetContained f.cmd (onDie f.cmd.loc d)) == some (locDie f.cmd.loc)) = true := by
      simp [hdie]
    have hrun : ∀ o, (s.readRegs f.cmd.loc f.cmd.cfgOff (bits f.cmd.opb 8 4 + 1)).2.dmaWrite (bits f.cmd.opb 12 52 * 64)
        (((s.readRegs f.cmd.loc f.cmd.cfgOff (bits f.cmd.opb 8 4 + 1)).1.map (leBytes 4)).flatten) = o →
        mCfgRead.run f f.cmd.loc s = o.elim ((s.readRegs f.cmd.loc f.cmd.cfgOff (bits f.cmd.opb 8 4 + 1)).2, some dmaFaultC)
          (fun t => (t, some (okC ((s.readRegs f.cmd.loc f.cmd.cfgOff (bits f.cmd.opb 8 4 + 1)).1.headD 0)))) := by
      intro o ho
      simp only [State.readRegs] at ho ⊢
      simp only [mCfgRead, State.cfgTarget_read hsome, hlow, if_true, ho]
      cases o <;> rfl
    have hcnt : bits f.cmd.opb 8 4 + 1 = f.cmd.opb / 256 % 16 + 1 := rfl
    have hoff : f.cmd.cfgOff = f.cmd.opa + f.cmd.opb % 256 * 65536 := by
      rw [Cmd.cfgOff, bits, Nat.pow_zero, Nat.div_one]
      rfl
    obtain ⟨hlen, hkept⟩ := s.readRegs_spec f.cmd.loc f.cmd.cfgOff (bits f.cmd.opb 8 4 + 1)
    refine ⟨(s.readRegs f.cmd.loc f.cmd.cfgOff (bits f.cmd.opb 8 4 + 1)).1,
      (s.readRegs f.cmd.loc f.cmd.cfgOff (bits f.cmd.opb 8 4 + 1)).2, hlen, hkept, fun t ht => ?_, fun hfail => ?_,
      fun fs hone hfs hlive hplain hsettled hckpt => ?_⟩
    · refine hstarts.startRow_completes (hrun (some t) ht) (show stOk ≠ stDenied by decide)
    · refine hstarts.startRow_completes (hrun none hfail) (show stFault ≠ stDenied by decide)
    · have hread : s.readRegs f.cmd.loc f.cmd.cfgOff (bits f.cmd.opb 8 4 + 1) =
          ([(s.readReg f.cmd.loc f.cmd.cfgOff).1], (s.readReg f.cmd.loc f.cmd.cfgOff).2) := by
        rw [hcnt, hone]
        rfl
      rw [hread, hoff]
      obtain ⟨hword, hreg, hfields, hother⟩ := State.readReg_plain hfs hlive hplain hsettled hckpt
      exact ⟨by rw [hword], hreg, hfields, hother⟩

end Sys2Proof.Machine
end

section
/-! PROOFS. CFG.WRITE and CFG.MODIFY (R411, R413), the two port registers with rules of their own (R131, R256), and the
cancelling of timed actions (R80). -/

namespace Sys2Proof.Machine

/-! ### A write that passes its checks -/

theorem lowest_none {a b : Option Nat} (h : lowest a b = none) : a = none ∧ b = none := by
  cases a <;> cases b <;> simp_all [lowest]

/-- An instruction of the CFG group that starts is no broadcast. -/
theorem Starts.die_ne {form : Cmd → Bool} {m : Meaning} {n : Nat} {f : Flight} {s : State} (h : Starts form m n f s)
    (hop : isBlocking f.cmd.opcode = false) : locDie f.cmd.loc ≠ 7 := fun hd => by
  have := h.one hd
  rw [hop] at this
  exact absurd this (by decide)

theorem State.firstLoc_one {s : State} {c : Cmd} (h : locDie c.loc ≠ 7) : s.firstLoc c = c.loc := by
  simp [State.firstLoc, h]

/-- The operands of a write that starts are good (R400, R413). -/
theorem Starts.cfgBad {form : Cmd → Bool} {n : Nat} {f : Flight} {s : State} (h : Starts form mCfgWrite n f s)
    (hop : isBlocking f.cmd.opcode = false) : s.cfgBad f.cmd f.cmd.loc = none := by
  have hbad : lowest f.cmd.cfgRange (s.cfgBad f.cmd (s.firstLoc f.cmd)) = none := h.operands
  rw [State.firstLoc_one (h.die_ne hop)] at hbad
  exact (lowest_none hbad).2

/-- A write whose operands are good has a register (R413). -/
theorem State.writeFields_of_cfgBad {s : State} {c : Cmd} {loc : Nat} (htarget : s.cfgTarget loc true = none)
    (h : s.cfgBad c loc = none) : ∃ fs, writeFields loc c.cfgOff = some fs := by
  cases hfs : writeFields loc c.cfgOff with
  | some fs => exact ⟨fs, rfl⟩
  | none => simp [State.cfgBad, htarget, hfs] at h

/-- RESULT16 of a write: the former value of the field for MODIFY, 0 for WRITE (R411). -/
def Cmd.cfgResult (c : Cmd) (seen : Word) : Compl :=
  okC (if c.opcode = 0x12 then bits seen.toNat (bits c.opb 8 5) (bits c.opb 13 5 - bits c.opb 8 5 + 1) else 0)

/-- A write that its register's rule refuses (R413). -/
theorem mCfgWrite_conflict {f : Flight} {loc : Nat} {s : State} {fs : List FieldDesc} {c : Compl}
    (htarget : s.cfgTarget loc true = none) (hbad : s.cfgBad f.cmd loc = none)
    (hfs : writeFields loc f.cmd.cfgOff = some fs) (hlive : s.dead (blk loc) f.cmd.cfgOff = false)
    (hconflict : s.ruleConflict (blk loc) f.cmd.cfgOff (s.reg loc f.cmd.cfgOff) (s.cfgNew f.cmd loc fs) = some c) :
    mCfgWrite.run f loc s = (s, some c) := by
  simp only [mCfgWrite, htarget, hbad, hfs, hlive, hconflict, Bool.false_eq_true, if_false]

/-- A write that stores and sets going what its register's rule says (R411, R413). -/
theorem mCfgWrite_stores {f : Flight} {loc : Nat} {s t : State} {fs : List FieldDesc}
    (htarget : s.cfgTarget loc true = none) (hbad : s.cfgBad f.cmd loc = none)
    (hfs : writeFields loc f.cmd.cfgOff = some fs) (hlive : s.dead (blk loc) f.cmd.cfgOff = false)
    (hconflict : s.ruleConflict (blk loc) f.cmd.cfgOff (s.reg loc f.cmd.cfgOff) (s.cfgNew f.cmd loc fs) = none)
    (heffect : (s.setReg loc f.cmd.cfgOff (s.cfgNew f.cmd loc fs)).ruleEffect (blk loc) f.cmd.cfgOff
      (s.reg loc f.cmd.cfgOff) (s.cfgNew f.cmd loc fs) (f.cmd.cfgWord fs (s.peek loc f.cmd.cfgOff)) f
      (f.cmd.cfgResult (s.peek loc f.cmd.cfgOff)).result = (t, some (okC 0))) :
    mCfgWrite.run f loc s = (t, some (f.cmd.cfgResult (s.peek loc f.cmd.cfgOff))) := by
  unfold Cmd.cfgResult at heffect ⊢
  simp only [mCfgWrite, htarget, hbad, hfs, hlive, hconflict, heffect, Bool.false_eq_true, if_false]
  rw [if_pos (show (okC 0).status = stOk from rfl)]

/-- A register outside those with a rule of their own only takes the word. -/
theorem State.ruleEffect_plain {s : State} {b : Blk} {off : Nat} (old new w : Word) (f : Flight) (res : Nat)
    (h : plainReg b off = true) : s.ruleEffect b off old new w f res = (s, some (okC 0)) := by
  cases b <;> simp only [plainReg, Bool.and_eq_true, bne_iff_ne, ne_eq, decide_eq_true_eq, Bool.not_eq_true',
    Bool.and_eq_false_iff, decide_eq_false_iff_not] at h
  case port d p =>
    obtain ⟨⟨h4, h300⟩, hasym⟩ := h
    have hasym' : ¬ (0x314 ≤ off ∧ off ≤ 0x320) := by omega
    simp only [State.ruleEffect, if_neg h4, if_neg h300, if_neg hasym']
  case cls d => simp only [State.ruleEffect, if_neg (show ¬ off < 0x40 by omega)]
  case tas d => simp only [State.ruleEffect, if_neg h]
  case col => simp only [State.ruleEffect, if_neg h]
  case arb => simp only [State.ruleEffect, if_neg h]
  case trg n => simp only [State.ruleEffect, if_neg h]
  case clk =>
    simp only [State.ruleEffect, if_neg h.1, if_neg (show ¬ (0x100 ≤ off ∧ fget old 4 2 ≠ fget new 4 2) by omega)]
  all_goals rfl

/-- Every conflict of a register's own rule is a STATE_CONFLICT. -/
theorem State.ruleConflict_status {s : State} {b : Blk} {off : Nat} {old new : Word} {c : Compl}
    (h : s.ruleConflict b off old new = some c) : c.status = stConflict := by
  have hall : ∀ o : Option Compl, s.ruleConflict b off old new = o → ∀ c ∈ o, c.status = stConflict := by
    intro o ho
    subst ho
    unfold State.ruleConflict
    dsimp only
    repeat' split
    all_goals
      intro c hc
      simp only [Option.mem_def, Option.some.injEq, reduceCtorEq] at hc
      try exact hc ▸ rfl
  exact hall _ rfl c h

/-! ### The registers of a port -/

theorem portLoc_facts : ∀ d < 4, ∀ p < 72, blk (portLoc d p) = .port d p ∧ blockRegs (portLoc d p) = regs_port ∧
    locDie (portLoc d p) = d ∧ portLoc d p < 0xC000 := by
  decide +kernel

section
variable {d p : Nat}

theorem blk_portLoc (hd : d < 4) (hp : p < 72) : blk (portLoc d p) = .port d p := (portLoc_facts d hd p hp).1

theorem locDie_portLoc (hd : d < 4) (hp : p < 72) : locDie (portLoc d p) = d := (portLoc_facts d hd p hp).2.2.1

theorem portLoc_lt (hd : d < 4) (hp : p < 72) : portLoc d p < 0xC000 := (portLoc_facts d hd p hp).2.2.2

/-- The fields of a port's register. -/
def portFields (off : Nat) : Option (List FieldDesc) := (regs_port.find? (fun r => r.covers off)).map RegDesc.fields

theorem fieldsAt_portLoc (hd : d < 4) (hp : p < 72) (off : Nat) : fieldsAt (portLoc d p) off = portFields off := by
  rw [fieldsAt, (portLoc_facts d hd p hp).2.1, portFields]

theorem writeFields_portLoc (hd : d < 4) (hp : p < 72) (off : Nat) : writeFields (portLoc d p) off = portFields off := by
  rw [writeFields, blk_portLoc hd hp, fieldsAt_portLoc hd hp]

theorem State.present_lt {s : State} (h : s.present d p = true) : d < 4 ∧ p < 72 := by
  simp only [State.present, Bool.and_eq_true, decide_eq_true_eq] at h
  exact ⟨h.1.1.2, h.1.2⟩

end

/-- An RW field of a register takes what is written (R9). -/
theorem fget_newWord_rw {fs : List FieldDesc} {lo len rst : Nat} (old w : Word) (h : fieldsApart fs = true)
    (hf : ⟨lo, len, .rw, rst⟩ ∈ fs) : fget (newWord fs old w) lo len = fget w lo len := by
  refine fget_congr fun i hi => ?_
  have := testBit_newWord_field old w h hf hi
  simpa [isRw, isW1c] using this

/-! ### Relka is enabled (R131) -/

/-- The registers of a port under a new link state: only RLK_STAT (R131). -/
theorem State.reg_rlkMove (s : State) (d p st : Nat) {l o : Nat} (h : ¬ hubKey (regKey l o)) :
    (s.rlkMove d p st).reg l o = (s.pput d p R.RLK_STAT_STATE st).reg l o := by
  have hmark : ∀ (u : State) (q : Prop) [Decidable q], (if q then u else u.dropMark d p).reg l o = u.reg l o := by
    intro u q _
    split <;> rfl
  unfold State.rlkMove
  dsimp only
  split
  · rw [hmark]
    rfl
  · rw [(SelKept.sourceLost _ d p _).regs.reg h, hmark]
    rfl

/-- A link that is enabled from OFF is in ACQUIRE, and RLK_CTRL stays (R131). -/
theorem State.rlkEnable_spec (s : State) {d p : Nat} (hd : d < 4) (hp : p < 72) :
    (s.rlkEnable d p).rlkState d p = rlkAcquire ∧
      ∀ o, o < 16777216 → o ≠ 0x304 → o ≠ R.RLK_PHASE_PHASE_ACC.off → (s.rlkEnable d p).reg (portLoc d p) o = s.reg (portLoc d p) o := by
  have hhub : ∀ o, o < 16777216 → ¬ hubKey (regKey (portLoc d p) o) := fun o ho => not_hubKey (portLoc_lt hd hp) ho
  constructor
  · rw [State.rlkState, State.pfld, State.fld, State.rlkEnable, State.reg_rlkMove _ _ _ _ (hhub _ (by decide))]
    exact (State.fld_put_self _ _ _ (by decide)).trans rfl
  · intro o ho h304 hacc
    rw [State.rlkEnable, State.reg_rlkMove _ _ _ _ (hhub o ho), State.pput, State.reg_put_off _ _ h304, State.pput,
      State.reg_put_off _ _ hacc]
    rfl

/-! ### Completions and the other instructions -/

theorem State.flight_afterRec_ne (s : State) {f : Flight} (status : Nat) {m : Nat} (h : m ≠ f.num) :
    (s.afterRec f status).flight m = s.flight m := by
  have hset : ∀ (u : State) (g : Flight), g.num = f.num → u.plyn = s.plyn → (u.setFlight g).flight m = s.flight m := by
    intro u g hg hu
    rw [State.flight_setFlight_ne (hg ▸ h), State.flight_congr hu]
  have hend : ∀ g status detail, g.num = f.num → (s.endSeries g status detail).flight m = s.flight m := by
    intro g status detail hg
    unfold State.endSeries
    dsimp only
    split
    · exact hset _ _ hg (by simp [State.putRec])
    · exact hset _ _ hg (by simp)
  unfold State.afterRec
  split
  · exact hset s _ rfl rfl
  · split
    · exact hend _ _ _ rfl
    · dsimp only
      split
      · exact hset s _ rfl rfl
      · exact hend _ _ _ rfl

theorem State.flight_deliver_ne (s : State) {f : Flight} (status detail result time : Nat) {m : Nat} (h : m ≠ f.num) :
    (s.deliver f status detail result time).flight m = s.flight m := by
  unfold State.deliver
  split
  · split
    · rw [State.flight_afterRec_ne _ _ h]
      exact State.flight_congr (State.pushEntry_plyn _ _ _ _) m
    · exact State.flight_setFlight_ne h
  · exact State.flight_afterRec_ne s _ h

/-- The instruction, its status and what its record says, as a completion delivers them (R62, R77). -/
theorem State.complete_delivers {s : State} {n : Nat} {f : Flight} (c : Compl) (h : s.flight n = some f) :
    ∃ status detail result time, s.complete n c = (s.reported f status).deliver (f.tallied status) status detail result time ∧
      (c.status ≠ stOk → status = c.status) := by
  have hform : ∀ status, (if c.status = stOk ∧ f.late.isSome then stLate else c.status) = status →
      s.complete n c = (s.reported f status).deliver (f.tallied status) status
        (if f.cmd.timed && !isBad status then f.idx % 256 else c.detail)
        (if status = stLate then f.late.getD c.result else c.result)
        (f.started.getD (c.time.getD (tx64 (s.nowU f.cmd.timeDie)))) := by
    intro status hstatus
    simp only [State.complete, h, hstatus]
    rfl
  exact ⟨_, _, _, _, hform _ rfl, fun hne => if_neg (fun hok => hne hok.1)⟩

/-- A completion concerns its own instruction alone (R62). -/
theorem State.flight_complete_ne (s : State) {n : Nat} (c : Compl) {m : Nat} (h : m ≠ n) :
    (s.complete n c).flight m = s.flight m := by
  cases hf : s.flight n with
  | none => rw [State.complete_none _ hf]
  | some f =>
    obtain ⟨status, detail, result, time, heq, -⟩ := State.complete_delivers c hf
    have hnum : m ≠ (f.tallied status).num := by
      rw [show (f.tallied status).num = f.num from rfl, State.flight_num hf]
      exact h
    rw [heq, State.flight_deliver_ne _ _ _ _ _ hnum, State.flight_congr (State.reported_plyn _ _ _)]

/-- An instruction that completes ABORTED is retired, or has its record still to write (R55, R73). -/
theorem State.flight_complete_aborted {s : State} {n : Nat} {f : Flight} {c : Compl} (h : s.flight n = some f)
    (hc : c.status = stAborted) : ∃ g, (s.complete n c).flight n = some g ∧ g.phase.isParked = false ∧
      g.phase.isOpen = false ∧ (f.entry = false → g.entry = false) := by
  obtain ⟨status, detail, result, time, heq, hst⟩ := State.complete_delivers c h
  have hstatus : status = stAborted := (hst (by rw [hc]; decide)).trans hc
  subst hstatus
  have hnum : f.num = n := State.flight_num h
  have hrep := State.flight_reported (s := s) stAborted h
  have hlast : ∀ u : State, u.lastOf (f.tallied stAborted) stAborted = true := fun u => by simp [State.lastOf]
  rw [heq, ← hnum]
  unfold State.deliver State.afterRec
  simp only [hlast, if_true]
  split
  · split
    · refine ⟨_, State.flight_retire (f := f.tallied stAborted) (g := f) ?_, rfl, rfl, fun _ => rfl⟩
      rw [State.putRec, State.flight_congr (State.pushEntry_plyn _ _ _ _)]
      exact hrep
    · exact ⟨_, State.flight_setFlight_self (f := { f.tallied stAborted with
        phase := .record stAborted detail result time }) hrep, rfl, rfl, id⟩
  · exact ⟨_, State.flight_retire (f := f.tallied stAborted) hrep, rfl, rfl, fun _ => rfl⟩

/-! ### Cancelling timed actions (R80) -/

/-- What ends instructions leaves as it is: tailstocks, ports, dies and servo. -/
structure EndsKept (s t : State) : Prop where
  tails : t.tails = s.tails
  ports : t.ports = s.ports
  dies  : t.dies = s.dies
  servo : t.servo = s.servo

theorem EndsKept.trans {s t u : State} (h : EndsKept s t) (k : EndsKept t u) : EndsKept s u :=
  ⟨k.tails.trans h.tails, k.ports.trans h.ports, k.dies.trans h.dies, k.servo.trans h.servo⟩

theorem EndsKept.of_reports {s t : State} (h : Reports s t) : EndsKept s t := by
  obtain ⟨-, -, -, htails, -, hservo, -, hports, hdies, -⟩ := h.fields
  exact ⟨htails, hports, hdies, hservo⟩

theorem EndsKept.abortFlight (s : State) (f : Flight) : EndsKept s (s.abortFlight f) := by
  have h : ∀ u : State, EndsKept s u → ∀ c, EndsKept s (u.complete f.num c) :=
    fun u hu c => hu.trans (.of_reports (.complete u f.num c))
  unfold State.abortFlight
  dsimp only
  refine h _ ?_ _
  exact ⟨rfl, rfl, rfl, rfl⟩

theorem State.flight_abortFlight_ne (s : State) {f : Flight} {m : Nat} (h : m ≠ f.num) :
    (s.abortFlight f).flight m = s.flight m := by
  unfold State.abortFlight
  dsimp only
  refine (State.flight_complete_ne _ _ h).trans ((State.flight_setFlight_ne ?_).trans rfl)
  exact h

/-- An instruction that is ended is neither parked nor open, and leaves its store (R73, R80). -/
theorem State.flight_abortFlight_self {s : State} {f : Flight} (h : s.flight f.num = some f) :
    ∃ g, (s.abortFlight f).flight f.num = some g ∧ g.phase.isParked = false ∧ g.phase.isOpen = false ∧ g.entry = false := by
  unfold State.abortFlight
  dsimp only
  obtain ⟨g, hg, hparked, hopen, hentry⟩ := State.flight_complete_aborted (n := f.num)
    (c := { status := stAborted, detail := if f.cmd.timed then f.execs % 256 else 0 })
    (State.flight_setFlight_self (s := { s.setLedger { s.ledger with
      reqs := s.ledger.reqs.filter (fun r => r.num != some f.num),
      waking := s.ledger.waking.map (fun x => (x.1, if x.2.num = some f.num then { x.2 with num := none } else x.2)) } with
      plyn := { s.plyn with fences := Tab.del s.plyn.fences f.num } })
      (f := { f with started := (match f.phase with
        | .exec _ => f.started
        | _ => none), entry := false }) (g := f) h) rfl
  exact ⟨g, hg, hparked, hopen, hentry rfl⟩

theorem EndsKept.cancelAction (s : State) (f : Flight) : EndsKept s (s.cancelAction f) := by
  unfold State.cancelAction
  split
  · split
    · exact ⟨rfl, rfl, rfl, rfl⟩
    · exact .abortFlight s f
  · exact ⟨rfl, rfl, rfl, rfl⟩

theorem State.flight_cancelAction_ne (s : State) {f : Flight} {m : Nat} (h : m ≠ f.num) :
    (s.cancelAction f).flight m = s.flight m := by
  unfold State.cancelAction
  split
  · split
    · exact State.flight_setFlight_ne h
    · exact s.flight_abortFlight_ne h
  · exact State.flight_setFlight_ne h

/-- Each of several actions is cancelled in a state that has it and the same present as before. -/
theorem State.cancelAll_spec (l : List Flight) (s : State) (hnodup : (l.map Flight.num).Nodup) :
    EndsKept s (l.foldl State.cancelAction s) ∧
      (∀ m, (∀ f ∈ l, m ≠ f.num) → (l.foldl State.cancelAction s).flight m = s.flight m) ∧
      ∀ g ∈ l, s.flight g.num = some g → ∃ u : State, EndsKept s u ∧ u.flight g.num = some g ∧
        (l.foldl State.cancelAction s).flight g.num = (u.cancelAction g).flight g.num := by
  induction l generalizing s with
  | nil => exact ⟨⟨rfl, rfl, rfl, rfl⟩, fun _ _ => rfl, by simp⟩
  | cons f l ih =>
    obtain ⟨hf, hl⟩ := List.nodup_cons.1 hnodup
    have hne : ∀ g ∈ l, g.num ≠ f.num := fun g hg e => hf (e ▸ List.mem_map_of_mem hg)
    obtain ⟨hkept, hother, heach⟩ := ih (s.cancelAction f) hl
    refine ⟨(EndsKept.cancelAction s f).trans hkept, fun m hm => ?_, fun g hg hflight => ?_⟩
    · rw [List.foldl_cons, hother m (fun x hx => hm x (List.mem_cons_of_mem _ hx)),
        s.flight_cancelAction_ne (hm f List.mem_cons_self)]
    · rcases List.mem_cons.1 hg with rfl | hmem
      · exact ⟨s, ⟨rfl, rfl, rfl, rfl⟩, hflight, hother _ (fun x hx => (hne x hx).symm)⟩
      · have hthere : (s.cancelAction f).flight g.num = some g := by
          rw [s.flight_cancelAction_ne (hne g hmem), hflight]
        obtain ⟨u, hu, huf, heq⟩ := heach g hmem hthere
        exact ⟨u, (EndsKept.cancelAction s f).trans hu, huf, heq⟩

/-- TAS_CANCEL in a store: what it does to each action that it names (R80). -/
theorem State.tasCancel_spec (s : State) {die cookie ring due : Nat} {g : Flight} (hnodup : (s.plyn.flights.map Flight.num).Nodup)
    (hflight : s.flight g.num = some g) (hentry : g.entry = true) (hphase : g.phase = .parked due)
    (hdie : die ∈ storeDies s.part g.cmd) (hring : g.ring = ring) (hcookie : g.cmd.cookie = cookie) :
    (0 < sdiff due (tx64 (s.nowU g.cmd.timeDie)) → ∃ h, (s.tasCancel die cookie ring).flight g.num = some h ∧
      h.phase.isParked = false ∧ h.phase.isOpen = false ∧ h.entry = false) ∧
    (sdiff due (tx64 (s.nowU g.cmd.timeDie)) ≤ 0 →
      (s.tasCancel die cookie ring).flight g.num = some { g with cancel := true }) := by
  have hmem : g ∈ s.plyn.flights := List.mem_of_find?_eq_some hflight
  obtain ⟨-, -, heach⟩ := State.cancelAll_spec (s.plyn.flights.filter (fun f => f.entry && (storeDies s.part f.cmd).contains die
    && f.ring == ring && f.cmd.cookie == cookie)) s (hnodup.sublist (List.Sublist.map _ List.filter_sublist))
  obtain ⟨u, hu, huf, heq⟩ := heach g (List.mem_filter.2 ⟨hmem, by simp [hentry, hdie, hring, hcookie]⟩) hflight
  have hnow : u.nowU g.cmd.timeDie = s.nowU g.cmd.timeDie := by
    rw [State.nowU, State.tail_congr hu.tails, State.nowU]
  refine ⟨fun hahead => ?_, fun hdue => ?_⟩
  · rw [State.tasCancel, heq]
    simp only [State.cancelAction, hphase, hnow, if_neg (not_le.2 hahead)]
    exact State.flight_abortFlight_self huf
  · rw [State.tasCancel, heq]
    have hself := State.flight_setFlight_self (f := { g with cancel := true }) huf
    simp only [hphase] at hself ⊢
    simp only [State.cancelAction, hphase, hnow, if_pos hdue]
    exact hself

theorem EndsKept.tasCancel {s : State} (die cookie ring : Nat) : EndsKept s (s.tasCancel die cookie ring) := by
  unfold State.tasCancel
  generalize s.plyn.flights.filter _ = l
  induction l generalizing s with
  | nil => exact ⟨rfl, rfl, rfl, rfl⟩
  | cons f l ih => exact (EndsKept.cancelAction s f).trans ih

/-! ### The statement -/

/-- The stored word of a CFG instruction is the one that its row names (R411, R413). -/
theorem Cmd.cfgWord_write {c : Cmd} (fs : List FieldDesc) (old : Word) (h : c.opcode = 0x11) :
    c.cfgWord fs old = BitVec.ofNat 32 (c.opb / 2 ^ 32) := by
  rw [Cmd.cfgWord, if_pos h]
  refine BitVec.eq_of_toNat_eq ?_
  rw [BitVec.toNat_ofNat, BitVec.toNat_ofNat, bits]
  exact Nat.mod_mod _ _

/-- What the writes of one row have in common. -/
theorem cfgRow_spec {op n : Nat} {f : Flight} {s : State} (hop : op = 0x11 ∨ op = 0x12)
    (hstarts : Starts (isOp op) mCfgWrite n f s) {fs : List FieldDesc} (hfs : writeFields f.cmd.loc f.cmd.cfgOff = some fs)
    (htarget : s.cfgTarget f.cmd.loc true = none) (hlive : s.dead (blk f.cmd.loc) f.cmd.cfgOff = false) :
    (s.ruleConflict (blk f.cmd.loc) f.cmd.cfgOff (s.reg f.cmd.loc f.cmd.cfgOff) (s.cfgNew f.cmd f.cmd.loc fs) = none →
      plainReg (blk f.cmd.loc) f.cmd.cfgOff = true → startRow s n (isOp op) mCfgWrite =
        .next ((s.setReg f.cmd.loc f.cmd.cfgOff (s.cfgNew f.cmd f.cmd.loc fs)).complete n
          (f.cmd.cfgResult (s.peek f.cmd.loc f.cmd.cfgOff)))) ∧
    (∀ c, s.ruleConflict (blk f.cmd.loc) f.cmd.cfgOff (s.reg f.cmd.loc f.cmd.cfgOff) (s.cfgNew f.cmd f.cmd.loc fs) = some c →
      startRow s n (isOp op) mCfgWrite = .next (s.complete n c)) := by
  have hopcode : f.cmd.opcode = op := by simpa [isOp] using hstarts.form
  have hblock : isBlocking f.cmd.opcode = false := by
    rw [hopcode]
    rcases hop with rfl | rfl <;> rfl
  have hbad := hstarts.cfgBad hblock
  refine ⟨fun hno hplain => ?_, fun c hc => ?_⟩
  · refine hstarts.startRow_completes (mCfgWrite_stores htarget hbad hfs hlive hno (State.ruleEffect_plain _ _ _ _ _ hplain)) ?_
    exact (show stOk ≠ stDenied by decide)
  · refine hstarts.startRow_completes (mCfgWrite_conflict htarget hbad hfs hlive hc) ?_
    rw [State.ruleConflict_status hc]
    decide

theorem Cmd.cfgOff_eq (c : Cmd) : c.cfgOff = c.opa + c.opb % 256 * 65536 := by
  rw [Cmd.cfgOff, bits, Nat.pow_zero, Nat.div_one]
  rfl

theorem State.cfgTarget_port {s : State} {d p : Nat} (hd : d < 4) (hp : p < 72) (h : s.present d p = true) :
    s.cfgTarget (portLoc d p) true = none := by
  rw [State.cfgTarget, blk_portLoc hd hp]
  simp [h]

theorem State.dead_port {s : State} {d p : Nat} (off : Nat) (hd : d < 4) (hp : p < 72) (h : s.present d p = true) :
    s.dead (blk (portLoc d p)) off = false := by
  rw [blk_portLoc hd hp]
  simp [State.dead, h]

/-- A write of PORT_DEBOUNCE stores at most 10,000 (R256). -/
theorem cfgWrite_debounce {n d p v : Nat} {f : Flight} {s : State} (hd : d < 4) (hp : p < 72) (hpresent : s.present d p = true)
    (hloc : f.cmd.loc = portLoc d p) (hop : f.cmd.opcode = 0x11) (hv : v < 2 ^ 32) (hopa : f.cmd.opa = 8)
    (hopb : f.cmd.opb = v * 2 ^ 32) (hstarts : Starts (isOp 0x11) mCfgWrite n f s) :
    ∃ t : State, exec (.cfgWrite n) s = .next (t.complete n { status := stOk }) ∧
      fget (t.reg (portLoc d p) 8) 0 14 = min (v % 2 ^ 14) 10000 ∧ { t with regs := s.regs } = s ∧
      ∀ o, o ≠ 8 → t.reg (portLoc d p) o = s.reg (portLoc d p) o := by
  have hoff : f.cmd.cfgOff = 8 := by rw [Cmd.cfgOff_eq, hopa, hopb]; omega
  have hfs : writeFields f.cmd.loc f.cmd.cfgOff = some [⟨0, 14, .rw, 0xA⟩] := by
    rw [hloc, hoff, writeFields_portLoc hd hp]
    rfl
  obtain ⟨hstores, -⟩ := cfgRow_spec (Or.inl rfl) hstarts hfs (by rw [hloc]; exact State.cfgTarget_port hd hp hpresent)
    (by rw [hloc]; exact State.dead_port _ hd hp hpresent)
  have hrow := hstores (by rw [hloc, blk_portLoc hd hp, hoff]; rfl) (by rw [hloc, blk_portLoc hd hp, hoff]; rfl)
  have hresult : f.cmd.cfgResult (s.peek f.cmd.loc f.cmd.cfgOff) = { status := stOk } := by
    rw [Cmd.cfgResult, if_neg (by rw [hop]; decide)]
    rfl
  rw [hresult] at hrow
  have hword : f.cmd.cfgWord [⟨0, 14, .rw, 0xA⟩] (s.peek f.cmd.loc f.cmd.cfgOff) = BitVec.ofNat 32 v := by
    rw [Cmd.cfgWord_write _ _ hop, hopb, Nat.mul_div_cancel _ (by decide)]
  refine ⟨_, hrow, ?_, rfl, fun o ho => ?_⟩
  · rw [hloc, hoff, State.reg_setReg_self, State.cfgNew, ← hloc, hword, hloc, blk_portLoc hd hp, hoff]
    have hfget : fget (newWord [⟨0, 14, .rw, 0xA⟩] (s.reg (portLoc d p) 8) (BitVec.ofNat 32 v)) 0 14 = v % 2 ^ 14 := by
      rw [fget_newWord_rw _ _ (by decide) (List.mem_singleton.2 rfl), fget, bits, BitVec.toNat_ofNat,
        Nat.mod_eq_of_lt hv, Nat.pow_zero, Nat.div_one]
    simp only [clamp, true_and, hfget]
    split
    case isTrue h => rw [fget_fset_self _ (by decide)]; omega
    case isFalse h => rw [hfget]; omega
  · rw [hloc, hoff]
    exact s.reg_setReg_off _ ho

/-- The word that enables Relka (R131). -/
theorem cfgWrite_relka {n d p : Nat} {f : Flight} {s : State} (hd : d < 4) (hp : p < 72) (hpresent : s.present d p = true)
    (hloc : f.cmd.loc = portLoc d p) (hop : f.cmd.opcode = 0x11) (hopa : f.cmd.opa = 0x300)
    (hopb : f.cmd.opb = 0x11 * 2 ^ 32) (hoffState : s.rlkState d p = rlkOff) :
    (s.rlkFit d p = false → s.begins n (isOp 0x11) = some f → s.legal f.cmd f.cmd.loc = none →
      exec (.cfgWrite n) s = .next (s.complete n { status := stBadOperand, detail := 8 })) ∧
    (s.rlkFit d p = true → Starts (isOp 0x11) mCfgWrite n f s →
      ∃ t : State, exec (.cfgWrite n) s = .next (t.complete n { status := stOk }) ∧
        t.pflag d p R.RLK_CTRL_EN = true ∧ t.rlkState d p = rlkAcquire) := by
  have hoff : f.cmd.cfgOff = 0x300 := by
    rw [Cmd.cfgOff_eq, hopa, hopb]
    rfl
  have hfs : writeFields (portLoc d p) f.cmd.cfgOff =
      some [⟨0, 1, .rw, 0x0⟩, ⟨1, 1, .rw, 0x0⟩, ⟨2, 1, .rw, 0x0⟩, ⟨4, 3, .rw, 0x1⟩, ⟨16, 5, .rw, 0x0⟩] := by
    rw [hoff, writeFields_portLoc hd hp]
    rfl
  have hword : ∀ fs old, f.cmd.cfgWord fs old = 0x11#32 := fun fs old => by
    rw [Cmd.cfgWord_write _ _ hop, hopb]
    rfl
  have htarget := State.cfgTarget_port hd hp hpresent
  have hlive := fun off => State.dead_port off hd hp hpresent
  have hen : ∀ old, fget (newWord [⟨0, 1, .rw, 0x0⟩, ⟨1, 1, .rw, 0x0⟩, ⟨2, 1, .rw, 0x0⟩, ⟨4, 3, .rw, 0x1⟩,
      ⟨16, 5, .rw, 0x0⟩] old 0x11#32) 0 1 = 1 := fun old => by
    rw [fget_newWord_rw (rst := 0) _ _ (by decide) (by simp)]
    decide
  have hclamp : ∀ w, clamp (.port d p) 0x300 w = w := fun w => by
    rw [clamp, if_neg (by simp)]
  refine ⟨fun hfit hbegins hlegal => ?_, fun hfit hstarts => ?_⟩
  · have hdie : locDie f.cmd.loc ≠ 7 := by
      rw [hloc, locDie_portLoc hd hp]
      omega
    have hbad : mCfgWrite.bad f.cmd s = some 8 := by
      have hrange : f.cmd.cfgRange = none := by
        rw [Cmd.cfgRange, hoff, hop]
        rfl
      have hones : reservedOnes [⟨0, 1, .rw, 0x0⟩, ⟨1, 1, .rw, 0x0⟩, ⟨2, 1, .rw, 0x0⟩, ⟨4, 3, .rw, 0x1⟩,
          ⟨16, 5, .rw, 0x0⟩] 0x11#32 = false := by decide
      show lowest f.cmd.cfgRange (s.cfgBad f.cmd (s.firstLoc f.cmd)) = some 8
      rw [hrange, State.firstLoc_one hdie, hloc, State.cfgBad, if_pos htarget, hfs]
      have hdead := hlive 0x300
      rw [blk_portLoc hd hp] at hdead
      simp [hword, hones, hdead, hoff, blk_portLoc hd hp, hclamp, State.ruleBad, hen, hfit, hoffState, lowest]
    have hrow := startRow_completes (m := mCfgWrite) (c := badC 8) hbegins
      (by rw [Meaning.eff_bad (by simpa [Cmd.isCast_of_die hdie] using hlegal) hbad]) (by decide)
    rwa [Meaning.eff_bad (by simpa [Cmd.isCast_of_die hdie] using hlegal) hbad] at hrow
  · have hbad := hstarts.cfgBad (by rw [hop]; rfl)
    rw [hloc] at hbad
    have hnew : s.cfgNew f.cmd (portLoc d p) [⟨0, 1, .rw, 0x0⟩, ⟨1, 1, .rw, 0x0⟩, ⟨2, 1, .rw, 0x0⟩, ⟨4, 3, .rw, 0x1⟩,
        ⟨16, 5, .rw, 0x0⟩] = newWord [⟨0, 1, .rw, 0x0⟩, ⟨1, 1, .rw, 0x0⟩, ⟨2, 1, .rw, 0x0⟩, ⟨4, 3, .rw, 0x1⟩,
        ⟨16, 5, .rw, 0x0⟩] (s.reg (portLoc d p) 0x300) 0x11#32 := by
      rw [State.cfgNew, hword, hoff, blk_portLoc hd hp, hclamp]
    generalize hnw : newWord [⟨0, 1, .rw, 0x0⟩, ⟨1, 1, .rw, 0x0⟩, ⟨2, 1, .rw, 0x0⟩, ⟨4, 3, .rw, 0x1⟩, ⟨16, 5, .rw, 0x0⟩]
        (s.reg (portLoc d p) 0x300) 0x11#32 = new at hnew
    have hbit : fget new 0 1 = 1 := by rw [← hnw]; exact hen _
    have hstate : (s.setReg (portLoc d p) 0x300 new).rlkState d p = rlkOff := by
      rw [State.rlkState, State.pfld, State.fld, State.reg_setReg_off _ _ (by decide)]
      exact hoffState
    have hrun := mCfgWrite_stores (f := f) (t := (s.setReg (portLoc d p) 0x300 new).rlkEnable d p) htarget hbad hfs (hlive _)
      (by
        rw [hnew, blk_portLoc hd hp, hoff]
        simp [State.ruleConflict, hoffState])
      (by
        rw [hnew, blk_portLoc hd hp, hoff]
        simp [State.ruleEffect, State.rlkSwitch, hbit, hstate])
    have hresult : ∀ seen, f.cmd.cfgResult seen = { status := stOk } := fun seen => by
      rw [Cmd.cfgResult, if_neg (by rw [hop]; decide)]
      rfl
    rw [hresult, ← hloc] at hrun
    obtain ⟨hacq, hregs⟩ := (s.setReg (portLoc d p) 0x300 new).rlkEnable_spec hd hp
    refine ⟨_, hstarts.startRow_completes hrun (show stOk ≠ stDenied by decide), ?_, ?_⟩
    · rw [hloc, State.pflag, State.flag, State.fld, hregs _ (by decide) (by decide) (by decide)]
      have hself : (s.setReg (portLoc d p) 0x300 new).reg (portLoc d p) R.RLK_CTRL_EN.off = new := s.reg_setReg_self _ _ _
      rw [hself, show fget new R.RLK_CTRL_EN.lo R.RLK_CTRL_EN.len = 1 from hbit]
      rfl
    · rw [hloc]
      exact hacq

/-- Settles O20. -/
theorem cfgWritesAndPortRegisters : Obligations.CfgWritesAndPortRegisters := by
  refine ⟨fun r hr n f s hstarts => ⟨fun fs hfs htarget hlive => ?_, fun htarget => ?_⟩,
    fun n d p v f s hd hp hpresent hloc hop hv => ⟨fun hopa hopb hstarts => ?_, fun hopa hopb hoffState => ?_⟩,
    fun n f s die hstarts hop hblk => ?_⟩
  · have hrows : (r.1 = Instr.cfgWrite ∨ r.1 = Instr.cfgModify) ∧ (r.2 = 0x11 ∨ r.2 = 0x12) ∧
        exec (r.1 n) s = startRow s n (isOp r.2) mCfgWrite := by
      simp only [List.mem_cons, List.not_mem_nil, or_false] at hr
      rcases hr with rfl | rfl
      · exact ⟨Or.inl rfl, Or.inl rfl, rfl⟩
      · exact ⟨Or.inr rfl, Or.inr rfl, rfl⟩
    obtain ⟨-, hop, hexec⟩ := hrows
    have hopcode : f.cmd.opcode = r.2 := by simpa [isOp] using hstarts.form
    rw [hexec]
    rw [← Cmd.cfgOff_eq] at hfs hlive ⊢
    obtain ⟨hstores, hconflict⟩ := cfgRow_spec hop hstarts hfs htarget hlive
    have hword : (if r.2 = 0x11 then BitVec.ofNat 32 (f.cmd.opb / 2 ^ 32)
        else modifyWord fs (s.peek f.cmd.loc f.cmd.cfgOff) (bits f.cmd.opb 8 5) (bits f.cmd.opb 13 5) (bits f.cmd.opb 32 32)) =
        f.cmd.cfgWord fs (s.peek f.cmd.loc f.cmd.cfgOff) := by
      split
      case isTrue h => rw [Cmd.cfgWord_write _ _ (hopcode.trans h)]
      case isFalse h => rw [Cmd.cfgWord, if_neg (by rw [hopcode]; exact h)]
    have hresult : ({ status := stOk, result := if r.2 = 0x11 then 0 else
          (s.peek f.cmd.loc f.cmd.cfgOff).toNat / 2 ^ bits f.cmd.opb 8 5 %
            2 ^ (bits f.cmd.opb 13 5 - bits f.cmd.opb 8 5 + 1) % 65536 } : Compl) =
        f.cmd.cfgResult (s.peek f.cmd.loc f.cmd.cfgOff) := by
      rw [Cmd.cfgResult, hopcode]
      rcases hop with h | h <;> rw [h] <;> rfl
    simp only [hword, hresult]
    exact ⟨hstores, hconflict⟩
  · have hrun : mCfgWrite.run f f.cmd.loc s = (s, some { status := stNoTarget }) := by
      simp only [mCfgWrite, htarget]
    simp only [List.mem_cons, List.not_mem_nil, or_false] at hr
    rcases hr with rfl | rfl <;> exact hstarts.startRow_completes hrun (show stNoTarget ≠ stDenied by decide)
  · exact cfgWrite_debounce hd hp hpresent hloc hop hv hopa hopb hstarts
  · exact cfgWrite_relka hd hp hpresent hloc hop hopa hopb hoffState
  · have hform := hstarts.form
    simp only [writesTo, Bool.and_eq_true, beq_iff_eq] at hform
    obtain ⟨-, hoff⟩ := hform
    have htarget : s.cfgTarget f.cmd.loc true = none := by rw [State.cfgTarget, hblk]
    have hbad := hstarts.cfgBad (by rw [hop]; rfl)
    obtain ⟨fs, hfs⟩ := State.writeFields_of_cfgBad htarget hbad
    have hword : ∀ old, f.cmd.cfgWord fs old = BitVec.ofNat 32 (f.cmd.opb / 2 ^ 32) := fun old =>
      Cmd.cfgWord_write fs old hop
    have hcookie : fget (BitVec.ofNat 32 (f.cmd.opb / 2 ^ 32)) 0 16 = f.cmd.opb / 2 ^ 32 % 65536 := by
      rw [fget, bits, BitVec.toNat_ofNat]
      omega
    have hring : fget (BitVec.ofNat 32 (f.cmd.opb / 2 ^ 32)) 16 5 = f.cmd.opb / 2 ^ 48 % 32 := by
      rw [fget, bits, BitVec.toNat_ofNat]
      omega
    have hrun := mCfgWrite_stores (f := f) (t := (s.setReg f.cmd.loc f.cmd.cfgOff (s.cfgNew f.cmd f.cmd.loc fs)).tasCancel die
        (f.cmd.opb / 2 ^ 32 % 65536) (f.cmd.opb / 2 ^ 48 % 32)) htarget hbad hfs
      (by rw [hblk]; rfl) (by rw [hblk]; rfl)
      (by rw [hblk]; simp only [State.ruleEffect, hoff, if_true, hword, hcookie, hring])
    have hresult : f.cmd.cfgResult (s.peek f.cmd.loc f.cmd.cfgOff) = { status := stOk } := by
      rw [Cmd.cfgResult, if_neg (by rw [hop]; decide)]
      rfl
    rw [hresult] at hrun
    obtain ⟨htails, hports, hdies, hservo⟩ := EndsKept.tasCancel
      (s := s.setReg f.cmd.loc f.cmd.cfgOff (s.cfgNew f.cmd f.cmd.loc fs)) die (f.cmd.opb / 2 ^ 32 % 65536)
      (f.cmd.opb / 2 ^ 48 % 32)
    refine ⟨_, hstarts.startRow_completes hrun (show stOk ≠ stDenied by decide),
      fun hnodup g due hflight hentry hphase hdie hring hcookie => ?_, hports, htails, hdies, hservo⟩
    exact (s.setReg f.cmd.loc f.cmd.cfgOff (s.cfgNew f.cmd f.cmd.loc fs)).tasCancel_spec hnodup hflight hentry hphase hdie hring hcookie

end Sys2Proof.Machine
end

section
/-! PROOFS. Writes of the clock unit and the switch of LREF (R320 to R328). -/

namespace Sys2Proof.Machine

/-! ### The registers of the clock unit -/

/-- The fields of a clock register. -/
theorem fieldsAt_clkCtrl : fieldsAt locClk 0 = some [⟨0, 1, .rw, 0x0⟩, ⟨1, 1, .rw, 0x1⟩, ⟨2, 1, .rw, 0x1⟩, ⟨3, 1, .rw, 0x0⟩,
    ⟨4, 1, .rw, 0x1⟩, ⟨5, 1, .wo, 0x0⟩] := by decide +kernel

/-- The fields of the PLLs' registers. -/
def pllFields : List FieldDesc := [⟨0, 1, .ro, 0x0⟩, ⟨1, 1, .w1c, 0x0⟩, ⟨2, 1, .ro, 0x0⟩, ⟨3, 1, .ro, 0x0⟩, ⟨4, 2, .rw, 0x0⟩,
  ⟨6, 1, .ro, 0x0⟩, ⟨16, 16, .rc, 0x0⟩]

theorem fieldsAt_clkPll : ∀ p < 23, fieldsAt locClk (0x100 + 4 * p) = some pllFields := by decide +kernel

theorem pllOn_lt {q : Part} {p : Nat} (h : pllOn q p = true) : p < 23 := by
  simp only [pllOn, Bool.and_eq_true, decide_eq_true_eq] at h
  exact h.1

/-- An RO field keeps what it holds on a write (R9). -/
theorem fget_newWord_ro {fs : List FieldDesc} {lo len rst : Nat} (old w : Word) (h : fieldsApart fs = true)
    (hf : ⟨lo, len, .ro, rst⟩ ∈ fs) : fget (newWord fs old w) lo len = fget old lo len := by
  refine fget_congr fun i hi => ?_
  have := testBit_newWord_field old w h hf hi
  simpa [isRw, isW1c] using this

/-! ### One PLL's relock -/

/-- Fields of one register that lie apart do not see each other's writes. -/
theorem State.clkF_put_field (s : State) {f g : Fld} (v : Nat) (h : f.lo + f.len ≤ 32) (ho : g.off = f.off)
    (hd : g.lo + g.len ≤ f.lo ∨ f.lo + f.len ≤ g.lo) : (s.clkPut f v).clkF g = s.clkF g := s.fld_put_field _ v h ho hd

/-- What a relock asked for shows: unlocked and busy, towards the source asked for, SRC_FAST and RATIO as they were (R327;
log entry 69). -/
theorem State.relock_spec (s : State) (p : Nat) (fast : Bool) :
    (s.relock p fast).clkF (R.CLK_PLL_RELOCK_BUSY p) = 1 ∧ (s.relock p fast).clkF (R.CLK_PLL_LOCKED p) = 0 ∧
      (s.relock p fast).clkF (R.CLK_PLL_SRC_FAST p) = s.clkF (R.CLK_PLL_SRC_FAST p) ∧
      Tab.get? (s.relock p fast).clk.relockTo p = some fast ∧ (s.relock p fast).clk.fastOn = true := by
  have hrun : ∀ (u : State) (g : Fld), g.off = 0x100 + 4 * p → (g.lo + g.len ≤ 2 ∨ 3 ≤ g.lo) →
      (u.relockRun p).clkF g = u.clkF g := by
    intro u g hoff hd
    unfold State.relockRun
    split
    · exact u.clkF_put_field (f := R.CLK_PLL_ON_FAST p) _ (Nat.le_of_ble_eq_true rfl) hoff hd
    · rfl
  have hclk : ∀ u : State, (u.relockRun p).clk.relockTo = u.clk.relockTo ∧ (u.relockRun p).clk.fastOn = u.clk.fastOn := by
    intro u
    unfold State.relockRun
    split <;> exact ⟨rfl, rfl⟩
  unfold State.relock
  dsimp only
  refine ⟨?_, ?_, ?_, ?_, (hclk _).2⟩
  · rw [hrun _ _ rfl (Or.inr (Nat.le_of_ble_eq_true rfl))]
    exact State.fld_put_self _ _ (f := R.CLK_PLL_RELOCK_BUSY p) _ (Nat.le_of_ble_eq_true rfl)
  · rw [hrun _ _ rfl (Or.inl (Nat.le_of_ble_eq_true rfl))]
    exact (State.fld_put_field _ _ (f := R.CLK_PLL_RELOCK_BUSY p) (g := R.CLK_PLL_LOCKED p) _ (Nat.le_of_ble_eq_true rfl) rfl (Or.inl (Nat.le_of_ble_eq_true rfl))).trans
      (State.fld_put_self _ _ (f := R.CLK_PLL_LOCKED p) _ (Nat.le_of_ble_eq_true rfl))
  · rw [hrun _ _ rfl (Or.inr (Nat.le_of_ble_eq_true rfl))]
    exact (State.fld_put_field _ _ (f := R.CLK_PLL_RELOCK_BUSY p) (g := R.CLK_PLL_SRC_FAST p) _ (Nat.le_of_ble_eq_true rfl) rfl (Or.inl (Nat.le_of_ble_eq_true rfl))).trans
      (State.fld_put_field _ _ (f := R.CLK_PLL_LOCKED p) (g := R.CLK_PLL_SRC_FAST p) _ (Nat.le_of_ble_eq_true rfl) rfl (Or.inr (Nat.le_of_ble_eq_true rfl)))
  · rw [(hclk _).1]
    exact Tab.get?_set_self _ _ _

/-- A relock leaves every other clock register, and the source of every other PLL's relock (R327). -/
theorem State.relock_other (s : State) {p o : Nat} (fast : Bool) (h : o ≠ 0x100 + 4 * p) :
    (s.relock p fast).reg locClk o = s.reg locClk o := by
  have hput : ∀ (u : State) (f : Fld) v, f.off = 0x100 + 4 * p → (u.clkPut f v).reg locClk o = u.reg locClk o :=
    fun u f v hf => u.reg_put_off v (by rw [hf]; exact h)
  have hrun : ∀ u : State, (u.relockRun p).reg locClk o = u.reg locClk o := by
    intro u
    unfold State.relockRun
    split
    · exact hput u _ _ rfl
    · rfl
  unfold State.relock
  dsimp only
  rw [hrun]
  exact (hput _ _ _ rfl).trans (hput _ _ _ rfl)

theorem State.relock_relockTo_ne (s : State) {p q : Nat} (fast : Bool) (h : q ≠ p) :
    Tab.get? (s.relock p fast).clk.relockTo q = Tab.get? s.clk.relockTo q := by
  have hclk : ∀ u : State, (u.relockRun p).clk.relockTo = u.clk.relockTo := by
    intro u
    unfold State.relockRun
    split <;> rfl
  unfold State.relock
  dsimp only
  rw [hclk]
  exact Tab.get?_set_ne _ _ h

/-- A relock leaves the instructions, the part and what lies outside the clocks. -/
theorem State.relock_fields (s : State) (p : Nat) (fast : Bool) :
    (s.relock p fast).plyn = s.plyn ∧ (s.relock p fast).part = s.part ∧ (s.relock p fast).clk.num = s.clk.num := by
  unfold State.relock State.relockRun
  dsimp only
  split <;> exact ⟨rfl, rfl, rfl⟩

/-! ### Every PLL returns (R326) -/

/-- One PLL's share of the return (R326). -/
def State.backOne (s : State) (p : Nat) : State :=
  if s.flag locClk (R.CLK_PLL_SRC_FAST p) && !s.flag locClk (R.CLK_PLL_RELOCK_BUSY p) then s.relock p false else s

theorem State.reg_backOne (s : State) {p o : Nat} (h : o ≠ 0x100 + 4 * p) : (s.backOne p).reg locClk o = s.reg locClk o := by
  unfold State.backOne
  split
  · exact s.relock_other false h
  · rfl

theorem State.relockTo_backOne (s : State) {p q : Nat} (h : q ≠ p) :
    Tab.get? (s.backOne p).clk.relockTo q = Tab.get? s.clk.relockTo q := by
  unfold State.backOne
  split
  · exact s.relock_relockTo_ne false h
  · rfl

/-- What a PLL shows that has begun its return to LREF (R326, R327; log entry 69). -/
structure Returning (s : State) (p : Nat) : Prop where
  src  : s.flag locClk (R.CLK_PLL_SRC_FAST p) = true
  dest : Tab.get? s.clk.relockTo p = some false
  busy : s.flag locClk (R.CLK_PLL_RELOCK_BUSY p) = true
  lock : s.flag locClk (R.CLK_PLL_LOCKED p) = false

theorem State.flag_iff {s : State} {loc : Nat} {f : Fld} : s.flag loc f = true ↔ s.fld loc f = 1 := by
  rw [State.flag, beq_iff_eq]

theorem State.flag_false_of {s : State} {loc : Nat} {f : Fld} (h : s.fld loc f = 0) : s.flag loc f = false := by
  rw [State.flag, h]
  rfl

theorem State.flag_of_reg {s t : State} {loc : Nat} {f : Fld} (h : t.reg loc f.off = s.reg loc f.off) :
    t.flag loc f = s.flag loc f := by rw [State.flag, State.fld_of_reg h, State.flag]

theorem State.backOne_returning {s : State} {p : Nat} (hsrc : s.flag locClk (R.CLK_PLL_SRC_FAST p) = true)
    (hbusy : s.flag locClk (R.CLK_PLL_RELOCK_BUSY p) = false) : Returning (s.backOne p) p := by
  rw [State.backOne, hsrc, hbusy, Bool.not_false, Bool.and_self, if_pos rfl]
  obtain ⟨hb, hl, hs, hto, -⟩ := s.relock_spec p false
  exact ⟨State.flag_iff.2 (hs.trans (State.flag_iff.1 hsrc)), hto, State.flag_iff.2 hb, State.flag_false_of hl⟩

/-- A PLL on FAST_OSC among several that return begins its own return (R326). -/
theorem State.back_returning (l : List Nat) (s : State) {p : Nat} (hnodup : l.Nodup) (hp : p ∈ l)
    (hsrc : s.flag locClk (R.CLK_PLL_SRC_FAST p) = true) (hbusy : s.flag locClk (R.CLK_PLL_RELOCK_BUSY p) = false) :
    Returning (l.foldl State.backOne s) p := by
  have hother : ∀ (l : List Nat) (u : State), p ∉ l → (l.foldl State.backOne u).reg locClk (0x100 + 4 * p) =
      u.reg locClk (0x100 + 4 * p) ∧ Tab.get? (l.foldl State.backOne u).clk.relockTo p = Tab.get? u.clk.relockTo p := by
    intro l
    induction l with
    | nil => exact fun u _ => ⟨rfl, rfl⟩
    | cons q l ih =>
      intro u hq
      have hne : p ≠ q := fun e => hq (e ▸ List.mem_cons_self)
      obtain ⟨hreg, hto⟩ := ih (u.backOne q) (fun h => hq (List.mem_cons_of_mem _ h))
      exact ⟨hreg.trans (u.reg_backOne (by omega)), hto.trans (u.relockTo_backOne hne)⟩
  induction l generalizing s with
  | nil => simp at hp
  | cons q l ih =>
    obtain ⟨hq, hl⟩ := List.nodup_cons.1 hnodup
    rw [List.foldl_cons]
    rcases List.mem_cons.1 hp with rfl | hmem
    · obtain ⟨hreg, hto⟩ := hother l (s.backOne p) hq
      obtain ⟨h1, h2, h3, h4⟩ := State.backOne_returning hsrc hbusy
      exact ⟨(State.flag_of_reg hreg).trans h1, hto.trans h2, (State.flag_of_reg hreg).trans h3,
        (State.flag_of_reg hreg).trans h4⟩
    · have hne : p ≠ q := fun e => hq (e ▸ hmem)
      have hreg : (s.backOne q).reg locClk (0x100 + 4 * p) = s.reg locClk (0x100 + 4 * p) := s.reg_backOne (by omega)
      exact ih (s.backOne q) hl hmem ((State.flag_of_reg hreg).trans hsrc) ((State.flag_of_reg hreg).trans hbusy)

theorem Returning.fastStart {s : State} {p : Nat} (h : Returning s p) : Returning s.fastStart p := ⟨h.src, h.dest, h.busy, h.lock⟩

theorem Returning.fastRest {s : State} {p : Nat} (h : Returning s p) : Returning s.fastRest p := by
  have hput : ∀ (u : State) (g : Fld), g.off = 0x100 + 4 * p → (u.clkPut R.CLK_STAT_FAST_STABLE 0).flag locClk g =
      u.flag locClk g := by
    intro u g hg
    refine State.flag_of_reg (u.reg_put_off _ ?_)
    rw [hg]
    simp only [R.CLK_STAT_FAST_STABLE]
    omega
  unfold State.fastRest
  split
  · exact ⟨(hput _ _ rfl).trans h.src, h.dest, (hput _ _ rfl).trans h.busy, (hput _ _ rfl).trans h.lock⟩
  · exact h

theorem plls_nodup (p : Part) : (plls p).Nodup := List.nodup_range.filter _

/-! ### What a write of the clock unit comes to -/

theorem blk_locClk : blk locClk = .clk := by decide +kernel

theorem State.cfgTarget_clk (s : State) : s.cfgTarget locClk true = none := by
  rw [State.cfgTarget, blk_locClk]

/-- A write of a clock register that starts, in the terms of its rule (R413). -/
theorem clkWrite_row {form : Cmd → Bool} {n : Nat} {f : Flight} {s t : State} {fs : List FieldDesc} {o : Option Compl}
    (hstarts : Starts form mCfgWrite n f s) (hop : f.cmd.opcode = 0x11) (hloc : f.cmd.loc = locClk)
    (hfs : fieldsAt locClk f.cmd.cfgOff = some fs) (hlive : s.dead .clk f.cmd.cfgOff = false)
    (hconflict : s.ruleConflict .clk f.cmd.cfgOff (s.reg locClk f.cmd.cfgOff)
      (newWord fs (s.reg locClk f.cmd.cfgOff) (BitVec.ofNat 32 (f.cmd.opb / 2 ^ 32))) = none)
    (heffect : (s.setReg locClk f.cmd.cfgOff (newWord fs (s.reg locClk f.cmd.cfgOff) (BitVec.ofNat 32 (f.cmd.opb / 2 ^ 32)))).ruleEffect
      .clk f.cmd.cfgOff (s.reg locClk f.cmd.cfgOff)
      (newWord fs (s.reg locClk f.cmd.cfgOff) (BitVec.ofNat 32 (f.cmd.opb / 2 ^ 32))) (BitVec.ofNat 32 (f.cmd.opb / 2 ^ 32)) f 0 = (t, o))
    (ho : o = none ∨ o = some (okC 0)) :
    startRow s n form mCfgWrite = .next (if o = none then t else t.complete n { status := stOk }) := by
  have hbad := hstarts.cfgBad (by rw [hop]; rfl)
  rw [hloc] at hbad
  have hwf : writeFields locClk f.cmd.cfgOff = some fs := by rw [writeFields, blk_locClk, hfs]
  have hnew : s.cfgNew f.cmd locClk fs =
      newWord fs (s.reg locClk f.cmd.cfgOff) (BitVec.ofNat 32 (f.cmd.opb / 2 ^ 32)) := by
    rw [State.cfgNew, Cmd.cfgWord_write _ _ hop, blk_locClk]
    rfl
  have hop' : ¬ f.cmd.opcode = 0x12 := by rw [hop]; decide
  rcases ho with rfl | rfl
  · refine hstarts.startRow_goes ?_
    rw [hloc]
    simp only [mCfgWrite, State.cfgTarget_clk, hbad, hwf, blk_locClk, hlive, hnew, hconflict, Bool.false_eq_true, if_false,
      if_neg hop', Cmd.cfgWord_write _ _ hop]
    rw [show (okC 0).result = 0 from rfl, heffect]
    rfl
  · rw [if_neg (by simp)]
    refine hstarts.startRow_completes (c := okC 0) ?_ (show stOk ≠ stDenied by decide)
    have hrun := mCfgWrite_stores (f := f) (t := t) s.cfgTarget_clk hbad hwf (by rw [blk_locClk]; exact hlive)
      (by rw [blk_locClk, hnew]; exact hconflict)
      (by rw [blk_locClk, hnew, Cmd.cfgWord_write _ _ hop, Cmd.cfgResult, if_neg hop']; exact heffect)
    rw [hloc, hrun, Cmd.cfgResult, if_neg hop']

/-- A write of a PLL's RATIO (R328). -/
theorem pllRatioWrite_spec {n p : Nat} {f : Flight} {s : State}
    (hstarts : Starts (writesTo (· == locClk) (fun o => decide (0x100 ≤ o) && decide (o < 0x15C))) mCfgWrite n f s)
    (hop : f.cmd.opcode = 0x11) (hopb : f.cmd.opb % 256 = 0) (hopa : f.cmd.opa = 0x100 + 4 * p) (hon : pllOn s.part p = true) :
    let new := newWord ((fieldsAt locClk f.cmd.opa).getD []) (s.reg locClk f.cmd.opa) (BitVec.ofNat 32 (f.cmd.opb / 2 ^ 32))
    (fget new 4 2 ≠ fget (s.reg locClk f.cmd.opa) 4 2 → s.coasting p = false →
       s.flag locClk (R.CLK_PLL_RELOCK_BUSY p) = false → s.flag locClk (R.CLK_PLL_SRC_FAST p) = false →
       ∃ t : State, exec (.pllRatioWrite n) s = .next t ∧ t.flight n = some { f with phase := .exec 0 } ∧
         t.flag locClk (R.CLK_PLL_RELOCK_BUSY p) = true ∧ t.flag locClk (R.CLK_PLL_LOCKED p) = false ∧
         t.flag locClk (R.CLK_PLL_SRC_FAST p) = false ∧ Tab.get? t.clk.relockTo p = some false ∧
         Tab.get? t.clk.num p = some (n, 0) ∧ t.clk.fastOn = true) ∧
     (fget new 4 2 = fget (s.reg locClk f.cmd.opa) 4 2 →
       exec (.pllRatioWrite n) s = .next ((s.setReg locClk f.cmd.opa new).complete n { status := stOk })) := by
  have hlt := pllOn_lt hon
  have hoff : f.cmd.cfgOff = 0x100 + 4 * p := by rw [Cmd.cfgOff_eq, hopa, hopb]; omega
  have hform := hstarts.form
  simp only [writesTo, Bool.and_eq_true, beq_iff_eq] at hform
  obtain ⟨⟨-, hloc⟩, -⟩ := hform
  have hfs := fieldsAt_clkPll p hlt
  rw [hopa, hfs, Option.getD_some]
  dsimp only
  generalize hnew : newWord pllFields (s.reg locClk (0x100 + 4 * p)) (BitVec.ofNat 32 (f.cmd.opb / 2 ^ 32)) = new
  have hindex : (0x100 + 4 * p - 0x100) / 4 = p := by omega
  have hlive : s.dead .clk f.cmd.cfgOff = false := by
    simp only [State.dead, hoff, hindex, hon, Bool.not_true, Bool.and_false]
  have hle : 0x100 ≤ 0x100 + 4 * p := by omega
  have hne : ¬ 0x100 + 4 * p = 0 := by omega
  refine ⟨fun hratio hcoast hbusy hsrc => ?_, fun hratio => ?_⟩
  · have hrow := clkWrite_row (o := none) hstarts hop hloc (by rw [hoff]; exact hfs) hlive
      (by
        rw [hoff, hnew]
        simp [State.ruleConflict, hcoast, hbusy, hsrc])
      (by
        rw [hoff, hnew]
        simp only [State.ruleEffect, if_neg hne]
        rw [if_pos ⟨hle, Ne.symm hratio⟩, hindex])
      (Or.inl rfl)
    rw [if_pos rfl] at hrow
    obtain ⟨hb, hl, hs, hdest, hfast⟩ := (s.setReg locClk (0x100 + 4 * p) new).relock_spec p false
    obtain ⟨hplyn, -, -⟩ := (s.setReg locClk (0x100 + 4 * p) new).relock_fields p false
    have hnum := hstarts.num
    have hflight : ((s.setReg locClk (0x100 + 4 * p) new).relock p false).flight n = some f := by
      rw [State.flight_congr hplyn]
      exact hstarts.flight
    have hold : fget new 3 1 = fget (s.reg locClk (0x100 + 4 * p)) 3 1 := by
      rw [← hnew]
      exact fget_newWord_ro (rst := 0) _ _ (by decide) (by simp [pllFields])
    have hsrc' : (s.setReg locClk (0x100 + 4 * p) new).clkF (R.CLK_PLL_SRC_FAST p) = s.clkF (R.CLK_PLL_SRC_FAST p) := by
      have hself := s.reg_setReg_self locClk (0x100 + 4 * p) new
      exact (congrArg (fget · 3 1) hself).trans hold
    rw [hnum] at hrow
    refine ⟨_, hrow, State.flight_setPhase_self _ hflight, ?_, ?_, ?_, ?_, ?_, ?_⟩
    · exact State.flag_iff.2 ((State.fld_congr (congrArg State.regs (State.setPhase_rest _ _ _) :)
        (congrArg State.part (State.setPhase_rest _ _ _) :) _ _).trans hb)
    · exact State.flag_false_of ((State.fld_congr (congrArg State.regs (State.setPhase_rest _ _ _) :)
        (congrArg State.part (State.setPhase_rest _ _ _) :) _ _).trans hl)
    · refine Eq.trans ?_ hsrc
      rw [State.flag, State.flag]
      exact congrArg (· == 1) ((State.fld_congr (congrArg State.regs (State.setPhase_rest _ _ _) :)
        (congrArg State.part (State.setPhase_rest _ _ _) :) _ _).trans (hs.trans hsrc'))
    · exact hdest
    · exact Tab.get?_set_self _ _ _
    · exact hfast
  · have hrow := clkWrite_row (o := some (okC 0)) hstarts hop hloc (by rw [hoff]; exact hfs) hlive
      (by
        rw [hoff, hnew]
        simp only [State.ruleConflict, if_pos hle]
        rw [if_neg (fun h => h.1 hratio)])
      (by
        rw [hoff, hnew]
        simp only [State.ruleEffect, if_neg hne]
        rw [if_neg (fun h => h.2 hratio.symm)])
      (Or.inr rfl)
    rw [if_neg (by simp)] at hrow
    exact hrow

/-! ### CLK_CTRL -/

/-- The fields of CLK_CTRL. -/
def ctrlFields : List FieldDesc := [⟨0, 1, .rw, 0x0⟩, ⟨1, 1, .rw, 0x1⟩, ⟨2, 1, .rw, 0x1⟩, ⟨3, 1, .rw, 0x0⟩,
  ⟨4, 1, .rw, 0x1⟩, ⟨5, 1, .wo, 0x0⟩]

theorem State.flag_setClkCtrl (s : State) (w : Word) {f : Fld} (h : f.off ≠ 0) :
    (s.setReg locClk 0 w).flag locClk f = s.flag locClk f := State.flag_of_reg (s.reg_setReg_off w h)

/-- FAST_OSC runs on or rests after a write of CLK_CTRL (R317, R326). -/
def State.clkRest (u x : State) : State := if u.flag locClk R.CLK_CTRL_FAST_KEEP then x.fastStart else x.fastRest

/-- The state after a stored write of CLK_CTRL once its rules have run (R317, R320, R326). -/
theorem clkCtrl_effect {u : State} {old new w : Word} {changed : Bool} (f : Flight) (hnew : u.reg locClk 0 = new)
    (hchanged : (fget old 0 1 != fget new 0 1) = changed) :
    (fget w 5 1 ≠ 1 → u.ruleEffect .clk 0 old new w f 0 = (u.clkRest (u.lrefSel changed), some (okC 0))) ∧
    (fget w 5 1 = 1 → (u.lrefSel changed).lrefStable = true →
      u.ruleEffect .clk 0 old new w f 0 = (u.clkRest (u.lrefSel changed).sysBack, some (okC 0))) := by
  have hkeep : (fget new 3 1 = 1) ↔ u.flag locClk R.CLK_CTRL_FAST_KEEP = true := by
    rw [State.flag_iff, State.fld, ← hnew]
    rfl
  refine ⟨fun h5 => ?_, fun h5 hstable => ?_⟩
  · simp only [State.ruleEffect, if_true, hkeep, hchanged, h5, false_and, if_false, State.clkRest]
  · simp only [State.ruleEffect, if_true, hkeep, hchanged, h5, hstable, and_self, State.clkRest]

/-- A write of CLK_CTRL that starts (R320, R326). -/
theorem clkCtrlWrite_row {form : Cmd → Bool} {n : Nat} {f : Flight} {s t : State} (hstarts : Starts form mCfgWrite n f s)
    (hop : f.cmd.opcode = 0x11) (hopb : f.cmd.opb % 256 = 0) (hopa : f.cmd.opa = 0) (hloc : f.cmd.loc = locClk)
    (heffect : (s.setReg locClk 0 (newWord ctrlFields (s.reg locClk 0) (BitVec.ofNat 32 (f.cmd.opb / 2 ^ 32)))).ruleEffect
      .clk 0 (s.reg locClk 0) (newWord ctrlFields (s.reg locClk 0) (BitVec.ofNat 32 (f.cmd.opb / 2 ^ 32)))
      (BitVec.ofNat 32 (f.cmd.opb / 2 ^ 32)) f 0 = (t, some (okC 0))) :
    startRow s n form mCfgWrite = .next (t.complete n { status := stOk }) := by
  have hoff : f.cmd.cfgOff = 0 := by rw [Cmd.cfgOff_eq, hopa, hopb]
  have hrow := clkWrite_row (o := some (okC 0)) hstarts hop hloc (by rw [hoff]; exact fieldsAt_clkCtrl) (by rw [hoff]; rfl)
    (by rw [hoff]; rfl) (by rw [hoff]; exact heffect) (Or.inr rfl)
  rw [if_neg (by simp)] at hrow
  exact hrow

/-- LREF stays where LREF_SEL did not change and LREF is not lost (R320). -/
theorem State.lrefSel_same {s : State} (h : s.flag locClk R.CLK_STAT_LREF_LOST = false) : s.lrefSel false = s := by
  simp [State.lrefSel, h]

theorem State.lrefSel_changed {s : State} (hready : s.hostReady = true)
    (hstable : s.inStable (s.flag locClk R.CLK_CTRL_LREF_SEL) = true)
    (hother : s.flag locClk R.CLK_STAT_LREF_XB ≠ s.flag locClk R.CLK_CTRL_LREF_SEL) :
    s.lrefSel true = s.lrefSwitch (s.flag locClk R.CLK_CTRL_LREF_SEL) := by
  simp [State.lrefSel, hready, hstable, hother]

/-- LREF_SEL changes exactly where its flag does. -/
theorem lrefSel_ne {s : State} {new : Word} {u : State} (hnew : u.reg locClk 0 = new) :
    (fget (s.reg locClk 0) 0 1 != fget new 0 1) =
      (u.flag locClk R.CLK_CTRL_LREF_SEL != s.flag locClk R.CLK_CTRL_LREF_SEL) := by
  have hbit : ∀ w : Word, fget w 0 1 = 0 ∨ fget w 0 1 = 1 := fun w => by
    have : fget w 0 1 < 2 := Nat.mod_lt _ (by decide)
    omega
  have hu : u.flag locClk R.CLK_CTRL_LREF_SEL = (fget new 0 1 == 1) := by
    rw [State.flag, State.fld, ← hnew]
    rfl
  have hs : s.flag locClk R.CLK_CTRL_LREF_SEL = (fget (s.reg locClk 0) 0 1 == 1) := rfl
  rw [hu, hs]
  rcases hbit new with h | h <;> rcases hbit (s.reg locClk 0) with h' | h' <;> rw [h, h'] <;> rfl

theorem State.hostReady_setClkCtrl (s : State) (w : Word) : (s.setReg locClk 0 w).hostReady = s.hostReady := by
  rw [State.hostReady, State.fp, State.fld_of_reg (s.reg_setReg_loc w (by decide) (by decide) (by decide)), State.hostReady,
    State.fp]

/-! ### The switch of LREF (R321) -/

theorem Tab.get_range6 {α : Type} (d : α) (g : Nat → α) {i : Nat} (h : i < 6) :
    Tab.get d ((List.range 6).map (fun t => (t, g t))) i = g i := by
  interval_cases i <;> rfl

/-- The registers after LREF has moved (R321). -/
def State.lrefMoved (s : State) (xb : Bool) : State :=
  (((s.putB locClk R.CLK_STAT_LREF_XB xb).clkPut R.CLK_STAT_LREF_LOST 0).clkPut R.CLK_STAT_LREF_SWITCHED 1).bump locClk
    R.CLK_EVT_LREF_SWITCHES

theorem State.lrefMoved_spec (s : State) (xb : Bool) :
    (s.lrefMoved xb).flag locClk R.CLK_STAT_LREF_XB = xb ∧ (s.lrefMoved xb).flag locClk R.CLK_STAT_LREF_LOST = false ∧
      (s.lrefMoved xb).flag locClk R.CLK_STAT_LREF_SWITCHED = true ∧
      (s.lrefMoved xb).clkF R.CLK_EVT_LREF_SWITCHES =
        min (s.clkF R.CLK_EVT_LREF_SWITCHES + 1) (2 ^ R.CLK_EVT_LREF_SWITCHES.len - 1) := by
  unfold State.lrefMoved
  generalize ha : s.putB locClk R.CLK_STAT_LREF_XB xb = a
  generalize hb : a.clkPut R.CLK_STAT_LREF_LOST 0 = b
  generalize hc : b.clkPut R.CLK_STAT_LREF_SWITCHED 1 = c
  have hbump : ∀ g : Fld, g.off = 4 → (c.bump locClk R.CLK_EVT_LREF_SWITCHES).fld locClk g = c.fld locClk g :=
    fun g hg => c.fld_put_off _ _ (by rw [hg]; decide)
  have hxb : c.fld locClk R.CLK_STAT_LREF_XB = b2n xb % 2 := by
    rw [← hc, ← hb, ← ha]
    simp (disch := decide) only [State.clkPut, State.putB, State.fld_put_apart, State.fld_put_self]
    rfl
  have hlost : c.fld locClk R.CLK_STAT_LREF_LOST = 0 := by
    rw [← hc, ← hb]
    simp (disch := decide) only [State.clkPut, State.fld_put_apart, State.fld_put_self]
    rfl
  have hswitched : c.fld locClk R.CLK_STAT_LREF_SWITCHED = 1 := by
    rw [← hc]
    exact b.fld_put_self _ _ (by decide)
  have hcount : c.fld locClk R.CLK_EVT_LREF_SWITCHES = s.clkF R.CLK_EVT_LREF_SWITCHES := by
    rw [← hc, ← hb, ← ha]
    simp (disch := decide) only [State.clkPut, State.putB, State.fld_put_apart, State.clkF]
  refine ⟨?_, State.flag_false_of ((hbump _ rfl).trans hlost), State.flag_iff.2 ((hbump _ rfl).trans hswitched), ?_⟩
  · rw [State.flag, hbump _ rfl, hxb]
    cases xb <;> rfl
  · rw [State.clkF, State.bump, State.bumpBy, c.fld_put_self _ _ (by decide), hcount]
    exact Nat.mod_eq_of_lt (by
      have : satNat (s.clkF R.CLK_EVT_LREF_SWITCHES + 1) R.CLK_EVT_LREF_SWITCHES.len ≤ 2 ^ 8 - 1 := min_le_right _ _
      show _ < 2 ^ 8
      omega)

/-- LREF runs on the new input, a phase build-out under way, every tailstock's loop frozen (R321). -/
def State.lrefFrozen (s : State) (c : Clk) (t : Tab Tailstock) : State := { s.setClk c with tails := t }

theorem State.fld_lrefFrozen (s : State) (c : Clk) (t : Tab Tailstock) (l : Nat) (f : Fld) :
    (s.lrefFrozen c t).fld l f = s.fld l f := rfl

theorem State.flag_lrefFrozen (s : State) (c : Clk) (t : Tab Tailstock) (l : Nat) (f : Fld) :
    (s.lrefFrozen c t).flag l f = s.flag l f := rfl

theorem State.lrefSwitch_raise (s : State) (xb : Bool) : s.lrefSwitch xb = ((s.lrefMoved xb).lrefFrozen
    { (s.lrefMoved xb).clk with buildOut := true, lrefOn := true, lrefAt := (s.lrefMoved xb).now }
    ((List.range 6).map (fun t => (t, { s.tail t with frozen := true })))).raise (hubLoc 5) 0x02 (if xb then 1 else 0) := rfl

/-- Settles O21. -/
theorem clockWritesAndLrefSwitches : Obligations.ClockWritesAndLrefSwitches := by
  refine ⟨⟨fun n p f s hstarts hop hopb hopa hon => pllRatioWrite_spec hstarts hop hopb hopa hon,
    fun n f s hop hopb hopa hloc => ?_⟩, fun s xb => ?_⟩
  · have hfields : (fieldsAt locClk 0).getD [] = ctrlFields := by rw [fieldsAt_clkCtrl]; rfl
    rw [hfields]
    dsimp only
    generalize hw : BitVec.ofNat 32 (f.cmd.opb / 2 ^ 32) = w
    generalize hu : s.setReg locClk 0 (newWord ctrlFields (s.reg locClk 0) w) = u
    have hnew : u.reg locClk 0 = newWord ctrlFields (s.reg locClk 0) w := by rw [← hu]; exact s.reg_setReg_self _ _ _
    have hflag : ∀ g : Fld, g.off ≠ 0 → u.flag locClk g = s.flag locClk g := fun g hg => by
      rw [← hu]; exact s.flag_setClkCtrl _ hg
    have hlost : u.flag locClk R.CLK_STAT_LREF_LOST = s.flag locClk R.CLK_STAT_LREF_LOST := hflag _ (by decide)
    refine ⟨fun hw5 hstarts => ⟨fun hready hstable hne hxb => ?_, fun hsame hno => ?_⟩, fun hw5 hsame hno hstable hstarts => ?_⟩
    · have hready' : u.hostReady = true := by rw [← hu, State.hostReady_setClkCtrl]; exact hready
      have hsel : u.lrefSel true = u.lrefSwitch (u.flag locClk R.CLK_CTRL_LREF_SEL) :=
        State.lrefSel_changed hready' hstable (by rw [hflag _ (by decide)]; exact hxb)
      obtain ⟨heffect, -⟩ := clkCtrl_effect (w := w) (changed := true) f hnew ((lrefSel_ne (s := s) hnew).trans (by simpa using hne))
      refine clkCtrlWrite_row hstarts hop hopb hopa hloc ?_
      rw [hw, hu, heffect (by omega), hsel]
      rfl
    · obtain ⟨heffect, -⟩ := clkCtrl_effect (w := w) (changed := false) f hnew
        ((lrefSel_ne (s := s) hnew).trans (by simpa using hsame))
      refine clkCtrlWrite_row hstarts hop hopb hopa hloc ?_
      rw [hw, hu, heffect (by omega), State.lrefSel_same (by rw [hlost, hno])]
      rfl
    · obtain ⟨-, heffect⟩ := clkCtrl_effect (w := w) (changed := false) f hnew
        ((lrefSel_ne (s := s) hnew).trans (by simpa using hsame))
      rw [State.lrefSel_same (by rw [hlost, hno])] at heffect
      have hin : u.flag locClk (if s.flag locClk R.CLK_STAT_LREF_XB then R.CLK_STAT_XB_STABLE else R.CLK_STAT_XA_STABLE) =
          s.flag locClk (if s.flag locClk R.CLK_STAT_LREF_XB then R.CLK_STAT_XB_STABLE else R.CLK_STAT_XA_STABLE) :=
        hflag _ (by split <;> decide)
      have hlref : u.lrefStable = true := by
        rw [State.lrefStable, hlost, hno, hflag _ (by decide), State.inStable, hin]
        simpa [State.inStable] using hstable
      refine ⟨_, clkCtrlWrite_row hstarts hop hopb hopa hloc (by rw [hw, hu, heffect hw5 hlref]), fun p hp hsrc hbusy => ?_⟩
      have hpart : u.part = s.part := by rw [← hu]; rfl
      have hoff : ∀ g : Fld, g.off = 0x100 + 4 * p → u.flag locClk g = s.flag locClk g := fun g hg => hflag g (by omega)
      have hback : Returning u.sysBack p := State.back_returning (plls u.part) u (plls_nodup _) (by rw [hpart]; exact hp)
        ((hoff _ rfl).trans hsrc) ((hoff _ rfl).trans hbusy)
      have hrest : Returning (u.clkRest u.sysBack) p := by
        unfold State.clkRest
        split
        · exact hback.fastStart
        · exact hback.fastRest
      obtain ⟨h1, h2, h3, h4⟩ := hrest
      exact ⟨h1, h2, h3, h4⟩
  · obtain ⟨hxb, hlost, hswitched, hcount⟩ := s.lrefMoved_spec xb
    refine ⟨_, s.lrefSwitch_raise xb, ?_, ?_, ?_, ?_, rfl, rfl, fun i hi => Tab.get_range6 _ _ hi, rfl, rfl, rfl⟩
    · rw [State.flag_lrefFrozen, hxb]
    · rw [State.flag_lrefFrozen, hlost]
    · rw [State.flag_lrefFrozen, hswitched]
    · rw [State.clkF, State.fld_lrefFrozen]
      exact hcount

end Sys2Proof.Machine
end

section
/-! PROOFS. The PORT group (R241, R245, R418 to R420). -/

namespace Sys2Proof.Machine

/-! ### PORT.SET with a FUNC that is none -/

/-- PORT.SET FUNC 7 at a headstock die, whose headstock is not ACTIVE. -/
def funcAtHeadstock : Flight :=
  { num := 0, ring := 0, cmd := { opcode := 0x30, opa := 7, loc := mkLoc 4 0 0 0 0 }, td := {}, tags := [], tag0 := 0,
    phase := .issued }

/-- The reset state with that instruction issued. -/
def headstockSet : State := { State.reset with plyn := { flights := [funcAtHeadstock] } }

/-- It is refused with the state of the headstock, before its operands are looked at. -/
theorem exec_headstockSet :
    exec (.portSetMode 0) headstockSet = .next (headstockSet.complete 0 { status := stConflict, detail := hsOff }) := by
  show startRow headstockSet 0 (fun c => c.opcode == 0x30 && (c.opa % 16 == 0 || decide (7 ≤ c.opa % 16))) mPortSet = _
  exact startRow_illegal (f := funcAtHeadstock) (c := { status := stConflict, detail := hsOff }) (by decide +kernel)
    (by decide) (by decide +kernel) (by decide)

/-- Its record says so. -/
theorem headstockSet_status : (headstockSet.complete 0 { status := stConflict, detail := hsOff }).flight 0 ≠
    (headstockSet.complete 0 { status := stBadOperand, detail := 6 }).flight 0 := by
  decide +kernel

/-- Refutes O23: a FUNC above 6 completes BAD_OPERAND only where the instruction is otherwise legal (R178, R403); the
statement asks it of every instruction that begins. One whose location is on a headstock that is not ACTIVE completes
STATE_CONFLICT with that headstock's state. -/
theorem not_portSettingsAreStored : ¬ Obligations.PortSettingsAreStored := by
  unfold Obligations.PortSettingsAreStored
  rintro ⟨hset, -⟩
  obtain ⟨-, -, hfunc⟩ := hset 0 funcAtHeadstock headstockSet
  have hnext := exec_headstockSet.symm.trans (hfunc (by decide) (by decide +kernel))
  exact headstockSet_status (congrArg (State.flight · 0) (Host.Outcome.next.inj hnext))

end Sys2Proof.Machine
end

section
/-! PROOFS. What the operations of ports, buffers and the ledger can write: which registers, and which parts of the state
(R241, R242, R288 to R303, R310, R345 to R356). -/

namespace Sys2Proof.Machine

/-! ### Sets of registers -/

/-- Registers beside a port's state: the hub's, those of lanes and units, those of every port from offset 0x10 on, and what
lies behind the port's own (a frame's class is not bounded in a state, and so neither is the offset of its counter). -/
def besideStat (d p k : Nat) : Prop :=
  hubKey k ∨ regKey (portLoc d p) 0x10 ≤ k ∨
    ∃ loc off, k = regKey loc off ∧ off < 16777216 ∧ (8 ≤ loc % 64 ∨ 0x10 ≤ off)

/-- Registers of the ledger and its marks in the units. -/
def powerKey (k : Nat) : Prop :=
  hubKey k ∨ ∃ loc off, k = regKey loc off ∧ (off = 4 ∧ 8 ≤ loc % 64 ∨ off = 0x20)

section
variable {d p : Nat}

theorem besideStat_hub {k : Nat} (h : hubKey k) : besideStat d p k := .inl h

theorem besideStat_own {off : Nat} (h : 0x10 ≤ off) : besideStat d p (regKey (portLoc d p) off) :=
  .inr (.inl (by unfold regKey; omega))

theorem besideStat_off {off : Nat} (loc : Nat) (h : 0x10 ≤ off) (hoff : off < 16777216) : besideStat d p (regKey loc off) :=
  .inr (.inr ⟨loc, off, rfl, hoff, .inr h⟩)

theorem besideStat_sub {loc off : Nat} (h : 8 ≤ loc % 64) (hoff : off < 16777216) : besideStat d p (regKey loc off) :=
  .inr (.inr ⟨loc, off, rfl, hoff, .inl h⟩)

theorem besideStat_power {k : Nat} (h : powerKey k) : besideStat d p k := by
  obtain h | ⟨loc, off, hk, hmask⟩ := h
  · exact .inl h
  · exact .inr (.inr ⟨loc, off, hk, by omega, by omega⟩)

/-- A port's location has its own number in the lowest six bits. -/
theorem portLoc_sub : ∀ d < 4, ∀ p < 72, portLoc d p % 64 < 8 := by decide +kernel

/-- A port's state lies in none of them. -/
theorem not_besideStat (hd : d < 4) (hp : p < 72) {off : Nat} (hoff : off < 0x10) :
    ¬ besideStat d p (regKey (portLoc d p) off) := by
  have hsub := portLoc_sub d hd p hp
  rintro (h | h | ⟨loc, o, hk, ho, hmask⟩)
  · exact not_hubKey (portLoc_lt hd hp) (by omega) h
  · unfold regKey at h
    omega
  · obtain ⟨hl, rfl⟩ := regKey_inj (by omega) ho hk
    omega

end

/-! ### What stays -/

/-- What the operations of ports, buffers and the ledger leave: every register outside `K`, and the parts of the state
beside ports, dies, the ledger and what reporting changes. -/
structure PortKept (K : Nat → Prop) (s t : State) : Prop where
  rest : { t with regs := s.regs, rings := s.rings, plyn := s.plyn, env := s.env, msixPend := s.msixPend, sent := s.sent,
                  ports := s.ports, dies := s.dies, ledger := s.ledger, freeCtr := s.freeCtr } = s
  regs : RegsOnly K s t

section
variable {K : Nat → Prop} {s t u : State}

theorem PortKept.refl (s : State) : PortKept K s s := ⟨rfl, .refl s⟩

theorem PortKept.trans (h : PortKept K s t) (k : PortKept K t u) : PortKept K s u := by
  refine ⟨?_, h.regs.trans k.regs⟩
  conv => rhs; rw [← h.rest, ← k.rest]

theorem PortKept.mono {K' : Nat → Prop} (h : PortKept K s t) (hK : ∀ k, K k → K' k) : PortKept K' s t :=
  ⟨h.rest, h.regs.mono hK⟩

theorem PortKept.ite (p : Prop) [Decidable p] (h : PortKept K s t) (k : PortKept K s u) : PortKept K s (if p then t else u) := by
  split
  · exact h
  · exact k

theorem PortKept.foldl_mem {α : Type} {f : State → α → State} {l : List α} (h : ∀ s, ∀ x ∈ l, PortKept K s (f s x))
    (s : State) : PortKept K s (l.foldl f s) := by
  induction l generalizing s with
  | nil => exact .refl s
  | cons x l ih => exact (h s x (by simp)).trans (ih (fun s y hy => h s y (by simp [hy])) _)

theorem PortKept.foldl {α : Type} {f : State → α → State} (h : ∀ s x, PortKept K s (f s x)) (l : List α) (s : State) :
    PortKept K s (l.foldl f s) := .foldl_mem (fun s x _ => h s x) s

theorem PortKept.tails (h : PortKept K s t) : t.tails = s.tails := (congrArg State.tails h.rest :)

theorem PortKept.servo (h : PortKept K s t) : t.servo = s.servo := (congrArg State.servo h.rest :)

theorem PortKept.fld (h : PortKept K s t) {l : Nat} {f : Fld} (hk : ¬ K (regKey l f.off)) : t.fld l f = s.fld l f :=
  h.regs.fld hk

theorem PortKept.put (s : State) {loc : Nat} {f : Fld} (v : Nat) (h : K (regKey loc f.off)) : PortKept K s (s.put loc f v) :=
  ⟨rfl, .put s v h⟩

theorem PortKept.putPair (s : State) {loc : Nat} {lo hi : Fld} (v : Nat) (h : K (regKey loc lo.off))
    (k : K (regKey loc hi.off)) : PortKept K s (s.putPair loc lo hi v) := (PortKept.put s _ h).trans (.put _ _ k)

theorem PortKept.setPort (s : State) (d p : Nat) (x : Port) : PortKept K s (s.setPort d p x) := ⟨rfl, .of_eq rfl rfl⟩

theorem PortKept.setDie (s : State) (d : Nat) (x : Die) : PortKept K s (s.setDie d x) := ⟨rfl, .of_eq rfl rfl⟩

theorem PortKept.setLedger (s : State) (x : Ledger) : PortKept K s (s.setLedger x) := ⟨rfl, .of_eq rfl rfl⟩

theorem PortKept.send (s : State) (x : Sent) : PortKept K s (s.send x) := ⟨rfl, .of_eq rfl rfl⟩

theorem PortKept.freeNat (s : State) : PortKept K s s.freeNat.2 := ⟨rfl, .of_eq rfl rfl⟩

/-- Reporting an event leaves all but the registers that it writes. -/
theorem PortKept.event' (hK : ∀ k, hubKey k → K k) (s : State) (kind result time : Nat) :
    PortKept K s (s.event' kind result time) := by
  have h : Reports s (s.event' kind result time) := .event s kind result time none
  obtain ⟨-, hfree, -, -, -, -, -, hports, hdies, hledger, -⟩ := h.fields
  refine ⟨?_, (RegsOnly.hubEvent s kind result time none).mono hK⟩
  conv => rhs; rw [← h.rest]
  rw [hfree, hports, hdies, hledger]

end

/-! ### The ledger (R345 to R356) -/

theorem powerKey_led (f : Fld) : powerKey (regKey locLed f.off) := .inl (hubKey_of_loc (by decide) _)

theorem PortKept.ledPut (s : State) (f : Fld) (v : Nat) : PortKept powerKey s (s.ledPut f v) := .put s v (powerKey_led f)

theorem PortKept.regSync (s : State) (i : Nat) (b : Bool) : PortKept powerKey s (s.regSync i b) := by
  unfold State.regSync
  have h : ∀ v1 v2 v3 v4 v5 v6, PortKept powerKey s ((((((s.ledPut (R.POW_REG_EFFECTIVE i) v1).ledPut
      (R.POW_CLU_EFFECTIVE (2 * i)) v2).ledPut (R.POW_CLU_EFFECTIVE (2 * i + 1)) v3).ledPut (R.POW_REG_OVER i) v4).ledPut
      (R.POW_CLU_OVER (2 * i)) v5).ledPut (R.POW_CLU_OVER (2 * i + 1)) v6) := fun _ _ _ _ _ _ =>
    (((((PortKept.ledPut s _ _).trans (.ledPut _ _ _)).trans (.ledPut _ _ _)).trans (.ledPut _ _ _)).trans
      (.ledPut _ _ _)).trans (.ledPut _ _ _)
  exact .ite _ ((h _ _ _ _ _ _).trans (.event' (fun _ => .inl) _ _ _ _)) (h _ _ _ _ _ _)

theorem PortKept.useBy (s : State) (d : Nat) (clu : Option Nat) (n : Int) : PortKept powerKey s (s.useBy d clu n) := by
  cases clu with
  | none => exact .ledPut s _ _
  | some c => exact (((PortKept.ledPut s _ _).trans (.ledPut _ _ _)).trans (.ledPut _ _ _)).trans (.regSync _ _ _)

theorem PortKept.charge (s : State) (d : Nat) (clu : Option Nat) (n : Int) : PortKept powerKey s (s.charge d clu n) := by
  unfold State.charge
  exact .ite _ (.refl s) (((PortKept.ledPut s _ _).trans (.useBy _ _ _ _)).trans (.ledPut _ _ _))

theorem PortKept.reserveBy (s : State) (d clu : Nat) (n : Int) : PortKept powerKey s (s.reserveBy d clu n) :=
  ((PortKept.ledPut s _ _).trans (.useBy _ _ _ _)).trans (.ledPut _ _ _)

theorem unitLoc_sub (d u : Nat) {k : Nat} (hk : k < 64) : unitLoc d u k % 64 = k := by
  unfold unitLoc cluLoc mkLoc
  split <;> omega

theorem PortKept.setUnitPow (s : State) (d u st : Nat) : PortKept powerKey s (s.setUnitPow d u st) :=
  .put s st (.inr ⟨_, _, rfl, .inl ⟨rfl, by rw [unitLoc_sub d u (by decide)]; decide⟩⟩)

theorem PortKept.unitRest (s : State) (d u : Nat) : PortKept powerKey s (s.unitRest d u) := by
  unfold State.unitRest
  exact .ite _ ((PortKept.setUnitPow s _ _ _).trans (.charge _ _ _ _)) (.refl s)

theorem PortKept.unitOn (s : State) (d u : Nat) : PortKept powerKey s (s.unitOn d u) := by
  unfold State.unitOn
  exact .ite _ (.refl s) ((PortKept.charge s _ _ _).trans (.setUnitPow _ _ _ _))

theorem PortKept.pwrPut (s : State) (d clu : Nat) {f : Fld} (v : Nat) (h : f.off = 0x20) :
    PortKept powerKey s (s.put (cluLoc d clu 20 0) f v) :=
  .put s v (.inr ⟨_, _, rfl, .inr h⟩)

theorem PortKept.takeResv (s : State) (d clu : Nat) : PortKept powerKey s (s.takeResv d clu) :=
  ((PortKept.reserveBy s _ _ _).trans (.setLedger _ _)).trans (.pwrPut _ _ _ _ rfl)

theorem PortKept.dropResv (s : State) (d clu : Nat) : PortKept powerKey s (s.dropResv d clu) := by
  unfold State.dropResv
  exact ((((PortKept.reserveBy s _ _ _).trans (.setLedger _ _)).trans (.pwrPut _ _ _ _ rfl)).trans (.pwrPut _ _ _ _ rfl)).trans
    (.charge _ _ _ _)

/-- One cluster's part of a revision of the reservations. -/
theorem PortKept.resvSync {s t : State} {d : Nat} (h : s.resvSync d = some t) : PortKept powerKey s t := by
  have hfold : ∀ (l : List Nat) (o : Option State), (∀ u, o = some u → PortKept powerKey s u) →
      ∀ u, l.foldl (fun s? k => match s? with
        | none => none
        | some s =>
          if s.needsResv d k then
            if s.hasResv d k then some s
            else if s.refusals d (some k) 364 = [] then some (s.takeResv d k) else none
          else if s.hasResv d k then some (s.dropResv d k) else some s) o = some u → PortKept powerKey s u := by
    intro l
    induction l with
    | nil => exact fun o ho u hu => ho u hu
    | cons k l ih =>
      intro o ho
      refine ih _ ?_
      cases o with
      | none => simp
      | some v =>
        have hv := ho v rfl
        intro u hu
        dsimp only at hu
        split at hu
        · split at hu
          · exact Option.some.inj hu ▸ hv
          · split at hu
            · exact Option.some.inj hu ▸ hv.trans (.takeResv v d k)
            · simp at hu
        · split at hu
          · exact Option.some.inj hu ▸ hv.trans (.dropResv v d k)
          · exact Option.some.inj hu ▸ hv
  exact hfold (List.range 4) (some s) (fun u hu => Option.some.inj hu ▸ .refl s) t h

theorem PortKept.resvSync_getD (s : State) (d : Nat) : PortKept powerKey s ((s.resvSync d).getD s) := by
  cases h : s.resvSync d with
  | none => exact .refl s
  | some t => exact .resvSync h

/-! ### Credits, pauses and cells (R294 to R303, R310) -/

section
variable (d p : Nat)

theorem PortKept.pput (s : State) {f : Fld} (v : Nat) (h : 0x10 ≤ f.off) : PortKept (besideStat d p) s (s.pput d p f v) :=
  .put s v (besideStat_own h)

theorem PortKept.pputAt (s : State) (e q : Nat) {f : Fld} (v : Nat) (h : 0x10 ≤ f.off) (hoff : f.off < 16777216) :
    PortKept (besideStat d p) s (s.pput e q f v) :=
  .put s v (besideStat_off _ h hoff)

theorem PortKept.creditSync {K : Nat → Prop} (s : State) (e q c : Nat) : PortKept K s (s.creditSync e q c) := by
  unfold State.creditSync State.putLimit
  exact .ite _ (.setPort s _ _ _) (.refl s)

theorem PortKept.windowSync {K : Nat → Prop} (s : State) (e q : Nat) : PortKept K s (s.windowSync e q) :=
  .foldl (fun s c => .creditSync s e q c) _ s

/-- The registers that flow control writes: those of reporting, those of every port from offset 0x300 on, what lies behind the
port's own, and the port's count of frames that came in part. -/
def flowKey (d p k : Nat) : Prop :=
  hubKey k ∨ regKey (portLoc d p) 0x300 ≤ k ∨
    ∃ loc off, k = regKey loc off ∧ off < 16777216 ∧ (off = R.RX_ERR_ERRORED.off ∨ 0x300 ≤ off)

theorem PortKept.flowPut (s : State) {f : Fld} (v : Nat) (h : 0x300 ≤ f.off) : PortKept (flowKey d p) s (s.pput d p f v) :=
  .put s v (.inr (.inl (by unfold regKey; omega)))

theorem PortKept.flowPutAt (s : State) (e q : Nat) {f : Fld} (v : Nat) (h : 0x300 ≤ f.off) (hoff : f.off < 16777216) :
    PortKept (flowKey d p) s (s.pput e q f v) :=
  .put s v (.inr (.inr ⟨_, _, rfl, hoff, .inr h⟩))

theorem flowKey_errored {d p e q : Nat} : flowKey d p (regKey (portLoc e q) R.RX_ERR_ERRORED.off) :=
  .inr (.inr ⟨_, _, rfl, by decide, .inl rfl⟩)

variable {d p} in
/-- They lie beside the port's state. -/
theorem besideStat_flow {k : Nat} (h : flowKey d p k) : besideStat d p k := by
  obtain h | h | ⟨loc, off, rfl, hoff, ho⟩ := h
  · exact .inl h
  · exact .inr (.inl (le_trans (by unfold regKey; omega) h))
  · exact besideStat_off loc (by simp only [R.RX_ERR_ERRORED] at ho; omega) hoff

variable {d p} in
theorem PortKept.flow {s t : State} (h : PortKept (flowKey d p) s t) : PortKept (besideStat d p) s t :=
  h.mono fun _ => besideStat_flow

theorem PortKept.flowPfcOne (s : State) (e q i v : Nat) : PortKept (flowKey d p) s (s.pfcOne e q i v) := by
  unfold State.pfcOne
  have h : ∀ (t : State) (b : Nat), PortKept (flowKey d p) t (t.pput e q ⟨0x818, 8 + i, 1⟩ b) := fun t b =>
    .flowPutAt d p t e q b (show 0x300 ≤ 0x818 by decide) (show 0x818 < 16777216 by decide)
  exact .ite _ ((PortKept.setPort s _ _ _).trans (h _ _)) ((PortKept.setPort s _ _ _).trans (h _ _))

theorem PortKept.flowPfcRx (s : State) (e q enable : Nat) (quanta : List Nat) :
    PortKept (flowKey d p) s (s.pfcRx e q enable quanta) :=
  (PortKept.flowPutAt d p s e q (f := R.PFC_STAT_PFC_RX) _ (by decide) (by decide)).trans
    (.foldl (fun s i => .flowPfcOne d p s e q i _) _ _)

theorem PortKept.flowEmitCtl (s : State) (e q : Nat) (x : Ctl) : PortKept (flowKey d p) s (s.emitCtl e q x) := by
  cases x with
  | pfc prio quanta => exact .ite _ (.flowPfcRx d p s _ _ _ _) (.send s _)
  | relka kind blocks => exact .send s _

theorem PortKept.flowSendCtl (s : State) (e q : Nat) (x : Ctl) : PortKept (flowKey d p) s (s.sendCtl e q x) := by
  unfold State.sendCtl
  exact .ite _ (.setPort s _ _ _) (.flowEmitCtl d p s _ _ _)

theorem PortKept.flowSendRelka (s : State) (e q kind msg : Nat) : PortKept (flowKey d p) s (s.sendRelka e q kind msg) := by
  unfold State.sendRelka
  exact .ite _ (.flowSendCtl d p s _ _ _) (.refl s)

theorem PortKept.flowSendCredit (s : State) (e q c : Nat) (init : Bool) : PortKept (flowKey d p) s (s.sendCredit e q c init) := by
  unfold State.sendCredit
  exact .ite _ ((PortKept.setPort s _ _ _).trans (.flowSendRelka d p _ _ _ _ _)) (.refl s)

theorem PortKept.flowSendInits (s : State) : PortKept (flowKey d p) s (s.sendInits d p) := by
  unfold State.sendInits
  exact .ite _ (.foldl (fun s c => (PortKept.setPort s _ _ _).trans (.flowSendCredit d p _ _ _ _ _)) _ s)
    (.flowPut d p s _ (by decide))

theorem PortKept.flowVoidCredits (s : State) : PortKept (flowKey d p) s (s.voidCredits d p) :=
  ((PortKept.setPort s _ _ _).trans (.flowPut d p _ _ (by decide))).trans (.flowPut d p _ _ (by decide))

theorem PortKept.flowSendPfc (s : State) (e q prio quanta : Nat) : PortKept (flowKey d p) s (s.sendPfc e q prio quanta) :=
  (PortKept.setPort s _ _ _).trans (.flowSendCtl d p _ _ _ _)

theorem PortKept.flowXonTest (s : State) (e q : Nat) : PortKept (flowKey d p) s (s.xonTest e q) := by
  refine .foldl (fun s i => ?_) _ s
  exact .ite _ ((PortKept.flowPutAt d p s e q (f := ⟨0x818, i, 1⟩) _ (by show 0x300 ≤ 0x818; decide)
    (by show 0x818 < 16777216; decide)).trans (.flowSendPfc d p _ _ _ _ _)) (.refl s)

theorem PortKept.flowIngressRelease (s : State) (e : Nat) (g : CellGrp) :
    PortKept (flowKey d p) s (s.ingressRelease e g) := by
  unfold State.ingressRelease
  refine .ite _ (.refl s) ((PortKept.setPort s _ _ _).trans (.ite _ ?_ (.flowXonTest d p _ _ _)))
  exact (PortKept.setPort _ _ _ _).trans (.creditSync _ _ _ _)

theorem PortKept.flowReleaseRef (s : State) (e fid : Nat) : PortKept (flowKey d p) s (s.releaseRef e fid) := by
  unfold State.releaseRef
  split
  · exact .refl s
  · exact .ite _ (.setDie s _ _) ((PortKept.setDie s _ _).trans (.flowIngressRelease d p _ _ _))

/-- Frames that leave a queue are counted from offset 0x300 on. -/
theorem PortKept.flowDropQueued (s : State) (test : QEnt → Bool) (ctr : Nat → Fld) (h : ∀ c, 0x300 ≤ (ctr c).off) :
    PortKept (flowKey d p) s (s.dropQueued d p test ctr).1 :=
  (PortKept.setPort s _ _ _).trans (.foldl (fun s _ => (PortKept.flowReleaseRef d p s d _).trans (.flowPut d p _ _ (h _))) _ _)

theorem PortKept.flowFlushPort (s : State) : PortKept (flowKey d p) s (s.flushPort d p) :=
  ((PortKept.flowDropQueued d p s _ R.QUE_DISCARD_FLUSHED (fun c => by simp only [R.QUE_DISCARD_FLUSHED]; omega)).trans
    (.setPort _ _ _ _)).trans
    (.foldl (fun s h => (PortKept.flowReleaseRef d p s d _).trans
      (.flowPut d p _ _ (by simp only [R.QUE_DISCARD_FLUSHED]; omega))) _ _)

theorem PortKept.flowEndHold (s : State) : PortKept (flowKey d p) s (s.endHold d p) :=
  (PortKept.setPort s _ _ _).trans (.flowPut d p _ _ (by decide))

theorem PortKept.flowDropPartial (s : State) : PortKept (flowKey d p) s (s.dropPartial d p) := by
  unfold State.dropPartial
  exact (PortKept.ite _ (.refl s) (.put s (f := R.RX_ERR_ERRORED) _ flowKey_errored)).trans (.setPort _ _ _ _)

theorem PortKept.flowLoseTx (s : State) : PortKept (flowKey d p) s (s.loseTx d p) := by
  unfold State.loseTx
  split
  · exact .refl s
  · exact ((PortKept.setPort s _ _ _).trans (.flowReleaseRef d p _ _ _)).trans
      (.flowPut d p _ _ (by simp only [R.QUE_DISCARD_FLUSHED]; omega))

theorem PortKept.flowBeginHold (s : State) : PortKept (flowKey d p) s (s.beginHold d p) := by
  unfold State.beginHold
  exact .ite _ (.flowFlushPort d p s) ((PortKept.setPort s _ _ _).trans (.flowPut d p _ _ (by decide)))

theorem PortKept.flowLinkEvent (s : State) (e q val src : Nat) :
    PortKept (flowKey d p) s (s.linkEvent e q val src) :=
  .event' (fun _ => .inl) s _ _ _

/-! Beside the port's state, what each leaves. -/

theorem PortKept.emitCtl (s : State) (e q : Nat) (x : Ctl) : PortKept (besideStat d p) s (s.emitCtl e q x) :=
  (PortKept.flowEmitCtl d p s e q x).flow

theorem PortKept.sendInits (s : State) : PortKept (besideStat d p) s (s.sendInits d p) :=
  (PortKept.flowSendInits d p s).flow

theorem PortKept.releaseRef (s : State) (e fid : Nat) : PortKept (besideStat d p) s (s.releaseRef e fid) :=
  (PortKept.flowReleaseRef d p s e fid).flow

theorem PortKept.flushPort (s : State) : PortKept (besideStat d p) s (s.flushPort d p) :=
  (PortKept.flowFlushPort d p s).flow

theorem PortKept.endHold (s : State) : PortKept (besideStat d p) s (s.endHold d p) :=
  (PortKept.flowEndHold d p s).flow

theorem PortKept.linkEvent (s : State) (e q val src : Nat) : PortKept (besideStat d p) s (s.linkEvent e q val src) :=
  (PortKept.flowLinkEvent d p s e q val src).flow

/-! ### Lanes (R244, R248, R249) -/

theorem laneLoc_sub (d u l : Nat) (hl : l < 56) : 8 ≤ laneLoc d u l % 64 := by
  unfold laneLoc
  rw [unitLoc_sub d u (by omega)]
  omega

theorem PortKept.lanePut (s : State) (e u l : Nat) (hl : l < 56) {f : Fld} (v : Nat) (h : f.off < 16777216) :
    PortKept (besideStat d p) s (s.put (laneLoc e u l) f v) := .put s v (besideStat_sub (laneLoc_sub e u l hl) h)

theorem PortKept.lanePair (s : State) (e u l : Nat) (hl : l < 56) {lo hi : Fld} (v : Nat) (h : lo.off < 16777216)
    (k : hi.off < 16777216) : PortKept (besideStat d p) s (s.putPair (laneLoc e u l) lo hi v) :=
  (PortKept.lanePut d p s e u l hl _ h).trans (.lanePut d p _ e u l hl _ k)

theorem PortKept.prbsSync (s : State) (e u l : Nat) (hl : l < 56) (least : Nat) :
    PortKept (besideStat d p) s (s.prbsSync e u l least) := by
  unfold State.prbsSync
  dsimp only
  split
  · exact .refl s
  · exact .ite _ (.refl s) (((PortKept.freeNat s).trans (.lanePair d p _ e u l hl _ (by decide) (by decide))).trans
      (.setDie _ _ _))

theorem PortKept.prbsUnlock (s : State) (e u l : Nat) (hl : l < 56) (least : Nat) :
    PortKept (besideStat d p) s (s.prbsUnlock e u l least) :=
  (((PortKept.prbsSync d p s e u l hl least).trans (.lanePair d p _ e u l hl _ (by decide) (by decide))).trans
    (.setDie _ _ _)).trans (.lanePut d p _ e u l hl _ (by decide))

theorem PortKept.prbsStop (s : State) (e u l : Nat) (hl : l < 56) : PortKept (besideStat d p) s (s.prbsStop e u l) :=
  ((PortKept.prbsUnlock d p s e u l hl 0).trans (.lanePut d p _ e u l hl _ (by decide))).trans
    (.lanePut d p _ e u l hl _ (by decide))

theorem PortKept.cwSync (s : State) : PortKept (besideStat d p) s (s.cwSync d p) := by
  unfold State.cwSync
  split
  · exact .refl s
  · exact (PortKept.pput d p s (f := R.FEC_CW_CW) _ (by decide)).trans (.setPort _ _ _ _)

theorem PortKept.cwStop (s : State) : PortKept (besideStat d p) s (s.cwStop d p) :=
  (PortKept.cwSync d p s).trans (.setPort _ _ _ _)

/-! ### A port that leaves UP (R242) -/

theorem RegsOnly.flowSourceLost (s : State) (e q : Nat) (ok : Nat → Bool) :
    RegsOnly (flowKey d p) s (s.sourceLost e q ok) := (SelKept.sourceLost s e q ok).regs.mono (fun _ => .inl)

theorem RegsOnly.flowRlkMove (s : State) (st : Nat) : RegsOnly (flowKey d p) s (s.rlkMove d p st) := by
  unfold State.rlkMove
  have h : RegsOnly (flowKey d p) s ((s.setRelka d p { s.relka d p with answered := 0, misses := 0, silent := 0 }).pput d p
      R.RLK_STAT_STATE st) := ((PortKept.setPort s _ _ _).trans (.flowPut d p _ _ (by decide))).regs
  have hmark : ∀ t : State, RegsOnly (flowKey d p) t (t.dropMark d p) := fun _ => .of_eq rfl rfl
  refine h.trans ?_
  refine RegsOnly.trans (RegsOnly.ite (st = rlkLinked ∨ st = rlkDegraded) (.refl _) (hmark _)) ?_
  exact .ite _ (.refl _) (.flowSourceLost d p _ _ _ _)

theorem RegsOnly.flowRlkPortDown (s : State) : RegsOnly (flowKey d p) s (s.rlkPortDown d p) := by
  unfold State.rlkPortDown
  dsimp only
  have hclear : RegsOnly (flowKey d p) s (s.setRelka d p { s.relka d p with due := [], marks := [] }) := .of_eq rfl rfl
  have hmark : ∀ t : State, RegsOnly (flowKey d p) t (t.dropMark d p) := fun _ => .of_eq rfl rfl
  exact (hclear.trans (.ite _ (.flowRlkMove d p _ _) (.refl _))).trans (hmark _)

/-- What leaving UP does once the port has its new state. -/
def State.upLost (s : State) (d p st : Nat) : State :=
  let s := s.linkEvent d p st 0
  let s := (s.voidCredits d p).dropPartial d p
  let s := (s.pput d p R.PFC_STAT_TX_XOFF 0).pput d p R.PFC_STAT_RX_XOFF 0
  let s := (s.dropQueued d p (fun e => bit e.attr 0) R.QUE_DISCARD_DOWN_DISCARD).1
  let s := (s.loseTx d p).beginHold d p
  (s.rlkPortDown d p).sourceLost d p (fun k => k == 4 || k == 5)

theorem State.leaveUp_eq (s : State) (st : Nat) : s.leaveUp d p st = State.upLost ((s.setPState d p st).pput d p
    R.PORT_STAT_LINK_DOWNS ((s.setPState d p st).pfld d p R.PORT_STAT_LINK_DOWNS + 1)) d p st := rfl

theorem RegsOnly.flowUpLost (s : State) (st : Nat) : RegsOnly (flowKey d p) s (s.upLost d p st) := by
  unfold State.upLost
  refine RegsOnly.trans ?_ ((RegsOnly.flowRlkPortDown d p _).trans (.flowSourceLost d p _ _ _ _))
  exact ((((((PortKept.flowLinkEvent d p s _ _ _ _).trans (.flowVoidCredits d p _)).trans (.flowDropPartial d p _)).trans
    (.flowPut d p _ _ (by decide))).trans (.flowPut d p _ _ (by decide))).trans
    ((PortKept.flowDropQueued d p _ _ R.QUE_DISCARD_DOWN_DISCARD (fun c => by simp only [R.QUE_DISCARD_DOWN_DISCARD]; omega)).trans
      ((PortKept.flowLoseTx d p _).trans (.flowBeginHold d p _)))).regs

theorem RegsOnly.upLost (s : State) (st : Nat) : RegsOnly (besideStat d p) s (s.upLost d p st) :=
  (RegsOnly.flowUpLost d p s st).mono fun _ => besideStat_flow

end

/-! ### The state of a port -/

section
variable {d p : Nat} (hd : d < 4) (hp : p < 72)
include hd hp

/-- What writes beside a port's state leaves its fields there. -/
theorem PortKept.pfld {s t : State} (h : PortKept (besideStat d p) s t) {f : Fld} (hf : f.off < 0x10) :
    t.pfld d p f = s.pfld d p f := h.fld (not_besideStat hd hp hf)

theorem RegsOnly.pfld {s t : State} (h : RegsOnly (besideStat d p) s t) {f : Fld} (hf : f.off < 0x10) :
    t.pfld d p f = s.pfld d p f := h.fld (not_besideStat hd hp hf)

end

/-- A port's state after it enters one. -/
theorem State.pstate_setPState (s : State) (d p st : Nat) : (s.setPState d p st).pstate d p = st % 16 := by
  unfold State.setPState
  dsimp only
  have h : (((s.setPort d p { s.port d p with enteredAt := s.now }).pput d p R.PORT_STAT_STATE st).pstate d p) = st % 16 :=
    State.fld_put_self _ _ _ (by decide)
  split
  · exact h
  · exact h

/-- Entering a state leaves the port's other fields. -/
theorem State.pfld_setPState (s : State) (d p st : Nat) {f : Fld} (h : R.PORT_STAT_STATE.apart f = true) :
    (s.setPState d p st).pfld d p f = s.pfld d p f := by
  unfold State.setPState
  dsimp only
  have h : (((s.setPort d p { s.port d p with enteredAt := s.now }).pput d p R.PORT_STAT_STATE st).pfld d p f) =
      s.pfld d p f := State.fld_put_apart _ _ _ h
  split
  · exact h
  · exact h

section
variable {d p : Nat} (hd : d < 4) (hp : p < 72)
include hd hp

/-- A port that leaves UP has the state that it goes to. -/
theorem State.pstate_leaveUp (s : State) (st : Nat) : (s.leaveUp d p st).pstate d p = st % 16 := by
  rw [State.leaveUp_eq, State.pstate, (RegsOnly.upLost d p _ _).pfld hd hp (by decide)]
  exact (State.fld_put_apart _ _ _ (by decide)).trans (s.pstate_setPState d p st)

/-- Leaving UP leaves the port's fields beside its state and the count of its losses. -/
theorem State.pfld_leaveUp (s : State) (st : Nat) {f : Fld} (hf : f.off < 0x10) (h : R.PORT_STAT_STATE.apart f = true)
    (k : R.PORT_STAT_LINK_DOWNS.apart f = true) : (s.leaveUp d p st).pfld d p f = s.pfld d p f := by
  rw [State.leaveUp_eq, (RegsOnly.upLost d p _ _).pfld hd hp hf]
  exact (State.fld_put_apart _ _ _ k).trans (s.pfld_setPState d p st h)

theorem State.pstate_portTo (s : State) (st : Nat) : (s.portTo d p st).pstate d p = st % 16 := by
  unfold State.portTo
  split
  · exact s.pstate_leaveUp hd hp st
  · exact s.pstate_setPState d p st

theorem State.pfld_portTo (s : State) (st : Nat) {f : Fld} (hf : f.off < 0x10) (h : R.PORT_STAT_STATE.apart f = true)
    (k : R.PORT_STAT_LINK_DOWNS.apart f = true) : (s.portTo d p st).pfld d p f = s.pfld d p f := by
  unfold State.portTo
  split
  · exact s.pfld_leaveUp hd hp st hf h k
  · exact s.pfld_setPState d p st h

end

/-! ### The end of a frame in transmission, and the entry to DISABLED (R241, R294) -/

theorem RegsOnly.endTx (s : State) (d p : Nat) : RegsOnly (besideStat d p) s (s.endTx d p) := by
  unfold State.endTx
  split
  · exact .refl s
  · dsimp only
    refine RegsOnly.trans ?_ (PortKept.releaseRef d p _ _ _).regs
    refine RegsOnly.trans ?_ (RegsOnly.foldl (fun s c => (PortKept.emitCtl d p s d p c).regs) _ _)
    exact .ite _ (.of_eq rfl rfl) (.of_eq rfl rfl)

theorem portLanes_small {s : State} {d p : Nat} (hp : p < 72) {l : Nat} (hl : l ∈ s.portLanes d p) : l < 8 := by
  unfold State.portLanes at hl
  split at hl
  · simp only [List.mem_singleton] at hl
    omega
  · split at hl <;> simp only [List.not_mem_nil, List.mem_cons, or_false] at hl <;> omega

theorem portLanes_lt (s : State) (d : Nat) {p : Nat} (hp : p < 72) : ∀ l ∈ s.portLanes d p, l < 56 := fun _ hl =>
  lt_trans (portLanes_small hp hl) (by decide)

theorem PortKept.stopLanes (s : State) (d p : Nat) (hp : p < 72) :
    PortKept (besideStat d p) s ((s.portLanes d p).foldl (fun s l => s.prbsStop d (portUnit p) l) s) :=
  .foldl_mem (fun t l hl => .prbsStop d p t _ _ _ (portLanes_lt s d hp l hl)) s

/-- The registers of lanes that hold their lock, and the ports' counts of codewords. -/
def laneKey (k : Nat) : Prop := ∃ loc off, k = regKey loc off ∧ (off = 4 ∧ 8 ≤ loc % 64 ∨ off = 0x10)

theorem besideStat_lane {d p k : Nat} (h : laneKey k) : besideStat d p k := by
  obtain ⟨loc, off, hk, hmask⟩ := h
  exact .inr (.inr ⟨loc, off, hk, by omega, by omega⟩)

theorem PortKept.lanesUnlock (s : State) (d p : Nat) (hp : p < 72) : PortKept laneKey s (s.lanesUnlock d p) := by
  have hstop : PortKept laneKey s (s.cwStop d p) := by
    refine PortKept.trans ?_ (.setPort _ _ _ _)
    unfold State.cwSync
    split
    · exact .refl s
    · exact (PortKept.put s (f := R.FEC_CW_CW) _ ⟨_, _, rfl, .inr rfl⟩).trans (.setPort _ _ _ _)
  have hput : ∀ (t : State) (l : Nat) (f : Fld) (v : Nat), l < 56 → f.off = 4 →
      PortKept laneKey t (t.put (laneLoc d (portUnit p) l) f v) := fun t l f v hl hf =>
    .put t v ⟨_, _, rfl, .inl ⟨hf, laneLoc_sub _ _ _ hl⟩⟩
  refine hstop.trans (.foldl_mem (fun t l hl => ?_) _)
  have hlt := portLanes_lt s d hp l hl
  exact (hput t l _ _ hlt rfl).trans (hput _ l _ _ hlt rfl)

/-- The entry to DISABLED, taken apart. -/
theorem State.disable_eq (s : State) (d p : Nat) : s.disable d p =
    (((((((s.portTo d p psDisabled).stopTests d p).clearValid d p).lanesUnlock d p).updPort d p
      (fun x => { x with lossAt := none })).pput d p R.PORT_STAT_TX_ON 0).pput d p R.PORT_STAT_RF_RX 0).unitRest d
      (portUnit p) := rfl

section
variable {d p : Nat} (hd : d < 4) (hp : p < 72)
include hd hp

theorem not_powerKey_port {off : Nat} (h : off ≠ 0x20) : ¬ powerKey (regKey (portLoc d p) off) ∨ 16777216 ≤ off := by
  refine or_iff_not_imp_right.2 fun hoff => ?_
  have hsub := portLoc_sub d hd p hp
  rintro (hk | ⟨loc, o, hk, hmask⟩)
  · exact not_hubKey (portLoc_lt hd hp) (by omega) hk
  · obtain ⟨hl, rfl⟩ := regKey_inj (by omega) (by omega) hk
    omega

theorem State.pfld_unitRest (s : State) (e u : Nat) {f : Fld} (h : f.off ≠ 0x20) (hoff : f.off < 16777216) :
    (s.unitRest e u).pfld d p f = s.pfld d p f :=
  (PortKept.unitRest s e u).fld ((not_powerKey_port hd hp h).resolve_right (by omega))

theorem State.pfld_lanesUnlock (s : State) {f : Fld} (h : f.off ≠ 0x10) (hoff : f.off < 16777216) :
    (s.lanesUnlock d p).pfld d p f = s.pfld d p f := by
  refine (PortKept.lanesUnlock s d p hp).fld ?_
  have hsub := portLoc_sub d hd p hp
  rintro ⟨loc, o, hk, hmask⟩
  obtain ⟨hl, rfl⟩ := regKey_inj hoff (by omega) hk
  omega

theorem State.pfld_stopTests (s : State) {f : Fld} (hf : f.off < 0x10) (h : R.PORT_STAT_LOOP.apart f = true) :
    (s.stopTests d p).pfld d p f = s.pfld d p f := by
  refine (State.fld_put_apart _ _ _ h).trans ?_
  exact (PortKept.stopLanes s d p hp).pfld hd hp hf

/-- Entering DISABLED leaves the fields of a port's state that it does not write. -/
theorem State.pfld_disable (s : State) {f : Fld} (hf : f.off < 0x10) (hloop : R.PORT_STAT_LOOP.apart f = true)
    (htx : R.PORT_STAT_TX_ON.apart f = true) (hrf : R.PORT_STAT_RF_RX.apart f = true) :
    (s.disable d p).pfld d p f = (s.portTo d p psDisabled).pfld d p f := by
  rw [State.disable_eq, State.pfld_unitRest hd hp _ _ _ (by omega) (by omega)]
  refine (State.fld_put_apart _ _ _ hrf).trans ((State.fld_put_apart _ _ _ htx).trans ?_)
  refine (State.pfld_lanesUnlock hd hp _ (by omega) (by omega)).trans ?_
  exact ((PortKept.pput d p _ _ (by decide)).pfld hd hp hf).trans (State.pfld_stopTests hd hp _ hf hloop)

theorem State.pstate_disable (s : State) : (s.disable d p).pstate d p = psDisabled := by
  rw [State.pstate, State.pfld_disable hd hp s (by decide) (by decide) (by decide) (by decide)]
  exact s.pstate_portTo hd hp psDisabled

theorem State.tx_disable (s : State) : (s.disable d p).pfld d p R.PORT_STAT_TX_ON = 0 := by
  rw [State.disable_eq, State.pfld_unitRest hd hp _ _ _ (by decide) (by decide)]
  exact (State.fld_put_apart _ _ _ (by decide)).trans (State.fld_put_self _ _ _ (by decide))

theorem State.loop_disable (s : State) : (s.disable d p).pfld d p R.PORT_STAT_LOOP = 0 := by
  rw [State.disable_eq, State.pfld_unitRest hd hp _ _ _ (by decide) (by decide)]
  refine (State.fld_put_apart _ _ _ (by decide)).trans ((State.fld_put_apart _ _ _ (by decide)).trans ?_)
  refine (State.pfld_lanesUnlock hd hp _ (by decide) (by decide)).trans ?_
  refine ((PortKept.pput d p _ _ (by decide)).pfld hd hp (by decide)).trans ?_
  exact State.fld_put_self _ _ _ (by decide)

theorem State.dlyValid_disable (s : State) : (s.disable d p).pfld d p R.DLY_STAT_VALID = 0 := by
  rw [State.disable_eq, State.pfld_unitRest hd hp _ _ _ (by decide) (by decide)]
  refine (State.fld_put_apart _ _ _ (by decide)).trans ((State.fld_put_apart _ _ _ (by decide)).trans ?_)
  refine (State.pfld_lanesUnlock hd hp _ (by decide) (by decide)).trans ?_
  exact State.fld_put_self _ _ _ (by decide)

end

end Sys2Proof.Machine
end

section
/-! PROOFS. PORT.SET of mode, rate and span, PORT.UP and PORT.DOWN (R233 to R235, R241, R245, R290, R418, R419). -/

namespace Sys2Proof.Machine

/-! ### PORT.SET FUNC 0 (R234, R290, R310) -/

/-- The unit is emptied: no hold, no frame queued, no test on its lanes (R310). -/
def State.unitCleared (s : State) (d u : Nat) : State :=
  (List.range 4).foldl (fun s l => s.prbsStop d u l)
    ((s.unitPorts d u).foldl (fun s p => (s.endHold d p).flushPort d p) s)

/-- The mode of a unit that may change: emptied, the mode stored, its ports' delays forgotten. -/
def State.modeStored (s : State) (d u mode : Nat) : State :=
  (List.range 4).foldl (fun s i => s.setPort d (4 * u + i) { s.port d (4 * u + i) with sums := none })
    ((s.unitCleared d u).put (unitLoc d u 16) R.PU_MODE_MODE mode)

/-- FUNC 0 on DISABLED ports within the limit. -/
theorem State.setMode_stores {s : State} {d u mode : Nat} (hfree : ∀ q ∈ s.unitPorts d u, s.pstate d q = psDisabled)
    (hroom : s.raisesOver (s.put (unitLoc d u 16) R.PU_MODE_MODE mode) d = false) :
    s.setMode d u mode = ((((s.modeStored d u mode).unitRest d u).resvSync d).getD ((s.modeStored d u mode).unitRest d u),
      some (okC 0)) := by
  have hnone : (s.unitPorts d u).find? (fun p => s.pstate d p != psDisabled) = none := by
    rw [List.find?_eq_none]
    intro q hq
    simp [hfree q hq]
  unfold State.setMode
  rw [hnone]
  dsimp only
  rw [hroom]
  rfl

theorem PortKept.any {K : Nat → Prop} {s t : State} (h : PortKept K s t) : PortKept (fun _ => True) s t := h.mono (fun _ _ => trivial)

theorem PortKept.unitCleared (s : State) (d u : Nat) : PortKept (fun _ => True) s (s.unitCleared d u) := by
  have hports : PortKept (fun _ => True) s ((s.unitPorts d u).foldl (fun s p => (s.endHold d p).flushPort d p) s) :=
    .foldl (fun s p => ((PortKept.endHold d p s).trans (.flushPort d p _)).any) _ s
  exact hports.trans (.foldl_mem (fun t l hl => (PortKept.prbsStop d 0 t d u l
    (by simp only [List.mem_range] at hl; omega)).any) _)

/-- Forgetting the delays of ports changes nothing but the ports. -/
theorem PortKept.sumsGone {K : Nat → Prop} (s : State) (d u : Nat) :
    PortKept K s ((List.range 4).foldl (fun s i => s.setPort d (4 * u + i) { s.port d (4 * u + i) with sums := none }) s) :=
  .foldl (fun s _ => .setPort s _ _ _) _ s

theorem not_powerKey_mode {d u : Nat} (hd : d < 4) (hu : u < 16) : ¬ powerKey (regKey (unitLoc d u 16) R.PU_MODE_MODE.off) := by
  have hloc : unitLoc d u 16 < 0xC000 := by
    unfold unitLoc cluLoc mkLoc
    split <;> omega
  rintro (h | ⟨loc, off, hk, hmask⟩)
  · exact not_hubKey hloc (by decide) h
  · obtain ⟨-, hoff⟩ := regKey_inj (by decide) (by omega) hk
    simp only [R.PU_MODE_MODE] at hoff
    omega

/-- FUNC 0 stores the mode, and leaves the timescale and the servo. -/
theorem State.setMode_spec {s : State} {d u mode : Nat} (hd : d < 4) (hu : u < 16) (hmode : mode < 8)
    (hfree : ∀ q ∈ s.unitPorts d u, s.pstate d q = psDisabled)
    (hroom : s.raisesOver (s.put (unitLoc d u 16) R.PU_MODE_MODE mode) d = false) :
    ∃ t : State, s.setMode d u mode = (t, some (okC 0)) ∧ t.unitMode d u = mode ∧ t.tails = s.tails ∧ t.servo = s.servo := by
  have hpower : PortKept powerKey (s.modeStored d u mode)
      ((((s.modeStored d u mode).unitRest d u).resvSync d).getD ((s.modeStored d u mode).unitRest d u)) :=
    (PortKept.unitRest _ d u).trans (.resvSync_getD _ d)
  have hall := (((PortKept.unitCleared s d u).trans (.put _ _ trivial)).trans (.sumsGone _ d u)).trans hpower.any
  refine ⟨_, State.setMode_stores hfree hroom, ?_, hall.tails, hall.servo⟩
  have hself : ((s.unitCleared d u).put (unitLoc d u 16) R.PU_MODE_MODE mode).unitMode d u = mode % 8 :=
    State.fld_put_self _ _ _ (by decide)
  have hstored : (s.modeStored d u mode).unitMode d u = mode % 8 :=
    ((PortKept.sumsGone (K := fun _ => False) _ d u).fld (fun h => h)).trans hself
  rw [State.unitMode, hpower.fld (not_powerKey_mode hd hu)]
  exact hstored.trans (Nat.mod_eq_of_lt hmode)

/-- PORT.SET FUNC 0 passes the operand check with that FUNC alone. -/
theorem func_of_setMode {n : Nat} {f : Flight} {s : State}
    (h : Starts (fun c => c.opcode == 0x30 && (c.opa % 16 == 0 || decide (7 ≤ c.opa % 16))) mPortSet n f s) :
    f.cmd.opa % 16 = 0 := by
  have hform := h.form
  have hbad : portSetBad f.cmd s = none := h.operands
  simp only [Bool.and_eq_true, Bool.or_eq_true, beq_iff_eq, decide_eq_true_eq] at hform
  by_contra hne
  have hbig : 7 ≤ f.cmd.opa % 16 := hform.2.resolve_left hne
  have hsmall : f.cmd.opa % 16 < 16 := Nat.mod_lt _ (by decide)
  unfold portSetBad at hbad
  dsimp only at hbad
  generalize f.cmd.opa % 16 = k at *
  interval_cases k <;> simp at hbad

theorem mPortSet_mode {f : Flight} {s : State} (h : f.cmd.opa % 16 = 0) :
    mPortSet.run f f.cmd.loc s = s.setMode (locPort f.cmd.loc).1 (locUnit f.cmd.loc) (f.cmd.opb % 8) := by
  show (if f.cmd.opa % 16 = 0 then _ else _) = _
  rw [if_pos h]
  rfl

theorem isFunc_opa {op fn : Nat} {c : Cmd} (h : isFunc op fn c = true) : c.opa % 16 = fn := by
  simp only [isFunc, Bool.and_eq_true, beq_iff_eq] at h
  exact h.2

theorem State.absent_of_present {s : State} {loc : Nat} (h : s.present (locPort loc).1 (locPort loc).2 = true) :
    s.absent loc = false := by
  simp [State.absent, h]

theorem mPortSet_rate {f : Flight} {s : State} (h : f.cmd.opa % 16 = 1)
    (hpresent : s.present (locPort f.cmd.loc).1 (locPort f.cmd.loc).2 = true) :
    mPortSet.run f f.cmd.loc s = s.setRate (locPort f.cmd.loc).1 (locPort f.cmd.loc).2 (bit f.cmd.opb 0) := by
  simp only [mPortSet, h, State.absent_of_present hpresent, Nat.one_ne_zero, if_false, Bool.false_eq_true]

theorem mPortSet_span {f : Flight} {s : State} (h : f.cmd.opa % 16 = 2)
    (hpresent : s.present (locPort f.cmd.loc).1 (locPort f.cmd.loc).2 = true) :
    mPortSet.run f f.cmd.loc s = s.setSpan (locPort f.cmd.loc).1 (locPort f.cmd.loc).2 (f.cmd.opb % 2 ^ 17) := by
  simp only [mPortSet, h, State.absent_of_present hpresent, OfNat.ofNat_ne_zero, if_false, Bool.false_eq_true]

/-! ### PORT.SET FUNC 1 and 2 (R235, R290) -/

/-- A revision of the windows changes the port's credit counters alone. -/
theorem State.windowSync_rest (s : State) (d p : Nat) : { s.windowSync d p with ports := s.ports } = s := by
  unfold State.windowSync
  generalize s.credited d p = cs
  induction cs generalizing s with
  | nil => rfl
  | cons c cs ih =>
    have hone : { s.creditSync d p c with ports := s.ports } = s := by
      unfold State.creditSync
      dsimp only
      split <;> rfl
    calc { (c :: cs).foldl (fun s c => s.creditSync d p c) s with ports := s.ports }
      _ = { { cs.foldl (fun s c => s.creditSync d p c) (s.creditSync d p c) with
              ports := (s.creditSync d p c).ports } with ports := s.ports } := rfl
      _ = s := by rw [ih, hone]

theorem State.span_creditSync (s : State) (d p c : Nat) : ((s.creditSync d p c).port d p).span = (s.port d p).span := by
  unfold State.creditSync State.putLimit State.setCredit
  dsimp only
  split
  · rw [State.port_setPort_self]
  · rfl

theorem State.span_windowSync (s : State) (d p : Nat) : ((s.windowSync d p).port d p).span = (s.port d p).span := by
  unfold State.windowSync
  generalize s.credited d p = cs
  induction cs generalizing s with
  | nil => rfl
  | cons c cs ih => exact (ih _).trans (s.span_creditSync d p c)

theorem State.asymSync_rest (s : State) (d p : Nat) : { s.asymSync d p with regs := s.regs, ports := s.ports } = s := by
  unfold State.asymSync
  dsimp only
  split <;> rfl

theorem State.span_asymSync (s : State) (d p : Nat) : ((s.asymSync d p).port d p).span = (s.port d p).span := by
  unfold State.asymSync
  dsimp only
  split
  · rfl
  · show ((s.setPort d p { s.port d p with relka := { s.relka d p with meas := [] } }).port d p).span = _
    rw [State.port_setPort_self]

theorem State.rate_of_regs {s t : State} (h : t.regs = s.regs) (hpart : t.part = s.part) (d p : Nat) : t.rate d p = s.rate d p := by
  have hreg : ∀ l o, t.reg l o = s.reg l o := fun l o => by rw [State.reg, h, hpart, State.reg]
  have hfld : ∀ l f, t.fld l f = s.fld l f := fun l f => State.fld_of_reg (hreg l f.off)
  unfold State.rate State.unitMode
  rw [hfld, hfld]

/-- The rate of a service port is its own bit of its unit's register. -/
theorem State.rate_svc (s : State) {d p : Nat} (h : 64 ≤ p) (hp : p < 72) (v : Bool) :
    (s.putB (unitLoc d 16 16) ⟨0, 16 + (p - 64), 1⟩ v).rate d p = if v then 25000 else 10000 := by
  have hbit : bit ((s.putB (unitLoc d 16 16) ⟨0, 16 + (p - 64), 1⟩ v).fld (unitLoc d 16 16) R.PU_MODE_SVC_25G) (p - 64) = v := by
    have hself : (s.putB (unitLoc d 16 16) ⟨0, 16 + (p - 64), 1⟩ v).fld (unitLoc d 16 16) ⟨0, 16 + (p - 64), 1⟩ = b2n v % 2 ^ 1 :=
      State.fld_put_self _ _ _ (by dsimp only; omega)
    generalize s.putB (unitLoc d 16 16) ⟨0, 16 + (p - 64), 1⟩ v = t at hself ⊢
    have hfield : (t.fld (unitLoc d 16 16) R.PU_MODE_SVC_25G).testBit (p - 64) =
        (t.reg (unitLoc d 16 16) 0).toNat.testBit (16 + (p - 64)) := by
      simp only [State.fld, fget, bits, R.PU_MODE_SVC_25G, Nat.testBit_mod_two_pow, Nat.testBit_div_two_pow]
      rw [Nat.add_comm]
      simp only [Bool.and_eq_right_iff_imp, decide_eq_true_eq]
      omega
    rw [bit_eq_testBit, hfield, ← bit_eq_testBit]
    have hiff := bit_iff_fget (t.reg (unitLoc d 16 16) 0) (16 + (p - 64))
    have hval : fget (t.reg (unitLoc d 16 16) 0) (16 + (p - 64)) 1 = b2n v % 2 ^ 1 := hself
    rw [hval] at hiff
    cases v
    · simpa [b2n] using hiff
    · simpa [b2n] using hiff
  simp only [State.rate, h, if_true, hbit]

/-- FUNC 1 within the limit on a DISABLED service port. -/
theorem State.setRate_spec {s : State} {d p : Nat} {v : Bool} (h : 64 ≤ p) (hp : p < 72) (hstate : s.pstate d p = psDisabled)
    (hroom : s.raisesOver (s.putB (unitLoc d 16 16) ⟨0, 16 + (p - 64), 1⟩ v) d = false) :
    ∃ u : State, s.setRate d p v = (u, some (okC 0)) ∧ u.rate d p = (if v then 25000 else 10000) ∧
      { u with regs := s.regs, ports := s.ports } = s := by
  have hrest := (s.putB (unitLoc d 16 16) ⟨0, 16 + (p - 64), 1⟩ v).windowSync_rest d p
  refine ⟨(s.putB (unitLoc d 16 16) ⟨0, 16 + (p - 64), 1⟩ v).windowSync d p, ?_, ?_, ?_⟩
  · unfold State.setRate
    rw [if_neg (by simp [hstate])]
    dsimp only
    rw [hroom]
    rfl
  · have hregs := (congrArg State.regs hrest :)
    have hpart := (congrArg State.part hrest :)
    exact (State.rate_of_regs hregs hpart d p).trans (State.rate_svc s h hp v)
  · exact congrArg (fun t : State => { t with regs := s.regs }) hrest

/-- FUNC 2 within the limit and the range. -/
theorem State.setSpan_spec {s : State} {d p span : Nat} (hrange : ¬(44000 < span ∧ s.pflag d p R.RLK_CTRL_EN = true))
    (hroom : s.raisesOver (s.setPort d p { s.port d p with span := span }) d = false) :
    ∃ u : State, s.setSpan d p span = (u, some (okC 0)) ∧ (u.port d p).span = span ∧
      { u with regs := s.regs, ports := s.ports } = s := by
  have hasym := ((s.setPort d p { s.port d p with span := span }).windowSync d p).asymSync_rest d p
  have hrest := (s.setPort d p { s.port d p with span := span }).windowSync_rest d p
  refine ⟨((s.setPort d p { s.port d p with span := span }).windowSync d p).asymSync d p, ?_, ?_, ?_⟩
  · unfold State.setSpan
    dsimp only
    rw [if_neg hrange, hroom]
    rfl
  · rw [State.span_asymSync, State.span_windowSync, State.port_setPort_self]
  · have hports := congrArg (fun t : State => { t with regs := s.regs, ports := s.ports }) hasym
    exact hports.trans (congrArg (fun t : State => { t with regs := s.regs, ports := s.ports }) hrest)

/-- The operand check of FUNC 2 keeps a span beyond 44,000 m from a Relka port. -/
theorem span_of_operands {n : Nat} {f : Flight} {s : State} (h : Starts (isFunc 0x30 2) mPortSet n f s)
    (hpresent : s.present (locPort f.cmd.loc).1 (locPort f.cmd.loc).2 = true) :
    ¬(44000 < f.cmd.opb % 2 ^ 17 ∧ s.pflag (locPort f.cmd.loc).1 (locPort f.cmd.loc).2 R.RLK_CTRL_EN = true) := by
  have hbad : portSetBad f.cmd s = none := h.operands
  have hfirst : s.firstLoc f.cmd = f.cmd.loc := State.firstLoc_one (h.die_ne (by
    have hop := h.form
    simp only [isFunc, Bool.and_eq_true, beq_iff_eq] at hop
    rw [hop.1]
    decide))
  simp only [portSetBad, hfirst, isFunc_opa h.form, rangeBad] at hbad
  intro hboth
  rw [hpresent, hboth.2] at hbad
  obtain ⟨hlong, -⟩ := hboth
  simp only [Bool.and_true, ite_eq_right_iff, reduceCtorEq, imp_false, Bool.or_eq_true, decide_eq_true_eq] at hbad
  omega

/-! ### PORT.UP and PORT.DOWN (R241, R245, R246, R346, R418) -/

theorem mPortUp_run {f : Flight} {s : State} (hpresent : s.present (locPort f.cmd.loc).1 (locPort f.cmd.loc).2 = true)
    (hstate : s.pstate (locPort f.cmd.loc).1 (locPort f.cmd.loc).2 = psDisabled) :
    mPortUp.run f f.cmd.loc s = s.unitGate f (locPort f.cmd.loc).1 (portUnit (locPort f.cmd.loc).2)
      (fun s => s.portUp (locPort f.cmd.loc).1 (locPort f.cmd.loc).2) := by
  simp [mPortUp, State.absent_of_present hpresent, hstate]

theorem State.startState_congr {s t : State} {d p : Nat} (hloop : t.pfld d p R.PORT_STAT_LOOP = s.pfld d p R.PORT_STAT_LOOP)
    (han : t.pfld d p R.PORT_LINK_CFG_AN_EN = s.pfld d p R.PORT_LINK_CFG_AN_EN) : t.startState d p = s.startState d p := by
  have hflag : t.pflag d p R.PORT_LINK_CFG_AN_EN = s.pflag d p R.PORT_LINK_CFG_AN_EN := congrArg (· == 1) han
  unfold State.startState
  rw [hloop, hflag]

section
variable {d p : Nat} (hd : d < 4) (hp : p < 72)
include hd hp

/-- The effect of PORT.UP: the transmitter drives, and the port is in its start state. -/
theorem State.portUp_spec (s : State) : (s.portUp d p).pflag d p R.PORT_STAT_TX_ON = true ∧
    (s.portUp d p).pstate d p = s.startState d p := by
  have hlanes : PortKept (besideStat d p) s
      ((s.portLanes d p).foldl (fun s l => s.put (laneLoc d (portUnit p) l) R.LANE_STAT_TX_SHORT 0) s) :=
    .foldl_mem (fun t l hl => .lanePut d p t _ _ _ (portLanes_lt s d hp l hl) _ (by decide)) s
  unfold State.portUp
  generalize (s.portLanes d p).foldl (fun s l => s.put (laneLoc d (portUnit p) l) R.LANE_STAT_TX_SHORT 0) s = t at hlanes
  refine ⟨?_, ?_⟩
  · have h : (t.pput d p R.PORT_STAT_TX_ON 1).pfld d p R.PORT_STAT_TX_ON = 1 := State.fld_put_self _ _ _ (by decide)
    exact State.flag_iff.2 ((State.pfld_setPState _ _ _ _ (by decide)).trans h)
  · have hsame : t.startState d p = s.startState d p :=
      State.startState_congr (hlanes.pfld hd hp (by decide)) (hlanes.pfld hd hp (by decide))
    dsimp only
    rw [State.pstate_setPState, hsame]
    unfold State.startState
    dsimp only
    split <;> rfl

/-- Waking the unit leaves the port's start state. -/
theorem State.startState_unitOn (s : State) (e u : Nat) : (s.unitOn e u).startState d p = s.startState d p := by
  have hkept := (PortKept.unitOn s e u).mono (fun _ => besideStat_power (d := d) (p := p))
  exact State.startState_congr (hkept.pfld hd hp (by decide)) (hkept.pfld hd hp (by decide))

/-- The effect of PORT.DOWN. -/
theorem State.portDown_spec (s : State) : ((((s.endTx d p).setCause d p 6).disable d p).pstate d p = psDisabled) ∧
    (((s.endTx d p).setCause d p 6).disable d p).pfld d p R.PORT_STAT_DOWN_CAUSE = 6 ∧
    (((s.endTx d p).setCause d p 6).disable d p).pflag d p R.PORT_STAT_TX_ON = false ∧
    (((s.endTx d p).setCause d p 6).disable d p).pfld d p R.PORT_STAT_LOOP = 0 ∧
    (((s.endTx d p).setCause d p 6).disable d p).dlyValid d p = false := by
  generalize s.endTx d p = t
  refine ⟨State.pstate_disable hd hp _, ?_, ?_, State.loop_disable hd hp _, ?_⟩
  · rw [State.pfld_disable hd hp _ (by decide) (by decide) (by decide) (by decide),
      State.pfld_portTo hd hp _ _ (by decide) (by decide) (by decide)]
    exact State.fld_put_self _ _ _ (by decide)
  · exact State.flag_false_of (State.tx_disable hd hp _)
  · exact State.flag_false_of (State.dlyValid_disable hd hp _)

end

theorem Starts.conflict {form : Cmd → Bool} {m : Meaning} {n k : Nat} {f : Flight} {s : State} (h : Starts form m n f s)
    (hrun : m.run f f.cmd.loc s = (s, some (conflictC k))) :
    Sys2Proof.Machine.startRow s n form m = .next (s.complete n { status := stConflict, detail := k % 256 }) :=
  h.startRow_completes hrun (show stConflict ≠ stDenied by decide)

/-- An effect that completes OK. -/
theorem Starts.ok {form : Cmd → Bool} {m : Meaning} {n k : Nat} {f : Flight} {s t : State} (h : Starts form m n f s)
    (hrun : m.run f f.cmd.loc s = (t, some (okC k))) :
    Sys2Proof.Machine.startRow s n form m = .next (t.complete n { status := stOk, result := k % 65536 }) :=
  h.startRow_completes hrun (show stOk ≠ stDenied by decide)

/-- Settles O24: each FUNC stores its own setting where the ports are DISABLED and the reservations fit; PORT.UP needs the
unit's tokens; PORT.DOWN clears whatever leads out of DISABLED. -/
theorem portModesPowerAndState : Obligations.PortModesPowerAndState := by
  unfold Obligations.PortModesPowerAndState
  refine ⟨fun n f s => ⟨fun hstarts => ⟨fun q hq => ?busy, fun hfree => ⟨fun hover => ?limit, fun hroom hd hu => ?mode⟩⟩,
    fun hpresent hsvc hstarts => ⟨fun hbusy => ?rateBusy, fun hfree hroom hp => ?rate⟩,
    fun hpresent hstarts => ⟨fun hover => ?spanOver, fun hroom => ?span⟩⟩, fun n f s => ?power⟩
  case busy =>
    refine hstarts.conflict ((mPortSet_mode (func_of_setMode hstarts)).trans ?_)
    unfold State.setMode
    rw [hq]
  case limit =>
    refine hstarts.conflict (k := 0xF0) ((mPortSet_mode (func_of_setMode hstarts)).trans ?_)
    have hnone : (s.unitPorts (locPort f.cmd.loc).1 (locUnit f.cmd.loc)).find?
        (fun p => s.pstate (locPort f.cmd.loc).1 p != psDisabled) = none := by
      rw [List.find?_eq_none]
      intro q hq
      simp [hfree q hq]
    unfold State.setMode
    rw [hnone]
    dsimp only
    rw [hover]
    rfl
  case mode =>
    obtain ⟨t, hset, hmode, htails, hservo⟩ := State.setMode_spec hd hu (Nat.mod_lt _ (by decide)) hfree hroom
    exact ⟨t, hstarts.ok (k := 0) ((mPortSet_mode (func_of_setMode hstarts)).trans hset), hmode, htails, hservo⟩
  case rateBusy =>
    refine hstarts.conflict ((mPortSet_rate (isFunc_opa hstarts.form) hpresent).trans ?_)
    unfold State.setRate
    rw [if_pos hbusy]
  case rate =>
    obtain ⟨u, hset, hrate, hrest⟩ := State.setRate_spec hsvc hp hfree hroom
    exact ⟨u, hstarts.ok (k := 0) ((mPortSet_rate (isFunc_opa hstarts.form) hpresent).trans hset), hrate, hrest⟩
  case spanOver =>
    refine hstarts.conflict (k := 0xF0) ((mPortSet_span (isFunc_opa hstarts.form) hpresent).trans ?_)
    unfold State.setSpan
    dsimp only
    rw [if_neg (span_of_operands hstarts hpresent), hover]
    rfl
  case span =>
    obtain ⟨u, hset, hspan, hrest⟩ := State.setSpan_spec (span_of_operands hstarts hpresent) hroom
    exact ⟨u, hstarts.ok (k := 0) ((mPortSet_span (isFunc_opa hstarts.form) hpresent).trans hset), hspan, hrest⟩
  case power =>
    intro d p r hpresent
    obtain ⟨hd, hp⟩ := State.present_lt hpresent
    refine ⟨fun hstarts => ⟨fun hbusy => ?_, fun hfree hpow => ?_, fun hfree hoff hno hbg => ?_⟩,
      fun hstarts => ⟨fun hfree => ?_, fun hbusy => ?_⟩⟩
    · refine hstarts.conflict ?_
      simp only [mPortUp, State.absent_of_present hpresent, Bool.false_eq_true, if_false]
      exact if_pos hbusy
    · have hgate : s.unitGate f d (portUnit p) (fun s => s.portUp d p) =
          ((if s.unitPow d (portUnit p) ≠ 0 then s else s.unitOn d (portUnit p)).portUp d p, some (okC 0)) := by
        unfold State.unitGate
        dsimp only
        by_cases hon : s.unitPow d (portUnit p) ≠ 0
        · rw [if_pos hon, if_pos hon]
        · have hgrant : s.refuse (s.unitReq f d (portUnit p)) (s.ahead (s.unitReq f d (portUnit p))) = [] := by
            have := hpow.resolve_left hon
            rwa [show r = s.unitReq f d (portUnit p) by simp only [r, State.unitReq, hstarts.num]] at this
          rw [if_neg hon, if_neg hon, if_pos hgrant]
      refine ⟨_, hstarts.ok (k := 0) ((mPortUp_run hpresent hfree).trans hgate), (State.portUp_spec hd hp _).1, ?_⟩
      rw [(State.portUp_spec hd hp _).2]
      split
      · rfl
      · exact State.startState_unitOn hd hp s _ _
    · refine ⟨deniedC (s.refuse r (s.ahead r)) false, rfl, ?_⟩
      have hreq : s.unitReq f d (portUnit p) = r := by simp only [r, State.unitReq, hstarts.num]
      have hgate : s.unitGate f d (portUnit p) (fun s => s.portUp d p) = (s, some (deniedC (s.refuse r (s.ahead r)) false)) := by
        unfold State.unitGate
        dsimp only
        rw [if_neg (by simpa using hoff), hreq, if_neg hno]
      show startRow s n (isOp 0x31) mPortUp = _
      rw [hstarts.startRow, (mPortUp_run hpresent hfree).trans hgate, Meaning.finish_completes rfl (.inl hbg), hstarts.num]
    · refine hstarts.ok (k := 0) ?_
      simp only [mPortDown, State.absent_of_present hpresent, Bool.false_eq_true, if_false]
      exact if_pos hfree
    · refine ⟨_, hstarts.ok (t := ((s.endTx d p).setCause d p 6).disable d p) (k := s.pstate d p) ?_, State.portDown_spec hd hp s⟩
      simp only [mPortDown, State.absent_of_present hpresent, Bool.false_eq_true, if_false]
      exact if_neg hbusy

end Sys2Proof.Machine
end

section
/-! PROOFS. PORT.LOOP, PORT.PRBS and PORT.INJECT (R241, R248 to R252). -/

namespace Sys2Proof.Machine

/-! ### PORT.LOOP (R251, R252) -/

section
variable {d p : Nat} (hd : d < 4) (hp : p < 72)
include hd hp

theorem State.pstate_enterUp (s : State) : (s.enterUp d p).pstate d p = psUp := by
  have hkept : PortKept (besideStat d p) (s.setPState d p psUp) (s.enterUp d p) := by
    unfold State.enterUp
    dsimp only
    exact ((PortKept.linkEvent d p _ d p _ _).trans (.sendInits d p _)).trans (.ite _ (.refl _) (.endHold d p _))
  rw [State.pstate, hkept.pfld hd hp (by decide)]
  exact s.pstate_setPState d p psUp

theorem State.pfld_enterUp (s : State) {f : Fld} (hf : f.off < 0x10) (h : R.PORT_STAT_STATE.apart f = true) :
    (s.enterUp d p).pfld d p f = s.pfld d p f := by
  have hkept : PortKept (besideStat d p) (s.setPState d p psUp) (s.enterUp d p) := by
    unfold State.enterUp
    dsimp only
    exact ((PortKept.linkEvent d p _ d p _ _).trans (.sendInits d p _)).trans (.ite _ (.refl _) (.endHold d p _))
  rw [hkept.pfld hd hp hf]
  exact s.pfld_setPState d p psUp h

/-- The state that a loop depth leads to (R251). -/
def loopState (depth : Nat) : Nat := if depth = 1 then psUp else if depth ≤ 3 then psSignal else psTest

theorem State.loopOn_spec (s : State) {depth : Nat} (h1 : 1 ≤ depth) (h5 : depth ≤ 5) :
    (s.loopOn d p depth).pfld d p R.PORT_STAT_LOOP = depth ∧
    ((s.loopOn d p depth).pflag d p R.PORT_STAT_TX_ON = true ↔ depth ≠ 3) ∧
    (s.loopOn d p depth).pstate d p = loopState depth := by
  have hloop : ((s.pput d p R.PORT_STAT_LOOP depth).pput d p R.PORT_STAT_TX_ON (b2n (depth != 3))).pfld d p R.PORT_STAT_LOOP
      = depth % 8 :=
    (State.fld_put_apart _ _ _ (by decide)).trans (State.fld_put_self _ _ _ (by decide))
  have htx : ((s.pput d p R.PORT_STAT_LOOP depth).pput d p R.PORT_STAT_TX_ON (b2n (depth != 3))).pfld d p R.PORT_STAT_TX_ON
      = b2n (depth != 3) % 2 := State.fld_put_self _ _ _ (by decide)
  unfold State.loopOn
  dsimp only
  generalize (s.pput d p R.PORT_STAT_LOOP depth).pput d p R.PORT_STAT_TX_ON (b2n (depth != 3)) = t at hloop htx
  have hup := fun f hf ha => State.pfld_enterUp hd hp t (f := f) hf ha
  have hset := fun st f ha => State.pfld_setPState t d p st (f := f) ha
  have hflag : ∀ u : State, u.pfld d p R.PORT_STAT_TX_ON = t.pfld d p R.PORT_STAT_TX_ON →
      (u.pflag d p R.PORT_STAT_TX_ON = true ↔ depth ≠ 3) := by
    intro u hu
    rw [State.pflag, State.flag_iff]
    show u.pfld d p R.PORT_STAT_TX_ON = 1 ↔ depth ≠ 3
    rw [hu, htx]
    by_cases h3 : depth = 3 <;> simp [h3, b2n]
  have hcases : depth = 1 ∨ depth = 2 ∨ depth = 3 ∨ depth = 4 ∨ depth = 5 := by omega
  obtain rfl | rfl | rfl | rfl | rfl := hcases
  · exact ⟨(hup _ (by decide) (by decide)).trans hloop, hflag _ (hup _ (by decide) (by decide)), t.pstate_enterUp hd hp⟩
  · exact ⟨(hset _ _ (by decide)).trans hloop, hflag _ (hset _ _ (by decide)), t.pstate_setPState d p _⟩
  · exact ⟨(hset _ _ (by decide)).trans hloop, hflag _ (hset _ _ (by decide)), t.pstate_setPState d p _⟩
  · exact ⟨(hset _ _ (by decide)).trans hloop, hflag _ (hset _ _ (by decide)), t.pstate_setPState d p _⟩
  · exact ⟨(hset _ _ (by decide)).trans hloop, hflag _ (hset _ _ (by decide)), t.pstate_setPState d p _⟩

end

theorem State.unitGate_on {s : State} {d u : Nat} (f : Flight) (act : State → State) (h : s.unitPow d u ≠ 0) :
    s.unitGate f d u act = (act s, some (okC 0)) := by
  unfold State.unitGate
  exact if_pos h

/-! ### The registers of a lane (R248, R249) -/

/-- What an operation leaves of a unit's mode, so that the lanes have the same ports. -/
theorem State.portLanes_congr {s t : State} {d : Nat} (h : ∀ u, t.unitMode d u = s.unitMode d u) (p : Nat) :
    t.portLanes d p = s.portLanes d p := by
  unfold State.portLanes
  rw [h]

theorem State.laneOwner_congr {s t : State} {d : Nat} (h : ∀ u, t.unitMode d u = s.unitMode d u) (u l : Nat) :
    t.laneOwner d u l = s.laneOwner d u l := by
  have hports : t.unitPorts d u = s.unitPorts d u := by
    unfold State.unitPorts
    rw [h]
  unfold State.laneOwner
  rw [hports]
  exact congrArg (fun g : Nat → Bool => (s.unitPorts d u).find? g) (funext fun p => by rw [State.portLanes_congr h])

/-- The port of a lane lies in the lane's unit. -/
theorem State.laneOwner_unit {s : State} {d u l p : Nat} (hu : u < 17) (h : s.laneOwner d u l = some p) :
    portUnit p = u ∧ p < 72 ∧ l ∈ s.portLanes d p := by
  have hmem := List.mem_of_find?_eq_some h
  have hlane := List.find?_some h
  refine ⟨?_, ?_, by simpa using hlane⟩
  · unfold State.unitPorts at hmem
    split at hmem
    · obtain ⟨i, hi, rfl⟩ := List.mem_map.1 hmem
      simp only [portUnit]
      rw [if_neg (by omega)]
      omega
    · obtain ⟨i, hi, rfl⟩ := List.mem_map.1 hmem
      have hi4 : i < 4 := List.mem_range.1 (List.mem_filter.1 hi).1
      simp only [portUnit]
      rw [if_pos (by omega)]
      omega
  · unfold State.unitPorts at hmem
    split at hmem
    · obtain ⟨i, hi, rfl⟩ := List.mem_map.1 hmem
      have := List.mem_range.1 hi
      omega
    · obtain ⟨i, hi, rfl⟩ := List.mem_map.1 hmem
      have hi4 : i < 4 := List.mem_range.1 (List.mem_filter.1 hi).1
      omega

/-- Registers of one lane's location. -/
def atLane (d u l k : Nat) : Prop := ∃ off, off < 16777216 ∧ k = regKey (laneLoc d u l) off

theorem PortKept.atLanePut (s : State) (d u l : Nat) {f : Fld} (v : Nat) (h : f.off < 16777216) :
    PortKept (atLane d u l) s (s.put (laneLoc d u l) f v) := .put s v ⟨_, h, rfl⟩

theorem PortKept.atLanePair (s : State) (d u l : Nat) {lo hi : Fld} (v : Nat) (h : lo.off < 16777216)
    (k : hi.off < 16777216) : PortKept (atLane d u l) s (s.putPair (laneLoc d u l) lo hi v) :=
  (PortKept.atLanePut s d u l _ h).trans (.atLanePut _ d u l _ k)

theorem PortKept.atLaneSync (s : State) (d u l least : Nat) : PortKept (atLane d u l) s (s.prbsSync d u l least) := by
  unfold State.prbsSync
  dsimp only
  split
  · exact .refl s
  · exact .ite _ (.refl s) (((PortKept.freeNat s).trans (.atLanePair _ d u l _ (by decide) (by decide))).trans (.setDie _ _ _))

theorem PortKept.atLaneUnlock (s : State) (d u l least : Nat) : PortKept (atLane d u l) s (s.prbsUnlock d u l least) :=
  (((PortKept.atLaneSync s d u l least).trans (.atLanePair _ d u l _ (by decide) (by decide))).trans (.setDie _ _ _)).trans
    (.atLanePut _ d u l _ (by decide))

theorem PortKept.atLaneStop (s : State) (d u l : Nat) : PortKept (atLane d u l) s (s.prbsStop d u l) :=
  ((PortKept.atLaneUnlock s d u l 0).trans (.atLanePut _ d u l _ (by decide))).trans (.atLanePut _ d u l _ (by decide))

theorem unitLoc_inj {d u v k m : Nat} (hu : u < 32) (hv : v < 32) (hk : k < 64) (hm : m < 64)
    (h : unitLoc d u k = unitLoc d v m) : u = v ∧ k = m := by
  unfold unitLoc cluLoc mkLoc at h
  split at h <;> split at h <;> omega

theorem laneLoc_lt {d u l : Nat} (hd : d < 4) (hu : u < 17) (hl : l < 8) : laneLoc d u l < 0xC000 := by
  unfold laneLoc unitLoc cluLoc mkLoc
  split <;> omega

theorem not_atLane_loc {d u l loc off : Nat} (hoff : off < 16777216) (h : loc ≠ laneLoc d u l) :
    ¬ atLane d u l (regKey loc off) := by
  rintro ⟨o, ho, hk⟩
  exact h (regKey_inj hoff ho hk).1

/-- A lane's registers leave the modes of the units. -/
theorem PortKept.mode_atLane {s t : State} {d u l : Nat} (hl : l < 8) (h : PortKept (atLane d u l) s t) (e v : Nat) :
    t.unitMode e v = s.unitMode e v := by
  refine h.fld (not_atLane_loc (by decide) fun heq => ?_)
  have hmode := unitLoc_sub e v (k := 16) (by decide)
  have hlane : laneLoc d u l % 64 = 8 + l := unitLoc_sub d u (by omega)
  rw [heq] at hmode
  omega

/-- A lane's registers leave those of the ports. -/
theorem PortKept.port_atLane {s t : State} {d u l e p : Nat} (hl : l < 8) (he : e < 4) (hp : p < 72)
    (h : PortKept (atLane d u l) s t) {f : Fld} (hf : f.off < 16777216) : t.pfld e p f = s.pfld e p f := by
  refine h.fld (not_atLane_loc hf fun heq => ?_)
  have hport := portLoc_sub e he p hp
  have hlane : laneLoc d u l % 64 = 8 + l := unitLoc_sub d u (by omega)
  rw [heq] at hport
  omega

/-- Stopping a lane clears its generator and its checker. -/
theorem State.gen_prbsStop (s : State) (d u l : Nat) : (s.prbsStop d u l).fld (laneLoc d u l) R.PRBS_STAT_GEN_ON = 0 := by
  unfold State.prbsStop
  exact (State.fld_put_apart _ _ _ (by decide)).trans (State.fld_put_self _ _ _ (by decide))

theorem State.chk_prbsStop (s : State) (d u l : Nat) : (s.prbsStop d u l).fld (laneLoc d u l) R.PRBS_STAT_CHK_ON = 0 := by
  unfold State.prbsStop
  exact State.fld_put_self _ _ _ (by decide)

/-- A generator or checker that is off stays off while other lanes are stopped. -/
theorem State.off_prbsStop {s : State} {d u l : Nat} (v k : Nat) {f : Fld} (hf : f = R.PRBS_STAT_GEN_ON ∨ f = R.PRBS_STAT_CHK_ON)
    (h : s.fld (laneLoc d u l) f = 0) : (s.prbsStop d v k).fld (laneLoc d u l) f = 0 := by
  by_cases hloc : laneLoc d u l = laneLoc d v k
  · rw [hloc]
    obtain rfl | rfl := hf
    · exact s.gen_prbsStop d v k
    · exact s.chk_prbsStop d v k
  · have hoff : f.off < 16777216 := by obtain rfl | rfl := hf <;> decide
    exact ((PortKept.atLaneStop s d v k).fld (not_atLane_loc hoff hloc)).trans h

/-! ### PORT.PRBS (R241, R248, R249) -/

/-- The checker of a lane starts: its counts at 0, unlocked. -/
def State.checkOn (s : State) (d u l : Nat) : State :=
  (((s.prbsUnlock d u l).putPair (laneLoc d u l) R.PRBS_ERR_LO_ERR R.PRBS_ERR_HI_ERR 0).putPair (laneLoc d u l)
    R.PRBS_BITS_LO_BITS R.PRBS_BITS_HI_BITS 0).put (laneLoc d u l) R.PRBS_STAT_CHK_ON 1

/-- What starting a pattern does at the lane itself. -/
def State.laneStart (s : State) (d u l fn pattern rate : Nat) (inv : Bool) : State :=
  let s := if bit fn 1 then s.checkOn d u l else s
  let s := if bit fn 0 then s.put (laneLoc d u l) R.PRBS_STAT_GEN_ON 1 else s
  let s := (s.put (laneLoc d u l) R.PRBS_STAT_PATTERN pattern).put (laneLoc d u l) R.PRBS_STAT_RATE rate
  let others := (s.die d).prbsInv.filter (· != 8 * u + l)
  s.setDie d { s.die d with prbsInv := if inv then (8 * u + l) :: others else others }

/-- What it does at the lane's port. -/
def State.ownerStart (s : State) (d u l : Nat) : State :=
  match s.laneOwner d u l with
  | some p => (if s.pstate d p = psDisabled then s.setPState d p psTest else s).prbsTx d u p
  | none => s

theorem State.prbsStart_eq (s : State) (d u l fn pattern rate : Nat) (inv : Bool) :
    s.prbsStart d u l fn pattern rate inv = (s.laneStart d u l fn pattern rate inv).ownerStart d u l := rfl

theorem PortKept.checkOn (s : State) (d u l : Nat) : PortKept (atLane d u l) s (s.checkOn d u l) :=
  (((PortKept.atLaneUnlock s d u l 0).trans (.atLanePair _ d u l _ (by decide) (by decide))).trans
    (.atLanePair _ d u l _ (by decide) (by decide))).trans (.atLanePut _ d u l _ (by decide))

theorem PortKept.laneStart (s : State) (d u l fn pattern rate : Nat) (inv : Bool) :
    PortKept (atLane d u l) s (s.laneStart d u l fn pattern rate inv) := by
  unfold State.laneStart
  dsimp only
  refine PortKept.trans ?_ (.setDie _ _ _)
  refine PortKept.trans ?_ ((PortKept.atLanePut _ d u l _ (by decide)).trans (.atLanePut _ d u l _ (by decide)))
  exact (PortKept.ite _ (.checkOn s d u l) (.refl s)).trans (.ite _ (.atLanePut _ d u l _ (by decide)) (.refl _))

/-- Registers of one port. -/
def atPort (d p k : Nat) : Prop := ∃ off, off < 16777216 ∧ k = regKey (portLoc d p) off

theorem PortKept.setPState (s : State) (d p st : Nat) : PortKept (atPort d p) s (s.setPState d p st) := by
  unfold State.setPState
  dsimp only
  have h : PortKept (atPort d p) s ((s.setPort d p { s.port d p with enteredAt := s.now }).pput d p R.PORT_STAT_STATE st) :=
    (PortKept.setPort s _ _ _).trans (.put _ _ ⟨_, by decide, rfl⟩)
  exact .ite _ (h.trans (.send _ _)) h

theorem PortKept.prbsTx (s : State) (d u p : Nat) : PortKept (atPort d p) s (s.prbsTx d u p) := by
  unfold State.prbsTx
  exact .ite _ (.put s _ ⟨_, by decide, rfl⟩) (.refl s)

theorem State.dies_setPState (s : State) (d p st : Nat) : (s.setPState d p st).dies = s.dies := by
  unfold State.setPState
  dsimp only
  split <;> rfl

theorem State.dies_prbsTx (s : State) (d u p : Nat) : (s.prbsTx d u p).dies = s.dies := by
  unfold State.prbsTx
  split <;> rfl

/-- The port of a started lane is in TEST; what it was is no concern of the lane. -/
theorem State.ownerStart_spec {s : State} {d u l : Nat} (hd : d < 4) (hu : u < 17)
    (hfree : (s.laneOwner d u l).all (fun p => s.pstate d p == psDisabled) = true) :
    (∀ k < 8, ∀ f : Fld, f.off < 16777216 → (s.ownerStart d u l).fld (laneLoc d u k) f = s.fld (laneLoc d u k) f) ∧
    (s.ownerStart d u l).dies = s.dies ∧ (s.ownerStart d u l).tails = s.tails ∧
    ∀ p, s.laneOwner d u l = some p → (s.ownerStart d u l).pstate d p = psTest := by
  unfold State.ownerStart
  cases howner : s.laneOwner d u l with
  | none => exact ⟨fun _ _ _ _ => rfl, rfl, rfl, fun p hp => absurd hp (by simp)⟩
  | some p =>
    obtain ⟨-, hp, -⟩ := State.laneOwner_unit hu howner
    have hstate : s.pstate d p = psDisabled := by simpa [howner] using hfree
    dsimp only
    rw [if_pos hstate]
    have hkept := (PortKept.setPState s d p psTest).trans (.prbsTx _ d u p)
    refine ⟨fun k hk f hf => hkept.fld ?_, (State.dies_prbsTx _ _ _ _).trans (s.dies_setPState d p _), hkept.tails, ?_⟩
    · rintro ⟨off, hoff, hkey⟩
      have hloc := (regKey_inj hf hoff hkey).1
      have hport := portLoc_sub d hd p hp
      have hlane : laneLoc d u k % 64 = 8 + k := unitLoc_sub d u (by omega)
      omega
    · intro q hq
      obtain rfl := Option.some.inj hq
      have hset : (s.setPState d p psTest).pstate d p = psTest := s.pstate_setPState d p _
      generalize s.setPState d p psTest = t at hset
      unfold State.prbsTx
      split
      · exact (State.fld_put_apart _ _ _ (by decide)).trans hset
      · exact hset

/-- A die's record is that of the table of dies. (As an equation and no definitional one: what the registers hold is not to
be computed.) -/
theorem State.die_congr {s t : State} (h : t.dies = s.dies) (d : Nat) : t.die d = s.die d := by
  unfold State.die
  rw [h]

@[simp] theorem State.die_put (s : State) (loc : Nat) (f : Fld) (v d : Nat) : (s.put loc f v).die d = s.die d :=
  State.die_congr rfl d

@[simp] theorem State.die_putPair (s : State) (loc : Nat) (lo hi : Fld) (v d : Nat) :
    (s.putPair loc lo hi v).die d = s.die d := State.die_congr rfl d

@[simp] theorem State.die_freeNat (s : State) (d : Nat) : s.freeNat.2.die d = s.die d := State.die_congr rfl d

/-- Counting errors leaves the lock. -/
theorem State.lock_prbsSync (s : State) (d u l least : Nat) :
    ((s.prbsSync d u l least).die d).prbsLock = (s.die d).prbsLock := by
  unfold State.prbsSync
  dsimp only
  split
  · rfl
  · split
    · rfl
    · simp only [State.die_setDie_self, State.die_putPair, State.die_freeNat]

/-- A checker that stops counting has no lock. -/
theorem State.lock_prbsUnlock {s : State} {d u l : Nat} (least : Nat) (hwf : Tab.wf (s.die d).prbsLock = true) :
    Tab.get? ((s.prbsUnlock d u l least).die d).prbsLock (8 * u + l) = none := by
  have hsync := s.lock_prbsSync d u l least
  unfold State.prbsUnlock
  generalize s.prbsSync d u l least = t at hsync
  dsimp only
  rw [State.die_put, State.die_setDie_self, State.die_putPair]
  dsimp only
  rw [hsync]
  exact Tab.get?_del_self _ hwf

/-- A lane whose checker starts has counted nothing and is not locked. -/
theorem State.checkOn_spec {s : State} {d u l : Nat} (hwf : Tab.wf (s.die d).prbsLock = true) :
    (s.checkOn d u l).fld (laneLoc d u l) R.PRBS_STAT_CHK_ON = 1 ∧
    (s.checkOn d u l).fld (laneLoc d u l) R.PRBS_STAT_CHK_LOCK = 0 ∧
    (s.checkOn d u l).pair (laneLoc d u l) R.PRBS_ERR_LO_ERR R.PRBS_ERR_HI_ERR = 0 ∧
    (s.checkOn d u l).pair (laneLoc d u l) R.PRBS_BITS_LO_BITS R.PRBS_BITS_HI_BITS = 0 ∧
    Tab.get? ((s.checkOn d u l).die d).prbsLock (8 * u + l) = none := by
  have hput : ∀ (t : State) (f : Fld) (v : Nat), f.lo + f.len ≤ 32 → (t.put (laneLoc d u l) f v).fld (laneLoc d u l) f =
      v % 2 ^ f.len := fun t f v h => State.fld_put_self _ _ _ h
  have hlock : (s.prbsUnlock d u l).fld (laneLoc d u l) R.PRBS_STAT_CHK_LOCK = 0 := hput _ _ _ (by decide)
  have hdie := State.lock_prbsUnlock (u := u) (l := l) 0 hwf
  unfold State.checkOn State.putPair State.pair
  generalize s.prbsUnlock d u l = t at hlock hdie
  simp (disch := decide) only [State.fld_put_apart, State.fld_put_self, hlock, State.die_put, hdie]
  exact ⟨rfl, trivial, rfl, rfl, trivial⟩

/-- What starting a pattern leaves at the lane. -/
theorem State.laneStart_spec {s : State} {d u l fn pattern rate : Nat} {inv : Bool}
    (hwf : Tab.wf (s.die d).prbsLock = true) :
    let t := s.laneStart d u l fn pattern rate inv
    let loc := laneLoc d u l
    (bit fn 0 = true → t.fld loc R.PRBS_STAT_GEN_ON = 1) ∧
    (bit fn 1 = true → t.fld loc R.PRBS_STAT_CHK_ON = 1 ∧ t.fld loc R.PRBS_STAT_CHK_LOCK = 0 ∧
      t.pair loc R.PRBS_ERR_LO_ERR R.PRBS_ERR_HI_ERR = 0 ∧ t.pair loc R.PRBS_BITS_LO_BITS R.PRBS_BITS_HI_BITS = 0 ∧
      Tab.get? (t.die d).prbsLock (8 * u + l) = none) ∧
    t.fld loc R.PRBS_STAT_PATTERN = pattern % 16 ∧ t.fld loc R.PRBS_STAT_RATE = rate % 8 ∧
    (8 * u + l ∈ (t.die d).prbsInv ↔ inv = true) := by
  dsimp only
  have hchk := State.checkOn_spec (u := u) (l := l) hwf
  unfold State.laneStart
  dsimp only
  have h1 : bit fn 1 = true → (if bit fn 1 then s.checkOn d u l else s) = s.checkOn d u l := fun h => if_pos h
  generalize hs1 : (if bit fn 1 then s.checkOn d u l else s) = s1 at h1
  have hfld : ∀ (g : Fld) (t : State) (x : Die), (t.setDie d x).fld (laneLoc d u l) g = t.fld (laneLoc d u l) g :=
    fun _ _ _ => rfl
  have hgen : ∀ g : Fld, R.PRBS_STAT_GEN_ON.apart g = true →
      (if bit fn 0 then s1.put (laneLoc d u l) R.PRBS_STAT_GEN_ON 1 else s1).fld (laneLoc d u l) g =
        s1.fld (laneLoc d u l) g := by
    intro g hg
    split
    · exact State.fld_put_apart _ _ _ hg
    · rfl
  have hdie : (if bit fn 0 then s1.put (laneLoc d u l) R.PRBS_STAT_GEN_ON 1 else s1).die d = s1.die d := by
    split
    · exact State.die_put _ _ _ _ _
    · rfl
  have hon : bit fn 0 = true → (if bit fn 0 then s1.put (laneLoc d u l) R.PRBS_STAT_GEN_ON 1 else s1).fld (laneLoc d u l)
      R.PRBS_STAT_GEN_ON = 1 := by
    intro h
    rw [if_pos h]
    exact State.fld_put_self _ _ _ (by decide)
  generalize (if bit fn 0 then s1.put (laneLoc d u l) R.PRBS_STAT_GEN_ON 1 else s1) = s2 at hgen hdie hon
  refine ⟨fun h => ?_, fun h => ?_, ?_, ?_, ?_⟩
  · rw [hfld]
    simp (disch := decide) only [State.fld_put_apart, hon h]
  · rw [h1 h] at hgen hdie
    unfold State.pair at hchk ⊢
    simp (disch := decide) only [hfld, State.fld_put_apart, hgen, State.die_setDie_self, State.die_put, hdie]
    exact hchk
  · rw [hfld]
    simp (disch := decide) only [State.fld_put_apart, State.fld_put_self]
    rfl
  · rw [hfld]
    simp (disch := decide) only [State.fld_put_self]
    rfl
  · rw [State.die_setDie_self]
    dsimp only
    cases inv <;> simp

theorem not_atPort_lane {d u l e p off : Nat} (he : e < 4) (hp : p < 72) (hl : l < 8) (hoff : off < 16777216) :
    ¬ atPort e p (regKey (laneLoc d u l) off) := by
  rintro ⟨o, ho, hkey⟩
  have hloc := (regKey_inj hoff ho hkey).1
  have hport := portLoc_sub e he p hp
  have hlane : laneLoc d u l % 64 = 8 + l := unitLoc_sub d u (by omega)
  omega

/-- A generator or checker that is off stays off while a port that is not in UP is DISABLED. -/
theorem State.off_disable {t : State} {d u l p : Nat} {f : Fld} (hd : d < 4) (hu : u < 17) (hp : p < 72) (hl : l < 8)
    (hf : f = R.PRBS_STAT_GEN_ON ∨ f = R.PRBS_STAT_CHK_ON) (hstate : t.pstate d p ≠ psUp)
    (hoff : t.fld (laneLoc d u l) f = 0) : (t.disable d p).fld (laneLoc d u l) f = 0 := by
  have hat : f.off = 8 := by obtain rfl | rfl := hf <;> rfl
  have hport : ∀ {v w : State}, PortKept (atPort d p) v w → w.fld (laneLoc d u l) f = v.fld (laneLoc d u l) f :=
    fun h => h.fld (not_atPort_lane hd hp hl (by rw [hat]; decide))
  have hput : ∀ (v : State) (g : Fld) (x : Nat), g.off < 16777216 → (v.pput d p g x).fld (laneLoc d u l) f =
      v.fld (laneLoc d u l) f := fun v g x hg => hport (.put v x ⟨_, hg, rfl⟩)
  have hlanes : ∀ (ks : List Nat) (v : State), v.fld (laneLoc d u l) f = 0 →
      (ks.foldl (fun s k => s.prbsStop d (portUnit p) k) v).fld (laneLoc d u l) f = 0 := by
    intro ks
    induction ks with
    | nil => exact fun _ h => h
    | cons k ks ih => exact fun v h => ih _ (State.off_prbsStop _ _ hf h)
  have hpower : ¬ powerKey (regKey (laneLoc d u l) f.off) := by
    rw [hat]
    rintro (h | ⟨loc, off, hk, hmask⟩)
    · exact not_hubKey (laneLoc_lt hd hu hl) (by decide) h
    · have := (regKey_inj (by decide) (by omega) hk).2
      omega
  have hlock : ¬ laneKey (regKey (laneLoc d u l) f.off) := by
    rw [hat]
    rintro ⟨loc, off, hk, hmask⟩
    have := (regKey_inj (by decide) (by omega) hk).2
    omega
  rw [State.disable_eq, (PortKept.unitRest _ _ _).fld hpower, hput _ _ _ (by decide), hput _ _ _ (by decide)]
  refine ((PortKept.lanesUnlock _ d p hp).fld hlock).trans ((hput _ _ _ (by decide)).trans ((hput _ _ _ (by decide)).trans ?_))
  refine hlanes _ _ ?_
  unfold State.portTo
  rw [if_neg hstate, hport (.setPState t d p psDisabled), hoff]

/-- PORT.PRBS starts a pattern on a lane of a DISABLED port, its unit out of OFF. -/
theorem State.prbsStart_spec {s : State} {d u l fn pattern rate : Nat} {inv : Bool} (hd : d < 4) (hu : u < 17) (hl : l < 8)
    (hwf : Tab.wf (s.die d).prbsLock = true)
    (hfree : (s.laneOwner d u l).all (fun p => s.pstate d p == psDisabled) = true) :
    let t := s.prbsStart d u l fn pattern rate inv
    let loc := laneLoc d u l
    (bit fn 0 = true → t.flag loc R.PRBS_STAT_GEN_ON = true) ∧
    (bit fn 1 = true → t.flag loc R.PRBS_STAT_CHK_ON = true ∧ t.flag loc R.PRBS_STAT_CHK_LOCK = false ∧
      t.pair loc R.PRBS_ERR_LO_ERR R.PRBS_ERR_HI_ERR = 0 ∧ t.prbsBits d u l = 0) ∧
    t.fld loc R.PRBS_STAT_PATTERN = pattern % 16 ∧ t.fld loc R.PRBS_STAT_RATE = rate % 8 ∧
    (8 * u + l ∈ (t.die d).prbsInv ↔ inv = true) ∧ (∀ p, s.laneOwner d u l = some p → t.pstate d p = psTest) := by
  dsimp only
  rw [State.prbsStart_eq]
  have hkept := PortKept.laneStart s d u l fn pattern rate inv
  have howner : (s.laneStart d u l fn pattern rate inv).laneOwner d u l = s.laneOwner d u l :=
    State.laneOwner_congr (fun v => hkept.mode_atLane hl d v) u l
  obtain ⟨hgen, hchk, hpat, hrate, hinv⟩ := State.laneStart_spec (u := u) (l := l) (fn := fn) (pattern := pattern)
    (rate := rate) (inv := inv) hwf
  have hstill : ((s.laneStart d u l fn pattern rate inv).laneOwner d u l).all
      (fun p => (s.laneStart d u l fn pattern rate inv).pstate d p == psDisabled) = true := by
    rw [howner]
    cases ho : s.laneOwner d u l with
    | none => rfl
    | some p =>
      obtain ⟨-, hp, -⟩ := State.laneOwner_unit hu ho
      have hsame : (s.laneStart d u l fn pattern rate inv).pstate d p = s.pstate d p := hkept.port_atLane hl hd hp (by decide)
      rw [ho] at hfree
      simpa [hsame] using hfree
  generalize s.laneStart d u l fn pattern rate inv = v at hkept howner hgen hchk hpat hrate hinv hstill
  obtain ⟨hfld, hdies, htails, hstate⟩ := State.ownerStart_spec hd hu hstill
  have hdie := State.die_congr hdies d
  refine ⟨fun h => ?_, fun h => ?_, ?_, ?_, ?_, fun p hp => hstate p (howner.trans hp)⟩
  · exact State.flag_iff.2 ((hfld l hl _ (by decide)).trans (hgen h))
  · obtain ⟨hon, hlock, herr, hbits, hnone⟩ := hchk h
    refine ⟨State.flag_iff.2 ((hfld l hl _ (by decide)).trans hon),
      State.flag_false_of ((hfld l hl _ (by decide)).trans hlock), ?_, ?_⟩
    · simp (disch := decide) only [State.pair, hfld l hl]
      exact herr
    · unfold State.prbsBits
      dsimp only
      rw [hdie, hnone]
      simp (disch := decide) only [State.pair, hfld l hl]
      exact hbits
  · exact (hfld l hl _ (by decide)).trans hpat
  · exact (hfld l hl _ (by decide)).trans hrate
  · rw [hdie]
    exact hinv

/-- Stopping the last pattern of a port in TEST clears the lane, and the port is DISABLED where no other lane of it runs. -/
theorem State.prbsEnd_spec {s : State} {d u l p : Nat} (hd : d < 4) (hu : u < 17) (hl : l < 8)
    (howner : s.laneOwner d u l = some p) (htest : s.pstate d p = psTest) :
    (s.prbsEnd d u l).flag (laneLoc d u l) R.PRBS_STAT_GEN_ON = false ∧
    (s.prbsEnd d u l).flag (laneLoc d u l) R.PRBS_STAT_CHK_ON = false ∧
    ((∀ k ∈ s.portLanes d p, k ≠ l → s.lanePrbs d u k = false) → (s.prbsEnd d u l).pstate d p = psDisabled) := by
  obtain ⟨hunit, hp, -⟩ := State.laneOwner_unit hu howner
  have hkept := PortKept.atLaneStop s d u l
  have hmode := fun v => hkept.mode_atLane hl d v
  have hsame : (s.prbsStop d u l).laneOwner d u l = some p := (State.laneOwner_congr hmode u l).trans howner
  have hstate : (s.prbsStop d u l).pstate d p = psTest := (hkept.port_atLane hl hd hp (by decide)).trans htest
  have hlanes : (s.prbsStop d u l).portLanes d p = s.portLanes d p := State.portLanes_congr hmode p
  have hoff : ∀ f : Fld, f = R.PRBS_STAT_GEN_ON ∨ f = R.PRBS_STAT_CHK_ON →
      (s.prbsStop d u l).fld (laneLoc d u l) f = 0 := by
    rintro f (rfl | rfl)
    · exact s.gen_prbsStop d u l
    · exact s.chk_prbsStop d u l
  have hother : ∀ k, k < 8 → k ≠ l → (s.prbsStop d u l).lanePrbs d u k = s.lanePrbs d u k := by
    intro k hk hne
    have hloc : laneLoc d u k ≠ laneLoc d u l := fun h => by
      have := (unitLoc_inj (by omega) (by omega) (by omega) (by omega) h).2
      omega
    have hfld : ∀ f : Fld, f.off < 16777216 → (s.prbsStop d u l).fld (laneLoc d u k) f = s.fld (laneLoc d u k) f :=
      fun f hf => hkept.fld (not_atLane_loc hf hloc)
    simp only [State.lanePrbs, State.flag]
    rw [hfld _ (by decide), hfld _ (by decide)]
  have hend : s.prbsEnd d u l = if (s.prbsStop d u l).pstate d p = psTest ∧
      !((s.prbsStop d u l).portLanes d p).any ((s.prbsStop d u l).lanePrbs d u) then (s.prbsStop d u l).disable d p
      else (s.prbsStop d u l).prbsTx d u p := by
    unfold State.prbsEnd
    dsimp only
    rw [hsame]
  have hidle : (∀ k ∈ s.portLanes d p, k ≠ l → s.lanePrbs d u k = false) →
      ((s.prbsStop d u l).portLanes d p).any ((s.prbsStop d u l).lanePrbs d u) = false := by
    intro h
    rw [hlanes, List.any_eq_false]
    intro k hk
    by_cases hkl : k = l
    · subst hkl
      have hgen := State.flag_false_of (hoff _ (.inl rfl))
      have hchk := State.flag_false_of (hoff _ (.inr rfl))
      simp [State.lanePrbs, hgen, hchk]
    · have hk8 : k < 8 := portLanes_small hp hk
      rw [hother k hk8 hkl, h k hk hkl]
      decide
  generalize s.prbsStop d u l = t at hoff hstate hlanes hend hidle
  have hlane : ∀ f : Fld, f = R.PRBS_STAT_GEN_ON ∨ f = R.PRBS_STAT_CHK_ON → (s.prbsEnd d u l).fld (laneLoc d u l) f = 0 := by
    intro f hf
    rw [hend]
    split
    · exact State.off_disable hd hu hp hl hf (by rw [hstate]; decide) (hoff f hf)
    · exact ((PortKept.prbsTx t d u p).fld (not_atPort_lane hd hp hl (by obtain rfl | rfl := hf <;> decide))).trans (hoff f hf)
  refine ⟨State.flag_false_of (hlane _ (.inl rfl)), State.flag_false_of (hlane _ (.inr rfl)), fun h => ?_⟩
  rw [hend, if_pos ⟨hstate, by simp [hidle h]⟩]
  exact t.pstate_disable hd hp

/-! ### PORT.INJECT (R250) -/

/-- An injection that may run: kept at its port, and going on until `due`. -/
def State.injStart (s : State) (f : Flight) (due : Nat) : State :=
  ((s.updPort (injPort f.cmd.loc).1 (injPort f.cmd.loc).2
    (fun x => { x with inj := some { num := f.num, at_ := s.now } })).goesOn f.num due).1

theorem State.injStart_spec {s : State} {n : Nat} {f : Flight} (due : Nat) (h : s.flight n = some f) :
    (s.injStart f due).flight n = some { f with phase := .exec due } ∧
    (s.injStart f due).port (injPort f.cmd.loc).1 (injPort f.cmd.loc).2 =
      { s.port (injPort f.cmd.loc).1 (injPort f.cmd.loc).2 with inj := some { num := n, at_ := s.now } } ∧
    { s.injStart f due with plyn := s.plyn, ports := s.ports } = s := by
  obtain rfl := State.flight_num h
  unfold State.injStart
  generalize hu : s.updPort (injPort f.cmd.loc).1 (injPort f.cmd.loc).2
    (fun x => { x with inj := some { num := f.num, at_ := s.now } }) = u
  have hflight : u.flight f.num = some f := by rw [← hu]; exact h
  have hport : u.port (injPort f.cmd.loc).1 (injPort f.cmd.loc).2 =
      { s.port (injPort f.cmd.loc).1 (injPort f.cmd.loc).2 with inj := some { num := f.num, at_ := s.now } } := by
    rw [← hu]
    exact State.port_setPort_self _ _ _ _
  have hrest : { u with ports := s.ports } = s := by rw [← hu]; rfl
  obtain ⟨-, hgo, hkept⟩ := State.goesOn_spec due hflight
  refine ⟨hgo, ?_, ?_⟩
  · rw [← hport]
    exact State.port_congr (congrArg State.ports hkept :) _ _
  · exact (congrArg (fun t : State => { t with plyn := s.plyn, ports := s.ports }) hkept).trans
      (congrArg (fun t : State => { t with plyn := s.plyn }) hrest)

/-- Injections of kind 2 to 4 at a port that takes frames. -/
theorem mPortInject_port {s : State} {f : Flight} (hkind : 2 ≤ f.cmd.opa % 8)
    (hpresent : s.present (locPort f.cmd.loc).1 (locPort f.cmd.loc).2 = true)
    (hfec : f.cmd.opa % 8 = 2 → s.hasFec (injPort f.cmd.loc).1 (injPort f.cmd.loc).2 = true) :
    mPortInject.run f f.cmd.loc s =
      if s.pstate (injPort f.cmd.loc).1 (injPort f.cmd.loc).2 = psUp ∨
          s.pstate (injPort f.cmd.loc).1 (injPort f.cmd.loc).2 = psRemote then
        (s.injStart f (s.now + if f.cmd.opa % 8 = 4 then secTicks else s.injTicks f.cmd f.cmd.loc), none)
      else (s, some (conflictC (s.pstate (injPort f.cmd.loc).1 (injPort f.cmd.loc).2))) := by
  have hno : ¬(f.cmd.opa % 8 = 2 ∧ (!s.hasFec (injPort f.cmd.loc).1 (injPort f.cmd.loc).2) = true) := fun ⟨h, k⟩ => by
    simp [hfec h] at k
  simp only [mPortInject, State.absent_of_present hpresent]
  rw [if_neg (by omega), if_neg (by decide), if_neg hno]
  rfl

/-- Injections of kind 1 at a lane. -/
theorem mPortInject_lane {s : State} {f : Flight} (hkind : f.cmd.opa % 8 = 1) :
    mPortInject.run f f.cmd.loc s =
      if s.flag f.cmd.loc (if bit f.cmd.opa 3 then R.PRBS_STAT_GEN_ON else R.PRBS_STAT_CHK_ON) = true then
        (s.injStart f (s.now + s.injTicks f.cmd f.cmd.loc), none)
      else (s, some (conflictC (((s.laneOwner (injPort f.cmd.loc).1 (locUnit f.cmd.loc) (locSub f.cmd.loc - 8)).map
        (s.pstate (injPort f.cmd.loc).1)).getD 0))) := by
  simp only [mPortInject, hkind, locLane, if_true, (by decide : ¬(1 = 4)), if_false]
  rfl

/-- The only location of an injection that is no broadcast. -/
theorem State.injLocs_one {s : State} {n : Nat} {f : Flight} (hnum : f.num = n) (hdie : locDie f.cmd.loc ≠ 7)
    (hinj : (s.port (injPort f.cmd.loc).1 (injPort f.cmd.loc).2).inj.map Inj.num = some n) : s.injLocs f = [f.cmd.loc] := by
  unfold State.injLocs
  simp [hdie, hinj, hnum]

/-- The end of an injection at a location, its record forgotten. -/
theorem State.injEnd_inj (s : State) (loc : Nat) : ((s.injEnd loc).port (injPort loc).1 (injPort loc).2).inj = none := by
  unfold State.injEnd
  exact congrArg Port.inj (State.port_setPort_self _ _ _ _)

theorem State.fld_injEnd (s : State) (loc l : Nat) (f : Fld) : (s.injEnd loc).fld l f = s.fld l f := rfl

/-- An injection of kind 1 to 3 ends when its time has passed. -/
def State.injMade (s : State) (f : Flight) : State :=
  ((s.advanceTo (((s.port (injPort f.cmd.loc).1 (injPort f.cmd.loc).2).inj.map Inj.at_).getD 0 +
    s.injTicks f.cmd f.cmd.loc)).injCount f f.cmd.loc).injEnd f.cmd.loc

theorem exec_portInjectDone_timed {s : State} {n due : Nat} {f : Flight} (hflight : s.flight n = some f)
    (hphase : f.phase = .exec due) (hop : f.cmd.opcode = 0x35) (hdie : locDie f.cmd.loc ≠ 7)
    (hinj : (s.port (injPort f.cmd.loc).1 (injPort f.cmd.loc).2).inj.map Inj.num = some n) (hkind : f.cmd.opa % 8 ≠ 4) :
    exec (.portInjectDone n) s = .next ((s.injMade f).complete n { status := stOk, result := f.cmd.opb % 65536 }) := by
  have hgoing : s.going n (isOp 0x35) = some (f, due) :=
    State.going_iff.2 ⟨hflight, hphase, by simp [isOp, hop]⟩
  show execPortInjectDone n s = _
  simp only [execPortInjectDone, hgoing, State.injLocs_one (State.flight_num hflight) hdie hinj, hkind, false_and, if_false,
    List.foldl_cons, List.foldl_nil, okC, Nat.mod_mod]
  rfl

theorem State.injCount_tails (s : State) (f : Flight) (loc : Nat) : (s.injCount f loc).tails = s.tails := by
  unfold State.injCount
  dsimp only
  split
  · split <;> rfl
  · split
    · rfl
    · split <;> rfl
  · rfl

theorem satNat_lt (v len : Nat) : satNat v len < 2 ^ len := by
  have := Nat.two_pow_pos len
  unfold satNat
  omega

/-- A pair of fields of 32 and 16 bits reads as what was stored. -/
theorem State.pair_putPair (s : State) {loc : Nat} {lo hi : Fld} {v : Nat} (hlo : lo.lo = 0 ∧ lo.len = 32)
    (hhi : hi.lo = 0 ∧ hi.len = 16) (h : hi.apart lo = true) (hv : v < 2 ^ 48) : (s.putPair loc lo hi v).pair loc lo hi = v := by
  unfold State.putPair State.pair
  rw [State.fld_put_apart _ _ _ h, State.fld_put_self _ _ _ (by omega), State.fld_put_self _ _ _ (by omega), hlo.2, hhi.2]
  omega

theorem State.fld_updPort (s : State) (d p : Nat) (g : Port → Port) (l : Nat) (f : Fld) :
    (s.updPort d p g).fld l f = s.fld l f := rfl

/-- Injections of the receive side meet the port's own decoder (R250). -/
theorem injHere_rx {f : Flight} (t : State) (h : f.cmd.opa % 16 < 8) :
    t.injHere f (locPort f.cmd.loc).1 (locPort f.cmd.loc).2 = true := by
  have hrx : bit f.cmd.opa 3 = false := by
    simp only [bit, beq_eq_false_iff_ne, ne_eq]
    omega
  simp [State.injHere, hrx]

/-- COUNT codewords with few bad symbols count as corrected. -/
theorem State.fld_injCount_few (t : State) (f : Flight) (hkind : f.cmd.opa % 8 = 2)
    (hhere : t.injHere f (locPort f.cmd.loc).1 (locPort f.cmd.loc).2 = true) (hfew : f.cmd.opb / 65536 % 32 ≤ 15) :
    (t.injCount f f.cmd.loc).fld f.cmd.loc R.FEC_CORR_CORR =
      satNat (t.fld f.cmd.loc R.FEC_CORR_CORR + f.cmd.opb % 65536) R.FEC_CORR_CORR.len := by
  have hcount : t.injCount f f.cmd.loc = ((t.bumpBy f.cmd.loc R.FEC_CORR_CORR f.cmd.injN).bumpBy f.cmd.loc R.FEC_SYM_SYM
      (f.cmd.injN * bits f.cmd.opb 16 5)).updPort (locPort f.cmd.loc).1 (locPort f.cmd.loc).2
        (fun x => { x with injSym := x.injSym + f.cmd.injN * bits f.cmd.opb 16 5 }) := by
    unfold State.injCount
    simp only [hkind, hhere]
    exact if_pos hfew
  rw [hcount, State.fld_updPort, State.bumpBy, State.fld_put_apart _ _ _ (by decide), State.bumpBy,
    State.fld_put_self _ _ _ (by decide)]
  exact Nat.mod_eq_of_lt (satNat_lt _ _)

/-- COUNT codewords with more than 15 bad symbols count as uncorrectable. -/
theorem State.fld_injCount_many (t : State) (f : Flight) (hkind : f.cmd.opa % 8 = 2)
    (hhere : t.injHere f (locPort f.cmd.loc).1 (locPort f.cmd.loc).2 = true) (hmany : 15 < f.cmd.opb / 65536 % 32) :
    (t.injCount f f.cmd.loc).fld f.cmd.loc R.FEC_UNCORR_UNCORR =
      satNat (t.fld f.cmd.loc R.FEC_UNCORR_UNCORR + f.cmd.opb % 65536) R.FEC_UNCORR_UNCORR.len := by
  have hcount : t.injCount f f.cmd.loc = t.bumpBy f.cmd.loc R.FEC_UNCORR_UNCORR f.cmd.injN := by
    unfold State.injCount
    simp only [hkind, hhere]
    exact if_neg (show ¬ bits f.cmd.opb 16 5 ≤ 15 by unfold bits; omega)
  rw [hcount, State.bumpBy, State.fld_put_self _ _ _ (by decide)]
  exact Nat.mod_eq_of_lt (satNat_lt _ _)

/-- What the counts of an injection leave: the records of ports but the symbols injected, and the lock of checkers. -/
theorem State.injMade_spec {s : State} {f : Flight} {i : Inj}
    (hinj : (s.port (injPort f.cmd.loc).1 (injPort f.cmd.loc).2).inj = some i) :
    ((s.injMade f).port (injPort f.cmd.loc).1 (injPort f.cmd.loc).2).inj = none ∧
    i.at_ + s.injTicks f.cmd f.cmd.loc ≤ (s.injMade f).now ∧
    (f.cmd.opa % 16 = 1 → s.flag f.cmd.loc R.PRBS_STAT_CHK_LOCK = true →
      (s.injMade f).pair f.cmd.loc R.PRBS_ERR_LO_ERR R.PRBS_ERR_HI_ERR =
        satNat (s.pair f.cmd.loc R.PRBS_ERR_LO_ERR R.PRBS_ERR_HI_ERR + f.cmd.opb % 65536) 48) ∧
    (f.cmd.opa % 16 = 2 → f.cmd.opb / 65536 % 32 ≤ 15 → (s.injMade f).fld f.cmd.loc R.FEC_CORR_CORR =
      satNat (s.fld f.cmd.loc R.FEC_CORR_CORR + f.cmd.opb % 65536) R.FEC_CORR_CORR.len) ∧
    (f.cmd.opa % 16 = 2 → 15 < f.cmd.opb / 65536 % 32 → (s.injMade f).fld f.cmd.loc R.FEC_UNCORR_UNCORR =
      satNat (s.fld f.cmd.loc R.FEC_UNCORR_UNCORR + f.cmd.opb % 65536) R.FEC_UNCORR_UNCORR.len) := by
  have hat : ((s.port (injPort f.cmd.loc).1 (injPort f.cmd.loc).2).inj.map Inj.at_).getD 0 = i.at_ := by rw [hinj]; rfl
  unfold State.injMade
  rw [hat]
  have hnow := s.now_advanceTo (i.at_ + s.injTicks f.cmd f.cmd.loc)
  have hfld : ∀ l g, (s.advanceTo (i.at_ + s.injTicks f.cmd f.cmd.loc)).fld l g = s.fld l g := fun _ _ => rfl
  generalize s.advanceTo (i.at_ + s.injTicks f.cmd f.cmd.loc) = t at hnow hfld
  have hend : ∀ (u : State) (l : Nat) (g : Fld), (u.injEnd f.cmd.loc).fld l g = u.fld l g := fun u l g => u.fld_injEnd _ l g
  refine ⟨State.injEnd_inj _ _, ?_, fun h16 hlock => ?_, fun h16 hfew => ?_, fun h16 hmany => ?_⟩
  · have htails : ((t.injCount f f.cmd.loc).injEnd f.cmd.loc).tails = t.tails := State.injCount_tails t f f.cmd.loc
    have hsame : ((t.injCount f f.cmd.loc).injEnd f.cmd.loc).now = t.now := congrArg Tailstock.m (State.tail_congr htails 5)
    omega
  · have hkind : f.cmd.opa % 8 = 1 := by omega
    have hrx : bit f.cmd.opa 3 = false := by
      simp only [bit, beq_eq_false_iff_ne, ne_eq]
      omega
    have hon : t.flag f.cmd.loc R.PRBS_STAT_CHK_LOCK = true := State.flag_iff.2 ((hfld _ _).trans (State.flag_iff.1 hlock))
    have hcount : t.injCount f f.cmd.loc = t.putPair f.cmd.loc R.PRBS_ERR_LO_ERR R.PRBS_ERR_HI_ERR
        (satNat (t.pair f.cmd.loc R.PRBS_ERR_LO_ERR R.PRBS_ERR_HI_ERR + f.cmd.injN) 48) := by
      simp only [State.injCount, hkind, hon, hrx, Bool.not_false, Bool.and_self, if_true]
    have hpair : t.pair f.cmd.loc R.PRBS_ERR_LO_ERR R.PRBS_ERR_HI_ERR = s.pair f.cmd.loc R.PRBS_ERR_LO_ERR R.PRBS_ERR_HI_ERR := by
      simp only [State.pair, hfld]
    rw [State.pair, hend, hend, hcount, ← hpair]
    exact State.pair_putPair t (by decide) (by decide) (by decide) (satNat_lt _ _)
  · have hcount := State.fld_injCount_few t f (by omega) (injHere_rx t (by omega)) hfew
    rw [hend, hcount, hfld]
  · have hcount := State.fld_injCount_many t f (by omega) (injHere_rx t (by omega)) hmany
    rw [hend, hcount, hfld]

/-- The end of injections on frames. -/
theorem exec_portInjectDone_frames {s : State} {n due : Nat} {f : Flight} {i : Inj} (hflight : s.flight n = some f)
    (hphase : f.phase = .exec due) (hop : f.cmd.opcode = 0x35) (hdie : locDie f.cmd.loc ≠ 7)
    (hinj : (s.port (injPort f.cmd.loc).1 (injPort f.cmd.loc).2).inj = some i) (hnum : i.num = n) (hkind : f.cmd.opa % 8 = 4) :
    (f.cmd.opb % 65536 ≤ i.made → exec (.portInjectDone n) s =
      .next ((s.injEnd f.cmd.loc).complete n { status := stOk, result := f.cmd.opb % 65536 })) ∧
    (i.made < f.cmd.opb % 65536 → exec (.portInjectDone n) s = .next s) ∧
    exec (.portInjectTimeout n) s = .next (((s.advanceTo due).injEnd f.cmd.loc).complete n
      { status := stTimeout, result := i.made }) := by
  have hgoing : s.going n (isOp 0x35) = some (f, due) :=
    State.going_iff.2 ⟨hflight, hphase, by simp [isOp, hop]⟩
  have hlocs := State.injLocs_one (State.flight_num hflight) hdie (show _ = some n by rw [hinj, ← hnum]; rfl)
  have hcount : ∀ t : State, t.injCount f f.cmd.loc = t := fun t => by
    unfold State.injCount
    simp only [hkind]
  refine ⟨fun hall => ?_, fun hfew => ?_, ?_⟩
  · show execPortInjectDone n s = _
    simp only [execPortInjectDone, hgoing, hlocs, hkind, hinj, Option.map_some, Option.getD_some, List.any_cons, List.any_nil,
      Bool.or_false, decide_eq_true_eq, true_and, if_true, List.foldl_cons, List.foldl_nil, hcount, okC, Nat.mod_mod]
    rw [if_neg (by omega)]
  · show execPortInjectDone n s = _
    simp only [execPortInjectDone, hgoing, hlocs, hkind, hinj, Option.map_some, Option.getD_some, List.any_cons, List.any_nil,
      Bool.or_false, decide_eq_true_eq, true_and]
    rw [if_pos hfew]
  · show execPortInjectTimeout n s = _
    simp only [execPortInjectTimeout, hgoing, hlocs, hkind, hinj, ne_eq, not_true_eq_false, if_false, List.map_cons,
      List.map_nil, List.headD_cons, Option.map_some, Option.getD_some, List.foldl_cons, List.foldl_nil]

/-! ### The obligation -/

theorem loopDepth {n : Nat} {f : Flight} {s : State} (h : Starts (fun c => c.opcode == 0x33 && c.opa % 8 != 0) mPortLoop n f s) :
    1 ≤ f.cmd.opa % 8 ∧ f.cmd.opa % 8 ≤ 5 := by
  have hform := h.form
  have hbad : rangeBad (decide (5 < f.cmd.opa % 8)) = none := h.operands
  simp only [Bool.and_eq_true, beq_iff_eq, bne_iff_ne, ne_eq] at hform
  simp only [rangeBad, ite_eq_right_iff, decide_eq_true_eq, reduceCtorEq, imp_false] at hbad
  omega

theorem fn_of_prbs {op : Nat} {c : Cmd} (h : (c.opcode == op && c.opa % 4 != 0) = true) : c.opa % 4 ≠ 0 := by
  simp only [Bool.and_eq_true, bne_iff_ne, ne_eq] at h
  exact h.2

theorem bit_mod_four (x : Nat) : bit (x % 4) 0 = bit x 0 ∧ bit (x % 4) 1 = bit x 1 := by
  unfold bit
  constructor
  · have h : x % 4 / 2 ^ 0 % 2 = x / 2 ^ 0 % 2 := by omega
    rw [h]
  · have h : x % 4 / 2 ^ 1 % 2 = x / 2 ^ 1 % 2 := by omega
    rw [h]

/-- Whether a pattern may start or end on a lane: its port is DISABLED, or in TEST without a loop (R248). -/
def State.laneFree (s : State) (d u l : Nat) : Bool :=
  match s.laneOwner d u l with
  | none => true
  | some p => s.pstate d p == psDisabled || (s.pstate d p == psTest && s.pfld d p R.PORT_STAT_LOOP == 0)

theorem State.laneFree_disabled {s : State} {d u l : Nat}
    (h : (s.laneOwner d u l).all (fun p => s.pstate d p == psDisabled) = true) : s.laneFree d u l = true := by
  unfold State.laneFree
  cases ho : s.laneOwner d u l with
  | none => rfl
  | some p => simp_all

theorem mPortPrbs_free {s : State} {f : Flight}
    (h : s.laneFree (locDie f.cmd.loc) (locUnit f.cmd.loc) (locSub f.cmd.loc - 8) = true) :
    mPortPrbs.run f f.cmd.loc s =
      if f.cmd.opa % 4 = 0 then
        (s.prbsEnd (locDie f.cmd.loc) (locUnit f.cmd.loc) (locSub f.cmd.loc - 8), some (okC 0))
      else s.unitGate f (locDie f.cmd.loc) (locUnit f.cmd.loc) (fun s => s.prbsStart (locDie f.cmd.loc) (locUnit f.cmd.loc)
        (locSub f.cmd.loc - 8) (f.cmd.opa % 4) (bits f.cmd.opa 2 4) (f.cmd.opb % 8) (bit f.cmd.opa 6)) := by
  show (if (!s.laneFree (locDie f.cmd.loc) (locUnit f.cmd.loc) (locSub f.cmd.loc - 8)) = true then _ else _) = _
  rw [h]
  rfl

/-- Settles O25: a loop or a pattern is what the port's and the lane's own registers become; an injection is kept at its
port until its count or its time is over. -/
theorem portTestsRun : Obligations.PortTestsRun := by
  unfold Obligations.PortTestsRun
  refine ⟨fun n f s => ⟨?loop, ?prbs⟩, fun n f s => ⟨?port, ?lane, ?done⟩⟩
  case loop =>
    intro d p hpresent
    obtain ⟨hd, hp⟩ := State.present_lt hpresent
    refine ⟨fun hstarts hfree hrelka hpow => ?_, fun hstarts => ⟨fun hnone => ?_, fun hloop => ?_⟩⟩
    · obtain ⟨h1, h5⟩ := loopDepth hstarts
      refine ⟨s.loopOn d p (f.cmd.opa % 8), hstarts.ok (k := 0) ?_, State.loopOn_spec hd hp s h1 h5⟩
      have hmay : ¬(s.pstate d p ≠ psDisabled ∨ s.pflag d p R.RLK_CTRL_EN = true) := by simp [hfree, hrelka]
      simp only [mPortLoop, State.absent_of_present hpresent, Bool.false_eq_true, if_false]
      rw [if_neg (by omega)]
      refine (if_neg hmay).trans ?_
      exact State.unitGate_on f _ hpow
    · refine hstarts.ok (k := 0) ?_
      have hzero : f.cmd.opa % 8 = 0 := by
        have hform := hstarts.form
        simp only [Bool.and_eq_true, beq_iff_eq] at hform
        exact hform.2
      simp only [mPortLoop, State.absent_of_present hpresent, Bool.false_eq_true, if_false, hzero, if_true]
      exact congrArg (fun t : State => (t, some (okC 0))) (if_pos hnone)
    · refine ⟨s.disable d p, hstarts.ok (k := 0) ?_, s.pstate_disable hd hp, s.loop_disable hd hp⟩
      have hzero : f.cmd.opa % 8 = 0 := by
        have hform := hstarts.form
        simp only [Bool.and_eq_true, beq_iff_eq] at hform
        exact hform.2
      simp only [mPortLoop, State.absent_of_present hpresent, Bool.false_eq_true, if_false, hzero, if_true]
      exact congrArg (fun t : State => (t, some (okC 0))) (if_neg hloop)
  case prbs =>
    intro d u l loc hd hu hsub hl hwf
    refine ⟨fun hstarts hpow hfree => ?_, fun hstarts p howner htest hloop => ?_⟩
    · obtain ⟨hgen, hchk, hpat, hrate, hinv, hstate⟩ := State.prbsStart_spec (fn := f.cmd.opa % 4)
        (pattern := bits f.cmd.opa 2 4) (rate := f.cmd.opb % 8) (inv := bit f.cmd.opa 6) hd hu hl hwf hfree
      have hfn := fn_of_prbs hstarts.form
      refine ⟨_, hstarts.ok (t := s.prbsStart d u l (f.cmd.opa % 4) (bits f.cmd.opa 2 4) (f.cmd.opb % 8) (bit f.cmd.opa 6))
        (k := 0) ?_, fun h => hgen ((bit_mod_four _).1.trans h), fun h => hchk ((bit_mod_four _).2.trans h), ?_, ?_, hinv, hstate⟩
      · exact (mPortPrbs_free (State.laneFree_disabled hfree)).trans ((if_neg hfn).trans (State.unitGate_on f _ hpow))
      · rw [hpat]
        unfold bits
        omega
      · rw [hrate]
        omega
    · obtain ⟨hgen, hchk, hdown⟩ := State.prbsEnd_spec hd hu hl howner htest
      have hfn : f.cmd.opa % 4 = 0 := by
        have hform := hstarts.form
        simp only [Bool.and_eq_true, beq_iff_eq] at hform
        exact hform.2
      have hfree : s.laneFree d u l = true := by
        simp only [State.laneFree]
        rw [howner]
        simp [htest, hloop]
      have hmay := mPortPrbs_free hfree
      exact ⟨_, hstarts.ok (t := s.prbsEnd d u l) (k := 0) (hmay.trans (if_pos hfn)), hgen, hchk, hdown⟩
  case port =>
    intro hstarts hkind hpresent hloc hfec
    have hrun := mPortInject_port hkind hpresent hfec
    refine ⟨fun hup => ?_, fun hup hremote => ?_⟩
    · obtain ⟨hflight, hport, hrest⟩ := State.injStart_spec
        (s.now + if f.cmd.opa % 8 = 4 then secTicks else s.injTicks f.cmd f.cmd.loc) hstarts.flight
      exact ⟨_, hstarts.startRow_goes (hrun.trans (if_pos hup)), hflight, hport, hrest⟩
    · exact hstarts.conflict (hrun.trans (if_neg (by simp [hup, hremote])))
  case lane =>
    intro hstarts hkind hsub hne
    have hrun := mPortInject_lane (s := s) hkind
    refine ⟨fun hon => ?_, fun hoff => ?_⟩
    · obtain ⟨hflight, hport, hrest⟩ := State.injStart_spec (s.now + s.injTicks f.cmd f.cmd.loc) hstarts.flight
      exact ⟨_, hstarts.startRow_goes (hrun.trans (if_pos hon)), hflight, hport, hrest⟩
    · exact ⟨_, hstarts.conflict (hrun.trans (if_neg (by simp [hoff])))⟩
  case done =>
    intro due hflight hphase hop hdie hnum
    obtain ⟨i, hi, hin⟩ := Option.map_eq_some_iff.1 hnum
    refine ⟨fun hkind => ?_, fun hkind j hj => ?_⟩
    · obtain ⟨hgone, htime, herr, hcorr, huncorr⟩ := State.injMade_spec (f := f) hi
      refine ⟨_, exec_portInjectDone_timed hflight hphase hop hdie hnum hkind, hgone, fun j hj => ?_, herr, hcorr, huncorr⟩
      obtain rfl := Option.some.inj (hi.symm.trans hj)
      exact htime
    · obtain rfl := Option.some.inj (hi.symm.trans hj)
      exact exec_portInjectDone_frames hflight hphase hop hdie hi hin hkind

end Sys2Proof.Machine
end

section
/-! PROOFS. QUE.GATELIST without a list, at a location that is the faceplate's number (R307). -/

namespace Sys2Proof.Machine

/-! ### A completion without a record, seen from behind -/

/-- Whether an instruction writes records is settled before it completes (R333). -/
theorem State.mute_afterRec {s : State} {f g : Flight} {status : Nat} (h : s.flight f.num = some g) {k : Flight}
    (hk : (s.afterRec f status).flight f.num = some k) : k.mute = f.mute := by
  have hset : ∀ (u : State) (x : Flight), x.num = f.num → u.plyn = s.plyn → (u.setFlight x).flight f.num = some k →
      k.mute = x.mute := by
    intro u x hx hu hflight
    rw [← hx, State.flight_setFlight_self (g := g) (by rw [State.flight_congr hu, hx]; exact h)] at hflight
    rw [Option.some.inj hflight]
  have hend : ∀ status detail, (s.endSeries f status detail).flight f.num = some k → k.mute = f.mute := by
    intro status detail hflight
    unfold State.endSeries at hflight
    dsimp only at hflight
    split at hflight
    · exact hset _ { f with bad := true, started := none, entry := false, phase := .retired, tags := [] } rfl
        (by simp [State.putRec]) hflight
    · exact hset _ { f with bad := true, started := none, entry := false, phase := .record status detail 0 _ } rfl
        (by simp) hflight
  unfold State.afterRec at hk
  split at hk
  · exact hset s { f with phase := .retired, tags := [], entry := false } rfl rfl hk
  · split at hk
    · exact hend _ _ hk
    · dsimp only at hk
      split at hk
      · exact hset s { f with phase := .parked _, idx := _, late := _, tags := [], started := none, entry := true } rfl rfl hk
      · exact hend _ _ hk

theorem State.mute_deliver {s : State} {f g : Flight} {status detail result time : Nat} (h : s.flight f.num = some g)
    {k : Flight} (hk : (s.deliver f status detail result time).flight f.num = some k) : k.mute = f.mute := by
  unfold State.deliver at hk
  split at hk
  · split at hk
    · exact State.mute_afterRec (g := g) ((State.flight_congr (State.pushEntry_plyn _ _ _ _) _).trans h) hk
    · have hself := State.flight_setFlight_self (s := s) (f := { f with phase := .record status detail result time })
        (g := g) h
      rw [Option.some.inj (hk.symm.trans hself)]
  · exact State.mute_afterRec h hk

/-- A completion delivers its own status, or LATE where the execution was late (R77). -/
theorem State.complete_delivers_status {s : State} {n : Nat} {f : Flight} (c : Compl) (h : s.flight n = some f) :
    ∃ status detail res time, s.complete n c = (s.reported f status).deliver (f.tallied status) status detail res time ∧
      (status = c.status ∨ status = stLate) := by
  have hform : ∀ status, (if c.status = stOk ∧ f.late.isSome then stLate else c.status) = status →
      s.complete n c = (s.reported f status).deliver (f.tallied status) status
        (if f.cmd.timed && !isBad status then f.idx % 256 else c.detail)
        (if status = stLate then f.late.getD c.result else c.result)
        (f.started.getD (c.time.getD (tx64 (s.nowU f.cmd.timeDie)))) := by
    intro status hstatus
    simp only [State.complete, h, hstatus]
    rfl
  refine ⟨_, _, _, _, hform _ rfl, ?_⟩
  split
  · exact .inr rfl
  · exact .inl rfl

/-- Registers that a completion writes before its record: those of a halt and of a refusal. -/
theorem State.regs_reported_good (s : State) (f : Flight) {status : Nat} (hbad : isBad status = false)
    (hdenied : status ≠ stDenied) : (s.reported f status).regs = s.regs := by
  have hhalt : ∀ u : State, u.haltOn f.ring status = u := fun u => by simp [State.haltOn, hbad]
  simp only [State.reported, if_neg hdenied, hhalt]
  split <;> rfl

/-- An instruction that reads as one without records after it completes OK has changed no register by completing. -/
theorem State.regs_complete_mute {s : State} {n result : Nat} {k : Flight}
    (hk : (s.complete n { status := stOk, result := result }).flight n = some k) (hmute : k.mute = true) :
    (s.complete n { status := stOk, result := result }).regs = s.regs := by
  cases hf : s.flight n with
  | none => rw [State.complete_none _ hf]
  | some f =>
    have hquiet : f.mute = true := by
      obtain ⟨status, detail, res, time, heq, -⟩ := State.complete_delivers { status := stOk, result := result } hf
      obtain rfl : f.num = n := State.flight_num hf
      rw [heq] at hk
      rw [← show k.mute = f.mute from State.mute_deliver (State.flight_reported status hf) hk]
      exact hmute
    have hlast : ∀ (u : State) (x : Flight) (status : Nat), x.mute = true → u.lastOf x status = true := fun u x status hx => by
      simp [State.lastOf, hx]
    have hwants : ∀ (x : Flight) (status : Nat), x.mute = true → x.wantsRec status = false := fun x status hx => by
      simp [Flight.wantsRec, hx]
    obtain ⟨status, detail, res, time, heq, hst⟩ := State.complete_delivers_status { status := stOk, result := result } hf
    have hrep : (s.reported f status).regs = s.regs := by
      obtain rfl | rfl := hst
      · exact State.regs_reported_good s f (show isBad stOk = false by decide) (show stOk ≠ stDenied by decide)
      · exact State.regs_reported_good s f (by decide) (by decide)
    have hmuted : (f.tallied status).mute = true := hquiet
    simp only [heq, State.deliver, hwants _ _ hmuted, Bool.false_eq_true, if_false, State.afterRec, hlast _ _ _ hmuted, if_true]
    exact hrep

/-! ### QUE.GATELIST at 0x10000 -/

/-- QUE.GATELIST without a list, at a location of 17 bits: by its fields port 0 of die 0, as a number the faceplate's. -/
def gateFlight : Flight :=
  { num := 0, ring := 0, cmd := { opcode := 0x41, loc := 0x10000 }, td := {}, tags := [], tag0 := 0, phase := .issued,
    mute := true }

/-- A WAIT.EVENT for the ledger's events, with a record to write. -/
def ledgerWait : Flight :=
  { num := 1, ring := 0, cmd := { opcode := 9, opa := 6, opb := 1, always := true }, td := {}, tags := [], tag0 := 0,
    phase := .exec 0 }

/-- Port 0 of die 0 is present, cluster 0 holds a reservation that it needs no more and reads OVER, and ring 0 reports to
ring 257, whose interrupt register has the offset of QUE_GATES. -/
def gateOpen : State :=
  { State.reset with
    env := { State.reset.env with busMaster := true }
    ledger := { resv := [0] }
    regs := [(regKey (unitLoc 0 0 16) 0, 1), (regKey locLed (R.POW_REG_OVER 0).off, 0x1000000)]
    rings := [(0, { cq := 225 }), (257, { en := true, sinceArm := 1 })]
    plyn := { flights := [gateFlight, ledgerWait] } }

theorem gateOpen_starts : Starts (fun c => c.opcode == 0x41 && !bit c.opa 0) mGatelist 0 gateFlight gateOpen :=
  ⟨by decide +kernel, by decide +kernel, by decide +kernel, fun h => absurd h (by decide)⟩

/-- Its state after the instruction. -/
def gateOpened : State :=
  match exec (.queGatelistOpen 0) gateOpen with
  | .next t => t
  | _ => gateOpen

theorem exec_gateOpen : exec (.queGatelistOpen 0) gateOpen = .next gateOpened := by
  obtain ⟨t, ht⟩ := exec_answers (.queGatelistOpen 0) gateOpen
  rw [ht, gateOpened, ht]

/-- The record of the wait sends the interrupt of ring 257, which clears a bit of the register. -/
theorem gateOpened_gates : gateOpened.fld 0x10000 R.QUE_GATES_OPEN = 0xFDFF := by decide +kernel

theorem gateOpened_mute : (gateOpened.flight 0).map Flight.mute = some true := by decide +kernel

/-- Refutes O26: the location of an instruction is not bounded in a state. At 0x10000, by its fields port 0 of die 0, the
register QUE_GATES is that of the faceplate; a reservation given up writes a ledger event, whose waiting instruction sends
the interrupt of ring 257, and the gates read 0xFDFF. -/
theorem not_queuesGatesMirrorsAreSet : ¬ Obligations.QueuesGatesMirrorsAreSet := by
  unfold Obligations.QueuesGatesMirrorsAreSet
  rintro ⟨-, hgates⟩
  obtain ⟨hport, -⟩ := hgates 0 gateFlight gateOpen
  obtain ⟨-, hopen, -⟩ := hport (by decide +kernel)
  obtain ⟨t, hexec, hnone, -⟩ := hopen gateOpen_starts
  obtain ⟨-, hfld⟩ := hnone (by decide +kernel)
  have heq : gateOpened = t.complete 0 { status := stOk } := Host.Outcome.next.inj (exec_gateOpen.symm.trans hexec)
  obtain ⟨k, hk, hmute⟩ := Option.map_eq_some_iff.1 gateOpened_mute
  have hregs : gateOpened.regs = t.regs := by
    rw [heq] at hk ⊢
    exact State.regs_complete_mute hk hmute
  have hpart : gateOpened.part = t.part := by
    rw [heq]
    exact (RegsOnly.complete t 0 _).part
  have hsame : gateOpened.fld 0x10000 R.QUE_GATES_OPEN = t.fld 0x10000 R.QUE_GATES_OPEN :=
    State.fld_of_reg (State.reg_congr hregs hpart _ _)
  rw [gateOpened_gates, show t.fld 0x10000 R.QUE_GATES_OPEN = 0xFFFF from hfld] at hsame
  exact absurd hsame (by decide)

end Sys2Proof.Machine
end

section
/-! PROOFS. TIME.SET, TIME.STEP, TIME.SLEW and TIME.ALIGN (R93 to R97, R216). -/

namespace Sys2Proof.Machine

/-! ### Refusals (R97) -/

theorem State.timeRefused_of {s : State} (h : s.servoState = 3 ∨ 6 ≤ s.servoState ∧ s.servoState ≤ 7 ∨ s.hst.swap ≠ none ∨
    (s.servoState = 1 ∨ s.servoState = 5) ∧ s.selTime = true) : s.timeRefused = true := by
  simp only [State.timeRefused, Bool.or_eq_true, Bool.and_eq_true, beq_iff_eq]
  rcases h with h | h | h | h
  · simp [h]
  · have : s.servoState = 6 ∨ s.servoState = 7 := by omega
    tauto
  · exact .inr (Option.isSome_iff_ne_none.2 h)
  · tauto

/-- An instruction that R97 refuses. -/
theorem Starts.timeConflict {form : Cmd → Bool} {m : Meaning} {n : Nat} {f : Flight} {s : State} (h : Starts form m n f s)
    (hrefused : s.timeRefused = true) (hrun : m.run f f.cmd.loc s = if s.timeRefused then (s, some s.timeConflict) else
      m.run f f.cmd.loc s) :
    Sys2Proof.Machine.startRow s n form m = .next (s.complete n { status := stConflict, detail := s.servoState % 256 }) :=
  h.conflict (hrun.trans (if_pos hrefused))

/-! ### What goes on after a change of the servo alone -/

/-- An instruction that changes the servo and goes on. -/
theorem Starts.servoGoes {form : Cmd → Bool} {m : Meaning} {n : Nat} {f : Flight} {s : State} {x : Servo}
    (h : Starts form m n f s) (hrun : m.run f f.cmd.loc s = (s.setServo x).goesOn f.num 0) :
    ∃ t : State, Sys2Proof.Machine.startRow s n form m = .next t ∧ t.flight n = some { f with phase := .exec 0 } ∧
      t.servo = x ∧ { t with plyn := s.plyn, servo := s.servo } = s := by
  have hflight : (s.setServo x).flight f.num = some f := by rw [h.num]; exact h.flight
  obtain ⟨hnone, hgo, hrest⟩ := State.goesOn_spec 0 hflight
  refine ⟨((s.setServo x).goesOn f.num 0).1, h.startRow_goes (hrun.trans (Prod.ext rfl hnone)), ?_, ?_, ?_⟩
  · rw [← h.num]
    exact hgo
  · exact (congrArg State.servo hrest :)
  · exact congrArg (fun t : State => { t with servo := s.servo }) hrest

/-! ### Steps that are asked for (R93 to R95) -/

/-- With no step committed a step that is asked for is committed, with its apply tick. -/
theorem State.askStep_commits {s : State} (x : StepC) (h : s.servo.step = none) :
    s.askStep x = s.commit { (if x.set then { x with bound := some (s.boundaryAfter 1280) } else x) with
      tick := s.stepTick (if x.set then { x with bound := some (s.boundaryAfter 1280) } else x) } := by
  unfold State.askStep
  dsimp only
  rw [h]
  rfl

/-- A TIME.SET that has just chosen its boundary is applied there. -/
theorem State.stepTick_own (s : State) {x : StepC} (hset : x.set = true) (hbound : x.bound = some (s.boundaryAfter 1280)) :
    s.stepTick x = s.tickOf (s.boundaryAfter 1280) := by
  unfold State.stepTick
  rw [if_pos hset, hbound, Option.getD_some, Nat.max_self]

theorem State.slewStop_setServo (s : State) (x : Servo) : (s.setServo x).slewStop =
    s.setServo { x with slewLeft := 0, slewRate := 0, slewEnd := s.now, epochBySlew := false } := rfl

/-- A TIME.SET with no step committed commits its own and stops a slew. -/
theorem State.askStep_set {s : State} (secs n : Nat) (h : s.servo.step = none) :
    s.askStep { set := true, secs := secs, num := some n } = s.setServo
      { ({ s.servo with step := some { set := true, secs := secs, tick := s.tickOf (s.boundaryAfter 1280),
                                       bound := some (s.boundaryAfter 1280), num := some n } }).awaitStep
          { set := true, secs := secs, tick := s.tickOf (s.boundaryAfter 1280), bound := some (s.boundaryAfter 1280),
            num := some n } with
        slewLeft := 0, slewRate := 0, slewEnd := s.now, epochBySlew := false } := by
  have htick := s.stepTick_own (x := { set := true, secs := secs, bound := some (s.boundaryAfter 1280), num := some n }) rfl rfl
  rw [State.askStep_commits _ h]
  dsimp only
  rw [if_pos rfl, htick]
  generalize s.boundaryAfter 1280 = b
  generalize s.tickOf b = k
  rfl

/-- A TIME.STEP with no step committed commits its own. -/
theorem State.askStep_offset {s : State} (off : Int) (n : Nat) (h : s.servo.step = none) :
    s.askStep { offset := off, num := some n } = s.setServo { s.servo with
      step := some { offset := off, num := some n, tick := (s.tail 5).n + s.toSlot + 800 },
      applying := s.servo.applying.filter (fun w => w.num != n) ++
        [{ num := n, tick := (s.tail 5).n + s.toSlot + 800, left := List.range 6, result := none }] } := by
  unfold State.askStep State.commit State.stepTick
  simp only [h, Option.isSome_none, Bool.false_eq_true, if_false]
  rfl

/-- Behind a step committed already either waits its turn (log entry 25). -/
theorem State.askStep_waits {s : State} {x : StepC} (y : StepC) (h : s.servo.step = some x) :
    s.askStep y = s.setServo { s.servo with
      next := s.servo.next ++ [if y.set then { y with bound := some (s.boundaryAfter 1280) } else y] } := by
  unfold State.askStep
  simp only [h, Option.isSome_some, if_true]

/-! ### What a restart of outputs and triggers leaves (R166, R216) -/

/-- A change of outputs, triggers and registers. -/
structure OutKept (s t : State) : Prop where
  rest : { t with regs := s.regs, outs := s.outs, trigs := s.trigs } = s

theorem OutKept.refl (s : State) : OutKept s s := ⟨rfl⟩

theorem OutKept.trans {s t u : State} (h : OutKept s t) (k : OutKept t u) : OutKept s u := by
  refine ⟨?_⟩
  conv => rhs; rw [← h.rest, ← k.rest]

theorem OutKept.ite {s t u : State} (p : Prop) [Decidable p] (h : OutKept s t) (k : OutKept s u) :
    OutKept s (if p then t else u) := by
  split
  · exact h
  · exact k

theorem OutKept.foldl {α : Type} {f : State → α → State} (h : ∀ s x, OutKept s (f s x)) (l : List α) (s : State) :
    OutKept s (l.foldl f s) := by
  induction l generalizing s with
  | nil => exact .refl s
  | cons x l ih => exact (h s x).trans (ih _)

theorem OutKept.servo {s t : State} (h : OutKept s t) : t.servo = s.servo := (congrArg State.servo h.rest :)

theorem OutKept.tails {s t : State} (h : OutKept s t) : t.tails = s.tails := (congrArg State.tails h.rest :)

theorem OutKept.trgIdle (s : State) (n cause : Nat) : OutKept s (s.trgIdle n cause) := ⟨rfl⟩

theorem OutKept.setTrig (s : State) (n : Nat) (x : Trig) : OutKept s (s.setTrig n x) := ⟨rfl⟩

theorem OutKept.put (s : State) (loc : Nat) (f : Fld) (v : Nat) : OutKept s (s.put loc f v) := ⟨rfl⟩

theorem OutKept.trgSkipTo (s : State) (n k : Nat) : OutKept s (s.trgSkipTo n k) := by
  have hlast : ∀ (t : State) (o : Option Nat), OutKept t (match o with
      | some c => if k = c then t.trgIdle n 0 else t.setTrig n { s.trig n with k := k, b := 0 }
      | none => t.setTrig n { s.trig n with k := k, b := 0 }) := by
    intro t o
    cases o with
    | none => exact .setTrig _ _ _
    | some c => exact .ite _ (.trgIdle _ _ _) (.setTrig _ _ _)
  unfold State.trgSkipTo
  exact .ite _ (.refl s) ((OutKept.put s _ _ _).trans (.ite _ (.trgIdle _ _ _) (hlast _ _)))

theorem OutKept.trgRestart (s : State) (n k : Nat) : OutKept s (s.trgRestart n k) := by
  unfold State.trgRestart
  exact .ite _ (.trgSkipTo s n k) (.setTrig _ _ _)

theorem OutKept.outSkipTo (s : State) (k o u : Nat) : OutKept s (s.outSkipTo k o u) := ⟨rfl⟩

theorem OutKept.pulseRestart (s : State) (u : Nat) (lim : Option Nat) : OutKept s (s.pulseRestart u lim) := by
  unfold State.pulseRestart
  refine OutKept.trans (.foldl (fun s x => ?_) _ s) (.foldl (fun s x => ?_) _ _)
  · exact .ite _ (.outSkipTo _ _ _ _) (.refl s)
  · exact .ite _ (.trgRestart _ _ _) (.refl s)

theorem OutKept.setPend (s : State) (p : Int) : OutKept s (s.setPend p) := ⟨rfl⟩

theorem State.setPend_outs (s : State) (p : Int) : (s.setPend p).outs = s.outs ∧ (s.setPend p).trigs = s.trigs := ⟨rfl, rfl⟩

theorem State.refPend_setPend_zero (s : State) : (s.setPend 0).refPend = 0 := by
  have hlo : (s.setPend 0).fld locArb R.REF_PEND_LO_PEND = 0 :=
    (State.fld_put_apart _ _ _ (by decide)).trans (State.fld_put_self _ _ _ (by decide))
  have hhi : (s.setPend 0).fld locArb R.REF_PEND_HI_PEND = 0 := State.fld_put_self _ _ _ (by decide)
  simp [State.refPend, State.pair, hlo, hhi, sx]

/-! ### TIME.ALIGN at its boundary (R216) -/

/-- The state in which TIME.ALIGN takes effect: its tick has come, and a step that is due on it is applied first. -/
def State.alignTick (s : State) (a : Nat) : State :=
  let k := ceilDiv (5 * a - (s.tail 5).fu) fuTick
  if s.stepDue = some k then (s.advance k).stepNow else s.advance k

/-- The alignment by `p`: the request is answered, and the outputs that it moves restart. -/
def State.aligned (u : State) (n a : Nat) (p : Int) : State :=
  let v := u.setServo { u.servo with
    align := u.servo.align.filter (fun x => x.1 != n), alignA := a,
    alignP := if u.servo.alignA = a then u.servo.alignP + p else p }
  if p = 0 then v else v.pulseRestart (a + p.natAbs) (some p.natAbs)

theorem exec_timeAlignApply {s : State} {n a due : Nat} {f : Flight} (hflight : s.flight n = some f)
    (hphase : f.phase = .exec due) (hop : f.cmd.opcode = 0x63)
    (halign : s.servo.align.find? (fun x => x.1 == n) = some (n, a)) :
    exec (.timeAlignApply n) s = .next ((((s.alignTick a).aligned n a (s.alignTick a).refPend).setPend 0).complete n
      { status := stOk, result := satBits (roundDiv (s.alignTick a).refPend 65536) 16 % 65536 }) := by
  have hgoing : s.going n (isOp 0x63) = some (f, due) := State.going_iff.2 ⟨hflight, hphase, by simp [isOp, hop]⟩
  show execTimeAlignApply n s = _
  unfold execTimeAlignApply
  rw [hgoing, halign]
  dsimp only [State.alignTick]
  generalize (if s.stepDue = some (ceilDiv (5 * a - (s.tail 5).fu) fuTick) then
    (s.advance (ceilDiv (5 * a - (s.tail 5).fu) fuTick)).stepNow
    else s.advance (ceilDiv (5 * a - (s.tail 5).fu) fuTick)) = u
  simp only [State.aligned, okC, ns16]

/-- What the alignment leaves. -/
theorem State.aligned_spec (u : State) (n a : Nat) (p : Int) : (∀ x ∈ (u.aligned n a p).servo.align, x.1 ≠ n) ∧
    (u.aligned n a p).servo.alignA = a ∧ (u.aligned n a p).tails = u.tails ∧
    (p = 0 → (u.aligned n a p).outs = u.outs ∧ (u.aligned n a p).trigs = u.trigs) := by
  unfold State.aligned
  dsimp only
  generalize hv : u.setServo { u.servo with
    align := u.servo.align.filter (fun x => x.1 != n), alignA := a,
    alignP := if u.servo.alignA = a then u.servo.alignP + p else p } = v
  have hkept : OutKept v (if p = 0 then v else v.pulseRestart (a + p.natAbs) (some p.natAbs)) :=
    .ite _ (.refl v) (.pulseRestart v _ _)
  have hservo : v.servo.align = u.servo.align.filter (fun x => x.1 != n) ∧ v.servo.alignA = a := by
    rw [← hv]
    exact ⟨rfl, rfl⟩
  have hrest : v.tails = u.tails ∧ v.outs = u.outs ∧ v.trigs = u.trigs := by
    rw [← hv]
    exact ⟨rfl, rfl, rfl⟩
  refine ⟨fun x hx => ?_, ?_, ?_, fun h => ?_⟩
  · rw [hkept.servo, hservo.1] at hx
    simpa using (List.mem_filter.1 hx).2
  · rw [hkept.servo, hservo.2]
  · rw [hkept.tails, hrest.1]
  · rw [if_pos h]
    exact hrest.2

/-- Settles O27: each change of time is a change of the servo's record, which its tick takes up. -/
theorem timeChangesAndAlignment : Obligations.TimeChangesAndAlignment := by
  unfold Obligations.TimeChangesAndAlignment
  refine ⟨fun n f s => ⟨?refused, fun hfree hnone => ⟨fun hstarts => ?set, fun hstarts => ⟨fun hzero => ?zero,
    fun hoff => ?step⟩⟩, fun hfree x hx => ⟨fun hstarts => ?setWaits, fun hstarts hoff => ?stepWaits⟩,
    fun hfree hstarts => ?slew⟩, fun n f s => ⟨fun hstarts => ?align, fun due a hflight hphase hop halign => ?apply⟩⟩
  case refused =>
    intro r hr hstarts hcause
    have hrefused := State.timeRefused_of hcause
    simp only [List.mem_cons, List.not_mem_nil, or_false] at hr
    obtain rfl | rfl | rfl := hr
    · exact hstarts.conflict (if_pos hrefused)
    · exact hstarts.conflict (if_pos hrefused)
    · exact hstarts.conflict (if_pos hrefused)
  case set =>
    have hrun : mTimeSet.run f f.cmd.loc s = _ := if_neg (by simp [hfree])
    rw [hstarts.num, State.askStep_set _ _ hnone] at hrun
    obtain ⟨t, hexec, hflight, hservo, hrest⟩ := hstarts.servoGoes (hrun.trans (by rw [hstarts.num]))
    refine ⟨t, hexec, hflight, ?_, ?_, ?_, ?_, hrest⟩
    · rw [hservo]; rfl
    · rw [hservo]
      exact List.mem_append_right _ (List.mem_singleton.2 rfl)
    · rw [hservo]
    · rw [hservo]
  case zero => exact hstarts.ok (k := 0) ((if_neg (by simp [hfree])).trans (if_pos hzero))
  case step =>
    have hrun : mTimeStep.run f f.cmd.loc s = _ := (if_neg (by simp [hfree])).trans (if_neg hoff)
    rw [hstarts.num, State.askStep_offset _ _ hnone] at hrun
    obtain ⟨t, hexec, hflight, hservo, hrest⟩ := hstarts.servoGoes (hrun.trans (by rw [hstarts.num]))
    exact ⟨t, hexec, hflight, hservo, hrest⟩
  case setWaits =>
    have hrun : mTimeSet.run f f.cmd.loc s = _ := if_neg (by simp [hfree])
    rw [hstarts.num, State.askStep_waits _ hx] at hrun
    obtain ⟨t, hexec, hflight, hservo, hrest⟩ := hstarts.servoGoes (hrun.trans (by rw [hstarts.num]))
    exact ⟨t, hexec, hflight, hservo, hrest⟩
  case stepWaits =>
    have hrun : mTimeStep.run f f.cmd.loc s = _ := (if_neg (by simp [hfree])).trans (if_neg hoff)
    rw [hstarts.num, State.askStep_waits _ hx] at hrun
    obtain ⟨t, hexec, hflight, hservo, hrest⟩ := hstarts.servoGoes (hrun.trans (by rw [hstarts.num]))
    exact ⟨t, hexec, hflight, hservo, hrest⟩
  case slew =>
    have hrun : mTimeSlew.run f f.cmd.loc s = _ := if_neg (by simp [hfree])
    obtain ⟨t, hexec, hflight, hservo, hrest⟩ := hstarts.servoGoes
      (x := { (s.slewBy (sx f.cmd.opb 64) f.cmd.opa).servo with slews := s.servo.slews ++ [(f.num, s.now)] }) hrun
    refine ⟨t, hexec, hflight, ?_, ?_, ?_, ?_, hrest⟩
    · rw [hservo]; rfl
    · rw [hservo]; rfl
    · rw [hservo, hstarts.num]
    · rw [hservo]; rfl
  case align =>
    obtain ⟨t, hexec, hflight, hservo, hrest⟩ := hstarts.servoGoes
      (x := { s.servo with align := s.servo.align ++ [(f.num, s.boundaryAfter 1280)] }) rfl
    exact ⟨t, hexec, hflight, by rw [hservo, hstarts.num], hrest⟩
  case apply =>
    intro k u
    obtain ⟨halone, hat, htails, hsame⟩ := State.aligned_spec u n a u.refPend
    have hpend : OutKept (u.aligned n a u.refPend) ((u.aligned n a u.refPend).setPend 0) := .setPend _ 0
    have hstill := State.setPend_outs (u.aligned n a u.refPend) 0
    refine ⟨_, exec_timeAlignApply hflight hphase hop halign, State.refPend_setPend_zero _, ?_, ?_, ?_, hpend.tails.trans htails,
      fun hzero => ⟨hstill.1.trans (hsame hzero).1, hstill.2.trans (hsame hzero).2⟩⟩
    · exact fun x hx => halone x (hpend.servo ▸ hx)
    · rw [s.fu_advance k (t := 5) (by decide)]
      simp only [k, ceilDiv, fuTick]
      omega
    · exact (congrArg Servo.alignA hpend.servo).trans hat

end Sys2Proof.Machine
end

section
/-! PROOFS. TIME.ARM, and the pulses of a trigger (R222 to R228). -/

namespace Sys2Proof.Machine

/-! ### What has been sent stays sent -/

/-- Nothing that was sent is taken back. -/
def SentKept (s t : State) : Prop := ∀ x ∈ s.sent, x ∈ t.sent

theorem SentKept.refl (s : State) : SentKept s s := fun _ h => h

theorem SentKept.trans {s t u : State} (h : SentKept s t) (k : SentKept t u) : SentKept s u := fun x hx => k x (h x hx)

theorem SentKept.of_eq {s t : State} (h : t.sent = s.sent) : SentKept s t := fun _ hx => h ▸ hx

theorem SentKept.ite {s t u : State} (p : Prop) [Decidable p] (h : SentKept s t) (k : SentKept s u) :
    SentKept s (if p then t else u) := by
  split
  · exact h
  · exact k

theorem SentKept.foldl {α : Type} {f : State → α → State} (h : ∀ s x, SentKept s (f s x)) (l : List α) (s : State) :
    SentKept s (l.foldl f s) := by
  induction l generalizing s with
  | nil => exact .refl s
  | cons x l ih => exact (h s x).trans (ih _)

theorem SentKept.send (s : State) (x : Sent) : SentKept s (s.send x) := fun _ h => List.mem_cons_of_mem _ h

theorem SentKept.put (s : State) (loc : Nat) (f : Fld) (v : Nat) : SentKept s (s.put loc f v) := .of_eq rfl

theorem SentKept.msix (s : State) (v : Nat) : SentKept s (s.msix v) := by
  unfold State.msix
  exact .ite _ (.of_eq rfl) (.send s _)

theorem SentKept.fpInt (s : State) (b : Nat) : SentKept s (s.fpInt b) := by
  have h : SentKept s ((s.put locFp ⟨0x24, b, 1⟩ 1).bump locFp (R.FP_INT_CNT_COUNT b)) := .of_eq rfl
  unfold State.fpInt
  exact .ite _ (h.trans (.msix _ _)) h

theorem SentKept.setRing (s : State) (n : Nat) (x : Ring) : SentKept s (s.setRing n x) := .of_eq rfl

theorem SentKept.setFlight (s : State) (f : Flight) : SentKept s (s.setFlight f) := .of_eq rfl

theorem SentKept.dmaPut (s : State) (a : Nat) (bs : List Byte) : SentKept s (s.dmaPut a bs) := by
  unfold State.dmaPut State.dmaWrite
  split <;> exact .of_eq rfl

theorem SentKept.ringTest (s : State) (n : Nat) : SentKept s (s.ringTest n) := by
  unfold State.ringTest
  exact .ite _ ((SentKept.msix s _).trans (.put _ _ _ _)) (.refl s)

theorem SentKept.pushEntry (s : State) (n len e : Nat) : SentKept s (s.pushEntry n len e) :=
  ((SentKept.dmaPut s _ _).trans (.setRing _ _ _)).trans (.ringTest _ _)

theorem SentKept.haltOn (s : State) (ring status : Nat) : SentKept s (s.haltOn ring status) := by
  unfold State.haltOn
  exact .ite _ ((SentKept.setRing s _ _).trans (.fpInt _ _)) (.refl s)

theorem SentKept.retire (s : State) (f : Flight) : SentKept s (s.retire f) := .of_eq rfl

theorem SentKept.endSeries (s : State) (f : Flight) (status detail : Nat) : SentKept s (s.endSeries f status detail) := by
  unfold State.endSeries
  exact .ite _ (((SentKept.haltOn s _ _).trans (.pushEntry _ _ _ _)).trans (.retire _ _))
    ((SentKept.haltOn s _ _).trans (.setFlight _ _))

theorem SentKept.afterRec (s : State) (f : Flight) (status : Nat) : SentKept s (s.afterRec f status) := by
  unfold State.afterRec
  refine .ite _ (.retire s f) (.ite _ (.endSeries s f _ _) ?_)
  dsimp only
  split
  · exact .setFlight s _
  · exact .endSeries s f _ _

theorem SentKept.deliver (s : State) (f : Flight) (status detail result time : Nat) :
    SentKept s (s.deliver f status detail result time) := by
  unfold State.deliver
  exact .ite _ (.ite _ ((SentKept.pushEntry s _ _ _).trans (.afterRec _ _ _)) (.setFlight s _)) (.afterRec s f status)

theorem SentKept.complete (s : State) (n : Nat) (c : Compl) : SentKept s (s.complete n c) := by
  unfold State.complete
  split
  · exact .refl s
  · dsimp only
    refine SentKept.trans ?_ (.deliver _ _ _ _ _ _)
    refine SentKept.trans ?_ (SentKept.ite _ (.setRing _ _ _) (.refl _))
    exact (SentKept.ite _ (.put _ _ _ _) (.refl _)).trans (.haltOn _ _ _)

theorem SentKept.wakeWaits (s : State) (kind result time : Nat) : SentKept s (s.wakeWaits kind result time) :=
  SentKept.foldl (f := fun (t : State) (f : Flight) => t.complete f.num _) (fun t f => .complete t f.num _) _ s

theorem SentKept.event (s : State) (kind result time : Nat) (ovr : Option Nat) :
    SentKept s (s.event kind result time ovr).1 := by
  unfold State.event
  refine (SentKept.wakeWaits s kind result time).trans ?_
  dsimp only
  split
  · exact .refl _
  · split
    · exact .pushEntry _ _ _ _
    · exact (SentKept.setRing _ _ _).trans (.fpInt _ _)

theorem SentKept.setCap (s : State) (ch : Nat) (x : Cap) : SentKept s (s.setCap ch x) := .of_eq rfl

theorem SentKept.capEdge (s : State) (ch : Nat) (falling : Bool) (here stamp : Nat) :
    SentKept s (s.capEdge ch falling here stamp) := by
  unfold State.capEdge
  refine .ite _ (.refl s) ((SentKept.put s _ _ _).trans (.ite _ ((SentKept.setCap _ _ _).trans (.put _ _ _ _)) ?_))
  refine (SentKept.setCap _ _ _).trans (.ite _ (.setCap _ _ _) ?_)
  exact SentKept.trans (.event _ _ _ _ _) (.ite _ (.refl _) (.setCap _ _ _))

theorem SentKept.loopEdge (s : State) (n : Nat) (falling : Bool) (inst : Int) (den : Nat) (at_ : Nat × Nat) :
    SentKept s (s.loopEdge n falling inst den at_) := by
  refine .foldl (fun s ch => ?_) _ s
  exact SentKept.trans (t := s.freeNat.2) (.of_eq rfl) (.capEdge _ _ _ _ _)

/-! ### The pulse of a trigger -/

/-- The registers of a trigger whose pulse begins: STATE is FIRING, and FIRED counts the first pulse of a burst (R222). -/
def State.firing (s : State) (n : Nat) (x : Trig) : State :=
  let s := s.put (hubLoc (20 + n)) R.TRG_STAT_STATE 2
  if x.b = 0 ∨ x.now then s.incr (hubLoc (20 + n)) R.TRG_FIRED_FIRED else s

/-- The two edges of a pulse go out, and the trigger steps on (R222, R226, R228, R389). -/
def State.pulse (s : State) (n : Nat) (x : Trig) (a b : Nat × Nat) (e f : Int) (den : Nat) : State :=
  let held := s.calBusy (hubLoc (20 + n)) 3
  let s := if held then s else (s.send (.edge (20 + n) a.1 a.2)).send (.edge (20 + n) b.1 b.2)
  let s := s.firing n x
  let low := s.flag (hubLoc (20 + n)) R.TRG_CTRL_POLARITY
  let s := if held then s else (s.loopEdge n low e den a).loopEdge n (!low) f den b
  s.trgStep n

/-- When a pulse begins: the state at its tick, its two edges, and its nominal instant. The first pulse of a late trigger
begins on the next tick (R223). -/
def State.pulseAt (s : State) (n : Nat) : State × ((Nat × Nat) × (Nat × Nat)) × Int :=
  let x := s.trig n
  let den := s.trgDen n
  let w : Int := (s.fld (hubLoc (20 + n)) R.TRG_WIDTH_WIDTH : Int) * 1000
  let s := if x.now then s.advance 1 else s
  let inst : Int :=
    if x.now then (((s.tail 5).u : Nat) : Int) * den + roundDiv (fsU (s.trgDelay n) * den) 15625
    else
      let i := s.trgInst n x.k x.b
      if s.trgHold n then (i : Int) + s.pendAt (i / max den 1) * den else i
  let ab :=
    if x.now then
      let c := (roundDiv (w * 4096) 1600000).toNat
      (((s.tail 5).n, 0), ((s.tail 5).n + c / 4096, c % 4096))
    else (s.place 5 inst den (s.trgDelay n), s.place 5 inst den (s.trgDelay n - w))
  (if x.now then s else s.advanceToTick ab.1.1, ab, inst)

theorem exec_triggerFire_dead {s : State} {n : Nat} (hdead : s.trgLive n = false) : exec (.triggerFire n) s = .next s := by
  show execTriggerFire n s = _
  unfold execTriggerFire
  rw [if_pos (.inr (by simp [hdead]))]

theorem exec_triggerFire_live {s : State} {n : Nat} (hn : n < 8) (hlive : s.trgLive n = true) :
    exec (.triggerFire n) s = .next ((s.pulseAt n).1.pulse n (s.trig n) (s.pulseAt n).2.1.1 (s.pulseAt n).2.1.2
      (s.pulseAt n).2.2
      ((s.pulseAt n).2.2 + roundDiv (fsU ((s.fld (hubLoc (20 + n)) R.TRG_WIDTH_WIDTH : Int) * 1000) * s.trgDen n) 15625)
      (s.trgDen n)) := by
  have hgo : ¬(8 ≤ n ∨ (!s.trgLive n) = true) := by simp [hlive, hn]
  show execTriggerFire n s = _
  unfold execTriggerFire
  rw [if_neg hgo]
  rfl

theorem State.pulseAt_rest (s : State) (n : Nat) : { (s.pulseAt n).1 with tails := s.tails } = s := by
  unfold State.pulseAt
  dsimp only
  split <;> rfl

theorem State.pulseAt_late {s : State} {n : Nat} (hnow : (s.trig n).now = true) :
    (s.pulseAt n).2.1.1 = ((s.tail 5).n + 1, 0) := by
  have htail : ((s.advance 1).tail 5).n = (s.tail 5).n + 1 := by rw [State.tail_advance _ _ (by decide)]
  simp only [State.pulseAt, hnow, if_true, htail]

theorem State.trgStep_rest (s : State) (n : Nat) : { s.trgStep n with regs := s.regs, trigs := s.trigs } = s := by
  unfold State.trgStep State.trgIdle
  dsimp only
  repeat' split
  all_goals rfl

theorem SentKept.trgStep (s : State) (n : Nat) : SentKept s (s.trgStep n) :=
  .of_eq (congrArg State.sent (s.trgStep_rest n) :)

theorem SentKept.firing (s : State) (n : Nat) (x : Trig) : SentKept s (s.firing n x) := by
  unfold State.firing
  exact .of_eq (by split <;> rfl)

theorem State.firing_rest (s : State) (n : Nat) (x : Trig) : { s.firing n x with regs := s.regs } = s := by
  unfold State.firing
  dsimp only
  split <;> rfl

theorem State.firing_fld (s : State) (n : Nat) (x : Trig) {l : Nat} {g : Fld} (hg : g.off < 16777216)
    (h : l ≠ hubLoc (20 + n) ∨ g.off ≠ 0x20 ∧ g.off ≠ 0x24) : (s.firing n x).fld l g = s.fld l g := by
  have hput : ∀ (t : State) (f : Fld) (v : Nat), (f.off = 0x20 ∨ f.off = 0x24) →
      (t.put (hubLoc (20 + n)) f v).fld l g = t.fld l g := by
    intro t f v hf
    by_cases hl : l = hubLoc (20 + n)
    · subst hl
      exact t.fld_put_off _ v (by omega)
    · exact t.fld_put_loc v hl (by omega) hg
  unfold State.firing State.incr
  dsimp only
  split
  · rw [hput _ _ _ (.inr rfl), hput _ _ _ (.inl rfl)]
  · exact hput _ _ _ (.inl rfl)

theorem State.firing_state (s : State) (n : Nat) (x : Trig) :
    (s.firing n x).fld (hubLoc (20 + n)) R.TRG_STAT_STATE = 2 := by
  unfold State.firing State.incr
  dsimp only
  split
  · rw [State.fld_put_off _ _ _ (by decide), State.fld_put_self _ _ _ (by decide)]
    rfl
  · exact State.fld_put_self _ _ _ (by decide)

theorem State.firing_fired (s : State) (n : Nat) (x : Trig) :
    (s.firing n x).fld (hubLoc (20 + n)) R.TRG_FIRED_FIRED =
      if x.b = 0 ∨ x.now = true then (s.fld (hubLoc (20 + n)) R.TRG_FIRED_FIRED + 1) % 2 ^ R.TRG_FIRED_FIRED.len
      else s.fld (hubLoc (20 + n)) R.TRG_FIRED_FIRED := by
  unfold State.firing State.incr
  dsimp only
  split
  · rw [State.fld_put_self _ _ _ (by decide), State.fld_put_off _ _ _ (by decide)]
  · exact State.fld_put_off _ _ _ (by decide)

theorem State.trgCount_congr {s t : State} {n : Nat} (htrig : t.trig n = s.trig n)
    (hcount : t.fld (hubLoc (20 + n)) R.TRG_COUNT_COUNT = s.fld (hubLoc (20 + n)) R.TRG_COUNT_COUNT) :
    t.trgCount n = s.trgCount n := by
  unfold State.trgCount
  rw [htrig, hcount]

/-! ### The step of a trigger after its pulse (R222, R226) -/

theorem State.trgIdle_spec (s : State) (n cause : Nat) :
    (s.trgIdle n cause).trig n = {} ∧ (s.trgIdle n cause).fld (hubLoc (20 + n)) R.TRG_STAT_STATE = 0 ∧
      (s.trgIdle n cause).fld (hubLoc (20 + n)) R.TRG_STAT_CAUSE = cause % 4 := by
  refine ⟨s.trig_setTrig_self n {}, ?_, State.fld_put_self _ _ _ (by decide)⟩
  unfold State.trgIdle
  dsimp only
  rw [State.fld_put_apart _ _ _ (by decide)]
  exact State.fld_put_self _ _ _ (by decide)

theorem State.trgStep_burst {s : State} {n : Nat} (hnow : (s.trig n).now = false) (hmode : (s.trig n).mode = 3)
    (hb : (s.trig n).b < s.fld (hubLoc (20 + n)) R.TRG_BURST_B_M1) :
    s.trgStep n = s.setTrig n { s.trig n with b := (s.trig n).b + 1 } := by
  simp only [State.trgStep, hnow, Bool.false_eq_true, if_false]
  exact if_pos ⟨hmode, hb⟩

theorem State.trgStep_last {s : State} {n c : Nat} (hnow : (s.trig n).now = false)
    (hb : (s.trig n).mode ≠ 3 ∨ s.fld (hubLoc (20 + n)) R.TRG_BURST_B_M1 ≤ (s.trig n).b) (hc : s.trgCount n = some c)
    (hk : c ≤ (s.trig n).k + 1) : s.trgStep n = s.trgIdle n 0 := by
  simp only [State.trgStep, hnow, Bool.false_eq_true, if_false, hc]
  rw [if_neg (by omega), if_pos (by simpa using hk)]

theorem State.trgStep_next {s : State} {n : Nat} (hnow : (s.trig n).now = false)
    (hb : (s.trig n).mode ≠ 3 ∨ s.fld (hubLoc (20 + n)) R.TRG_BURST_B_M1 ≤ (s.trig n).b)
    (hc : s.trgCount n = none ∨ ∃ c, s.trgCount n = some c ∧ (s.trig n).k + 1 < c) :
    s.trgStep n = s.setTrig n { s.trig n with k := (s.trig n).k + 1, b := 0 } := by
  have hmore : ¬(s.trgCount n).any (fun c => decide (c ≤ (s.trig n).k + 1)) = true := by
    rcases hc with hc | ⟨c, hc, hk⟩ <;> simp [hc]
    exact hk
  simp only [State.trgStep, hnow, Bool.false_eq_true, if_false]
  rw [if_neg (by omega), if_neg hmore]

theorem State.trgStep_trig_ne (s : State) {n j : Nat} (h : j ≠ n) : (s.trgStep n).trig j = s.trig j := by
  have hset : ∀ x, (s.setTrig n x).trig j = s.trig j := fun x => s.trig_setTrig_ne x h
  unfold State.trgStep
  dsimp only
  repeat' split
  all_goals exact hset _

theorem State.trgStep_fired (s : State) (n : Nat) :
    (s.trgStep n).fld (hubLoc (20 + n)) R.TRG_FIRED_FIRED = s.fld (hubLoc (20 + n)) R.TRG_FIRED_FIRED := by
  have hidle : (s.trgIdle n 0).fld (hubLoc (20 + n)) R.TRG_FIRED_FIRED = s.fld (hubLoc (20 + n)) R.TRG_FIRED_FIRED := by
    unfold State.trgIdle
    dsimp only
    rw [State.fld_put_off _ _ _ (by decide), State.fld_put_off _ _ _ (by decide)]
    exact State.fld_congr rfl rfl _ _
  have hset : ∀ x, (s.setTrig n x).fld (hubLoc (20 + n)) R.TRG_FIRED_FIRED = s.fld (hubLoc (20 + n)) R.TRG_FIRED_FIRED :=
    fun x => State.fld_congr rfl rfl _ _
  unfold State.trgStep
  dsimp only
  repeat' split
  all_goals first | exact hidle | exact hset _

/-! ### A pulse whose output no calibration holds -/

theorem State.pulse_held {s : State} {n : Nat} (x : Trig) (a b : Nat × Nat) (e f : Int) (den : Nat)
    (h : s.calBusy (hubLoc (20 + n)) 3 = true) : s.pulse n x a b e f den = (s.firing n x).trgStep n := by
  simp only [State.pulse, h, if_true]

theorem SentKept.pulse {s : State} {n : Nat} (x : Trig) (a b : Nat × Nat) (e f : Int) (den : Nat)
    (h : s.calBusy (hubLoc (20 + n)) 3 = false) :
    SentKept ((s.send (.edge (20 + n) a.1 a.2)).send (.edge (20 + n) b.1 b.2)) (s.pulse n x a b e f den) := by
  simp only [State.pulse, h, Bool.false_eq_true, if_false]
  exact ((SentKept.firing _ _ _).trans ((SentKept.loopEdge _ _ _ _ _ _).trans (.loopEdge _ _ _ _ _ _))).trans (.trgStep _ _)

theorem State.loopEdge_nil {s : State} {n : Nat} (h : s.loopCaps n = []) (v : Bool) (e : Int) (den : Nat) (a : Nat × Nat) :
    s.loopEdge n v e den a = s := by
  simp only [State.loopEdge, h, List.foldl_nil]

theorem hubLoc_ne {a b : Nat} (h : a ≠ b) : hubLoc a ≠ hubLoc b := by
  unfold hubLoc mkLoc
  omega

theorem State.loopCaps_congr {s t : State} (n : Nat)
    (h : ∀ ch < 8, ∀ g : Fld, g.off = 0 → t.fld (hubLoc (12 + ch)) g = s.fld (hubLoc (12 + ch)) g) :
    t.loopCaps n = s.loopCaps n := by
  refine List.filter_congr fun ch hch => ?_
  have hlt := List.mem_range.1 hch
  simp only [State.flag, h ch hlt R.CAP_CTRL_LOOP rfl, h ch hlt R.CAP_CTRL_LOOP_TRG rfl]

theorem State.pulse_alone {s : State} {n : Nat} (x : Trig) (a b : Nat × Nat) (e f : Int) (den : Nat)
    (h : s.calBusy (hubLoc (20 + n)) 3 = false) (hcaps : s.loopCaps n = []) :
    s.pulse n x a b e f den =
      (((s.send (.edge (20 + n) a.1 a.2)).send (.edge (20 + n) b.1 b.2)).firing n x).trgStep n := by
  have hnone : ∀ t : State, t.regs = s.regs → t.part = s.part → (t.firing n x).loopCaps n = [] := by
    intro t hr hp
    rw [← hcaps]
    refine State.loopCaps_congr n fun ch hch g hg => ?_
    rw [State.firing_fld _ _ _ (by omega) (.inl (hubLoc_ne (by omega)))]
    exact State.fld_congr hr hp _ _
  have hsent := hnone ((s.send (.edge (20 + n) a.1 a.2)).send (.edge (20 + n) b.1 b.2)) rfl rfl
  simp only [State.pulse, h, Bool.false_eq_true, if_false, State.loopEdge_nil hsent]

theorem State.pulseAt_cals (s : State) (n : Nat) : (s.pulseAt n).1.cals = s.cals := (congrArg State.cals (s.pulseAt_rest n) :)

theorem State.calBusy_congr {s t : State} {loc item : Nat} (h : t.cals = s.cals) :
    t.calBusy loc item = s.calBusy loc item := by
  unfold State.calBusy State.calOf
  rw [h]

/-! ### TIME.ARM -/

theorem State.arm_trig_ne (s : State) {n j : Nat} (mode t0 k : Nat) (now : Bool) (h : j ≠ n) :
    (s.arm n mode t0 k now).trig j = s.trig j := by
  have hset := s.trig_setTrig_ne { mode := mode, t0 := t0, k := k, now := now } h
  unfold State.trig at hset ⊢
  rw [State.arm, State.trgSafe_trigs]
  exact hset

theorem State.arm_rest (s : State) (n mode t0 k : Nat) (now : Bool) :
    { s.arm n mode t0 k now with trigs := s.trigs, regs := s.regs } = s := by
  unfold State.arm State.trgSafe State.muteTrig
  dsimp only
  repeat' split
  all_goals rfl

/-- An armed trigger is ARMED, or MUTED where safe state mutes it (R226, R229). -/
theorem State.arm_state (s : State) (n mode t0 k : Nat) (now : Bool) :
    (s.arm n mode t0 k now).fld (hubLoc (20 + n)) R.TRG_STAT_STATE =
      if s.faults.reduced = true ∨ (s.safe = true ∧ s.flag (hubLoc (20 + n)) R.TRG_CTRL_SAFE_MUTE = true) then 3 else 1 := by
  have hone : ((s.setTrig n { mode := mode, t0 := t0, k := k, now := now }).put (hubLoc (20 + n)) R.TRG_STAT_STATE 1).fld
      (hubLoc (20 + n)) R.TRG_STAT_STATE = 1 := State.fld_put_self _ _ _ (by decide)
  have hmute : ((s.setTrig n { mode := mode, t0 := t0, k := k, now := now }).put (hubLoc (20 + n)) R.TRG_STAT_STATE 1).flag
      (hubLoc (20 + n)) R.TRG_CTRL_SAFE_MUTE = s.flag (hubLoc (20 + n)) R.TRG_CTRL_SAFE_MUTE := by
    unfold State.flag
    rw [State.fld_put_off _ _ _ (by decide)]
    rfl
  unfold State.arm State.trgSafe
  dsimp only
  rw [hmute]
  generalize hu : (s.setTrig n { mode := mode, t0 := t0, k := k, now := now }).put (hubLoc (20 + n)) R.TRG_STAT_STATE 1 = u
    at hone
  have hr : u.faults.reduced = s.faults.reduced := by rw [← hu]; rfl
  have hs : u.safe = s.safe := by
    rw [← hu]
    unfold State.safe State.flag
    rw [State.fld_put_ne _ _ (by unfold regKey; simp only [R.FLT_STAT_SAFE, R.TRG_STAT_STATE]; omega)]
    rfl
  rw [hr, hs]
  simp only [Bool.or_eq_true, Bool.and_eq_true]
  split
  · unfold State.muteTrig
    dsimp only
    rw [hone, if_pos (.inl rfl)]
    exact State.fld_put_self _ _ _ (by decide)
  · exact hone

theorem mTimeArm_run_late {f : Flight} {loc : Nat} {s : State} (hmode : f.cmd.opa % 4 ≠ 0)
    (hidle : s.fld loc R.TRG_STAT_STATE = 0) (hshape : s.shapeBad (locUnit loc - 20) (f.cmd.opa % 4) = false)
    (hhorizon : sdiff f.cmd.opb s.txNow ≠ -horizon)
    (hgrace : ¬(s.nowU 6 : Int) + 65536000 - fromTx64 (s.nowU 6) f.cmd.opb ≤
      ((s.ring f.ring).grace * 1000 * 65536 : Nat)) :
    mTimeArm.run f loc s =
      let t0 := fromTx64 (s.nowU 6) f.cmd.opb
      let l : Int := (s.nowU 6 : Int) + 65536000 - t0
      let g := (s.ring f.ring).grace * 1000 * 65536
      let n := locUnit loc - 20
      let mode := f.cmd.opa % 4
      if f.cmd.late = 0 then (s, some { status := stExpired })
      else if f.cmd.late = 1 then
        (s.arm n mode t0 (l.toNat * s.trgDen n / max (s.trgPeriod n) 1 + 1) true, some { status := stLate, result := lateNs l })
      else
        let j := ceilDiv ((l - g).toNat * s.trgDen n) (max (s.trgPeriod n) 1)
        if (if mode = 1 then some 1 else if s.fld loc R.TRG_COUNT_COUNT = 0 then none
            else some (s.fld loc R.TRG_COUNT_COUNT)).all (fun c => decide (j < c)) then
          (s.arm n mode t0 j false, some { status := stOk, detail := j % 256 })
        else (s, some { status := stExpired }) := by
  have hlive : ¬ ((f.cmd.opa % 4 = 0) = (s.fld loc R.TRG_STAT_STATE = 0)) := by simp [hmode, hidle]
  simp only [mTimeArm, if_neg hlive, if_neg hmode, hshape, Bool.false_eq_true, if_false, if_neg hhorizon, if_neg hgrace]

/-- NEXT: the trigger is armed with instant `j`, the first within the grace window, unless its COUNT has none (R224). -/
theorem exec_timeArm_next {n j : Nat} {f : Flight} {s : State}
    (hstarts : Starts (fun c => c.opcode == 0x64 && c.opa % 4 != 0) mTimeArm n f s)
    (hidle : s.fld f.cmd.loc R.TRG_STAT_STATE = 0) (hshape : s.shapeBad (locUnit f.cmd.loc - 20) (f.cmd.opa % 4) = false)
    (hhorizon : sdiff f.cmd.opb s.txNow ≠ -horizon)
    (hgrace : ¬(s.nowU 6 : Int) + 65536000 - fromTx64 (s.nowU 6) f.cmd.opb ≤
      ((s.ring f.ring).grace * 1000 * 65536 : Nat))
    (hlate : 2 ≤ f.cmd.late) (hone : f.cmd.opa % 4 ≠ 1)
    (hj : ceilDiv (((s.nowU 6 : Int) + 65536000 - fromTx64 (s.nowU 6) f.cmd.opb -
      ((s.ring f.ring).grace * 1000 * 65536 : Nat)).toNat * s.trgDen (locUnit f.cmd.loc - 20))
        (max (s.trgPeriod (locUnit f.cmd.loc - 20)) 1) = j) :
    ((s.fld f.cmd.loc R.TRG_COUNT_COUNT = 0 ∨ j < s.fld f.cmd.loc R.TRG_COUNT_COUNT) → ∃ t : State,
      exec (.timeArm n) s = .next (t.complete n { status := stOk, detail := j % 256 }) ∧
      t.trig (locUnit f.cmd.loc - 20) = { mode := f.cmd.opa % 4, t0 := fromTx64 (s.nowU 6) f.cmd.opb, k := j }) ∧
    (s.fld f.cmd.loc R.TRG_COUNT_COUNT ≠ 0 → s.fld f.cmd.loc R.TRG_COUNT_COUNT ≤ j →
      exec (.timeArm n) s = .next (s.complete n { status := stExpired })) := by
  have hmode : f.cmd.opa % 4 ≠ 0 := by simpa using (Bool.and_eq_true_iff.1 hstarts.form).2
  have hrun := mTimeArm_run_late hmode hidle hshape hhorizon hgrace
  dsimp only at hrun
  rw [if_neg (by omega), if_neg (by omega), if_neg hone, hj] at hrun
  refine ⟨fun hc => ?_, fun h0 hc => hstarts.startRow_completes (c := { status := stExpired })
      (hrun.trans (if_neg ?_)) (by decide)⟩
  · have hexec := hstarts.startRow_completes (hrun.trans (if_pos ?_)) (show stOk ≠ stDenied by decide)
    · exact ⟨_, hexec, State.trig_arm_self _ _ _ _ _ _⟩
    split
    · rfl
    · exact decide_eq_true (hc.resolve_left ‹_›)
  · rw [if_neg h0, Option.all_some, decide_eq_true_eq]
    exact Nat.not_lt.2 hc

/-- Settles O28: TIME.ARM by the lateness of its first instant; a pulse by what holds its output and by what is left of its
burst and its count. -/
theorem triggersArmAndFire : Obligations.TriggersArmAndFire := by
  unfold Obligations.TriggersArmAndFire
  refine ⟨fun n f s => ⟨fun hstarts => ?arm, fun hstarts => ?disarm⟩, fun s n hn => ⟨exec_triggerFire_dead,
    fun hlive hheld => ?held, fun hlive hfree => ?sent, fun hlive hfree hcaps => ?alone⟩⟩
  case arm =>
    have hgrace : (((s.ring f.ring).grace * 1000 * 65536 : Nat) : Int) = ((s.ring f.ring).grace * 65536000 : Nat) := by
      omega
    have hmode : f.cmd.opa % 4 ≠ 0 := by simpa using (Bool.and_eq_true_iff.1 hstarts.form).2
    refine ⟨fun hst => ?_, fun hidle hbad => ?_, fun hidle hloc hshape hhorizon => ⟨fun hl => ?_, fun hl hlate => ?_,
      fun hl hlate => ?_, fun hl hlate hone => ?_⟩⟩
    · refine hstarts.conflict ?_
      simp only [mTimeArm]
      rw [if_pos (by simp [hmode, hst])]
    · refine hstarts.startRow_completes (c := badC 6) ?_ (by decide)
      simp only [mTimeArm]
      rw [if_neg (by simp [hmode, hidle]), if_neg hmode, if_pos hbad]
    · have hrun := mTimeArm_run_inTime hmode hidle hshape hhorizon (hl.trans_eq hgrace.symm)
      have hexec := hstarts.ok hrun
      refine ⟨_, hexec, State.trig_arm_self _ _ _ _ _ _, ?_, fun j hj => State.arm_trig_ne _ _ _ _ _ hj,
        State.arm_rest _ _ _ _ _ _⟩
      have hstate := s.arm_state (locUnit f.cmd.loc - 20) (f.cmd.opa % 4) (fromTx64 (s.nowU 6) f.cmd.opb) 0 false
      rwa [← hloc] at hstate
    · refine hstarts.startRow_completes (c := { status := stExpired }) ?_ (by decide)
      rw [mTimeArm_run_late hmode hidle hshape hhorizon (fun h => Int.not_le.2 hl (h.trans_eq hgrace))]
      exact if_pos hlate
    · have hrun := mTimeArm_run_late hmode hidle hshape hhorizon (fun h => Int.not_le.2 hl (h.trans_eq hgrace))
      dsimp only at hrun
      rw [if_neg (by omega), if_pos hlate] at hrun
      have hexec := hstarts.startRow_completes hrun (show stLate ≠ stDenied by decide)
      exact ⟨_, hexec, State.trig_arm_self _ _ _ _ _ _⟩
    · exact exec_timeArm_next hstarts hidle hshape hhorizon (fun h => Int.not_le.2 hl (h.trans_eq hgrace)) hlate hone
        (by rw [hgrace])
  case disarm =>
    have hmode : f.cmd.opa % 4 = 0 := by simpa using (Bool.and_eq_true_iff.1 hstarts.form).2
    refine ⟨fun hst => hstarts.conflict (k := 0) ?_, fun hst => hstarts.ok (k := 0) ?_, fun h0 h3 hloc => ?_⟩
    · simp only [mTimeArm]
      rw [if_pos (by simp [hmode, hst]), hst]
    · simp only [mTimeArm]
      rw [if_neg (by simp [hmode, hst]), if_pos hmode, if_pos hst]
    · obtain ⟨htrig, hstate, hcause⟩ := s.trgIdle_spec (locUnit f.cmd.loc - 20) 1
      rw [← hloc] at hstate hcause
      refine ⟨_, hstarts.ok (k := 0) ?_, htrig, hstate, hcause⟩
      simp only [mTimeArm]
      rw [if_neg (by simp [hmode, h0]), if_pos hmode, if_neg h3]
  case held =>
    have hcal : (s.pulseAt n).1.calBusy (hubLoc (20 + n)) 3 = true := by
      rw [State.calBusy_congr (s.pulseAt_cals n), hheld]
    have hrest := (((s.pulseAt n).1.firing n (s.trig n)).trgStep_rest n)
    refine ⟨_, (exec_triggerFire_live hn hlive).trans (congrArg _ (State.pulse_held _ _ _ _ _ _ hcal)), ?_, ?_⟩
    · calc _ = ((s.pulseAt n).1.firing n (s.trig n)).sent := (congrArg State.sent hrest :)
        _ = (s.pulseAt n).1.sent := (congrArg State.sent (State.firing_rest _ _ _) :)
        _ = s.sent := (congrArg State.sent (s.pulseAt_rest n) :)
    · calc _ = ((s.pulseAt n).1.firing n (s.trig n)).caps := (congrArg State.caps hrest :)
        _ = (s.pulseAt n).1.caps := (congrArg State.caps (State.firing_rest _ _ _) :)
        _ = s.caps := (congrArg State.caps (s.pulseAt_rest n) :)
  case sent =>
    have hcal : (s.pulseAt n).1.calBusy (hubLoc (20 + n)) 3 = false := by
      rw [State.calBusy_congr (s.pulseAt_cals n), hfree]
    have hsent := fun x e f den y => SentKept.pulse x (s.pulseAt n).2.1.1 (s.pulseAt n).2.1.2 e f den hcal y
    exact ⟨_, _, _, exec_triggerFire_live hn hlive, hsent _ _ _ _ _ (.tail _ (.head _)), hsent _ _ _ _ _ (.head _)⟩
  case alone =>
    have hcal : (s.pulseAt n).1.calBusy (hubLoc (20 + n)) 3 = false := by
      rw [State.calBusy_congr (s.pulseAt_cals n), hfree]
    have hrest := s.pulseAt_rest n
    have hfld : ∀ (l : Nat) (g : Fld), (s.pulseAt n).1.fld l g = s.fld l g :=
      State.fld_congr (congrArg State.regs hrest :) (congrArg State.part hrest :)
    have hnone : (s.pulseAt n).1.loopCaps n = [] := by
      rw [← hcaps]
      exact State.loopCaps_congr n fun ch _ g _ => hfld _ g
    set a := (s.pulseAt n).2.1.1 with ha
    set b := (s.pulseAt n).2.1.2
    set w := ((s.pulseAt n).1.send (.edge (20 + n) a.1 a.2)).send (.edge (20 + n) b.1 b.2) with hw
    set u := w.firing n (s.trig n) with hu
    have hufld : ∀ g : Fld, g.off < 16777216 → g.off ≠ 0x20 ∧ g.off ≠ 0x24 →
        u.fld (hubLoc (20 + n)) g = s.fld (hubLoc (20 + n)) g := fun g hg h =>
      (State.firing_fld _ _ _ hg (.inr h)).trans (hfld _ _)
    have hurest : { u with tails := s.tails, regs := s.regs, sent := s.sent } = s :=
      (congrArg (fun t : State => { t with tails := s.tails, regs := s.regs, sent := s.sent }) (w.firing_rest n (s.trig n))).trans
        (congrArg (fun t : State => { t with regs := s.regs, sent := s.sent }) hrest)
    have husent : u.sent = .edge (20 + n) b.1 b.2 :: .edge (20 + n) a.1 a.2 :: s.sent := by
      have hv : (s.pulseAt n).1.sent = s.sent := (congrArg State.sent hrest :)
      rw [← hv]
      exact (congrArg State.sent (w.firing_rest n (s.trig n)) :)
    have hufired := w.firing_fired n (s.trig n)
    have hustate := w.firing_state n (s.trig n)
    have hstep := u.trgStep_rest n
    have hutrig : ∀ j, u.trig j = s.trig j := fun j => congrArg (Tab.get ({} : Trig) · j) (congrArg State.trigs hurest :)
    have hburst := hufld R.TRG_BURST_B_M1 (by decide) (by decide)
    have hcount := State.trgCount_congr (hutrig n) (hufld R.TRG_COUNT_COUNT (by decide) (by decide))
    refine ⟨u.trgStep n, a, b, (exec_triggerFire_live hn hlive).trans (congrArg _ (State.pulse_alone _ _ _ _ _ _ hcal hnone)),
      ?_, State.pulseAt_late, ?_, fun hnow hmode hb => ?_, fun hnow hlast => ⟨fun c hc hk => ?_, fun hmore => ?_⟩,
      fun j hj => ?_, ?_⟩
    · exact (congrArg State.sent hstep :).trans husent
    · rw [State.trgStep_fired, hufired, ← hfld (hubLoc (20 + n)) R.TRG_FIRED_FIRED]
      rfl
    · rw [← hutrig n] at hnow hmode hb ⊢
      rw [← hburst] at hb
      rw [State.trgStep_burst hnow hmode hb]
      exact ⟨State.trig_setTrig_self _ _ _, hustate⟩
    · rw [← hutrig n] at hnow hlast hk
      rw [← hburst] at hlast
      rw [State.trgStep_last hnow hlast (hcount.trans hc) hk]
      exact u.trgIdle_spec n 0
    · rw [← hutrig n] at hnow hlast hmore ⊢
      rw [← hburst] at hlast
      rw [← hcount] at hmore
      rw [State.trgStep_next hnow hlast hmore]
      exact ⟨State.trig_setTrig_self _ _ _, hustate⟩
    · exact (State.trgStep_trig_ne _ hj).trans (hutrig j)
    · exact (congrArg (fun t : State => { t with tails := s.tails, trigs := s.trigs, regs := s.regs, sent := s.sent }) hstep
        ).trans (congrArg (fun t : State => { t with trigs := s.trigs }) hurest)

end Sys2Proof.Machine
end

section
/-! PROOFS. LINK.ASYM and LINK.SOUND (R133 to R139). -/

namespace Sys2Proof.Machine

theorem satBits_lt (i : Int) : satBits i 32 < 2 ^ 32 := by
  unfold satBits toBits
  split
  · omega
  · split <;> omega

/-! ### The effective asymmetry (R135) -/

/-- What a change of the link record other than the sounding, and a put beside RLK_ASYM_EFF, leave. -/
theorem State.asymSync_cases (s : State) (d p : Nat) :
    (s.pfld d p R.RLK_ASYM_EFF_A = satBits (s.asym d p) 32 ∧ s.asymSync d p = s) ∨
    s.asymSync d p = (s.setRelka d p { s.relka d p with meas := [] }).pput d p R.RLK_ASYM_EFF_A (satBits (s.asym d p) 32) := by
  unfold State.asymSync
  dsimp only
  split
  · exact .inl ⟨‹_›, rfl⟩
  · exact .inr rfl

theorem State.pfld_asymSync (s : State) (d p : Nat) {g : Fld} (hg : R.RLK_ASYM_EFF_A.apart g = true) :
    (s.asymSync d p).pfld d p g = s.pfld d p g := by
  rcases s.asymSync_cases d p with ⟨-, h⟩ | h
  · rw [h]
  · rw [h, State.pfld, State.pput, State.fld_put_apart _ _ _ hg]
    rfl

theorem State.asym_congr {s t : State} {d p : Nat}
    (hfld : ∀ g ∈ [R.RLK_ASYM_CFG_CFG, R.RLK_LAMBDA_TX_LAMBDA, R.RLK_LAMBDA_RX_LAMBDA, R.RLK_STAT_ASYM_SRC, R.RLK_DISP_DMID,
      R.RLK_DL_DL], t.pfld d p g = s.pfld d p g) (hspan : (t.port d p).span = (s.port d p).span) :
    t.asym d p = s.asym d p := by
  simp only [List.forall_mem_cons] at hfld
  obtain ⟨hcfg, htx, hrx, hsrc, hdisp, hdl, -⟩ := hfld
  unfold State.asym State.asymSrc
  rw [hcfg, htx, hrx, hsrc, hdisp, hdl, hspan]

theorem State.asym_asymSync (s : State) (d p : Nat) : (s.asymSync d p).asym d p = s.asym d p :=
  State.asym_congr (fun g hg => s.pfld_asymSync d p (by revert g; decide)) (s.span_asymSync d p)

/-- RLK_ASYM_EFF holds the effective asymmetry, saturated (R135). -/
theorem State.eff_asymSync (s : State) (d p : Nat) :
    (s.asymSync d p).pfld d p R.RLK_ASYM_EFF_A = satBits ((s.asymSync d p).asym d p) 32 := by
  rw [State.asym_asymSync]
  rcases s.asymSync_cases d p with ⟨heff, h⟩ | h
  · rw [h, heff]
  · rw [h, State.pfld, State.pput, State.fld_put_self _ _ _ (by decide)]
    exact Nat.mod_eq_of_lt (satBits_lt _)

/-! ### A link that moves between states (R131, R132) -/

theorem State.snd_setRelka (s : State) (d p : Nat) (x : Relka) : (s.setRelka d p x).snd d p = x.snd := by
  simp [State.snd, State.relka, State.setRelka]

theorem State.snd_setSnd (s : State) (d p : Nat) (x : Sound) : (s.setSnd d p x).snd d p = x := s.snd_setRelka d p _

theorem State.setSnd_rest (s : State) (d p : Nat) (x : Sound) : { s.setSnd d p x with ports := s.ports } = s := rfl

theorem State.snd_congr {s t : State} (h : t.ports = s.ports) (d p : Nat) : t.snd d p = s.snd d p := by
  simp [State.snd, State.relka, State.port, h]

theorem State.snd_asymSync (s : State) (d p : Nat) : (s.asymSync d p).snd d p = s.snd d p := by
  rcases s.asymSync_cases d p with ⟨-, h⟩ | h
  · rw [h]
  · rw [h]
    exact (State.snd_congr (t := State.pput _ _ _ _ _) rfl d p).trans (s.snd_setRelka d p _)

theorem State.snd_rlkMove (s : State) (d p st : Nat) : (s.rlkMove d p st).snd d p = s.snd d p := by
  have hports : (s.rlkMove d p st).ports =
      (s.setRelka d p { s.relka d p with answered := 0, misses := 0, silent := 0 }).ports := by
    unfold State.rlkMove
    dsimp only
    split
    · split <;> rfl
    · rw [(SelKept.sourceLost _ d p _).ports]
      split <;> rfl
  rw [State.snd_congr hports, s.snd_setRelka]
  rfl

theorem State.pfld_rlkMove (s : State) {d p : Nat} (hd : d < 4) (hp : p < 72) (st : Nat) {g : Fld} (hoff : g.off < 16777216) :
    (s.rlkMove d p st).pfld d p g = (s.pput d p R.RLK_STAT_STATE st).pfld d p g :=
  State.fld_of_reg (s.reg_rlkMove d p st (not_hubKey (portLoc_lt hd hp) hoff))

theorem State.rlkState_rlkMove (s : State) {d p : Nat} (hd : d < 4) (hp : p < 72) (st : Nat) :
    (s.rlkMove d p st).rlkState d p = st % 8 :=
  (s.pfld_rlkMove hd hp st (by decide)).trans (State.fld_put_self _ _ _ (by decide))

/-! ### LINK.ASYM -/

/-- What the four forms of LINK.ASYM store. -/
def State.asymPut (s : State) (d p fn b : Nat) : State :=
  let lam (s : State) : State :=
    (s.pput d p R.RLK_LAMBDA_TX_LAMBDA (bits b 0 22)).pput d p R.RLK_LAMBDA_RX_LAMBDA (bits b 22 22)
  match fn with
  | 0 => s.pput d p R.RLK_ASYM_CFG_CFG (b % 2 ^ 32)
  | 1 => ((lam s).pput d p R.RLK_DISP_DMID (bits b 44 20)).pput d p R.RLK_STAT_ASYM_SRC 1
  | 2 => lam s
  | _ => s.pput d p R.RLK_STAT_ASYM_SRC 0

theorem mLinkAsym_run {f : Flight} {loc : Nat} {s : State} (hp : s.present (locPort loc).1 (locPort loc).2 = true)
    (hst : s.rlkState (locPort loc).1 (locPort loc).2 ≠ rlkSounding) :
    mLinkAsym.run f loc s =
      let d := (locPort loc).1
      let p := (locPort loc).2
      let t := (s.asymPut d p (f.cmd.opa % 4) f.cmd.opb).asymSync d p
      (t, some (okC (t.asymPs d p))) := by
  have habs : s.absent loc = false := State.absent_of_present hp
  simp only [mLinkAsym, habs, Bool.false_eq_true, if_false, if_neg hst]
  rfl

theorem State.asymPut_spec (s : State) (d p fn b : Nat) (hfn : fn < 4) :
    (fn = 0 → (s.asymPut d p fn b).pfld d p R.RLK_ASYM_CFG_CFG = b % 2 ^ 32) ∧
    (fn = 1 ∨ fn = 2 → (s.asymPut d p fn b).pfld d p R.RLK_LAMBDA_TX_LAMBDA = b % 2 ^ 22 ∧
      (s.asymPut d p fn b).pfld d p R.RLK_LAMBDA_RX_LAMBDA = b / 2 ^ 22 % 2 ^ 22) ∧
    (fn = 1 → (s.asymPut d p fn b).pfld d p R.RLK_DISP_DMID = b / 2 ^ 44 % 2 ^ 20 ∧
      (s.asymPut d p fn b).pfld d p R.RLK_STAT_ASYM_SRC = 1) ∧
    (fn = 3 → (s.asymPut d p fn b).pfld d p R.RLK_STAT_ASYM_SRC = 0) ∧
    (s.asymPut d p fn b).rlkState d p = s.rlkState d p ∧ { s.asymPut d p fn b with regs := s.regs } = s := by
  have hfns : fn = 0 ∨ fn = 1 ∨ fn = 2 ∨ fn = 3 := by omega
  unfold State.asymPut State.rlkState State.pfld State.pput bits
  rcases hfns with rfl | rfl | rfl | rfl <;>
    simp (disch := decide) [State.fld_put_apart, State.fld_put_self, R.RLK_ASYM_CFG_CFG, R.RLK_LAMBDA_TX_LAMBDA,
      R.RLK_LAMBDA_RX_LAMBDA, R.RLK_DISP_DMID, R.RLK_STAT_ASYM_SRC]

/-! ### LINK.SOUND -/

theorem bits_zero (b len : Nat) : bits b 0 len = b % 2 ^ len := by
  rw [bits, Nat.pow_zero, Nat.div_one]

theorem mLinkSound_absent {f : Flight} {loc : Nat} {s : State} (hp : s.present (locPort loc).1 (locPort loc).2 = false) :
    mLinkSound.run f loc s = (s, some noTarget) := by
  have habs : s.absent loc = true := by rw [State.absent, hp]; rfl
  simp only [mLinkSound, habs, if_true]

/-- The measurement that MEASURE begins (R137, R138). -/
def Sound.begun (x : Sound) (n fn b : Nat) : Sound :=
  { x with num := some n, pairB := fn == 3, need := 2 ^ bits b 44 4, got := 0, bad := 0, sum := 0, tx := bits b 0 22, rx := bits b 22 22 }

/-- The new wavelengths, source SOUNDED (R139). -/
def State.sounded (s : State) (d p b : Nat) : State :=
  (((s.pput d p R.RLK_LAMBDA_TX_LAMBDA (bits b 0 22)).pput d p R.RLK_LAMBDA_RX_LAMBDA (bits b 22 22)).pput d p
    R.RLK_STAT_ASYM_SRC 2).asymSync d p

theorem mLinkSound_begin {f : Flight} {loc : Nat} {s : State} (hp : s.present (locPort loc).1 (locPort loc).2 = true)
    (hfn : f.cmd.opa % 16 = 1) :
    mLinkSound.run f loc s =
      let d := (locPort loc).1
      let p := (locPort loc).2
      if s.rlkState d p = rlkLinked ∧ s.pflag d p R.RLK_CTRL_SOUND_CAP then
        ((s.setSnd d p {}).rlkMove d p rlkSounding, some (okC 0)) else (s, some (s.linkConflict d p)) := by
  have habs : s.absent loc = false := State.absent_of_present hp
  simp only [mLinkSound, habs, Bool.false_eq_true, if_false, hfn]

theorem mLinkSound_measure {f : Flight} {loc : Nat} {s : State} (hp : s.present (locPort loc).1 (locPort loc).2 = true)
    (hfn : f.cmd.opa % 16 = 2 ∨ f.cmd.opa % 16 = 3) :
    mLinkSound.run f loc s =
      let d := (locPort loc).1
      let p := (locPort loc).2
      if s.rlkState d p = rlkSounding then
        (s.setSnd d p ((s.snd d p).begun f.num (f.cmd.opa % 16) f.cmd.opb)).goesOn f.num (s.now + secTicks)
      else (s, some (s.linkConflict d p)) := by
  have habs : s.absent loc = false := State.absent_of_present hp
  rcases hfn with hfn | hfn <;> simp only [mLinkSound, habs, Bool.false_eq_true, if_false, hfn] <;> rfl

theorem mLinkSound_solve {f : Flight} {loc : Nat} {s : State} (hp : s.present (locPort loc).1 (locPort loc).2 = true)
    (hfn : f.cmd.opa % 16 = 4) :
    mLinkSound.run f loc s =
      let d := (locPort loc).1
      let p := (locPort loc).2
      if s.rlkState d p = rlkSounding then s.solve d p else (s, some (s.linkConflict d p)) := by
  have habs : s.absent loc = false := State.absent_of_present hp
  simp only [mLinkSound, habs, Bool.false_eq_true, if_false, hfn]

theorem mLinkSound_end {f : Flight} {loc : Nat} {s : State} (hp : s.present (locPort loc).1 (locPort loc).2 = true)
    (hfn : f.cmd.opa % 16 = 5) :
    mLinkSound.run f loc s =
      let d := (locPort loc).1
      let p := (locPort loc).2
      if s.rlkState d p = rlkSounding ∧ (s.snd d p).solved then
        (((s.sounded d p f.cmd.opb).setSnd d p {}).rlkMove d p rlkAcquire, some (okC 0))
      else (s, some (s.linkConflict d p)) := by
  have habs : s.absent loc = false := State.absent_of_present hp
  simp only [mLinkSound, habs, Bool.false_eq_true, if_false, hfn]
  rfl

theorem mLinkSound_abort {f : Flight} {loc : Nat} {s : State} (hp : s.present (locPort loc).1 (locPort loc).2 = true)
    (hfn : f.cmd.opa % 16 = 15) :
    mLinkSound.run f loc s =
      let d := (locPort loc).1
      let p := (locPort loc).2
      (if s.rlkState d p = rlkSounding then (s.setSnd d p {}).rlkMove d p rlkAcquire else s, some (okC 0)) := by
  have habs : s.absent loc = false := State.absent_of_present hp
  simp only [mLinkSound, habs, Bool.false_eq_true, if_false, hfn]



/-- A port whose MEASURE has ended (R137). -/
def Port.measureOff (n : Nat) (x : Port) : Port :=
  if x.relka.snd.num = some n then { x with relka := { x.relka with snd := { x.relka.snd with num := none } } } else x

/-- All ports, once MEASURE number `n` has ended. -/
def State.measureOff (s : State) (n : Nat) : State := { s with ports := s.ports.map (fun x => (x.1, x.2.measureOff n)) }

theorem exec_soundMeasureTimeout {s : State} {n due : Nat} {f : Flight} (hgoing : s.going n (isOp 0x70) = some (f, due)) :
    exec (.soundMeasureTimeout n) s = .next (((s.advanceTo due).measureOff n).complete n { status := stTimeout }) := by
  show execSoundMeasureTimeout n s = _
  simp only [execSoundMeasureTimeout, hgoing]
  rfl

theorem State.snd_measureOff {s : State} {d p n : Nat} (h : (s.snd d p).num = some n) :
    (s.measureOff n).snd d p = { s.snd d p with num := none } := by
  unfold State.snd State.relka State.port Tab.get at h ⊢
  rw [State.measureOff, Tab.get?_map]
  cases hport : Tab.get? s.ports (portKey d p) with
  | none =>
    rw [hport] at h
    cases h
  | some x =>
    rw [hport] at h
    have hnum : x.relka.snd.num = some n := h
    show (x.measureOff n).relka.snd = { x.relka.snd with num := none }
    rw [Port.measureOff, if_pos hnum]

/-- SOLVE with both pairs measured (R137). -/
theorem State.solve_spec {s : State} {d p v w : Nat} (hv : (s.snd d p).sumOf false = some v)
    (hw : (s.snd d p).sumOf true = some w) :
    let x := s.snd d p
    let dl := satBits (soundDl (s.pair (portLoc d p) R.RLK_SND_RTT_A_RTT_LO R.RLK_SND_RTT_A_RTT_HI)
      (s.pair (portLoc d p) R.RLK_SND_RTT_B_RTT_LO R.RLK_SND_RTT_B_RTT_HI) v w) 32
    ∃ t : State, s.solve d p = (t, some (okC (satNat (solveFs x.nA x.nB (natDist v w)
        (natDist (s.pfld d p R.RLK_LAMBDA_TX_LAMBDA) (s.pfld d p R.RLK_LAMBDA_RX_LAMBDA))) 16))) ∧
      t.snd d p = { x with solved := true } ∧ t.pfld d p R.RLK_DL_DL = dl := by
  intro x dl
  set u := (s.pput d p R.RLK_DL_DL dl).asymSync d p with hu
  have hkeep : ∀ g : Fld, R.RLK_ASYM_EFF_A.apart g = true → R.RLK_DL_DL.apart g = true → u.pfld d p g = s.pfld d p g :=
    fun g hg hg' => (State.pfld_asymSync _ d p hg).trans (State.fld_put_apart _ _ _ hg')
  refine ⟨u.setSnd d p { x with solved := true }, ?_, State.snd_setSnd _ _ _ _, ?_⟩
  · rw [← hkeep R.RLK_LAMBDA_TX_LAMBDA (by decide) (by decide), ← hkeep R.RLK_LAMBDA_RX_LAMBDA (by decide) (by decide)]
    unfold State.solve
    simp only [hv, hw]
    rfl
  · calc _ = u.pfld d p R.RLK_DL_DL := rfl
      _ = (s.pput d p R.RLK_DL_DL dl).pfld d p R.RLK_DL_DL := State.pfld_asymSync _ d p (by decide)
      _ = dl % 2 ^ 32 := State.fld_put_self _ _ _ (by decide)
      _ = dl := Nat.mod_eq_of_lt (satBits_lt _)

theorem State.solve_without {s : State} {d p : Nat} (h : (s.snd d p).sumOf false = none ∨ (s.snd d p).sumOf true = none) :
    s.solve d p = (s, some (s.linkConflict d p)) := by
  unfold State.solve
  dsimp only
  split
  · rename_i hv hw
    rcases h with h | h <;> simp_all
  · rfl

/-- Settles O29: LINK.ASYM by the link state and its FUNC, LINK.SOUND by the link state, its step and the pairs measured. -/
theorem linkAsymmetryAndSounding : Obligations.LinkAsymmetryAndSounding := by
  unfold Obligations.LinkAsymmetryAndSounding
  refine ⟨fun n f s r hr hstarts => ?asym, fun n f s => ⟨?absent, fun hpresent => ⟨fun hstarts => ?begin, fun hout => ?outside,
    fun hstarts hst => ?measure, fun due hflight hphase hop hnum => ?timeout, fun hstarts hst => ?solve,
    fun hstarts hst => ?finish, fun hstarts => ?abort⟩⟩⟩
  case asym =>
    set d := (locPort f.cmd.loc).1
    set p := (locPort f.cmd.loc).2
    have hexec : exec r.1 s = startRow s n (isAsym r.2) mLinkAsym := by
      simp only [List.mem_cons, List.not_mem_nil, or_false] at hr
      rcases hr with rfl | rfl | rfl | rfl <;> rfl
    have hfn : f.cmd.opa % 4 = r.2 := by
      have hform := hstarts.form
      simp only [isAsym, Bool.and_eq_true, beq_iff_eq] at hform
      exact hform.2
    rw [hexec]
    refine ⟨fun habsent => ?_, fun hpresent hst => ?_, fun hpresent hst => ?_⟩
    · refine hstarts.startRow_completes (c := noTarget) ?_ (by decide)
      have habs : s.absent f.cmd.loc = true := by rw [State.absent, habsent]; rfl
      simp only [mLinkAsym, habs, if_true]
    · refine hstarts.conflict (k := 4) ?_
      have habs : s.absent f.cmd.loc = false := State.absent_of_present hpresent
      simp only [mLinkAsym, habs, Bool.false_eq_true, if_false]
      rw [if_pos hst, State.linkConflict, hst]
      rfl
    · obtain ⟨hcfg, hlam, hcmis, hconfig, hstate, hrest⟩ := s.asymPut_spec d p (f.cmd.opa % 4) f.cmd.opb (by omega)
      have hkeep : ∀ g : Fld, R.RLK_ASYM_EFF_A.apart g = true → _ := fun g hg =>
        (s.asymPut d p (f.cmd.opa % 4) f.cmd.opb).pfld_asymSync d p hg
      rw [hfn] at hcfg hlam hcmis hconfig hstate hrest hkeep
      refine ⟨_, hstarts.ok (mLinkAsym_run hpresent hst), fun h => ?_, fun h => ?_, fun h => ?_, fun h => ?_,
        State.eff_asymSync _ d p, ?_, ?_⟩ <;> rw [hfn]
      · exact (hkeep _ (by decide)).trans (hcfg h)
      · exact ⟨(hkeep _ (by decide)).trans (hlam h).1, (hkeep _ (by decide)).trans (hlam h).2⟩
      · exact ⟨(hkeep _ (by decide)).trans (hcmis h).1, (hkeep _ (by decide)).trans (hcmis h).2⟩
      · exact (hkeep _ (by decide)).trans (hconfig h)
      · exact (hkeep _ (by decide)).trans hstate
      · exact (congrArg (fun t : State => { t with regs := s.regs, ports := s.ports }) 
          ((s.asymPut d p r.2 f.cmd.opb).asymSync_rest d p)).trans
          (congrArg (fun t : State => { t with ports := s.ports }) hrest)
  case absent =>
    intro i form hmem hstarts habsent
    have hexec : exec i s = startRow s n form mLinkSound := by
      simp only [List.mem_cons, List.not_mem_nil, or_false, Prod.mk.injEq] at hmem
      rcases hmem with ⟨rfl, rfl⟩ | ⟨rfl, rfl⟩ | ⟨rfl, rfl⟩ | ⟨rfl, rfl⟩ | ⟨rfl, rfl⟩ <;> rfl
    rw [hexec]
    exact hstarts.startRow_completes (mLinkSound_absent habsent) (by decide)
  case begin =>
    have hfn : f.cmd.opa % 16 = 1 := by
      have hform := hstarts.form
      have hop := hstarts.operands
      simp only [Bool.and_eq_true, Bool.not_eq_true', List.contains_eq_mem, List.mem_cons, List.not_mem_nil, or_false,
        decide_eq_false_iff_not, not_or] at hform
      obtain ⟨-, h2, h3, h4, h5, h15⟩ := hform
      simp only [mLinkSound, linkSoundBad, h2, h3, or_self, if_false] at hop
      have hrange : ((f.cmd.opa % 16 == 0 || (decide (6 ≤ f.cmd.opa % 16) && decide (f.cmd.opa % 16 ≤ 14))) : Bool) = false := by
        by_contra hbad
        rw [Bool.not_eq_false] at hbad
        rw [hbad] at hop
        cases hop
      simp only [Bool.or_eq_false_iff, Bool.and_eq_false_iff, beq_eq_false_iff_ne, decide_eq_false_iff_not] at hrange
      omega
    have hrun := mLinkSound_begin (f := f) hpresent hfn
    refine ⟨fun hno => hstarts.conflict (hrun.trans (if_neg ?_)), fun hst hcap => ?_⟩
    · rintro ⟨hlinked, hcap⟩
      rcases hno with hno | hno
      · exact hno hlinked
      · rw [hno] at hcap
        cases hcap
    · obtain ⟨hd, hp⟩ := State.present_lt hpresent
      exact ⟨_, hstarts.ok (k := 0) (hrun.trans (if_pos ⟨hst, hcap⟩)), State.rlkState_rlkMove _ hd hp _,
        (State.snd_rlkMove _ _ _ _).trans (State.snd_setSnd _ _ _ _)⟩
  case outside =>
    refine ⟨fun hstarts => hstarts.conflict ((mLinkSound_measure hpresent ?_).trans (if_neg hout)), fun hstarts =>
      hstarts.conflict ((mLinkSound_solve hpresent (isFunc_opa hstarts.form)).trans (if_neg hout)), fun hstarts =>
      hstarts.conflict ((mLinkSound_end hpresent (isFunc_opa hstarts.form)).trans (if_neg fun h => hout h.1))⟩
    have hform := hstarts.form
    simp only [Bool.and_eq_true, Bool.or_eq_true, beq_iff_eq] at hform
    exact hform.2
  case measure =>
    have hfn : f.cmd.opa % 16 = 2 ∨ f.cmd.opa % 16 = 3 := by
      have hform := hstarts.form
      simp only [Bool.and_eq_true, Bool.or_eq_true, beq_iff_eq] at hform
      exact hform.2
    set v := s.setSnd (locPort f.cmd.loc).1 (locPort f.cmd.loc).2 ((s.snd (locPort f.cmd.loc).1 (locPort f.cmd.loc).2).begun
      n (f.cmd.opa % 16) f.cmd.opb) with hv
    have hrun := (mLinkSound_measure hpresent hfn).trans (if_pos hst)
    obtain ⟨hnone, hgo, hrest⟩ := State.goesOn_spec (s := v) (s.now + secTicks) hstarts.flight
    have hsec : secTicks = 625000000 := rfl
    rw [hstarts.num, hsec] at hrun
    rw [hsec] at hnone hgo hrest
    refine ⟨_, hstarts.startRow_goes (hrun.trans (Prod.ext rfl hnone)), hgo, ?_, ?_⟩
    · have hsnd := s.snd_setSnd (locPort f.cmd.loc).1 (locPort f.cmd.loc).2
        ((s.snd (locPort f.cmd.loc).1 (locPort f.cmd.loc).2).begun n (f.cmd.opa % 16) f.cmd.opb)
      refine (State.snd_congr (s := v) (congrArg State.ports hrest :) _ _).trans (hsnd.trans ?_)
      rw [Sound.begun, bits_zero]
      rfl
    · exact congrArg (fun t : State => { t with ports := s.ports }) hrest
  case timeout =>
    have hgoing : s.going n (isOp 0x70) = some (f, due) := State.going_iff.2 ⟨hflight, hphase, by simp [isOp, hop]⟩
    have hnow : due ≤ (s.advanceTo due).now := by
      rw [State.now_advanceTo]
      exact Nat.le_max_right _ _
    exact ⟨_, exec_soundMeasureTimeout hgoing, State.snd_measureOff (s := s.advanceTo due) hnum, rfl, hnow⟩
  case solve => 
    have hrun := (mLinkSound_solve hpresent (isFunc_opa hstarts.form)).trans (if_pos hst)
    refine ⟨fun v w hv hw => ?_, fun hnone => hstarts.conflict (hrun.trans (State.solve_without hnone))⟩
    obtain ⟨t, hsolve, hsnd, hdl⟩ := State.solve_spec hv hw
    have hexec := hstarts.ok (hrun.trans hsolve)
    rw [Nat.mod_eq_of_lt (show satNat _ 16 < 65536 from satNat_lt _ 16)] at hexec
    exact ⟨t, hexec, hsnd, hdl⟩
  case finish =>
    have hrun := mLinkSound_end hpresent (isFunc_opa hstarts.form)
    obtain ⟨hd, hp⟩ := State.present_lt hpresent
    refine ⟨fun hsolved => ?_, fun hsolved => hstarts.conflict (hrun.trans (if_neg ?_))⟩
    · refine ⟨_, hstarts.ok (k := 0) (hrun.trans (if_pos ⟨hst, hsolved⟩)), State.rlkState_rlkMove _ hd hp _, ?_, ?_,
        (State.snd_rlkMove _ _ _ _).trans (State.snd_setSnd _ _ _ _)⟩
      · rw [State.pfld_rlkMove _ hd hp _ (by decide), State.pfld, State.pput, State.fld_put_apart _ _ _ (by decide)]
        exact (State.pfld_asymSync _ _ _ (by decide)).trans (State.fld_put_self _ _ _ (by decide))
      · rw [State.pfld_rlkMove _ hd hp _ (by decide), State.pfld, State.pput, State.fld_put_apart _ _ _ (by decide)]
        refine (State.pfld_asymSync _ _ _ (by decide)).trans ?_
        rw [State.pfld, State.pput, State.fld_put_apart _ _ _ (by decide), State.pput, State.fld_put_apart _ _ _ (by decide),
          State.pput, State.fld_put_self _ _ _ (by decide)]
        rw [bits_zero]
        exact Nat.mod_mod _ _
    · rw [hsolved]
      rintro ⟨-, hno⟩
      cases hno
  case abort => 
    have hrun := mLinkSound_abort hpresent (isFunc_opa hstarts.form)
    dsimp only at hrun
    obtain ⟨hd, hp⟩ := State.present_lt hpresent
    refine ⟨fun hst => ?_, fun hst => hstarts.ok (k := 0) (hrun.trans (by rw [if_neg hst]))⟩
    have hmove := hrun.trans (by rw [if_pos hst])
    exact ⟨_, hstarts.ok (k := 0) hmove, State.rlkState_rlkMove _ hd hp _,
      (State.snd_rlkMove _ _ _ _).trans (State.snd_setSnd _ _ _ _)⟩

end Sys2Proof.Machine
end

section
/-! PROOFS. REF.SET, REF.SELECT, REF.FORCE, REF.RELEASE and REF.ACCEPT_STEP (R150, R151, R161 to R165). -/

namespace Sys2Proof.Machine

/-! ### Fields of the arbiter -/

theorem State.arb_arbPut_self (s : State) {f : Fld} (v : Nat) (h : f.lo + f.len ≤ 32) :
    (s.arbPut f v).arb f = v % 2 ^ f.len := s.fld_put_self locArb v h

theorem State.arb_arbPut_apart (s : State) {f g : Fld} (v : Nat) (h : f.apart g = true) :
    (s.arbPut f v).arb g = s.arb g := s.fld_put_apart locArb v h

theorem State.arb_congr {s t : State} (hr : t.regs = s.regs) (hp : t.part = s.part) (f : Fld) : t.arb f = s.arb f :=
  State.fld_congr hr hp locArb f

@[simp] theorem State.arb_setServo (s : State) (x : Servo) (f : Fld) : (s.setServo x).arb f = s.arb f := rfl

@[simp] theorem State.arb_setRef (s : State) (i : Nat) (x : RefSlot) (f : Fld) : (s.setRef i x).arb f = s.arb f := rfl

theorem not_reportKey_arb {off : Nat} (h : off < 16777216) : ¬ reportKey (regKey locArb off) := by
  unfold reportKey regKey locArb locFp locLed
  omega

theorem State.arb_refEvent (s : State) (prev cause : Nat) (warn : Bool) {f : Fld} (h : f.off < 16777216) :
    (s.refEvent prev cause warn).arb f = s.arb f :=
  (RegsOnly.event s 3 _ s.txNow none).fld (not_reportKey_arb h)

theorem State.servo_refEvent (s : State) (prev cause : Nat) (warn : Bool) : (s.refEvent prev cause warn).servo = s.servo := by
  obtain ⟨-, -, -, -, -, hservo, -⟩ := (Reports.event s 3 ((s.selected.getD 0) + b2n s.selected.isNone * 8 +
    s.servoState * 16 + prev * 256 + cause * 4096 + b2n warn * 32768) s.txNow none).fields
  exact hservo

theorem State.arb_traceSync (s : State) {f : Fld} (h : R.REF_SEL_TRACEABLE.apart f = true) : s.traceSync.arb f = s.arb f := by
  have hput : ∀ b, (s.putB locArb R.REF_SEL_TRACEABLE b).arb f = s.arb f := fun b => s.arb_arbPut_apart (b2n b) h
  unfold State.traceSync
  dsimp only
  split
  · exact hput _
  · split
    · exact hput _
    · rfl

theorem State.servo_traceSync (s : State) : s.traceSync.servo = s.servo := by
  unfold State.traceSync
  dsimp only
  repeat' split
  all_goals rfl

/-! ### The servo's state, the choice of a slot, and Steady Rest -/

/-- What a change of the servo's state leaves (R168). -/
theorem State.arb_toServo (s : State) (v : Nat) {f : Fld} (h1 : R.REF_SEL_SERVO_STATE.apart f = true)
    (h2 : R.REF_SEL_TRACEABLE.apart f = true) (h3 : R.REF_SEL_TS_TRACED.apart f = true) : (s.toServo v).arb f = s.arb f := by
  have hsync : (s.arbPut R.REF_SEL_SERVO_STATE v).traceSync.arb f = s.arb f := by
    rw [State.arb_traceSync _ h2, s.arb_arbPut_apart v h1]
  unfold State.toServo
  dsimp only
  split
  · rw [State.arb_arbPut_apart _ _ h3, hsync]
  · split <;> exact hsync

theorem State.servoState_toServo (s : State) (v : Nat) : (s.toServo v).servoState = v % 8 := by
  have hsync : (s.arbPut R.REF_SEL_SERVO_STATE v).traceSync.arb R.REF_SEL_SERVO_STATE = v % 8 := by
    rw [State.arb_traceSync _ (by decide), s.arb_arbPut_self v (by decide)]
    rfl
  unfold State.toServo
  dsimp only
  split
  · exact (State.arb_arbPut_apart _ _ (by decide)).trans hsync
  · split <;> exact hsync

theorem State.settleEnd_toServo (s : State) (v : Nat) : (s.toServo v).servo.settleEnd = s.servo.settleEnd := by
  have hsync : (s.arbPut R.REF_SEL_SERVO_STATE v).traceSync.servo.settleEnd = s.servo.settleEnd :=
    congrArg Servo.settleEnd (State.servo_traceSync _)
  unfold State.toServo
  dsimp only
  split
  · exact hsync
  · split <;> exact hsync

theorem State.passDelta_regs (s : State) (i : Nat) (delta : Int) : (s.passDelta i delta).regs = s.regs := by
  unfold State.passDelta
  dsimp only
  repeat' split
  all_goals rfl

theorem State.passDelta_part (s : State) (i : Nat) (delta : Int) : (s.passDelta i delta).part = s.part := by
  unfold State.passDelta
  dsimp only
  repeat' split
  all_goals rfl

theorem State.settleEnd_passDelta (s : State) (i : Nat) (delta : Int) :
    (s.passDelta i delta).servo.settleEnd = s.servo.settleEnd := by
  unfold State.passDelta
  dsimp only
  repeat' split
  all_goals rfl

/-- The registers, servo and slot of a slot that is chosen, before its Delta is used. -/
def State.opened (s : State) (i : Nat) (x : Servo) (y : RefSlot) (st : Nat) : State :=
  (((((s.arbPut R.REF_SEL_SELECTED i).arbPut R.REF_SEL_NONE 0).arbPut R.REF_SEL_SETTLING 1).setServo x).setRef i y).toServo st

theorem State.choose_eq (s : State) (i : Nat) : ∃ (x : Servo) (y : RefSlot), x.settleEnd = s.now + secTicks ∧
    (s.choose i = s.opened i x y (if s.servoState = 0 ∨ s.servoState = 4 then 1 else 5) ∨ ∃ delta,
      s.choose i = (s.opened i x y (if s.servoState = 0 ∨ s.servoState = 4 then 1 else 5)).passDelta i delta) := by
  unfold State.choose
  dsimp only
  exact ⟨_, _, rfl, (ite_eq_or_eq _ _ _).imp id fun h => ⟨_, h⟩⟩

theorem State.arb_opened (s : State) (i : Nat) (x : Servo) (y : RefSlot) (st : Nat) {f : Fld}
    (h1 : R.REF_SEL_SERVO_STATE.apart f = true) (h2 : R.REF_SEL_TRACEABLE.apart f = true)
    (h3 : R.REF_SEL_TS_TRACED.apart f = true) :
    (s.opened i x y st).arb f =
      (((s.arbPut R.REF_SEL_SELECTED i).arbPut R.REF_SEL_NONE 0).arbPut R.REF_SEL_SETTLING 1).arb f :=
  State.arb_toServo _ _ h1 h2 h3

/-- The choice of a slot opens its settle window (R160, R161). -/
theorem State.choose_spec (s : State) {i : Nat} (hi : i < 8) :
    (s.choose i).selected = some i ∧ (s.choose i).arb R.REF_SEL_MODE = s.arb R.REF_SEL_MODE ∧
      (s.choose i).flag locArb R.REF_SEL_SETTLING = true ∧ (s.choose i).servo.settleEnd = s.now + 625000000 ∧
      (s.choose i).servoState = if s.servoState = 0 ∨ s.servoState = 4 then 1 else 5 := by
  obtain ⟨x, y, hend, hchoose⟩ := s.choose_eq i
  set st := if s.servoState = 0 ∨ s.servoState = 4 then 1 else 5 with hst
  have hst8 : st % 8 = st := by
    rw [hst]
    split <;> rfl
  have harb : ∀ f, (s.choose i).arb f = (s.opened i x y st).arb f := by
    intro f
    rcases hchoose with h | ⟨delta, h⟩ <;> rw [h]
    exact State.arb_congr (State.passDelta_regs _ _ _) (State.passDelta_part _ _ _) f
  have hsettle : (s.choose i).servo.settleEnd = x.settleEnd := by
    rcases hchoose with h | ⟨delta, h⟩ <;> rw [h]
    · exact State.settleEnd_toServo _ _
    · exact (State.settleEnd_passDelta _ _ _).trans (State.settleEnd_toServo _ _)
  have hsel : (s.choose i).arb R.REF_SEL_SELECTED = i := by
    rw [harb, State.arb_opened _ _ _ _ _ (by decide) (by decide) (by decide), State.arb_arbPut_apart _ _ (by decide),
      State.arb_arbPut_apart _ _ (by decide), State.arb_arbPut_self _ _ (by decide)]
    exact Nat.mod_eq_of_lt hi
  have hnone : (s.choose i).arb R.REF_SEL_NONE = 0 := by
    rw [harb, State.arb_opened _ _ _ _ _ (by decide) (by decide) (by decide), State.arb_arbPut_apart _ _ (by decide),
      State.arb_arbPut_self _ _ (by decide)]
    rfl
  refine ⟨?_, ?_, ?_, hsettle.trans hend, ?_⟩
  · rw [State.selected, State.flag_false_of hnone, if_neg (by decide), hsel]
  · rw [harb, State.arb_opened _ _ _ _ _ (by decide) (by decide) (by decide), State.arb_arbPut_apart _ _ (by decide),
      State.arb_arbPut_apart _ _ (by decide), State.arb_arbPut_apart _ _ (by decide)]
  · refine State.flag_iff.2 ((harb _).trans ?_)
    rw [State.arb_opened _ _ _ _ _ (by decide) (by decide) (by decide), State.arb_arbPut_self _ _ (by decide)]
    rfl
  · exact (harb R.REF_SEL_SERVO_STATE).trans ((State.servoState_toServo _ _).trans hst8)

/-- The servo's way to Steady Rest, or to free run without a history, once nothing is selected (R166 to R168). -/
def State.restFrom (s : State) (byGate : Bool) : State :=
  if s.servoState = 0 ∨ s.servoState = 4 then s
  else if s.flag locArb R.SR_STAT_HIST_VALID then
    ((s.restModel byGate).arbPut R.SR_DURATION_SECONDS 0).toServo 4
  else (s.setServo { s.servo with fcw := s.nomFcw }).toServo 0

theorem State.arb_restFrom (s : State) (byGate : Bool) {f : Fld} (h1 : R.SR_DURATION_SECONDS.apart f = true)
    (h2 : R.REF_SEL_SERVO_STATE.apart f = true) (h3 : R.REF_SEL_TRACEABLE.apart f = true)
    (h4 : R.REF_SEL_TS_TRACED.apart f = true) : (s.restFrom byGate).arb f = s.arb f := by
  unfold State.restFrom
  split
  · rfl
  · split
    · rw [State.arb_toServo _ _ h2 h3 h4, State.arb_arbPut_apart _ _ h1, State.restModel, State.arb_setServo]
    · rw [State.arb_toServo _ _ h2 h3 h4, State.arb_setServo]

theorem State.servoState_restFrom (s : State) (byGate : Bool) :
    (s.restFrom byGate).servoState = (if s.servoState = 0 ∨ s.servoState = 4 then s.servoState
      else if s.flag locArb R.SR_STAT_HIST_VALID then 4 else 0) := by
  unfold State.restFrom
  split
  · rfl
  · split <;> exact State.servoState_toServo _ _

/-- Steady Rest, or free run without a history (R166 to R168). -/
theorem State.toRest_spec (s : State) (byGate : Bool) :
    (s.toRest byGate).selected = none ∧ (s.toRest byGate).arb R.REF_SEL_MODE = s.arb R.REF_SEL_MODE ∧
      (s.toRest byGate).flag locArb R.REF_SEL_SETTLING = false ∧
      (s.toRest byGate).servoState = (if s.servoState = 0 ∨ s.servoState = 4 then s.servoState
        else if s.flag locArb R.SR_STAT_HIST_VALID then 4 else 0) := by
  set u := (s.arbPut R.REF_SEL_NONE 1).arbPut R.REF_SEL_SETTLING 0 with hu
  have hsame : ∀ f : Fld, R.REF_SEL_NONE.apart f = true → R.REF_SEL_SETTLING.apart f = true → u.arb f = s.arb f := by
    intro f h1 h2
    rw [hu, State.arb_arbPut_apart _ _ h2, State.arb_arbPut_apart _ _ h1]
  have hunone : u.arb R.REF_SEL_NONE = 1 := by
    rw [hu, State.arb_arbPut_apart _ _ (by decide), State.arb_arbPut_self _ _ (by decide)]
    rfl
  have husettle : u.arb R.REF_SEL_SETTLING = 0 := by
    rw [hu, State.arb_arbPut_self _ _ (by decide)]
    rfl
  have hustate : u.servoState = s.servoState := hsame R.REF_SEL_SERVO_STATE (by decide) (by decide)
  have huhist : u.flag locArb R.SR_STAT_HIST_VALID = s.flag locArb R.SR_STAT_HIST_VALID :=
    congrArg (· == 1) (hsame R.SR_STAT_HIST_VALID (by decide) (by decide))
  obtain ⟨x, htoRest⟩ : ∃ x, s.toRest byGate = (u.setServo x).restFrom byGate := ⟨_, rfl⟩
  have harb : ∀ f : Fld, R.SR_DURATION_SECONDS.apart f = true → R.REF_SEL_SERVO_STATE.apart f = true →
      R.REF_SEL_TRACEABLE.apart f = true → R.REF_SEL_TS_TRACED.apart f = true → (s.toRest byGate).arb f = u.arb f := by
    intro f h1 h2 h3 h4
    rw [htoRest, State.arb_restFrom _ _ h1 h2 h3 h4, State.arb_setServo]
  refine ⟨?_, ?_, ?_, ?_⟩
  · have hflag := State.flag_iff.2 ((harb R.REF_SEL_NONE (by decide) (by decide) (by decide) (by decide)).trans hunone)
    rw [State.selected, if_pos hflag]
  · rw [harb _ (by decide) (by decide) (by decide) (by decide), hsame _ (by decide) (by decide)]
  · exact State.flag_false_of ((harb R.REF_SEL_SETTLING (by decide) (by decide) (by decide) (by decide)).trans husettle)
  · have hflag : (u.setServo x).flag locArb R.SR_STAT_HIST_VALID = s.flag locArb R.SR_STAT_HIST_VALID := huhist
    have hstate : (u.setServo x).servoState = s.servoState := hustate
    rw [htoRest, State.servoState_restFrom, hstate, hflag]

/-! ### A slot that is used (R161, R164) -/

/-- What a slot taken into use shows (R160, R161). -/
def State.takenBy (s t : State) (mode j : Nat) : Prop :=
  t.selected = some j ∧ t.arb R.REF_SEL_MODE = mode ∧ t.flag locArb R.REF_SEL_SETTLING = true ∧
    t.servo.settleEnd = s.now + 625000000 ∧ t.servoState = if s.servoState = 0 ∨ s.servoState = 4 then 1 else 5

/-- What Steady Rest or free run shows (R161, R168). -/
def State.restedBy (s t : State) (mode : Nat) : Prop :=
  t.selected = none ∧ t.arb R.REF_SEL_MODE = mode ∧ t.flag locArb R.REF_SEL_SETTLING = false ∧
    t.servoState = (if s.servoState = 0 ∨ s.servoState = 4 then s.servoState
      else if s.flag locArb R.SR_STAT_HIST_VALID then 4 else 0)

theorem State.selected_congr {s t : State} (h : ∀ f ∈ [R.REF_SEL_NONE, R.REF_SEL_SELECTED], t.arb f = s.arb f) :
    t.selected = s.selected := by
  simp only [List.forall_mem_cons] at h
  obtain ⟨hnone, hsel, -⟩ := h
  have hflag : t.flag locArb R.REF_SEL_NONE = s.flag locArb R.REF_SEL_NONE := congrArg (· == 1) hnone
  rw [State.selected, hflag, hsel, State.selected]

theorem State.flag_of_arb {s t : State} {f : Fld} (h : t.arb f = s.arb f) : t.flag locArb f = s.flag locArb f :=
  congrArg (· == 1) h

/-- An event of the selector shows what was there before (R163). -/
theorem State.takenBy.refEvent {s t : State} {mode j : Nat} (h : s.takenBy t mode j) (prev cause : Nat) :
    s.takenBy (t.refEvent prev cause false) mode j := by
  obtain ⟨hsel, hmode, hsettle, hend, hstate⟩ := h
  have harb : ∀ f : Fld, f.off < 16777216 → (t.refEvent prev cause false).arb f = t.arb f := fun f hf => t.arb_refEvent _ _ _ hf
  refine ⟨?_, (harb _ (by decide)).trans hmode, ?_, ?_, (harb R.REF_SEL_SERVO_STATE (by decide)).trans hstate⟩
  · rw [State.selected_congr fun f hf => harb f (by revert f; decide), hsel]
  · rw [State.flag_of_arb (harb _ (by decide)), hsettle]
  · rw [State.servo_refEvent, hend]

theorem State.restedBy.refEvent {s t : State} {mode : Nat} (h : s.restedBy t mode) (prev cause : Nat) :
    s.restedBy (t.refEvent prev cause false) mode := by
  obtain ⟨hsel, hmode, hsettle, hstate⟩ := h
  have harb : ∀ f : Fld, f.off < 16777216 → (t.refEvent prev cause false).arb f = t.arb f := fun f hf => t.arb_refEvent _ _ _ hf
  refine ⟨?_, (harb _ (by decide)).trans hmode, ?_, (harb R.REF_SEL_SERVO_STATE (by decide)).trans hstate⟩
  · rw [State.selected_congr fun f hf => harb f (by revert f; decide), hsel]
  · rw [State.flag_of_arb (harb _ (by decide)), hsettle]

theorem State.takenBy_choose (s : State) {i mode : Nat} (hi : i < 8) (hmode : mode < 4) :
    s.takenBy ((s.arbPut R.REF_SEL_MODE mode).choose i) mode i := by
  obtain ⟨hsel, hm, hsettle, hend, hstate⟩ := (s.arbPut R.REF_SEL_MODE mode).choose_spec hi
  have hservo : (s.arbPut R.REF_SEL_MODE mode).servoState = s.servoState := s.arb_arbPut_apart _ (by decide)
  refine ⟨hsel, hm.trans ((s.arb_arbPut_self _ (by decide)).trans (Nat.mod_eq_of_lt hmode)), hsettle, hend, ?_⟩
  rw [hstate, hservo]

/-- Steady Rest from a state whose servo and history are those of `s`. -/
theorem State.restedBy_toRest {s u : State} {mode : Nat} (hmode : u.arb R.REF_SEL_MODE = mode)
    (hservo : u.servoState = s.servoState)
    (hhist : u.arb R.SR_STAT_HIST_VALID = s.arb R.SR_STAT_HIST_VALID) : s.restedBy (u.toRest false) mode := by
  obtain ⟨hsel, hm, hsettle, hstate⟩ := u.toRest_spec false
  refine ⟨hsel, hm.trans hmode, hsettle, ?_⟩
  rw [hstate, hservo, State.flag_of_arb hhist]

/-- Steady Rest where a slot is forced (R161). -/
theorem State.restedBy_toRest_slot {s : State} (i : Nat) :
    s.restedBy (((s.arbPut R.REF_SEL_MODE 2).arbPut R.REF_SEL_SELECTED i).toRest false) 2 := by
  have hkeep : ∀ f : Fld, R.REF_SEL_MODE.apart f = true → R.REF_SEL_SELECTED.apart f = true →
      ((s.arbPut R.REF_SEL_MODE 2).arbPut R.REF_SEL_SELECTED i).arb f = s.arb f := by
    intro f h1 h2
    rw [State.arb_arbPut_apart _ _ h2, s.arb_arbPut_apart _ h1]
  refine State.restedBy_toRest ?_ (hkeep R.REF_SEL_SERVO_STATE (by decide) (by decide)) (hkeep _ (by decide) (by decide))
  rw [State.arb_arbPut_apart _ _ (by decide), s.arb_arbPut_self _ (by decide)]
  rfl

theorem State.fld_setRefState (s : State) {i v : Nat} (hv : v < 8) : (s.setRefState i v).refState i = v :=
  (s.arb_arbPut_self v (show 0 + 3 ≤ 32 by decide)).trans (Nat.mod_eq_of_lt hv)

/-- A slot whose Delta is refused (R164). -/
theorem State.refuseSlot_spec (s : State) {i : Nat} (hi : i < 8) (delta : Int) :
    (s.refuseSlot i delta).refState i = 4 ∧
      ∀ f : Fld, (f.off < 0x540 ∨ 0x560 ≤ f.off) → (s.refuseSlot i delta).arb f = s.arb f := by
  have hdue : ∀ (u : State) (f : Fld), State.arb (if u.servo.due.any (fun d => d.1 == i) then
      u.setServo { u.servo with due := none } else u) f = u.arb f := by
    intro u f
    split <;> rfl
  unfold State.refuseSlot
  refine ⟨?_, fun f hf => ?_⟩
  · refine (hdue _ _).trans ?_
    rw [State.arb_arbPut_apart _ _ (by simp [Fld.apart, R.REF_STAT_CAUSE, R.REF_STAT_STATE])]
    exact State.fld_setRefState _ (by decide)
  · refine (hdue _ _).trans ?_
    have hoff : f.off ≠ 0x540 + 4 * i := by omega
    have hput : ∀ (u : State) (g : Fld) (v : Nat), g.off = 0x540 + 4 * i → (u.arbPut g v).arb f = u.arb f :=
      fun u g v hg => State.fld_put_off _ _ _ (by rw [hg]; exact hoff)
    exact (hput _ _ _ rfl).trans (hput _ _ _ rfl)

theorem State.useSlot_again {s : State} {i : Nat} (mode : Nat) (h : s.selected = some i) :
    s.useSlot i mode = s.arbPut R.REF_SEL_MODE mode := by
  simp only [State.useSlot, if_pos h]

theorem State.useSlot_near {s : State} {i : Nat} (mode : Nat) (h : s.selected ≠ some i)
    (hnear : (!freqKind (s.refKind i) && s.tooFar i (s.ref i).toff) = false) :
    s.useSlot i mode =
      ((s.arbPut R.REF_SEL_MODE mode).choose i).refEvent (s.arb R.REF_SEL_SELECTED) 0 false := by
  simp only [State.useSlot, if_neg h, hnear, Bool.false_eq_true, if_false]

theorem State.useSlot_far {s : State} {i : Nat} (mode : Nat) (h : s.selected ≠ some i)
    (hfar : (!freqKind (s.refKind i) && s.tooFar i (s.ref i).toff) = true) :
    s.useSlot i mode = if mode = 2 then
      ((((s.refuseSlot i (s.ref i).toff).arbPut R.REF_SEL_MODE 2).arbPut R.REF_SEL_SELECTED i).toRest false).refEvent
        (s.arb R.REF_SEL_SELECTED) 5 false
    else ((s.refuseSlot i (s.ref i).toff).arbPut R.REF_SEL_MODE 0).reselect true := by
  simp only [State.useSlot, if_neg h, hfar, if_true]

/-! ### REF.SET (R150, R151) -/

theorem mRefSet_run_open {s : State} (hshut : s.refShut = false) (f : Flight) (loc : Nat) :
    mRefSet.run f loc s =
      let i := f.cmd.opa % 8
      let new := f.cmd.opb % 2 ^ 18
      let moved := s.refCfg i % 2 ^ 13 != new % 2 ^ 13
      let no : Eff := (s, some (s.refConflict (some i)))
      if bit f.cmd.opa 3 then
        if (List.range 8).any (fun j => j != i && s.refState j != 0 && sameSource (s.refCfg j) new) then no
        else if s.selected = some i ∧ moved then no
        else if s.refState i = 0 ∨ moved then ((s.arbPut (R.REF_CFG_CFG i) new).nominate i, some (okC 0))
        else ((s.arbPut (R.REF_CFG_CFG i) new).traceSync, some (okC 0))
      else if s.selected = some i then no
      else (((s.arbPut (R.REF_CFG_CFG i) new).nominate i).setRefState i 0, some (okC 0)) := by
  simp only [mRefSet, hshut, Bool.false_eq_true, if_false]

/-- No other slot names the source (R151). -/
theorem sourceFree {s : State} {i new : Nat}
    (h : ∀ j, j < 8 → j ≠ i → s.refState j = 0 ∨ sameSource (s.refCfg j) new = false) :
    (List.range 8).any (fun j => j != i && s.refState j != 0 && sameSource (s.refCfg j) new) = false := by
  rw [List.any_eq_false]
  intro j hj
  by_cases hji : j = i
  · simp [hji]
  · rcases h j (List.mem_range.1 hj) hji with h0 | hs
    · simp [h0]
    · simp [hs]

theorem sourceTaken {s : State} {i j new : Nat} (hj : j < 8) (hji : j ≠ i) (h0 : s.refState j ≠ 0)
    (hs : sameSource (s.refCfg j) new = true) :
    (List.range 8).any (fun j => j != i && s.refState j != 0 && sameSource (s.refCfg j) new) = true :=
  List.any_eq_true.2 ⟨j, List.mem_range.2 hj, by simp [hji, h0, hs]⟩

theorem State.arbPut_frame (s u : State) (g : Fld) (v : Nat) :
    ({ u.arbPut g v with regs := s.regs, refs := s.refs } : State) = { u with regs := s.regs, refs := s.refs } := rfl

theorem State.recfg_rest (s : State) (i new : Nat) :
    { (s.arbPut (R.REF_CFG_CFG i) new).nominate i with regs := s.regs, refs := s.refs } = s := by
  unfold State.nominate State.setRefState
  dsimp only
  rw [s.arbPut_frame, s.arbPut_frame, s.arbPut_frame, s.arbPut_frame, s.arbPut_frame]
  exact s.arbPut_frame s (R.REF_CFG_CFG i) new

theorem State.ref_setRefState (s : State) (i v j : Nat) : (s.setRefState i v).ref j = s.ref j := rfl

theorem State.withdrawn_rest (s : State) (i new : Nat) :
    { ((s.arbPut (R.REF_CFG_CFG i) new).nominate i).setRefState i 0 with regs := s.regs, refs := s.refs } = s :=
  (s.arbPut_frame _ _ _).trans (s.recfg_rest i new)

theorem State.ref_nominate (s : State) (i : Nat) : (s.nominate i).ref i = {} := s.ref_setRef_self i {}

theorem State.ref_nominate_ne (s : State) {i j : Nat} (h : j ≠ i) : (s.nominate i).ref j = s.ref j := s.ref_setRef_ne {} h

/-- A slot that is nominated: FAILED without a cause, its configuration as it was (R151). -/
theorem State.arb_nominate (s : State) (i : Nat) :
    (s.nominate i).refState i = 1 ∧ (s.nominate i).arb (R.REF_STAT_CAUSE i) = 0 ∧
      (s.nominate i).refCfg i = s.refCfg i := by
  have hput : ∀ (u : State) (g : Fld) (v : Nat), g.off = 0x540 + 4 * i → (u.arbPut g v).refCfg i = u.refCfg i :=
    fun u g v hg => State.fld_put_off _ _ _ (by
      rw [hg]
      simp only [R.REF_CFG_CFG]
      omega)
  have hapart : ∀ (u : State) (g h : Fld) (v : Nat), g.off = 0x540 + 4 * i → h.off = 0x540 + 4 * i →
      g.lo + g.len ≤ 32 → (h.lo + h.len ≤ g.lo ∨ g.lo + g.len ≤ h.lo) → (u.arbPut g v).arb h = u.arb h :=
    fun u g h v hg hh hlen hd => State.fld_put_field _ _ _ hlen (hh.trans hg.symm) hd
  unfold State.nominate
  dsimp only
  refine ⟨?_, ?_, ?_⟩
  · refine (hapart _ _ _ _ rfl rfl (Nat.le_of_ble_eq_true rfl) (.inl (Nat.le_of_ble_eq_true rfl))).trans ?_
    refine (hapart _ _ _ _ rfl rfl (Nat.le_of_ble_eq_true rfl) (.inl (Nat.le_of_ble_eq_true rfl))).trans ?_
    refine (hapart _ _ _ _ rfl rfl (Nat.le_of_ble_eq_true rfl) (.inl (Nat.le_of_ble_eq_true rfl))).trans ?_
    refine (hapart _ _ _ _ rfl rfl (Nat.le_of_ble_eq_true rfl) (.inl (Nat.le_of_ble_eq_true rfl))).trans ?_
    exact State.fld_setRefState _ (by decide)
  · refine (hapart _ _ _ _ rfl rfl (Nat.le_of_ble_eq_true rfl) (.inl (Nat.le_of_ble_eq_true rfl))).trans ?_
    exact State.arb_arbPut_self _ _ (Nat.le_of_ble_eq_true rfl)
  · refine (hput _ _ _ rfl).trans ((hput _ _ _ rfl).trans ((hput _ _ _ rfl).trans ((hput _ _ _ rfl).trans ?_)))
    exact (hput _ _ _ rfl).trans rfl

/-- The low bits of a configuration word, as a field of their own. -/
theorem State.arb_low (s : State) {i j : Nat} (h : 0x540 + 4 * j = 0x600 + 4 * i) : s.refState j = s.refCfg i % 2 ^ 3 := by
  simp only [State.refState, State.refCfg, State.arb, State.fld, R.REF_STAT_STATE, R.REF_CFG_CFG, h, fget, bits]
  omega

/-- The state of every slot stays where one slot keeps its source: REF_CFG keeps its low bits. -/
theorem State.refState_recfg {s : State} {i new : Nat} (h : s.refCfg i % 2 ^ 13 = new % 2 ^ 13) (j : Nat) :
    (s.arbPut (R.REF_CFG_CFG i) new).traceSync.refState j = s.refState j := by
  have hsync : (s.arbPut (R.REF_CFG_CFG i) new).traceSync.refState j = (s.arbPut (R.REF_CFG_CFG i) new).refState j := by
    refine State.arb_traceSync _ ?_
    simp only [Fld.apart, R.REF_SEL_TRACEABLE, R.REF_STAT_STATE, Bool.or_eq_true, bne_iff_ne]
    exact .inl (by omega)
  rw [hsync]
  by_cases hj : 0x540 + 4 * j = 0x600 + 4 * i
  · have hlow : ∀ u : State, u.refState j = u.refCfg i % 2 ^ 3 := fun u => u.arb_low hj
    have hput : (s.arbPut (R.REF_CFG_CFG i) new).refCfg i = new % 2 ^ 18 := State.arb_arbPut_self _ _ (Nat.le_of_ble_eq_true rfl)
    rw [hlow, hlow, hput]
    omega
  · exact State.fld_put_off _ _ _ hj

theorem State.refCfg_arbPut (s : State) (i w : Nat) :
    (s.arbPut (R.REF_CFG_CFG i) (w % 2 ^ 18)).refCfg i = w % 2 ^ 18 :=
  (State.arb_arbPut_self _ _ (Nat.le_of_ble_eq_true rfl)).trans (Nat.mod_mod _ _)

theorem State.traceSync_rest (s : State) : { s.traceSync with regs := s.regs } = s := by
  unfold State.traceSync
  dsimp only
  repeat' split
  all_goals rfl

/-- A refusal that names no slot shows the servo's state (R162). -/
theorem State.refConflict_none (s : State) :
    s.refConflict none = { status := stConflict, detail := (s.servoState + 0 * 16) % 256 } := rfl

/-- REF.SELECT outside TAKEOVER and HOLD (R161, R164). -/
theorem exec_refSelect_open {n : Nat} {f : Flight} {s : State} (hopen : s.refShut = false)
    (hstarts : Starts (isOp 0x81) mRefSelect n f s) :
    let i := f.cmd.opa % 8
    let far := !freqKind (s.refKind i) && s.tooFar i (s.ref i).toff
    ((s.refState i ≠ 3 ∨ s.flag locArb R.REF_SEL_SETTLING = true ∨ 2 ≤ s.arb R.REF_SEL_MODE) →
      exec (.refSelect n) s = .next (s.complete n (s.refConflict (some i)))) ∧
    (s.refState i = 3 → s.flag locArb R.REF_SEL_SETTLING = false → s.arb R.REF_SEL_MODE < 2 →
      (s.selected = some i → exec (.refSelect n) s = .next ((s.arbPut R.REF_SEL_MODE 1).complete n { status := stOk })) ∧
      (s.selected ≠ some i → far = false →
        ∃ t : State, exec (.refSelect n) s = .next (t.complete n { status := stOk }) ∧ s.takenBy t 1 i) ∧
      (s.selected ≠ some i → far = true → ∃ u : State,
        exec (.refSelect n) s = .next ((u.reselect true).complete n { status := stOk }) ∧ u.refState i = 4 ∧
        u.arb R.REF_SEL_MODE = 0 ∧ u.selected = s.selected)) := by
  dsimp only
  have hrun : mRefSelect.run f f.cmd.loc s = if s.refShut ∨ s.refState (f.cmd.opa % 8) ≠ 3 ∨
      s.flag locArb R.REF_SEL_SETTLING ∨ 2 ≤ s.arb R.REF_SEL_MODE then
      (s, some (s.refConflict (some (f.cmd.opa % 8)))) else (s.useSlot (f.cmd.opa % 8) 1, some (okC 0)) := rfl
  have hi : f.cmd.opa % 8 < 8 := Nat.mod_lt _ (by decide)
  refine ⟨fun hno => hstarts.startRow_refConflict (hrun.trans (if_pos (.inr hno))), fun h3 hsettle hmode => ?_⟩
  rw [if_neg (by rw [hopen, hsettle]; simp [h3]; omega)] at hrun
  refine ⟨fun hsel => ?_, fun hsel hnear => ?_, fun hsel hfar => ?_⟩
  · rw [State.useSlot_again 1 hsel] at hrun
    exact hstarts.ok (k := 0) hrun
  · rw [State.useSlot_near 1 hsel hnear] at hrun
    exact ⟨_, hstarts.ok (k := 0) hrun, (s.takenBy_choose hi (by decide)).refEvent _ _⟩
  · rw [State.useSlot_far 1 hsel hfar, if_neg (by decide)] at hrun
    obtain ⟨hstate, hkeep⟩ := s.refuseSlot_spec (i := f.cmd.opa % 8) hi (s.ref (f.cmd.opa % 8)).toff
    refine ⟨_, hstarts.ok (k := 0) hrun, ?_, State.arb_arbPut_self _ _ (by decide), ?_⟩
    · refine (State.arb_arbPut_apart _ _ ?_).trans hstate
      simp only [Fld.apart, R.REF_SEL_MODE, R.REF_STAT_STATE, Bool.or_eq_true, bne_iff_ne]
      exact .inl (by omega)
    · refine State.selected_congr fun f hf => (State.arb_arbPut_apart _ _ ?_).trans (hkeep f ?_)
      · revert f
        decide
      · revert f
        decide

/-- REF.FORCE outside TAKEOVER and HOLD (R161, R164). -/
theorem exec_refForce_open {n : Nat} {f : Flight} {s : State} (hopen : s.refShut = false)
    (hstarts : Starts (isOp 0x82) mRefForce n f s) :
    let i := f.cmd.opa % 8
    let far := !freqKind (s.refKind i) && s.tooFar i (s.ref i).toff
    let rest (mode : Nat) : Prop :=
      ∃ t : State, exec (.refForce n) s = .next (t.complete n { status := stOk }) ∧ s.restedBy t mode
    (f.cmd.opa % 16 < 8 →
      (s.refState i = 0 → exec (.refForce n) s =
        .next (s.complete n { status := stConflict, detail := s.servoState % 256 })) ∧
      (s.refState i ≠ 0 → (s.ref i).dead = true → rest 2) ∧
      (s.refState i ≠ 0 → (s.ref i).dead = false →
        (s.selected = some i → exec (.refForce n) s = .next ((s.arbPut R.REF_SEL_MODE 2).complete n { status := stOk })) ∧
        (s.selected ≠ some i → far = false →
          ∃ t : State, exec (.refForce n) s = .next (t.complete n { status := stOk }) ∧ s.takenBy t 2 i) ∧
        (s.selected ≠ some i → far = true → rest 2))) ∧
    (f.cmd.opa % 16 = 15 → rest 3) := by
  dsimp only
  have hrun : mRefForce.run f f.cmd.loc s = if f.cmd.opa % 16 = 15 then
      (if s.refShut then (s, some (s.refConflict none))
        else (((s.arbPut R.REF_SEL_MODE 3).toRest false).refEvent (s.arb R.REF_SEL_SELECTED) 0 false, some (okC 0)))
    else if s.refShut ∨ s.refState (f.cmd.opa % 16) = 0 then (s, some (s.refConflict (some (f.cmd.opa % 16))))
    else if (s.ref (f.cmd.opa % 16)).dead then
      (((((s.arbPut R.REF_SEL_MODE 2).arbPut R.REF_SEL_SELECTED (f.cmd.opa % 16))).toRest false).refEvent
        (s.arb R.REF_SEL_SELECTED) (s.arb (R.REF_STAT_CAUSE (f.cmd.opa % 16))) false, some (okC 0))
    else (s.useSlot (f.cmd.opa % 16) 2, some (okC 0)) := rfl
  refine ⟨fun hlt => ?_, fun hrest => ?_⟩
  · have hi : f.cmd.opa % 16 = f.cmd.opa % 8 := by omega
    rw [if_neg (by omega), hi, hopen] at hrun
    have hi8 : f.cmd.opa % 8 < 8 := Nat.mod_lt _ (by decide)
    refine ⟨fun h0 => ?_, fun h0 hdead => ?_, fun h0 hdead => ⟨fun hsel => ?_, fun hsel hnear => ?_, fun hsel hfar => ?_⟩⟩
    · rw [if_pos (.inr h0), State.refConflict_slot, h0, Nat.zero_mul, Nat.add_zero] at hrun
      exact hstarts.conflict hrun
    · rw [if_neg (by simp [h0]), if_pos hdead] at hrun
      exact ⟨_, hstarts.ok (k := 0) hrun, (State.restedBy_toRest_slot _).refEvent _ _⟩
    · rw [if_neg (by simp [h0]), hdead, if_neg (by simp), State.useSlot_again 2 hsel] at hrun
      exact hstarts.ok (k := 0) hrun
    · rw [if_neg (by simp [h0]), hdead, if_neg (by simp), State.useSlot_near 2 hsel hnear] at hrun
      exact ⟨_, hstarts.ok (k := 0) hrun, (s.takenBy_choose hi8 (by decide)).refEvent _ _⟩
    · rw [if_neg (by simp [h0]), hdead, if_neg (by simp), State.useSlot_far 2 hsel hfar, if_pos rfl] at hrun
      obtain ⟨-, hkeep⟩ := s.refuseSlot_spec (i := f.cmd.opa % 8) hi8 (s.ref (f.cmd.opa % 8)).toff
      have hservo : (s.refuseSlot (f.cmd.opa % 8) (s.ref (f.cmd.opa % 8)).toff).servoState = s.servoState :=
        hkeep R.REF_SEL_SERVO_STATE (by decide)
      have hrest := State.restedBy_toRest_slot (s := s.refuseSlot (f.cmd.opa % 8) (s.ref (f.cmd.opa % 8)).toff) (f.cmd.opa % 8)
      unfold State.restedBy at hrest
      rw [hservo, State.flag_of_arb (hkeep R.SR_STAT_HIST_VALID (by decide))] at hrest
      exact ⟨_, hstarts.ok (k := 0) hrun, State.restedBy.refEvent hrest _ _⟩
  · rw [if_pos hrest, hopen, if_neg (by decide)] at hrun
    refine ⟨_, hstarts.ok (k := 0) hrun, (State.restedBy_toRest ?_ ?_ ?_).refEvent _ _⟩
    · exact State.arb_arbPut_self _ _ (by decide)
    · exact s.arb_arbPut_apart (g := R.REF_SEL_SERVO_STATE) _ (by decide)
    · exact s.arb_arbPut_apart _ (by decide)

/-- REF.ACCEPT_STEP outside TAKEOVER and HOLD (R165). -/
theorem exec_refAcceptStep_open {n : Nat} {f : Flight} {s : State} (hopen : s.refShut = false)
    (hstarts : Starts (isOp 0x84) mRefAcceptStep n f s) :
    let i := f.cmd.opa % 8
    (s.refState i = 4 → ∃ u : State, exec (.refAcceptStep n) s = .next (u.reselect.complete n
        { status := stOk, result := satBits (roundDiv (s.ref i).delta 65536) 16 % 65536 }) ∧
      u.refState i = 3 ∧ u.ref i = { s.ref i with accept := true, shut := false } ∧
      { u with refs := s.refs, regs := s.regs } = s) ∧
    (s.refState i ≠ 4 → exec (.refAcceptStep n) s = .next (s.complete n (s.refConflict (some i)))) := by
  dsimp only
  have hrun : mRefAcceptStep.run f f.cmd.loc s = if s.refShut ∨ s.refState (f.cmd.opa % 8) ≠ 4 then
      (s, some (s.refConflict (some (f.cmd.opa % 8))))
      else (((s.setRef (f.cmd.opa % 8) { s.ref (f.cmd.opa % 8) with accept := true, shut := false }).setRefState
        (f.cmd.opa % 8) 3).reselect, some (okC (ns16 (s.ref (f.cmd.opa % 8)).delta))) := rfl
  rw [hopen] at hrun
  refine ⟨fun h4 => ⟨_, hstarts.ok (hrun.trans (if_neg (by simp [h4]))), State.fld_setRefState _ (by decide),
    (State.ref_setRefState _ _ _ _).trans (State.ref_setRef_self _ _ _), ?_⟩, fun h4 => hstarts.startRow_refConflict (hrun.trans (if_pos (.inr h4)))⟩
  rfl

theorem State.refConflict_servo (s : State) : s.refConflict none = conflictC s.servoState := by
  rw [State.refConflict, Option.map_none, Option.getD_none, Nat.zero_mul, Nat.add_zero]

/-- Settles O30: each REF instruction by the servo's state, the slot's, and whether its Delta is refused. -/
theorem referencesObeyTheHost : Obligations.ReferencesObeyTheHost := by
  unfold Obligations.ReferencesObeyTheHost
  refine ⟨fun n f s => ?set, fun n f s hshut => ?shut, fun n f s hopen => ?opened⟩
  case' set =>
    dsimp only
    rw [← State.refConflict_slot]
    refine ⟨fun hstarts => ?nominate, fun hstarts hopen => ?withdraw⟩
  case' opened =>
    dsimp only
    rw [← State.refConflict_slot]
    refine ⟨fun hstarts => ?select, fun hstarts => ?force, fun hstarts => ?release, fun hstarts => ?accept⟩
  case nominate =>
    have hform : bit f.cmd.opa 3 = true := (Bool.and_eq_true_iff.1 hstarts.form).2
    refine ⟨fun hservo => hstarts.startRow_refConflict (mRefSet_run_shut (State.refShut_iff.2 hservo) f _), fun hopen => ?_⟩
    have hrun := mRefSet_run_open hopen f f.cmd.loc
    dsimp only at hrun
    rw [if_pos hform] at hrun
    refine ⟨fun j hj hji h0 hs => ?_, fun hsel hmoved => ?_, fun hfree h0 hsame => ?_, fun hfree hsel hnew => ?_⟩
    · exact hstarts.startRow_refConflict (hrun.trans (if_pos (sourceTaken hj hji h0 hs)))
    · refine hstarts.startRow_refConflict (hrun.trans ?_)
      split
      · rfl
      · exact if_pos ⟨hsel, bne_iff_ne.2 hmoved⟩
    · have hmoved : (s.refCfg (f.cmd.opa % 8) % 2 ^ 13 != f.cmd.opb % 2 ^ 18 % 2 ^ 13) = false := by
        simpa using hsame
      rw [sourceFree hfree, if_neg (by decide), hmoved, if_neg (by simp), if_neg (by simp [h0])] at hrun
      refine ⟨_, hstarts.ok (k := 0) hrun, ?_, State.refState_recfg hsame, ?_⟩
      · refine (State.arb_traceSync _ ?_).trans (State.refCfg_arbPut _ _ _)
        simp only [Fld.apart, R.REF_SEL_TRACEABLE, R.REF_CFG_CFG, Bool.or_eq_true, bne_iff_ne]
        exact .inl (by omega)
      · exact congrArg (fun t : State => { t with regs := s.regs })
          (s.arbPut (R.REF_CFG_CFG (f.cmd.opa % 8)) (f.cmd.opb % 2 ^ 18)).traceSync_rest
    · have hmoved : s.refState (f.cmd.opa % 8) = 0 ∨ (s.refCfg (f.cmd.opa % 8) % 2 ^ 13 != f.cmd.opb % 2 ^ 18 % 2 ^ 13) = true :=
        hnew.imp_right bne_iff_ne.2
      rw [sourceFree hfree, if_neg (by decide), if_neg (fun h => hsel h.1), if_pos hmoved] at hrun
      obtain ⟨hstate, hcause, hcfg⟩ := (s.arbPut (R.REF_CFG_CFG (f.cmd.opa % 8)) (f.cmd.opb % 2 ^ 18)).arb_nominate
        (f.cmd.opa % 8)
      refine ⟨_, hstarts.ok (k := 0) hrun, ?_, hstate, State.ref_nominate _ _, hcause, fun j hj => State.ref_nominate_ne _ hj, ?_⟩
      · exact hcfg.trans (State.refCfg_arbPut _ _ _)
      · exact s.recfg_rest _ _
  case withdraw =>
    have hform : ¬bit f.cmd.opa 3 = true := by simpa using (Bool.and_eq_true_iff.1 hstarts.form).2
    have hrun := mRefSet_run_open hopen f f.cmd.loc
    dsimp only at hrun
    rw [if_neg hform] at hrun
    refine ⟨fun hsel => hstarts.startRow_refConflict (hrun.trans (if_pos hsel)), fun hsel => ?_⟩
    rw [if_neg hsel] at hrun
    exact ⟨_, hstarts.ok (k := 0) hrun, State.fld_setRefState _ (by decide),
      (State.ref_setRefState _ _ _ _).trans (State.ref_nominate _ _), s.withdrawn_rest _ _⟩
  case shut =>
    dsimp only
    rw [← State.refConflict_slot]
    refine ⟨fun hstarts => hstarts.startRow_refConflict (mRefSelect_run_shut hshut f _), fun hstarts => ?_,
      fun hstarts => ?_, fun hstarts => hstarts.startRow_refConflict (mRefAcceptStep_run_shut hshut f _)⟩
    · by_cases hrest : f.cmd.opa % 16 = 15
      · rw [if_pos hrest, ← State.refConflict_none]
        exact hstarts.startRow_refConflict (mRefForce_run_shut_rest hshut hrest _)
      · rw [if_neg hrest, ← State.refConflict_slot]
        exact hstarts.startRow_refConflict (mRefForce_run_shut_slot hshut hrest _)
    · rw [← State.refConflict_none]
      exact hstarts.startRow_refConflict (mRefRelease_run_shut hshut f _)
  case select => exact exec_refSelect_open hopen hstarts
  case force => exact exec_refForce_open hopen hstarts
  case release =>
    have hrun : mRefRelease.run f f.cmd.loc s = if s.refShut ∨ s.arb R.REF_SEL_MODE = 0 then (s, some (s.refConflict none))
        else ((s.arbPut R.REF_SEL_MODE 0).reselect, some (okC 0)) := rfl
    rw [hopen] at hrun
    refine ⟨fun hmode => hstarts.ok (k := 0) (hrun.trans (if_neg (by simp [hmode]))), fun hmode => ?_⟩
    exact hstarts.conflict (hrun.trans ((if_pos (.inr hmode)).trans (by rw [State.refConflict_servo])))
  case accept => exact exec_refAcceptStep_open hopen hstarts

end Sys2Proof.Machine
end

section
/-! PROOFS. Time-of-day messages, activity, pulses, gates, settle windows and the servo's lock (R152 to R160, R168). -/

namespace Sys2Proof.Machine

/-! ### Time-of-day messages (R152) -/

theorem exec_todMessage {bs : List Byte} {s : State} : exec (.todMessage bs) s =
    if bs.length == 11 && beAt bs 0 2 == 0xC33C && crc16 (leAt bs 2 7) 56 == beAt bs 9 2 &&
        todWindow (s.now - s.servo.pulse0) then
      .next ((s.setServo { s.servo with todSecs := beAt bs 2 6, todFlags := beAt bs 8 1,
                                        todOk := bit (beAt bs 8 1) 0 }).traceSync)
    else .next s := rfl

theorem todWindow_iff {now pulse : Nat} :
    todWindow (now - pulse) = true ↔ pulse + 6250000 ≤ now ∧ now ≤ pulse + 562500000 := by
  simp only [todWindow, Bool.and_eq_true, decide_eq_true_eq]
  omega

/-! ### Failures of a slot (R153, R158) -/

theorem State.refState_arbPut_ne (s : State) (g : Fld) (v : Nat) {j : Nat} (h : g.off ≠ 0x540 + 4 * j) :
    (s.arbPut g v).refState j = s.refState j := State.fld_put_off _ _ _ (fun e => h e.symm)

theorem State.failSlot_low {s : State} {i : Nat} (cause : Nat) (h : s.refState i < 2) : s.failSlot i cause = s := by
  simp only [State.failSlot, if_pos h]

/-- The record of a slot that fails (R158). -/
def RefSlot.failed (x : RefSlot) (st : Nat) : RefSlot :=
  { x with qual := 0, accept := false, shut := false, left := x.left || decide (3 ≤ st) }

/-- A slot that fails: FAILED, and its cause from QUALIFIED on (R158). -/
def State.failPut (s : State) (i cause : Nat) : State :=
  let u := (s.setRef i ((s.ref i).failed (s.refState i))).setRefState i 1
  if 3 ≤ s.refState i then u.arbPut (R.REF_STAT_CAUSE i) cause else u

theorem State.failSlot_eq {s : State} {i : Nat} (cause : Nat) (h : 2 ≤ s.refState i) :
    (s.failSlot i cause).regs = (s.failPut i cause).regs ∧ (s.failSlot i cause).part = (s.failPut i cause).part ∧
      (s.failSlot i cause).refs = (s.failPut i cause).refs := by
  have hfail : s.failSlot i cause = if (s.failPut i cause).servo.due.any (fun d => d.1 == i) then
      (s.failPut i cause).setServo { (s.failPut i cause).servo with due := none } else s.failPut i cause := by
    unfold State.failSlot
    dsimp only
    rw [if_neg (by omega)]
    rfl
  rw [hfail]
  split <;> exact ⟨rfl, rfl, rfl⟩

theorem State.failSlot_spec {s : State} {i : Nat} (cause : Nat) (hst : 2 ≤ s.refState i) :
    (s.failSlot i cause).refState i = 1 ∧
    (3 ≤ s.refState i → (s.failSlot i cause).arb (R.REF_STAT_CAUSE i) = cause % 8) ∧
    (s.failSlot i cause).ref i = (s.ref i).failed (s.refState i) ∧
    (∀ f : Fld, f.off ≠ 0x540 + 4 * i → (s.failSlot i cause).arb f = s.arb f) := by
  obtain ⟨hregs, hpart, hrefs⟩ := State.failSlot_eq cause hst
  have harb : ∀ f, (s.failSlot i cause).arb f = (s.failPut i cause).arb f := fun f => State.arb_congr hregs hpart f
  have hcausePut : ∀ (u : State), (u.arbPut (R.REF_STAT_CAUSE i) cause).refState i = u.refState i := fun u =>
    State.fld_put_field _ _ _ (Nat.le_of_ble_eq_true rfl) rfl (.inl (Nat.le_of_ble_eq_true rfl))
  have hput : ∀ (u : State) (g f : Fld) (v : Nat), g.off = 0x540 + 4 * i → f.off ≠ 0x540 + 4 * i →
      (u.arbPut g v).arb f = u.arb f := fun u g f v hg hf => State.fld_put_off _ _ _ (by rw [hg]; exact hf)
  refine ⟨(harb _).trans ?_, fun h3 => (harb _).trans ?_, ?_, fun f hf => (harb f).trans ?_⟩
  · unfold State.failPut
    dsimp only
    split
    · exact (hcausePut _).trans (State.fld_setRefState _ (by decide))
    · exact State.fld_setRefState _ (by decide)
  · unfold State.failPut
    dsimp only
    rw [if_pos h3]
    exact State.arb_arbPut_self _ _ (Nat.le_of_ble_eq_true rfl)
  · have hset : (s.failPut i cause).refs = (s.setRef i ((s.ref i).failed (s.refState i))).refs := by
      unfold State.failPut
      dsimp only
      split <;> rfl
    unfold State.ref
    rw [hrefs, hset]
    exact s.ref_setRef_self i _
  · unfold State.failPut
    dsimp only
    split
    · exact (hput _ _ _ _ rfl hf).trans (hput _ _ _ _ rfl hf)
    · exact hput _ _ _ _ rfl hf

/-! ### Activity (R153) -/

theorem exec_refActivityFail_nominated {s : State} {i : Nat} (hi : i < 8) (h0 : s.refState i ≠ 0) :
    exec (.refActivityFail i) s = .next
      (let u := s.setRef i { s.ref i with dead := true }
       if u.servoState = 6 then u
       else (u.failSlot i 1).reselect (u.selected == some i && u.refState i == 3)) := by
  show Host.Outcome.next (s.activityFail i) = _
  unfold State.activityFail
  rw [if_neg (by omega)]

/-! ### Pulses (R152, R153) -/

theorem State.slotOf_none (s : State) {ok : Nat → Bool} (h : ∀ k, ok k = false) : s.slotOf ok = [] := by
  simp only [State.slotOf, h, Bool.and_false, List.filter_false]

/-- The pulse that is kept as the last of its input (R152). -/
def State.pulseKept (s : State) (inp : Nat) (offset : Int) : State :=
  let last := if inp = 0 then s.servo.pulse0 else s.servo.pulse1
  let s := if last = 0 then s else s.advanceTo (((last : Int) + secTicks + offset).toNat)
  s.setServo (if inp = 0 then { s.servo with pulse0 := s.now, todOk := false } else { s.servo with pulse1 := s.now })

theorem exec_referencePulse (s : State) (inp : Nat) (offset : Int) :
    exec (.referencePulse inp offset) s =
      let off := (if inp = 0 then s.servo.pulse0 else s.servo.pulse1) != 0 && decide (62500 < offset.natAbs)
      .next (((s.pulseKept inp offset).slotOf (fun k =>
        if inp = 0 then (k == 0 && (off || !s.servo.todOk)) || (k == 7 && off) else k == 1 && off)).foldl State.activityFail
          (s.pulseKept inp offset)) := by
  have hstart : ∀ last : Nat, (if last = 0 then s else s.advanceTo (((last : Int) + secTicks + offset).toNat)).servo =
      s.servo := by
    intro last
    split <;> rfl
  show execReferencePulse inp offset s = _
  unfold execReferencePulse
  dsimp only
  rw [hstart]
  unfold State.pulseKept
  dsimp only
  rw [hstart]

theorem exec_referencePulse_hit {s : State} {inp : Nat} {offset : Int} {late : Bool} {ok : Nat → Bool}
    (hlate : ((if inp = 0 then s.servo.pulse0 else s.servo.pulse1) != 0 && decide (62500 < offset.natAbs)) = late)
    (hok : ∀ k, (if inp = 0 then (k == 0 && (late || !s.servo.todOk)) || (k == 7 && late) else k == 1 && late) = ok k) :
    exec (.referencePulse inp offset) s =
      .next (((s.pulseKept inp offset).slotOf ok).foldl State.activityFail (s.pulseKept inp offset)) := by
  rw [exec_referencePulse, hlate]
  dsimp only
  simp only [hok]

theorem State.pulseKept_spec (s : State) (inp : Nat) (offset : Int) :
    (s.pulseKept inp offset).regs = s.regs ∧ (s.pulseKept inp offset).refs = s.refs ∧
    (s.pulseKept inp offset).servo = if inp = 0 then { s.servo with pulse0 := (s.pulseKept inp offset).now, todOk := false }
      else { s.servo with pulse1 := (s.pulseKept inp offset).now } := by
  have hstart : ∀ last : Nat, (if last = 0 then s else s.advanceTo (((last : Int) + secTicks + offset).toNat)).servo =
      s.servo := by
    intro last
    split <;> rfl
  unfold State.pulseKept
  dsimp only
  refine ⟨?_, ?_, ?_⟩
  · rw [State.setServo_regs, apply_ite State.regs]
    exact ite_self _
  · rw [State.setServo_refs, apply_ite State.refs]
    exact ite_self _
  · rw [hstart]
    rfl

/-! ### The settle window and the lock (R160, R168) -/

/-- The servo's state where a settle window ends (R160, R168). -/
def State.settleServo (s : State) (residual : Int) : State :=
  if s.servoState = 5 then
    let freq := s.selected.any (fun i => freqKind (s.refKind i))
    if freq then s.toServo 2 else if residual.natAbs ≤ 65536 then s.toServo 3
    else (s.setServo { s.servo with lockAt := s.now }).toServo 1
  else s

/-- A window that ends, before the servo's state moves: a pending epoch that no Delta carries is adopted (R143). -/
def State.windowEnd (s : State) : State :=
  let s := (s.advanceTo s.servo.settleEnd).arbPut R.REF_SEL_SETTLING 0
  if s.servo.due.isNone && s.servo.step.isNone && !s.servo.epochBySlew then s.adoptEpoch else s

theorem State.now_traceSync (s : State) : s.traceSync.now = s.now := by
  unfold State.traceSync
  dsimp only
  repeat' split
  all_goals rfl

theorem State.now_toServo (s : State) (v : Nat) : (s.toServo v).now = s.now := by
  have hsync : (s.arbPut R.REF_SEL_SERVO_STATE v).traceSync.now = s.now := State.now_traceSync _
  unfold State.toServo
  dsimp only
  repeat' split
  all_goals exact hsync

theorem State.servo_toServo (s : State) {v : Nat} (h : v ≠ 1) : (s.toServo v).servo = s.servo := by
  have hsync : (s.arbPut R.REF_SEL_SERVO_STATE v).traceSync.servo = s.servo := State.servo_traceSync _
  unfold State.toServo
  dsimp only
  rw [if_neg h]
  split <;> exact hsync

theorem State.arb_settleServo (s : State) (residual : Int) {f : Fld} (h1 : R.REF_SEL_SERVO_STATE.apart f = true)
    (h2 : R.REF_SEL_TRACEABLE.apart f = true) (h3 : R.REF_SEL_TS_TRACED.apart f = true) :
    (s.settleServo residual).arb f = s.arb f := by
  unfold State.settleServo
  dsimp only
  repeat' split
  all_goals first | exact State.arb_toServo _ _ h1 h2 h3 | rfl

theorem State.now_settleServo (s : State) (residual : Int) : (s.settleServo residual).now = s.now := by
  unfold State.settleServo
  dsimp only
  repeat' split
  all_goals first | exact State.now_toServo _ _ | rfl

/-- A slot that is selected has a number of three bits, so that its configuration lies apart from the selector's word. -/
theorem State.selected_apart {s : State} {i : Nat} (h : s.selected = some i) (f : Fld) (hf : f.off < 0x600 ∨ 0x620 ≤ f.off) :
    f.apart (R.REF_CFG_CFG i) = true := by
  have hi : i < 8 := by
    unfold State.selected at h
    split at h
    · cases h
    · rw [← Option.some.inj h]
      exact Nat.mod_lt _ (by decide)
  simp only [Fld.apart, R.REF_CFG_CFG, Bool.or_eq_true, bne_iff_ne]
  exact .inl (by omega)

theorem exec_settleWindowEnd {s : State} (residual : Int) (hflag : s.flag locArb R.REF_SEL_SETTLING = true)
    (hservo : s.servoState < 6) : exec (.settleWindowEnd residual) s = .next (s.windowEnd.settleServo residual).reselect := by
  show execSettleWindowEnd residual s = _
  unfold execSettleWindowEnd
  rw [if_neg (by simp [hflag]; omega)]
  rfl

theorem State.windowEnd_spec (s : State) :
    s.windowEnd.flag locArb R.REF_SEL_SETTLING = false ∧ s.servo.settleEnd ≤ s.windowEnd.now ∧
    ∀ f : Fld, R.REF_SEL_SETTLING.apart f = true → R.RLK_SYS_SYS_EPOCH.apart f = true → s.windowEnd.arb f = s.arb f := by
  have hadopt : ∀ (u : State) (f : Fld), R.RLK_SYS_SYS_EPOCH.apart f = true → u.adoptEpoch.arb f = u.arb f := by
    intro u f hf
    unfold State.adoptEpoch
    split
    · rfl
    · exact (State.arb_setServo _ _ _).trans (State.arb_arbPut_apart _ _ hf)
  have hnow : ∀ u : State, u.adoptEpoch.now = u.now := by
    intro u
    unfold State.adoptEpoch
    split <;> rfl
  have harb : ∀ f : Fld, R.RLK_SYS_SYS_EPOCH.apart f = true →
      s.windowEnd.arb f = ((s.advanceTo s.servo.settleEnd).arbPut R.REF_SEL_SETTLING 0).arb f := by
    intro f hf
    unfold State.windowEnd
    dsimp only
    split
    · exact hadopt _ _ hf
    · rfl
  refine ⟨?_, ?_, fun f h1 h2 => ?_⟩
  · exact State.flag_false_of ((harb R.REF_SEL_SETTLING (by decide)).trans (State.arb_arbPut_self _ _ (by decide)))
  · have hend : s.servo.settleEnd ≤ ((s.advanceTo s.servo.settleEnd).arbPut R.REF_SEL_SETTLING 0).now := by
      show _ ≤ (s.advanceTo s.servo.settleEnd).now
      rw [State.now_advanceTo]
      exact Nat.le_max_right _ _
    unfold State.windowEnd
    dsimp only
    split
    · rw [hnow]
      exact hend
    · exact hend
  · rw [harb f h2]
    exact State.arb_arbPut_apart _ _ h1

/-! ### The gate's clock (R154, R168, R198) -/

/-- What the beginning of a gate's end leaves: the slots, the ports, and every field but CLK_XDIFF, the time spent in Steady
Rest and the upper halves of the slots' words. -/
structure GateKept (s t : State) : Prop where
  refs : t.refs = s.refs
  ports : t.ports = s.ports
  now_le : s.now ≤ t.now
  fcw : t.servo.fcw = s.servo.fcw
  pulse0 : t.servo.pulse0 = s.servo.pulse0
  pulse1 : t.servo.pulse1 = s.servo.pulse1
  arb : ∀ f : Fld, f.off < 0x5C0 ∨ 0x5C4 ≤ f.off → f.off < 0x540 ∨ 0x560 ≤ f.off ∨ f.lo + f.len ≤ 16 → f.off < 16777216 →
    t.arb f = s.arb f
  fld : ∀ (l : Nat) (f : Fld), l < 0xC000 → f.off < 16777216 → t.fld l f = s.fld l f
  part : t.part = s.part

theorem GateKept.refl (s : State) : GateKept s s :=
  ⟨rfl, rfl, le_rfl, rfl, rfl, rfl, fun _ _ _ _ => rfl, fun _ _ _ _ => rfl, rfl⟩

theorem GateKept.trans {s t u : State} (h : GateKept s t) (k : GateKept t u) : GateKept s u :=
  ⟨k.refs.trans h.refs, k.ports.trans h.ports, h.now_le.trans k.now_le, k.fcw.trans h.fcw, k.pulse0.trans h.pulse0,
    k.pulse1.trans h.pulse1, fun f h1 h2 h3 => (k.arb f h1 h2 h3).trans (h.arb f h1 h2 h3),
    fun l f h1 h2 => (k.fld l f h1 h2).trans (h.fld l f h1 h2), k.part.trans h.part⟩

theorem GateKept.ite {s t u : State} (p : Prop) [Decidable p] (h : GateKept s t) (k : GateKept s u) :
    GateKept s (if p then t else u) := by
  split
  · exact h
  · exact k

theorem GateKept.foldl {α : Type} {f : State → α → State} {l : List α} (h : ∀ s, ∀ x ∈ l, GateKept s (f s x)) (s : State) :
    GateKept s (l.foldl f s) := by
  induction l generalizing s with
  | nil => exact .refl s
  | cons x l ih =>
    exact (h s x (List.mem_cons_self ..)).trans (ih (fun s y hy => h s y (List.mem_cons_of_mem _ hy)) _)

theorem GateKept.advance (s : State) (k : Nat) : GateKept s (s.advance k) :=
  ⟨rfl, rfl, by rw [State.now_advance]; omega, rfl, rfl, rfl, fun _ _ _ _ => rfl, fun _ _ _ _ => rfl, rfl⟩

theorem GateKept.xdiffSync (s : State) : GateKept s s.xdiffSync := by
  have hput : ∀ v, GateKept s (s.freeNat.2.clkPut R.CLK_XDIFF_DIFF v) := fun v =>
    ⟨rfl, rfl, le_rfl, rfl, rfl, rfl,
      fun f _ _ hf => (State.fld_put_loc _ _ (show locArb ≠ locClk by decide) (by decide) hf).trans (State.fld_congr rfl rfl _ _),
      fun l f hl hf => (State.fld_put_loc _ _ (show l ≠ locClk by unfold locClk; omega) (by decide) hf).trans
        (State.fld_congr rfl rfl _ _), rfl⟩
  unfold State.xdiffSync
  exact .ite _ (hput _) (.refl s)

theorem GateKept.arbPut (s : State) (g : Fld) (v : Nat)
    (h : ∀ f : Fld, f.off < 0x5C0 ∨ 0x5C4 ≤ f.off → f.off < 0x540 ∨ 0x560 ≤ f.off ∨ f.lo + f.len ≤ 16 →
      g.apart f = true) (hg : g.off < 16777216) : GateKept s (s.arbPut g v) :=
  ⟨rfl, rfl, le_rfl, rfl, rfl, rfl, fun f h1 h2 _ => State.arb_arbPut_apart _ _ (h f h1 h2),
    fun l f hl hf => State.fld_put_loc _ _ (show l ≠ locArb by unfold locArb; omega) hg hf, rfl⟩

theorem GateKept.duration (s : State) (v : Nat) : GateKept s (s.arbPut R.SR_DURATION_SECONDS v) := by
  refine .arbPut s _ _ (fun f h1 _ => ?_) (by decide)
  simp only [Fld.apart, R.SR_DURATION_SECONDS, Bool.or_eq_true, bne_iff_ne]
  exact .inl (by omega)

theorem GateKept.wtrLeft (s : State) {i : Nat} (hi : i < 8) (v : Nat) : GateKept s (s.arbPut (R.REF_STAT_WTR_LEFT i) v) := by
  refine .arbPut s _ _ (fun f _ h2 => ?_) (by simp only [R.REF_STAT_WTR_LEFT]; omega)
  by_cases hoff : f.off = 0x540 + 4 * i
  · have hlo : f.lo + f.len ≤ 16 := by omega
    simp [Fld.apart, R.REF_STAT_WTR_LEFT, hlo]
  · simp only [Fld.apart, R.REF_STAT_WTR_LEFT, Bool.or_eq_true, bne_iff_ne]
    exact .inl hoff

theorem GateKept.wtrDown (s : State) : GateKept s s.wtrDown :=
  .foldl (fun s _ hi => .wtrLeft s (List.mem_range.1 (List.mem_filter.1 hi).1) _) s

/-- The gate's end, before anything is judged: its boundary has come. -/
def State.gateOpen (s : State) : State :=
  let s := if s.now = s.servo.gateAt ∧ s.now ≠ 0 then s.advance 1 else s
  let s := s.toSecond.xdiffSync
  s.setServo { s.servo with gateAt := s.now, gateBad := false }

/-- The seconds of Steady Rest counted. -/
def State.gateBegin (s : State) : State :=
  let s := s.gateOpen
  if s.servoState = 4 ∨ (6 ≤ s.servoState ∧ s.servo.before = 4) then
    s.arbPut R.SR_DURATION_SECONDS (satNat (s.arb R.SR_DURATION_SECONDS + 1) 32) else s

theorem GateKept.gateOpen (s : State) : GateKept s s.gateOpen := by
  unfold State.gateOpen
  dsimp only
  refine GateKept.trans (t := (if s.now = s.servo.gateAt ∧ s.now ≠ 0 then s.advance 1 else s).toSecond.xdiffSync) ?_
    ⟨rfl, rfl, le_rfl, rfl, rfl, rfl, fun _ _ _ _ => rfl, fun _ _ _ _ => rfl, rfl⟩
  exact ((GateKept.ite _ (.advance s 1) (.refl s)).trans (.advance _ _)).trans (.xdiffSync _)

theorem GateKept.gateBegin (s : State) : GateKept s s.gateBegin := by
  unfold State.gateBegin
  exact (GateKept.gateOpen s).trans (.ite _ (.duration _ _) (.refl _))

theorem GateKept.servoState {s t : State} (h : GateKept s t) : t.servoState = s.servoState :=
  h.arb R.REF_SEL_SERVO_STATE (by decide) (by decide) (by decide)

theorem State.gateBad_eq (s : State) :
    ((if s.now = s.servo.gateAt ∧ s.now ≠ 0 then s.advance 1 else s).toSecond.xdiffSync).servo = s.servo := by
  have hsync : ∀ u : State, u.xdiffSync.servo = u.servo := by
    intro u
    unfold State.xdiffSync
    split <;> rfl
  rw [hsync]
  show (if s.now = s.servo.gateAt ∧ s.now ≠ 0 then s.advance 1 else s).servo = s.servo
  split <;> rfl

theorem exec_refGateEnd_takeover {s : State} (meas : List GateMeas) (h6 : s.servoState = 6) :
    exec (.refGateEnd meas) s = .next s.gateBegin.gateFresh := by
  have hstate : s.gateOpen.servoState = 6 := (GateKept.gateOpen s).servoState.trans h6
  show execRefGateEnd meas s = _
  unfold execRefGateEnd
  exact if_pos hstate

/-- The slots judged, and the servo's frequency kept (R154 to R159, R171). -/
def State.gateJudged (s : State) (meas : List GateMeas) : State :=
  let u := if s.gateOpen.servoState = 7 then s.gateBegin else s.gateBegin.wtrDown
  let t := if s.servo.gateBad then u.gateFresh else u.monitors meas
  if s.gateOpen.servoState = 2 ∨ s.gateOpen.servoState = 3 then t.record (!s.servo.gateBad && t.selPassed meas) else t

/-- The offsets of the slots before the gate (R163). -/
def State.gatePre (s : State) : List (Nat × Int) :=
  ((List.range 8).filter (fun i => (s.gateBegin.ref i).gates != [])).map (fun i => (i, (s.gateBegin.ref i).toff))

/-- Whether the gate took the selected slot out of QUALIFIED. -/
def State.gateLost (s : State) (meas : List GateMeas) : Bool :=
  (s.gateBegin.selected.any (fun i => s.gateBegin.refState i == 3)) &&
    s.gateBegin.selected.any (fun i => (s.gateJudged meas).refState i != 3)

theorem exec_refGateEnd_judged {s : State} (meas : List GateMeas) (h6 : s.servoState ≠ 6) :
    exec (.refGateEnd meas) s =
      .next (((s.gateJudged meas).trackSel s.gatePre).traceSync.reselect (s.gateLost meas)) := by
  have hstate : s.gateOpen.servoState ≠ 6 := fun h => h6 ((GateKept.gateOpen s).servoState.symm.trans h)
  show execRefGateEnd meas s = _
  unfold execRefGateEnd
  dsimp only
  refine (if_neg hstate).trans ?_
  unfold State.gateLost State.gatePre State.gateJudged
  rw [← congrArg Servo.gateBad s.gateBad_eq]
  rfl

/-! ### What a gate judges does not depend on the registers that its clock writes -/

theorem State.gateOffs_congr {s t : State} {m : GateMeas} (hcfg : t.refCfg m.slot = s.refCfg m.slot)
    (hports : t.ports = s.ports) (hnow : t.now = s.now) : t.gateOffs m = s.gateOffs m := by
  simp only [State.gateOffs, State.refPort, State.refKind, State.relka, State.port, hcfg, hports, hnow]

theorem State.gatePhase_congr {s t : State} {i : Nat} (hcfg : t.refCfg i = s.refCfg i)
    (hports : t.ports = s.ports) (hnow : t.now = s.now) : t.gatePhase i = s.gatePhase i := by
  unfold State.gatePhase State.refPort State.refKind State.relka State.port
  rw [hcfg, hports, hnow]

theorem State.gateFoff_congr {s t : State} {m : GateMeas} (offs : List (Nat × Int)) (hcfg : t.refCfg m.slot = s.refCfg m.slot)
    (hports : t.ports = s.ports) (hnow : t.now = s.now) (hrefs : t.refs = s.refs) (hfcw : t.servo.fcw = s.servo.fcw) :
    t.gateFoff m offs = s.gateFoff m offs := by
  simp only [State.gateFoff, State.refKind, State.ref, State.gatePhase_congr hcfg hports hnow, hcfg, hnow, hrefs, hfcw]

theorem State.gateCause_congr {s t : State} (fail : Bool) (foff : Int) (offs : List (Nat × Int)) (hnow : t.now = s.now)
    (harb : ∀ f ∈ [R.REF_QUAL_REJECT, R.REF_CHAT_CHAT_1S, R.REF_CHAT_CHAT_100S], t.arb f = s.arb f) :
    t.gateCause fail foff offs = s.gateCause fail foff offs := by
  simp only [List.forall_mem_cons] at harb
  obtain ⟨hreject, h1, h100, -⟩ := harb
  unfold State.gateCause State.chatters
  rw [hnow, hreject, h1, h100]

theorem portLoc_ref : ∀ d < 4, ∀ p < 128, portLoc d p < 0xC000 := by decide

theorem State.standing_congr {s t : State} {i : Nat} (hcfg : t.refCfg i = s.refCfg i) (hports : t.ports = s.ports)
    (hnow : t.now = s.now) (h0 : t.servo.pulse0 = s.servo.pulse0) (h1 : t.servo.pulse1 = s.servo.pulse1)
    (hfld : ∀ (l : Nat) (f : Fld), l < 0xC000 → f.off < 16777216 → t.fld l f = s.fld l f)
    (hflag : t.arb R.REF_CTRL_ACCEPT_UNTRACED = s.arb R.REF_CTRL_ACCEPT_UNTRACED) : t.standing i = s.standing i := by
  have hport : ∀ f : Fld, f.off < 16777216 → t.pfld (bits (s.refCfg i) 4 2) (bits (s.refCfg i) 6 7) f =
      s.pfld (bits (s.refCfg i) 4 2) (bits (s.refCfg i) 6 7) f := fun f hf =>
    hfld _ f (portLoc_ref _ (Nat.mod_lt _ (by decide)) _ (Nat.mod_lt _ (by decide))) hf
  unfold State.standing State.refPort State.refKind State.relka State.port State.pstate
  dsimp only
  rw [hcfg, hports, hnow, h0, h1, State.flag_of_arb hflag, hport _ (show R.PORT_STAT_STATE.off < 16777216 by decide),
    hport _ (show R.RLK_STAT_STATE.off < 16777216 by decide)]

/-- A reference that no port delivers has the frequency that the gate brings. -/
theorem State.gateFoff_plain {s : State} {m : GateMeas} (offs : List (Nat × Int)) (h5 : s.refKind m.slot ≠ 5)
    (h6 : s.refKind m.slot ≠ 6) : s.gateFoff m offs = m.foff := by
  unfold State.gateFoff
  dsimp only
  split
  · exact absurd ‹_› h5
  · exact absurd ‹_› h6
  · rfl

/-- A clock input has the offsets that the gate brings, each at its tick. -/
theorem State.gateOffs_plain {s : State} {m : GateMeas} (h5 : s.refKind m.slot ≠ 5) (h6 : s.refKind m.slot ≠ 6)
    (hphase : phaseKind (s.refKind m.slot) = false) (hall : ∀ x ∈ m.offs, x.1 ≤ 625000000) :
    s.gateOffs m = m.offs.map (fun x => (s.now - x.1, x.2)) := by
  have hfilter : m.offs.filter (fun x => decide (x.1 ≤ secTicks)) = m.offs :=
    List.filter_eq_self.2 fun x hx => decide_eq_true (hall x hx)
  unfold State.gateOffs
  dsimp only
  split
  · exact absurd ‹_› h5
  · exact absurd ‹_› h6
  · rw [hfilter, hphase]
    rfl

theorem State.gateCause_lt (s : State) (fail : Bool) (foff : Int) (offs : List (Nat × Int)) :
    s.gateCause fail foff offs < 8 := by
  unfold State.gateCause
  repeat' split
  all_goals decide

/-! ### A gate at one slot (R153 to R158) -/

/-- What the warning and the look-ahead of a slot leave: every field but WARN, WARN_COUNT and FORECAST. -/
structure SlotKept (i : Nat) (s t : State) : Prop where
  refs : t.refs = s.refs
  arb : ∀ f : Fld, f.off ≠ 0x540 + 4 * i ∨ f.lo + f.len ≤ 3 ∨ 5 ≤ f.lo ∧ f.lo + f.len ≤ 8 → f.off < 16777216 →
    t.arb f = s.arb f

theorem SlotKept.refl (i : Nat) (s : State) : SlotKept i s s := ⟨rfl, fun _ _ _ => rfl⟩

theorem SlotKept.trans {i : Nat} {s t u : State} (h : SlotKept i s t) (k : SlotKept i t u) : SlotKept i s u :=
  ⟨k.refs.trans h.refs, fun f h1 h2 => (k.arb f h1 h2).trans (h.arb f h1 h2)⟩

theorem SlotKept.ite {i : Nat} {s t u : State} (p : Prop) [Decidable p] (h : SlotKept i s t) (k : SlotKept i s u) :
    SlotKept i s (if p then t else u) := by
  split
  · exact h
  · exact k

theorem SlotKept.arbPut {i : Nat} (s : State) {lo len : Nat} (v : Nat) (hlen : lo + len ≤ 32) (h3 : 3 ≤ lo)
    (h8 : lo + len ≤ 5 ∨ 8 ≤ lo) : SlotKept i s (s.arbPut ⟨0x540 + 4 * i, lo, len⟩ v) := by
  refine ⟨rfl, fun f hf _ => ?_⟩
  by_cases hoff : f.off = 0x540 + 4 * i
  · exact State.fld_put_field _ _ _ hlen hoff (show f.lo + f.len ≤ lo ∨ lo + len ≤ f.lo by omega)
  · exact State.fld_put_off _ _ _ hoff

theorem SlotKept.warnSlot (i : Nat) (s : State) : SlotKept i s (s.warnSlot i) := by
  have hwarn : SlotKept i s (s.arbPut (R.REF_STAT_WARN i) 1) := .arbPut s 1 (by decide) (by decide) (by decide)
  have hcount : ∀ v, SlotKept i (s.arbPut (R.REF_STAT_WARN i) 1)
      ((s.arbPut (R.REF_STAT_WARN i) 1).arbPut (R.REF_STAT_WARN_COUNT i) v) := fun v =>
    .arbPut _ v (by decide) (by decide) (by decide)
  have hevent : ∀ (u : State) (r t : Nat), SlotKept i u (u.event' 3 r t) := by
    intro u r t
    obtain ⟨-, -, -, -, -, -, hrefs, -⟩ := (Reports.event u 3 r t none).fields
    exact ⟨hrefs, fun f _ hf => (RegsOnly.event u 3 r t none).fld (not_reportKey_arb hf)⟩
  exact (hwarn.trans (hcount _)).trans (hevent _ _ _)

theorem SlotKept.forecast (i : Nat) (s : State) (b : Bool) : SlotKept i s (s.putB locArb (R.REF_STAT_FORECAST i) b) :=
  .arbPut s (b2n b) (by decide) (by decide) (by decide)

theorem SlotKept.ref {i : Nat} {s t : State} (h : SlotKept i s t) (j : Nat) : t.ref j = s.ref j := by
  unfold State.ref
  rw [h.refs]

/-- What a gate stores of its slot, before the slot moves. -/
def State.gateStore (s : State) (m : GateMeas) (foff : Int) (offs : List (Nat × Int)) (off : Int) (stand : Bool) : State :=
  let i := m.slot
  let x := s.ref i
  let s := s.setRef i { x with toff := off, offs := offs, gates := (foff :: x.gates).take 100, dead := stand,
                               phase := s.gatePhase i }
  let s := (s.arbPut (R.REF_FOFF_FOFF i) (satBits foff 32)).arbPut (R.REF_TOFF_TOFF i) (satBits off 32)
  if beyond foff (s.arb R.REF_QUAL_WARN) then s.warnSlot i else s

/-- The look-ahead of a slot that stands QUALIFIED (R157). -/
def State.gateAhead (s : State) (i : Nat) : State :=
  if s.refState i = 3 ∧ s.flag locArb R.REF_CTRL_LOOKAHEAD_EN then
    s.putB locArb (R.REF_STAT_FORECAST i)
      (forecastBeyond (s.ref i).gates (s.arb R.REF_TIMES_LOOKAHEAD_S) (s.arb R.REF_QUAL_REJECT))
  else s

theorem State.gateSlot_eq {s : State} {m : GateMeas} (hi : m.slot < 8) (h0 : s.refState m.slot ≠ 0) :
    let new := s.gateOffs m
    let offs := new ++ (s.ref m.slot).offs.filter (fun y => decide (s.now ≤ y.1 + 101 * secTicks))
    let foff := s.gateFoff m offs
    s.gateSlot m = ((s.gateStore m foff offs
        (if new = [] then (s.ref m.slot).toff else roundDiv (new.map Prod.snd).sum new.length)
        (m.fail || s.standing m.slot)).gateMove m.slot
      (s.gateCause ((s.ref m.slot).dead || (m.fail || s.standing m.slot)) foff offs) foff).gateAhead m.slot := by
  unfold State.gateSlot
  dsimp only
  rw [if_neg (by omega)]
  rfl

theorem SlotKept.gateAhead (s : State) (i : Nat) : SlotKept i s (s.gateAhead i) := by
  unfold State.gateAhead
  exact .ite _ (.forecast i s _) (.refl i s)

/-- What a gate stores of its slot: FOFF, TOFF, and what the monitors keep (R153 to R155). -/
theorem State.gateStore_spec (s : State) {m : GateMeas} (hi : m.slot < 8) (foff : Int) (offs : List (Nat × Int)) (off : Int)
    (stand : Bool) :
    (s.gateStore m foff offs off stand).ref m.slot = { s.ref m.slot with
      toff := off, offs := offs, gates := (foff :: (s.ref m.slot).gates).take 100, dead := stand, phase := s.gatePhase m.slot } ∧
    (s.gateStore m foff offs off stand).arb (R.REF_FOFF_FOFF m.slot) = satBits foff 32 ∧
    (s.gateStore m foff offs off stand).arb (R.REF_TOFF_TOFF m.slot) = satBits off 32 ∧
    (s.gateStore m foff offs off stand).refState m.slot = s.refState m.slot ∧
    (∀ f : Fld, f.off < 0x540 → (s.gateStore m foff offs off stand).arb f = s.arb f) := by
  set x : RefSlot := { s.ref m.slot with
    toff := off, offs := offs, gates := (foff :: (s.ref m.slot).gates).take 100, dead := stand, phase := s.gatePhase m.slot }
    with hx
  set u := ((s.setRef m.slot x).arbPut (R.REF_FOFF_FOFF m.slot) (satBits foff 32)).arbPut (R.REF_TOFF_TOFF m.slot)
    (satBits off 32) with hu
  have hkept : SlotKept m.slot u (s.gateStore m foff offs off stand) := .ite _ (.warnSlot _ _) (.refl _ _)
  have hput : ∀ f : Fld, f.off ≠ 0x560 + 4 * m.slot → f.off ≠ 0x580 + 4 * m.slot → u.arb f = s.arb f := fun f h1 h2 =>
    (State.fld_put_off _ _ _ h2).trans ((State.fld_put_off _ _ _ h1).trans rfl)
  refine ⟨(hkept.ref _).trans (s.ref_setRef_self _ x), ?_, ?_, ?_, fun f hf => ?_⟩
  · refine (hkept.arb _ (.inl ?_) ?_).trans ((State.fld_put_off _ _ _ ?_).trans ?_)
    · simp only [R.REF_FOFF_FOFF]
      omega
    · simp only [R.REF_FOFF_FOFF]
      omega
    · simp only [R.REF_FOFF_FOFF, R.REF_TOFF_TOFF]
      omega
    · exact (State.fld_put_self _ _ _ (Nat.le_of_ble_eq_true rfl)).trans (Nat.mod_eq_of_lt (satBits_lt _))
  · refine (hkept.arb _ (.inl ?_) ?_).trans ?_
    · simp only [R.REF_TOFF_TOFF]
      omega
    · simp only [R.REF_TOFF_TOFF]
      omega
    · exact (State.fld_put_self _ _ _ (Nat.le_of_ble_eq_true rfl)).trans (Nat.mod_eq_of_lt (satBits_lt _))
  · refine (hkept.arb _ (.inr (.inl (Nat.le_of_ble_eq_true rfl))) ?_).trans (hput _ ?_ ?_)
    · simp only [R.REF_STAT_STATE]
      omega
    · simp only [R.REF_STAT_STATE]
      omega
    · simp only [R.REF_STAT_STATE]
      omega
  · exact (hkept.arb f (.inl (by omega)) (by omega)).trans (hput f (by omega) (by omega))

theorem State.gateMove_rise {s : State} {i : Nat} {foff : Int} (h : s.refState i = 1) :
    s.gateMove i 0 foff = (s.setRef i { s.ref i with qual := 1 }).setRefState i 2 := by
  simp only [State.gateMove, h, if_true]

theorem State.gateMove_low {s : State} {i cause : Nat} {foff : Int} (h : s.refState i = 1) (hc : cause ≠ 0) :
    s.gateMove i cause foff = s := by
  simp only [State.gateMove, h, if_true, if_neg hc]

theorem State.gateMove_fail {s : State} {i cause : Nat} {foff : Int} (h : 2 ≤ s.refState i) (hc : cause ≠ 0) :
    s.gateMove i cause foff = s.failSlot i cause := by
  simp only [State.gateMove, if_neg (show ¬s.refState i = 1 by omega), if_pos hc]

theorem State.gateMove_stay {s : State} {i : Nat} {foff : Int} (h : 3 ≤ s.refState i) : s.gateMove i 0 foff = s := by
  unfold State.gateMove
  dsimp only
  rw [if_neg (by omega), if_neg (by simp), if_neg (by omega)]

theorem State.gateMove_beyond {s : State} {i : Nat} {foff : Int} (h : s.refState i = 2)
    (hb : beyond foff (s.arb R.REF_QUAL_ACCEPT) = true) : s.gateMove i 0 foff = s.failSlot i 2 := by
  unfold State.gateMove
  dsimp only
  rw [if_neg (by omega), if_neg (by simp), if_pos h, if_pos hb]

/-- A good gate of a slot that qualifies: the last of QUALIFY_S takes it to QUALIFIED (R158). -/
theorem State.gateMove_good {s : State} {i : Nat} {foff : Int} (h : s.refState i = 2)
    (hb : beyond foff (s.arb R.REF_QUAL_ACCEPT) = false) :
    s.gateMove i 0 foff =
      let u := s.setRef i { s.ref i with qual := (s.ref i).qual + 1 }
      if s.arb R.REF_TIMES_QUALIFY_S ≤ (s.ref i).qual + 1 then
        (u.setRefState i 3).arbPut (R.REF_STAT_WTR_LEFT i) (if (u.ref i).left then u.arb R.REF_TIMES_WTR_S else 0)
      else u := by
  unfold State.gateMove
  dsimp only
  rw [if_neg (by omega), if_neg (by simp), if_pos h, if_neg (by simp [hb])]
  rfl

theorem State.refState_wtrLeft (s : State) (i v : Nat) : (s.arbPut (R.REF_STAT_WTR_LEFT i) v).refState i = s.refState i :=
  State.fld_put_field _ _ _ (Nat.le_of_ble_eq_true rfl) rfl (.inl (Nat.le_of_ble_eq_true rfl))

/-- The moves of a slot at a gate leave its offset and the registers beside its own (R158). -/
theorem State.gateMove_frame (s : State) (i cause : Nat) (foff : Int) (h0 : s.refState i ≠ 0) :
    ((s.gateMove i cause foff).ref i).toff = (s.ref i).toff ∧
    (∀ f : Fld, f.off ≠ 0x540 + 4 * i → (s.gateMove i cause foff).arb f = s.arb f) := by
  have hput : ∀ (u : State) (g f : Fld) (v : Nat), g.off = 0x540 + 4 * i → f.off ≠ 0x540 + 4 * i →
      (u.arbPut g v).arb f = u.arb f := fun u g f v hg hf => State.fld_put_off _ _ _ (by rw [hg]; exact hf)
  have hfail : ∀ c, 2 ≤ s.refState i → ((s.failSlot i c).ref i).toff = (s.ref i).toff ∧
      (∀ f : Fld, f.off ≠ 0x540 + 4 * i → (s.failSlot i c).arb f = s.arb f) := by
    intro c h2
    obtain ⟨-, -, href, hkeep⟩ := State.failSlot_spec c h2
    exact ⟨by rw [href]; rfl, hkeep⟩
  by_cases h1 : s.refState i = 1
  · by_cases hc : cause = 0
    · subst hc
      rw [State.gateMove_rise h1]
      refine ⟨?_, fun f hf => hput _ _ _ _ rfl hf⟩
      rw [State.ref_setRefState, State.ref_setRef_self]
    · rw [State.gateMove_low h1 hc]
      exact ⟨rfl, fun _ _ => rfl⟩
  · by_cases hc : cause = 0
    · subst hc
      by_cases h3 : 3 ≤ s.refState i
      · rw [State.gateMove_stay h3]
        exact ⟨rfl, fun _ _ => rfl⟩
      · have h2 : s.refState i = 2 := by omega
        cases hb : beyond foff (s.arb R.REF_QUAL_ACCEPT) with
        | true =>
          rw [State.gateMove_beyond h2 hb]
          exact hfail 2 (by omega)
        | false =>
          rw [State.gateMove_good h2 hb]
          have htoff : ((s.setRef i { s.ref i with qual := (s.ref i).qual + 1 }).ref i).toff = (s.ref i).toff := by
            rw [State.ref_setRef_self]
          dsimp only
          split
          · exact ⟨htoff, fun f hf => (hput _ _ _ _ rfl hf).trans (hput _ _ _ _ rfl hf)⟩
          · exact ⟨htoff, fun _ _ => rfl⟩
    · rw [State.gateMove_fail (by omega) hc]
      exact hfail cause (by omega)

/-- What a gate makes of its slot, by the slot's state before it and the gate's cause (R153 to R158). -/
structure GateOutcome (s t : State) (i cause : Nat) (foff off : Int) : Prop where
  foffReg : t.arb (R.REF_FOFF_FOFF i) = satBits foff 32
  toffReg : t.arb (R.REF_TOFF_TOFF i) = satBits off 32
  off : (t.ref i).toff = off
  stay : 3 ≤ s.refState i → cause = 0 → t.refState i = s.refState i
  outside : s.refState i = 2 → cause = 0 → beyond foff (s.arb R.REF_QUAL_ACCEPT) = true → t.refState i = 1
  rise : s.refState i = 1 → cause = 0 → t.refState i = 2 ∧ (t.ref i).qual = 1
  down : s.refState i = 1 → cause ≠ 0 → t.refState i = 1
  fails : 2 ≤ s.refState i → cause ≠ 0 →
    t.refState i = 1 ∧ (3 ≤ s.refState i → t.arb (R.REF_STAT_CAUSE i) = cause)
  good : s.refState i = 2 → cause = 0 → beyond foff (s.arb R.REF_QUAL_ACCEPT) = false →
    (t.ref i).qual = (s.ref i).qual + 1 ∧
    t.refState i = (if s.arb R.REF_TIMES_QUALIFY_S ≤ (s.ref i).qual + 1 then 3 else 2)
  low : ∀ f : Fld, f.off < 0x540 → t.arb f = s.arb f

theorem GateOutcome.of_arb {s t u : State} {i cause : Nat} {foff off : Int} (h : GateOutcome s t i cause foff off)
    (href : u.ref i = t.ref i)
    (harb : ∀ f ∈ [R.REF_FOFF_FOFF i, R.REF_TOFF_TOFF i, R.REF_STAT_STATE i, R.REF_STAT_CAUSE i], u.arb f = t.arb f)
    (hlow : ∀ f : Fld, f.off < 0x540 → u.arb f = t.arb f) : GateOutcome s u i cause foff off := by
  simp only [List.forall_mem_cons] at harb
  obtain ⟨hfoff, htoff, hstate, hcause, -⟩ := harb
  have hst : u.refState i = t.refState i := hstate
  exact ⟨hfoff.trans h.foffReg, htoff.trans h.toffReg, by rw [href, h.off], by rw [hst]; exact h.stay, by rw [hst]; exact h.outside,
    by rw [hst, href]; exact h.rise, by rw [hst]; exact h.down, by rw [hst, hcause]; exact h.fails,
    by rw [hst, href]; exact h.good, fun f hf => (hlow f hf).trans (h.low f hf)⟩

theorem GateOutcome.congr {s t u : State} {i cause : Nat} {foff off : Int} (h : GateOutcome s t i cause foff off) (hi : i < 8)
    (hrefs : u.refs = t.refs) (harb : ∀ f : Fld, f.off ≠ 0x5B0 → u.arb f = t.arb f) : GateOutcome s u i cause foff off := by
  refine h.of_arb (by unfold State.ref; rw [hrefs]) ?_ (fun f hf => harb f (by omega))
  simp only [List.forall_mem_cons]
  refine ⟨harb _ ?_, harb _ ?_, harb _ ?_, harb _ ?_, by simp⟩
  all_goals simp only [R.REF_FOFF_FOFF, R.REF_TOFF_TOFF, R.REF_STAT_STATE, R.REF_STAT_CAUSE]
  all_goals omega

/-- The moves of a slot at a gate, from what was stored of it (R158). -/
theorem State.gateMove_outcome {s b : State} {i cause : Nat} {foff off : Int} (h0 : s.refState i ≠ 0) (hc8 : cause < 8)
    (hfoff : b.arb (R.REF_FOFF_FOFF i) = satBits foff 32) (htoff : b.arb (R.REF_TOFF_TOFF i) = satBits off 32)
    (hoff : (b.ref i).toff = off) (hqual : (b.ref i).qual = (s.ref i).qual) (hst : b.refState i = s.refState i)
    (hlow : ∀ f : Fld, f.off < 0x540 → b.arb f = s.arb f) : GateOutcome s (b.gateMove i cause foff) i cause foff off := by
  obtain ⟨hmtoff, hmarb⟩ := b.gateMove_frame i cause foff (by rw [hst]; exact h0)
  have haccept := hlow R.REF_QUAL_ACCEPT (by decide)
  have htimes := hlow R.REF_TIMES_QUALIFY_S (by decide)
  have hset : ((b.setRef i { b.ref i with qual := (b.ref i).qual + 1 }).ref i).qual = (b.ref i).qual + 1 := by
    rw [State.ref_setRef_self]
  refine ⟨(hmarb _ ?_).trans hfoff, (hmarb _ ?_).trans htoff, hmtoff.trans hoff, fun h3 hc => ?_, fun h2 hc hbe => ?_,
    fun h1 hc => ?_, fun h1 hc => ?_, fun h2 hc => ?_, fun h2 hc hbe => ?_, fun f hf => (hmarb f (by omega)).trans (hlow f hf)⟩
  · simp only [R.REF_FOFF_FOFF]
    omega
  · simp only [R.REF_TOFF_TOFF]
    omega
  · rw [hc, State.gateMove_stay (by rw [hst]; exact h3), hst]
  · rw [hc, State.gateMove_beyond (hst.trans h2) (by rw [haccept]; exact hbe)]
    exact (State.failSlot_spec 2 (by rw [hst, h2])).1
  · rw [hc, State.gateMove_rise (hst.trans h1)]
    exact ⟨State.fld_setRefState _ (by decide), congrArg RefSlot.qual (State.ref_setRef_self _ _ _)⟩
  · rw [State.gateMove_low (hst.trans h1) hc, hst, h1]
  · obtain ⟨hone, hcs, -⟩ := State.failSlot_spec (s := b) (i := i) cause (by rw [hst]; exact h2)
    rw [State.gateMove_fail (by rw [hst]; exact h2) hc]
    exact ⟨hone, fun h3 => (hcs (by rw [hst]; exact h3)).trans (Nat.mod_eq_of_lt hc8)⟩
  · rw [hc, State.gateMove_good (hst.trans h2) (by rw [haccept]; exact hbe), htimes, ← hqual]
    dsimp only
    split
    · rw [State.refState_wtrLeft, State.fld_setRefState _ (by decide)]
      exact ⟨hset, rfl⟩
    · exact ⟨hset, hst.trans h2⟩

theorem State.gateOutcome {m : GateMeas} (s : State) (hi : m.slot < 8) (h0 : s.refState m.slot ≠ 0) (cause : Nat) (foff : Int)
    (offs : List (Nat × Int)) (off : Int) (stand : Bool) (hc8 : cause < 8) :
    GateOutcome s (((s.gateStore m foff offs off stand).gateMove m.slot cause foff).gateAhead m.slot) m.slot cause foff off := by
  obtain ⟨href, hfoff, htoff, hst, hlow⟩ := s.gateStore_spec hi foff offs off stand
  have hmove := State.gateMove_outcome (cause := cause) h0 hc8 hfoff htoff (by rw [href]) (by rw [href]) hst hlow
  have hahead := SlotKept.gateAhead ((s.gateStore m foff offs off stand).gateMove m.slot cause foff) m.slot
  refine hmove.of_arb (hahead.ref _) ?_ (fun f hf => hahead.arb f (.inl (by omega)) (by omega))
  simp only [List.forall_mem_cons]
  refine ⟨hahead.arb _ (.inl ?_) ?_, hahead.arb _ (.inl ?_) ?_, hahead.arb _ (.inr (.inl (Nat.le_of_ble_eq_true rfl))) ?_,
    hahead.arb _ (.inr (.inr ⟨Nat.le_of_ble_eq_true rfl, Nat.le_of_ble_eq_true rfl⟩)) ?_, by simp⟩
  all_goals simp only [R.REF_FOFF_FOFF, R.REF_TOFF_TOFF, R.REF_STAT_STATE, R.REF_STAT_CAUSE]
  all_goals omega

/-! ### The gate's end -/

/-- The frequency kept for Steady Rest writes SR_STAT alone (R171). -/
theorem State.arb_record (s : State) (b : Bool) {f : Fld} (h : f.off ≠ 0x5B0) : (s.record b).arb f = s.arb f := by
  have hput : ∀ (u : State) (g : Fld) (v : Nat), g.off = 0x5B0 → (u.arbPut g v).arb f = u.arb f := fun u g v hg =>
    State.fld_put_off _ _ _ (by rw [hg]; exact h)
  unfold State.record
  dsimp only
  refine (hput _ _ _ rfl).trans ((hput _ _ _ rfl).trans ?_)
  rw [apply_ite (fun u : State => u.arb f), hput _ R.SR_STAT_HIST_VALID _ rfl]
  exact ite_self _

theorem State.record_refs (s : State) (b : Bool) : (s.record b).refs = s.refs := by
  have hif : ∀ (p : Prop) [Decidable p] (u : State), (if p then u.arbPut R.SR_STAT_HIST_VALID 1 else u).refs = u.refs := by
    intro p _ u
    split <;> rfl
  unfold State.record
  exact hif _ _

/-- The slots before they are judged: WTR_LEFT has counted down but in HOLD (R158, R168). -/
def State.gateStart (s : State) : State := if s.gateOpen.servoState = 7 then s.gateBegin else s.gateBegin.wtrDown

theorem GateKept.gateStart (s : State) : GateKept s s.gateStart :=
  .ite _ (.gateBegin s) ((GateKept.gateBegin s).trans (.wtrDown _))

/-- What follows the judgement leaves the slots and every field but SR_STAT. -/
theorem State.gateJudged_after (s : State) (meas : List GateMeas) :
    (s.gateJudged meas).refs = (if s.servo.gateBad then s.gateStart.gateFresh else s.gateStart.monitors meas).refs ∧
    ∀ f : Fld, f.off ≠ 0x5B0 → (s.gateJudged meas).arb f =
      (if s.servo.gateBad then s.gateStart.gateFresh else s.gateStart.monitors meas).arb f := by
  unfold State.gateJudged
  dsimp only
  split
  · exact ⟨State.record_refs _ _, fun f hf => State.arb_record _ _ hf⟩
  · exact ⟨rfl, fun _ _ => rfl⟩

theorem State.gateJudged_bad (s : State) (meas : List GateMeas) (h : s.servo.gateBad = true) :
    (s.gateJudged meas).refs = s.refs ∧
    ∀ f : Fld, f.off < 0x5C0 ∨ 0x5C4 ≤ f.off → f.off < 0x540 ∨ 0x560 ≤ f.off ∨ f.lo + f.len ≤ 16 → f.off < 16777216 →
      f.off ≠ 0x5B0 → (s.gateJudged meas).arb f = s.arb f := by
  obtain ⟨hrefs, harb⟩ := s.gateJudged_after meas
  rw [h] at hrefs harb
  exact ⟨hrefs.trans (GateKept.gateStart s).refs, fun f h1 h2 h3 h4 =>
    (harb f h4).trans ((GateKept.gateStart s).arb f h1 h2 h3)⟩

/-- One measurement and no vote: the slot's own gate (R154, R156). -/
theorem State.gateJudged_one (s : State) (m : GateMeas) (h : s.servo.gateBad = false)
    (hvote : (s.gateStart.gateSlot m).flag locArb R.REF_CTRL_VOTE_EN = false) :
    (s.gateJudged [m]).refs = (s.gateStart.gateSlot m).refs ∧
    ∀ f : Fld, f.off ≠ 0x5B0 → (s.gateJudged [m]).arb f = (s.gateStart.gateSlot m).arb f := by
  obtain ⟨hrefs, harb⟩ := s.gateJudged_after [m]
  have hout : (s.gateStart.gateSlot m).gateFresh.voteOut = none := by
    have hflag : (s.gateStart.gateSlot m).gateFresh.flag locArb R.REF_CTRL_VOTE_EN = false := hvote
    unfold State.voteOut
    dsimp only
    rw [if_pos (.inl (by rw [hflag]; rfl))]
  have hmon : s.gateStart.monitors [m] = (s.gateStart.gateSlot m).gateFresh := by
    simp only [State.monitors, List.foldl_cons, List.foldl_nil, hout]
  rw [h, if_neg (by decide), hmon] at hrefs
  refine ⟨hrefs, fun f hf => ?_⟩
  have := harb f hf
  rw [h, if_neg (by decide), hmon] at this
  exact this

/-! ### The obligation -/

/-- Settles O31: a message, an activity condition, a pulse, a gate, a window and a lock, each by what stands before it. -/
theorem referencesAreWatchedAndServoLocks : Obligations.ReferencesAreWatchedAndServoLocks := by
  unfold Obligations.ReferencesAreWatchedAndServoLocks
  refine ⟨fun s => ⟨fun bs => ⟨fun hno => ?bad, fun hlen hsync hcrc hfrom htill => ?good⟩,
      fun i hi => ⟨fun h0 => ?off, fun h0 h6 => ?takeover, fun h0 h6 => ?fails⟩, fun off hp hoff => ?pulse1,
      fun off htod hp hoff => ?pulse0, fun off hp hoff => ?late1, fun off hp hoff => ?late0⟩,
    fun s m hslot => ⟨fun h6 => ?hidden, fun h6 hbad => ?discarded, fun h6 hbad hvote h0 => ?gate⟩,
    fun s => ⟨fun res hno => ?noWindow, fun res hflag hservo => ?window, fun h1 => ?noLock, fun h1 i hsel => ?lock⟩⟩
  case bad =>
    rw [exec_todMessage, if_neg]
    simp only [Bool.and_eq_true, beq_iff_eq, todWindow_iff]
    rintro ⟨⟨⟨hlen, hsync⟩, hcrc⟩, hfrom, htill⟩
    omega
  case good =>
    rw [exec_todMessage, if_pos]
    · exact ⟨_, rfl, State.servo_traceSync _, congrArg (fun t : State => { t with servo := s.servo }) (State.traceSync_rest _)⟩
    · simp only [Bool.and_eq_true, beq_iff_eq, todWindow_iff]
      exact ⟨⟨⟨hlen, hsync⟩, hcrc⟩, hfrom, htill⟩
  case off =>
    show Host.Outcome.next (s.activityFail i) = _
    unfold State.activityFail
    rw [if_pos (.inr h0)]
  case takeover =>
    have hstate : (s.setRef i { s.ref i with dead := true }).servoState = 6 := h6
    refine ⟨_, (exec_refActivityFail_nominated hi h0).trans (congrArg _ (if_pos hstate)), State.ref_setRef_self _ _ _, rfl⟩
  case fails =>
    set u := s.setRef i { s.ref i with dead := true } with hu
    have hustate : u.servoState ≠ 6 := h6
    have hdead : u.ref i = { s.ref i with dead := true } := State.ref_setRef_self _ _ _
    refine ⟨u.failSlot i 1, _, (exec_refActivityFail_nominated hi h0).trans (congrArg _ (if_neg hustate)), ?_⟩
    by_cases h2 : 2 ≤ u.refState i
    · obtain ⟨hone, hcause, href, hkeep⟩ := State.failSlot_spec 1 h2
      refine ⟨hone, ?_, hcause, fun j hji _ => hkeep (R.REF_STAT_STATE j) ?_⟩
      · rw [href, hdead]
        rfl
      · simp only [R.REF_STAT_STATE]
        omega
    · have h1 : u.refState i ≠ 0 := h0
      rw [State.failSlot_low 1 (by omega), hdead]
      exact ⟨by omega, rfl, fun h3 => absurd (show 2 ≤ u.refState i from Nat.le_of_succ_le h3) h2, fun _ _ _ => rfl⟩
  case pulse1 =>
    obtain ⟨hregs, hrefs, hservo⟩ := s.pulseKept_spec 1 off
    refine ⟨s.pulseKept 1 off, ?_, hservo, hregs, hrefs⟩
    rw [exec_referencePulse_hit (late := false) (ok := fun _ => false) (by simp [hoff]) (by simp),
      State.slotOf_none _ fun _ => rfl]
    rfl
  case pulse0 =>
    obtain ⟨hregs, hrefs, hservo⟩ := s.pulseKept_spec 0 off
    refine ⟨s.pulseKept 0 off, ?_, hservo, hregs, hrefs⟩
    rw [exec_referencePulse_hit (late := false) (ok := fun _ => false) (by simp [hoff]) (by simp [htod]),
      State.slotOf_none _ fun _ => rfl]
    rfl
  case late1 =>
    obtain ⟨hregs, hrefs, hservo⟩ := s.pulseKept_spec 1 off
    exact ⟨s.pulseKept 1 off, exec_referencePulse_hit (late := true) (by simp [hoff, hp]) (by simp), hservo, hregs, hrefs⟩
  case late0 =>
    obtain ⟨hregs, hrefs, hservo⟩ := s.pulseKept_spec 0 off
    exact ⟨s.pulseKept 0 off, exec_referencePulse_hit (late := true) (by simp [hoff, hp]) (by simp), hservo, hregs, hrefs⟩
  case hidden =>
    have hk := GateKept.gateBegin s
    refine ⟨_, exec_refGateEnd_takeover _ h6, hk.refs, fun j hj => hk.arb (R.REF_STAT_STATE j) ?_ ?_ ?_⟩
    · simp only [R.REF_STAT_STATE]
      omega
    · exact .inr (.inr (Nat.le_of_ble_eq_true rfl))
    · simp only [R.REF_STAT_STATE]
      omega
  case discarded =>
    obtain ⟨hrefs, harb⟩ := s.gateJudged_bad [m] hbad
    refine ⟨_, _, _, exec_refGateEnd_judged _ h6, hrefs, fun j hj => harb (R.REF_STAT_STATE j) ?_ ?_ ?_ ?_⟩
    · simp only [R.REF_STAT_STATE]
      omega
    · exact .inr (.inr (Nat.le_of_ble_eq_true rfl))
    · simp only [R.REF_STAT_STATE]
      omega
    · simp only [R.REF_STAT_STATE]
      omega
  case gate =>
    have hw := GateKept.gateStart s
    set w := s.gateStart with hwdef
    have hlow : ∀ f : Fld, f.off < 0x540 → w.arb f = s.arb f := fun f hf => hw.arb f (by omega) (by omega) (by omega)
    have hst : w.refState m.slot = s.refState m.slot := by
      refine hw.arb (R.REF_STAT_STATE m.slot) ?_ (.inr (.inr (Nat.le_of_ble_eq_true rfl))) ?_
      · simp only [R.REF_STAT_STATE]
        omega
      · simp only [R.REF_STAT_STATE]
        omega
    have hcfg : w.refCfg m.slot = s.refCfg m.slot := by
      refine hw.arb (R.REF_CFG_CFG m.slot) ?_ ?_ ?_ <;> simp only [R.REF_CFG_CFG] <;> omega
    have href : w.ref m.slot = s.ref m.slot := by
      unfold State.ref
      rw [hw.refs]
    obtain ⟨v, hv⟩ : ∃ v : State, v = { w with regs := s.regs } := ⟨_, rfl⟩
    have hvarb : ∀ f, v.arb f = s.arb f := State.arb_congr (by rw [hv]) (by rw [hv]; exact hw.part)
    have hvrefs : v.refs = w.refs := by rw [hv]
    have hvports : v.ports = w.ports := by rw [hv]
    have hvnow : v.now = w.now := by rw [hv]; rfl
    have hvservo : v.servo = w.servo := by rw [hv]
    have hvcfg : v.refCfg m.slot = w.refCfg m.slot := (hvarb _).trans hcfg.symm
    have hvref : v.ref m.slot = w.ref m.slot := by
      unfold State.ref
      rw [hvrefs]
    have hnew := State.gateOffs_congr (m := m) hvcfg hvports hvnow
    have hstand : v.standing m.slot = w.standing m.slot := by
      refine State.standing_congr hvcfg hvports hvnow (by rw [hvservo]) (by rw [hvservo]) (fun l f hl hf => ?_) ?_
      · exact (State.fld_congr (by rw [hv]) (by rw [hv]; exact hw.part) l f).trans (hw.fld l f hl hf).symm
      · exact (hvarb _).trans (hlow _ (by decide)).symm
    set new := v.gateOffs m with hnewdef
    set offs := new ++ (s.ref m.slot).offs.filter (fun y => decide (v.now ≤ y.1 + 63125000000)) with hoffs
    set foff := v.gateFoff m offs with hfoff
    set fail := (s.ref m.slot).dead || m.fail || v.standing m.slot with hfail
    set cause := v.gateCause fail foff offs with hcause
    set off := if new = [] then (s.ref m.slot).toff else roundDiv (new.map Prod.snd).sum new.length with hoff
    have hfoffw : w.gateFoff m offs = foff := (State.gateFoff_congr offs hvcfg hvports hvnow hvrefs (by rw [hvservo])).symm
    have hcausew : w.gateCause fail foff offs = cause := by
      refine (State.gateCause_congr fail foff offs hvnow fun f hf => ?_).symm
      exact (hvarb f).trans (hlow f (by revert f; decide)).symm
    have hsec : 101 * secTicks = 63125000000 := rfl
    have hslot := State.gateSlot_eq (s := w) (m := m) hslot (by rw [hst]; exact h0)
    dsimp only at hslot
    rw [← hnew, href, ← hvnow, hsec, ← hoffs, hfoffw, ← hstand, ← Bool.or_assoc, ← hfail, hcausew, ← hoff] at hslot
    have hout := State.gateOutcome (m := m) w ‹m.slot < 8› (by rw [hst]; exact h0) cause foff offs off
      (m.fail || v.standing m.slot) (State.gateCause_lt _ _ _ _)
    rw [← hslot] at hout
    have hvoteOff : (w.gateSlot m).flag locArb R.REF_CTRL_VOTE_EN = false :=
      (State.flag_of_arb ((hout.low _ (by decide)).trans (hlow _ (by decide)))).trans hvote
    obtain ⟨hurefs, huarb⟩ := s.gateJudged_one m hbad hvoteOff
    have hvkind : v.refKind m.slot = s.refKind m.slot := congrArg (· % 16) (hvarb (R.REF_CFG_CFG m.slot))
    obtain ⟨hofoff, hotoff, hooff, hstay, hbeyond, hrise, hdown, hfails, hgood, -⟩ := hout.congr ‹m.slot < 8› hurefs huarb
    rw [hst] at hstay hbeyond hrise hdown hfails hgood
    rw [hlow _ (by decide)] at hbeyond
    rw [hlow _ (by decide), hlow _ (by decide), href] at hgood
    refine ⟨v, s.gateJudged [m], _, _, exec_refGateEnd_judged _ h6, hvrefs.trans hw.refs, hvports.trans hw.ports,
      hw.now_le.trans_eq hvnow.symm, fun j => hvarb _, fun h5 h6' => ?_, hofoff, ?_, hooff, hstay, hbeyond, hrise, hdown,
      hfails, hgood⟩
    · rw [← hvkind] at h5 h6' ⊢
      exact ⟨State.gateFoff_plain offs h5 h6', fun hphase hall => State.gateOffs_plain h5 h6' hphase hall⟩
    · rw [hotoff, hooff]
  case noWindow =>
    show execSettleWindowEnd res s = _
    unfold execSettleWindowEnd
    rw [if_pos (hno.imp_left (by simp))]
  case window =>
    obtain ⟨hsettling, hnow, hkeep⟩ := s.windowEnd_spec
    have hstate : s.windowEnd.servoState = s.servoState := hkeep R.REF_SEL_SERVO_STATE (by decide) (by decide)
    have hsel : s.windowEnd.selected = s.selected := State.selected_congr fun f hf =>
      hkeep f (by revert f; decide) (by revert f; decide)
    have hkind : ∀ i, s.selected = some i → s.windowEnd.refKind i = s.refKind i := fun i hi =>
      congrArg (· % 16) (hkeep (R.REF_CFG_CFG i) (State.selected_apart hi _ (by decide)) (State.selected_apart hi _ (by decide)))
    refine ⟨s.windowEnd.settleServo res, exec_settleWindowEnd res hflag hservo, ?_, ?_, fun h5 => ?_, fun h5 i hi => ?_⟩
    · exact (State.flag_of_arb (State.arb_settleServo _ _ (by decide) (by decide) (by decide))).trans hsettling
    · rw [State.now_settleServo]
      exact hnow
    · unfold State.settleServo
      rw [if_neg (by rw [hstate]; exact h5)]
      exact hstate
    · unfold State.settleServo
      rw [if_pos (by rw [hstate]; exact h5)]
      dsimp only
      rw [hsel, hi, Option.any_some, hkind i hi]
      split
      · exact State.servoState_toServo _ _
      · split <;> exact State.servoState_toServo _ _
  case noLock =>
    show execServoLock s = _
    unfold execServoLock
    rw [if_pos h1]
  case lock =>
    have hsel' : (s.advanceTo (s.servo.lockAt + 10 * secTicks)).selected = some i := hsel
    refine ⟨(s.advanceTo (s.servo.lockAt + 10 * secTicks)).toServo (if freqKind (s.refKind i) then 2 else 3), ?_, ?_, ?_, ?_, ?_⟩
    · show execServoLock s = _
      unfold execServoLock
      rw [if_neg (by simp [h1])]
      dsimp only
      rw [hsel']
      rfl
    · rw [State.servoState_toServo]
      split <;> rfl
    · rw [State.now_toServo, State.now_advanceTo]
      exact Nat.le_max_right _ _
    · intro hkind
      rw [hkind]
      exact State.flag_iff.2 (State.arb_arbPut_self _ _ (by decide))
    · refine (State.servo_toServo _ ?_).trans rfl
      split <;> decide

end Sys2Proof.Machine
end

section
/-! PROOFS. OUT.SET, OUT.FREQ, the locks of synthesizers, restarts and pulse edges (R208 to R216, R229). -/

namespace Sys2Proof.Machine

/-! ### Outputs of a synthesizer lie apart -/

theorem outIdx_ne {k o i : Nat} (ho : 1 ≤ o) (hi : 1 ≤ i) (h : i ≠ o) : outIdx k i ≠ outIdx k o := by
  unfold outIdx
  omega

theorem outLoc_ne {k o i : Nat} (h : i ≠ o) : outLoc k i ≠ outLoc k o := by
  unfold outLoc mkLoc
  omega

theorem outLoc_ne_syn {k o : Nat} (ho : 1 ≤ o) (h3 : o ≤ 3) (j : Nat) : hubLoc j ≠ outLoc k o := by
  unfold outLoc hubLoc mkLoc
  omega

theorem outLoc_ne_low {k o : Nat} {l : Nat} (h : l < 0xC000) : l ≠ outLoc k o := by
  unfold outLoc mkLoc
  omega

/-! ### What an operation on the outputs of a set leaves -/

/-- The records of the outputs in `S` and their OUT_STAT may change, nothing else. -/
structure OutsOf (k : Nat) (S : Nat → Prop) (s t : State) : Prop where
  rest : { t with regs := s.regs, outs := s.outs } = s
  reg : ∀ l off, off < 16777216 → (∀ o, S o → l = outLoc k o → off ≠ 0x14) → t.reg l off = s.reg l off
  out : ∀ j, (∀ o, S o → j ≠ outIdx k o) → t.out j = s.out j

section
variable {k : Nat} {S T : Nat → Prop} {s t u : State}

theorem OutsOf.refl (s : State) : OutsOf k S s s := ⟨rfl, fun _ _ _ _ => rfl, fun _ _ => rfl⟩

theorem OutsOf.trans (h : OutsOf k S s t) (r : OutsOf k S t u) : OutsOf k S s u := by
  refine ⟨?_, fun l off ho hl => (r.reg l off ho hl).trans (h.reg l off ho hl), fun j hj => (r.out j hj).trans (h.out j hj)⟩
  conv => rhs; rw [← h.rest, ← r.rest]

theorem OutsOf.mono (h : OutsOf k S s t) (hS : ∀ o, S o → T o) : OutsOf k T s t :=
  ⟨h.rest, fun l off ho hl => h.reg l off ho fun o hs => hl o (hS o hs), fun j hj => h.out j fun o hs => hj o (hS o hs)⟩

theorem OutsOf.fld (h : OutsOf k S s t) {l : Nat} {f : Fld} (hoff : f.off < 16777216)
    (hl : ∀ o, S o → l = outLoc k o → f.off ≠ 0x14) : t.fld l f = s.fld l f := State.fld_of_reg (h.reg l f.off hoff hl)

theorem OutsOf.tails (h : OutsOf k S s t) : t.tails = s.tails := (congrArg State.tails h.rest :)

theorem OutsOf.foldl {g : State → Nat → State} (hg : ∀ s o, OutsOf k (· = o) s (g s o)) (l : List Nat) (s : State) :
    OutsOf k (· ∈ l) s (l.foldl g s) := by
  induction l generalizing s with
  | nil => exact .refl s
  | cons a l ih =>
    exact ((hg s a).mono fun o ho => by simp [ho]).trans ((ih (g s a)).mono fun o ho => by simp [ho])

/-- What a run over a list makes of one output of it: its own step, from a state that agrees about it. -/
theorem OutsOf.foldl_at {g : State → Nat → State} (hg : ∀ s o, OutsOf k (· = o) s (g s o)) {l : List Nat} (hl : l.Nodup) {o : Nat}
    (ho : o ∈ l) (s : State) :
    ∃ u, OutsOf k (fun i => i ∈ l ∧ i ≠ o) s u ∧ OutsOf k (fun i => i ∈ l ∧ i ≠ o) (g u o) (l.foldl g s) := by
  induction l generalizing s with
  | nil => cases ho
  | cons a l ih =>
    obtain ⟨ha, hl⟩ := List.nodup_cons.1 hl
    by_cases hoa : o = a
    · subst hoa
      refine ⟨s, .refl s, (OutsOf.foldl hg l (g s o)).mono fun i hi => ⟨List.mem_cons_of_mem _ hi, ?_⟩⟩
      rintro rfl
      exact ha hi
    · obtain ⟨u, hu, hrest⟩ := ih hl ((List.mem_cons.1 ho).resolve_left hoa) (g s a)
      refine ⟨u, ((hg s a).mono fun i hi => ?_).trans (hu.mono fun i hi => ⟨List.mem_cons_of_mem _ hi.1, hi.2⟩),
        hrest.mono fun i hi => ⟨List.mem_cons_of_mem _ hi.1, hi.2⟩⟩
      rw [hi]
      exact ⟨List.mem_cons_self .., fun h => hoa h.symm⟩

end

theorem OutsOf.setOut (k : Nat) (s : State) (o : Nat) (x : OutLive) : OutsOf k (· = o) s (s.setOut (outIdx k o) x) :=
  ⟨rfl, fun _ _ _ _ => rfl, fun _ hj => s.out_setOut_ne x (hj o rfl)⟩

theorem OutsOf.put (k : Nat) (s : State) (o : Nat) {f : Fld} (hf : f.off = 0x14) (v : Nat) :
    OutsOf k (· = o) s (s.put (outLoc k o) f v) := by
  refine ⟨rfl, fun l off hoff hl => ?_, fun _ _ => rfl⟩
  by_cases h : l = outLoc k o
  · subst h
    exact s.reg_put_off v (by rw [hf]; exact hl o rfl rfl)
  · exact s.reg_put_loc v h (by omega) hoff

theorem OutsOf.muteOut (k : Nat) (s : State) (o : Nat) : OutsOf k (· = o) s (s.muteOut k o) := by
  unfold State.muteOut
  dsimp only
  split
  · exact .refl s
  · exact ((OutsOf.put k s o rfl 1).trans (.put k _ o rfl 0)).trans (.put k _ o rfl _)

theorem State.flag_muteOut (s : State) (k o : Nat) : (s.muteOut k o).flag (outLoc k o) R.OUT_STAT_MUTED = true := by
  unfold State.muteOut
  dsimp only
  split
  · assumption
  · refine State.flag_iff.2 ((State.fld_put_apart _ _ _ (by decide)).trans ((State.fld_put_apart _ _ _ (by decide)).trans ?_))
    exact State.fld_put_self _ _ _ (by decide)

/-! ### OUT.SET (R208, R209) -/

/-- What OUT.SET does to an output that it names. -/
def State.outLoad (n : Nat) (k loc : Nat) (s : State) (o : Nat) : State :=
  let x := s.staged k o
  let s := s.muteOut k o
  let ready := x.pulse || s.flag loc R.OUT_SYN_STAT_LOCKED
  s.setOut (outIdx k o) { x with num := some n, setAt := s.now, startAt := if ready then s.restartAt k x else 0 }

theorem OutsOf.outLoad (n k loc : Nat) (s : State) (o : Nat) : OutsOf k (· = o) s (s.outLoad n k loc o) :=
  (OutsOf.muteOut k s o).trans (.setOut k _ o _)

theorem State.restartAt_congr {s t : State} {k : Nat} (x : OutLive) (htails : t.tails = s.tails) (hratio : t.ratio k = s.ratio k) :
    t.restartAt k x = s.restartAt k x := by
  have htail : ∀ i, t.tail i = s.tail i := State.tail_congr htails
  unfold State.restartAt State.boundaryAfter State.nowU
  rw [hratio, htail, htail]

theorem OutsOf.ratio {k : Nat} {S : Nat → Prop} {s t : State} (h : OutsOf k S s t) (hS : ∀ o, S o → 1 ≤ o ∧ o ≤ 3) :
    t.ratio k = s.ratio k := by
  have hfld : ∀ f : Fld, f.off < 16777216 → t.fld (hubLoc (8 + k)) f = s.fld (hubLoc (8 + k)) f := fun f hf =>
    h.fld hf fun o ho hl => absurd hl (outLoc_ne_syn (hS o ho).1 (hS o ho).2 _)
  unfold State.ratio State.pair
  rw [hfld _ (by decide), hfld _ (by decide)]

theorem OutsOf.staged {k o : Nat} {S : Nat → Prop} {s t : State} (h : OutsOf k S s t) (hS : ∀ i, S i → i ≠ o) :
    t.staged k o = s.staged k o := by
  have hreg : ∀ off, off < 16777216 → t.reg (mkLoc 6 0 0 (8 + k) o) off = s.reg (mkLoc 6 0 0 (8 + k) o) off := fun off hoff =>
    h.reg _ _ hoff fun i hi hl => absurd hl.symm (outLoc_ne (hS i hi))
  have hfld : ∀ f : Fld, f.off < 16777216 → t.fld (mkLoc 6 0 0 (8 + k) o) f = s.fld (mkLoc 6 0 0 (8 + k) o) f := fun f hf =>
    State.fld_of_reg (hreg _ hf)
  unfold State.staged
  dsimp only
  rw [hreg _ (by decide), hfld _ (by decide), hfld _ (by decide), hfld _ (by decide), hfld _ (by decide)]

theorem mem_outMask {c : Cmd} {o : Nat} (h1 : 1 ≤ o) (h3 : o ≤ 3) : o ∈ outMask c ↔ bit c.opa (o - 1) = true := by
  have hbit : ∀ i < 3, bit (c.opa % 8) i = bit c.opa i := by
    intro i hi
    simp only [bit_eq_testBit, show (8 : Nat) = 2 ^ 3 from rfl, Nat.testBit_mod_two_pow, hi, decide_true, Bool.true_and]
  simp only [outMask, bitList, List.mem_map, List.mem_filter, List.mem_range]
  constructor
  · rintro ⟨i, ⟨hi, hb⟩, rfl⟩
    rwa [hbit i hi] at hb
  · intro hb
    exact ⟨o - 1, ⟨by omega, by rwa [hbit _ (by omega)]⟩, by omega⟩

theorem outMask_range {c : Cmd} {o : Nat} (h : o ∈ outMask c) : 1 ≤ o ∧ o ≤ 3 := by
  simp only [outMask, bitList, List.mem_map, List.mem_filter, List.mem_range] at h
  obtain ⟨i, ⟨hi, -⟩, rfl⟩ := h
  omega

theorem outMask_nodup (c : Cmd) : (outMask c).Nodup :=
  (List.nodup_range.filter _).map (fun _ _ h => by simpa using h)

theorem mOutSet_run {f : Flight} {k : Nat} (hk : k < 4) (s : State) :
    mOutSet.run f (hubLoc (8 + k)) s = ((outMask f.cmd).foldl (State.outLoad f.num k (hubLoc (8 + k))) s).goesOn f.num 0 := by
  have hunit : locUnit (hubLoc (8 + k)) - 8 = k := by
    unfold locUnit hubLoc mkLoc bits
    omega
  simp only [mOutSet, hunit]
  rfl

/-- The outputs that OUT.SET names and those that it does not (R208). -/
theorem State.outLoads_spec (s : State) (n k : Nat) (c : Cmd) :
    let t := (outMask c).foldl (State.outLoad n k (hubLoc (8 + k))) s
    (∀ o, 1 ≤ o → o ≤ 3 →
      (bit c.opa (o - 1) = false → t.out (outIdx k o) = s.out (outIdx k o)) ∧
      (bit c.opa (o - 1) = true → t.flag (outLoc k o) R.OUT_STAT_MUTED = true ∧
        t.out (outIdx k o) = { s.staged k o with
          num := some n, setAt := s.now,
          startAt := if (s.staged k o).pulse || s.flag (hubLoc (8 + k)) R.OUT_SYN_STAT_LOCKED
            then s.restartAt k (s.staged k o) else 0 })) ∧
    (∀ j, (∀ o, 1 ≤ o → o ≤ 3 → j ≠ outIdx k o) → t.out j = s.out j) ∧ { t with regs := s.regs, outs := s.outs } = s := by
  intro t
  have hall := OutsOf.foldl (fun u i => OutsOf.outLoad n k (hubLoc (8 + k)) u i) (outMask c) s
  refine ⟨fun o h1 h3 => ⟨fun hb => ?_, fun hb => ?_⟩, fun j hj => ?_, hall.rest⟩
  · refine hall.out _ fun i hi => outIdx_ne (outMask_range hi).1 h1 ?_
    rintro rfl
    rw [mem_outMask h1 h3, hb] at hi
    cases hi
  · obtain ⟨u, hu, hend⟩ := OutsOf.foldl_at (fun u i => OutsOf.outLoad n k (hubLoc (8 + k)) u i) (outMask_nodup c)
      ((mem_outMask h1 h3).2 hb) s
    have hmute : OutsOf k (fun i => 1 ≤ i ∧ i ≤ 3) s (u.muteOut k o) :=
      (hu.mono fun i hi => outMask_range hi.1).trans ((OutsOf.muteOut k u o).mono fun i hi => hi ▸ ⟨h1, h3⟩)
    have hstaged := hu.staged (o := o) fun i hi => hi.2
    have hlocked : (u.muteOut k o).flag (hubLoc (8 + k)) R.OUT_SYN_STAT_LOCKED = s.flag (hubLoc (8 + k)) R.OUT_SYN_STAT_LOCKED :=
      congrArg (· == 1) (hmute.fld (by decide) fun i hi hl => absurd hl (outLoc_ne_syn hi.1 hi.2 _))
    have hrestart := State.restartAt_congr (s.staged k o) hmute.tails (hmute.ratio fun i hi => hi)
    have hnow : (u.muteOut k o).now = s.now := congrArg Tailstock.m (State.tail_congr hmute.tails 5)
    constructor
    · refine (congrArg (· == 1) (hend.fld (by decide) fun i hi hl => absurd hl.symm (outLoc_ne hi.2))).trans ?_
      exact State.flag_muteOut u k o
    · refine (hend.out _ fun i hi => outIdx_ne (outMask_range hi.1).1 h1 (Ne.symm hi.2)).trans ?_
      refine (State.out_setOut_self _ _ _).trans ?_
      rw [hstaged, hlocked, hrestart, hnow]
  · exact hall.out j fun o ho => hj o (outMask_range ho).1 (outMask_range ho).2

/-! ### A synthesizer out of lock (R210, R211) -/

theorem State.clockOuts_range {s : State} {k o : Nat} (h : o ∈ s.clockOuts k) : 1 ≤ o ∧ o ≤ 3 := by
  have hmem := List.mem_of_mem_filter h
  simp only [List.mem_cons, List.not_mem_nil, or_false] at hmem
  omega

theorem State.clockOuts_nodup (s : State) (k : Nat) : (s.clockOuts k).Nodup :=
  List.Nodup.filter _ (by decide)

/-- A CLOCK output goes out of lock: muted, without a restart. -/
def State.outDown (k : Nat) (num : Option Nat) (s : State) (o : Nat) : State :=
  let s := s.muteOut k o
  let x := s.out (outIdx k o)
  s.setOut (outIdx k o) { x with startAt := 0, num := x.num.or num }

theorem OutsOf.outDown (k : Nat) (num : Option Nat) (s : State) (o : Nat) : OutsOf k (· = o) s (s.outDown k num o) :=
  (OutsOf.muteOut k s o).trans (.setOut k _ o _)

/-- The two marks of a synthesizer that loses its lock. -/
def State.synthMarks (s : State) (k : Nat) : State :=
  (s.put (hubLoc (8 + k)) R.OUT_SYN_STAT_LOCKED 0).put (hubLoc (8 + k)) R.OUT_SYN_STAT_MUTED 1

/-- The outputs of a synthesizer that loses its lock. -/
def State.outsDown (s : State) (k : Nat) (num : Option Nat) : State :=
  ((s.synthMarks k).clockOuts k).foldl (State.outDown k num) (s.synthMarks k)

theorem State.synthDown_eq (s : State) (k : Nat) (num : Option Nat) (counts : Bool) :
    s.synthDown k num counts = (s.outsDown k num).setSynth k { (s.outsDown k num).synth k with
      num := ((s.outsDown k num).synth k).num.or num, muteAt := (s.outsDown k num).now,
      counts := ((s.outsDown k num).synth k).counts || counts } := rfl

theorem State.outsDown_outs (s : State) (k : Nat) (num : Option Nat) :
    OutsOf k (· ∈ s.clockOuts k) (s.synthMarks k) (s.outsDown k num) :=
  OutsOf.foldl (OutsOf.outDown k num) _ _

theorem State.synthDown_rest (s : State) (k : Nat) (num : Option Nat) (counts : Bool) :
    { s.synthDown k num counts with regs := s.regs, outs := s.outs, synths := s.synths } = s :=
  congrArg (fun t : State => { t with regs := s.regs, outs := s.outs, synths := s.synths }) (s.outsDown_outs k num).rest

theorem State.synthDown_synth (s : State) (k : Nat) (num : Option Nat) (counts : Bool) :
    (s.synthDown k num counts).synth k = { s.synth k with
      num := (s.synth k).num.or num, muteAt := s.now, counts := (s.synth k).counts || counts } := by
  have hsynths : (s.outsDown k num).synths = s.synths := (congrArg State.synths (s.outsDown_outs k num).rest :)
  have hsynth : (s.outsDown k num).synth k = s.synth k := by unfold State.synth; rw [hsynths]
  have hnow : (s.outsDown k num).now = s.now := congrArg Tailstock.m (State.tail_congr (s.outsDown_outs k num).tails 5)
  rw [State.synthDown_eq, State.synth_setSynth_self, hsynth, hnow]

/-- A field of the synthesizer's own registers is as the two marks leave it. -/
theorem State.fld_synthDown (s : State) (k j : Nat) (num : Option Nat) (counts : Bool) {f : Fld} (hf : f.off < 16777216) :
    (s.synthDown k num counts).fld (hubLoc j) f = (s.synthMarks k).fld (hubLoc j) f :=
  (s.outsDown_outs k num).fld hf fun _ ho hl =>
    absurd hl (outLoc_ne_syn (State.clockOuts_range ho).1 (State.clockOuts_range ho).2 _)

theorem State.synthDown_locked (s : State) (k : Nat) (num : Option Nat) (counts : Bool) :
    (s.synthDown k num counts).flag (hubLoc (8 + k)) R.OUT_SYN_STAT_LOCKED = false := by
  refine State.flag_false_of ((s.fld_synthDown k _ num counts (by decide)).trans ?_)
  simp (disch := decide) only [State.synthMarks, State.fld_put_apart, State.fld_put_self, Nat.zero_mod]

theorem State.synthDown_muted (s : State) (k : Nat) (num : Option Nat) (counts : Bool) :
    (s.synthDown k num counts).flag (hubLoc (8 + k)) R.OUT_SYN_STAT_MUTED = true := by
  refine State.flag_iff.2 ((s.fld_synthDown k _ num counts (by decide)).trans ?_)
  exact State.fld_put_self _ _ _ (by decide)

/-- Each CLOCK output is muted and has no restart ahead. -/
theorem State.synthDown_out (s : State) {k o : Nat} (num : Option Nat) (counts : Bool) (ho : o ∈ s.clockOuts k) :
    (s.synthDown k num counts).flag (outLoc k o) R.OUT_STAT_MUTED = true ∧
      ((s.synthDown k num counts).out (outIdx k o)).startAt = 0 := by
  obtain ⟨u, -, hend⟩ := OutsOf.foldl_at (OutsOf.outDown k num) (s.clockOuts_nodup k) ho (s.synthMarks k)
  have hrange := State.clockOuts_range ho
  change (s.outsDown k num).flag _ _ = true ∧ ((s.outsDown k num).out _).startAt = 0
  replace hend : OutsOf k (fun i => i ∈ s.clockOuts k ∧ i ≠ o) (u.outDown k num o) (s.outsDown k num) := hend
  constructor
  · refine (congrArg (· == 1) (hend.fld (by decide) fun i hi hl => absurd hl.symm (outLoc_ne hi.2))).trans ?_
    exact State.flag_muteOut u k o
  · rw [hend.out _ fun i hi => outIdx_ne (State.clockOuts_range hi.1).1 hrange.1 (Ne.symm hi.2), State.outDown]
    exact congrArg OutLive.startAt (State.out_setOut_self _ _ _)

/-! ### OUT.FREQ (R210) -/

theorem State.putPair_rest (s : State) (loc : Nat) (lo hi : Fld) (v : Nat) : { s.putPair loc lo hi v with regs := s.regs } = s := rfl

/-- The ratio that OUT.FREQ stores. -/
def State.ratioSet (s : State) (k m : Nat) : State :=
  s.putPair (hubLoc (8 + k)) R.OUT_SYN_RATIO_LO_M R.OUT_SYN_RATIO_HI_M m

theorem State.ratio_ratioSet (s : State) (k : Nat) {m : Nat} (hm : m < 2 ^ 48) : (s.ratioSet k m).ratio k = m :=
  s.pair_putPair ⟨rfl, rfl⟩ ⟨rfl, rfl⟩ (by decide) hm

theorem State.fld_ratioSet (s : State) (k : Nat) (m : Nat) {f : Fld} (hlo : R.OUT_SYN_RATIO_LO_M.apart f = true)
    (hhi : R.OUT_SYN_RATIO_HI_M.apart f = true) :
    (s.ratioSet k m).fld (hubLoc (8 + k)) f = s.fld (hubLoc (8 + k)) f :=
  (State.fld_put_apart _ _ _ hhi).trans (State.fld_put_apart _ _ _ hlo)

theorem State.ratio_synthDown (s : State) (k : Nat) (num : Option Nat) (counts : Bool) :
    (s.synthDown k num counts).ratio k = s.ratio k := by
  have hfld : ∀ f : Fld, f.off < 16777216 → R.OUT_SYN_STAT_LOCKED.apart f = true → R.OUT_SYN_STAT_MUTED.apart f = true →
      (s.synthDown k num counts).fld (hubLoc (8 + k)) f = s.fld (hubLoc (8 + k)) f := fun f hf h1 h2 =>
    (s.fld_synthDown k _ num counts hf).trans ((State.fld_put_apart _ _ _ h2).trans (State.fld_put_apart _ _ _ h1))
  unfold State.ratio State.pair
  rw [hfld _ (by decide) (by decide) (by decide), hfld _ (by decide) (by decide) (by decide)]

theorem mOutFreq_run {f : Flight} {k : Nat} (hk : k < 4) (s : State) :
    mOutFreq.run f (hubLoc (8 + k)) s =
      if ((f.cmd.opb % 2 ^ 48 : Nat) - (s.ratio k : Int)).natAbs * 5000 ≤ s.ratio k then
        ((s.ratioSet k (f.cmd.opb % 2 ^ 48)).setSynth k
          { (s.ratioSet k (f.cmd.opb % 2 ^ 48)).synth k with small := some f.num }).goesOn f.num (s.now + 12500)
      else ((s.ratioSet k (f.cmd.opb % 2 ^ 48)).synthDown k (some f.num) true).goesOn f.num 0 := by
  have hunit : locUnit (hubLoc (8 + k)) - 8 = k := by
    unfold locUnit hubLoc mkLoc bits
    omega
  simp only [mOutFreq, hunit]
  rfl

/-- An instruction that goes on changes the issued instructions alone. -/
theorem State.goesOn_eq {u : State} {n : Nat} {f : Flight} (d : Nat) (h : u.flight n = some f) :
    ∃ p, u.goesOn n d = ({ u with plyn := p }, none) ∧ State.flight { u with plyn := p } n = some { f with phase := .exec d } := by
  obtain ⟨hnone, hflight, hrest⟩ := State.goesOn_spec d h
  refine ⟨(u.goesOn n d).1.plyn, Prod.ext ?_ hnone, hflight⟩
  exact congrArg (fun t : State => { t with plyn := (u.goesOn n d).1.plyn }) hrest

theorem Starts.outFreq_small {n : Nat} {f : Flight} {s : State} {k : Nat} (hk : k < 4) (hs : Starts (isOp 0x91) mOutFreq n f s)
    (hloc : f.cmd.loc = hubLoc (8 + k)) (hsmall : ((f.cmd.opb % 2 ^ 48 : Nat) - (s.ratio k : Int)).natAbs * 5000 ≤ s.ratio k) :
    ∃ t : State, exec (.outFreq n) s = .next t ∧ t.ratio k = f.cmd.opb % 2 ^ 48 ∧
      t.flight n = some { f with phase := .exec (s.now + 12500) } ∧ t.synth k = { s.synth k with small := some n } ∧
      t.fld (hubLoc (8 + k)) R.OUT_SYN_STAT_LOCKED = s.fld (hubLoc (8 + k)) R.OUT_SYN_STAT_LOCKED ∧ t.outs = s.outs ∧
      { t with plyn := s.plyn, regs := s.regs, outs := s.outs, synths := s.synths } = s := by
  have hrun := mOutFreq_run (f := f) hk s
  rw [if_pos hsmall, hs.num] at hrun
  have hlt : f.cmd.opb % 2 ^ 48 < 2 ^ 48 := Nat.mod_lt _ (by decide)
  have hratio := s.ratio_ratioSet k hlt
  have hlock := s.fld_ratioSet k (f.cmd.opb % 2 ^ 48) (f := R.OUT_SYN_STAT_LOCKED) (by decide) (by decide)
  generalize f.cmd.opb % 2 ^ 48 = m at hrun hratio hlock ⊢
  obtain ⟨p, hgoes, hflight⟩ := State.goesOn_eq (u := (s.ratioSet k m).setSynth k { (s.ratioSet k m).synth k with small := some n })
    (s.now + 12500) hs.flight
  rw [hgoes, ← hloc] at hrun
  exact ⟨_, hs.startRow_goes hrun, hratio, hflight, State.synth_setSynth_self (s.ratioSet k m) _ _, hlock, rfl, rfl⟩

theorem Starts.outFreq_large {n : Nat} {f : Flight} {s : State} {k : Nat} (hk : k < 4) (hs : Starts (isOp 0x91) mOutFreq n f s)
    (hloc : f.cmd.loc = hubLoc (8 + k)) (hlarge : s.ratio k < ((f.cmd.opb % 2 ^ 48 : Nat) - (s.ratio k : Int)).natAbs * 5000) :
    ∃ t : State, exec (.outFreq n) s = .next t ∧ t.ratio k = f.cmd.opb % 2 ^ 48 ∧ t.flight n = some { f with phase := .exec 0 } ∧
      t.flag (hubLoc (8 + k)) R.OUT_SYN_STAT_LOCKED = false ∧ t.flag (hubLoc (8 + k)) R.OUT_SYN_STAT_MUTED = true ∧
      t.synth k = { s.synth k with num := (s.synth k).num.or (some n), muteAt := s.now, counts := true } ∧
      (∀ o ∈ s.clockOuts k, t.flag (outLoc k o) R.OUT_STAT_MUTED = true ∧ (t.out (outIdx k o)).startAt = 0) ∧
      { t with plyn := s.plyn, regs := s.regs, outs := s.outs, synths := s.synths } = s := by
  have hrun := mOutFreq_run (f := f) hk s
  rw [if_neg (Nat.not_le.2 hlarge), hs.num] at hrun
  have hlt : f.cmd.opb % 2 ^ 48 < 2 ^ 48 := Nat.mod_lt _ (by decide)
  have hratio := s.ratio_ratioSet k hlt
  generalize f.cmd.opb % 2 ^ 48 = m at hrun hratio ⊢
  have hrest := (s.ratioSet k m).synthDown_rest k (some n) true
  have hdratio := (s.ratioSet k m).ratio_synthDown k (some n) true
  have hlocked := (s.ratioSet k m).synthDown_locked k (some n) true
  have hmuted := (s.ratioSet k m).synthDown_muted k (some n) true
  have hsynth := (s.ratioSet k m).synthDown_synth k (some n) true
  have hout := fun o ho => (s.ratioSet k m).synthDown_out (k := k) (o := o) (some n) true ho
  generalize (s.ratioSet k m).synthDown k (some n) true = u at *
  have hplyn : u.plyn = s.plyn := (congrArg State.plyn hrest :)
  obtain ⟨p, hgoes, hflight⟩ := State.goesOn_eq 0 ((State.flight_congr hplyn n).trans hs.flight)
  rw [hgoes, ← hloc] at hrun
  refine ⟨_, hs.startRow_goes hrun, hdratio.trans hratio, hflight, hlocked, hmuted, ?_, hout, ?_⟩
  · rw [Bool.or_true] at hsynth
    exact hsynth
  · exact congrArg (fun t : State => { t with plyn := s.plyn, regs := s.regs }) hrest

/-! ### Lock and loss of lock (R210 to R213) -/

/-- A muted CLOCK output gets its restart instant. -/
def State.outStart (k : Nat) (s : State) (o : Nat) : State :=
  s.setOut (outIdx k o) { s.out (outIdx k o) with startAt := s.restartAt k (s.out (outIdx k o)) }

theorem OutsOf.outStart (k : Nat) (s : State) (o : Nat) : OutsOf k (· = o) s (s.outStart k o) := .setOut k s o _

/-- The registers of a synthesizer that locks. -/
def State.synthLock (s : State) (k : Nat) : State :=
  let loc := hubLoc (8 + k)
  let s := s.put loc R.OUT_SYN_STAT_LOCKED 1
  if (s.synth k).counts then s.bump loc R.OUT_SYN_STAT_RELOCKS else s

theorem State.synthLock_spec (s : State) (k : Nat) :
    (s.synthLock k).flag (hubLoc (8 + k)) R.OUT_SYN_STAT_LOCKED = true ∧
    (s.synthLock k).fld (hubLoc (8 + k)) R.OUT_SYN_STAT_RELOCKS = (if (s.synth k).counts then
      satNat (s.fld (hubLoc (8 + k)) R.OUT_SYN_STAT_RELOCKS + 1) R.OUT_SYN_STAT_RELOCKS.len
      else s.fld (hubLoc (8 + k)) R.OUT_SYN_STAT_RELOCKS) ∧
    (∀ l off, off < 16777216 → (l = hubLoc (8 + k) → off ≠ 0x8) → (s.synthLock k).reg l off = s.reg l off) ∧
    { s.synthLock k with regs := s.regs } = s := by
  have hput : ∀ (u : State) (g : Fld) v, g.off = 0x8 → ∀ l off, off < 16777216 → (l = hubLoc (8 + k) → off ≠ 0x8) →
      (u.put (hubLoc (8 + k)) g v).reg l off = u.reg l off := by
    intro u g v hg l off hoff hl
    by_cases h : l = hubLoc (8 + k)
    · subst h
      exact u.reg_put_off v (by rw [hg]; exact hl rfl)
    · exact u.reg_put_loc v h (by omega) hoff
  have hsynth : (s.put (hubLoc (8 + k)) R.OUT_SYN_STAT_LOCKED 1).synth k = s.synth k := rfl
  unfold State.synthLock
  dsimp only
  rw [hsynth]
  cases (s.synth k).counts with
  | false =>
    refine ⟨State.flag_iff.2 (State.fld_put_self _ _ _ (by decide)), State.fld_put_apart _ _ _ (by decide), hput _ _ _ rfl, rfl⟩
  | true =>
    refine ⟨State.flag_iff.2 ((State.fld_put_apart _ _ _ (by decide)).trans (State.fld_put_self _ _ _ (by decide))), ?_,
      fun l off hoff hl => (hput _ _ _ rfl l off hoff hl).trans (hput _ _ _ rfl l off hoff hl), rfl⟩
    simp only [if_true, State.bump, State.bumpBy]
    rw [State.fld_put_self _ _ _ (by decide), State.fld_put_apart _ _ _ (by decide)]
    exact Nat.mod_eq_of_lt (satNat_lt _ _)

/-- What the end of a relock makes of its synthesizer, before what waited for it completes. -/
def State.synthBack (s : State) (k : Nat) : State :=
  let loc := hubLoc (8 + k)
  let u := s.synthLock k
  let u := u.setSynth k { s.synth k with num := none, counts := false, seed := u.fld loc R.OUT_DITHER_SEED_SEED,
                                         dither := u.flag loc R.OUT_DITHER_CTRL_EN }
  ((u.clockOuts k).filter (fun o => u.flag (outLoc k o) R.OUT_STAT_MUTED)).foldl (State.outStart k) u

theorem exec_outRelockDone {s : State} {k : Nat} (hk : k < 4) (hl : s.flag (hubLoc (8 + k)) R.OUT_SYN_STAT_LOCKED = false)
    (hc : s.calBusy (hubLoc (8 + k)) 5 = false) :
    exec (.outRelockDone k) s = .next ((s.synthBack k).outDone (s.synth k).num (s.synth k).muteAt) := by
  show execOutRelockDone k s = _
  unfold execOutRelockDone
  dsimp only
  rw [if_neg (by simp only [hl, hc]; simp [hk])]
  rfl

theorem State.synthBack_spec (s : State) (k : Nat) :
    let loc := hubLoc (8 + k)
    let u := s.synthBack k
    u.flag loc R.OUT_SYN_STAT_LOCKED = true ∧
    u.fld loc R.OUT_SYN_STAT_RELOCKS = (if (s.synth k).counts then
      satNat (s.fld loc R.OUT_SYN_STAT_RELOCKS + 1) R.OUT_SYN_STAT_RELOCKS.len else s.fld loc R.OUT_SYN_STAT_RELOCKS) ∧
    u.synth k = { s.synth k with num := none, counts := false, seed := s.fld loc R.OUT_DITHER_SEED_SEED,
                                 dither := s.flag loc R.OUT_DITHER_CTRL_EN } ∧
    (∀ o ∈ s.clockOuts k, s.flag (outLoc k o) R.OUT_STAT_MUTED = true →
      (u.out (outIdx k o)).startAt = s.restartAt k (s.out (outIdx k o))) ∧
    { u with regs := s.regs, outs := s.outs, synths := s.synths } = s := by
  intro loc u
  obtain ⟨hlock, hrelocks, hreg, hrest⟩ := s.synthLock_spec k
  have hseed : ∀ f : Fld, f.off < 16777216 → f.off ≠ 0x8 → (s.synthLock k).fld loc f = s.fld loc f := fun f hf hne =>
    State.fld_of_reg (hreg _ _ hf fun _ => hne)
  have hout : ∀ o, (s.synthLock k).flag (outLoc k o) R.OUT_STAT_MUTED = s.flag (outLoc k o) R.OUT_STAT_MUTED := fun o =>
    State.flag_of_reg (hreg _ _ (by decide) fun _ => by decide)
  have hratio : (s.synthLock k).ratio k = s.ratio k := by
    unfold State.ratio State.pair
    rw [hseed _ (by decide) (by decide), hseed _ (by decide) (by decide)]
  obtain ⟨b, hb⟩ : ∃ b : State, b = (s.synthLock k).setSynth k { s.synth k with
    num := none, counts := false, seed := (s.synthLock k).fld loc R.OUT_DITHER_SEED_SEED,
    dither := (s.synthLock k).flag loc R.OUT_DITHER_CTRL_EN } := ⟨_, rfl⟩
  have hu : u = ((b.clockOuts k).filter (fun o => b.flag (outLoc k o) R.OUT_STAT_MUTED)).foldl (State.outStart k) b := by
    rw [hb]; rfl
  have hbouts : b.outs = s.outs := by rw [hb]; exact (congrArg State.outs hrest :)
  have hbout : ∀ j, b.out j = s.out j := fun j => by unfold State.out; rw [hbouts]
  have hclock : b.clockOuts k = s.clockOuts k := by unfold State.clockOuts; simp only [hbout]
  have hmuted : ∀ o, b.flag (outLoc k o) R.OUT_STAT_MUTED = s.flag (outLoc k o) R.OUT_STAT_MUTED := fun o => by rw [hb]; exact hout o
  have hbratio : b.ratio k = s.ratio k := by rw [hb]; exact hratio
  have hbtails : b.tails = s.tails := by rw [hb]; exact (congrArg State.tails hrest :)
  simp only [hclock, hmuted] at hu
  obtain ⟨os, hos⟩ : ∃ os, os = (s.clockOuts k).filter (fun o => s.flag (outLoc k o) R.OUT_STAT_MUTED) := ⟨_, rfl⟩
  rw [← hos] at hu
  have hrange : ∀ o ∈ os, 1 ≤ o ∧ o ≤ 3 := fun o ho => State.clockOuts_range (List.mem_of_mem_filter (hos ▸ ho))
  have hall : OutsOf k (· ∈ os) b u := hu ▸ OutsOf.foldl (OutsOf.outStart k) os b
  have hfld : ∀ f : Fld, f.off < 16777216 → u.fld loc f = b.fld loc f := fun f hf => hall.fld hf fun o ho hl =>
    absurd hl (outLoc_ne_syn (hrange o ho).1 (hrange o ho).2 _)
  have hsynth : u.synth k = b.synth k := by unfold State.synth; rw [(congrArg State.synths hall.rest :)]
  refine ⟨?_, ?_, ?_, fun o ho hm => ?_, ?_⟩
  · exact (congrArg (· == 1) (hfld _ (by decide))).trans (by rw [hb]; exact hlock)
  · exact (hfld _ (by decide)).trans (by rw [hb]; exact hrelocks)
  · rw [hsynth, hb, State.synth_setSynth_self, hseed _ (by decide) (by decide), State.flag, hseed _ (by decide) (by decide)]
    rfl
  · have hmem : o ∈ os := hos ▸ List.mem_filter.2 ⟨ho, hm⟩
    obtain ⟨v, hv, hend⟩ := OutsOf.foldl_at (OutsOf.outStart k) (hos ▸ (s.clockOuts_nodup k).filter _) hmem b
    rw [← hu] at hend
    have hvo : v.out (outIdx k o) = s.out (outIdx k o) :=
      (hv.out _ fun i hi => outIdx_ne (hrange i hi.1).1 (hrange o hmem).1 (Ne.symm hi.2)).trans (hbout _)
    rw [hend.out _ fun i hi => outIdx_ne (hrange i hi.1).1 (hrange o hmem).1 (Ne.symm hi.2), State.outStart, State.out_setOut_self, hvo,
      State.restartAt_congr _ (hv.tails.trans hbtails) ((hv.ratio fun i hi => hrange i hi.1).trans hbratio)]
  · refine Eq.trans ?_ (congrArg (fun t : State => { t with regs := s.regs, outs := s.outs, synths := s.synths }) hrest)
    refine (congrArg (fun t : State => { t with regs := s.regs, outs := s.outs, synths := s.synths }) hall.rest).trans ?_
    rw [hb]
    rfl

theorem exec_synthUnlock {s : State} {k : Nat} (hk : k < 4) (hl : s.flag (hubLoc (8 + k)) R.OUT_SYN_STAT_LOCKED = true) :
    exec (.synthUnlock k) s = .next ((s.synthDown k none true).raise (hubLoc (8 + k)) 0x28 k) := by
  show execSynthUnlock k s = _
  unfold execSynthUnlock
  dsimp only
  rw [if_neg (by simp [hk, hl])]

/-! ### Restarts (R208, R210, R229) -/

/-- What a restart makes of its output, in its record and its status. -/
def State.outBegun (s : State) (k o : Nat) (y : OutLive) : State :=
  let s := s.setOut (outIdx k o) y
  let s := if s.outHeld y then s else (s.put (outLoc k o) R.OUT_STAT_MUTED 0).put (outLoc k o) R.OUT_STAT_LIVE 1
  if (s.clockOuts k).all (fun i => !s.flag (outLoc k i) R.OUT_STAT_MUTED) then s.put (hubLoc (8 + k)) R.OUT_SYN_STAT_MUTED 0 else s

theorem State.outBegun_spec (s : State) {k o : Nat} (ho : 1 ≤ o) (h3 : o ≤ 3) (y : OutLive) :
    (s.outBegun k o y).out (outIdx k o) = y ∧
    (s.outHeld y = false → (s.outBegun k o y).flag (outLoc k o) R.OUT_STAT_MUTED = false ∧
      (s.outBegun k o y).flag (outLoc k o) R.OUT_STAT_LIVE = true) ∧
    (s.outHeld y = true → (s.outBegun k o y).fld (outLoc k o) R.OUT_STAT_MUTED = s.fld (outLoc k o) R.OUT_STAT_MUTED) ∧
    { s.outBegun k o y with regs := s.regs, outs := s.outs } = s := by
  have hsyn : ∀ (u : State) (b : Bool) (f : Fld), f.off < 16777216 →
      (if b then u.put (hubLoc (8 + k)) R.OUT_SYN_STAT_MUTED 0 else u).fld (outLoc k o) f = u.fld (outLoc k o) f := by
    intro u b f hf
    cases b
    · rfl
    · exact u.fld_put_loc 0 (outLoc_ne_syn ho h3 _).symm (by decide) hf
  have hheld : (s.setOut (outIdx k o) y).outHeld y = s.outHeld y := rfl
  unfold State.outBegun
  dsimp only
  rw [hheld]
  cases s.outHeld y with
  | false =>
    simp only [Bool.false_eq_true, if_false]
    refine ⟨?_, fun _ => ⟨?_, ?_⟩, fun h => absurd h (by decide), ?_⟩
    · rw [apply_ite (fun u : State => u.out (outIdx k o))]
      exact (ite_self _).trans (State.out_setOut_self s _ _)
    · refine State.flag_false_of ((hsyn _ _ _ (by decide)).trans ?_)
      simp (disch := decide) only [State.fld_put_apart, State.fld_put_self, Nat.zero_mod]
    · refine State.flag_iff.2 ((hsyn _ _ _ (by decide)).trans ?_)
      exact State.fld_put_self _ _ _ (by decide)
    · split <;> rfl
  | true =>
    simp only [if_true]
    refine ⟨?_, fun h => absurd h (by decide), fun _ => hsyn _ _ _ (by decide), ?_⟩
    · rw [apply_ite (fun u : State => u.out (outIdx k o))]
      exact (ite_self _).trans (State.out_setOut_self s _ _)
    · split <;> rfl

/-- From when an instruction that waited for an output counts the time that it reports. -/
def State.outSince (s : State) (k : Nat) (x : OutLive) : Nat :=
  match x.num.bind s.flight with
  | some f => if f.cmd.opcode = 0x90 then x.setAt else (s.synth k).muteAt
  | none => 0

/-- The record of an output that restarts. -/
def OutLive.begun (x : OutLive) : OutLive :=
  { x with startAt := 0, num := none, next := if x.pulse then x.firstAt x.startAt else x.next }

theorem exec_outputRestart {s : State} {k o : Nat} (hk : k < 4) (ho : 1 ≤ o) (h3 : o ≤ 3) (h : (s.out (outIdx k o)).startAt ≠ 0) :
    exec (.outputRestart k o) s =
      .next (((s.advanceToU (s.out (outIdx k o)).startAt).outBegun k o (s.out (outIdx k o)).begun).outDone (s.out (outIdx k o)).num
        (((s.advanceToU (s.out (outIdx k o)).startAt).outBegun k o (s.out (outIdx k o)).begun).outSince k (s.out (outIdx k o)))) := by
  show execOutputRestart k o s = _
  unfold execOutputRestart
  dsimp only
  rw [if_neg (by omega), if_neg h]
  rfl

/-! ### Pulse edges (R215, R216, R223) -/

/-- Both edges of a pulse output, as tick and code, unless its format is off. -/
def State.pulseSent (s : State) (k o : Nat) (x : OutLive) (a b : Nat × Nat) : State :=
  if x.format = 0 then s
  else (s.send (.outEdge k o a.1 a.2 (bit x.cfg 3))).send (.outEdge k o b.1 b.2 (!bit x.cfg 3))

theorem State.pulseSent_spec (s : State) (k o : Nat) (x : OutLive) (a b : Nat × Nat) :
    (s.pulseSent k o x a b).sent = (if x.format = 0 then s.sent
      else .outEdge k o b.1 b.2 (!bit x.cfg 3) :: .outEdge k o a.1 a.2 (bit x.cfg 3) :: s.sent) ∧
    { s.pulseSent k o x a b with sent := s.sent } = s := by
  unfold State.pulseSent
  split <;> exact ⟨rfl, rfl⟩

theorem exec_pulseEdge {s : State} {k o : Nat} (hk : k < 4) (ho : 1 ≤ o) (h3 : o ≤ 3) (hp : (s.out (outIdx k o)).pulse = true)
    (hl : s.flag (outLoc k o) R.OUT_STAT_LIVE = true) : ∃ t : State, exec (.pulseEdge k o) s = .next t ∧
      let x := s.out (outIdx k o)
      let at_ := (x.next : Int) + s.pendAt x.next
      let a := t.place 4 at_ 1 (Config.factory (outLoc k o) 0 0)
      let b := t.place 4 (at_ + (x.width : Int) * 65536) 1 (Config.factory (outLoc k o) 0 0)
      t.out (outIdx k o) = { x with next := x.next + x.period * 65536 } ∧
      t.sent = (if x.format = 0 then s.sent
        else .outEdge k o b.1 b.2 (!bit x.cfg 3) :: .outEdge k o a.1 a.2 (bit x.cfg 3) :: s.sent) ∧
      5 * at_.toNat ≤ (t.tail 5).fu ∧ { t with tails := s.tails, outs := s.outs, sent := s.sent } = s := by
  obtain ⟨x, hx⟩ : ∃ x, s.out (outIdx k o) = x := ⟨_, rfl⟩
  obtain ⟨i, hi⟩ : ∃ i, (x.next : Int) + s.pendAt x.next = i := ⟨_, rfl⟩
  obtain ⟨u, hu⟩ : ∃ u, (s.advanceToU i.toNat).setOut (outIdx k o) { x with next := x.next + x.period * 65536 } = u := ⟨_, rfl⟩
  obtain ⟨a, ha⟩ : ∃ a, u.place 4 i 1 (Config.factory (outLoc k o) 0 0) = a := ⟨_, rfl⟩
  obtain ⟨b, hb⟩ : ∃ b, u.place 4 (i + (x.width : Int) * 65536) 1 (Config.factory (outLoc k o) 0 0) = b := ⟨_, rfl⟩
  obtain ⟨hsent, hrest⟩ := u.pulseSent_spec k o x a b
  have htails : (u.pulseSent k o x a b).tails = u.tails := (congrArg State.tails hrest :)
  have houts : (u.pulseSent k o x a b).outs = u.outs := (congrArg State.outs hrest :)
  have hplace : ∀ j d fs, (u.pulseSent k o x a b).place 4 j d fs = u.place 4 j d fs := fun j d fs => by
    unfold State.place; rw [State.tail_congr htails]
  refine ⟨u.pulseSent k o x a b, ?_, ?_⟩
  · show execPulseEdge k o s = _
    unfold execPulseEdge
    dsimp only
    rw [hx] at hp
    rw [hx, if_neg (by simp only [hp, hl]; simp; omega), hi, hu, ha, hb]
    rfl
  · dsimp only
    rw [hx, hi, hplace, hplace, ha, hb]
    refine ⟨?_, ?_, ?_, ?_⟩
    · unfold State.out
      rw [houts, ← hu]
      exact State.out_setOut_self (s.advanceToU i.toNat) _ _
    · rw [hsent, ← hu]
      rfl
    · rw [State.tail_congr htails, ← hu]
      exact s.fu_advanceToU i.toNat
    · refine (congrArg (fun t : State => { t with tails := s.tails, outs := s.outs, sent := s.sent }) hrest).trans ?_
      rw [← hu]
      rfl

/-! ### The statement -/

/-- Settles O32: a run over several outputs makes of each its own step, since their records and OUT_STAT lie apart; the two
marks of a synthesizer lie apart from its ratio. -/
theorem outputsFollowTheirSettings : Obligations.OutputsFollowTheirSettings := by
  unfold Obligations.OutputsFollowTheirSettings
  refine ⟨fun n f s k hk => ⟨fun hs hloc => ?_, fun hs hloc => ?_, ?_, fun hl hc => ?_, fun hl => ?_, fun hl => ?_⟩,
    fun s k o hk ho h3 => ⟨fun h => ?_, fun h => ?_, ?_, fun hp hl => exec_pulseEdge hk ho h3 hp hl⟩⟩
  · obtain ⟨hout, hother, hrest⟩ := s.outLoads_spec n k f.cmd
    have hrun := mOutSet_run (f := f) hk s
    rw [hs.num] at hrun
    generalize (outMask f.cmd).foldl (State.outLoad n k (hubLoc (8 + k))) s = u at *
    have hplyn : u.plyn = s.plyn := (congrArg State.plyn hrest :)
    obtain ⟨p, hgoes, hflight⟩ := State.goesOn_eq 0 ((State.flight_congr hplyn n).trans hs.flight)
    rw [hgoes, ← hloc] at hrun
    exact ⟨_, hs.startRow_goes hrun, hflight, hout, hother, congrArg (fun t : State => { t with plyn := s.plyn }) hrest⟩
  · dsimp only
    by_cases hsize : ((f.cmd.opb % 2 ^ 48 : Nat) - (s.ratio k : Int)).natAbs * 5000 ≤ s.ratio k
    · obtain ⟨t, hexec, hratio, hflight, hsynth, hlock, houts, hrest⟩ := hs.outFreq_small hk hloc hsize
      exact ⟨t, hexec, hratio, fun _ => ⟨hflight, hsynth, hlock, houts⟩, fun h => absurd hsize (Nat.not_le.2 h), hrest⟩
    · obtain ⟨t, hexec, hratio, hflight, hlock, hmuted, hsynth, hout, hrest⟩ := hs.outFreq_large hk hloc (Nat.not_le.1 hsize)
      exact ⟨t, hexec, hratio, fun h => absurd h hsize, fun _ => ⟨hflight, hlock, hmuted, hsynth, hout⟩, hrest⟩
  · intro h
    exact if_pos (Or.inr h)
  · exact ⟨_, exec_outRelockDone hk hl hc, s.synthBack_spec k⟩
  · refine if_pos (Or.inr ?_)
    rw [hl]
    rfl
  · exact ⟨_, exec_synthUnlock hk hl, s.synthDown_locked k _ _, s.synthDown_muted k _ _,
      fun i hi => (s.synthDown_out none true hi).1, s.synthDown_rest k _ _⟩
  · show execOutputRestart k o s = _
    unfold execOutputRestart
    dsimp only
    rw [if_neg (by omega), if_pos h]
    rfl
  · obtain ⟨x, hx⟩ : ∃ x, s.out (outIdx k o) = x := ⟨_, rfl⟩
    have hexec := exec_outputRestart hk ho h3 h
    rw [hx] at hexec h ⊢
    have hheld : (s.advanceToU x.startAt).outHeld x.begun = s.outHeld x := rfl
    obtain ⟨hout, hfree, hkept, hrest⟩ := (s.advanceToU x.startAt).outBegun_spec (k := k) ho h3 x.begun
    rw [hheld] at hfree hkept
    have hfu := s.fu_advanceToU x.startAt
    generalize (s.advanceToU x.startAt).outBegun k o x.begun = u at *
    have hplyn : u.plyn = s.plyn := (congrArg State.plyn hrest :)
    have hsynth : u.synth k = s.synth k := by unfold State.synth; rw [(congrArg State.synths hrest :)]; rfl
    refine ⟨u, _, hexec, fun n f hn hf => ?_, ?_, ?_, ?_, hfree, hkept, ?_⟩
    · unfold State.outSince
      rw [hn, Option.bind_some, State.flight_congr hplyn, hf, hsynth]
    · rw [hout]; rfl
    · rw [hout]; rfl
    · have htails : u.tails = (s.advanceToU x.startAt).tails := (congrArg State.tails hrest :)
      rw [State.tail_congr htails]
      exact hfu
    · exact congrArg (fun t : State => { t with tails := s.tails }) hrest
  · rintro (hp | hl) <;> refine if_pos ?_
    · simp [hp]
    · simp [hl]

end Sys2Proof.Machine
end

section
/-! PROOFS. Capture edges, TIME.CAPTURE and TSQ.DRAIN (R104, R217 to R220). -/

namespace Sys2Proof.Machine

/-! ### The oldest entries of a queue -/

theorem takeOld_all {α : Type} {ok : α → Bool} (h : ∀ e, ok e = true) (m : Nat) (l : List α) :
    takeOld ok m l = (l.take m, l.drop m) := by
  induction l generalizing m with
  | nil => cases m <;> rfl
  | cons a l ih =>
    cases m with
    | zero => rfl
    | succ m => simp only [takeOld, h, if_true, ih, List.take_succ_cons, List.drop_succ_cons]

/-- Those that qualify leave from the oldest on, the others stay in order. -/
theorem takeOld_filter {α : Type} (ok : α → Bool) (m : Nat) (l : List α) :
    (takeOld ok m l).1 = (l.filter ok).take m ∧ (takeOld ok m l).2.filter ok = (l.filter ok).drop m ∧
      (takeOld ok m l).2.filter (fun e => !ok e) = l.filter (fun e => !ok e) := by
  induction l generalizing m with
  | nil => cases m <;> exact ⟨by simp [takeOld], by simp [takeOld], by simp [takeOld]⟩
  | cons a l ih =>
    cases m with
    | zero => exact ⟨rfl, rfl, rfl⟩
    | succ m =>
      by_cases ha : ok a = true
      · obtain ⟨h1, h2, h3⟩ := ih m
        simp only [takeOld, ha, if_true, List.filter_cons, List.take_succ_cons, List.drop_succ_cons, h1, h2, h3, Bool.not_true,
          Bool.false_eq_true, if_false, and_self]
      · obtain ⟨h1, h2, h3⟩ := ih (m + 1)
        simp only [takeOld, ha, if_false, List.filter_cons, h1, h2, h3, Bool.not_false, if_true, and_self, Bool.false_eq_true]

theorem State.dmaWrite_rest {s t : State} {a : Nat} {bs : List Byte} (h : s.dmaWrite a bs = some t) : ∃ e, t = { s with env := e } := by
  unfold State.dmaWrite at h
  split at h
  · cases h; exact ⟨_, rfl⟩
  · cases h; exact ⟨_, rfl⟩
  · cases h

section
variable {form : Cmd → Bool} {m : Meaning} {n : Nat} {f : Flight} {s : State}

theorem Starts.drains_none (h : Starts form m n f s) (hrun : m.run f f.cmd.loc s = (s, some (okC 0))) :
    Sys2Proof.Machine.startRow s n form m = .next (s.complete n { status := stOk }) :=
  h.startRow_completes hrun (show stOk ≠ stDenied by decide)

theorem Starts.drains_some {t : State} {k : Nat} (h : Starts form m n f s) (hrun : m.run f f.cmd.loc s = (t, some (okC k))) :
    Sys2Proof.Machine.startRow s n form m = .next (t.complete n { status := stOk, result := k % 65536 }) :=
  h.startRow_completes hrun (show stOk ≠ stDenied by decide)

theorem Starts.drains_fault (h : Starts form m n f s) (hrun : m.run f f.cmd.loc s = (s, some dmaFaultC)) :
    Sys2Proof.Machine.startRow s n form m = .next (s.complete n { status := stFault, detail := 0xE0 }) :=
  h.startRow_completes hrun (show stFault ≠ stDenied by decide)

end

/-! ### TIME.CAPTURE (R219, R220) -/

section
variable {n : Nat} {f : Flight} {s : State}

/-- What TIME.CAPTURE takes from its channel's queue, and what it leaves. -/
def State.capTaken (s : State) (f : Flight) : List CapEnt × List CapEnt :=
  takeOld (fun e => s.flag f.cmd.loc R.CAP_CTRL_MODE || e.dropped) (f.cmd.opa % 512) (s.cap (locUnit f.cmd.loc - 12)).queue

theorem mTimeCapture_none (hfn : bits f.cmd.opa 14 2 ≠ 1) (h : (s.capTaken f).1 = []) :
    mTimeCapture.run f f.cmd.loc s = (s, some (okC 0)) := by
  simp only [mTimeCapture, if_neg hfn]
  exact if_pos h

theorem mTimeCapture_some {t : State} (hfn : bits f.cmd.opa 14 2 ≠ 1) (h : (s.capTaken f).1 ≠ [])
    (ht : s.dmaWrite f.cmd.opb (((s.capTaken f).1.map (fun e => e.bytes (locUnit f.cmd.loc - 12))).flatten) = some t) :
    mTimeCapture.run f f.cmd.loc s = (t.setCap (locUnit f.cmd.loc - 12)
      { s.cap (locUnit f.cmd.loc - 12) with queue := (s.capTaken f).2 }, some (okC (s.capTaken f).1.length)) := by
  obtain ⟨e, he⟩ := State.dmaWrite_rest ht
  have hcap : t.cap (locUnit f.cmd.loc - 12) = s.cap (locUnit f.cmd.loc - 12) := by rw [he]; rfl
  rw [← hcap]
  simp only [mTimeCapture, if_neg hfn]
  refine (if_neg h).trans ?_
  change (match s.dmaWrite f.cmd.opb (((s.capTaken f).1.map (fun e => e.bytes (locUnit f.cmd.loc - 12))).flatten) with
    | none => _ | some t => _) = _
  rw [ht]
  rfl

theorem mTimeCapture_fault (hfn : bits f.cmd.opa 14 2 ≠ 1) (h : (s.capTaken f).1 ≠ [])
    (ht : s.dmaWrite f.cmd.opb (((s.capTaken f).1.map (fun e => e.bytes (locUnit f.cmd.loc - 12))).flatten) = none) :
    mTimeCapture.run f f.cmd.loc s = (s, some dmaFaultC) := by
  simp only [mTimeCapture, if_neg hfn]
  refine (if_neg h).trans ?_
  change (match s.dmaWrite f.cmd.opb (((s.capTaken f).1.map (fun e => e.bytes (locUnit f.cmd.loc - 12))).flatten) with
    | none => _ | some t => _) = _
  rw [ht]

end

/-! ### TSQ.DRAIN (R104) -/

section
variable {n : Nat} {f : Flight} {s : State}

/-- What TSQ.DRAIN takes from its port's queue, and what it leaves. -/
def State.tsqTaken (s : State) (f : Flight) : List TsqEnt × List TsqEnt :=
  takeOld (fun e => s.pflag (locPort f.cmd.loc).1 (locPort f.cmd.loc).2 R.TS_CTRL_TSQ_MODE || e.dropped) f.cmd.opa
    (s.port (locPort f.cmd.loc).1 (locPort f.cmd.loc).2).tsq

theorem mTsqDrain_none (hp : s.absent f.cmd.loc = false) (h : (s.tsqTaken f).1 = []) :
    mTsqDrain.run f f.cmd.loc s = (s, some (okC 0)) := by
  simp only [mTsqDrain, hp, Bool.false_eq_true, if_false]
  exact if_pos h

theorem mTsqDrain_some {t : State} (hp : s.absent f.cmd.loc = false) (h : (s.tsqTaken f).1 ≠ [])
    (ht : s.dmaWrite f.cmd.opb (((s.tsqTaken f).1.map
      (fun e => e.bytes (locPort f.cmd.loc).1 (locPort f.cmd.loc).2)).flatten) = some t) :
    mTsqDrain.run f f.cmd.loc s = (t.setPort (locPort f.cmd.loc).1 (locPort f.cmd.loc).2
      { s.port (locPort f.cmd.loc).1 (locPort f.cmd.loc).2 with tsq := (s.tsqTaken f).2 }, some (okC (s.tsqTaken f).1.length)) := by
  obtain ⟨e, he⟩ := State.dmaWrite_rest ht
  have hport : t.port (locPort f.cmd.loc).1 (locPort f.cmd.loc).2 = s.port (locPort f.cmd.loc).1 (locPort f.cmd.loc).2 := by
    rw [he]; rfl
  rw [← hport]
  simp only [mTsqDrain, hp, Bool.false_eq_true, if_false]
  refine (if_neg h).trans ?_
  change (match s.dmaWrite f.cmd.opb (((s.tsqTaken f).1.map
    (fun e => e.bytes (locPort f.cmd.loc).1 (locPort f.cmd.loc).2)).flatten) with
    | none => _ | some t => _) = _
  rw [ht]
  rfl

theorem mTsqDrain_fault (hp : s.absent f.cmd.loc = false) (h : (s.tsqTaken f).1 ≠ [])
    (ht : s.dmaWrite f.cmd.opb (((s.tsqTaken f).1.map
      (fun e => e.bytes (locPort f.cmd.loc).1 (locPort f.cmd.loc).2)).flatten) = none) :
    mTsqDrain.run f f.cmd.loc s = (s, some dmaFaultC) := by
  simp only [mTsqDrain, hp, Bool.false_eq_true, if_false]
  refine (if_neg h).trans ?_
  change (match s.dmaWrite f.cmd.opb (((s.tsqTaken f).1.map
    (fun e => e.bytes (locPort f.cmd.loc).1 (locPort f.cmd.loc).2)).flatten) with
    | none => _ | some t => _) = _
  rw [ht]

end

/-! ### Edges on a capture input (R217 to R220, R228, R389) -/

/-- An edge that a channel takes: enabled, its polarity, out of the dead time, and nothing that keeps it away. -/
structure State.Takes (s : State) (ch code : Nat) (falling : Bool) : Prop where
  unit : ch < 8
  on : s.flag (hubLoc (12 + ch)) R.CAP_CTRL_EN = true
  cal : s.calBusy (hubLoc (12 + ch)) 2 = false
  trigCal : s.calBusy (hubLoc (20 + ch)) 3 = false
  whole : s.faults.reduced = false
  rises : s.fld (hubLoc (12 + ch)) R.CAP_CTRL_EDGE = 0 → falling = false
  falls : s.fld (hubLoc (12 + ch)) R.CAP_CTRL_EDGE = 1 → falling = true
  live : ∀ t, (s.cap ch).last = some t →
    ¬ ((s.tail 5).m * 4096 + code - t) * 16 < s.fld (hubLoc (12 + ch)) R.CAP_CTRL_DEAD * 40960

/-- The queue entry of an edge. -/
def State.capEnt (s : State) (ch stamp : Nat) (falling : Bool) : CapEnt :=
  let l := hubLoc (12 + ch)
  { stamp := stamp, fall := falling, stepGen := (s.tail 5).stepGen, uncal := !s.flag l R.CAL_STAT_VALID, lost := (s.cap ch).lost,
    safe := s.safe, loop := s.flag l R.CAP_CTRL_LOOP, dropped := false, seq := s.fld l R.CAP_SEQ_SEQ }

/-- The channel counts an edge. -/
def State.capCount (s : State) (ch : Nat) : State :=
  s.put (hubLoc (12 + ch)) R.CAP_SEQ_SEQ (s.fld (hubLoc (12 + ch)) R.CAP_SEQ_SEQ + 1)

theorem State.fld_capCount (s : State) {ch l : Nat} {f : Fld} (h : l ≠ hubLoc (12 + ch) ∨ R.CAP_SEQ_SEQ.apart f = true)
    (hf : f.off < 16777216) : (s.capCount ch).fld l f = s.fld l f := by
  by_cases hl : l = hubLoc (12 + ch)
  · subst hl
    exact State.fld_put_apart _ _ _ (h.resolve_left fun h => h rfl)
  · exact s.fld_put_loc _ hl (by decide) hf

/-- The event of an edge in event mode, and its route. -/
def State.capEvent (s : State) (ch stamp seq : Nat) (falling : Bool) : State × Bool :=
  s.event 2 (ch + b2n falling * 8 + seq % 4096 * 16) (tx64 stamp)
    (if s.flag locFp (R.EVT_ROUTE_CAP_OVR ch) then some (s.fp (R.EVT_ROUTE_CAP_RING ch)) else none)

theorem State.Takes.capEdge {s : State} {ch code : Nat} {falling : Bool} (h : s.Takes ch code falling) (stamp : Nat) :
    s.capEdge ch falling ((s.tail 5).m * 4096 + code) stamp =
      if 256 ≤ (s.cap ch).queue.length then
        ((s.capCount ch).setCap ch { s.cap ch with lost := true, last := some ((s.tail 5).m * 4096 + code) }).bump
          (hubLoc (12 + ch)) R.CAP_STAT_DROP
      else
        let u := (s.capCount ch).setCap ch { s.cap ch with lost := false, last := some ((s.tail 5).m * 4096 + code) }
        let e := { (s.capCount ch).capEnt ch stamp falling with seq := s.fld (hubLoc (12 + ch)) R.CAP_SEQ_SEQ }
        if u.flag (hubLoc (12 + ch)) R.CAP_CTRL_MODE then u.setCap ch { u.cap ch with queue := (s.cap ch).queue ++ [e] }
        else
          let r := u.capEvent ch stamp (s.fld (hubLoc (12 + ch)) R.CAP_SEQ_SEQ) falling
          if r.2 then r.1 else r.1.setCap ch { r.1.cap ch with queue := (s.cap ch).queue ++ [{ e with dropped := true }] } := by
  have hlast : (s.cap ch).last.any (fun t =>
      decide (((s.tail 5).m * 4096 + code - t) * 16 < s.fld (hubLoc (12 + ch)) R.CAP_CTRL_DEAD * 40960)) = false := by
    cases hl : (s.cap ch).last with
    | none => rfl
    | some t => exact decide_eq_false (h.live t hl)
  unfold State.capEdge
  dsimp only
  rw [if_neg]
  · rfl
  · rw [h.on, h.cal, h.trigCal, h.whole, hlast]
    rintro (h8 | hon | hcal | htrig | hred | ⟨hedge, hf⟩ | ⟨hedge, hf⟩ | hd)
    · have := h.unit; omega
    · cases hon
    · cases hcal
    · cases htrig
    · cases hred
    · rw [h.rises hedge] at hf; cases hf
    · rw [h.falls hedge] at hf; cases hf
    · cases hd

theorem exec_captureEdge {s : State} {ch code : Nat} {falling : Bool} (hloop : s.flag (hubLoc (12 + ch)) R.CAP_CTRL_LOOP = false) :
    exec (.captureEdge ch falling code) s = .next (s.capEdge ch falling ((s.tail 5).m * 4096 + code) (s.capStamp ch code)) := by
  show execCaptureEdge ch falling code s = _
  unfold execCaptureEdge
  rw [hloop]
  rfl

/-- An edge that its channel does not take has no effect. -/
theorem exec_captureEdge_away {s : State} {ch code : Nat} {falling : Bool}
    (h : s.flag (hubLoc (12 + ch)) R.CAP_CTRL_LOOP = true ∨ s.flag (hubLoc (12 + ch)) R.CAP_CTRL_EN = false ∨
      s.calBusy (hubLoc (12 + ch)) 2 = true ∨ s.calBusy (hubLoc (20 + ch)) 3 = true ∨ s.faults.reduced = true ∨
      (s.fld (hubLoc (12 + ch)) R.CAP_CTRL_EDGE = 0 ∧ falling = true) ∨
      (s.fld (hubLoc (12 + ch)) R.CAP_CTRL_EDGE = 1 ∧ falling = false) ∨
      ∃ t, (s.cap ch).last = some t ∧
        ((s.tail 5).m * 4096 + code - t) * 16 < s.fld (hubLoc (12 + ch)) R.CAP_CTRL_DEAD * 40960) :
    exec (.captureEdge ch falling code) s = .next s := by
  cases hloop : s.flag (hubLoc (12 + ch)) R.CAP_CTRL_LOOP with
  | true => exact if_pos hloop
  | false =>
    rw [exec_captureEdge hloop]
    refine congrArg Host.Outcome.next ?_
    unfold State.capEdge
    dsimp only
    rw [if_pos]
    rcases h with h | h | h | h | h | h | h | ⟨t, ht, hd⟩
    · rw [hloop] at h; cases h
    · exact .inr (.inl (by rw [h]; rfl))
    · exact .inr (.inr (.inl h))
    · exact .inr (.inr (.inr (.inl h)))
    · exact .inr (.inr (.inr (.inr (.inl h))))
    · exact .inr (.inr (.inr (.inr (.inr (.inl h)))))
    · exact .inr (.inr (.inr (.inr (.inr (.inr (.inl ⟨h.1, by rw [h.2]; rfl⟩))))))
    · refine .inr (.inr (.inr (.inr (.inr (.inr (.inr ?_))))))
      rw [ht]
      exact decide_eq_true hd

theorem State.fld_capCount_seq (s : State) (ch : Nat) :
    (s.capCount ch).fld (hubLoc (12 + ch)) R.CAP_SEQ_SEQ =
      (s.fld (hubLoc (12 + ch)) R.CAP_SEQ_SEQ + 1) % 2 ^ R.CAP_SEQ_SEQ.len :=
  State.fld_put_self _ _ _ (by decide)

/-- The channel as an edge that is not lost leaves it, before its entry. -/
def State.capNoted (s : State) (ch code : Nat) : State :=
  (s.capCount ch).setCap ch { s.cap ch with lost := false, last := some ((s.tail 5).m * 4096 + code) }

theorem State.flag_capNoted_mode (s : State) (ch code : Nat) :
    (s.capNoted ch code).flag (hubLoc (12 + ch)) R.CAP_CTRL_MODE = s.flag (hubLoc (12 + ch)) R.CAP_CTRL_MODE :=
  congrArg (· == 1) (s.fld_capCount (.inr (by decide)) (by decide))

/-- The entry of an edge, in the state that its number has left. -/
def State.capEntry (s : State) (ch stamp : Nat) (falling : Bool) : CapEnt :=
  { (s.capCount ch).capEnt ch stamp falling with seq := s.fld (hubLoc (12 + ch)) R.CAP_SEQ_SEQ }

section
variable {s : State} {ch code : Nat} {falling : Bool}

theorem State.Takes.full (h : s.Takes ch code falling) (stamp : Nat) (hfull : 256 ≤ (s.cap ch).queue.length) :
    s.capEdge ch falling ((s.tail 5).m * 4096 + code) stamp =
      ((s.capCount ch).setCap ch { s.cap ch with lost := true, last := some ((s.tail 5).m * 4096 + code) }).bump
        (hubLoc (12 + ch)) R.CAP_STAT_DROP := by
  rw [h.capEdge, if_pos hfull]

theorem State.Takes.polled (h : s.Takes ch code falling) (stamp : Nat) (hroom : (s.cap ch).queue.length < 256)
    (hpoll : s.flag (hubLoc (12 + ch)) R.CAP_CTRL_MODE = true) :
    s.capEdge ch falling ((s.tail 5).m * 4096 + code) stamp = (s.capNoted ch code).setCap ch
      { (s.capNoted ch code).cap ch with queue := (s.cap ch).queue ++ [s.capEntry ch stamp falling] } := by
  rw [h.capEdge, if_neg (by omega)]
  exact if_pos ((s.flag_capNoted_mode ch code).trans hpoll)

theorem State.Takes.sent (h : s.Takes ch code falling) (stamp : Nat) (hroom : (s.cap ch).queue.length < 256)
    (hevent : s.flag (hubLoc (12 + ch)) R.CAP_CTRL_MODE = false) :
    s.capEdge ch falling ((s.tail 5).m * 4096 + code) stamp =
      let r := (s.capNoted ch code).capEvent ch stamp (s.fld (hubLoc (12 + ch)) R.CAP_SEQ_SEQ) falling
      if r.2 then r.1 else r.1.setCap ch
        { r.1.cap ch with queue := (s.cap ch).queue ++ [{ s.capEntry ch stamp falling with dropped := true }] } := by
  rw [h.capEdge, if_neg (by omega)]
  exact if_neg (by rw [Bool.not_eq_true]; exact (s.flag_capNoted_mode ch code).trans hevent)

theorem State.capEvent_capNoted (hch : ch < 8) (stamp seq : Nat) :
    (s.capNoted ch code).event 2 (ch + b2n falling * 8 + seq % 4096 * 16) (tx64 stamp)
      (if s.flag locFp (R.EVT_ROUTE_CAP_OVR ch) then some (s.fp (R.EVT_ROUTE_CAP_RING ch)) else none) =
    (s.capNoted ch code).capEvent ch stamp seq falling := by
  have hfp : ∀ f : Fld, f.off < 16777216 → (s.capNoted ch code).fld locFp f = s.fld locFp f := fun f hf =>
    s.fld_capCount (.inl (by unfold locFp hubLoc mkLoc; omega)) hf
  unfold State.capEvent State.fp State.flag
  rw [hfp _ (by simp only [R.EVT_ROUTE_CAP_OVR]; omega), hfp _ (by simp only [R.EVT_ROUTE_CAP_RING]; omega)]

theorem State.bump_rest (s u : State) (l : Nat) (f : Fld) :
    { s.bump l f with caps := u.caps, regs := u.regs } = { s with caps := u.caps, regs := u.regs } := rfl

theorem State.cap_bump (s : State) (l : Nat) (f : Fld) (i : Nat) : (s.bump l f).cap i = s.cap i := rfl

theorem State.fld_bump_apart (s : State) (l : Nat) {f g : Fld} (h : f.apart g = true) : (s.bump l f).fld l g = s.fld l g :=
  State.fld_put_apart _ _ _ h

theorem State.capCount_dropped (s : State) (ch : Nat) (x : Cap) :
    (((s.capCount ch).setCap ch x).bump (hubLoc (12 + ch)) R.CAP_STAT_DROP).fld (hubLoc (12 + ch)) R.CAP_STAT_DROP =
      satNat (s.fld (hubLoc (12 + ch)) R.CAP_STAT_DROP + 1) R.CAP_STAT_DROP.len := by
  have hdrop : ((s.capCount ch).setCap ch x).fld (hubLoc (12 + ch)) R.CAP_STAT_DROP = s.fld (hubLoc (12 + ch)) R.CAP_STAT_DROP :=
    s.fld_capCount (.inr (by decide)) (by decide)
  unfold State.bump State.bumpBy
  rw [State.fld_put_self _ _ _ (by decide), hdrop]
  exact Nat.mod_eq_of_lt (satNat_lt _ _)

end

section
variable {s : State} {ch code : Nat} {falling : Bool}

/-- A full queue loses the edge. -/
theorem State.Takes.loses (h : s.Takes ch code falling) (stamp : Nat) (hfull : 256 ≤ (s.cap ch).queue.length) :
    let l := hubLoc (12 + ch)
    let t := s.capEdge ch falling ((s.tail 5).m * 4096 + code) stamp
    t.cap ch = { s.cap ch with lost := true, last := some ((s.tail 5).m * 4096 + code) } ∧
      t.fld l R.CAP_STAT_DROP = satNat (s.fld l R.CAP_STAT_DROP + 1) R.CAP_STAT_DROP.len ∧
      t.fld l R.CAP_SEQ_SEQ = (s.fld l R.CAP_SEQ_SEQ + 1) % 2 ^ R.CAP_SEQ_SEQ.len ∧ { t with caps := s.caps, regs := s.regs } = s := by
  rw [h.full stamp hfull]
  refine ⟨?_, s.capCount_dropped ch _, ?_, ?_⟩
  · rw [State.cap_bump]
    exact State.cap_setCap_self (s.capCount ch) _ _
  · rw [State.fld_bump_apart _ _ (by decide)]
    exact s.fld_capCount_seq ch
  · exact State.bump_rest ((s.capCount ch).setCap ch { s.cap ch with lost := true, last := some ((s.tail 5).m * 4096 + code) }) s _ _

/-- In polling mode the entry joins the queue. -/
theorem State.Takes.queues (h : s.Takes ch code falling) (stamp : Nat) (hroom : (s.cap ch).queue.length < 256)
    (hpoll : s.flag (hubLoc (12 + ch)) R.CAP_CTRL_MODE = true) :
    let l := hubLoc (12 + ch)
    let t := s.capEdge ch falling ((s.tail 5).m * 4096 + code) stamp
    (t.cap ch).queue = (s.cap ch).queue ++ [s.capEntry ch stamp falling] ∧
      t.fld l R.CAP_SEQ_SEQ = (s.fld l R.CAP_SEQ_SEQ + 1) % 2 ^ R.CAP_SEQ_SEQ.len ∧
      (t.cap ch).lost = false ∧ (∀ j, j ≠ ch → t.cap j = s.cap j) ∧ { t with caps := s.caps, regs := s.regs } = s := by
  rw [h.polled stamp hroom hpoll]
  refine ⟨congrArg Cap.queue (State.cap_setCap_self _ _ _), s.fld_capCount_seq ch, ?_, fun j hj => ?_, rfl⟩
  · rw [State.cap_setCap_self]
    exact congrArg Cap.lost (State.cap_setCap_self (s.capCount ch) _ _)
  · exact (State.cap_setCap_ne _ _ hj).trans (State.cap_setCap_ne (s.capCount ch) _ hj)

theorem State.capNoted_spec (s : State) (ch code : Nat) :
    (s.capNoted ch code).cap ch = { s.cap ch with lost := false, last := some ((s.tail 5).m * 4096 + code) } ∧
      (s.capNoted ch code).fld (hubLoc (12 + ch)) R.CAP_SEQ_SEQ =
        (s.fld (hubLoc (12 + ch)) R.CAP_SEQ_SEQ + 1) % 2 ^ R.CAP_SEQ_SEQ.len ∧
      { s.capNoted ch code with caps := s.caps, regs := s.regs } = s :=
  ⟨State.cap_setCap_self (s.capCount ch) _ _, s.fld_capCount_seq ch, rfl⟩

end

/-! ### The statement -/

theorem timeCapture_spec (n : Nat) (f : Flight) (s : State) :
    let k := locUnit f.cmd.loc - 12
    let q := (s.cap k).queue
    let m := f.cmd.opa % 512
    (Starts (fun c => c.opcode == 0x65 && bits c.opa 14 2 != 1) mTimeCapture n f s →
      (s.flag f.cmd.loc R.CAP_CTRL_MODE = true →
        (q = [] → exec (.timeCaptureDrain n) s = .next (s.complete n { status := stOk })) ∧
        (q ≠ [] →
          (∀ t, s.dmaWrite f.cmd.opb (((q.take m).map (fun e => e.bytes k)).flatten) = some t →
            exec (.timeCaptureDrain n) s = .next ((t.setCap k { s.cap k with queue := q.drop m }).complete n
              { status := stOk, result := min m q.length % 65536 })) ∧
          (s.dmaWrite f.cmd.opb (((q.take m).map (fun e => e.bytes k)).flatten) = none →
            exec (.timeCaptureDrain n) s = .next (s.complete n { status := stFault, detail := 0xE0 })))) ∧
      (s.flag f.cmd.loc R.CAP_CTRL_MODE = false → ∃ out rest : List CapEnt,
        out = (q.filter CapEnt.dropped).take m ∧ rest.filter CapEnt.dropped = (q.filter CapEnt.dropped).drop m ∧
        rest.filter (fun e => !e.dropped) = q.filter (fun e => !e.dropped) ∧
        (out = [] → exec (.timeCaptureDrain n) s = .next (s.complete n { status := stOk })) ∧
        (out ≠ [] → ∀ t, s.dmaWrite f.cmd.opb ((out.map (fun e => e.bytes k)).flatten) = some t →
          exec (.timeCaptureDrain n) s = .next ((t.setCap k { s.cap k with queue := rest }).complete n
            { status := stOk, result := out.length % 65536 })))) := by
  intro k q m hs
  have hform := hs.form
  simp only [Bool.and_eq_true, bne_iff_ne, ne_eq] at hform
  refine ⟨fun hpoll => ?_, fun hevent => ?_⟩
  · have htaken : s.capTaken f = (q.take m, q.drop m) := takeOld_all (fun e => by rw [hpoll]; rfl) _ _
    have hm : m ≠ 0 := by
      intro hm
      have hops := hs.operands
      simp only [mTimeCapture] at hops
      split at hops
      · cases hops
      · unfold rangeBad at hops
        have hfn : bits f.cmd.opa 14 2 = 0 ∨ 2 ≤ bits f.cmd.opa 14 2 := by have := hform.2; omega
        rcases hfn with hfn | hfn <;> simp [hfn, show f.cmd.opa % 512 = 0 from hm] at hops
    refine ⟨fun hq => ?_, fun hq => ⟨fun t ht => ?_, fun ht => ?_⟩⟩
    · exact hs.drains_none (mTimeCapture_none hform.2 (by rw [htaken, hq, List.take_nil]))
    · have hne : (s.capTaken f).1 ≠ [] := by rw [htaken]; simp [List.take_eq_nil_iff, hm, hq]
      have hrun := mTimeCapture_some (t := t) hform.2 hne (by rw [htaken]; exact ht)
      rw [htaken, List.length_take] at hrun
      exact hs.drains_some hrun
    · have hne : (s.capTaken f).1 ≠ [] := by rw [htaken]; simp [List.take_eq_nil_iff, hm, hq]
      exact hs.drains_fault (mTimeCapture_fault hform.2 hne (by rw [htaken]; exact ht))
  · have htaken : s.capTaken f = takeOld CapEnt.dropped m q := by
      unfold State.capTaken
      rw [hevent]
      rfl
    obtain ⟨hout, hdrop, hkeep⟩ := takeOld_filter CapEnt.dropped m q
    rw [← htaken] at hout hdrop hkeep
    exact ⟨_, _, hout, hdrop, hkeep, fun h => hs.drains_none (mTimeCapture_none hform.2 h),
      fun h t ht => hs.drains_some (mTimeCapture_some hform.2 h ht)⟩

theorem tsqDrain_spec (n : Nat) (f : Flight) (s : State) :
    let d := (locPort f.cmd.loc).1
    let p := (locPort f.cmd.loc).2
    let q := (s.port d p).tsq
    let m := f.cmd.opa
    Starts (isOp 0x66) mTsqDrain n f s →
    (s.present d p = false → exec (.tsqDrain n) s = .next (s.complete n { status := stNoTarget })) ∧
    (s.present d p = true → s.pflag d p R.TS_CTRL_TSQ_MODE = true →
      (q = [] → exec (.tsqDrain n) s = .next (s.complete n { status := stOk })) ∧
      (q ≠ [] →
        (∀ t, s.dmaWrite f.cmd.opb (((q.take m).map (fun e => e.bytes d p)).flatten) = some t →
          exec (.tsqDrain n) s = .next ((t.setPort d p { s.port d p with tsq := q.drop m }).complete n
            { status := stOk, result := min m q.length % 65536 })) ∧
        (s.dmaWrite f.cmd.opb (((q.take m).map (fun e => e.bytes d p)).flatten) = none →
          exec (.tsqDrain n) s = .next (s.complete n { status := stFault, detail := 0xE0 })))) ∧
    (s.present d p = true → s.pflag d p R.TS_CTRL_TSQ_MODE = false → ∃ out rest : List TsqEnt,
      out = (q.filter TsqEnt.dropped).take m ∧ rest.filter TsqEnt.dropped = (q.filter TsqEnt.dropped).drop m ∧
      rest.filter (fun e => !e.dropped) = q.filter (fun e => !e.dropped) ∧
      (out = [] → exec (.tsqDrain n) s = .next (s.complete n { status := stOk })) ∧
      (out ≠ [] → ∀ t, s.dmaWrite f.cmd.opb ((out.map (fun e => e.bytes d p)).flatten) = some t →
        exec (.tsqDrain n) s = .next ((t.setPort d p { s.port d p with tsq := rest }).complete n
          { status := stOk, result := out.length % 65536 }))) := by
  intro d p q m hs
  refine ⟨fun hp => ?_, fun hp hpoll => ?_, fun hp hevent => ?_⟩
  · have habsent : s.absent f.cmd.loc = true := by unfold State.absent; rw [hp]; rfl
    have hrun : mTsqDrain.run f f.cmd.loc s = (s, some noTarget) := by simp only [mTsqDrain, habsent, if_true]
    exact hs.startRow_completes hrun (show stNoTarget ≠ stDenied by decide)
  · have habsent := State.absent_of_present hp
    have htaken : s.tsqTaken f = (q.take m, q.drop m) := takeOld_all (fun e => by rw [hpoll]; rfl) _ _
    have hm : m ≠ 0 := by
      intro hm
      have hops := hs.operands
      simp [mTsqDrain, rangeBad, show f.cmd.opa = 0 from hm] at hops
    refine ⟨fun hq => ?_, fun hq => ⟨fun t ht => ?_, fun ht => ?_⟩⟩
    · exact hs.drains_none (mTsqDrain_none habsent (by rw [htaken, hq, List.take_nil]))
    · have hne : (s.tsqTaken f).1 ≠ [] := by rw [htaken]; simp [List.take_eq_nil_iff, hm, hq]
      have hrun := mTsqDrain_some (t := t) habsent hne (by rw [htaken]; exact ht)
      rw [htaken, List.length_take] at hrun
      exact hs.drains_some hrun
    · have hne : (s.tsqTaken f).1 ≠ [] := by rw [htaken]; simp [List.take_eq_nil_iff, hm, hq]
      exact hs.drains_fault (mTsqDrain_fault habsent hne (by rw [htaken]; exact ht))
  · have habsent := State.absent_of_present hp
    have htaken : s.tsqTaken f = takeOld TsqEnt.dropped m q := by
      unfold State.tsqTaken
      rw [hevent]
      rfl
    obtain ⟨hout, hdrop, hkeep⟩ := takeOld_filter TsqEnt.dropped m q
    rw [← htaken] at hout hdrop hkeep
    exact ⟨_, _, hout, hdrop, hkeep, fun h => hs.drains_none (mTsqDrain_none habsent h),
      fun h t ht => hs.drains_some (mTsqDrain_some habsent h ht)⟩

/-- Settles O33: an edge is taken or has no effect, and a drain takes from the front of its queue what qualifies. -/
theorem capturesAndQueueDrains : Obligations.CapturesAndQueueDrains := by
  unfold Obligations.CapturesAndQueueDrains
  refine ⟨fun s ch code falling hch => ?_, fun n f s => ⟨⟨timeCapture_spec n f s, fun hs => ?_⟩, tsqDrain_spec n f s⟩⟩
  · intro l x edge dead away
    refine ⟨fun haway => exec_captureEdge_away ?_, fun hon haway hrises hfalls hlive => ?_⟩
    · rcases haway with h | h | h | h | h
      · exact .inr (.inl h)
      · simp only [away, Bool.or_eq_true] at h
        rcases h with ((h | h) | h) | h
        · exact .inl h
        · exact .inr (.inr (.inl h))
        · exact .inr (.inr (.inr (.inl h)))
        · exact .inr (.inr (.inr (.inr (.inl h))))
      · exact .inr (.inr (.inr (.inr (.inr (.inl h)))))
      · exact .inr (.inr (.inr (.inr (.inr (.inr (.inl h))))))
      · exact .inr (.inr (.inr (.inr (.inr (.inr (.inr h))))))
    · simp only [away, Bool.or_eq_false_iff] at haway
      obtain ⟨⟨⟨hloop, hcal⟩, htrig⟩, hred⟩ := haway
      have htakes : s.Takes ch code falling := ⟨hch, hon, hcal, htrig, hred, hrises, hfalls, hlive⟩
      have hexec := exec_captureEdge (code := code) (falling := falling) hloop
      refine ⟨fun h => ?_, fun h hm => ?_, fun h hm => ?_⟩
      · exact ⟨_, hexec, htakes.loses _ h⟩
      · obtain ⟨hqueue, hseq, hlost, hother, hrest⟩ := htakes.queues (s.capStamp ch code) h hm
        exact ⟨_, s.capEntry ch (s.capStamp ch code) falling, hexec, hqueue, rfl, rfl, rfl, rfl, rfl, hseq, hlost, hother, hrest⟩
      · rw [htakes.sent _ h hm] at hexec
        obtain ⟨hcap, hseq, hrest⟩ := s.capNoted_spec ch code
        exact ⟨_, _, { s.capEntry ch (s.capStamp ch code) falling with dropped := true }, _,
          State.capEvent_capNoted hch _ _, hcap, hseq, hrest, rfl, rfl, hexec⟩
  · have hform := hs.form
    simp only [Bool.and_eq_true, beq_iff_eq] at hform
    have hrun : mTimeCapture.run f f.cmd.loc s = (s.setCap (locUnit f.cmd.loc - 12)
        { s.cap (locUnit f.cmd.loc - 12) with queue := [] }, some (okC (s.cap (locUnit f.cmd.loc - 12)).queue.length)) := by
      simp only [mTimeCapture, if_pos hform.2]
    exact hs.drains_some hrun

end Sys2Proof.Machine
end

section
/-! PROOFS. Spindle words of the ACTIVE and of the WARMING headstock (R182, R190 to R193, R199). -/

namespace Sys2Proof.Machine

/-! ### What the headstocks' bookkeeping leaves -/

/-- The arbiter's fields that say which headstock has which part, and for what the last one failed. -/
def roleFlds : List Fld := [R.HST_STAT_TA_STATE, R.HST_STAT_TB_STATE, R.HST_STAT_ACTIVE_TB, R.HST_LAST_CAUSE]

/-- The time, the headstocks' state but for their checkpoints, and the named fields of the arbiter stay. -/
structure HstKept (l : List Fld) (s t : State) : Prop where
  tails : t.tails = s.tails
  hst : { t.hst with slots := s.hst.slots, writes := s.hst.writes, commitAt := s.hst.commitAt } = s.hst
  arb : ∀ f ∈ l, t.arb f = s.arb f

section
variable {l : List Fld} {s t u : State}

theorem HstKept.refl (s : State) : HstKept l s s := ⟨rfl, rfl, fun _ _ => rfl⟩

theorem HstKept.trans (h : HstKept l s t) (k : HstKept l t u) : HstKept l s u := by
  refine ⟨k.tails.trans h.tails, ?_, fun f hf => (k.arb f hf).trans (h.arb f hf)⟩
  conv => rhs; rw [← h.hst, ← k.hst]

theorem HstKept.ite (p : Prop) [Decidable p] (h : HstKept l s t) (k : HstKept l s u) : HstKept l s (if p then t else u) := by
  split
  · exact h
  · exact k

theorem HstKept.mono {m : List Fld} (h : HstKept l s t) (hm : ∀ f ∈ m, f ∈ l) : HstKept m s t :=
  ⟨h.tails, h.hst, fun f hf => h.arb f (hm f hf)⟩

theorem HstKept.foldl {α : Type} {g : State → α → State} (h : ∀ s x, HstKept l s (g s x)) (xs : List α) (s : State) :
    HstKept l s (xs.foldl g s) := by
  induction xs generalizing s with
  | nil => exact .refl s
  | cons x xs ih => exact (h s x).trans (ih _)

theorem HstKept.of_eq (htails : t.tails = s.tails) (hhst : t.hst = s.hst) (hregs : t.regs = s.regs) (hpart : t.part = s.part) :
    HstKept l s t :=
  ⟨htails, by rw [hhst], fun f _ => State.arb_congr hregs hpart f⟩

theorem HstKept.setServo (s : State) (x : Servo) : HstKept l s (s.setServo x) := .of_eq rfl rfl rfl rfl

theorem HstKept.setRef (s : State) (i : Nat) (x : RefSlot) : HstKept l s (s.setRef i x) := .of_eq rfl rfl rfl rfl

theorem HstKept.arbPut (s : State) (g : Fld) (v : Nat) (h : l.all (g.apart ·) = true) : HstKept l s (s.arbPut g v) :=
  ⟨rfl, rfl, fun _ hf => s.arb_arbPut_apart v (List.all_eq_true.1 h _ hf)⟩

theorem HstKept.of_reports (h : Reports s t) (k : ReportRegs s t) (hl : l.all (fun f => decide (f.off < 16777216)) = true) :
    HstKept l s t := by
  have hhst : t.hst = s.hst := (congrArg State.hst h.rest :)
  exact ⟨h.tails, by rw [hhst], fun f hf => k.fld (not_reportKey_arb (of_decide_eq_true (List.all_eq_true.1 hl f hf)))⟩

theorem HstKept.now (h : HstKept l s t) : t.now = s.now := congrArg Tailstock.m (State.tail_congr h.tails 5)

theorem HstKept.swap (h : HstKept l s t) : t.hst.swap = s.hst.swap := (congrArg Hst.swap h.hst :)

theorem HstKept.drive (h : HstKept l s t) (tb : Bool) : t.drive tb = s.drive tb := by
  unfold State.drive
  rw [(congrArg Hst.driveA h.hst :), (congrArg Hst.driveB h.hst :)]

theorem HstKept.hsRaw (h : HstKept l s t) (ha : R.HST_STAT_TA_STATE ∈ l) (hb : R.HST_STAT_TB_STATE ∈ l) (tb : Bool) :
    t.hsRaw tb = s.hsRaw tb := by
  cases tb
  · exact h.arb _ ha
  · exact h.arb _ hb

end

/-- The stored checkpoints change alone. -/
theorem HstKept.setHst (s : State) (x : Hst) {l : List Fld}
    (h : { x with slots := s.hst.slots, writes := s.hst.writes, commitAt := s.hst.commitAt } = s.hst) : HstKept l s (s.setHst x) :=
  ⟨rfl, h, fun _ _ => rfl⟩

theorem HstKept.ccSync (s : State) : HstKept roleFlds s s.ccSync := .arbPut s R.CC_NOW_CLOCK_CLASS s.clockClass (by decide)

theorem HstKept.toServo (s : State) (v : Nat) : HstKept roleFlds s (s.toServo v) := by
  have hsync : HstKept roleFlds s (s.arbPut R.REF_SEL_SERVO_STATE v).traceSync := by
    refine (HstKept.arbPut s R.REF_SEL_SERVO_STATE v (by decide)).trans ?_
    unfold State.traceSync
    exact .ite _ (.arbPut _ R.REF_SEL_TRACEABLE _ (by decide)) (.ite _ (.arbPut _ R.REF_SEL_TRACEABLE _ (by decide)) (.refl _))
  unfold State.toServo
  exact .ite _ (hsync.trans (.arbPut _ R.REF_SEL_TS_TRACED _ (by decide))) (.ite _ (hsync.trans (.setServo _ _)) hsync)

theorem HstKept.servoBack (s : State) : HstKept roleFlds s s.servoBack :=
  ((HstKept.setServo s _).trans (.toServo _ _)).trans (.ccSync _)

theorem HstKept.completeOpt (s : State) (n : Option Nat) (c : Compl) : HstKept roleFlds s (s.completeOpt n c) :=
  .of_reports (.completeOpt s n c) (.completeOpt s n c) (by decide)

theorem HstKept.refEvent (s : State) (prev cause : Nat) (warn : Bool) : HstKept roleFlds s (s.refEvent prev cause warn) :=
  .of_reports (.event s _ _ _ _) (.event s _ _ _ _) (by decide)

theorem HstKept.commitCkpt (s : State) (w : CkptWrite) : HstKept roleFlds s (s.commitCkpt w) := by
  unfold State.commitCkpt
  split
  · exact .refl s
  · next c _ =>
    exact ((HstKept.setHst s { s.hst with
      slots := Tab.set s.hst.slots w.key { c with torn := c.torn && c.seq != w.seq }, commitAt := w.at_ } rfl).trans
        (.arbPut _ R.HST_STAT_CKPT_STALE _ (by decide))).trans (.completeOpt _ _ _)

theorem HstKept.settleCkpts (s : State) : HstKept roleFlds s s.settleCkpts :=
  (HstKept.setHst s { s.hst with writes := s.hst.writes.filter (fun w => !decide (w.at_ ≤ s.now)) } rfl).trans
    (.foldl HstKept.commitCkpt _ _)

theorem HstKept.slewStop (s : State) {l : List Fld} : HstKept l s s.slewStop := .setServo s _

theorem HstKept.commit (s : State) (x : StepC) {l : List Fld} : HstKept l s (s.commit x) := by
  unfold State.commit
  exact .ite _ ((HstKept.setServo _ _).trans (.slewStop _)) (.setServo _ _)

theorem HstKept.slewBy (s : State) (off : Int) (rate : Nat) {l : List Fld} : HstKept l s (s.slewBy off rate) := .setServo s _

/-- The slew that the new headstock's servo takes up (R192). -/
def State.readSlew (s : State) (t : Tailstock) : State :=
  if s.servo.slews != [] then s
  else
    let s := s.setServo { s.servo with slewLeft := 0, slewRate := 0 }
    if t.slewNow = 0 then s else s.slewBy t.slewNow t.slewRate

theorem HstKept.readSlew (s : State) (t : Tailstock) {l : List Fld} : HstKept l s (s.readSlew t) :=
  .ite _ (.refl s) (.ite _ (.setServo _ _) ((HstKept.setServo _ _).trans (.slewBy _ _ _)))

theorem HstKept.readback (s : State) {l : List Fld} : HstKept l s s.readback := by
  have hcommit : ∀ (u : State) (o p : Option StepC) (g : State → StepC → StepC), HstKept l s u → HstKept l s
      (match o, p with
       | none, some x => u.commit (g u x)
       | _, _ => u) := by
    intro u o p g hu
    split
    · exact hu.trans (.commit _ _)
    · exact hu
  exact hcommit _ _ _ (fun s x => { x with tick := if x.num.isSome ∨ x.tick < (s.tail 5).n + 800 then s.stepTick x else x.tick })
    ((HstKept.setServo s _).trans (.readSlew _ (s.tail 4)))

theorem HstKept.loadSlots (s : State) (c : Option Ckpt) {l : List Fld} : HstKept l s (s.loadSlots c) := by
  unfold State.loadSlots
  refine .foldl (fun u i => ?_) _ s
  dsimp only
  split
  · exact .setRef _ _ _
  · exact .setRef _ _ _

/-- The history of a headstock that begins from nothing. -/
theorem HstKept.freshHist (s : State) (x : Servo) : HstKept roleFlds s (((((s.arbPut R.SR_STAT_HIST_VALID 0).arbPut
    R.SR_STAT_DRIFT_VALID 0).arbPut R.SR_STAT_LOCKED_MIN 0).loadSlots none).setServo x) :=
  ((((HstKept.arbPut s R.SR_STAT_HIST_VALID 0 (by decide)).trans (.arbPut _ R.SR_STAT_DRIFT_VALID 0 (by decide))).trans
    (.arbPut _ R.SR_STAT_LOCKED_MIN 0 (by decide))).trans (.loadSlots _ _)).trans (.setServo _ _)

theorem HstKept.loadHist (s : State) (tb : Bool) : HstKept roleFlds s (s.loadHist tb) := by
  have htorn : HstKept roleFlds s (s.bumpBy locArb R.HST_LAST_CKPT_TORN (s.tornCount tb)) :=
    .arbPut s R.HST_LAST_CKPT_TORN _ (by decide)
  refine htorn.trans ?_
  unfold State.loadHist
  dsimp only
  generalize s.bumpBy locArb R.HST_LAST_CKPT_TORN (s.tornCount tb) = u
  have hage : ∀ v, HstKept roleFlds u (u.arbPut R.HST_LAST_AGE_AGE v) := fun v => .arbPut u R.HST_LAST_AGE_AGE v (by decide)
  split
  · exact (hage _).trans (.freshHist _ _)
  · split
    · exact (hage _).trans (.freshHist _ _)
    · exact (hage _).trans ((HstKept.loadSlots _ _).trans (.setServo _ _))

/-! ### Word slots (R182) -/

theorem State.nextSlot_slot (s : State) : s.nextSlot.now % 400 = 0 ∧ s.now ≤ s.nextSlot.now := by
  have hslot : (s.now + s.toSlot) % 400 = 0 := by
    unfold State.toSlot ceilDiv
    omega
  unfold State.nextSlot
  split
  · next h => exact ⟨by rwa [h.1] at hslot, Nat.le_refl _⟩
  · rw [State.now_advance]
    split
    · next h => rw [h] at hslot; omega
    · exact ⟨hslot, by omega⟩

theorem State.nextSlot_rest (s : State) : { s.nextSlot with tails := s.tails } = s := by
  unfold State.nextSlot
  split <;> rfl

/-! ### The words of the ACTIVE headstock (R27, R94, R182) -/

/-- The servo's own part of the FCW (R168, R171). -/
def State.servoSteered (s : State) : State :=
  let st := s.servoState
  if st = 4 then s.setServo { s.servo with fcw := clampFcw s.restFcw }
  else if st = 0 then s.setServo { s.servo with fcw := s.nomFcw }
  else if st = 6 ∨ st = 7 then s
  else (s.setServo { s.servo with fcw := clampFcw (s.servo.fcw + Config.steer s.freeCtr) }).freeNat.2

theorem State.servoSteered_rest (s : State) : { s.servoSteered with servo := s.servo, freeCtr := s.freeCtr } = s := by
  have hset : ∀ x, { s.setServo x with servo := s.servo, freeCtr := s.freeCtr } = s := fun _ => rfl
  have hfree : ∀ u : State, { u with servo := s.servo, freeCtr := s.freeCtr } = s →
      { u.freeNat.2 with servo := s.servo, freeCtr := s.freeCtr } = s := fun _ h => h
  unfold State.servoSteered
  dsimp only
  repeat' split
  · exact hset _
  · exact hset _
  · exact rfl
  · exact hfree _ (hset _)

theorem State.servoFcw_eq (s : State) : s.servoFcw =
    if s.servoSteered.clk.xdiffDue then
      let d := s.servoSteered.xdiffFcw
      let d := if s.servoSteered.flag locClk R.CLK_STAT_LREF_XB then -d else d
      (s.servoSteered.setServo { s.servoSteered.servo with fcw := clampFcw (s.servoSteered.servo.fcw + d) }).setClk
        { s.servoSteered.clk with xdiffDue := false }
    else s.servoSteered := rfl

theorem State.servoFcw_rest (s : State) : { s.servoFcw with servo := s.servo, clk := s.clk, freeCtr := s.freeCtr } = s := by
  have h := s.servoSteered_rest
  rw [s.servoFcw_eq]
  generalize s.servoSteered = u at h ⊢
  split
  · exact congrArg (fun t : State => { t with clk := s.clk }) h
  · exact congrArg (fun t : State => { t with clk := s.clk }) h

theorem State.servoSteered_servo (s : State) : { s.servoSteered.servo with fcw := s.servo.fcw } = s.servo := by
  have hset : ∀ x, { (s.setServo { s.servo with fcw := x }).servo with fcw := s.servo.fcw } = s.servo := fun _ => rfl
  have hfree : ∀ u : State, { u.servo with fcw := s.servo.fcw } = s.servo →
      { u.freeNat.2.servo with fcw := s.servo.fcw } = s.servo := fun _ h => h
  unfold State.servoSteered
  dsimp only
  repeat' split
  · exact hset _
  · exact hset _
  · exact rfl
  · exact hfree _ (hset _)

theorem State.servoFcw_servo (s : State) : { s.servoFcw.servo with fcw := s.servo.fcw } = s.servo := by
  have h := s.servoSteered_servo
  rw [s.servoFcw_eq]
  generalize s.servoSteered = u at h ⊢
  split
  · exact h
  · exact h

/-- The headstock's count and time of its word, before the word itself (R182). -/
def State.wordBegun (s : State) : State :=
  s.setHst { s.hst with wordSeq := (s.hst.wordSeq + 1) % 256, wordAt := s.now, crcSeen := 0,
                        crcRun := if s.hst.crcSeen = 63 then s.hst.crcRun else 0 }

/-- The word on its lane. -/
def State.laneSet (s : State) (tb : Bool) (w : Nat) : State :=
  s.setHst (if tb then { s.hst with laneB := some w } else { s.hst with laneA := some w })

theorem State.putWord_kept (s : State) (tb : Bool) (f : SpWord → SpWord) :
    HstKept roleFlds (s.wordBegun.laneSet tb (f (s.wordBegun.word tb)).bits320) (s.putWord tb f) :=
  (HstKept.ccSync _).trans (.settleCkpts _)

theorem State.laneSet_lane (s : State) (tb : Bool) (w : Nat) :
    (if tb then (s.laneSet tb w).hst.laneB else (s.laneSet tb w).hst.laneA) = some w ∧
    (if tb then (s.laneSet tb w).hst.laneA = s.hst.laneA else (s.laneSet tb w).hst.laneB = s.hst.laneB) ∧
    (s.laneSet tb w).hst.wordAt = s.hst.wordAt ∧ (s.laneSet tb w).hst.wordSeq = s.hst.wordSeq := by
  cases tb <;> exact ⟨rfl, rfl, rfl, rfl⟩

theorem HstKept.lanes {l : List Fld} {s t : State} (h : HstKept l s t) :
    t.hst.laneA = s.hst.laneA ∧ t.hst.laneB = s.hst.laneB ∧ t.hst.wordAt = s.hst.wordAt ∧ t.hst.wordSeq = s.hst.wordSeq :=
  ⟨(congrArg Hst.laneA h.hst :), (congrArg Hst.laneB h.hst :), (congrArg Hst.wordAt h.hst :), (congrArg Hst.wordSeq h.hst :)⟩

/-- The word that an ACTIVE headstock puts on its lane. -/
theorem exec_spindleWord_sends {s : State} {tb : Bool} (h : s.activeHs = some tb) (hstart : s.hst.starting ≠ some tb)
    (hdrive : s.drive tb = true) : ∃ (t : State) (w : SpWord),
      exec .spindleWord s = .next t ∧ (if tb then t.hst.laneB else t.hst.laneA) = some w.bits320 ∧
      (if tb then t.hst.laneA = s.hst.laneA else t.hst.laneB = s.hst.laneB) ∧
      w.epoch = s.epochOf tb ∧ w.seq = (s.hst.wordSeq + 1) % 256 ∧ w.servo = s.servoState ∧
      w.hold = (s.servoState == 7) ∧ w.tb = tb ∧ w.traceable = s.flag locArb R.REF_SEL_TRACEABLE ∧ w.tick = (t.tail 5).n ∧
      w.slewRate = s.servo.slewRate ∧
      w.step = (s.servo.step.filter (fun x => decide ((t.tail 5).n < x.tick))).map StepC.wire ∧
      t.now % 400 = 0 ∧ s.now ≤ t.now ∧ t.hst.wordAt = t.now ∧ t.hst.wordSeq = w.seq := by
  have hexec : exec .spindleWord s = .next (s.nextSlot.servoFcw.putWord tb id) := by
    show execSpindleWord s = _
    unfold execSpindleWord
    rw [h]
    dsimp only
    rw [if_neg hstart, if_neg (by simp [hdrive])]
    rfl
  obtain ⟨hslot, hlater⟩ := s.nextSlot_slot
  have hsrest := s.nextSlot_rest
  have hvrest := s.nextSlot.servoFcw_rest
  have hvservo := s.nextSlot.servoFcw_servo
  generalize s.nextSlot = a at *
  have hkept := a.servoFcw.putWord_kept tb id
  generalize a.servoFcw = v at *
  have hregs : v.regs = s.regs := (congrArg State.regs hvrest : _ = a.regs).trans (congrArg State.regs hsrest :)
  have hpart : v.part = s.part := (congrArg State.part hvrest : _ = a.part).trans (congrArg State.part hsrest :)
  have hhst : v.hst = s.hst := (congrArg State.hst hvrest : _ = a.hst).trans (congrArg State.hst hsrest :)
  have hservo : a.servo = s.servo := (congrArg State.servo hsrest :)
  have htails : v.tails = a.tails := (congrArg State.tails hvrest :)
  have hrate : v.servo.slewRate = s.servo.slewRate := (congrArg Servo.slewRate hvservo : _ = a.servo.slewRate).trans (by rw [hservo])
  have hstep : v.servo.step = s.servo.step := (congrArg Servo.step hvservo : _ = a.servo.step).trans (by rw [hservo])
  have hstate : v.servoState = s.servoState := State.fld_congr hregs hpart _ _
  have htail : (v.putWord tb id).tails = v.tails := hkept.tails.trans rfl
  obtain ⟨hlaneA, hlaneB, hat, hseq⟩ := hkept.lanes
  obtain ⟨hon, hother, hbat, hbseq⟩ := v.wordBegun.laneSet_lane tb (v.wordBegun.word tb).bits320
  have hnow : (v.putWord tb id).now = v.now := congrArg Tailstock.m (State.tail_congr htail 5)
  have hvnow : v.now = a.now := congrArg Tailstock.m (State.tail_congr htails 5)
  refine ⟨_, v.wordBegun.word tb, hexec, ?_, ?_, ?_, ?_, hstate, ?_, rfl, State.flag_of_reg (State.reg_congr hregs hpart _ _), ?_, hrate, ?_,
    ?_, ?_, ?_, ?_⟩
  · rw [hlaneA, hlaneB]
    exact hon
  · rw [hlaneA, hlaneB]
    cases tb
    · exact (hother.trans (rfl : v.wordBegun.hst.laneB = v.hst.laneB)).trans (congrArg Hst.laneB hhst : v.hst.laneB = _)
    · exact (hother.trans (rfl : v.wordBegun.hst.laneA = v.hst.laneA)).trans (congrArg Hst.laneA hhst : v.hst.laneA = _)
  · exact (rfl : _ = v.epochOf tb).trans (congrArg (fun x : Hst => if tb then x.epochB else x.epochA) hhst)
  · exact congrArg (fun x : Hst => (x.wordSeq + 1) % 256) hhst
  · exact congrArg (· == 7) hstate
  · rw [State.tail_congr htail]; rfl
  · rw [State.tail_congr htail, ← hstep]; rfl
  · rw [hnow, hvnow]; exact hslot
  · rw [hnow, hvnow]; exact hlater
  · rw [hat, hnow]; exact hbat
  · rw [hseq]; exact hbseq

/-! ### The first word of a headstock (R177, R190 to R193, R199) -/

/-- A swap gives the new headstock its epoch and puts the other one on standby. -/
def State.firstEpoch (s : State) (tb : Bool) : State :=
  let swap := s.hst.swap.isSome
  let s := if swap then (s.bumpEpoch.giveEpoch tb).arbPut R.HST_STAT_DUAL_ACTIVE 1 else s
  if swap then s.setHs (!tb) hsStandby else s

/-- The new headstock is ACTIVE and drives its lane. -/
def State.firstActive (s : State) (tb : Bool) : State :=
  ((s.setHs tb hsActive).arbPut R.HST_STAT_ACTIVE_TB (b2n tb)).setDrive tb true

/-- What is written down of the takeover or of the swap. -/
def State.firstCause (s : State) (swap : Bool) : State :=
  if swap then ((s.arbPut R.HST_LAST_DURATION 0).arbPut R.HST_LAST_CAUSE 6).incr locArb R.HST_STAT_TAKEOVERS
  else if s.hst.takeover then s.arbPut R.HST_LAST_DURATION (satNat ((s.now - s.hst.declAt) * 8 / 5) 16)
  else s

/-- The takeover ends. -/
def State.firstOver (s : State) (tb : Bool) : State :=
  let s := if s.servoState = 6 then s.servoBack else s
  s.setHst { s.hst with takeover := false, starting := none,
                        reviveA := if tb then s.hst.reviveA else none, reviveB := if tb then none else s.hst.reviveB }

/-- The headstocks of a first word, on its slot. -/
def State.firstUp (s : State) (tb : Bool) : State :=
  (s.firstEpoch tb).firstActive tb

/-- The revival that a first word ends. -/
def State.firstNum (s : State) (tb : Bool) : Option Nat := if tb then s.hst.reviveB else s.hst.reviveA

/-- The state before what waited for the first word completes. -/
def State.firstSent (s : State) (tb : Bool) : State :=
  let a := s.firstUp tb
  let b := ((a.readback.loadHist tb).firstCause s.hst.swap.isSome).firstOver tb
  let c := b.putWord tb (a.tail 4).readBack
  c.refEvent (c.arb R.REF_SEL_SELECTED) 0 false

theorem State.firstWord_eq (s : State) (tb : Bool) : ∃ num : Option Nat,
    s.firstWord tb = ((s.nextSlot.settleCkpts.firstSent tb).completeOpt num { status := stOk }).selectAfter :=
  ⟨_, rfl⟩

theorem State.firstEpoch_spec (s : State) (tb : Bool) :
    (s.firstEpoch tb).now = s.now ∧ (s.firstEpoch tb).hst.swap = s.hst.swap ∧
      (s.hst.swap.isSome = true → (s.firstEpoch tb).hsRaw (!tb) = hsStandby) := by
  unfold State.firstEpoch
  cases s.hst.swap.isSome with
  | false => exact ⟨rfl, rfl, fun h => by cases h⟩
  | true =>
    refine ⟨?_, ?_, fun _ => State.hsRaw_setHs_self _ _ (by decide)⟩
    · rfl
    · cases tb <;> rfl

theorem State.firstActive_spec (s : State) (tb : Bool) :
    (s.firstActive tb).hsRaw tb = hsActive ∧ (s.firstActive tb).hsRaw (!tb) = s.hsRaw (!tb) ∧
      (s.firstActive tb).arb R.HST_STAT_ACTIVE_TB = b2n tb ∧ (s.firstActive tb).drive tb = true ∧
      (s.firstActive tb).now = s.now ∧ (s.firstActive tb).hst.swap = s.hst.swap := by
  have hmark : ∀ (u : State) (v : Nat) x, (u.arbPut R.HST_STAT_ACTIVE_TB v).hsRaw x = u.hsRaw x := fun u v x => by
    cases x <;> exact u.arb_arbPut_apart v (by decide)
  refine ⟨?_, ?_, ?_, ?_, rfl, ?_⟩
  · exact (hmark _ _ tb).trans (State.hsRaw_setHs_self _ _ (by decide))
  · exact (hmark _ _ (!tb)).trans (State.hsRaw_setHs_not _ _ _)
  · exact (State.arb_arbPut_self _ _ (by decide)).trans (by cases tb <;> rfl)
  · cases tb <;> rfl
  · cases tb <;> rfl

/-- The headstocks' states and the active one, but not what the last one failed for. -/
def stateFlds : List Fld := [R.HST_STAT_TA_STATE, R.HST_STAT_TB_STATE, R.HST_STAT_ACTIVE_TB]

theorem State.firstCause_spec (s : State) (swap : Bool) :
    HstKept stateFlds s (s.firstCause swap) ∧ (swap = true → (s.firstCause swap).arb R.HST_LAST_CAUSE = 6) := by
  have hlast : HstKept stateFlds s ((s.arbPut R.HST_LAST_DURATION 0).arbPut R.HST_LAST_CAUSE 6) :=
    (HstKept.arbPut s R.HST_LAST_DURATION 0 (by decide)).trans (.arbPut _ R.HST_LAST_CAUSE 6 (by decide))
  unfold State.firstCause
  cases swap with
  | true =>
    refine ⟨hlast.trans (.arbPut _ R.HST_STAT_TAKEOVERS _ (by decide)), fun _ => ?_⟩
    exact (State.arb_arbPut_apart _ _ (by decide)).trans (State.arb_arbPut_self _ 6 (by decide))
  | false =>
    have hduration : ∀ v, HstKept stateFlds s (s.arbPut R.HST_LAST_DURATION v) := fun v => .arbPut s _ v (by decide)
    simp only [Bool.false_eq_true, if_false]
    exact ⟨.ite _ (hduration _) (.refl s), fun h => by cases h⟩

theorem State.firstOver_spec (s : State) (tb : Bool) :
    (s.firstOver tb).tails = s.tails ∧ (∀ f ∈ roleFlds, (s.firstOver tb).arb f = s.arb f) ∧
      (s.firstOver tb).drive tb = s.drive tb ∧ (s.firstOver tb).hst.takeover = false ∧ (s.firstOver tb).hst.starting = none := by
  have hback : HstKept roleFlds s (if s.servoState = 6 then s.servoBack else s) := .ite _ (.servoBack s) (.refl s)
  exact ⟨hback.tails, hback.arb, hback.drive tb, rfl, rfl⟩

theorem State.putWord_spec (s : State) (tb : Bool) (f : SpWord → SpWord) :
    (s.putWord tb f).tails = s.tails ∧ (∀ g ∈ roleFlds, (s.putWord tb f).arb g = s.arb g) ∧
      (s.putWord tb f).drive tb = s.drive tb ∧ (s.putWord tb f).hst.takeover = s.hst.takeover ∧
      (s.putWord tb f).hst.starting = s.hst.starting := by
  have hkept := s.putWord_kept tb f
  refine ⟨hkept.tails, hkept.arb, (hkept.drive tb).trans ?_, (congrArg Hst.takeover hkept.hst :).trans ?_,
    (congrArg Hst.starting hkept.hst :).trans ?_⟩ <;> cases tb <;> rfl

theorem State.firstSent_spec (s : State) (tb : Bool) :
    let u := s.firstSent tb
    u.now = s.now ∧ u.hsRaw tb = hsActive ∧ u.arb R.HST_STAT_ACTIVE_TB = b2n tb ∧ u.drive tb = true ∧ u.hst.takeover = false ∧
      u.hst.starting = none ∧ (s.hst.swap.isSome = true → u.hsRaw (!tb) = hsStandby ∧ u.arb R.HST_LAST_CAUSE = 6) := by
  intro u
  obtain ⟨henow, heswap, hestand⟩ := s.firstEpoch_spec tb
  obtain ⟨haraw, hanot, hatb, hadrive, hanow, haswap⟩ := (s.firstEpoch tb).firstActive_spec tb
  obtain ⟨a, ha⟩ : ∃ a, s.firstUp tb = a := ⟨_, rfl⟩
  obtain ⟨b, hb⟩ : ∃ b, a.readback.loadHist tb = b := ⟨_, rfl⟩
  obtain ⟨c, hc⟩ : ∃ c, b.firstCause s.hst.swap.isSome = c := ⟨_, rfl⟩
  obtain ⟨d, hd⟩ : ∃ d, c.firstOver tb = d := ⟨_, rfl⟩
  obtain ⟨e, he⟩ : ∃ e, d.putWord tb (a.tail 4).readBack = e := ⟨_, rfl⟩
  have hu : u = e.refEvent (e.arb R.REF_SEL_SELECTED) 0 false := by
    rw [← he, ← hd, ← hc, ← hb, ← ha]; rfl
  have hab : HstKept roleFlds a b := hb ▸ (HstKept.readback a).trans (.loadHist _ tb)
  obtain ⟨hbc, hcause⟩ := b.firstCause_spec s.hst.swap.isSome
  obtain ⟨hdtails, hdarb, hddrive, hdover, hdstart⟩ := c.firstOver_spec tb
  obtain ⟨hetails, hearb, hedrive, heover, hestart⟩ := d.putWord_spec tb (a.tail 4).readBack
  rw [hc] at hbc hcause
  rw [hd] at hdtails hdarb hddrive hdover hdstart
  rw [he] at hetails hearb hedrive heover hestart
  have heu : HstKept roleFlds e u := hu ▸ HstKept.refEvent e _ 0 false
  change (s.firstUp tb).hsRaw tb = hsActive at haraw
  change (s.firstUp tb).hsRaw (!tb) = _ at hanot
  change (s.firstUp tb).arb _ = _ at hatb
  change (s.firstUp tb).drive tb = true at hadrive
  change (s.firstUp tb).now = _ at hanow
  rw [ha] at haraw hanot hatb hadrive hanow
  have hstate : ∀ f ∈ stateFlds, u.arb f = a.arb f := fun f hf =>
    have hr : f ∈ roleFlds := by revert hf; unfold stateFlds roleFlds; simp only [List.mem_cons]; tauto
    (heu.arb f hr).trans ((hearb f hr).trans ((hdarb f hr).trans ((hbc.arb f hf).trans (hab.arb f hr))))
  have hraw : ∀ x, u.hsRaw x = a.hsRaw x := fun x => by
    cases x
    · exact hstate _ (by simp [stateFlds])
    · exact hstate _ (by simp [stateFlds])
  have hnow : u.now = c.now := congrArg Tailstock.m (State.tail_congr (heu.tails.trans (hetails.trans hdtails)) 5)
  refine ⟨?_, (hraw tb).trans haraw, (hstate _ (by simp [stateFlds])).trans hatb, ?_, ?_, ?_, fun hswap => ⟨?_, ?_⟩⟩
  · rw [hnow, hbc.now, hab.now, hanow, henow]
  · rw [heu.drive, hedrive, hddrive, hbc.drive, hab.drive, hadrive]
  · exact (congrArg Hst.takeover heu.hst :).trans (heover.trans hdover)
  · exact (congrArg Hst.starting heu.hst :).trans (hestart.trans hdstart)
  · rw [hraw, hanot, hestand hswap]
  · rw [heu.arb _ (by simp [roleFlds]), hearb _ (by simp [roleFlds]), hdarb _ (by simp [roleFlds]), hcause hswap]

/-- A first word leaves on a slot, and with it the headstock has its part. -/
theorem State.firstWord_spec (s : State) (tb : Bool) : ∃ (u : State) (num : Option Nat),
    s.firstWord tb = (u.completeOpt num { status := stOk }).selectAfter ∧ u.hs tb = hsActive ∧
      u.arb R.HST_STAT_ACTIVE_TB = b2n tb ∧ u.drive tb = true ∧ u.hst.takeover = false ∧ u.hst.starting = none ∧
      u.now % 400 = 0 ∧ s.now ≤ u.now ∧ (s.hst.swap ≠ none → u.hs (!tb) = hsStandby ∧ u.arb R.HST_LAST_CAUSE = 6) := by
  obtain ⟨num, hnum⟩ := s.firstWord_eq tb
  obtain ⟨hslot, hlater⟩ := s.nextSlot_slot
  have hkept := HstKept.settleCkpts s.nextSlot
  have hswap : s.nextSlot.hst.swap = s.hst.swap := congrArg Hst.swap (congrArg State.hst s.nextSlot_rest :)
  obtain ⟨hnow, hraw, htb, hdrive, hover, hstart, hend⟩ := s.nextSlot.settleCkpts.firstSent_spec tb
  rw [hkept.swap, hswap] at hend
  rw [hkept.now] at hnow
  refine ⟨_, num, hnum, State.hs_of_hsRaw hraw (by decide), htb, hdrive, hover, hstart, by rw [hnow]; exact hslot,
    by rw [hnow]; exact hlater, fun h => ?_⟩
  obtain ⟨hstand, hcause⟩ := hend (Option.isSome_iff_ne_none.2 h)
  exact ⟨State.hs_of_hsRaw hstand (by decide), hcause⟩

/-- Settles O34: each word leaves on the next slot, and its fields are those of the state that sends it. -/
theorem spindleWordsAreSent : Obligations.SpindleWordsAreSent := by
  unfold Obligations.SpindleWordsAreSent
  intro s
  refine ⟨fun h => ?_, fun tb h hstart hdrive => ?_, fun tb h hstart hdrive => exec_spindleWord_sends h hstart hdrive,
    fun tb h hstart => ?_, fun h => ?_, fun tb h hvalid => ?_, fun tb h hvalid => ?_⟩
  · show execSpindleWord s = _
    unfold execSpindleWord
    rw [h]
  · show execSpindleWord s = _
    unfold execSpindleWord
    rw [h]
    dsimp only
    rw [if_neg hstart, if_pos (by simp [hdrive])]
  · obtain ⟨u, num, hu, hhs, -, hdrive, -, hnone, hslot, hlater, -⟩ := (s.advanceTo (s.hst.startAt + 5763)).firstWord_spec tb
    refine ⟨u, num, ?_, hhs, hdrive, hnone, hslot, ?_⟩
    · show execSpindleWord s = _
      unfold execSpindleWord
      rw [h]
      dsimp only
      rw [if_pos hstart, hu]
    · rw [State.now_advanceTo] at hlater
      omega
  · show execWarmingFirstWord s = _
    unfold execWarmingFirstWord
    rw [h]
  · show execWarmingFirstWord s = _
    unfold execWarmingFirstWord
    rw [h]
    dsimp only
    rw [if_neg (by simp [hvalid])]
  · obtain ⟨u, num, hu, hhs, htb, hdrive, hover, -, hslot, hlater, hswap⟩ := (s.advanceTo (s.hst.warmAt + 6700)).firstWord_spec tb
    rw [State.now_advanceTo] at hlater
    refine ⟨u, num, ?_, hhs, htb, hdrive, hover, hslot, by omega, by omega, hswap⟩
    show execWarmingFirstWord s = _
    unfold execWarmingFirstWord
    rw [h]
    dsimp only
    rw [if_pos hvalid, readyTicks, hu]

end Sys2Proof.Machine
end

section
/-! PROOFS. What a tailstock makes of a spindle word, and of none (R29, R30, R180, R184). -/

namespace Sys2Proof.Machine

theorem tailLoc_lt_arb {t : Nat} (h : t < 6) : tailLoc t ≠ locArb := by
  unfold tailLoc hubLoc mkLoc locArb
  split <;> omega

theorem State.activeHs_of_reg {s t : State} (hreg : t.reg locArb 0x704 = s.reg locArb 0x704) (htails : t.tails = s.tails)
    (hwarm : t.hst.warmAt = s.hst.warmAt) : t.activeHs = s.activeHs := by
  have hnow : t.now = s.now := congrArg Tailstock.m (State.tail_congr htails 5)
  unfold State.activeHs State.hsIn State.hs
  rw [State.hsRaw_of_reg hreg, State.hsRaw_of_reg hreg, hnow, hwarm]

/-! ### Words that fail their CRC (R180, R184) -/

theorem State.activeHs_badWord {s : State} {t : Nat} (h : t < 6) :
    (s.bump (tailLoc t) R.SPN_CNT_BAD_WORD).activeHs = s.activeHs :=
  State.activeHs_of_reg (s.reg_put_loc _ (tailLoc_lt_arb h).symm (by decide) (by decide)) rfl rfl

/-- The tailstock counts the word, and the arbiter which tailstocks have rejected it. -/
def State.crcNoted (s : State) (t : Nat) : State :=
  let s := s.bump (tailLoc t) R.SPN_CNT_BAD_WORD
  s.setHst { s.hst with crcSeen := s.hst.crcSeen + 2 ^ t, crcRun := s.hst.crcRun + b2n (s.hst.crcSeen + 2 ^ t == 63) }

/-- Whether the word was the fourth in a row that every tailstock rejects. -/
def State.crcLast (s : State) (t : Nat) : Bool := decide (s.hst.crcSeen + 2 ^ t = 63 ∧ 3 ≤ s.hst.crcRun)

/-- The state in which the headstock of the fourth such word is declared failed. -/
def State.crcCounted (s : State) (t : Nat) : State :=
  if s.crcLast t then (s.crcNoted t).setHst { (s.crcNoted t).hst with crcRun := 0 } else s.crcNoted t

theorem State.crcReject_away {s : State} {t : Nat} {tb : Bool} (ht : t < 6)
    (h : s.activeHs ≠ some tb ∨ bit s.hst.crcSeen t = true) : s.crcReject t tb = s.bump (tailLoc t) R.SPN_CNT_BAD_WORD := by
  unfold State.crcReject
  dsimp only
  rw [State.activeHs_badWord ht]
  exact if_pos h

theorem State.crcReject_counts {s : State} {t : Nat} {tb : Bool} (ht : t < 6) (hactive : s.activeHs = some tb)
    (hseen : bit s.hst.crcSeen t = false) :
    s.crcReject t tb = if s.hst.crcSeen + 2 ^ t = 63 ∧ 3 ≤ s.hst.crcRun then (s.crcCounted t).declareFailed tb 4
      else s.crcCounted t := by
  have hnoted : s.crcReject t tb = if (s.crcNoted t).hst.crcSeen = 63 ∧ 4 ≤ (s.crcNoted t).hst.crcRun
      then ((s.crcNoted t).setHst { (s.crcNoted t).hst with crcRun := 0 }).declareFailed tb 4 else s.crcNoted t := by
    unfold State.crcReject
    dsimp only
    rw [State.activeHs_badWord ht]
    refine if_neg ?_
    rintro (h | h)
    · exact h hactive
    · rw [show bit s.hst.crcSeen t = true from h] at hseen
      cases hseen
  have hrun : ((s.crcNoted t).hst.crcSeen = 63 ∧ 4 ≤ (s.crcNoted t).hst.crcRun) ↔
      (s.hst.crcSeen + 2 ^ t = 63 ∧ 3 ≤ s.hst.crcRun) := by
    change (s.hst.crcSeen + 2 ^ t = 63 ∧ 4 ≤ s.hst.crcRun + b2n (s.hst.crcSeen + 2 ^ t == 63)) ↔ _
    refine and_congr_right fun h => ?_
    rw [h]
    show 4 ≤ s.hst.crcRun + 1 ↔ _
    omega
  rw [hnoted]
  by_cases h : s.hst.crcSeen + 2 ^ t = 63 ∧ 3 ≤ s.hst.crcRun
  · rw [if_pos (hrun.2 h), if_pos h, State.crcCounted, State.crcLast, if_pos (decide_eq_true h)]
  · rw [if_neg (fun hn => h (hrun.1 hn)), if_neg h, State.crcCounted, State.crcLast,
      if_neg (by rw [decide_eq_true_eq]; exact h)]

theorem State.crcCounted_spec (s : State) (t : Nat) :
    (s.crcCounted t).fld (tailLoc t) R.SPN_CNT_BAD_WORD =
      satNat (s.fld (tailLoc t) R.SPN_CNT_BAD_WORD + 1) R.SPN_CNT_BAD_WORD.len ∧
    { s.crcCounted t with regs := s.regs, hst := s.hst } = s := by
  have hregs : (s.crcCounted t).regs = (s.bump (tailLoc t) R.SPN_CNT_BAD_WORD).regs := by
    unfold State.crcCounted
    split <;> rfl
  have hrest : { s.crcCounted t with regs := s.regs, hst := s.hst } = s := by
    unfold State.crcCounted
    split <;> rfl
  refine ⟨?_, hrest⟩
  rw [State.fld_congr hregs (congrArg State.part hrest :)]
  unfold State.bump State.bumpBy
  rw [State.fld_put_self _ _ _ (by decide)]
  exact Nat.mod_eq_of_lt (satNat_lt _ _)

/-! ### Words that a tailstock obeys (R29, R30) -/

theorem Tailstock.obey_kept (x : Tailstock) (w : SpWord) (slot : Nat) :
    (x.obey w slot).n = x.n ∧ (x.obey w slot).m = x.m ∧ (x.obey w slot).hold = w.hold ∧ (x.obey w slot).heardAt = x.m := by
  unfold Tailstock.obey
  split
  · next h => exact ⟨rfl, rfl, h.symm, rfl⟩
  · next h => exact ⟨rfl, rfl, by simpa using (Bool.eq_false_iff.2 h).symm, rfl⟩

theorem State.touch_unarmed {s : State} (h : s.faults.armed = []) (kind : Nat) (here : Nat → Bool) (off detail : Nat) :
    s.touch kind here off detail = s := by
  unfold State.touch State.checked
  rw [h]
  rfl

theorem State.touches_unarmed {s : State} (h : s.faults.armed = []) (l : List Nat) :
    l.foldl (fun s k => s.touch 0x28 (· == hubLoc (8 + k)) 0 k) s = s := by
  induction l with
  | nil => rfl
  | cons k l ih => rw [List.foldl_cons, State.touch_unarmed h, ih]

theorem State.slewObeyed_faults (s : State) : s.slewObeyed.faults = s.faults := by
  have h : ∀ (v : State) (l : List (Nat × Nat)), Reports v (l.foldl (fun s x => s.complete x.1
      { status := stOk, result := satNat (ceilDiv (s.servo.slewEnd - s.now) 625000) 16 }) v) := fun v l =>
    .foldl (fun s x => .complete s x.1 _) l v
  exact (congrArg State.faults (h _ _).rest :)

/-- The row of a word that its tailstock takes up. -/
theorem exec_spindleWordReceive_obeys {s : State} {t sent flips : Nat} {tb : Bool} (ht : t < 6)
    (hlane : (if tb then s.hst.laneB else s.hst.laneA) = some sent)
    (hcrc : wordCrcOk (Nat.xor sent (flips % 2 ^ 320)) = true)
    (hepoch : (spWord (Nat.xor sent (flips % 2 ^ 320))).epoch = (s.tail t).epoch)
    (htick : (spWord (Nat.xor sent (flips % 2 ^ 320))).tick =
      toBits (((s.tail t).n : Int) - (((s.tail t).m : Int) - s.hst.wordAt)) 48)
    (harmed : t = 4 → s.faults.armed = []) :
    exec (.spindleWordReceive t tb flips) s =
      .next (s.setTail t ((s.tail t).obey (spWord (Nat.xor sent (flips % 2 ^ 320))) s.hst.wordAt)).slewObeyed := by
  show execSpindleWordReceive t tb flips s = _
  unfold execSpindleWordReceive
  rw [hlane]
  dsimp only
  generalize Nat.xor sent (flips % 2 ^ 320) = b at *
  rw [if_neg (by omega), if_neg (by simp [hcrc]), if_neg (by simp [hepoch]), if_neg (by simp [htick])]
  split
  · next h =>
    rw [State.touches_unarmed]
    rw [State.slewObeyed_faults]
    exact harmed h
  · rfl

/-- Settles O35: a word is rejected for one of its three faults in their order, or taken up whole. -/
theorem tailstocksObeyTheWords : Obligations.TailstocksObeyTheWords := by
  unfold Obligations.TailstocksObeyTheWords
  intro s t tb ht x lane
  refine ⟨fun hlane flips => ?_, fun sent flips hlane => ?_, ?_⟩
  · show execSpindleWordReceive t tb flips s = _
    unfold execSpindleWordReceive
    rw [show (if tb then s.hst.laneB else s.hst.laneA) = none from hlane]
  · intro b w own
    refine ⟨fun hcrc => ?_, fun hcrc => ⟨fun hepoch => ?_, fun hepoch htick => ?_, fun hepoch htick harmed => ?_⟩⟩
    · have hexec : exec (.spindleWordReceive t tb flips) s = .next (s.crcReject t tb) := by
        show execSpindleWordReceive t tb flips s = _
        unfold execSpindleWordReceive
        rw [show (if tb then s.hst.laneB else s.hst.laneA) = some sent from hlane]
        dsimp only
        rw [if_neg (by omega), if_pos (by rw [hcrc]; rfl)]
      refine ⟨fun h => ?_, fun hactive hseen => ⟨s.crcCounted t, ?_, s.crcCounted_spec t⟩⟩
      · rw [hexec, State.crcReject_away ht h]
      · rw [hexec, State.crcReject_counts ht hactive hseen]
    · show execSpindleWordReceive t tb flips s = _
      unfold execSpindleWordReceive
      rw [show (if tb then s.hst.laneB else s.hst.laneA) = some sent from hlane]
      dsimp only
      rw [if_neg (by omega), if_neg (by rw [hcrc]; decide), if_pos hepoch]
    · show execSpindleWordReceive t tb flips s = _
      unfold execSpindleWordReceive
      rw [show (if tb then s.hst.laneB else s.hst.laneA) = some sent from hlane]
      dsimp only
      rw [if_neg (by omega), if_neg (by rw [hcrc]; decide), if_neg (fun h => h hepoch), if_pos htick]
    · obtain ⟨hn, hm, hhold, hheard⟩ := x.obey_kept w s.hst.wordAt
      refine ⟨_, exec_spindleWordReceive_obeys ht hlane hcrc hepoch htick harmed, ?_⟩
      rw [State.tail_setTail_self]
      refine ⟨hn, hm, hhold, hheard, fun h => ?_, fun h => ?_, fun j hj => State.tail_setTail_ne _ _ hj, rfl⟩
      · change (x.obey w s.hst.wordAt).fcw = _ ∧ (x.obey w s.hst.wordAt).step = _
        rw [Tailstock.obey, if_pos h]
        exact ⟨rfl, rfl⟩
      · change (x.obey w s.hst.wordAt).fcw = _ ∧ (x.obey w s.hst.wordAt).slewLeft = _ ∧ (x.obey w s.hst.wordAt).slewRate = _ ∧
          (x.obey w s.hst.wordAt).wordTick = _ ∧ (x.obey w s.hst.wordAt).traceable = _ ∧ (x.obey w s.hst.wordAt).step = _
        rw [Tailstock.obey, if_neg (by rw [h]; decide)]
        exact ⟨rfl, rfl, rfl, rfl, rfl, rfl⟩
  · have hnow : (s.advanceTo (x.heardAt + 409600)).now = max s.now (x.heardAt + 409600) := s.now_advanceTo _
    have hheard : ((s.advanceTo (x.heardAt + 409600)).tail t).heardAt = x.heardAt := by
      rw [State.advanceTo, State.tail_advance _ _ ht]
    refine ⟨s.advanceTo (x.heardAt + 409600), ((s.advanceTo (x.heardAt + 409600)).now -
      ((s.advanceTo (x.heardAt + 409600)).tail t).heardAt) / 400, ?_, by omega, fun h => ?_, rfl⟩
    · exact if_neg (by omega)
    · rw [hnow, hheard, Nat.max_eq_right h]
      omega

end Sys2Proof.Machine
end

section
/-! PROOFS. Committed steps and slews: the commit, the apply tick on all tailstocks or on one, the end of a slew (R94 to R98,
R163, R184). -/

namespace Sys2Proof.Machine

/-! ### What a step leaves once it is taken -/

/-- The registers that hold no part of REF_STEP_LAST. -/
def notStepKey (k : Nat) : Prop := reportKey k ∨ (k % 16777216 ≠ 0x5A8 ∧ k % 16777216 ≠ 0x5AC)

theorem notStepKey_of_off {loc off : Nat} (h : off < 16777216) (hlo : off ≠ 0x5A8) (hhi : off ≠ 0x5AC) :
    notStepKey (regKey loc off) := by
  have hkey : regKey loc off % 16777216 = off := by
    unfold regKey
    omega
  exact .inr ⟨by rwa [hkey], by rwa [hkey]⟩

/-- The committed step, the instructions that wait for it, and REF_STEP_LAST stay. -/
structure StepKept (s t : State) : Prop where
  step : t.servo.step = s.servo.step
  applying : t.servo.applying = s.servo.applying
  regs : RegsOnly notStepKey s t

section
variable {s t u : State}

theorem StepKept.refl (s : State) : StepKept s s := ⟨rfl, rfl, .refl s⟩

theorem StepKept.trans (h : StepKept s t) (k : StepKept t u) : StepKept s u :=
  ⟨k.step.trans h.step, k.applying.trans h.applying, h.regs.trans k.regs⟩

theorem StepKept.ite (p : Prop) [Decidable p] (h : StepKept s t) (k : StepKept s u) : StepKept s (if p then t else u) := by
  split
  · exact h
  · exact k

theorem StepKept.foldl {α : Type} {g : State → α → State} (h : ∀ s x, StepKept s (g s x)) (l : List α) (s : State) :
    StepKept s (l.foldl g s) := by
  induction l generalizing s with
  | nil => exact .refl s
  | cons x l ih => exact (h s x).trans (ih _)

end

theorem StepKept.put (s : State) (loc : Nat) (f : Fld) (v : Nat) (h : f.off < 16777216 ∧ f.off ≠ 0x5A8 ∧ f.off ≠ 0x5AC) :
    StepKept s (s.put loc f v) := ⟨rfl, rfl, .put s v (notStepKey_of_off h.1 h.2.1 h.2.2)⟩

theorem StepKept.setTrig (s : State) (n : Nat) (x : Trig) : StepKept s (s.setTrig n x) := ⟨rfl, rfl, .of_eq rfl rfl⟩

theorem StepKept.trgIdle (s : State) (n cause : Nat) : StepKept s (s.trgIdle n cause) :=
  ((StepKept.setTrig s n {}).trans (.put _ _ R.TRG_STAT_STATE 0 (by decide))).trans (.put _ _ R.TRG_STAT_CAUSE _ (by decide))

theorem StepKept.trgSkipTo (s : State) (n k : Nat) : StepKept s (s.trgSkipTo n k) := by
  have hlast : ∀ (t : State) (o : Option Nat), StepKept t (match o with
      | some c => if k = c then t.trgIdle n 0 else t.setTrig n { s.trig n with k := k, b := 0 }
      | none => t.setTrig n { s.trig n with k := k, b := 0 }) := by
    intro t o
    cases o with
    | none => exact .setTrig _ _ _
    | some c => exact .ite _ (.trgIdle _ _ _) (.setTrig _ _ _)
  unfold State.trgSkipTo
  exact .ite _ (.refl s) ((StepKept.put s _ R.TRG_STAT_SKIPPED _ (by decide)).trans (.ite _ (.trgIdle _ _ _) (hlast _ _)))

theorem StepKept.trgRestart (s : State) (n k : Nat) : StepKept s (s.trgRestart n k) := by
  unfold State.trgRestart
  exact .ite _ (.trgSkipTo s n k) (.setTrig _ _ _)

theorem StepKept.trgFollow (s : State) (n u : Nat) : StepKept s (s.trgFollow n u) := by
  unfold State.trgFollow
  dsimp only
  refine .ite _ (.trgSkipTo _ _ _) ?_
  split
  · exact .setTrig _ _ _
  · exact .ite _ (.trgIdle _ _ _) ((StepKept.setTrig _ _ _).trans (.trgSkipTo _ _ _))

theorem StepKept.outSkipTo (s : State) (k o u : Nat) : StepKept s (s.outSkipTo k o u) :=
  (StepKept.put s _ R.OUT_STAT_MUTES _ (by decide)).trans ⟨rfl, rfl, .of_eq rfl rfl⟩

theorem StepKept.pulseRestart (s : State) (u : Nat) (lim : Option Nat) : StepKept s (s.pulseRestart u lim) := by
  unfold State.pulseRestart
  refine StepKept.trans (.foldl (fun s x => ?_) _ s) (.foldl (fun s x => ?_) _ _)
  · exact .ite _ (.outSkipTo _ _ _ _) (.refl s)
  · exact .ite _ (.trgRestart _ _ _) (.refl s)

theorem StepKept.setPend (s : State) (p : Int) : StepKept s (s.setPend p) :=
  (StepKept.put s _ R.REF_PEND_LO_PEND _ (by decide)).trans (.put _ _ R.REF_PEND_HI_PEND _ (by decide))

theorem StepKept.pendStep (s : State) (size : Int) : StepKept s (s.pendStep size) := by
  unfold State.pendStep
  exact .ite _ ((StepKept.setPend _ _).trans (.pulseRestart _ _ _)) (.setPend _ _)

theorem StepKept.lateParked (s : State) (size : Int) : StepKept s (s.lateParked size) := by
  unfold State.lateParked
  exact .ite _ (.refl s) ⟨rfl, rfl, .of_eq rfl rfl⟩

theorem StepKept.shiftOffs (s : State) (size : Int) : StepKept s (s.shiftOffs size) := ⟨rfl, rfl, .of_eq rfl rfl⟩

theorem StepKept.stepTrigs (s : State) (size : Int) : StepKept s (s.stepTrigs size) := by
  unfold State.stepTrigs
  exact .foldl (fun s n => .ite _ (.refl s) (.ite _ (.trgIdle _ _ _) (.ite _ (.trgFollow _ _ _) (.refl s)))) _ s

theorem StepKept.setGates (s : State) (d p : Nat) : StepKept s (s.setGates d p) := by
  unfold State.setGates
  dsimp only
  split
  · exact .put s _ R.QUE_GATES_OPEN _ (by decide)
  · exact StepKept.trans (t := s.setPort d p _) ⟨rfl, rfl, .of_eq rfl rfl⟩ (.put _ _ R.QUE_GATES_OPEN _ (by decide))

theorem StepKept.gatesSync (s : State) : StepKept s s.gatesSync := by
  unfold State.gatesSync
  exact .foldl (fun s k => .setGates s _ _) _ s

theorem StepKept.adoptEpoch (s : State) : StepKept s s.adoptEpoch := by
  unfold State.adoptEpoch
  split
  · exact .refl s
  · exact (StepKept.put s _ R.RLK_SYS_SYS_EPOCH _ (by decide)).trans ⟨rfl, rfl, .of_eq rfl rfl⟩

theorem StepKept.event' (s : State) (kind result time : Nat) : StepKept s (s.event' kind result time) := by
  obtain ⟨-, -, -, -, -, hservo, -⟩ := (Reports.event s kind result time none).fields
  exact ⟨congrArg Servo.step hservo, congrArg Servo.applying hservo, (RegsOnly.event s kind result time none).mono fun _ h => .inl h⟩

/-! ### The step of the timescale (R94 to R99, R166) -/

/-- The committed step that a step on the lanes is. -/
def State.stepOf (s : State) (x : StepC) : StepC := (s.servo.step.filter (fun c => c.wire == x)).getD x

/-- The tailstocks have applied a step, and the arbiter has recorded it. -/
def State.stepTaken (s : State) (x : StepC) : State :=
  let size := x.size (s.nowU 6)
  let y := s.stepOf x
  let s := if 2 ^ 63 < size.natAbs then s.abortParked else s
  let s := s.applyTails
  let s := if x.set ∧ y.num.isSome then s.arbPut R.REF_SEL_TS_TRACED 0 else s
  let result := if x.set then 0 else ns16 size
  let s := s.setServo { s.servo with
    step := none, lockAt := if y.slot.isSome then s.now else s.servo.lockAt,
    applying := s.servo.applying.map (fun w => if some w.num = y.num then { w with result := some result } else w) }
  s.putPair locArb R.REF_STEP_LAST_LO_STEP R.REF_STEP_LAST_HI_STEP (satBits size 64)

/-- What else a step does, up to its event. -/
def State.stepFollowed (s : State) (size : Int) (u : Nat) (slot : Bool) : State :=
  let s := ((s.pendStep size).lateParked size).shiftOffs size
  let s := (s.stepTrigs size).gatesSync
  let s := if s.selRelka then (if slot then s.adoptEpoch else s)
    else s.arbPut R.RLK_SYS_SYS_EPOCH (s.arb R.RLK_SYS_SYS_EPOCH + 1)
  s.event' 4 (ns16 size) (tx64 u)

theorem StepKept.stepFollowed (s : State) (size : Int) (u : Nat) (slot : Bool) : StepKept s (s.stepFollowed size u slot) := by
  unfold State.stepFollowed
  refine StepKept.trans ?_ (.event' _ _ _ _)
  refine StepKept.trans (((((StepKept.pendStep s size).trans (.lateParked _ size)).trans (.shiftOffs _ size)).trans
    (.stepTrigs _ size)).trans (.gatesSync _)) ?_
  exact .ite _ (.ite _ (.adoptEpoch _) (.refl _)) (.put _ _ R.RLK_SYS_SYS_EPOCH _ (by decide))

theorem State.packageStep_eq (s : State) (x : StepC) : s.packageStep x =
    ((s.stepTaken x).stepFollowed (x.size (s.nowU 6)) (s.nowU 6) (s.stepOf x).slot.isSome).stepsDone.nextStep := rfl

theorem State.stepTaken_tails (s : State) (x : StepC) : (s.stepTaken x).tails = s.applyTails.tails := by
  have happly : ∀ size : Int,
      (if 2 ^ 63 < size.natAbs then s.abortParked else s).applyTails.tails = s.applyTails.tails := by
    intro size
    apply State.applyTails_tails_congr
    split <;> simp
  rw [← happly (x.size (s.nowU 6))]
  simp [State.stepTaken, apply_ite State.tails]

theorem State.stepFollowed_tails (s : State) (size : Int) (u : Nat) (slot : Bool) : (s.stepFollowed size u slot).tails = s.tails := by
  simp [State.stepFollowed, apply_ite State.tails]

/-- An action that is given up leaves the servo. -/
theorem State.abortParked_servo (s : State) : s.abortParked.servo = s.servo := by
  have hone : ∀ (u : State) (f : Flight), (u.abortFlight f).servo = u.servo := by
    intro u f
    unfold State.abortFlight
    exact (congrArg State.servo (Reports.complete _ _ _).rest :)
  unfold State.abortParked
  generalize List.filter _ _ = l
  induction l generalizing s with
  | nil => rfl
  | cons f l ih => exact (ih _).trans (hone s f)

/-- What `applyTails` leaves of a wait: the tailstocks that have not applied its step. -/
def State.waitLeft (s : State) (w : StepWait) : StepWait :=
  { w with left := w.left.filter (fun t => !(s.stepHere.contains t && (s.tail t).step.any (fun x => x.tick == w.tick))) }

theorem State.applyTails_servo (s : State) :
    s.applyTails.servo = { s.servo with applying := s.servo.applying.map s.waitLeft } := rfl

theorem State.waitLeft_congr {s t : State} (h : t.tails = s.tails) : t.waitLeft = s.waitLeft := by
  have htail : t.tail = s.tail := funext (State.tail_congr h)
  have hhere : t.stepHere = s.stepHere := by simp only [State.stepHere, htail]
  funext w
  simp only [State.waitLeft, htail, hhere]

/-- The result that a wait gets with the step of its instruction. -/
def StepWait.took (num : Option Nat) (result : Nat) (w : StepWait) : StepWait :=
  if some w.num = num then { w with result := some result } else w

theorem State.stepTaken_spec (s : State) (x : StepC) :
    (s.stepTaken x).servo.step = none ∧
    (s.stepTaken x).pair locArb R.REF_STEP_LAST_LO_STEP R.REF_STEP_LAST_HI_STEP = satBits (x.size (s.nowU 6)) 64 ∧
    (s.stepTaken x).servo.applying = (s.servo.applying.map s.waitLeft).map
      (StepWait.took (s.stepOf x).num (if x.set then 0 else ns16 (x.size (s.nowU 6)))) := by
  have hpair : ∀ (u : State) (v : Nat), v < 2 ^ 64 →
      (u.putPair locArb R.REF_STEP_LAST_LO_STEP R.REF_STEP_LAST_HI_STEP v).pair locArb R.REF_STEP_LAST_LO_STEP
        R.REF_STEP_LAST_HI_STEP = v := by
    intro u v hv
    unfold State.putPair State.pair
    rw [State.fld_put_apart _ _ _ (by decide), State.fld_put_self _ _ _ (by decide), State.fld_put_self _ _ _ (by decide),
      show R.REF_STEP_LAST_LO_STEP.len = 32 from rfl, show R.REF_STEP_LAST_HI_STEP.len = 32 from rfl]
    omega
  obtain ⟨a, ha⟩ : ∃ a, (if 2 ^ 63 < (x.size (s.nowU 6)).natAbs then s.abortParked else s) = a := ⟨_, rfl⟩
  have haservo : a.servo = s.servo := by
    rw [← ha]
    split
    · exact s.abortParked_servo
    · rfl
  have hatails : a.tails = s.tails := by
    rw [← ha]
    split <;> simp
  obtain ⟨b, hb⟩ : ∃ b, (if x.set ∧ (s.stepOf x).num.isSome then a.applyTails.arbPut R.REF_SEL_TS_TRACED 0 else a.applyTails) = b := ⟨_, rfl⟩
  have hbservo : b.servo = { s.servo with applying := s.servo.applying.map s.waitLeft } := by
    have htook : a.applyTails.servo = { s.servo with applying := s.servo.applying.map s.waitLeft } := by
      rw [a.applyTails_servo, haservo, State.waitLeft_congr hatails]
    rw [← hb]
    split
    · exact htook
    · exact htook
  have htaken : s.stepTaken x = (b.setServo { b.servo with
      step := none, lockAt := if (s.stepOf x).slot.isSome then b.now else b.servo.lockAt,
      applying := b.servo.applying.map (StepWait.took (s.stepOf x).num (if x.set then 0 else ns16 (x.size (s.nowU 6)))) }).putPair
        locArb R.REF_STEP_LAST_LO_STEP R.REF_STEP_LAST_HI_STEP (satBits (x.size (s.nowU 6)) 64) := by
    rw [← hb, ← ha]
    rfl
  rw [htaken]
  refine ⟨rfl, hpair _ _ ?_, ?_⟩
  · unfold satBits toBits
    split
    · omega
    · split <;> omega
  · change b.servo.applying.map _ = _
    rw [hbservo]

theorem State.applyTails_tail (s : State) {i : Nat} (h : i < 6) {y : StepC} (hy : (s.tail i).step = some y) (hn : y.tick ≤ (s.tail i).n) :
    s.applyTails.tail i = (s.tail i).apply y := by
  have hreached : s.stepHere.contains i = true := by
    rw [s.stepHere_contains h, Tailstock.stepReached, hy]
    exact decide_eq_true hn
  unfold State.applyTails
  dsimp only
  rw [State.tail, State.setServo_tails, Tab.get_map_of_mem _ _ (List.mem_range.2 h), hy, hreached]
  rfl

/-- A tailstock counts on through another's step. -/
theorem State.applyTails_m (s : State) {i : Nat} (h : i < 6) : (s.applyTails.tail i).m = (s.tail i).m := by
  unfold State.applyTails
  dsimp only
  rw [State.tail, State.setServo_tails, Tab.get_map_of_mem _ _ (List.mem_range.2 h)]
  split
  · exact (apply_ite Tailstock.m _ _ _).trans (ite_self _)
  · rfl

theorem State.applyTails_none (s : State) {i : Nat} (h : i < 6) (hy : (s.tail i).step = none) : s.applyTails.tail i = s.tail i := by
  unfold State.applyTails
  dsimp only
  rw [State.tail, State.setServo_tails, Tab.get_map_of_mem _ _ (List.mem_range.2 h), hy]

theorem Tailstock.fu_counted (x : Tailstock) (k m : Nat) :
    Tailstock.fu { x with n := x.n + k, m := m } = x.fu + k * fuTick := by
  unfold Tailstock.fu
  dsimp only
  ring

theorem Tailstock.fu_apply (x : Tailstock) (y : StepC) :
    (x.apply y).fu = if y.set then 5 * (y.secs * uSec + y.sub) else (((x.fu : Int) + 5 * y.offset) % (2 ^ 48 * fuSec : Nat)).toNat := by
  unfold Tailstock.apply
  dsimp only
  generalize (if y.set then 5 * (y.secs * uSec + y.sub) else (((x.fu : Int) + 5 * y.offset) % (2 ^ 48 * fuSec : Nat)).toNat) = v
  exact Nat.div_add_mod' v fuTick

/-- Where all six tailstocks hold a step at one count, it is due for all of them. -/
theorem State.stepDue_all {s : State} {x : StepC} (h : ∀ i, i < 6 → (s.tail i).step = some x ∧ (s.tail i).n = (s.tail 5).n) :
    s.stepDue = some (x.tick - (s.tail 5).n) := by
  have hmap : ∀ i ∈ List.range 6, (s.tail i).step.map (fun y => y.tick - (s.tail i).n) = some (x.tick - (s.tail 5).n) := by
    intro i hi
    obtain ⟨hstep, hn⟩ := h i (List.mem_range.1 hi)
    rw [hstep, hn]
    rfl
  unfold State.stepDue
  rw [List.filterMap_congr hmap]
  simp [List.range_succ, List.min?_cons]

/-! ### The statement -/

/-- The apply tick of a step that all six tailstocks hold. -/
theorem exec_stepApply_all {s : State} {x : StepC} (h : ∀ i, i < 6 → (s.tail i).step = some x ∧ (s.tail i).n = (s.tail 5).n) :
    ∃ u : State, exec .stepApply s = .next u.stepsDone.nextStep ∧ u.servo.step = none ∧
      (x.set = false → u.pair locArb R.REF_STEP_LAST_LO_STEP R.REF_STEP_LAST_HI_STEP = satBits x.offset 64) ∧
      (∀ y n, s.servo.step = some y → y.wire = x → y.num = some n →
        { num := n, tick := x.tick, left := List.range 6, result := none } ∈ s.servo.applying →
        { num := n, tick := x.tick, left := [], result := some (if x.set then 0 else ns16 x.offset) } ∈ u.servo.applying) ∧
      ∀ i, i < 6 → (u.tail i).step = none ∧ (u.tail i).stepGen = ((s.tail i).stepGen + 1) % 16 ∧
        (u.tail i).m = (s.tail i).m + (x.tick - (s.tail 5).n) ∧
        (u.tail i).fu = (if x.set then 5 * (x.secs * uSec + x.sub)
          else ((((s.tail i).fu + (x.tick - (s.tail 5).n) * fuTick : Nat) + 5 * x.offset) %
            (2 ^ 48 * fuSec : Nat)).toNat) := by
  obtain ⟨a, ha⟩ : ∃ a, s.advance (x.tick - (s.tail 5).n) = a := ⟨_, rfl⟩
  have htail : ∀ i, i < 6 → a.tail i = { s.tail i with
      n := (s.tail i).n + (x.tick - (s.tail 5).n), m := (s.tail i).m + (x.tick - (s.tail 5).n) } := fun i hi => by
    rw [← ha, State.tail_advance _ _ hi]
  have hstep : ∀ i, i < 6 → (a.tail i).step = some x := fun i hi => by rw [htail i hi]; exact (h i hi).1
  have hreached : ∀ i, i < 6 → x.tick ≤ (a.tail i).n := fun i hi => by
    rw [htail i hi]
    have := (h i hi).2
    dsimp only
    omega
  have hhere : ∀ i, i < 6 → a.stepHere.contains i = true := fun i hi => by
    rw [a.stepHere_contains hi, Tailstock.stepReached, hstep i hi]
    exact decide_eq_true (hreached i hi)
  have haservo : a.servo = s.servo := by rw [← ha]; rfl
  have hexec : exec .stepApply s = .next (a.packageStep x) := by
    rw [exec_stepApply_due (State.stepDue_all h), ha]
    unfold State.stepNow
    rw [hhere 5 (by decide), if_pos rfl, hstep 5 (by decide)]
  obtain ⟨hnone, hlast, happlying⟩ := a.stepTaken_spec x
  have hkept := StepKept.stepFollowed (a.stepTaken x) (x.size (a.nowU 6)) (a.nowU 6) (a.stepOf x).slot.isSome
  have htails := (a.stepTaken x).stepFollowed_tails (x.size (a.nowU 6)) (a.nowU 6) (a.stepOf x).slot.isSome
  rw [a.packageStep_eq x] at hexec
  generalize (a.stepTaken x).stepFollowed (x.size (a.nowU 6)) (a.nowU 6) (a.stepOf x).slot.isSome = u at *
  have hfld : ∀ f : Fld, f.off = 0x5A8 ∨ f.off = 0x5AC → u.fld locArb f = (a.stepTaken x).fld locArb f := fun f hf =>
    hkept.regs.fld (by unfold notStepKey reportKey regKey locArb locFp locLed; omega)
  refine ⟨u, hexec, hkept.step.trans hnone, fun hset => ?_, fun y n hy hwire hnum hmem => ?_, fun i hi => ?_⟩
  · unfold State.pair at hlast ⊢
    rw [hfld _ (.inl rfl), hfld _ (.inr rfl), hlast, StepC.size, hset]
    rfl
  · have hof : a.stepOf x = y := by
      unfold State.stepOf
      rw [haservo, hy, Option.filter_some, if_pos (by simp [hwire])]
      rfl
    have hsize : (if x.set then 0 else ns16 (x.size (a.nowU 6))) = (if x.set then 0 else ns16 x.offset) := by
      unfold StepC.size
      cases x.set <;> rfl
    have hleft : a.waitLeft { num := n, tick := x.tick, left := List.range 6, result := none } =
        { num := n, tick := x.tick, left := [], result := none } := by
      unfold State.waitLeft
      have hempty : (List.range 6).filter (fun t => !(a.stepHere.contains t && (a.tail t).step.any (fun c => c.tick == x.tick))) = [] := by
        refine List.filter_eq_nil_iff.2 fun t ht => ?_
        rw [hhere t (List.mem_range.1 ht), hstep t (List.mem_range.1 ht)]
        simp
      rw [hempty]
    rw [hkept.applying, happlying, hof, hsize, haservo]
    refine List.mem_map.2 ⟨_, List.mem_map.2 ⟨_, hmem, hleft⟩, ?_⟩
    rw [StepWait.took, hnum, if_pos rfl]
  · have happly : u.tail i = (a.tail i).apply x := by
      rw [State.tail_congr (htails.trans (a.stepTaken_tails x))]
      exact a.applyTails_tail hi (hstep i hi) (hreached i hi)
    rw [happly, Tailstock.fu_apply, htail i hi]
    refine ⟨rfl, rfl, rfl, ?_⟩
    rw [Tailstock.fu_counted]

/-- The apply tick of a step that the event tailstock does not hold or has not reached. -/
theorem exec_stepApply_apart {s : State} {k : Nat} (hdue : s.stepDue = some k) (h5 : (s.advance k).stepHere.contains 5 = false) :
    ∃ u : State, exec .stepApply s = .next u.stepsDone ∧ u.servo.step = s.servo.step ∧
      ∀ i, i < 6 → (u.tail i).m = (s.tail i).m + k ∧
        (∀ y, (s.tail i).step = some y → y.tick ≤ (s.tail i).n + k → (u.tail i).step = none ∧
          (u.tail i).stepGen = ((s.tail i).stepGen + 1) % 16) ∧
        ((s.tail i).step = none → (u.tail i).n = (s.tail i).n + k ∧ (u.tail i).stepGen = (s.tail i).stepGen) := by
  refine ⟨(s.advance k).applyTails, ?_, rfl, fun i hi => ⟨?_, fun y hy hn => ?_, fun hy => ?_⟩⟩
  · rw [exec_stepApply_due hdue]
    unfold State.stepNow
    rw [h5]
    rfl
  · rw [State.applyTails_m _ hi, State.tail_advance _ _ hi]
  · rw [State.applyTails_tail _ hi (y := y) (by rw [State.tail_advance _ _ hi]; exact hy)
      (by rw [State.tail_advance _ _ hi]; exact hn), State.tail_advance _ _ hi]
    exact ⟨rfl, rfl⟩
  · rw [State.applyTails_none _ hi (by rw [State.tail_advance _ _ hi]; exact hy), State.tail_advance _ _ hi]
    exact ⟨rfl, rfl⟩

/-- The commit of a selector step that is due. -/
theorem exec_stepCommit {s : State} {i : Nat} {d : Int} (hdue : s.servo.due = some (i, d)) (hstep : s.servo.step = none)
    (hswap : s.hst.swap = none) (hstate : s.servoState < 6) : ∃ (t : State) (x : StepC),
      exec .stepCommit s = .next t ∧ t.servo.step = some x ∧ x.slot = some i ∧ t.servo.due = none ∧
      (d.natAbs < 2 ^ 63 → x.set = false ∧ x.offset = d) ∧ (2 ^ 63 ≤ d.natAbs → x.set = true) ∧
      { t with tails := s.tails, servo := s.servo } = s := by
  have hcommit : ∀ (u : State) (x : StepC), x.num = none → u.servo.due = none → (u.commit x).servo.step = some x ∧
      (u.commit x).servo.due = none ∧ { u.commit x with servo := u.servo } = u := by
    intro u x hx hu
    unfold State.commit Servo.awaitStep
    rw [hx]
    cases x.set
    · exact ⟨rfl, hu, rfl⟩
    · exact ⟨rfl, hu, rfl⟩
  obtain ⟨b, hb⟩ : ∃ b, (if (s.servo.settled && s.flag locArb R.REF_SEL_SETTLING) = true ∧
    s.now + (s.tickOf (s.boundaryAfter 1280) - (s.tail 5).n) < s.servo.settleEnd then s.boundaryAfter 1280 + uSec
      else s.boundaryAfter 1280) = b := ⟨_, rfl⟩
  obtain ⟨a, ha⟩ : ∃ a, s.advanceTo ((s.now + (s.tickOf b - (s.tail 5).n) - 800) / 400 * 400) = a := ⟨_, rfl⟩
  obtain ⟨u, hu⟩ : ∃ u, a.setServo { a.servo with due := none, settled := a.flag locArb R.REF_SEL_SETTLING } = u := ⟨_, rfl⟩
  obtain ⟨x, hx⟩ : ∃ x : StepC, (if d.natAbs < 2 ^ 63 then { offset := d, tick := s.tickOf b, slot := some i }
    else {
      set := true, secs := ((b : Int) + d).toNat / uSec, sub := ((b : Int) + d).toNat % uSec, tick := s.tickOf b,
      slot := some i }) = x := ⟨_, rfl⟩
  have hexec : exec .stepCommit s = .next (u.commit x) := by
    show execStepCommit s = _
    unfold execStepCommit
    rw [hdue]
    dsimp only
    rw [if_neg (by simp [hstep, hswap]; omega), hb, ha, hu, hx]
  have hslot : x.slot = some i ∧ x.num = none := by
    rw [← hx]
    split <;> exact ⟨rfl, rfl⟩
  obtain ⟨hcstep, hcdue, hcrest⟩ := hcommit u x hslot.2 (by rw [← hu]; rfl)
  refine ⟨_, x, hexec, hcstep, hslot.1, hcdue, fun h => ?_, fun h => ?_, ?_⟩
  · rw [← hx, if_pos h]
    exact ⟨rfl, rfl⟩
  · rw [← hx, if_neg (by omega)]
  · refine (congrArg (fun t : State => { t with tails := s.tails, servo := s.servo }) hcrest).trans ?_
    rw [← hu, ← ha]
    rfl

/-- Settles O36: what follows a step of the timescale leaves the wait lists and REF_STEP_LAST; the tailstocks change by the
step alone. -/
theorem stepsAndSlewsAreApplied : Obligations.StepsAndSlewsAreApplied := by
  unfold Obligations.StepsAndSlewsAreApplied
  intro s
  refine ⟨fun h => ?_, fun i d hdue hstep hswap hstate => exec_stepCommit hdue hstep hswap hstate, fun h => ?_,
    fun x h => exec_stepApply_all h, fun k hdue h5 => exec_stepApply_apart hdue h5, fun v w r hw hleft hresult => ?_, fun h => ?_,
    fun h => ?_⟩
  · show execStepCommit s = _
    unfold execStepCommit
    split
    · rfl
    · next hdue =>
      refine if_pos ?_
      rcases h with h | h | h | h
      · rw [h] at hdue; cases hdue
      · exact .inl (Option.isSome_iff_ne_none.2 h)
      · exact .inr (.inl (Option.isSome_iff_ne_none.2 h))
      · exact .inr (.inr h)
  · show execStepApply s = _
    unfold execStepApply
    rw [h]
  · have hended : [w].filter (fun w => w.left == [] && w.result.isSome) = [w] := by simp [hleft, hresult]
    have hleft : [w].filter (fun w => !(w.left == [] && w.result.isSome)) = [] := by simp [hleft, hresult]
    unfold State.stepsDone
    dsimp only
    rw [hw, hended, hleft, List.foldl_cons, List.foldl_nil, hresult]
    rfl
  · exact if_pos h
  · have hadopt : ∀ u : State, { u.adoptEpoch with regs := u.regs, servo := u.servo } = u ∧ u.adoptEpoch.tails = u.tails := by
      intro u
      unfold State.adoptEpoch
      split <;> exact ⟨rfl, rfl⟩
    obtain ⟨a, ha⟩ : ∃ a, s.advanceTo s.servo.slewEnd = a := ⟨_, rfl⟩
    obtain ⟨b, hb⟩ : ∃ b, (if a.servo.epochBySlew then a.adoptEpoch else a) = b := ⟨_, rfl⟩
    have hexec : exec .slewDone s = .next b.slewStop := by
      show execSlewDone s = _
      unfold execSlewDone
      dsimp only
      rw [if_neg h, ha, hb]
    have hbrest : { b with regs := a.regs, servo := a.servo } = a ∧ b.tails = a.tails := by
      rw [← hb]
      split
      · exact hadopt a
      · exact ⟨rfl, rfl⟩
    refine ⟨_, hexec, rfl, rfl, ?_, ?_⟩
    · have hnow : b.slewStop.now = a.now := congrArg Tailstock.m (State.tail_congr hbrest.2 5)
      rw [hnow, ← ha, State.now_advanceTo]
      omega
    · refine (congrArg (fun t : State => { t with tails := s.tails, regs := s.regs, servo := s.servo }) hbrest.1).trans ?_
      rw [← ha]
      rfl

end Sys2Proof.Machine
end

section
/-! PROOFS. Heartbeats of a headstock whose self-check has failed (R179, R180). -/

namespace Sys2Proof.Machine

/-- The result of the self-check that the arbiter's last heartbeat carries. -/
def State.beatOk (s : State) : Option Bool := s.hst.beat.map Beat.selfOk

/-- The reset state with headstock TA ACTIVE. -/
def beating : State := State.reset.setHs false hsActive

/-- The heartbeat of a headstock whose self-check failed is kept with that result, which declaring it failed leaves. -/
theorem beatOk_heartbeat_failed {t : State} (h : exec (.heartbeat false false) beating = .next t) : t.beatOk = some false := by
  have hrun : (match exec (.heartbeat false false) beating with
      | .next t => t.beatOk
      | _ => none) = some false := by decide +kernel
  rwa [h] at hrun

/-- A heartbeat with a good self-check keeps a good one, also where the headstock is then declared failed. -/
theorem beatOk_heartbeat_declared {u : State} (h : exec (.heartbeat false true) beating = .next u) :
    (u.declareFailed false 2).beatOk = some true := by
  have hrun : (match exec (.heartbeat false true) beating with
      | .next t => (t.declareFailed false 2).beatOk
      | _ => none) = some true := by decide +kernel
  rwa [h] at hrun

/-- Refutes O37: the state in which a headstock with a failed self-check is declared failed is not the one that a good
heartbeat leaves, since the kept heartbeat says whether the self-check passed. -/
theorem not_headstocksFailAndAreWatched : ¬ Obligations.HeadstocksFailAndAreWatched := by
  unfold Obligations.HeadstocksFailAndAreWatched
  rintro ⟨-, hwatched⟩
  obtain ⟨-, hbeat, -⟩ := hwatched beating false
  obtain ⟨u, hgood, hbad, -⟩ := hbeat (by decide +kernel) (by decide +kernel)
  have hfalse := beatOk_heartbeat_failed hbad
  rw [beatOk_heartbeat_declared hgood] at hfalse
  cases hfalse

end Sys2Proof.Machine
end

section
/-! PROOFS. HST.SWAP, HST.REVIVE and the end of a takeover (R177, R194, R197, R199 to R202). -/

namespace Sys2Proof.Machine

/-! ### The states of the headstocks -/

theorem State.hs_congr {s t : State} (hraw : ∀ tb, t.hsRaw tb = s.hsRaw tb) (hnow : t.now = s.now)
    (hwarm : t.hst.warmAt = s.hst.warmAt) (tb : Bool) : t.hs tb = s.hs tb := by
  unfold State.hs
  rw [hraw, hnow, hwarm]

theorem HstKept.warmAt {l : List Fld} {s t : State} (h : HstKept l s t) : t.hst.warmAt = s.hst.warmAt :=
  (congrArg Hst.warmAt h.hst :)

theorem HstKept.roles {s t : State} (h : HstKept roleFlds s t) (tb : Bool) : t.hsRaw tb = s.hsRaw tb :=
  h.hsRaw (by simp [roleFlds]) (by simp [roleFlds]) tb

theorem HstKept.hs {s t : State} (h : HstKept roleFlds s t) (tb : Bool) : t.hs tb = s.hs tb :=
  State.hs_congr h.roles h.now h.warmAt tb

theorem State.activeHs_congr {s t : State} (h : ∀ tb, t.hs tb = s.hs tb) : t.activeHs = s.activeHs := by
  unfold State.activeHs State.hsIn
  rw [h, h]

theorem State.hsIn_hs {s : State} {v : Nat} {tb : Bool} (h : s.hsIn v = some tb) : s.hs tb = v := by
  unfold State.hsIn at h
  split at h
  · next hf => cases h; exact hf
  · split at h
    · next ht => cases h; exact ht
    · cases h

/-- The ACTIVE and the STANDBY headstock are two. -/
theorem State.active_standby {s : State} {tb sb : Bool} (ha : s.activeHs = some tb) (hsb : s.hsIn hsStandby = some sb) : sb = !tb := by
  have h1 := State.hsIn_hs ha
  have h2 := State.hsIn_hs hsb
  cases tb <;> cases sb <;> first | rfl | (rw [h1] at h2; exact absurd h2 (by decide))

theorem State.hsRaw_setHs_ne (s : State) {tb b : Bool} (v : Nat) (h : b ≠ tb) : (s.setHs tb v).hsRaw b = s.hsRaw b := by
  obtain rfl : b = !tb := by cases tb <;> cases b <;> simp_all
  exact s.hsRaw_setHs_not tb v

/-! ### Checkpoints of a swap -/

theorem HstKept.seq {l : List Fld} {s t : State} (h : HstKept l s t) : t.hst.seq = s.hst.seq := (congrArg Hst.seq h.hst :)

/-- What the write of a checkpoint makes of the state, where no check of the memory is armed. -/
def State.ckptBegun (s : State) (tb sb : Bool) (num : Option Nat) : State :=
  let v := (s.freeNat).1
  let s := (s.freeNat).2
  let seq := (s.hst.seq + 1) % 2 ^ 32
  let key := 2 * b2n sb + seq % 2
  let c : Ckpt := { seq := seq, tb := tb, time := s.txNow, torn := true, hist := s.servo.hist, servo := s.ckptServo,
                    refs := s.ckptRefs }
  s.setHst { s.hst with
    slots := Tab.set s.hst.slots key c, seq := seq,
    writes := s.hst.writes ++ [{ key := key, seq := seq, at_ := s.now + v % (ckptTicks + 1), num := num }] }

theorem State.writeCkpt_begun {s : State} {tb sb : Bool} (ha : s.activeHs = some tb) (hsb : s.hsIn hsStandby = some sb)
    (harmed : s.faults.armed = []) (num : Option Nat) : s.writeCkpt num = s.ckptBegun tb sb num := by
  have htouch : ∀ u : State, u.faults.armed = [] → ∀ seq, (u.touch 0x25 (· == locArb) seq 0).touch 0x26 (· == locArb) seq 0 = u := by
    intro u hu seq
    rw [State.touch_unarmed hu, State.touch_unarmed hu]
  unfold State.writeCkpt
  rw [ha, hsb]
  exact htouch (s.ckptBegun tb sb num) harmed _

theorem State.ckptBegun_spec (s : State) (tb sb : Bool) (num : Option Nat) :
    (s.ckptBegun tb sb num).hst.seq = (s.hst.seq + 1) % 2 ^ 32 ∧
      { (s.ckptBegun tb sb num).hst with slots := s.hst.slots, seq := s.hst.seq, writes := s.hst.writes } = s.hst ∧
      (∃ w : CkptWrite, (s.ckptBegun tb sb num).hst.writes = s.hst.writes ++ [w] ∧ w.num = num) ∧
      { s.ckptBegun tb sb num with hst := s.hst, freeCtr := s.freeCtr } = s :=
  ⟨rfl, rfl, ⟨_, rfl, rfl⟩, rfl⟩

/-- Committing checkpoints leaves every instruction that waits for none of them. -/
theorem State.flight_settleCkpts {s : State} {n : Nat} (h : ∀ w ∈ s.hst.writes, w.num ≠ some n) :
    s.settleCkpts.flight n = s.flight n := by
  have hone : ∀ (u : State) (w : CkptWrite), w.num ≠ some n → (u.commitCkpt w).flight n = u.flight n := by
    intro u w hw
    unfold State.commitCkpt
    split
    · rfl
    · cases hnum : w.num with
      | none => rfl
      | some m =>
        rw [hnum] at hw
        refine (State.flight_complete_ne _ _ (m := n) (fun h => hw (by rw [h]))).trans ?_
        rfl
  have hall : ∀ (l : List CkptWrite), (∀ w ∈ l, w.num ≠ some n) → ∀ u : State, (l.foldl State.commitCkpt u).flight n = u.flight n := by
    intro l
    induction l with
    | nil => exact fun _ _ => rfl
    | cons w l ih =>
      intro hl u
      exact (ih (fun w' hw' => hl w' (List.mem_cons_of_mem _ hw')) _).trans (hone u w (hl w (List.mem_cons_self ..)))
  exact hall _ (fun w hw => h w (List.mem_of_mem_filter hw)) _

/-- Committing a checkpoint that no instruction waits for changes the headstocks and the arbiter's registers. -/
theorem State.settleCkpts_rest {s : State} (h : ∀ w ∈ s.hst.writes, w.num = none) :
    { s.settleCkpts with regs := s.regs, hst := s.hst } = s := by
  have hone : ∀ (u : State) (w : CkptWrite), w.num = none → { u.commitCkpt w with regs := u.regs, hst := u.hst } = u := by
    intro u w hw
    unfold State.commitCkpt
    split
    · rfl
    · rw [hw]; rfl
  have hall : ∀ (l : List CkptWrite), (∀ w ∈ l, w.num = none) → ∀ u : State,
      { l.foldl State.commitCkpt u with regs := u.regs, hst := u.hst } = u := by
    intro l
    induction l with
    | nil => exact fun _ _ => rfl
    | cons w l ih =>
      intro hl u
      have h1 := ih (fun w' hw' => hl w' (List.mem_cons_of_mem _ hw')) (u.commitCkpt w)
      have h2 := hone u w (hl w (List.mem_cons_self ..))
      exact (congrArg (fun t : State => { t with regs := u.regs, hst := u.hst }) h1).trans h2
  have hstart := hall (s.hst.writes.filter (fun w => decide (w.at_ ≤ s.now))) (fun w hw => h w (List.mem_of_mem_filter hw))
    (s.setHst { s.hst with writes := s.hst.writes.filter (fun w => !decide (w.at_ ≤ s.now)) })
  exact congrArg (fun t : State => { t with regs := s.regs, hst := s.hst }) hstart

/-! ### HST.SWAP (R201, R202) -/

/-- The state in which HST.SWAP has written its checkpoint. -/
def State.swapWritten (s : State) (tb sb : Bool) : State := (s.ckptBegun tb sb none).settleCkpts

/-- The state that HST.SWAP leaves, before it goes on. -/
def State.swapBegun (s : State) (sb : Bool) (n : Nat) : State :=
  (s.setHst { s.hst with swap := some n, swapAt := s.now, warmAt := s.now + ckptTicks }).setHs sb hsWarming

theorem mHstSwap_conflict {f : Flight} {s : State}
    (h : s.activeHs = none ∨ s.hsIn hsStandby = none ∨ s.flag locArb R.HST_STAT_CKPT_STALE = true ∨
      s.flag locArb R.HST_STAT_LINK_UP = false ∨ (∃ tb, s.activeHs = some tb ∧ s.stepAhead tb = true) ∨
      6 ≤ s.servoState ∨ s.hst.swap ≠ none) (loc : Nat) : mHstSwap.run f loc s = (s, some (conflictC s.hstDetail)) := by
  simp only [mHstSwap]
  split
  · next tb sb ha hsb =>
    refine if_pos ?_
    rcases h with h | h | h | h | ⟨tb', htb, h⟩ | h | h
    · rw [h] at ha; cases ha
    · rw [h] at hsb; cases hsb
    · exact .inl h
    · exact .inr (.inl (by rw [h]; rfl))
    · rw [ha] at htb
      cases htb
      exact .inr (.inr (.inl h))
    · exact .inr (.inr (.inr (.inl h)))
    · exact .inr (.inr (.inr (.inr (Option.isSome_iff_ne_none.2 h))))
  · rfl

theorem mHstSwap_goes {f : Flight} {s : State} {tb sb : Bool} (ha : s.activeHs = some tb) (hsb : s.hsIn hsStandby = some sb)
    (hstale : s.flag locArb R.HST_STAT_CKPT_STALE = false) (hlink : s.flag locArb R.HST_STAT_LINK_UP = true)
    (hahead : s.stepAhead tb = false) (hservo : s.servoState < 6) (hswap : s.hst.swap = none) (harmed : s.faults.armed = [])
    (loc : Nat) : mHstSwap.run f loc s = ((s.swapWritten tb sb).swapBegun sb f.num).goesOn f.num 0 := by
  simp only [mHstSwap, ha, hsb]
  rw [if_neg (by simp [hstale, hlink, hahead, hswap]; omega), State.writeCkpt_begun ha hsb harmed]
  rfl

/-- What a checkpoint that begins and may end at once leaves of the headstocks. -/
theorem State.swapWritten_kept (s : State) (tb sb : Bool) :
    HstKept roleFlds (s.ckptBegun tb sb none) (s.swapWritten tb sb) := .settleCkpts _

theorem State.swapWritten_rest {s : State} {tb sb : Bool} (h : s.hst.writes = []) :
    { s.swapWritten tb sb with regs := s.regs, hst := s.hst, freeCtr := s.freeCtr } = s := by
  have hnone : ∀ w ∈ (s.ckptBegun tb sb none).hst.writes, w.num = none := by
    obtain ⟨-, -, ⟨w, hw, hnum⟩, -⟩ := s.ckptBegun_spec tb sb none
    rw [hw, h]
    simp [hnum]
  exact congrArg (fun t : State => { t with regs := s.regs, hst := s.hst, freeCtr := s.freeCtr }) (State.settleCkpts_rest hnone)

theorem Starts.hstSwap_goes {n : Nat} {f : Flight} {s : State} {tb sb : Bool} (hs : Starts (isOp 0xA0) mHstSwap n f s)
    (ha : s.activeHs = some tb) (hsb : s.hsIn hsStandby = some sb) (hstale : s.flag locArb R.HST_STAT_CKPT_STALE = false)
    (hlink : s.flag locArb R.HST_STAT_LINK_UP = true) (hahead : s.stepAhead tb = false) (hservo : s.servoState < 6)
    (hswap : s.hst.swap = none) (harmed : s.faults.armed = []) (hnum : ∀ w ∈ s.hst.writes, w.num ≠ some n) :
    ∃ t : State, exec (.hstSwap n) s = .next t ∧ t.flight n = some { f with phase := .exec 0 } ∧ t.hsRaw sb = hsWarming ∧
      t.hs sb = hsStandby ∧ t.hs tb = hsActive ∧ t.hst.swap = some n ∧ t.hst.warmAt = s.now + 12500 ∧
      t.hst.swapAt = s.now ∧ t.hst.seq = (s.hst.seq + 1) % 2 ^ 32 ∧
      (s.hst.writes = [] → { t with plyn := s.plyn, regs := s.regs, hst := s.hst, freeCtr := s.freeCtr } = s) := by
  have hrun := mHstSwap_goes (f := f) ha hsb hstale hlink hahead hservo hswap harmed f.cmd.loc
  rw [hs.num] at hrun
  obtain ⟨hseq, -, ⟨w, hw, hwnum⟩, hrest⟩ := s.ckptBegun_spec tb sb none
  have hkept := s.swapWritten_kept tb sb
  have hflight : (s.swapWritten tb sb).flight n = s.flight n := by
    refine (State.flight_settleCkpts (s := s.ckptBegun tb sb none) fun x hx => ?_).trans (State.flight_congr (congrArg State.plyn hrest :) n)
    rw [hw] at hx
    rcases List.mem_append.1 hx with hx | hx
    · exact hnum x hx
    · rw [List.mem_singleton.1 hx, hwnum]
      exact fun h => by cases h
  have hnow : (s.swapWritten tb sb).now = s.now := hkept.now.trans (rfl : (s.ckptBegun tb sb none).now = s.now)
  have hraw : (s.swapWritten tb sb).hsRaw tb = hsActive := by
    rw [hkept.roles tb]
    exact State.hs_eq_active.1 (State.hsIn_hs ha)
  have hwrest := fun h => s.swapWritten_rest (tb := tb) (sb := sb) h
  have hwseq := hkept.seq
  rw [hseq] at hwseq
  generalize s.swapWritten tb sb = u at *
  obtain rfl := State.active_standby ha hsb
  obtain ⟨p, hgoes, hphase⟩ := State.goesOn_eq (u := u.swapBegun (!tb) n) 0 (hflight.trans hs.flight)
  rw [hgoes] at hrun
  have hwarm : (u.swapBegun (!tb) n).hsRaw (!tb) = hsWarming := State.hsRaw_setHs_self _ _ (by decide)
  have hat : (u.swapBegun (!tb) n).hst.warmAt = s.now + 12500 := congrArg (· + 12500) hnow
  have hbnow : (u.swapBegun (!tb) n).now = s.now := hnow
  refine ⟨_, hs.startRow_goes hrun, hphase, hwarm, ?_, ?_, rfl, hat, hnow, hwseq, fun h => ?_⟩
  · change (u.swapBegun (!tb) n).hs (!tb) = _
    rw [State.hs, if_pos ⟨hwarm, by rw [hat, hbnow]; omega⟩]
  · change (u.swapBegun (!tb) n).hs tb = _
    refine State.hs_eq_active.2 ?_
    exact (State.hsRaw_setHs_not' _ tb _).trans hraw
  · exact congrArg (fun t : State => { t with plyn := s.plyn }) (hwrest h)

/-! ### HST.REVIVE and the self-test (R177, R199, R200) -/

/-- A revival of a headstock ends, or begins. -/
def State.setRevive (s : State) (tb : Bool) (n : Option Nat) : State :=
  s.setHst (if tb then { s.hst with reviveB := n } else { s.hst with reviveA := n })

theorem State.setRevive_kept (s : State) (tb : Bool) (n : Option Nat) :
    (∀ b, (s.setRevive tb n).hsRaw b = s.hsRaw b) ∧ (s.setRevive tb n).now = s.now ∧
      (s.setRevive tb n).hst.warmAt = s.hst.warmAt ∧ (if tb then (s.setRevive tb n).hst.reviveB else (s.setRevive tb n).hst.reviveA) = n ∧
      { s.setRevive tb n with hst := s.hst } = s := by
  cases tb <;> exact ⟨fun _ => rfl, rfl, rfl, rfl, rfl⟩

theorem State.hs_setRevive (s : State) (tb : Bool) (n : Option Nat) (b : Bool) : (s.setRevive tb n).hs b = s.hs b := by
  obtain ⟨hraw, hnow, hwarm, -, -⟩ := s.setRevive_kept tb n
  exact State.hs_congr hraw hnow hwarm b

theorem Starts.hstRevive_goes {n : Nat} {f : Flight} {s : State} (hs : Starts (isOp 0xA1) mHstRevive n f s)
    (hfailed : s.hs (bit f.cmd.opa 0) = hsFailed) (hpg : s.pgLost (bit f.cmd.opa 0) = false) :
    ∃ t : State, exec (.hstRevive n) s = .next t ∧ t.flight n = some { f with phase := .exec 0 } ∧
      t.hs (bit f.cmd.opa 0) = hsSelftest ∧ (if bit f.cmd.opa 0 then t.hst.reviveB else t.hst.reviveA) = some n ∧
      { t with plyn := s.plyn, regs := s.regs, hst := s.hst } = s := by
  have hrun : mHstRevive.run f f.cmd.loc s =
      ((s.setHs (bit f.cmd.opa 0) hsSelftest).setRevive (bit f.cmd.opa 0) (some n)).goesOn n 0 := by
    simp only [mHstRevive, hs.num]
    exact if_neg (by simp [hfailed, hpg])
  generalize bit f.cmd.opa 0 = tb at *
  obtain ⟨hraw, -, -, hnum, hrest⟩ := (s.setHs tb hsSelftest).setRevive_kept tb (some n)
  have hplyn : ((s.setHs tb hsSelftest).setRevive tb (some n)).plyn = s.plyn := (congrArg State.plyn hrest :)
  obtain ⟨p, hgoes, hphase⟩ := State.goesOn_eq 0 ((State.flight_congr hplyn n).trans hs.flight)
  rw [hgoes] at hrun
  refine ⟨_, hs.startRow_goes hrun, hphase, ?_, hnum, ?_⟩
  · change ((s.setHs tb hsSelftest).setRevive tb (some n)).hs tb = _
    refine State.hs_of_hsRaw ((hraw tb).trans (State.hsRaw_setHs_self _ _ (by decide))) (by decide)
  · exact congrArg (fun t : State => { t with plyn := s.plyn, regs := s.regs, hst := s.hst }) hrest

/-- Values of a calibration are stored in the table of calibrations and in registers. -/
theorem State.calSet_reports (s : State) (loc item source : Nat) (values : List Int) (valid : Bool) :
    ∃ cals, Reports { s with cals := cals } (s.calSet loc item source values valid) :=
  ⟨_, ((((Reports.put _ loc R.CAL_STAT_VALID (b2n valid)).trans (.put _ loc R.CAL_STAT_SOURCE source)).trans
    (.put _ loc R.CAL_TIME_LO_TIME _)).trans (.put _ loc R.CAL_TIME_HI_TIME _)).trans (.put _ loc R.CAL_TEMP_TEMP _)⟩

/-- The phase detectors that a headstock calibrates in its self-test have the registers of its own die. -/
theorem State.calSelf_eq (s : State) (die : Nat) :
    ∃ (k : Nat) (values : List Int), s.calSelf die = ({ s with freeCtr := k }).calSet (detLoc die) 4 1 values true :=
  ⟨_, _, rfl⟩

theorem State.calSelf_kept (s : State) (die : Nat) :
    (∀ tb, (s.calSelf die).hsRaw tb = s.hsRaw tb) ∧ (s.calSelf die).tails = s.tails ∧ (s.calSelf die).hst = s.hst := by
  obtain ⟨k, values, h⟩ := s.calSelf_eq die
  obtain ⟨cals, hreports⟩ := State.calSet_reports { s with freeCtr := k } (detLoc die) 4 1 values true
  rw [h]
  refine ⟨fun tb => State.hsRaw_of_reg ?_ tb, hreports.tails, (congrArg State.hst hreports.rest :)⟩
  exact State.reg_calSet_ne { s with freeCtr := k } (detLoc die) 4 1 values true (by decide)

theorem State.hs_calSelf (s : State) (die : Nat) (tb : Bool) : (s.calSelf die).hs tb = s.hs tb := by
  obtain ⟨hraw, htails, hhst⟩ := s.calSelf_kept die
  exact State.hs_congr hraw (congrArg Tailstock.m (State.tail_congr htails 5)) (congrArg Hst.warmAt hhst) tb

/-- The headstock that passed its self-test becomes the ACTIVE one. -/
def State.selfActive (s : State) (tb : Bool) : State :=
  ((((s.setHs tb hsActive).arbPut R.HST_STAT_ACTIVE_TB (b2n tb)).bumpEpoch).giveEpoch tb).setDrive tb true

/-- It waits for its first word slot. -/
def State.selfStarts (s : State) (tb : Bool) : State :=
  (s.selfActive tb).setHst { (s.selfActive tb).hst with starting := some tb, startAt := (s.selfActive tb).now }

section
variable {s : State} {tb : Bool}

theorem exec_hstSelftestDone_failed (h : s.hs tb = hsSelftest) {code : Nat} (hcode : code ≠ 0) :
    exec (.hstSelftestDone tb code) s = .next ((((s.setRevive tb none).setHs tb hsFailed).raise locArb 0x23 code).completeOpt
      (if tb then s.hst.reviveB else s.hst.reviveA) { status := stFault, result := code }) := by
  show execHstSelftestDone tb code s = _
  unfold execHstSelftestDone
  rw [if_neg (fun hn => hn h)]
  dsimp only
  rw [if_neg hcode, if_pos hcode]
  rfl

theorem exec_hstSelftestDone_standby (h : s.hs tb = hsSelftest) (hactive : (s.calSelf (hsDie tb)).activeHs.isSome = true) :
    exec (.hstSelftestDone tb 0) s = .next ((((s.calSelf (hsDie tb)).setHs tb hsStandby).setRevive tb none).completeOpt
      (if tb then s.hst.reviveB else s.hst.reviveA) { status := stOk }) := by
  show execHstSelftestDone tb 0 s = _
  unfold execHstSelftestDone
  rw [if_neg (fun hn => hn h)]
  dsimp only
  rw [if_pos rfl, if_neg (fun hn => hn rfl)]
  generalize s.calSelf (hsDie tb) = u at *
  rw [if_pos hactive]
  rfl

theorem exec_hstSelftestDone_active (h : s.hs tb = hsSelftest) (hactive : (s.calSelf (hsDie tb)).activeHs.isSome = false) :
    exec (.hstSelftestDone tb 0) s = .next ((s.calSelf (hsDie tb)).selfStarts tb) := by
  show execHstSelftestDone tb 0 s = _
  unfold execHstSelftestDone
  rw [if_neg (fun hn => hn h)]
  dsimp only
  rw [if_pos rfl, if_neg (fun hn => hn rfl)]
  generalize s.calSelf (hsDie tb) = u at *
  rw [if_neg (by rw [hactive]; decide)]
  rfl

theorem State.selfStarts_spec (s : State) (tb : Bool) :
    (s.selfStarts tb).hs tb = hsActive ∧ (s.selfStarts tb).drive tb = true ∧ (s.selfStarts tb).hst.starting = some tb ∧
      (s.selfStarts tb).hst.startAt = s.now := by
  refine ⟨State.hs_eq_active.2 ?_, by cases tb <;> rfl, rfl, rfl⟩
  have hepoch : ∀ (a : State) (v : Nat), (a.arbPut R.HST_EPOCH_EPOCH v).hsRaw tb = a.hsRaw tb := fun a v =>
    State.hsRaw_of_reg (a.reg_put_off v (by decide)) tb
  have hmark : ∀ (a : State) (v : Nat), (a.arbPut R.HST_STAT_ACTIVE_TB v).hsRaw tb = a.hsRaw tb := fun a v => by
    cases tb <;> exact a.arb_arbPut_apart v (by decide)
  exact (hepoch _ _).trans ((hmark _ _).trans (State.hsRaw_setHs_self s tb (by decide)))

/-- The self-test of a headstock ends. -/
theorem exec_hstSelftestDone (h : s.hs tb = hsSelftest) :
    (∀ code, code ≠ 0 → ∃ u : State, exec (.hstSelftestDone tb code) s =
      .next ((u.raise locArb 0x23 code).completeOpt (if tb then s.hst.reviveB else s.hst.reviveA)
        { status := stFault, result := code }) ∧ u.hs tb = hsFailed ∧ { u with regs := s.regs, hst := s.hst } = s) ∧
    (s.hs (!tb) = hsActive → ∃ u : State, exec (.hstSelftestDone tb 0) s =
      .next (u.completeOpt (if tb then s.hst.reviveB else s.hst.reviveA) { status := stOk }) ∧
      u.hs tb = hsStandby ∧ u.hs (!tb) = hsActive) ∧
    (s.hs (!tb) ≠ hsActive → ∃ t : State, exec (.hstSelftestDone tb 0) s = .next t ∧ t.hs tb = hsActive ∧
      t.drive tb = true ∧ t.hst.starting = some tb ∧ t.hst.startAt = s.now) := by
  obtain ⟨hcraw, hctails, hchst⟩ := s.calSelf_kept (hsDie tb)
  have hcactive : (s.calSelf (hsDie tb)).activeHs = s.activeHs := State.activeHs_congr fun b => s.hs_calSelf (hsDie tb) b
  refine ⟨fun code hcode => ⟨_, exec_hstSelftestDone_failed h hcode, ?_, ?_⟩, fun hother => ?_, fun hother => ?_⟩
  · exact State.hs_of_hsRaw (State.hsRaw_setHs_self _ _ (by decide)) (by decide)
  · obtain ⟨-, -, -, -, hrest⟩ := s.setRevive_kept tb none
    exact congrArg (fun t : State => { t with regs := s.regs }) hrest
  · have hsome : (s.calSelf (hsDie tb)).activeHs.isSome = true := by rw [hcactive]; exact State.hsIn_isSome hother
    refine ⟨_, exec_hstSelftestDone_standby h hsome, ?_, ?_⟩
    · rw [State.hs_setRevive]
      exact State.hs_of_hsRaw (State.hsRaw_setHs_self _ _ (by decide)) (by decide)
    · rw [State.hs_setRevive]
      refine State.hs_eq_active.2 ((State.hsRaw_setHs_not _ tb _).trans ?_)
      rw [hcraw]
      exact State.hs_eq_active.1 hother
  · have hnone : s.activeHs = none := State.activeHs_none (tb := tb)
      (fun hr => by rw [State.hs_eq_active.2 hr] at h; exact absurd h (by decide)) (fun hr => hother (State.hs_eq_active.2 hr))
    have hsome : (s.calSelf (hsDie tb)).activeHs.isSome = false := by rw [hcactive, hnone]; rfl
    obtain ⟨hhs, hdrive, hstart, hat⟩ := (s.calSelf (hsDie tb)).selfStarts_spec tb
    refine ⟨_, exec_hstSelftestDone_active h hsome, hhs, hdrive, hstart, ?_⟩
    rw [hat]
    exact congrArg Tailstock.m (State.tail_congr hctails 5)

end

/-! ### The end of double drive (R194, R201) -/

/-- A headstock that is neither ACTIVE nor WARMING loses its drive and its lane. -/
def State.driveOff (s : State) (tb : Bool) : State :=
  if s.hs tb = hsActive ∨ s.hs tb = hsWarming then s
  else
    let s := s.setDrive tb false
    s.setHst (if tb then { s.hst with laneB := none } else { s.hst with laneA := none })

theorem State.driveOff_spec (s : State) (tb : Bool) :
    (s.driveOff tb).drive tb = (s.drive tb && (s.hs tb == hsActive || s.hs tb == hsWarming)) ∧
      (s.driveOff tb).drive (!tb) = s.drive (!tb) ∧ (∀ b, (s.driveOff tb).hs b = s.hs b) ∧
      (s.driveOff tb).hst.swap = s.hst.swap ∧ (s.driveOff tb).hst.swapAt = s.hst.swapAt ∧ { s.driveOff tb with hst := s.hst } = s := by
  unfold State.driveOff
  by_cases h : s.hs tb = hsActive ∨ s.hs tb = hsWarming
  · rw [if_pos h]
    have hkeep : (s.hs tb == hsActive || s.hs tb == hsWarming) = true := by
      rcases h with h | h <;> simp [h]
    exact ⟨by rw [hkeep, Bool.and_true], rfl, fun _ => rfl, rfl, rfl, rfl⟩
  · rw [if_neg h]
    have hlose : (s.hs tb == hsActive || s.hs tb == hsWarming) = false := by
      rw [not_or] at h
      simp [h.1, h.2]
    rw [hlose, Bool.and_false]
    cases tb <;> exact ⟨rfl, rfl, fun b => State.hs_congr (fun _ => rfl) rfl rfl b, rfl, rfl, rfl⟩

/-- The state after the end of double drive, before the swap completes. -/
def State.dualEnded (s : State) : State :=
  let s := ((s.driveOff false).driveOff true).arbPut R.HST_STAT_DUAL_ACTIVE 0
  s.setHst { s.hst with swap := none }

theorem exec_dualActiveEnd {s : State} (h : s.flag locArb R.HST_STAT_DUAL_ACTIVE = true) : ∃ (u : State) (c : Compl),
    exec .dualActiveEnd s = .next (u.completeOpt s.hst.swap c) ∧ c.status = stOk ∧ u.hst.swap = none ∧
    u.flag locArb R.HST_STAT_DUAL_ACTIVE = false ∧
    (∀ tb, u.drive tb = (s.drive tb && (s.hs tb == hsActive || s.hs tb == hsWarming))) ∧
    { u with regs := s.regs, hst := s.hst } = s := by
  obtain ⟨hfd, hfo, hfhs, hfswap, -, hfrest⟩ := s.driveOff_spec false
  obtain ⟨htd, hto, -, htswap, -, htrest⟩ := (s.driveOff false).driveOff_spec true
  have hexec : exec .dualActiveEnd s = .next (s.dualEnded.completeOpt ((s.driveOff false).driveOff true).hst.swap
      { status := stOk, result := satNat ((s.dualEnded.now - s.dualEnded.hst.swapAt) / 625) 16 }) := by
    show execDualActiveEnd s = _
    unfold execDualActiveEnd
    rw [if_neg (by simp [h])]
    rfl
  rw [htswap, hfswap] at hexec
  refine ⟨s.dualEnded, _, hexec, rfl, rfl, ?_, fun tb => ?_, ?_⟩
  · exact State.flag_false_of (State.fld_put_self _ _ 0 (by decide))
  · cases tb
    · exact hto.trans hfd
    · exact htd.trans (by rw [hfhs, show (s.driveOff false).drive true = s.drive true from hfo])
  · refine Eq.trans ?_ (congrArg (fun t : State => { t with regs := s.regs }) hfrest)
    exact congrArg (fun t : State => { t with regs := s.regs, hst := s.hst }) htrest

/-! ### A WARMING headstock that fails (R177, R197, R201) -/

theorem State.hsRaw_warming {s : State} {tb : Bool} (h : s.warmingHs = some tb) : s.hsRaw tb = hsWarming := by
  unfold State.warmingHs at h
  split at h
  · next hf => cases h; exact hf
  · split at h
    · next ht => cases h; exact ht
    · cases h

/-- A headstock that is not ACTIVE and fails leaves the ACTIVE one. -/
theorem State.activeHs_failed {s : State} {tb : Bool} (h : s.hsRaw tb = hsWarming) :
    (s.setHs tb hsFailed).activeHs.isSome = s.activeHs.isSome := by
  have hself : (s.setHs tb hsFailed).hsRaw tb ≠ hsActive := by
    rw [State.hsRaw_setHs_self _ _ (by decide)]
    decide
  by_cases hother : s.hsRaw (!tb) = hsActive
  · rw [State.activeHs_of (tb := !tb) ((State.hsRaw_setHs_not _ _ _).trans hother), State.activeHs_of hother]
  · rw [State.activeHs_none hself (by rwa [State.hsRaw_setHs_not]), State.activeHs_none (by rw [h]; decide) hother]

/-- The state of a WARMING headstock that failed, before its fault. -/
def State.warmFailed (s : State) (tb other : Bool) : State :=
  let s := s.setHs tb hsFailed
  if other then s.setHst { s.hst with swap := none } else s.setHst { s.hst with takeover := false }

theorem State.failWarming_eq {s : State} {tb : Bool} (h : s.hsRaw tb = hsWarming) (code : Nat) :
    s.failWarming tb code = if s.hst.swap.isSome || s.activeHs.isSome then
      ((s.warmFailed tb (s.hst.swap.isSome || s.activeHs.isSome)).raise locArb 0x23 code).completeOpt s.hst.swap
        { status := stAborted }
      else (s.warmFailed tb (s.hst.swap.isSome || s.activeHs.isSome)).raise locArb 0x22 0 := by
  have hactive := State.activeHs_failed h
  unfold State.failWarming State.warmFailed
  dsimp only
  rw [hactive]
  by_cases hother : (s.hst.swap.isSome || s.activeHs.isSome) = true
  · rw [hother, if_pos rfl, if_pos (by rwa [Bool.or_eq_true] at hother)]
    rfl
  · rw [Bool.not_eq_true] at hother
    have hneither : ¬ (s.hst.swap.isSome = true ∨ s.activeHs.isSome = true) := by
      rw [← Bool.or_eq_true, hother]
      decide
    rw [hother]
    exact if_neg hneither

theorem State.warmFailed_spec (s : State) (tb : Bool) :
    (s.warmFailed tb (s.hst.swap.isSome || s.activeHs.isSome)).hs tb = hsFailed ∧
      (s.warmFailed tb (s.hst.swap.isSome || s.activeHs.isSome)).hst.swap = none ∧
      (∀ b, (s.warmFailed tb b).now = s.now) := by
  have hraw : ∀ b, (s.warmFailed tb b).hsRaw tb = hsFailed := fun b => by
    cases b <;> exact State.hsRaw_setHs_self s tb (by decide)
  refine ⟨State.hs_of_hsRaw (hraw _) (by decide), ?_, fun b => by cases b <;> rfl⟩
  cases hswap : s.hst.swap with
  | some n => rfl
  | none =>
    cases s.activeHs.isSome
    · exact hswap
    · rfl

/-- Settles O38: each row acts in its own states of the two headstocks, whose fields lie apart from all that a checkpoint
or a calibration writes. -/
theorem swapsAndRevivals : Obligations.SwapsAndRevivals := by
  unfold Obligations.SwapsAndRevivals
  intro n f s no
  refine ⟨fun hs => ⟨fun h => hs.conflict (mHstSwap_conflict h _), fun tb sb ha hsb hstale hlink hahead hservo hswap harmed hnum =>
    hs.hstSwap_goes ha hsb hstale hlink hahead hservo hswap harmed hnum⟩, fun hs => ⟨fun h => ?_, fun h hpg => hs.hstRevive_goes h hpg⟩,
    fun tb => ⟨fun h code => if_pos h, fun h => exec_hstSelftestDone h⟩, fun h => if_pos (by rw [h]; rfl), exec_dualActiveEnd,
    fun h => ⟨?_, fun code => ?_⟩, fun tb h => ?_⟩
  · refine hs.conflict (k := s.hstDetail) ?_
    simp only [mHstRevive]
    exact if_pos h
  · show execWarmingTimeout s = _
    unfold execWarmingTimeout
    rw [h]
  · show execWarmingSelfCheckFail code s = _
    unfold execWarmingSelfCheckFail
    rw [h]
  · have hraw := State.hsRaw_warming h
    have hkept : ∀ t, (s.advanceTo t).hsRaw tb = hsWarming ∧ (s.advanceTo t).activeHs.isSome = s.activeHs.isSome ∧
        (s.advanceTo t).hst = s.hst := by
      intro t
      have hregs : ∀ b, (s.advanceTo t).hsRaw b = s.hsRaw b := fun b => rfl
      refine ⟨(hregs tb).trans hraw, ?_, rfl⟩
      by_cases hother : s.hsRaw (!tb) = hsActive
      · rw [State.activeHs_of (tb := !tb) ((hregs _).trans hother), State.activeHs_of hother]
      · rw [State.activeHs_none (tb := tb) (by rw [hregs, hraw]; decide) (by rwa [hregs]),
          State.activeHs_none (tb := tb) (by rw [hraw]; decide) hother]
    have hfail : ∀ t code, (s.advanceTo t).failWarming tb code = if s.hst.swap.isSome || s.activeHs.isSome then
        (((s.advanceTo t).warmFailed tb (s.hst.swap.isSome || s.activeHs.isSome)).raise locArb 0x23 code).completeOpt s.hst.swap
          { status := stAborted }
        else ((s.advanceTo t).warmFailed tb (s.hst.swap.isSome || s.activeHs.isSome)).raise locArb 0x22 0 := by
      intro t code
      obtain ⟨hw, hactive, hhst⟩ := hkept t
      rw [State.failWarming_eq hw, hactive, hhst]
    have hspec : ∀ t, ((s.advanceTo t).warmFailed tb (s.hst.swap.isSome || s.activeHs.isSome)).hs tb = hsFailed ∧
        ((s.advanceTo t).warmFailed tb (s.hst.swap.isSome || s.activeHs.isSome)).hst.swap = none ∧
        t ≤ ((s.advanceTo t).warmFailed tb (s.hst.swap.isSome || s.activeHs.isSome)).now := by
      intro t
      obtain ⟨-, hactive, hhst⟩ := hkept t
      obtain ⟨hhs, hnone, hnow⟩ := (s.advanceTo t).warmFailed_spec tb
      rw [hhst, hactive] at hhs hnone
      refine ⟨hhs, hnone, ?_⟩
      rw [hnow, State.now_advanceTo]
      omega
    obtain ⟨hu1, hu2, hu3⟩ := hspec ((if s.hst.swap.isSome then s.hst.warmAt else s.hst.declAt) + 25000)
    obtain ⟨hv1, hv2, hv3⟩ := hspec s.hst.warmAt
    refine ⟨_, _, ?_, hu1, hu2, hu3, hv1, hv2, hv3, fun code => ?_⟩
    · show execWarmingTimeout s = _
      unfold execWarmingTimeout
      rw [h]
      exact congrArg Host.Outcome.next (hfail _ 0)
    · show execWarmingSelfCheckFail code s = _
      unfold execWarmingSelfCheckFail
      rw [h]
      exact congrArg Host.Outcome.next (hfail _ code)

end Sys2Proof.Machine
end

section
/-! PROOFS. POW.WAKE of a pipeline that two attempts to sleep stand for (R330, R359). -/

namespace Sys2Proof.Machine

/-- POW.WAKE of pipeline 0 of die 0. -/
def wakeFlight : Flight :=
  { num := 0, ring := 0, cmd := { opcode := 0xB0, loc := cluLoc 0 0 20 0 }, td := {}, tags := [], tag0 := 0, phase := .issued }

/-- The pipeline is awake, and the table of attempts holds two entries under its key. -/
def wakeTwice : State :=
  { State.reset with
    regs := [(regKey (cluLoc 0 0 20 0) R.FWD_STAT_AWAKE.off, 1)]
    ledger := { sleep := [(0, { deadline := 0, num := none }), (0, { deadline := 1, num := none })] }
    plyn := { flights := [wakeFlight] } }

theorem wakeTwice_starts : Starts (isOp 0xB0) mPowWake 0 wakeFlight wakeTwice :=
  ⟨by decide +kernel, by decide +kernel, by decide +kernel, fun h => absurd h (by decide)⟩

/-- The second entry outlives the instruction, which ends one attempt. -/
theorem attempt_wakeTwice {t : State} (h : exec (.powWake 0) wakeTwice = .next t) : (t.attempt 0 0 false).isSome = true := by
  have hrun : (match exec (.powWake 0) wakeTwice with
      | .next t => (t.attempt 0 0 false).isSome
      | _ => false) = true := by decide +kernel
  rwa [h] at hrun

/-- Refutes O40: a table of attempts is a list, which in a state may hold two entries under one key. POW.WAKE takes the first
away, and an attempt of the pipeline still stands. -/
theorem not_powerCommandsOfTheHost : ¬ Obligations.PowerCommandsOfTheHost := by
  unfold Obligations.PowerCommandsOfTheHost
  intro h
  obtain ⟨hwake, -⟩ := h 0 wakeFlight wakeTwice 0 0 (by decide) (by decide)
  obtain ⟨hup, -⟩ := hwake false wakeTwice_starts rfl
  obtain ⟨u, hexec, -, hnone, -⟩ := hup (by decide +kernel)
  have hledger : (u.complete 0 { status := stOk }).ledger = u.ledger :=
    (congrArg State.ledger (Reports.complete u 0 { status := stOk }).rest :)
  have hsome := attempt_wakeTwice hexec
  unfold State.attempt at hsome
  rw [hledger, show Tab.get? u.ledger.sleep (gateKey 0 0 false) = none from hnone rfl] at hsome
  cases hsome

end Sys2Proof.Machine
end

section
/-! PROOFS. The end of a wake of a pipeline that stands twice in the table of wakes (R33). -/

namespace Sys2Proof.Machine

/-- Two wakes of pipeline 0 of die 0 are under way, and no instruction waits for either. -/
def wakesTwice : State :=
  { State.reset with ledger := { waking := [(0, { ready := 0 }), (0, { ready := 1 })] } }

/-- The second wake outlives the end of the first. -/
theorem pipeWaking_wakesTwice {t : State} (h : exec (.pipelineWakeReady 0 0) wakesTwice = .next t) : t.pipeWaking 0 0 = true := by
  have hrun : (match exec (.pipelineWakeReady 0 0) wakesTwice with
      | .next t => t.pipeWaking 0 0
      | _ => false) = true := by decide +kernel
  rwa [h] at hrun

/-- Refutes O41: the table of wakes is a list, which in a state may hold two entries under one key. The end of a wake takes
the first away, and the pipeline still reads as on its way to wake. -/
theorem not_pipelinesWakeAndSleep : ¬ Obligations.PipelinesWakeAndSleep := by
  unfold Obligations.PipelinesWakeAndSleep
  intro h
  obtain ⟨-, hpipe, -⟩ := h wakesTwice 0 0 (by decide) (by decide)
  obtain ⟨u, hexec, -, -, -, hnone⟩ := hpipe { ready := 0 } (by decide +kernel) (fun a ha => by
    rw [show Tab.get? wakesTwice.ledger.waking (gateKey 0 0 true) = none by decide +kernel] at ha
    cases ha)
  have hwaking := pipeWaking_wakesTwice hexec
  rw [show (u.finishPart none { status := stOk, result := 0 % 65536 }).pipeWaking 0 0 = false from hnone] at hwaking
  cases hwaking

end Sys2Proof.Machine
end

section
/-! PROOFS. Grants, gate schedules and temperatures (R37, R64, R307, R349, R351, R353, R356). -/

namespace Sys2Proof.Machine

/-! ### What the ledger's bookkeeping leaves -/

theorem Reports.ledPut (s : State) (f : Fld) (v : Nat) : Reports s (s.ledPut f v) := .put s _ _ _

theorem Reports.event' (s : State) (kind result time : Nat) : Reports s (s.event' kind result time) := .event s kind result time none

theorem Reports.regSync (s : State) (i : Nat) (b : Bool) : Reports s (s.regSync i b) := by
  unfold State.regSync
  dsimp only
  refine Reports.trans (t := ((((((s.ledPut _ _).ledPut _ _).ledPut _ _).ledPut _ _).ledPut _ _).ledPut _ _)) ?_
    (.ite _ (.event' _ _ _ _) (.refl _))
  exact (((((Reports.ledPut s _ _).trans (.ledPut _ _ _)).trans (.ledPut _ _ _)).trans (.ledPut _ _ _)).trans
    (.ledPut _ _ _)).trans (.ledPut _ _ _)

theorem Reports.useBy (s : State) (d : Nat) (clu : Option Nat) (n : Int) : Reports s (s.useBy d clu n) := by
  unfold State.useBy
  dsimp only
  split
  · exact .ledPut _ _ _
  · exact (((Reports.ledPut s _ _).trans (.ledPut _ _ _)).trans (.ledPut _ _ _)).trans (.regSync _ _ _)

theorem Reports.charge (s : State) (d : Nat) (clu : Option Nat) (n : Int) : Reports s (s.charge d clu n) := by
  unfold State.charge
  exact .ite _ (.refl s) (((Reports.ledPut s _ _).trans (.useBy _ _ _ _)).trans (.ledPut _ _ _))

/-! ### Grants (R349, R353, R355) -/

/-- A wake that begins stands in the ledger from now on, and no request leaves. -/
theorem State.grantWake_spec (s : State) (d k : Nat) (slice : Bool) (num : Option Nat) : ∃ n : Nat,
    Tab.get? (s.grantWake d k slice num).ledger.waking (gateKey d k slice) =
      some { ready := s.now + wakeTicks slice, num := num, got := if s.hasResv d k then 0 else n, resv := s.hasResv d k } ∧
    (s.grantWake d k slice num).ledger.reqs = s.ledger.reqs ∧ (s.grantWake d k slice num).tails = s.tails := by
  obtain ⟨n, hn⟩ : ∃ n, (if slice then s.sliceCost d k else s.wakeCost d k) = n := ⟨_, rfl⟩
  obtain ⟨a, ha⟩ : ∃ a, (if s.hasResv d k then s else s.charge d (some k) n) = a := ⟨_, rfl⟩
  obtain ⟨b, hb⟩ : ∃ b, (if slice then a else a.charge d none (a.svcDraw d k)) = b := ⟨_, rfl⟩
  have hsa : Reports s a := ha ▸ .ite _ (.refl s) (.charge s _ _ _)
  have hab : Reports a b := hb ▸ .ite _ (.refl a) (.charge a _ _ _)
  have hsb := hsa.trans hab
  have hledger : b.ledger = s.ledger := (congrArg State.ledger hsb.rest :)
  have hnow : b.now = s.now := congrArg Tailstock.m (State.tail_congr hsb.tails 5)
  have hgrant : ∃ waking cover, s.grantWake d k slice num = b.setLedger { b.ledger with
      waking := Tab.set waking (gateKey d k slice)
        { ready := b.now + wakeTicks slice, num := num, got := if s.hasResv d k then 0 else n, resv := s.hasResv d k },
      sliceResv := cover } := by
    rw [← hb, ← ha, ← hn]
    exact ⟨_, _, rfl⟩
  obtain ⟨waking, cover, hgrant⟩ := hgrant
  refine ⟨n, ?_, ?_, ?_⟩
  · rw [hgrant, ← hnow]
    exact Tab.get?_set_self _ _ _
  · rw [hgrant, ← hledger]
    rfl
  · rw [hgrant]
    exact hsb.tails

/-- The waiting requests in the order in which the ledger serves them. -/
def State.inOrder (s : State) : List WakeReq := ((List.range 6).map (fun k => s.ledger.reqs.filter (fun r => r.prio == k))).flatten

theorem State.mem_inOrder {s : State} {r : WakeReq} : r ∈ s.inOrder ↔ r ∈ s.ledger.reqs ∧ r.prio < 6 := by
  simp only [State.inOrder, List.mem_flatten, List.mem_map, List.mem_range]
  constructor
  · rintro ⟨l, ⟨k, hk, rfl⟩, hr⟩
    rw [List.mem_filter, beq_iff_eq] at hr
    exact ⟨hr.1, by omega⟩
  · rintro ⟨hr, hp⟩
    exact ⟨_, ⟨r.prio, hp, rfl⟩, List.mem_filter.2 ⟨hr, beq_self_eq_true _⟩⟩

theorem State.inOrder_sorted (s : State) : s.inOrder.Pairwise (fun a b => a.prio ≤ b.prio) := by
  have hprio : ∀ k, ∀ a ∈ s.ledger.reqs.filter (fun r => r.prio == k), a.prio = k := fun k a ha =>
    beq_iff_eq.1 (List.mem_filter.1 ha).2
  refine List.pairwise_flatten.2 ⟨fun l hl => ?_, ?_⟩
  · obtain ⟨k, -, rfl⟩ := List.mem_map.1 hl
    exact List.pairwise_of_forall_mem_list fun a ha b hb => by rw [hprio k a ha, hprio k b hb]
  · refine List.pairwise_map.2 (List.pairwise_lt_range.imp fun {j k} hjk a ha b hb => ?_)
    rw [hprio j a ha, hprio k b hb]
    omega

/-- The request that is served, and those before it, which the ledger refuses. -/
theorem State.nextGrant_some {s t : State} (h : s.nextGrant = some t) : ∃ q ∈ s.ledger.reqs, s.grantOf q = some t ∧
    ∀ x ∈ s.ledger.reqs, x.prio < q.prio → s.grantOf x = none := by
  obtain ⟨before, q, after, hsplit, hq, hbefore⟩ := List.findSome?_eq_some_iff.1 h
  change s.inOrder = before ++ q :: after at hsplit
  have hmem : q ∈ s.inOrder := by rw [hsplit]; simp
  obtain ⟨hreq, hprio⟩ := State.mem_inOrder.1 hmem
  refine ⟨q, hreq, hq, fun x hx hlt => hbefore x ?_⟩
  have hx' : x ∈ before ++ q :: after := hsplit ▸ State.mem_inOrder.2 ⟨hx, by omega⟩
  rcases List.mem_append.1 hx' with hb | hafter
  · exact hb
  · have hsorted := (List.pairwise_append.1 (hsplit ▸ s.inOrder_sorted)).2.1
    rcases List.mem_cons.1 hafter with rfl | hafter
    · omega
    · have := (List.pairwise_cons.1 hsorted).1 x hafter
      omega

theorem State.nextGrant_isSome {s : State} {r : WakeReq} (hr : r ∈ s.ledger.reqs) (hp : r.prio < 6) (hg : s.grantOf r ≠ none) :
    ∃ t, s.nextGrant = some t := by
  refine Option.ne_none_iff_exists'.1 fun hnone => hg ?_
  exact List.findSome?_eq_none_iff.1 hnone r (State.mem_inOrder.2 ⟨hr, hp⟩)

theorem State.upOrWaking_reqs (s : State) (l : List WakeReq) (d k : Nat) (slice : Bool) :
    (s.setLedger { s.ledger with reqs := l }).upOrWaking d k slice = s.upOrWaking d k slice := rfl

/-- A demand wake that is served waits no more, and begins where its unit needs one. -/
theorem State.grantDemand_spec (s : State) (q : WakeReq) : (s.grantDemand q).ledger.reqs = s.ledger.reqs.erase q ∧
    (s.upOrWaking q.die q.clu q.slice = false → ∃ w, Tab.get? (s.grantDemand q).ledger.waking (gateKey q.die q.clu q.slice) = some w ∧
      w.num = none ∧ w.ready = s.now + (if q.slice then 125 else 157)) := by
  have hticks : wakeTicks q.slice = if q.slice then 125 else 157 := by cases q.slice <;> decide
  unfold State.grantDemand
  dsimp only
  rw [State.upOrWaking_reqs]
  by_cases hup : s.upOrWaking q.die q.clu q.slice = true
  · rw [if_pos hup]
    exact ⟨rfl, fun h => by rw [hup] at h; cases h⟩
  · rw [if_neg hup]
    obtain ⟨n, hw, hreqs, -⟩ := State.grantWake_spec (((s.setLedger { s.ledger with reqs := s.ledger.reqs.erase q }).ledPut
      R.POW_WAIT_HWM_NS (max ((s.setLedger { s.ledger with reqs := s.ledger.reqs.erase q }).led R.POW_WAIT_HWM_NS)
        (satNat (((s.setLedger { s.ledger with reqs := s.ledger.reqs.erase q }).now - q.tick) * 8 / 5) 32))))
      q.die q.clu q.slice none
    exact ⟨hreqs, fun _ => ⟨_, hw, rfl, congrArg (s.now + ·) hticks⟩⟩

/-- What the service of a request does. -/
theorem exec_wakeGrant_some {s : State} {r : WakeReq} (hr : r ∈ s.ledger.reqs) (hp : r.prio < 6) (hg : s.grantOf r ≠ none) :
    ∃ (q : WakeReq) (t : State), exec .wakeGrant s = .next t ∧
      q ∈ s.ledger.reqs ∧ s.grantOf q = some t ∧ (∀ x ∈ s.ledger.reqs, x.prio < q.prio → s.grantOf x = none) ∧
      (q.num = none → s.refuse q (s.ahead q) = [] ∧ t.ledger.reqs = s.ledger.reqs.erase q ∧
        (s.upOrWaking q.die q.clu q.slice = false → ∃ w,
          Tab.get? t.ledger.waking (gateKey q.die q.clu q.slice) = some w ∧ w.num = none ∧
          w.ready = s.now + (if q.slice then 125 else 157))) ∧
      (∀ n f, q.num = some n → s.flight n = some f →
        let y := (drawMeaning f.cmd.opcode).eff f s
        (y.2 = none → t = y.1.dropReqs n) ∧
        (∀ c, y.2 = some c → c.status ≠ stDenied ∧ t = (y.1.dropReqs n).complete n c)) := by
  obtain ⟨t, ht⟩ := State.nextGrant_isSome hr hp hg
  obtain ⟨q, hq, hgrant, hbefore⟩ := State.nextGrant_some ht
  refine ⟨q, t, ?_, hq, hgrant, hbefore, fun hnum => ?_, fun n f hnum hf => ?_⟩
  · show execWakeGrant s = _
    unfold execWakeGrant
    rw [ht]
    rfl
  · unfold State.grantOf at hgrant
    rw [hnum] at hgrant
    dsimp only at hgrant
    split at hgrant
    · next hfree =>
      cases hgrant
      exact ⟨hfree, s.grantDemand_spec q⟩
    · cases hgrant
  · unfold State.grantOf at hgrant
    rw [hnum] at hgrant
    dsimp only at hgrant
    unfold State.grantInstr at hgrant
    rw [hf] at hgrant
    dsimp only at hgrant
    intro y
    change (match y with
      | (t, none) => some (t.dropReqs n)
      | (t, some c) => if c.status = stDenied then none else some ((t.dropReqs n).complete n c)) = some t at hgrant
    obtain ⟨v, c⟩ := y
    cases c with
    | none =>
      refine ⟨fun _ => (Option.some.inj hgrant).symm, fun c hc => by cases hc⟩
    | some c =>
      refine ⟨fun h => (by cases h), fun c' hc => ?_⟩
      cases hc
      dsimp only at hgrant
      split at hgrant
      · cases hgrant
      · next hden => exact ⟨hden, (Option.some.inj hgrant).symm⟩

/-! ### Gate schedules (R37, R307, R356) -/

theorem State.setGates_spec (s : State) (d p : Nat) :
    { s.setGates d p with regs := s.regs, ports := s.ports } = s ∧
    ((s.port d p).oper = none → (s.setGates d p).pfld d p R.QUE_GATES_OPEN = 0xFFFF) ∧
    (∀ g, (s.port d p).oper = some g → (s.setGates d p).pfld d p R.QUE_GATES_OPEN =
      (g.entries.getD (g.indexAt (s.nowU d)) (0xFFFF, 0)).1 % 65536) ∧
    ((s.setGates d p).port d p).oper = (s.port d p).oper ∧ ((s.setGates d p).port d p).pend = (s.port d p).pend := by
  unfold State.setGates
  dsimp only
  cases hoper : (s.port d p).oper with
  | none =>
    exact ⟨rfl, fun _ => State.fld_put_self _ _ _ (by decide), fun g hg => (by cases hg), hoper, rfl⟩
  | some g =>
    have hport : ∀ (x : Port) (f : Fld) v, (((s.setPort d p x).pput d p f v).port d p) = x := fun x f v =>
      State.port_setPort_self s d p x
    refine ⟨rfl, fun h => (by cases h), fun g' hg => ?_, ?_, ?_⟩
    · cases hg
      exact State.fld_put_self _ _ _ (by decide)
    · rw [hport]
    · rw [hport]

/-- A pending list becomes operational. -/
theorem exec_gatelistStart {s : State} {d p : Nat} {g : GateList} (h : (s.port d p).pend = some g) : ∃ u : State,
    exec (.gatelistStart d p) s = .next ((u.resvSync d).getD u) ∧
    5 * g.start ≤ (u.tail 5).fu ∧ (u.port d p).pend = none ∧
    (g.entries = [] → (u.port d p).oper = none ∧ u.pfld d p R.QUE_GATES_OPEN = 0xFFFF) ∧
    (g.entries ≠ [] → (u.port d p).oper = some g ∧
      u.pfld d p R.QUE_GATES_OPEN = (g.entries.getD (g.indexAt (u.nowU d)) (0xFFFF, 0)).1 % 65536) ∧
    { u with tails := s.tails, regs := s.regs, ports := s.ports } = s := by
  obtain ⟨a, ha⟩ : ∃ a, (s.advanceToU g.start).setPort d p { (s.advanceToU g.start).port d p with
    pend := none, oper := if g.entries = [] then none else some g } = a := ⟨_, rfl⟩
  have hport : a.port d p = { s.port d p with pend := none, oper := if g.entries = [] then none else some g } := by
    rw [← ha]
    exact State.port_setPort_self (s.advanceToU g.start) d p _
  have hfu : 5 * g.start ≤ (a.tail 5).fu := by
    rw [← ha]
    exact s.fu_advanceToU g.start
  have harest : { a with tails := s.tails, ports := s.ports } = s := by rw [← ha]; rfl
  obtain ⟨hrest, hnone, hsome, hoper, hpend⟩ := a.setGates_spec d p
  rw [hport] at hnone hsome hoper hpend
  have htails : (a.setGates d p).tails = a.tails := (congrArg State.tails hrest :)
  have hnow : (a.setGates d p).nowU d = a.nowU d := by unfold State.nowU; rw [State.tail_congr htails]
  refine ⟨a.setGates d p, ?_, ?_, hpend, fun he => ?_, fun he => ?_, ?_⟩
  · show execGatelistStart d p s = _
    unfold execGatelistStart
    rw [h]
    dsimp only
    rw [ha]
  · rw [State.tail_congr htails]
    exact hfu
  · rw [if_pos he] at hnone hoper
    exact ⟨hoper, hnone rfl⟩
  · rw [if_neg he] at hsome hoper
    exact ⟨hoper, by rw [hnow]; exact hsome g rfl⟩
  · refine (congrArg (fun t : State => { t with tails := s.tails, regs := s.regs, ports := s.ports }) hrest).trans ?_
    exact congrArg (fun t : State => { t with regs := s.regs }) harest

theorem exec_gateChange {s : State} {d p t0 : Nat} {g : GateList} (h : (s.port d p).oper = some g)
    (hnext : g.nextOf (s.nowU d + 1) (fun _ => true) = some t0) : ∃ t : State,
    exec (.gateChange d p) s = .next t ∧ 5 * t0 ≤ (t.tail 5).fu ∧
    t.pfld d p R.QUE_GATES_OPEN = (g.entries.getD (g.indexAt (t.nowU d)) (0xFFFF, 0)).1 % 65536 ∧
    { t with tails := s.tails, regs := s.regs, ports := s.ports } = s := by
  obtain ⟨hrest, -, hsome, -, -⟩ := (s.advanceToU t0).setGates_spec d p
  have htails : ((s.advanceToU t0).setGates d p).tails = (s.advanceToU t0).tails := (congrArg State.tails hrest :)
  refine ⟨(s.advanceToU t0).setGates d p, ?_, ?_, ?_, ?_⟩
  · show execGateChange d p s = _
    unfold execGateChange
    rw [h]
    dsimp only
    rw [hnext]
  · rw [State.tail_congr htails]
    exact s.fu_advanceToU t0
  · unfold State.nowU
    rw [State.tail_congr htails]
    exact hsome g h
  · exact congrArg (fun t : State => { t with tails := s.tails }) hrest

theorem State.cancelSleep_none {s : State} {d k : Nat} (h : s.attempt d k false = none) : s.cancelSleep d k = s := by
  unfold State.cancelSleep State.endAttempt
  rw [h]

theorem State.restoreWindows_tails (s : State) (d k : Nat) : (s.restoreWindows d k).tails = s.tails := by
  refine foldl_keeps (P := fun u : State => u.tails = s.tails) (fun u p hu => ?_) _ rfl
  refine foldl_keeps (P := fun u : State => u.tails = s.tails) (fun v c hv => ?_) _ hu
  unfold State.creditSync
  dsimp only
  split
  · exact hv
  · exact hv

theorem State.failSleep_tails (s : State) (n : Option Nat) (c : Compl) : (s.failSleep n c).tails = s.tails := by
  cases n with
  | none => rfl
  | some n => exact (Reports.complete _ n c).tails

theorem State.cancelSleep_tails (s : State) (d k : Nat) : (s.cancelSleep d k).tails = s.tails := by
  unfold State.cancelSleep State.endAttempt
  split
  · rfl
  · exact (State.failSleep_tails _ _ _).trans (State.restoreWindows_tails _ d k)

theorem exec_gatePrewake {s : State} {d p t0 : Nat} (h : s.nextOpening d p = some t0) : ∃ u : State,
    exec (.gatePrewake d p) s = .next u ∧ 5 * (t0 - 300 * 65536) ≤ (u.tail 5).fu ∧
    (s.hasResv d (portClu p) = true → s.upOrWaking d (portClu p) false = false → s.attempt d (portClu p) false = none → ∃ w,
      Tab.get? u.ledger.waking (gateKey d (portClu p) false) = some w ∧ w.resv = true ∧ w.got = 0 ∧ w.num = none) := by
  obtain ⟨k, hk⟩ : ∃ k, portClu p = k := ⟨_, rfl⟩
  obtain ⟨a, ha⟩ : ∃ a, (s.advanceToU (t0 - 300 * 65536)).cancelSleep d k = a := ⟨_, rfl⟩
  have htails : a.tails = (s.advanceToU (t0 - 300 * 65536)).tails := ha ▸ State.cancelSleep_tails _ _ _
  obtain ⟨n, hw, -, hgtails⟩ := a.grantWake_spec d k false none
  refine ⟨if a.hasResv d k && !a.upOrWaking d k false then a.grantWake d k false none else a, ?_, ?_, ?_⟩
  · show execGatePrewake d p s = _
    unfold execGatePrewake
    rw [h]
    dsimp only
    rw [hk, ha]
  · have hall : (if a.hasResv d k && !a.upOrWaking d k false then a.grantWake d k false none else a).tails =
        (s.advanceToU (t0 - 300 * 65536)).tails := by
      split
      · exact hgtails.trans htails
      · exact htails
    rw [State.tail_congr hall]
    exact s.fu_advanceToU _
  · rw [hk]
    intro hresv hup hatt
    have haeq : a = s.advanceToU (t0 - 300 * 65536) := ha ▸ State.cancelSleep_none hatt
    have hresv' : a.hasResv d k = true := by rw [haeq]; exact hresv
    have hup' : a.upOrWaking d k false = false := by rw [haeq]; exact hup
    rw [hresv'] at hw
    rw [hresv', hup']
    exact ⟨_, hw, rfl, rfl, rfl⟩

/-! ### Temperatures (R351, R352) -/

/-- The registers of region `i` of the ledger. -/
def tempKey (i k : Nat) : Prop :=
  ∃ off, k = regKey locLed off ∧ (off / 8 = 0x24 + i ∨ off / 16 = 0x16 + i ∨ off / 8 = 0x40 + i)

/-- What a region's sample writes: the registers of its region, and what an event does. -/
def sampleKey (i k : Nat) : Prop := reportKey k ∨ tempKey i k

theorem tempKey_region {i off : Nat} (h : off / 8 = 0x24 + i ∨ off / 16 = 0x16 + i ∨ off / 8 = 0x40 + i) :
    sampleKey i (regKey locLed off) := .inr ⟨off, rfl, h⟩

/-- A register of the ledger that neither an event nor a region's sample writes. -/
theorem not_sampleKey {i off : Nat} (hoff : off < 0x304) (h1 : off / 8 ≠ 0x24 + i) (h2 : off / 16 ≠ 0x16 + i) (h3 : off / 8 ≠ 0x40 + i) :
    ¬ sampleKey i (regKey locLed off) := by
  rintro (hrep | ⟨o, ho, hcase⟩)
  · simp only [reportKey, regKey, locFp, locLed, R.POW_CNT_DENIED] at hrep
    omega
  · simp only [regKey, locLed] at ho
    omega

theorem RegsOnly.regSync (s : State) (i : Nat) (b : Bool) : RegsOnly (sampleKey i) s (s.regSync i b) := by
  unfold State.regSync
  dsimp only
  have hput : ∀ (u : State) (f : Fld) v, (f.off / 8 = 0x24 + i ∨ f.off / 16 = 0x16 + i ∨ f.off / 8 = 0x40 + i) →
      RegsOnly (sampleKey i) u (u.ledPut f v) := fun u f v h => .put u v (tempKey_region h)
  refine RegsOnly.trans (t := ((((((s.ledPut _ _).ledPut _ _).ledPut _ _).ledPut _ _).ledPut _ _).ledPut _ _)) ?_
    (.ite _ ((RegsOnly.event _ _ _ _ none).mono fun k hk => .inl hk) (.refl _))
  refine ((((RegsOnly.trans (hput s _ _ ?_) (hput _ _ _ ?_)).trans (hput _ _ _ ?_)).trans (hput _ _ _ ?_)).trans (hput _ _ _ ?_)).trans
    (hput _ _ _ ?_) <;> simp only [R.POW_REG_EFFECTIVE, R.POW_CLU_EFFECTIVE, R.POW_REG_OVER, R.POW_CLU_OVER] <;> omega

/-- The four readings of region `i` are stored. -/
def State.readings (s : State) (i : Nat) (rs : List Int) : State :=
  (((s.ledPut (R.POW_REG_TEMP_SENSOR0 i) (satBits (rs.getD 0 0) 16)).ledPut (R.POW_REG_TEMP_SENSOR1 i)
    (satBits (rs.getD 1 0) 16)).ledPut (R.POW_REG_TEMP_SENSOR2 i) (satBits (rs.getD 2 0) 16)).ledPut
    (R.POW_REG_TEMP_SENSOR3 i) (satBits (rs.getD 3 0) 16)

/-- The hottest of a region's four readings. -/
def hottest (rs : List Int) : Int := max (max (rs.getD 0 0) (rs.getD 1 0)) (max (rs.getD 2 0) (rs.getD 3 0))

/-- The derating step that a region's readings set. -/
def State.heatStep (s : State) (i : Nat) (rs : List Int) : Nat :=
  stepFor (sx (s.led R.POW_THERM_KNEE) 16) (s.led R.POW_THERM_HYST) (hottest rs) (s.led (R.POW_REG_STEP i))

/-- Every reading of a region is valid and none above the grade's maximum. -/
def goodSample (p : Part) (rs : List Int) : Prop := ∀ k, k < 4 → readingOk rs k = true ∧ rs.getD k 0 ≤ gradeMax p

/-- The sample of a region whose readings are good. -/
def State.goodStep (s : State) (i : Nat) (rs : List Int) : State :=
  ((s.readings i rs).ledPut (R.POW_REG_STEP i) ((s.readings i rs).heatStep i rs)).regSync i
    ((s.readings i rs).heatStep i rs != (s.readings i rs).led (R.POW_REG_STEP i))

theorem RegsOnly.goodStep (s : State) (i : Nat) (rs : List Int) : RegsOnly (sampleKey i) s (s.goodStep i rs) := by
  have hput : ∀ (u : State) (f : Fld) v, (f.off / 8 = 0x24 + i ∨ f.off / 16 = 0x16 + i ∨ f.off / 8 = 0x40 + i) →
      RegsOnly (sampleKey i) u (u.ledPut f v) := fun u f v h => .put u v (tempKey_region h)
  refine ((((RegsOnly.trans (hput s _ _ ?_) (hput _ _ _ ?_)).trans (hput _ _ _ ?_)).trans (hput _ _ _ ?_)).trans
    (hput _ _ _ ?_)).trans (.regSync _ _ _) <;>
    simp only [R.POW_REG_TEMP_SENSOR0, R.POW_REG_TEMP_SENSOR1, R.POW_REG_TEMP_SENSOR2, R.POW_REG_TEMP_SENSOR3, R.POW_REG_STEP] <;> omega

theorem Reports.goodStep (s : State) (i : Nat) (rs : List Int) : Reports s (s.goodStep i rs) :=
  (((((Reports.ledPut s _ _).trans (.ledPut _ _ _)).trans (.ledPut _ _ _)).trans (.ledPut _ _ _)).trans (.ledPut _ _ _)).trans
    (.regSync _ _ _)

/-- The rest of a region's sample, from the hottest valid reading and the readings that are not valid. -/
def State.sampleFrom (s : State) (i : Nat) (rs : List Int) (hot : Option Int) (bad : List Nat) : State :=
  let r := s.readings i rs
  let st := match hot with
    | none => 6
    | some t => stepFor (sx (r.led R.POW_THERM_KNEE) 16) (r.led R.POW_THERM_HYST) t (r.led (R.POW_REG_STEP i))
  let u := bad.foldl (fun u k => u.raise (mkLoc (i / 2) (i % 2) 0 20 2) 0x11 k)
    ((r.ledPut (R.POW_REG_STEP i) st).regSync i (st != r.led (R.POW_REG_STEP i)))
  match hot with
  | some t => if gradeMax u.part < t then u.raise (mkLoc (i / 2) (i % 2) 0 20 2) 0x10 (toBits t 32) else u
  | none => u

/-- The hottest of some readings. -/
def hotOf (l : List Int) : Option Int := l.foldl (fun m t => match m with
  | none => some t
  | some x => some (max x t)) none

theorem State.sample_eq (s : State) (i : Nat) (rs : List Int) : s.sample i rs = s.sampleFrom i rs
    (hotOf (((List.range 4).filter (readingOk rs)).map (fun k => rs.getD k 0)))
    ((List.range 4).filter (fun k => !readingOk rs k)) := rfl

theorem State.sample_good {s : State} {i : Nat} {rs : List Int} (h : goodSample s.part rs) : s.sample i rs = s.goodStep i rs := by
  have hgood : (List.range 4).filter (readingOk rs) = List.range 4 :=
    List.filter_eq_self.2 fun k hk => (h k (List.mem_range.1 hk)).1
  have hbad : (List.range 4).filter (fun k => !readingOk rs k) = [] := by
    refine List.filter_eq_nil_iff.2 fun k hk => ?_
    rw [(h k (List.mem_range.1 hk)).1]
    decide
  have hhot : hotOf ((List.range 4).map (fun k => rs.getD k 0)) = some (hottest rs) := by
    show some (max (max (max (rs.getD 0 0) (rs.getD 1 0)) (rs.getD 2 0)) (rs.getD 3 0)) = _
    rw [max_assoc]
    rfl
  have hmax : hottest rs ≤ gradeMax s.part := by
    have h0 := (h 0 (by decide)).2
    have h1 := (h 1 (by decide)).2
    have h2 := (h 2 (by decide)).2
    have h3 := (h 3 (by decide)).2
    unfold hottest
    omega
  have hpart : (s.goodStep i rs).part = s.part := (RegsOnly.goodStep s i rs).part
  rw [State.sample_eq, hgood, hbad, hhot]
  change (if gradeMax (s.goodStep i rs).part < hottest rs then _ else s.goodStep i rs) = _
  rw [hpart, if_neg (by omega)]

theorem satBits_lt16 (v : Int) : satBits v 16 < 65536 := by
  unfold satBits toBits
  split
  · omega
  · split <;> omega

theorem stepFor_lt (knee hyst t : Int) (cur : Nat) : stepFor knee hyst t cur < 8 := by
  have hle : ∀ p : Nat → Bool, ((List.range 7).filter p).length ≤ 7 := fun p => List.length_filter_le p (List.range 7)
  unfold stepFor
  have h1 := hle fun k => decide (1 ≤ k) && decide (stepAt knee k ≤ t)
  have h2 := hle fun k => decide (1 ≤ k) && decide (k ≤ cur) && decide (stepAt knee k - hyst < t)
  dsimp only
  omega

/-- What a region's good sample leaves in its registers. -/
structure TempsSet (s u : State) (i : Nat) (rs : List Int) : Prop where
  s0 : u.led (R.POW_REG_TEMP_SENSOR0 i) = satBits (rs.getD 0 0) 16
  s1 : u.led (R.POW_REG_TEMP_SENSOR1 i) = satBits (rs.getD 1 0) 16
  s2 : u.led (R.POW_REG_TEMP_SENSOR2 i) = satBits (rs.getD 2 0) 16
  s3 : u.led (R.POW_REG_TEMP_SENSOR3 i) = satBits (rs.getD 3 0) 16
  step : u.led (R.POW_REG_STEP i) = s.heatStep i rs

/-- The fields that a region's sample sets. -/
def tempFlds (i : Nat) : List Fld :=
  [R.POW_REG_TEMP_SENSOR0 i, R.POW_REG_TEMP_SENSOR1 i, R.POW_REG_TEMP_SENSOR2 i, R.POW_REG_TEMP_SENSOR3 i, R.POW_REG_STEP i]

/-- The fields of a region that are recomputed. -/
def syncFlds (i : Nat) : List Fld :=
  [R.POW_REG_EFFECTIVE i, R.POW_CLU_EFFECTIVE (2 * i), R.POW_CLU_EFFECTIVE (2 * i + 1), R.POW_REG_OVER i, R.POW_CLU_OVER (2 * i),
    R.POW_CLU_OVER (2 * i + 1)]

theorem syncFlds_apart : ∀ i < 8, ∀ g ∈ syncFlds i, ∀ f ∈ tempFlds i, g.apart f = true := by decide

theorem tempFlds_off : ∀ i < 8, ∀ f ∈ tempFlds i, f.off < 0x300 := by decide

/-- The registers of two regions lie apart. -/
theorem tempFlds_apart : ∀ i < 8, ∀ j < 8, j ≠ i → ∀ f ∈ tempFlds i,
    f.off / 8 ≠ 0x24 + j ∧ f.off / 16 ≠ 0x16 + j ∧ f.off / 8 ≠ 0x40 + j := by
  intro i hi j hj hne f hf
  simp only [tempFlds, List.mem_cons, List.not_mem_nil, or_false] at hf
  rcases hf with rfl | rfl | rfl | rfl | rfl <;>
    simp only [R.POW_REG_TEMP_SENSOR0, R.POW_REG_TEMP_SENSOR1, R.POW_REG_TEMP_SENSOR2, R.POW_REG_TEMP_SENSOR3, R.POW_REG_STEP] <;>
    omega

/-- The recomputing of a region leaves its readings and its step. -/
theorem State.led_regSync (s : State) {i : Nat} (hi : i < 8) (b : Bool) {f : Fld} (hf : f ∈ tempFlds i) :
    (s.regSync i b).led f = s.led f := by
  have hput : ∀ (u : State) (g : Fld) v, g ∈ syncFlds i → (u.ledPut g v).led f = u.led f := fun u g v hg =>
    State.fld_put_apart u locLed v (syncFlds_apart i hi g hg f hf)
  have hevent : ∀ (u : State) kind result time, (u.event' kind result time).led f = u.led f := by
    intro u kind result time
    refine (RegsOnly.event u kind result time none).fld ?_
    have hoff := tempFlds_off i hi f hf
    simp only [reportKey, regKey, locFp, locLed, R.POW_CNT_DENIED]
    omega
  unfold State.regSync
  dsimp only
  rw [apply_ite (fun u : State => u.led f), hevent, ite_self]
  rw [hput _ (R.POW_CLU_OVER (2 * i + 1)) _ (by simp [syncFlds]), hput _ (R.POW_CLU_OVER (2 * i)) _ (by simp [syncFlds]),
    hput _ (R.POW_REG_OVER i) _ (by simp [syncFlds]), hput _ (R.POW_CLU_EFFECTIVE (2 * i + 1)) _ (by simp [syncFlds]),
    hput _ (R.POW_CLU_EFFECTIVE (2 * i)) _ (by simp [syncFlds]), hput _ (R.POW_REG_EFFECTIVE i) _ (by simp [syncFlds])]

theorem State.goodStep_temps (s : State) {i : Nat} (hi : i < 8) (rs : List Int) : TempsSet s (s.goodStep i rs) i rs := by
  obtain ⟨r, hr⟩ : ∃ r, s.readings i rs = r := ⟨_, rfl⟩
  have hstep : r.led (R.POW_REG_STEP i) = s.led (R.POW_REG_STEP i) := by
    rw [← hr]
    simp only [State.readings, State.led, State.ledPut]
    iterate 4 rw [State.fld_put_off _ _ _ (by simp only [R.POW_REG_STEP, R.POW_REG_TEMP_SENSOR0, R.POW_REG_TEMP_SENSOR1,
      R.POW_REG_TEMP_SENSOR2, R.POW_REG_TEMP_SENSOR3]; omega)]
  have htherm : ∀ f : Fld, f.off = 0x300 → r.led f = s.led f := by
    intro f hf
    rw [← hr]
    simp only [State.readings, State.led, State.ledPut]
    iterate 4 rw [State.fld_put_off _ _ _ (by simp only [hf, R.POW_REG_TEMP_SENSOR0, R.POW_REG_TEMP_SENSOR1,
      R.POW_REG_TEMP_SENSOR2, R.POW_REG_TEMP_SENSOR3]; omega)]
  have hheat : r.heatStep i rs = s.heatStep i rs := by
    unfold State.heatStep
    rw [hstep, htherm _ rfl, htherm _ rfl]
  have hsync : ∀ f ∈ tempFlds i, (s.goodStep i rs).led f = (r.ledPut (R.POW_REG_STEP i) (s.heatStep i rs)).led f := by
    intro f hf
    unfold State.goodStep
    rw [hr, hheat]
    exact State.led_regSync _ hi _ hf
  have hread : ∀ f : Fld, f.off ≠ 0x124 + 8 * i → (r.ledPut (R.POW_REG_STEP i) (s.heatStep i rs)).led f = r.led f := fun f hf =>
    State.fld_put_off r locLed _ hf
  constructor
  · rw [hsync _ (by simp [tempFlds]), hread _ (by simp only [R.POW_REG_TEMP_SENSOR0]; omega), ← hr]
    simp only [State.readings, State.led, State.ledPut]
    rw [State.fld_put_off _ _ _ (by simp [R.POW_REG_TEMP_SENSOR0, R.POW_REG_TEMP_SENSOR3]),
      State.fld_put_off _ _ _ (by simp [R.POW_REG_TEMP_SENSOR0, R.POW_REG_TEMP_SENSOR2]),
      State.fld_put_apart _ _ _ (by simp [Fld.apart, R.POW_REG_TEMP_SENSOR0, R.POW_REG_TEMP_SENSOR1]), State.fld_put_self _ _ _ (show 0 + 16 ≤ 32 by decide)]
    exact Nat.mod_eq_of_lt (satBits_lt16 _)
  · rw [hsync _ (by simp [tempFlds]), hread _ (by simp only [R.POW_REG_TEMP_SENSOR1]; omega), ← hr]
    simp only [State.readings, State.led, State.ledPut]
    rw [State.fld_put_off _ _ _ (by simp [R.POW_REG_TEMP_SENSOR1, R.POW_REG_TEMP_SENSOR3]),
      State.fld_put_off _ _ _ (by simp [R.POW_REG_TEMP_SENSOR1, R.POW_REG_TEMP_SENSOR2]), State.fld_put_self _ _ _ (show 16 + 16 ≤ 32 by decide)]
    exact Nat.mod_eq_of_lt (satBits_lt16 _)
  · rw [hsync _ (by simp [tempFlds]), hread _ (by simp only [R.POW_REG_TEMP_SENSOR2]; omega), ← hr]
    simp only [State.readings, State.led, State.ledPut]
    rw [State.fld_put_apart _ _ _ (by simp [Fld.apart, R.POW_REG_TEMP_SENSOR2, R.POW_REG_TEMP_SENSOR3]), State.fld_put_self _ _ _ (show 0 + 16 ≤ 32 by decide)]
    exact Nat.mod_eq_of_lt (satBits_lt16 _)
  · rw [hsync _ (by simp [tempFlds]), hread _ (by simp only [R.POW_REG_TEMP_SENSOR3]; omega), ← hr]
    exact (State.fld_put_self _ _ _ (show 16 + 16 ≤ 32 by decide)).trans (Nat.mod_eq_of_lt (satBits_lt16 _))
  · rw [hsync _ (by simp [tempFlds])]
    exact (State.fld_put_self _ _ _ (show 16 + 3 ≤ 32 by decide)).trans (Nat.mod_eq_of_lt (stepFor_lt _ _ _ _))

/-- The registers of the regions of a list. -/
def samplesKey (l : List Nat) (k : Nat) : Prop := reportKey k ∨ ∃ i ∈ l, tempKey i k

theorem not_samplesKey {l : List Nat} {off : Nat} (hoff : off < 0x304)
    (h : ∀ i ∈ l, off / 8 ≠ 0x24 + i ∧ off / 16 ≠ 0x16 + i ∧ off / 8 ≠ 0x40 + i) : ¬ samplesKey l (regKey locLed off) := by
  rintro (hrep | ⟨i, hi, ht⟩)
  · simp only [reportKey, regKey, locFp, locLed, R.POW_CNT_DENIED] at hrep
    omega
  · exact not_sampleKey hoff (h i hi).1 (h i hi).2.1 (h i hi).2.2 (.inr ht)

/-- The regions' samples, one after another. -/
theorem State.samples_temps (rs : Nat → List Int) {l : List Nat} (hl : l.Nodup) (h8 : ∀ i ∈ l, i < 8) (s : State)
    (hgood : ∀ i ∈ l, goodSample s.part (rs i)) : ∃ u, l.foldl (fun u i => u.sample i (rs i)) s = u ∧ u.ledger = s.ledger ∧
      RegsOnly (samplesKey l) s u ∧ ∀ i ∈ l, TempsSet s u i (rs i) := by
  induction l generalizing s with
  | nil => exact ⟨s, rfl, rfl, .refl s, fun i hi => by cases hi⟩
  | cons a l ih =>
    obtain ⟨ha, hl⟩ := List.nodup_cons.1 hl
    have hone := RegsOnly.goodStep s a (rs a)
    have h8l : ∀ i ∈ l, i < 8 := fun i hi => h8 i (List.mem_cons_of_mem a hi)
    have ha8 := h8 a List.mem_cons_self
    obtain ⟨u, hu, hledger, hkeys, htemps⟩ := ih hl h8l (s.goodStep a (rs a)) fun i hi => by
      rw [hone.part]
      exact hgood i (List.mem_cons_of_mem a hi)
    refine ⟨u, ?_, hledger.trans (congrArg State.ledger (Reports.goodStep s a (rs a)).rest :), ?_, fun i hi => ?_⟩
    · rw [List.foldl_cons, State.sample_good (hgood a List.mem_cons_self), hu]
    · refine (hone.mono fun k hk => ?_).trans (hkeys.mono fun k hk => ?_)
      · exact hk.imp_right fun ht => ⟨a, List.mem_cons_self, ht⟩
      · exact hk.imp_right fun ⟨i, hi, ht⟩ => ⟨i, List.mem_cons_of_mem a hi, ht⟩
    · rcases List.mem_cons.1 hi with rfl | hi
      · have hkeep : ∀ f ∈ tempFlds i, u.led f = (s.goodStep i (rs i)).led f := fun f hf =>
          hkeys.fld (not_samplesKey (Nat.lt_trans (tempFlds_off i ha8 f hf) (by decide)) fun j hj => by
            have hj8 := h8l j hj
            have hji : j ≠ i := fun e => ha (e ▸ hj)
            exact tempFlds_apart i ha8 j hj8 hji f hf)
        have ht := State.goodStep_temps s ha8 (rs i)
        exact ⟨(hkeep _ (by simp [tempFlds])).trans ht.s0, (hkeep _ (by simp [tempFlds])).trans ht.s1,
          (hkeep _ (by simp [tempFlds])).trans ht.s2, (hkeep _ (by simp [tempFlds])).trans ht.s3,
          (hkeep _ (by simp [tempFlds])).trans ht.step⟩
      · have ht := htemps i hi
        have hai : a ≠ i := fun e => ha (e ▸ hi)
        refine ⟨ht.s0, ht.s1, ht.s2, ht.s3, ht.step.trans ?_⟩
        have hknee : ∀ f : Fld, f.off = 0x300 → (s.goodStep a (rs a)).led f = s.led f := fun f hf => by
          refine hone.fld ?_
          rw [hf]
          exact not_sampleKey (by decide) (by omega) (by omega) (by omega)
        have hstep : (s.goodStep a (rs a)).led (R.POW_REG_STEP i) = s.led (R.POW_REG_STEP i) := by
          have hapart := tempFlds_apart i (h8l i hi) a ha8 hai (R.POW_REG_STEP i) (by simp [tempFlds])
          exact hone.fld (not_sampleKey (Nat.lt_trans (tempFlds_off i (h8l i hi) _ (by simp [tempFlds])) (by decide)) hapart.1
            hapart.2.1 hapart.2.2)
        unfold State.heatStep
        rw [hstep, hknee _ rfl, hknee _ rfl]

/-- Settles O42: what is served is the first request of the order that the ledger grants, its effect that of its kind; gate
lists and prewakes follow their times; and the good samples of the regions write registers that lie apart. -/
theorem grantsSchedulesAndHeat : Obligations.GrantsSchedulesAndHeat := by
  unfold Obligations.GrantsSchedulesAndHeat
  intro s
  refine ⟨fun h => ?_, fun r hr hp hg => exec_wakeGrant_some hr hp hg, fun d p _ _ => ⟨fun h => ?_, fun t0 h => exec_gatePrewake h,
    fun h => ?_, fun g h => exec_gatelistStart h, fun h => ?_, fun g t0 h hnext => exec_gateChange h hnext⟩, fun readings h => ?_⟩
  · have hnone : s.nextGrant = none := List.findSome?_eq_none_iff.2 fun r hr =>
      h r (State.mem_inOrder.1 hr).1 (State.mem_inOrder.1 hr).2
    show execWakeGrant s = _
    unfold execWakeGrant
    rw [hnone]
    rfl
  · show execGatePrewake d p s = _
    unfold execGatePrewake
    rw [h]
  · show execGatelistStart d p s = _
    unfold execGatelistStart
    rw [h]
  · show execGateChange d p s = _
    unfold execGateChange
    rw [h]
  · have hmem : ∀ {i}, i ∈ (List.range 8).filter (fun i => dieOn s.part (i / 2)) ↔ i < 8 ∧ dieOn s.part (i / 2) = true := by
      simp
    obtain ⟨u, hu, hledger, -, htemps⟩ := State.samples_temps (fun i => (readings.drop (4 * i)).take 4)
      (List.nodup_range.filter fun i => dieOn s.part (i / 2)) (fun i hi => (hmem.1 hi).1) s
      fun i hi k hk => h i (hmem.1 hi).1 (hmem.1 hi).2 k hk
    refine ⟨u, ?_, hledger, fun i hi hd => ?_⟩
    · show execThermalSample readings s = _
      unfold execThermalSample
      dsimp only
      rw [hu]
    · obtain ⟨h0, h1, h2, h3, hstep⟩ := htemps i (hmem.2 ⟨hi, hd⟩)
      exact ⟨h0, h1, h2, h3, hstep⟩

end Sys2Proof.Machine
end

section
/-! PROOFS. FLT.CLEAR of all kinds where a containment holds a frame of a class that no queue has (R310, R380). -/

namespace Sys2Proof.Machine

/-- FLT.CLEAR of all kinds. -/
def clearFlight : Flight :=
  { num := 0, ring := 0, cmd := { opcode := 0xC1, loc := locCol, opa := 1 }, td := {}, tags := [], tag0 := 0, phase := .issued }

/-- The class whose counter of discards at port 0 of die 0 lies, in the register file, on the pending flag of kind 1. -/
def farClass : Nat := (regKey locCol (R.FLT_PEND_REAL 1).off - 0x8C0) / 4

/-- Kind 0x62 contains unit 0 of die 0, at whose port 0 the host's frame of that class waits. -/
def clearFar : State :=
  { State.reset with
    plyn := { flights := [clearFlight] }
    faults := { conts := [{ kind := 0x62, level := 1, loc := portLoc 0 0 }] }
    ports := [(portKey 0 0, { hostQ := [{ bytes := [], cls := farClass, tsReq := false, tsId := 0, fid := 0 }] })] }

theorem clearFar_starts : Starts (isClear 1) mFltClear 0 clearFlight clearFar :=
  ⟨by decide +kernel, by decide +kernel, by decide +kernel, fun h => absurd h (by decide)⟩

/-- The discard of the frame, counted when kind 0x62 lets its unit go, marks kind 1 as pending again. -/
theorem pendSet_clearFar {t : State} (h : exec (.fltClearAll 0) clearFar = .next t) :
    t.flag locCol (R.FLT_PEND_REAL 1) = true := by
  have hrun : (match exec (.fltClearAll 0) clearFar with
      | .next t => t.flag locCol (R.FLT_PEND_REAL 1)
      | _ => false) = true := by decide +kernel
  rwa [h] at hrun

/-- The pins and a completion leave every pending flag. -/
theorem State.real_faultNSync_complete (u : State) (n : Nat) (c : Compl) :
    (u.faultNSync.complete n c).flag locCol (R.FLT_PEND_REAL 1) = u.flag locCol (R.FLT_PEND_REAL 1) := by
  have hkey : ¬ reportKey (regKey locCol (R.FLT_PEND_REAL 1).off) := not_reportKey (by decide) (.inl (by decide)) (by decide)
  refine (congrArg (· == 1) ((RegsOnly.complete u.faultNSync n c).fld hkey)).trans (congrArg (· == 1) ?_)
  have hfp : ∀ v : State, (v.fpInt intFaultN).fld locCol (R.FLT_PEND_REAL 1) = v.fld locCol (R.FLT_PEND_REAL 1) := fun v =>
    (RegsOnly.fpInt v intFaultN).fld hkey
  unfold State.faultNSync
  dsimp only
  rw [apply_ite (fun v : State => v.fld locCol (R.FLT_PEND_REAL 1)), hfp, ite_self]
  exact State.fld_put_off u locCol _ (by decide)

/-- Refutes O43: in a state the class of a waiting frame is any number, and so is the place of the counter that its discard
moves. FLT.CLEAR of all kinds discards such a frame after it cleared kind 1, whose flag the counter sets again. -/
theorem not_faultsAreLoggedAndHandled : ¬ Obligations.FaultsAreLoggedAndHandled := by
  unfold Obligations.FaultsAreLoggedAndHandled
  intro h
  obtain ⟨-, -, -, hall, -⟩ := h.2 0 clearFlight clearFar
  obtain ⟨u, hexec, hnone⟩ := hall clearFar_starts
  have hset := pendSet_clearFar hexec
  rw [State.real_faultNSync_complete] at hset
  have hclear := hnone 1 (by decide)
  unfold State.pendSet at hclear
  rw [hset] at hclear
  cases hclear

end Sys2Proof.Machine
end

section
/-! PROOFS. What the report of a fault leaves (R364 to R371): the registers it writes, and a report without a reaction. -/

namespace Sys2Proof.Machine

/-- The registers that the collector's work writes: those of reporting, its own and the arbiter's, and those of synthesizers,
outputs and triggers. -/
def alarmKey (k : Nat) : Prop :=
  reportKey k ∨ 0xC200 * 16777216 ≤ k ∨ (locCol * 16777216 ≤ k ∧ k < locLed * 16777216)

theorem alarmKey_col {off : Nat} (h : off < 16777216) : alarmKey (regKey locCol off) := by
  simp only [alarmKey, regKey, locCol, locLed]
  omega

theorem alarmKey_of_hub {loc off : Nat} (h : 0xC200 ≤ loc) : alarmKey (regKey loc off) := by
  simp only [alarmKey, regKey]
  omega

/-- The registers of the clock unit, of the dies and of the bridges are none of them. -/
theorem not_alarmKey {loc off : Nat} (h : loc < locCol ∨ loc = locClk) (hoff : off < 16777216) : ¬ alarmKey (regKey loc off) := by
  have hrep : ¬ reportKey (regKey loc off) := not_reportKey (by simp only [locFp, locCol, locClk] at *; omega)
    (.inl (by simp only [locLed, locCol, locClk] at *; omega)) hoff
  rintro (hk | hk | hk)
  · exact hrep hk
  all_goals
    simp only [regKey, locCol, locLed, locClk] at *
    omega

/-- What a report with its reaction at the hub leaves. -/
structure AlarmKept (s t : State) : Prop where
  rest : { t with regs := s.regs, rings := s.rings, plyn := s.plyn, env := s.env, msixPend := s.msixPend, sent := s.sent,
                  faults := s.faults } = s
  regs : RegsOnly alarmKey s t

section
variable {s t u : State}

theorem AlarmKept.refl (s : State) : AlarmKept s s := ⟨rfl, .refl s⟩

theorem AlarmKept.trans (h : AlarmKept s t) (k : AlarmKept t u) : AlarmKept s u := by
  refine ⟨?_, h.regs.trans k.regs⟩
  conv => rhs; rw [← h.rest, ← k.rest]

theorem AlarmKept.ite (p : Prop) [Decidable p] (h : AlarmKept s t) (k : AlarmKept s u) : AlarmKept s (if p then t else u) := by
  split
  · exact h
  · exact k

theorem AlarmKept.foldl {α : Type} {f : State → α → State} {l : List α} (h : ∀ s, ∀ x ∈ l, AlarmKept s (f s x)) (s : State) :
    AlarmKept s (l.foldl f s) := by
  induction l generalizing s with
  | nil => exact .refl s
  | cons x l ih => exact (h s x List.mem_cons_self).trans (ih (fun s y hy => h s y (List.mem_cons_of_mem x hy)) _)

theorem AlarmKept.fld (h : AlarmKept s t) {l : Nat} {f : Fld} (hl : l < locCol ∨ l = locClk) (hoff : f.off < 16777216) :
    t.fld l f = s.fld l f := h.regs.fld (not_alarmKey hl hoff)

theorem AlarmKept.flag (h : AlarmKept s t) {l : Nat} {f : Fld} (hl : l < locCol ∨ l = locClk) (hoff : f.off < 16777216) :
    t.flag l f = s.flag l f := congrArg (· == 1) (h.fld hl hoff)

theorem AlarmKept.tails (h : AlarmKept s t) : t.tails = s.tails := (congrArg State.tails h.rest :)

theorem AlarmKept.of_reports (h : Reports s t) (hregs : RegsOnly alarmKey s t) : AlarmKept s t := by
  refine ⟨?_, hregs⟩
  conv => rhs; rw [← h.rest]
  rw [show t.faults = s.faults from (congrArg State.faults h.rest :)]

end

theorem RegsOnly.alarmCol (s : State) {f : Fld} (v : Nat) (h : f.off < 16777216) : RegsOnly alarmKey s (s.put locCol f v) :=
  .put s v (alarmKey_col h)

theorem RegsOnly.alarmReport {s t : State} (h : ReportRegs s t) : RegsOnly alarmKey s t := h.mono fun _ hk => .inl hk

theorem RegsOnly.alarmPair (s : State) {lo hi : Fld} (v : Nat) (h1 : lo.off < 16777216) (h2 : hi.off < 16777216) :
    RegsOnly alarmKey s (s.putPair locCol lo hi v) := (RegsOnly.alarmCol s _ h1).trans (.alarmCol _ _ h2)

theorem RegsOnly.alarmLatch (s : State) {base : Nat} (msg time : Nat) (h : base < 0x100) :
    RegsOnly alarmKey s (s.latch base msg time) := by
  have hoff : ∀ k, k < 0x100 → base + k < 16777216 := fun k hk => by omega
  unfold State.latch
  exact .ite _ ((RegsOnly.alarmCol s _ (hoff _ (by decide))).trans (.alarmCol _ _ (hoff _ (by decide))))
    (((RegsOnly.alarmPair s _ (hoff 0 (by decide)) (hoff 4 (by decide))).trans (.alarmPair _ _ (hoff 8 (by decide))
      (hoff 12 (by decide)))).trans (.alarmCol _ _ (hoff _ (by decide))))

theorem RegsOnly.alarmPins (s : State) : RegsOnly alarmKey s s.faultNSync := by
  have h : RegsOnly alarmKey s (s.putB locCol R.FLT_STAT_FAULT_N_LOW s.faultNCond) := .alarmCol s _ (by decide)
  unfold State.faultNSync
  exact .ite _ (h.trans (.alarmReport (.fpInt _ _))) h

/-- The registers that logging a fault writes. -/
theorem RegsOnly.alarmLog (s : State) {m : FaultMsg} (hm : m.kind < 256) : RegsOnly alarmKey s (s.logFault m) := by
  have hi : s.fld locCol R.FLT_LOG_PTR_NEXT < 1024 := Nat.mod_lt _ (by decide)
  have hpend : ∀ f : Nat → Fld, (∀ i, (f i).off = 0x400 + 4 * i) → (f m.kind).off < 16777216 := fun f hf => by rw [hf]; omega
  have hlog : ∀ c, c < 16 → 0x10000 + c + 16 * s.fld locCol R.FLT_LOG_PTR_NEXT < 16777216 := fun c hc => by omega
  unfold State.logFault
  dsimp only
  refine RegsOnly.trans ?_ (.alarmPins _)
  refine RegsOnly.trans ?_ (.ite _ (.alarmReport (.event _ _ _ _ _)) (.refl _))
  refine RegsOnly.trans ?_ (.ite _ (.alarmLatch _ _ _ (by decide)) (.refl _))
  refine RegsOnly.trans ?_ (.ite _ (.alarmLatch _ _ _ (by decide)) (.refl _))
  refine ((((RegsOnly.trans ?_ (.alarmPair _ _ (hlog 8 (by decide)) (hlog 12 (by decide)))).trans
    (.alarmCol _ _ (by decide))).trans (.alarmCol _ _ ?_)).trans
    (.alarmCol _ _ (hpend _ fun _ => rfl))).trans (.alarmCol _ _ (hpend R.FLT_PEND_COUNT fun _ => rfl))
  · exact (RegsOnly.ite _ (.alarmCol _ _ (by decide)) (.refl _)).trans (.alarmPair _ _ (hlog 0 (by decide)) (hlog 4 (by decide)))
  · split
    · exact hpend R.FLT_PEND_INJ fun _ => rfl
    · exact hpend R.FLT_PEND_REAL fun _ => rfl

/-! ### Safe state (R369) -/

theorem AlarmKept.put (s : State) {loc : Nat} {f : Fld} (v : Nat) (h : 0xC200 ≤ loc) : AlarmKept s (s.put loc f v) :=
  ⟨rfl, .put s v (alarmKey_of_hub h)⟩

theorem AlarmKept.muteOut (s : State) (k o : Nat) : AlarmKept s (s.muteOut k o) := by
  have hloc : 0xC200 ≤ mkLoc 6 0 0 (8 + k) o := by
    unfold mkLoc
    omega
  unfold State.muteOut
  exact .ite _ (.refl s) (((AlarmKept.put s _ hloc).trans (.put _ _ hloc)).trans (.put _ _ hloc))

theorem AlarmKept.muteTrig (s : State) (n : Nat) : AlarmKept s (s.muteTrig n) := by
  have hloc : 0xC200 ≤ hubLoc (20 + n) := by
    unfold hubLoc mkLoc
    omega
  unfold State.muteTrig
  exact .ite _ (.put s _ hloc) (.refl s)

theorem AlarmKept.safeMutes (s : State) (every : Bool) : AlarmKept s (s.safeMutes every) :=
  (AlarmKept.foldl (fun s x _ => AlarmKept.ite _ (.muteOut s x.1 x.2) (.refl s)) s).trans
    (.foldl (fun s n _ => AlarmKept.ite _ (.muteTrig s n) (.refl s)) _)

/-- Muting leaves the collector's registers. -/
theorem State.fld_safeMutes (s : State) (every : Bool) {f : Fld} (hoff : f.off < 16777216) :
    (s.safeMutes every).fld locCol f = s.fld locCol f := by
  have hput : ∀ (u : State) {loc : Nat} (g : Fld) v, 0xC200 ≤ loc → (u.put loc g v).fld locCol f = u.fld locCol f :=
    fun u loc g v hloc => (RegsOnly.put (K := fun k => 0xC200 * 16777216 ≤ k) u v (by unfold regKey; omega)).fld (by
      simp only [regKey, locCol]
      omega)
  have hout : ∀ (u : State) k o, (u.muteOut k o).fld locCol f = u.fld locCol f := fun u k o => by
    have hloc : 0xC200 ≤ mkLoc 6 0 0 (8 + k) o := by
      unfold mkLoc
      omega
    unfold State.muteOut State.bump State.bumpBy
    dsimp only
    split
    · rfl
    · rw [hput _ _ _ hloc, hput _ _ _ hloc, hput _ _ _ hloc]
  have htrig : ∀ (u : State) n, (u.muteTrig n).fld locCol f = u.fld locCol f := fun u n => by
    have hloc : 0xC200 ≤ hubLoc (20 + n) := by
      unfold hubLoc mkLoc
      omega
    unfold State.muteTrig
    dsimp only
    split
    · exact hput _ _ _ hloc
    · rfl
  refine (foldl_keeps (P := fun u : State => u.fld locCol f = (allOuts.foldl _ s).fld locCol f) (fun u n hu => ?_) _ rfl).trans
    (foldl_keeps (P := fun u : State => u.fld locCol f = s.fld locCol f) (fun u x hu => ?_) _ rfl)
  · split
    · exact (htrig u n).trans hu
    · exact hu
  · split
    · exact (hout u x.1 x.2).trans hu
    · exact hu

/-- The pins leave the collector's other registers. -/
theorem State.fld_faultNSync (s : State) {f : Fld} (hoff : f.off < 16777216) (h : R.FLT_STAT_FAULT_N_LOW.apart f = true) :
    s.faultNSync.fld locCol f = s.fld locCol f := by
  have hfp : ∀ v : State, (v.fpInt intFaultN).fld locCol f = v.fld locCol f := fun v =>
    (RegsOnly.fpInt v intFaultN).fld (not_reportKey (by decide) (.inl (by decide)) hoff)
  unfold State.faultNSync
  dsimp only
  rw [apply_ite (fun v : State => v.fld locCol f), hfp, ite_self]
  exact State.fld_put_apart s locCol _ h

theorem State.safe_faultNSync (s : State) : s.faultNSync.safe = s.safe :=
  congrArg (· == 1) (s.fld_faultNSync (by decide) (by decide))

theorem State.safe_safeMutes (s : State) (every : Bool) : (s.safeMutes every).safe = s.safe :=
  congrArg (· == 1) (s.fld_safeMutes every (by decide))

/-- The entry into safe state, taken apart. -/
def State.safeEntry (s : State) (kind : Nat) : State :=
  (((s.put locCol R.FLT_STAT_SAFE 1).put locCol R.FLT_STAT_SAFE_KIND kind).bump locCol R.FLT_STAT_SAFE_ENTRIES).fpInt intSafeEntry

/-- The mark of a kind that only a reset ends. -/
def State.onlyMarked (s : State) (kind : Nat) : State :=
  if resetOnly kind then
    (s.setFaults { s.faults with only := if s.faults.only.contains kind then s.faults.only else kind :: s.faults.only }).put
      locCol R.FLT_STAT_RESET_ONLY 1
  else s

theorem State.enterSafe_eq (s : State) (kind : Nat) : s.enterSafe kind = if (s.onlyMarked kind).safe then s.onlyMarked kind
    else ((((s.onlyMarked kind).safeEntry kind).safeMutes false).ccSync).faultNSync := rfl

theorem State.safe_safeEntry (s : State) (kind : Nat) : (s.safeEntry kind).safe = true := by
  have h : (s.safeEntry kind).fld locCol R.FLT_STAT_SAFE = 1 := by
    refine ((RegsOnly.fpInt _ intSafeEntry).fld (not_reportKey (by decide) (.inl (by decide)) (by decide))).trans ?_
    unfold State.bump State.bumpBy
    simp (disch := decide) only [State.fld_put_apart, State.fld_put_self]
    decide
  exact congrArg (· == 1) h

theorem State.safe_enterSafe (s : State) (kind : Nat) : (s.enterSafe kind).safe = true := by
  rw [State.enterSafe_eq]
  split
  · next h => exact h
  · have hcc : ∀ u : State, u.ccSync.safe = u.safe := fun u => congrArg (· == 1)
      (State.fld_put_loc (f := R.CC_NOW_CLOCK_CLASS) (g := R.FLT_STAT_SAFE) u u.clockClass (show locCol ≠ locArb by decide)
        (by decide) (by decide))
    rw [State.safe_faultNSync, hcc, State.safe_safeMutes, State.safe_safeEntry]

theorem AlarmKept.enterSafe (s : State) (kind : Nat) : AlarmKept s (s.enterSafe kind) := by
  have hmark : AlarmKept s (s.onlyMarked kind) := by
    unfold State.onlyMarked
    split
    · have hcol := fun u : State => RegsOnly.alarmCol u (f := R.FLT_STAT_RESET_ONLY) 1 (by decide)
      exact ⟨rfl, ⟨rfl, fun k hk => (hcol _).regs k hk⟩⟩
    · exact .refl s
  have hentry : ∀ u : State, AlarmKept u (u.safeEntry kind) := fun u => .of_reports
    ((((Reports.put u _ _ _).trans (.put _ _ _ _)).trans (.bump _ _ _)).trans (.fpInt _ _))
    ((((RegsOnly.alarmCol u _ (by decide)).trans (.alarmCol _ _ (by decide))).trans (.alarmCol _ _ (by decide))).trans
      (.alarmReport (.fpInt _ _)))
  have hcc : ∀ u : State, AlarmKept u u.ccSync := fun u => .of_reports (.put u _ _ _)
    (.put u _ (by simp only [alarmKey, regKey, locArb, locCol, locLed, R.CC_NOW_CLOCK_CLASS]; omega))
  have hpins : ∀ u : State, AlarmKept u u.faultNSync := fun u => .of_reports (.faultNSync u) (.alarmPins u)
  rw [State.enterSafe_eq]
  exact .ite _ hmark ((((hmark.trans (hentry _)).trans (.safeMutes _ _)).trans (hcc _)).trans (hpins _))

/-! ### Reports of faults -/

/-- A fault that the hub reports has no reaction but safe state. -/
theorem AlarmKept.raise (s : State) {loc kind : Nat} (detail : Nat) (hloc : locDie loc = 6) (hkind : kind < 256) :
    AlarmKept s (s.raise loc kind detail) := by
  have hlog : AlarmKept s (s.logFault { loc := loc, kind := kind, inj := false, detail := detail }) :=
    .of_reports (.logFault s _) (.alarmLog s hkind)
  unfold State.raise State.fault
  rw [if_neg (by rw [hloc]; decide)]
  unfold State.react
  split
  · exact hlog
  · exact hlog.trans (.enterSafe _ _)
  · rw [if_neg (by rw [hloc]; decide)]
    exact hlog

/-- A report that leaves nothing contained and no safe state was logged alone. -/
theorem State.raise_quiet {s : State} {loc kind detail : Nat} (hloc : locDie loc < 4)
    (hconts : (s.raise loc kind detail).faults.conts = []) (hsafe : (s.raise loc kind detail).safe = false) :
    s.raise loc kind detail = s.logFault { loc := loc, kind := kind, inj := false, detail := detail } := by
  have hdie : ¬ (locDie loc = 4 ∨ locDie loc = 5) := by omega
  obtain ⟨m, hm⟩ : ∃ m : FaultMsg, m = { loc := loc, kind := kind, inj := false, detail := detail } := ⟨_, rfl⟩
  have hfault : s.raise loc kind detail = (s.logFault m).react m := by
    unfold State.raise State.fault
    rw [if_neg hdie, hm]
  rw [hfault] at hconts hsafe
  rw [hfault, ← hm]
  unfold State.react at hconts hsafe ⊢
  split at hconts
  · rfl
  · next heq =>
    rw [heq] at hsafe
    exact absurd ((State.safe_enterSafe _ _).symm.trans hsafe) (by decide)
  · next heq =>
    rw [if_pos (by rw [hm]; exact hloc)] at hconts
    cases hconts

end Sys2Proof.Machine
end

section
/-! PROOFS. A shorted lane of a port that loses a frame of a class that no queue has (R246, R310). -/

namespace Sys2Proof.Machine

/-- The class whose counter of discards at port 64 of die 0 lies, in the register file, on the state of the port's lane. -/
def laneClass : Nat := (regKey (laneLoc 0 16 0) 4 - regKey (portLoc 0 64) 0x8C0) / 4

/-- A frame of that class. -/
def laneFrame : QEnt :=
  { fid := 0, frame := { bytes := [], die := 0, port := 64, stamp := 0, mono := 0, stepGen := 0, uncal := false }, cls := laneClass,
    queue := 0, cells := 0, src := 0, vlan := 0 }

/-- Port 64 of die 0 is UP and sends it, the seven lowest bits of its lane's state set. -/
def shortedLane : State :=
  { State.reset.setReg (laneLoc 0 16 0) 4 0x7F with ports := [(portKey 0 64, { sending := some laneFrame })] }.pput 0 64
    R.PORT_STAT_STATE psUp

theorem transmitShort_shortedLane {t : State} (h : exec (.transmitShort 0 64 0) shortedLane = .next t) :
    t.flag (laneLoc 0 16 0) R.LANE_STAT_TX_SHORT = false ∧ t.faults.conts = [] ∧ t.safe = false := by
  have hrun : (match exec (.transmitShort 0 64 0) shortedLane with
      | .next t => !t.flag (laneLoc 0 16 0) R.LANE_STAT_TX_SHORT && t.faults.conts == [] && !t.safe
      | _ => false) = true := by decide +kernel
  rw [h] at hrun
  simpa [and_assoc] using hrun

/-- Requests that are withdrawn leave registers and faults. -/
theorem State.withdrawWakes_rest (s : State) (d k : Nat) : { s.withdrawWakes d k with ledger := s.ledger } = s := by
  unfold State.withdrawWakes
  split <;> rfl

/-- Refutes O52: in a state the class of the frame that a port sends is any number, and so is the place of the counter that its
loss moves. The short marks its lane and takes the port to DISABLED; the frame lost there counts on the mark. -/
theorem not_lanesAreWatched : ¬ Obligations.LanesAreWatched := by
  unfold Obligations.LanesAreWatched
  intro h
  obtain ⟨hshort, -⟩ := h shortedLane 0 64
  obtain ⟨⟨u, hexec, -, -, hmark, -⟩, -⟩ := hshort (by decide +kernel) 0 (by decide +kernel)
  obtain ⟨v, hv⟩ : ∃ v, u.raise (laneLoc 0 16 0) 0x31 0 = v := ⟨_, rfl⟩
  change exec (.transmitShort 0 64 0) shortedLane =
    .next ((u.raise (laneLoc 0 16 0) 0x31 0).withdrawWakes 0 (portClu 64)) at hexec
  rw [hv] at hexec
  obtain ⟨hflag, hconts, hsafe⟩ := transmitShort_shortedLane hexec
  have hrest := v.withdrawWakes_rest 0 (portClu 64)
  have hfld := State.fld_congr (congrArg State.regs hrest :) (congrArg State.part hrest :)
  have hquiet := State.raise_quiet (s := u) (kind := 0x31) (detail := 0) (show locDie (laneLoc 0 16 0) < 4 by decide)
    (hv ▸ (congrArg (fun t : State => t.faults.conts) hrest).symm.trans hconts)
    (hv ▸ (congrArg (· == 1) (hfld locCol R.FLT_STAT_SAFE)).symm.trans hsafe)
  have hlog : v.fld (laneLoc 0 16 0) R.LANE_STAT_TX_SHORT = u.fld (laneLoc 0 16 0) R.LANE_STAT_TX_SHORT := by
    rw [← hv, hquiet]
    exact (RegsOnly.alarmLog u (by decide)).fld (not_alarmKey (.inl (by decide)) (by decide))
  have hset := (congrArg (· == 1) ((hfld _ _).trans hlog)).trans hmark
  exact absurd (hflag.symm.trans hset) (by decide)

end Sys2Proof.Machine
end

section
/-! PROOFS. The IEEE 1588 engines (R110, R112 to R114, R118). -/

namespace Sys2Proof.Machine

/-! ### What an engine reads and keeps -/

/-- The settings of an engine are those of its port and its registers. -/
theorem State.engine_congr {s t : State} {d p : Nat} (hptp : (t.port d p).ptp = (s.port d p).ptp) (hregs : t.regs = s.regs)
    (hpart : t.part = s.part) : t.engine d p = s.engine d p := by
  have hfld : ∀ l f, t.fld l f = s.fld l f := State.fld_congr hregs hpart
  unfold State.engine State.pflag State.flag State.pfld
  rw [hptp, hfld, hfld]

/-- What is kept beside the settings of an engine leaves them. -/
theorem State.engine_setEng (s : State) (d p : Nat) (x : PtpEng) : (s.setEng d p x).engine d p = s.engine d p :=
  State.engine_congr (congrArg Port.ptp (State.port_setPort_self s d p { s.port d p with eng := x }) :) rfl rfl

theorem State.eng_setEng (s : State) (d p : Nat) (x : PtpEng) : (s.setEng d p x).eng d p = x :=
  congrArg Port.eng (State.port_setPort_self s d p _)

/-- A message as the settings of its engine shape it. -/
def ptpMsg (e : PtpCfg) (d p ty seq time : Nat) (corr : Int) : Sent :=
  .ptp d p ty seq time corr e.domain e.transp (e.altDa && e.profile == 2)

theorem State.ptpSend_eq {s : State} {e : PtpCfg} {d p : Nat} (h : s.engine d p = e) (ty seq time : Nat) (corr : Int) :
    s.ptpSend d p ty seq time corr = s.send (ptpMsg e d p ty seq time corr) := by
  rw [← h]
  rfl

/-- What follows a message in time is the wait for its interval alone. -/
theorem State.toInterval_spec (s : State) (last : Option Nat) (log : Int) :
    { s.toInterval last log with tails := s.tails } = s ∧ s.now ≤ (s.toInterval last log).now ∧
      (last = none → s.toInterval last log = s) ∧ ∀ t0, last = some t0 → t0 + logTicks log ≤ (s.toInterval last log).now := by
  cases last with
  | none => exact ⟨rfl, Nat.le_refl _, fun _ => rfl, fun t0 h => by cases h⟩
  | some t0 =>
    have hnow : (s.advanceTo (t0 + logTicks log)).now = max s.now (t0 + logTicks log) := State.now_advanceTo s _
    refine ⟨rfl, ?_, fun h => (by cases h), fun t1 h => ?_⟩
    · show s.now ≤ (s.advanceTo _).now
      omega
    · cases h
      show t0 + logTicks log ≤ (s.advanceTo _).now
      omega

theorem State.engine_toInterval (s : State) (d p : Nat) (last : Option Nat) (log : Int) :
    (s.toInterval last log).engine d p = s.engine d p := by
  have hrest := (s.toInterval_spec last log).1
  have hport : (s.toInterval last log).port d p = s.port d p := by
    unfold State.port
    rw [show (s.toInterval last log).ports = s.ports from (congrArg State.ports hrest :)]
  exact State.engine_congr (congrArg Port.ptp hport) (congrArg State.regs hrest :) (congrArg State.part hrest :)

/-! ### Messages sent (R110, R112) -/

section
variable {s : State} {d p : Nat}

/-- What an engine keeps of a message that it sends on its interval. -/
theorem State.engine_waited (s : State) (d p : Nat) (last : Option Nat) (log : Int) (y : PtpEng) :
    let v := s.toInterval last log
    ∃ w, v.setEng d p y = w ∧ w.engine d p = s.engine d p ∧ w.eng d p = y ∧ w.sent = s.sent ∧ { w with ports := s.ports } = v ∧
      v.sent = s.sent ∧ v.freeCtr = s.freeCtr := by
  intro v
  have hrest : { v with tails := s.tails } = s := (s.toInterval_spec _ _).1
  have hports : v.ports = s.ports := (congrArg State.ports hrest :)
  refine ⟨_, rfl, (State.engine_setEng v d p y).trans (s.engine_toInterval d p last log), State.eng_setEng v d p y, (congrArg State.sent hrest :),
    ?_, (congrArg State.sent hrest :), (congrArg State.freeCtr hrest :)⟩
  rw [← hports]
  rfl

theorem exec_ptpSyncSend (hmay : s.engineMay d p = true) (hst : (s.engine d p).state = engMaster) :
    let e := s.engine d p
    let x := s.eng d p
    let v := s.toInterval x.syncAt e.logSync
    let ts := v.stampTx d p
    ∃ (t : State) (free : Nat), exec (.ptpSyncSend d p) s = .next t ∧
      t.sent = (if e.twoStep then [ptpMsg e d p 8 x.seqSync (wholeNs ts) (subNs ts), ptpMsg e d p 0 x.seqSync free 0]
        else [ptpMsg e d p 0 x.seqSync (wholeNs ts) (subNs ts)]) ++ s.sent ∧
      t.eng d p = { x with seqSync := (x.seqSync + 1) % 65536, syncAt := some v.now } ∧
      { t with ports := s.ports, sent := s.sent, freeCtr := s.freeCtr } = v := by
  intro e x v ts
  obtain ⟨w, hw, heng, hweng, hwsent, hwrest, hvsent, hvfree⟩ :=
    s.engine_waited d p x.syncAt e.logSync { x with seqSync := (x.seqSync + 1) % 65536, syncAt := some v.now }
  have hrun : exec (.ptpSyncSend d p) s = .next (if (w.engine d p).twoStep then
      (w.freeNat.2.ptpSend d p 0 x.seqSync w.freeNat.1 0).ptpSend d p 8 x.seqSync (wholeNs ts) (subNs ts)
      else w.ptpSend d p 0 x.seqSync (wholeNs ts) (subNs ts)) := by
    show execPtpSyncSend d p s = _
    unfold execPtpSyncSend
    rw [if_pos (show (s.engineMay d p && (s.engine d p).state == engMaster) = true by rw [hmay, hst]; rfl), ← hw]
    exact (apply_ite Host.Outcome.next _ _ _).symm
  have hfinal : ∀ (l : List Sent) k, { { w with sent := l, freeCtr := k } with
      ports := s.ports, sent := s.sent, freeCtr := s.freeCtr } = v := fun l k => by
    rw [← hvsent, ← hvfree]
    exact congrArg (fun t : State => { t with sent := v.sent, freeCtr := v.freeCtr }) hwrest
  rw [hrun, heng]
  cases e.twoStep with
  | false =>
    rw [if_neg (by decide), State.ptpSend_eq heng]
    exact ⟨_, 0, rfl, congrArg _ hwsent, hweng, hfinal _ _⟩
  | true =>
    rw [if_pos rfl, State.ptpSend_eq (s := w.freeNat.2) (e := e) heng,
      State.ptpSend_eq (s := w.freeNat.2.send (ptpMsg e d p 0 x.seqSync w.freeNat.1 0)) (e := e) heng]
    exact ⟨_, w.freeNat.1, rfl, congrArg (fun l => _ :: _ :: l) hwsent, hweng, hfinal _ _⟩

theorem exec_ptpDelayReqSend (hmay : s.engineMay d p = true) (hst : (s.engine d p).state = engSlave)
    (hp2p : (s.engine d p).p2p = false) :
    let e := s.engine d p
    let x := s.eng d p
    let v := s.toInterval x.dreqAt e.logDreq
    let ts := v.stampTx d p
    ∃ t : State, exec (.ptpDelayReqSend d p) s = .next t ∧ t.sent = ptpMsg e d p 1 x.seqDreq (wholeNs ts) 0 :: s.sent ∧
      t.eng d p = { x with seqDreq := (x.seqDreq + 1) % 65536, t3 := some ts, dreqAt := some v.now } ∧
      { t with ports := s.ports, sent := s.sent } = v := by
  intro e x v ts
  obtain ⟨w, hw, heng, hweng, hwsent, hwrest, hvsent, -⟩ :=
    s.engine_waited d p x.dreqAt e.logDreq { x with seqDreq := (x.seqDreq + 1) % 65536, t3 := some ts, dreqAt := some v.now }
  refine ⟨w.send (ptpMsg e d p 1 x.seqDreq (wholeNs ts) 0), ?_, congrArg (fun l => _ :: l) hwsent, hweng, ?_⟩
  · rw [← State.ptpSend_eq heng, ← hw]
    show execPtpDelayReqSend d p s = _
    unfold execPtpDelayReqSend
    rw [if_pos (show (s.engineMay d p && (s.engine d p).state == engSlave && !(s.engine d p).p2p) = true by
      rw [hmay, hst, hp2p]; rfl)]
  · rw [← hvsent]
    exact congrArg (fun t : State => { t with sent := v.sent }) hwrest

theorem exec_ptpPdelayReqSend (hmay : s.engineMay d p = true) (hp2p : (s.engine d p).p2p = true) :
    let e := s.engine d p
    let x := s.eng d p
    let v := s.toInterval x.pdelAt e.logPdel
    let ts := v.stampTx d p
    ∃ t : State, exec (.ptpPdelayReqSend d p) s = .next t ∧ t.sent = ptpMsg e d p 2 x.seqPdel (wholeNs ts) 0 :: s.sent ∧
      t.eng d p = { x with seqPdel := (x.seqPdel + 1) % 65536, p1 := some ts, pWait := none, pdelAt := some v.now } ∧
      { t with ports := s.ports, sent := s.sent } = v := by
  intro e x v ts
  obtain ⟨w, hw, heng, hweng, hwsent, hwrest, hvsent, -⟩ := s.engine_waited d p x.pdelAt e.logPdel
    { x with seqPdel := (x.seqPdel + 1) % 65536, p1 := some ts, pWait := none, pdelAt := some v.now }
  refine ⟨w.send (ptpMsg e d p 2 x.seqPdel (wholeNs ts) 0), ?_, congrArg (fun l => _ :: l) hwsent, hweng, ?_⟩
  · rw [← State.ptpSend_eq heng, ← hw]
    show execPtpPdelayReqSend d p s = _
    unfold execPtpPdelayReqSend
    rw [if_pos (show (s.engineMay d p && (s.engine d p).p2p) = true by rw [hmay, hp2p]; rfl)]
  · rw [← hvsent]
    exact congrArg (fun t : State => { t with sent := v.sent }) hwrest

end

/-! ### Messages received (R110, R112) -/

section
variable {s : State} {d p : Nat} {bs : List Byte} {a : Nat}

/-- A message of the engine's domain and transport is taken up with its receive stamp. -/
theorem exec_ptpMessageReceive (hlive : s.portLive d p = true) (hen : (s.engine d p).en = true) (hup : s.pstate d p = psUp)
    (hat : (parse bs).ptpAt = some a) : exec (.ptpMessageReceive d p bs) s =
      if ptpDomain bs a = (s.engine d p).domain ∧ (parse bs).transp = (s.engine d p).transp then
        .next ((s.rxFrame d p bs false).2.ptpTake d p bs a (s.rxFrame d p bs false).1.stamp) else .next s := by
  show execPtpMessageReceive d p bs s = _
  unfold execPtpMessageReceive
  rw [if_pos (show (s.portLive d p && (s.engine d p).en && s.pstate d p == psUp) = true by rw [hlive, hen, hup]; rfl)]
  dsimp only
  rw [hat]

/-- A one-step Sync gives a slave its time and its parent. -/
theorem State.rxSync_oneStep (u : State) (hone : ptpTwoStep bs a = false) (t2 : Nat) : ∃ y : PtpEng,
    (u.rxSync d p bs a t2).eng d p = y ∧ y.parent = some (ptpSource bs a) ∧
      y.sync = some ((ptpTime bs (a + 34) : Int) + ptpCorr bs a, t2) ∧ y.heardAt = u.now ∧
      { u.rxSync d p bs a t2 with ports := u.ports } = u := by
  obtain ⟨t1, ht1⟩ : ∃ t1, (ptpTime bs (a + 34) : Int) + ptpCorr bs a = t1 := ⟨_, rfl⟩
  obtain ⟨v, hv⟩ : ∃ v, u.setEng d p { u.eng d p with parent := some (ptpSource bs a), heardAt := u.now } = v := ⟨_, rfl⟩
  obtain ⟨w, hw⟩ : ∃ w, v.setEng d p { v.eng d p with syncWait := none, sync := some (t1, t2) } = w := ⟨_, rfl⟩
  have hveng : v.eng d p = { u.eng d p with parent := some (ptpSource bs a), heardAt := u.now } := by
    rw [← hv]
    exact State.eng_setEng _ _ _ _
  have hweng : w.eng d p = { v.eng d p with syncWait := none, sync := some (t1, t2) } := by
    rw [← hw]
    exact State.eng_setEng _ _ _ _
  have hwrest : { w with ports := u.ports } = u := by
    rw [← hw, ← hv]
    rfl
  have hrun : u.rxSync d p bs a t2 = if (w.engine d p).p2p then w.handOffset d p t1 t2 else w := by
    unfold State.rxSync
    dsimp only
    rw [hone, if_neg (by decide), hv, ht1]
    unfold State.syncKnown
    dsimp only
    rw [hw]
  have hkeep : ∀ z : List (Nat × Int), (w.setEng d p { w.eng d p with gate := z }).eng d p = { w.eng d p with gate := z } :=
    fun z => State.eng_setEng _ _ _ _
  have hparent : (w.eng d p).parent = some (ptpSource bs a) := by rw [hweng, hveng]
  have hsync : (w.eng d p).sync = some (t1, t2) := by rw [hweng]
  have hheard : (w.eng d p).heardAt = u.now := by rw [hweng, hveng]
  rw [hrun]
  unfold State.handOffset
  dsimp only
  split
  · split
    · rw [hkeep]
      exact ⟨_, rfl, hparent, ht1 ▸ hsync, hheard, hwrest⟩
    · exact ⟨_, rfl, hparent, ht1 ▸ hsync, hheard, hwrest⟩
  · exact ⟨_, rfl, hparent, ht1 ▸ hsync, hheard, hwrest⟩

end

/-! ### The Announce receipt monitor (R113) -/

theorem exec_announceTimeout {s : State} {d p : Nat} (hpres : s.present d p = true) (hen : (s.engine d p).en = true)
    (hexp : (s.eng d p).expired = false) :
    let e := s.engine d p
    let x := s.eng d p
    ∃ v : State, exec (.announceTimeout d p) s =
        .next ((v.linkEvent d p (if e.autoPass = true ∧ e.state ≠ 1 then 1 else 0) 4).sourceLost d p (· == 5)) ∧
      (v.eng d p).expired = true ∧ (e.autoPass = true → (v.port d p).ptp.state = 1 ∨ e.state = 1) ∧
      x.announce + announceTicks e ≤ v.now ∧ { v with tails := s.tails, ports := s.ports } = s := by
  intro e x
  obtain ⟨a, ha⟩ : ∃ a, (s.advanceTo (x.announce + announceTicks e)).setEng d p { x with expired := true } = a := ⟨_, rfl⟩
  have haeng : a.eng d p = { x with expired := true } := by rw [← ha]; exact State.eng_setEng _ _ _ _
  have hanow : x.announce + announceTicks e ≤ a.now := by
    have h := State.now_advanceTo s (x.announce + announceTicks e)
    rw [← ha]
    show _ ≤ (s.advanceTo _).now
    omega
  have harest : { a with tails := s.tails, ports := s.ports } = s := by rw [← ha]; rfl
  obtain ⟨m, hm⟩ : ∃ m, (e.autoPass && e.state != 1) = m := ⟨_, rfl⟩
  obtain ⟨v, hv⟩ : ∃ v, (if m then a.setPort d p { a.port d p with ptp := { (a.port d p).ptp with state := 1 } } else a) = v :=
    ⟨_, rfl⟩
  have hrun : exec (.announceTimeout d p) s = .next ((v.linkEvent d p (b2n m) 4).sourceLost d p (· == 5)) := by
    rw [← hv, ← hm, ← ha]
    show execAnnounceTimeout d p s = _
    unfold execAnnounceTimeout
    dsimp only
    rw [if_pos (show (s.present d p && (s.engine d p).en && !(s.eng d p).expired) = true by rw [hpres, hen, hexp]; rfl)]
  have hval : b2n m = if e.autoPass = true ∧ e.state ≠ 1 then 1 else 0 := by
    rw [← hm]
    unfold b2n
    simp
  refine ⟨v, hval ▸ hrun, ?_⟩
  cases m with
  | true =>
    rw [if_pos rfl] at hv
    have hport : v.port d p = { a.port d p with ptp := { (a.port d p).ptp with state := 1 } } := by
      rw [← hv]
      exact State.port_setPort_self _ _ _ _
    refine ⟨?_, fun _ => .inl (by rw [hport]), ?_, ?_⟩
    · rw [State.eng, hport]
      exact congrArg PtpEng.expired haeng
    · rw [← hv]
      exact hanow
    · rw [← hv]
      exact harest
  | false =>
    rw [if_neg (by decide)] at hv
    subst hv
    refine ⟨by rw [haeng], fun hauto => .inr ?_, hanow, harest⟩
    rw [hauto, Bool.true_and] at hm
    exact by simpa using hm

/-- Settles O53: an engine sends after the wait for its interval, with the stamp of that time, and takes up the messages of its
domain and transport. -/
theorem ptpEnginesExchange : Obligations.PtpEnginesExchange := by
  unfold Obligations.PtpEnginesExchange
  intro s d p e x may msg waits
  refine ⟨fun last log => s.toInterval_spec last log, fun h => ?_, fun hmay hst => exec_ptpSyncSend hmay hst, fun h => ?_,
    fun hmay hst hp2p => exec_ptpDelayReqSend hmay hst hp2p, fun h => ?_, fun hmay hp2p => exec_ptpPdelayReqSend hmay hp2p,
    fun bs => ⟨fun h => ?_, fun a hlive hen hup hat => ⟨fun hno => ?_, fun hmine => ⟨fun hty hst hone => ?_, fun hty hmay hst => ?_⟩⟩⟩,
    fun h => ?_, fun hpres hen hexp => exec_announceTimeout hpres hen hexp⟩
  · show execPtpSyncSend d p s = _
    unfold execPtpSyncSend
    refine if_neg fun hc => ?_
    obtain ⟨hmay, hst⟩ := Bool.and_eq_true_iff.1 hc
    exact h.elim (fun hno => absurd (hmay.symm.trans hno) (by decide)) fun hno => hno (beq_iff_eq.1 hst)
  · show execPtpDelayReqSend d p s = _
    unfold execPtpDelayReqSend
    refine if_neg fun hc => ?_
    obtain ⟨hc, hp2p⟩ := Bool.and_eq_true_iff.1 hc
    obtain ⟨hmay, hst⟩ := Bool.and_eq_true_iff.1 hc
    rcases h with hno | hno | hno
    · exact absurd (hmay.symm.trans hno) (by decide)
    · exact hno (beq_iff_eq.1 hst)
    · rw [show (s.engine d p).p2p = true from hno] at hp2p
      cases hp2p
  · show execPtpPdelayReqSend d p s = _
    unfold execPtpPdelayReqSend
    refine if_neg fun hc => ?_
    obtain ⟨hmay, hp2p⟩ := Bool.and_eq_true_iff.1 hc
    exact h.elim (fun hno => absurd (hmay.symm.trans hno) (by decide)) fun hno => absurd (hp2p.symm.trans hno) (by decide)
  · show execPtpMessageReceive d p bs s = _
    unfold execPtpMessageReceive
    by_cases hc : (s.portLive d p && (s.engine d p).en && s.pstate d p == psUp) = true
    · obtain ⟨hc', hup⟩ := Bool.and_eq_true_iff.1 hc
      obtain ⟨hlive, hen⟩ := Bool.and_eq_true_iff.1 hc'
      rw [if_pos hc]
      rcases h with hno | hno | hno | hno
      · exact absurd (hlive.symm.trans hno) (by decide)
      · exact absurd (hen.symm.trans hno) (by decide)
      · exact absurd (beq_iff_eq.1 hup) hno
      · dsimp only
        rw [hno]
    · exact if_neg hc
  · rw [exec_ptpMessageReceive hlive hen hup hat, if_neg hno]
  · obtain ⟨y, hy, hparent, hsync, hheard, hrest⟩ :=
      State.rxSync_oneStep (d := d) (p := p) (a := a) (s.rxFrame d p bs false).2 hone (s.rxFrame d p bs false).1.stamp
    refine ⟨(s.rxFrame d p bs false).2.rxSync d p bs a (s.rxFrame d p bs false).1.stamp, (s.rxFrame d p bs false).1.stamp, ?_,
      hy ▸ hparent, hy ▸ hsync, hy ▸ hheard, congrArg (fun t : State => { t with freeCtr := s.freeCtr }) hrest⟩
    have hslave : (((s.rxFrame d p bs false).2.engine d p).state == engSlave) = true := beq_iff_eq.2 hst
    rw [exec_ptpMessageReceive hlive hen hup hat, if_pos hmine]
    unfold State.ptpTake
    dsimp only
    rw [hty]
    exact congrArg Host.Outcome.next (if_pos hslave)
  · obtain ⟨u, hu⟩ : ∃ u, (s.rxFrame d p bs false).2 = u := ⟨_, rfl⟩
    obtain ⟨ts, hts⟩ : ∃ ts, (s.rxFrame d p bs false).1.stamp = ts := ⟨_, rfl⟩
    have heng : u.engine d p = e := by rw [← hu]; rfl
    have hmay' : u.engineMay d p = true := by rw [← hu]; exact hmay
    refine ⟨u.ptpSend d p 9 (ptpSeq bs a) (wholeNs ts) (ptpCorr bs a - subNs ts), ts, ?_, ?_, ?_⟩
    · rw [exec_ptpMessageReceive hlive hen hup hat, if_pos hmine, hu, hts]
      unfold State.ptpTake
      dsimp only
      rw [hty]
      exact congrArg Host.Outcome.next (if_pos (by rw [hmay', heng, hst]; rfl))
    · rw [State.ptpSend_eq heng, ← hu]
      rfl
    · rw [State.ptpSend_eq heng, ← hu]
      rfl
  · show execAnnounceTimeout d p s = _
    unfold execAnnounceTimeout
    refine if_neg fun hc => ?_
    obtain ⟨hc, hexp⟩ := Bool.and_eq_true_iff.1 hc
    obtain ⟨hpres, hen⟩ := Bool.and_eq_true_iff.1 hc
    rcases h with hno | hno | hno
    · exact absurd (hpres.symm.trans hno) (by decide)
    · exact absurd (hen.symm.trans hno) (by decide)
    · rw [show (s.eng d p).expired = true from hno] at hexp
      cases hexp

end Sys2Proof.Machine
end

section
/-! PROOFS. The blocks of a Relka message (R119 to R122): how they are taken in, whatever takes the message. -/

namespace Sys2Proof.Machine

/-! ### A message and its blocks -/

section
variable (kind msg i : Nat)

theorem relkaBlock_sync : bits (relkaBlock kind msg i) 0 8 = 0x4B := by
  simp only [relkaBlock, bits]
  omega

theorem relkaBlock_mark : bits (relkaBlock kind msg i) 32 4 = 0xA := by
  have h := Nat.mod_lt (msg / 2 ^ (44 * i)) (show 0 < 2 ^ 16 by decide)
  simp only [relkaBlock, bits]
  omega

end

/-- R120 names six kinds. -/
theorem relkaLen_kind {kind : Nat} (h : relkaLen kind ≠ 0) : 1 ≤ kind ∧ kind ≤ 6 ∧ relkaLen kind ≤ 9 := by
  unfold relkaLen at *
  split at h <;> omega

/-! ### What is on its way -/

theorem Tab.set_set {α : Type} (t : Tab α) (k : Nat) (a b : α) : Tab.set (Tab.set t k a) k b = Tab.set t k b := by
  induction t with
  | nil => simp [Tab.set]
  | cons x t ih =>
    obtain ⟨k', v⟩ := x
    by_cases hlt : k < k'
    · simp [Tab.set, hlt]
    · by_cases heq : k' = k
      · simp [Tab.set, heq]
      · simp [Tab.set, hlt, heq, ih]

/-- The blocks of the message on its way at a port. -/
def State.withPart (u : State) (d p : Nat) (l : List Nat) : State := u.updRelka d p (fun x => { x with part := l })

section
variable (u : State) (d p : Nat)

theorem State.relka_updRelka (f : Relka → Relka) : (u.updRelka d p f).relka d p = f (u.relka d p) :=
  congrArg Port.relka (State.port_setPort_self u d p _)

theorem State.relka_withPart (l : List Nat) : (u.withPart d p l).relka d p = { u.relka d p with part := l } :=
  u.relka_updRelka d p _

/-- Two changes of a link's record are one. -/
theorem State.updRelka_updRelka (f g : Relka → Relka) : (u.updRelka d p f).updRelka d p g = u.updRelka d p (fun x => g (f x)) := by
  have hport := State.port_setPort_self u d p { u.port d p with relka := f (u.port d p).relka }
  show (u.setPort d p _).setPort d p { (u.setPort d p _).port d p with relka := g ((u.setPort d p _).port d p).relka } = _
  rw [hport]
  exact congrArg (fun t => { u with ports := t }) (Tab.set_set _ _ _ _)

theorem State.withPart_updRelka (l : List Nat) (f : List Nat → List Nat) :
    (u.withPart d p l).updRelka d p (fun x => { x with part := f x.part }) = u.withPart d p (f l) :=
  u.updRelka_updRelka d p _ _

theorem State.withPart_withPart (l m : List Nat) : (u.withPart d p l).withPart d p m = u.withPart d p m :=
  u.withPart_updRelka d p l (fun _ => m)

end

/-- A message is complete with its last block. -/
theorem State.endMsg_withPart (u : State) (d p kind : Nat) (h : Nat → State → State) (l : List Nat) :
    (u.withPart d p l).endMsg d p kind h =
      if l.length = relkaLen kind then h (blocksMsg l) (u.withPart d p []) else u.withPart d p l := by
  unfold State.endMsg
  dsimp only
  rw [State.relka_withPart]
  split
  · exact congrArg (h _) (u.withPart_withPart d p l [])
  · rfl

/-- A block of a kind and an index. -/
structure IsBlock (kind i b : Nat) : Prop where
  sync : bits b 0 8 = 0x4B
  mark : bits b 32 4 = 0xA
  kind : blockKind b = kind
  index : blockIndex b = i

theorem relkaBlock_isBlock {kind i : Nat} (msg : Nat) (hkind : relkaLen kind ≠ 0) (hi : i < relkaLen kind) :
    IsBlock kind i (relkaBlock kind msg i) := by
  have h6 := relkaLen_kind hkind
  refine ⟨relkaBlock_sync kind msg i, relkaBlock_mark kind msg i, ?_, ?_⟩
  · rw [blockKind_relkaBlock]
    omega
  · rw [blockIndex_relkaBlock]
    omega

section
variable {u : State} {d p kind b : Nat} {h : Nat → State → State}

/-- A further block of the message on its way, in its order and in time. -/
theorem State.rxBlock_next {l : List Nat} (hkind : relkaLen kind ≠ 0) (hb : IsBlock kind l.length b) (hl : 0 < l.length)
    (hhead : l.head?.any (fun m => blockKind m == kind) = true) (hlost : (u.relka d p).lost = false)
    (htime : u.now ≤ (u.relka d p).begunAt) :
    (u.withPart d p l).rxBlock d p kind h b = (u.withPart d p (l ++ [b])).endMsg d p kind h := by
  obtain ⟨hsync, hmark, hk, hi⟩ := hb
  have hrelka := u.relka_withPart d p l
  have hlate : ¬ (((u.withPart d p l).relka d p).part ≠ [] ∧
      ((u.withPart d p l).relka d p).begunAt + msgTicks < (u.withPart d p l).now) := fun hc => by
    rw [hrelka] at hc
    have hlt : (u.relka d p).begunAt + msgTicks < u.now := hc.2
    omega
  unfold State.rxBlock
  dsimp only
  rw [if_neg (by rw [hsync, hmark]; exact fun hc => hc.elim (· rfl) (· rfl)), hk, if_neg hkind, if_neg (fun hc => hc rfl),
    if_neg hlate, hi, if_neg (Nat.ne_of_gt hl), hrelka, if_neg (by rw [hlost]; decide), if_pos ⟨rfl, hhead⟩]
  exact congrArg (fun t : State => t.endMsg d p kind h) (u.withPart_updRelka d p l (fun m => m ++ [b]))

/-- The mark block of a message begins it where none is on its way. -/
theorem State.rxBlock_first (hkind : relkaLen kind ≠ 0) (hb : IsBlock kind 0 b) (hpart : (u.relka d p).part = []) :
    u.rxBlock d p kind h b = (u.markBlock d p b).endMsg d p kind h := by
  obtain ⟨hsync, hmark, hk, hi⟩ := hb
  have hlate : ¬ ((u.relka d p).part ≠ [] ∧ (u.relka d p).begunAt + msgTicks < u.now) := fun hc => hc.1 hpart
  unfold State.rxBlock
  dsimp only
  rw [if_neg (by rw [hsync, hmark]; exact fun hc => hc.elim (· rfl) (· rfl)), hk, if_neg hkind, if_neg (fun hc => hc rfl),
    if_neg hlate, hi, if_pos rfl, if_pos hpart]

end

/-- A port that has heard the mark block of a message. -/
def State.marked (s : State) (d p : Nat) : State :=
  s.freeNat.2.updRelka d p (fun x => { x with
    part := [], begunAt := s.now, mkStamp := s.stampRx d p (s.freeNat.1 % 4096), mkGen := (s.tail d).stepGen, lost := false })

theorem State.markBlock_eq (s : State) (d p b : Nat) : s.markBlock d p b = (s.marked d p).withPart d p [b] := by
  unfold State.marked State.withPart
  rw [State.updRelka_updRelka]
  rfl

theorem State.relka_marked (s : State) (d p : Nat) : (s.marked d p).relka d p = { s.relka d p with
    part := [], begunAt := s.now, mkStamp := s.stampRx d p (s.freeNat.1 % 4096), mkGen := (s.tail d).stepGen, lost := false } :=
  State.relka_updRelka _ d p _

section
variable {s : State} {d p kind msg : Nat} {h : Nat → State → State}

/-- The blocks of a message up to one of them. -/
def firstBlocks (kind msg m : Nat) : List Nat := (List.range m).map (relkaBlock kind msg)

theorem firstBlocks_succ (kind msg m : Nat) : firstBlocks kind msg (m + 1) = firstBlocks kind msg m ++ [relkaBlock kind msg m] := by
  rw [firstBlocks, List.range_succ, List.map_append]
  rfl

theorem firstBlocks_length (kind msg m : Nat) : (firstBlocks kind msg m).length = m := by
  rw [firstBlocks, List.length_map, List.length_range]

theorem firstBlocks_head (kind msg m : Nat) : (firstBlocks kind msg (m + 1)).head? = some (relkaBlock kind msg 0) := by
  rw [firstBlocks, List.range_succ_eq_map]
  rfl

/-- A message's further block, behind those that have been heard. -/
theorem State.rxBlock_marked (hkind : relkaLen kind ≠ 0) {m : Nat} (hm : m + 1 < relkaLen kind) :
    ((s.marked d p).withPart d p (firstBlocks kind msg (m + 1))).rxBlock d p kind h (relkaBlock kind msg (m + 1)) =
      ((s.marked d p).withPart d p (firstBlocks kind msg (m + 2))).endMsg d p kind h := by
  rw [firstBlocks_succ kind msg (m + 1)]
  have hlen := firstBlocks_length kind msg (m + 1)
  refine State.rxBlock_next hkind ?_ ?_ ?_ ?_ ?_
  · rw [hlen]
    exact relkaBlock_isBlock msg hkind hm
  · omega
  · rw [firstBlocks_head, Option.any_some, beq_iff_eq]
    exact (relkaBlock_isBlock msg hkind (by omega)).kind
  · rw [State.relka_marked]
  · rw [State.relka_marked]
    exact Nat.le_refl _

/-- The first blocks of a message, before its last. -/
theorem State.rxBlocks_part (hkind : relkaLen kind ≠ 0) (hpart : (s.relka d p).part = []) {m : Nat} (hm : m + 1 < relkaLen kind) :
    (firstBlocks kind msg (m + 1)).foldl (fun s b => s.rxBlock d p kind h b) s =
      (s.marked d p).withPart d p (firstBlocks kind msg (m + 1)) := by
  induction m with
  | zero =>
    rw [firstBlocks_succ, List.foldl_append, show firstBlocks kind msg 0 = [] from rfl, List.foldl_nil, List.foldl_cons,
      List.foldl_nil, State.rxBlock_first hkind (relkaBlock_isBlock msg hkind (by omega)) hpart, State.markBlock_eq,
      State.endMsg_withPart, List.nil_append]
    exact if_neg (Nat.ne_of_lt hm)
  | succ m ih =>
    rw [firstBlocks_succ, List.foldl_append, ih (by omega), List.foldl_cons, List.foldl_nil, State.rxBlock_marked hkind (by omega),
      State.endMsg_withPart, ← firstBlocks_succ, firstBlocks_length]
    exact if_neg (Nat.ne_of_lt hm)

/-- A whole message is taken in a state that holds the stamp of its mark block. -/
theorem State.rxBlocks_whole (hkind : relkaLen kind ≠ 0) (hpart : (s.relka d p).part = []) (hmsg : msg < 2 ^ (44 * relkaLen kind)) :
    (relkaBlocks kind msg).foldl (fun s b => s.rxBlock d p kind h b) s = h msg ((s.marked d p).withPart d p []) := by
  obtain ⟨n, hn⟩ : ∃ n, relkaLen kind = n + 1 := ⟨relkaLen kind - 1, by omega⟩
  have hall : relkaBlocks kind msg = firstBlocks kind msg (n + 1) := by rw [relkaBlocks, hn, firstBlocks]
  have hcarry : blocksMsg (firstBlocks kind msg (n + 1)) = msg := by
    rw [← hall, blocksMsg_relkaBlocks, Nat.mod_eq_of_lt hmsg]
  have hlast : ((s.marked d p).withPart d p (firstBlocks kind msg (n + 1))).endMsg d p kind h =
      h msg ((s.marked d p).withPart d p []) := by
    rw [State.endMsg_withPart, firstBlocks_length, if_pos hn.symm, hcarry]
  rw [hall, firstBlocks_succ, List.foldl_append, List.foldl_cons, List.foldl_nil]
  cases n with
  | zero =>
    rw [show firstBlocks kind msg 0 = [] from rfl, List.foldl_nil,
      State.rxBlock_first hkind (relkaBlock_isBlock msg hkind (by omega)) hpart, State.markBlock_eq]
    exact hlast
  | succ n =>
    rw [State.rxBlocks_part hkind hpart (by omega), State.rxBlock_marked hkind (by omega)]
    exact hlast

end

/-- How the blocks of a kind are taken in, whatever takes its messages. -/
theorem relkaTaken {s : State} {d p kind : Nat} {run : List Nat → Instr} {h : Nat → State → State} (hkind : relkaLen kind ≠ 0)
    (hrun : ∀ bs, exec (run bs) s = .next (s.rxBlocks d p kind h bs)) : RelkaTaken s d p kind run h := by
  refine ⟨fun hdeaf bs => ?_, fun hhears => ⟨fun msg hmsg hpart => ?_, fun b hb => ?_, fun b hsync hmark hlen => ?_⟩⟩
  · rw [hrun, State.rxBlocks, if_neg (by rw [hdeaf]; decide)]
  · refine ⟨(s.marked d p).withPart d p [], s.freeNat.1, ?_, ?_, rfl⟩
    · rw [hrun, State.rxBlocks, if_pos hhears, State.rxBlocks_whole hkind hpart hmsg]
    · rw [State.relka_withPart, State.relka_marked]
      obtain ⟨x, hx⟩ : ∃ x, s.relka d p = x := ⟨_, rfl⟩
      rw [hx] at hpart ⊢
      rw [← hpart]
  · have hno : bits b 0 8 ≠ 0x4B ∨ bits b 32 4 ≠ 0xA := .inl fun hc => hb ((bits_zero b 8).symm.trans hc)
    rw [hrun, State.rxBlocks, if_pos hhears, List.foldl_cons, List.foldl_nil, State.rxBlock, if_pos hno]
  · have hb : bits b 0 8 = 0x4B := (bits_zero b 8).trans hsync
    have hyes : ¬ (bits b 0 8 ≠ 0x4B ∨ bits b 32 4 ≠ 0xA) := by
      rw [hb, hmark]
      exact fun hc => hc.elim (· rfl) (· rfl)
    rw [hrun, State.rxBlocks, if_pos hhears, List.foldl_cons, List.foldl_nil, State.rxBlock, if_neg hyes]
    dsimp only
    rw [if_pos hlen]

end Sys2Proof.Machine
end

section
/-! PROOFS. Fence marks and their acknowledgements (R142, R144, R145). -/

namespace Sys2Proof.Machine

/-- A message leaves at once outside a loop and with no frame in transmission. -/
theorem State.sendRelka_eq {s : State} {d p : Nat} (hloop : s.pfld d p R.PORT_STAT_LOOP = 0) (hidle : (s.port d p).sending = none)
    (kind msg : Nat) : s.sendRelka d p kind msg = s.send (.relka d p kind (relkaBlocks kind msg)) := by
  unfold State.sendRelka State.sendCtl
  rw [if_pos hloop, hidle]
  rfl

theorem State.port_updRelka (s : State) (d p : Nat) (f : Relka → Relka) :
    (s.updRelka d p f).port d p = { s.port d p with relka := f (s.port d p).relka } := State.port_setPort_self s d p _

/-- A change of a link's record leaves the frame in transmission. -/
theorem State.sending_updRelka (s : State) (d p : Nat) (f : Relka → Relka) :
    ((s.updRelka d p f).port d p).sending = (s.port d p).sending := by
  rw [State.port_updRelka]

section
variable {s : State} {d p : Nat}

theorem State.takeMark_spec (msg : Nat) (hcap : s.pflag d p R.RLK_CTRL_MARK_CAP = true) : ∃ u : State,
    State.takeMark d p msg s = (if msgPkg msg = s.ownPkg then u.toFallback d p 2 else u) ∧
    u.relka d p = { s.relka d p with marks := (s.relka d p).marks ++ [(msg % 65536, (s.port d p).landing.length)] } ∧
    { u with ports := s.ports } = s := by
  refine ⟨s.updPort d p (fun x => { x with relka :=
    { x.relka with marks := x.relka.marks ++ [(msg % 65536, x.landing.length)] } }), ?_, ?_, rfl⟩
  · unfold State.takeMark
    rw [hcap, if_neg (by decide)]
    rfl
  · exact congrArg Port.relka (State.port_setPort_self s d p _)

theorem exec_markAckSend_wait (h : (s.relka d p).marks = [] ∨ (∃ id k rest, (s.relka d p).marks = (id, k + 1) :: rest) ∨
    ¬ (s.rlkRuns d p = true ∧ s.pfld d p R.PORT_STAT_LOOP = 0)) : exec (.markAckSend d p) s = .next s := by
  show execMarkAckSend d p s = _
  unfold execMarkAckSend
  split
  · next id rest hmarks =>
    split
    · next hmay =>
      obtain ⟨hruns, hloop⟩ := Bool.and_eq_true_iff.1 hmay
      rcases h with h | ⟨_, _, _, h⟩ | h
      · rw [hmarks] at h
        cases h
      · rw [hmarks] at h
        cases h
      · exact absurd ⟨hruns, beq_iff_eq.1 hloop⟩ h
    · rfl
  · rfl

theorem exec_markAckSend {id : Nat} {rest : List (Nat × Nat)} (hmarks : (s.relka d p).marks = (id, 0) :: rest)
    (hruns : s.rlkRuns d p = true) (hloop : s.pfld d p R.PORT_STAT_LOOP = 0) (hidle : (s.port d p).sending = none) : ∃ t : State,
    exec (.markAckSend d p) s = .next t ∧ t.relka d p = { s.relka d p with marks := rest } ∧
      t.sent = .relka d p 6 (relkaBlocks 6 (markMsg id s.ownPkg (s.arb R.RLK_SYS_SYS_EPOCH))) :: s.sent ∧
      { t with ports := s.ports, sent := s.sent } = s := by
  obtain ⟨u, hu⟩ : ∃ u, s.updRelka d p (fun x => { x with marks := rest }) = u := ⟨_, rfl⟩
  have hrelka : u.relka d p = { s.relka d p with marks := rest } := hu ▸ s.relka_updRelka d p _
  have husend : (u.port d p).sending = none := hu ▸ (s.sending_updRelka d p _).trans hidle
  have huloop : u.pfld d p R.PORT_STAT_LOOP = 0 := hu ▸ hloop
  refine ⟨u.send (.relka d p 6 (relkaBlocks 6 (markMsg id s.ownPkg (s.arb R.RLK_SYS_SYS_EPOCH)))), ?_, hrelka, ?_, ?_⟩
  · rw [← State.sendRelka_eq huloop husend, ← hu]
    show execMarkAckSend d p s = _
    unfold execMarkAckSend
    rw [hmarks]
    exact if_pos (by rw [hruns, hloop]; rfl)
  · rw [← hu]
    rfl
  · rw [← hu]
    rfl

/-- A MARK_ACK that a fence waits for takes its port from it. -/
theorem State.takeMarkAck_hit {msg n : Nat} {y : Fence} {f : Flight} {v : State} (hv : s.ownNumber d p msg = v)
    (hhit : v.plyn.fences.find? (fun x => x.2.marked && x.2.marker == msg % 65536 && x.2.wait.contains (msgPkg msg, portKey d p)) =
      some (n, y)) (hf : v.flight n = some f) :
    let w := (msgPkg msg, portKey d p)
    ∃ (u : State) (z : Fence), Tab.get? u.plyn.fences n = some z ∧
      w ∉ z.wait ∧ (∀ q, q ≠ w → (q ∈ z.wait ↔ q ∈ y.wait)) ∧ z.acked = y.acked ++ [w] ∧ { u with plyn := v.plyn } = v ∧
      (u.unacked f z ≠ [] → State.takeMarkAck d p msg s = u) ∧
      (u.unacked f z = [] → State.takeMarkAck d p msg s = u.fenceOk n z) := by
  intro w
  obtain ⟨z, hz⟩ : ∃ z, { y with wait := y.wait.filter (· != w), acked := y.acked ++ [w] } = z := ⟨_, rfl⟩
  obtain ⟨u, hu⟩ : ∃ u, { v with plyn := { v.plyn with fences := Tab.set v.plyn.fences n z } } = u := ⟨_, rfl⟩
  have huf : u.flight n = some f := hu ▸ hf
  have hrun : State.takeMarkAck d p msg s = if (u.unacked f z).isEmpty then u.fenceOk n z else u := by
    unfold State.takeMarkAck
    dsimp only
    rw [hv, hhit]
    dsimp only
    rw [hz, hu, huf]
  refine ⟨u, z, ?_, ?_, ?_, ?_, ?_, fun hne => ?_, fun he => ?_⟩
  · rw [← hu]
    exact Tab.get?_set_self _ _ _
  · rw [← hz]
    simp
  · intro q hq
    rw [← hz]
    simp [hq]
  · rw [← hz]
  · rw [← hu]
  · rw [hrun, if_neg (by rwa [List.isEmpty_iff])]
  · rw [hrun, if_pos (by rwa [List.isEmpty_iff])]

end

/-- Settles O56: a mark waits with the frames ahead of it, and its acknowledgement takes its port from the fence that waits. -/
theorem marksPassTheFrames : Obligations.MarksPassTheFrames := by
  unfold Obligations.MarksPassTheFrames
  intro s d p _ _ x may
  refine ⟨relkaTaken (by decide) fun _ => rfl, relkaTaken (by decide) fun _ => rfl, fun msg => ⟨fun hcap => ?_, fun hcap =>
    State.takeMark_spec msg hcap⟩, exec_markAckSend_wait, fun id rest hmarks hmay hidle =>
    exec_markAckSend hmarks hmay.1 hmay.2 hidle, fun msg => ⟨fun hown => if_pos hown, fun hown => if_neg hown, fun hhit => ?_,
    fun n y f hhit hf => State.takeMarkAck_hit rfl hhit hf⟩⟩
  · show (if _ then _ else _) = _
    rw [hcap, if_pos (by decide)]
  · unfold State.takeMarkAck
    dsimp only
    rw [hhit]

end Sys2Proof.Machine
end

section
/-! PROOFS. The clock sources and the system PLLs (R319 to R328). -/

namespace Sys2Proof.Machine

/-! ### One PLL among all -/

theorem mem_plls {q : Part} {p : Nat} (h : pllOn q p = true) : p ∈ plls q :=
  List.mem_filter.2 ⟨List.mem_range.2 (pllOn_lt h), h⟩

/-- One PLL's share of a walk over the PLLs: what holds for it before its turn, and what holds from its turn on. -/
theorem foldl_turn {f : State → Nat → State} {p : Nat} {before after : State → Prop}
    (hbefore : ∀ u q, q ≠ p → before u → before (f u q)) (hturn : ∀ u, before u → after (f u p))
    (hafter : ∀ u q, q ≠ p → after u → after (f u q)) (l : List Nat) (s : State) (hnodup : l.Nodup) (hp : p ∈ l)
    (h : before s) : after (l.foldl f s) := by
  have hrest : ∀ (l : List Nat) (u : State), p ∉ l → after u → after (l.foldl f u) := by
    intro l
    induction l with
    | nil => exact fun u _ hu => hu
    | cons q l ih =>
      intro u hq hu
      exact ih _ (fun hm => hq (List.mem_cons_of_mem _ hm)) (hafter u q (fun e => hq (e ▸ List.mem_cons_self)) hu)
  induction l generalizing s with
  | nil => cases hp
  | cons q l ih =>
    obtain ⟨hq, hl⟩ := List.nodup_cons.1 hnodup
    rw [List.foldl_cons]
    by_cases hqp : q = p
    · subst hqp
      exact hrest l _ hq (hturn s h)
    · exact ih _ hl ((List.mem_cons.1 hp).resolve_left fun e => hqp e.symm) (hbefore s q hqp h)

/-- What the clocks' work leaves. -/
def ClocksOnly (s t : State) : Prop := { t with regs := s.regs, clk := s.clk } = s

theorem ClocksOnly.refl (s : State) : ClocksOnly s s := rfl

theorem ClocksOnly.trans {s t u : State} (h : ClocksOnly s t) (k : ClocksOnly t u) : ClocksOnly s u := by
  unfold ClocksOnly at *
  conv => rhs; rw [← h, ← k]

theorem ClocksOnly.ite {s t u : State} (p : Prop) [Decidable p] (h : ClocksOnly s t) (k : ClocksOnly s u) :
    ClocksOnly s (if p then t else u) := by
  split
  · exact h
  · exact k

theorem ClocksOnly.foldl {α : Type} {f : State → α → State} (h : ∀ s x, ClocksOnly s (f s x)) (l : List α) (s : State) :
    ClocksOnly s (l.foldl f s) := by
  induction l generalizing s with
  | nil => exact .refl s
  | cons x l ih => exact (h s x).trans (ih _)

theorem ClocksOnly.part {s t : State} (h : ClocksOnly s t) : t.part = s.part :=
  (congrArg State.part (show { t with regs := s.regs, clk := s.clk } = s from h) :)

theorem ClocksOnly.tails {s t : State} (h : ClocksOnly s t) : t.tails = s.tails :=
  (congrArg State.tails (show { t with regs := s.regs, clk := s.clk } = s from h) :)

theorem ClocksOnly.put (s : State) (f : Fld) (v : Nat) : ClocksOnly s (s.clkPut f v) := rfl

theorem ClocksOnly.setClk (s : State) (c : Clk) : ClocksOnly s (s.setClk c) := rfl

theorem ClocksOnly.relockRun (s : State) (p : Nat) : ClocksOnly s (s.relockRun p) := by
  unfold State.relockRun
  exact .ite _ rfl (.refl s)

theorem ClocksOnly.relock (s : State) (p : Nat) (fast : Bool) : ClocksOnly s (s.relock p fast) :=
  ClocksOnly.trans (t := (((s.fastStart.clkPut (R.CLK_PLL_LOCKED p) 0).clkPut (R.CLK_PLL_RELOCK_BUSY p) 1).setClk
    { s.fastStart.clk with relockTo := Tab.set s.fastStart.clk.relockTo p fast })) rfl (.relockRun _ p)

theorem ClocksOnly.toFast (s : State) (p : Nat) : ClocksOnly s (s.toFast p) := (ClocksOnly.relock s p true).trans rfl

theorem ClocksOnly.backOne (s : State) (p : Nat) : ClocksOnly s (s.backOne p) := .ite _ (.relock s p false) (.refl s)

/-! ### The registers of one PLL -/

theorem State.pll_put_self (s : State) {f : Fld} (v : Nat) (h : f.lo + f.len ≤ 32) : (s.clkPut f v).clkF f = v % 2 ^ f.len :=
  s.fld_put_self _ v h

theorem State.clkF_clkPut_off (s : State) {f g : Fld} (v : Nat) (h : g.off ≠ f.off) : (s.clkPut f v).clkF g = s.clkF g :=
  s.fld_put_off _ v h

theorem State.relockRun_field (s : State) {p : Nat} {g : Fld} (hoff : g.off = 0x100 + 4 * p)
    (hd : g.lo + g.len ≤ 2 ∨ 3 ≤ g.lo) : (s.relockRun p).clkF g = s.clkF g := by
  unfold State.relockRun
  split
  · exact s.clkF_put_field (f := R.CLK_PLL_ON_FAST p) _ (Nat.le_of_ble_eq_true rfl) hoff hd
  · rfl

theorem State.relockRun_onFast (s : State) (p : Nat) (h : s.fastStable = true) :
    (s.relockRun p).clkF (R.CLK_PLL_ON_FAST p) = 1 := by
  unfold State.relockRun
  rw [if_pos h]
  exact s.pll_put_self (f := R.CLK_PLL_ON_FAST p) 1 (Nat.le_of_ble_eq_true rfl)

/-- A PLL's registers lie apart from every other register of the clock unit. -/
theorem State.relockRun_other (s : State) {p : Nat} {g : Fld} (h : g.off ≠ 0x100 + 4 * p) :
    (s.relockRun p).clkF g = s.clkF g := by
  unfold State.relockRun
  split
  · exact s.clkF_clkPut_off (f := R.CLK_PLL_ON_FAST p) 1 h
  · rfl

/-- A relock begins with the PLL unlocked and busy, and runs at once where FAST_OSC is stable (R327). -/
theorem State.relock_eq (s : State) (p : Nat) (fast : Bool) : ∃ u : State,
    s.relock p fast = (u.setClk { u.clk with relockTo := Tab.set u.clk.relockTo p fast }).relockRun p ∧
      u = (s.fastStart.clkPut (R.CLK_PLL_LOCKED p) 0).clkPut (R.CLK_PLL_RELOCK_BUSY p) 1 := ⟨_, rfl, rfl⟩

theorem State.clkF_relock_ne (s : State) {p : Nat} (fast : Bool) {g : Fld} (h : g.off ≠ 0x100 + 4 * p) :
    (s.relock p fast).clkF g = s.clkF g := State.fld_of_reg (s.relock_other fast h)

theorem State.fastStable_relock (s : State) (p : Nat) (fast : Bool) : (s.relock p fast).fastStable = s.fastStable :=
  congrArg (· == 1) (s.clkF_relock_ne fast (g := R.CLK_STAT_FAST_STABLE) (by
    show (4 : Nat) ≠ _
    omega))

theorem State.relock_onFast (s : State) (p : Nat) (fast : Bool) (h : s.fastStable = true) :
    (s.relock p fast).clkF (R.CLK_PLL_ON_FAST p) = 1 := by
  obtain ⟨u, hrelock, hu⟩ := s.relock_eq p fast
  rw [hrelock]
  refine State.relockRun_onFast _ p (Eq.trans ?_ h)
  have hoff : R.CLK_STAT_FAST_STABLE.off ≠ 0x100 + 4 * p := by
    show (4 : Nat) ≠ _
    omega
  rw [hu]
  exact congrArg (· == 1) ((State.clkF_clkPut_off _ (f := R.CLK_PLL_RELOCK_BUSY p) 1 hoff).trans
    (s.fastStart.clkF_clkPut_off (f := R.CLK_PLL_LOCKED p) 0 hoff))

/-- A relock leaves the PLL's other fields. -/
theorem State.relock_field (s : State) {p : Nat} (fast : Bool) {g : Fld} (hoff : g.off = 0x100 + 4 * p)
    (hlo : g.lo = 1 ∧ g.len = 1 ∨ 16 ≤ g.lo) : (s.relock p fast).clkF g = s.clkF g := by
  obtain ⟨u, hrelock, hu⟩ := s.relock_eq p fast
  rw [hrelock, State.relockRun_field _ hoff (by omega)]
  show u.clkF g = s.clkF g
  rw [hu]
  exact (State.clkF_put_field _ (f := R.CLK_PLL_RELOCK_BUSY p) 1 (Nat.le_of_ble_eq_true rfl) hoff
    (by simp only [R.CLK_PLL_RELOCK_BUSY]; omega)).trans
    (State.clkF_put_field s.fastStart (f := R.CLK_PLL_LOCKED p) 0 (Nat.le_of_ble_eq_true rfl) hoff
    (by simp only [R.CLK_PLL_LOCKED]; omega))

theorem State.tripAt_relockRun (s : State) (p : Nat) : (s.relockRun p).clk.tripAt = s.clk.tripAt := by
  unfold State.relockRun
  split <;> rfl

theorem State.tripAt_toFast (s : State) (p : Nat) : (s.toFast p).clk.tripAt = s.clk.tripAt := by
  obtain ⟨u, hrelock, hu⟩ := s.relock_eq p true
  show (s.relock p true).clk.tripAt = _
  rw [hrelock, State.tripAt_relockRun, hu]
  rfl

/-- What a PLL shows that FAST_OSC recovers (R325). -/
structure OnFast (s : State) (p : Nat) : Prop where
  run  : s.flag locClk (R.CLK_PLL_ON_FAST p) = true
  busy : s.flag locClk (R.CLK_PLL_RELOCK_BUSY p) = true
  dest : Tab.get? s.clk.relockTo p = some true

theorem OnFast.onFast {s : State} {p : Nat} (h : OnFast s p) : s.onFast p = true := by
  unfold State.onFast
  rw [h.dest]
  rfl

/-- Whether FAST_OSC is stable and the PLLs' registers lie outside SYS_ON_FAST. -/
theorem State.fastStable_toFast (s : State) (p : Nat) : (s.toFast p).fastStable = s.fastStable :=
  (congrArg (· == 1) ((s.relock p true).clkF_put_field (f := R.CLK_STAT_SYS_ON_FAST) (g := R.CLK_STAT_FAST_STABLE) 1
    (by decide) rfl (by decide))).trans (s.fastStable_relock p true)

theorem State.clkF_toFast (s : State) (p : Nat) {g : Fld} (h : g.off ≠ 4) : (s.toFast p).clkF g = (s.relock p true).clkF g :=
  State.clkF_clkPut_off _ (f := R.CLK_STAT_SYS_ON_FAST) 1 h

theorem State.toFast_onFast (s : State) (p : Nat) (h : s.fastStable = true) : OnFast (s.toFast p) p := by
  have hoff : 0x100 + 4 * p ≠ 4 := by omega
  obtain ⟨hbusy, -, -, hdest, -⟩ := s.relock_spec p true
  exact ⟨State.flag_iff.2 ((s.clkF_toFast p hoff).trans (s.relock_onFast p true h)),
    State.flag_iff.2 ((s.clkF_toFast p hoff).trans hbusy), hdest⟩

/-! ### FAST_OSC becomes stable (R319, R325) -/

/-- One PLL's share of it. -/
def State.fastOne (s : State) (p : Nat) : State :=
  if s.coasting p then s.toFast p
  else if s.flag locClk (R.CLK_PLL_RELOCK_BUSY p) && !s.flag locClk (R.CLK_PLL_ON_FAST p) then s.relockRun p
  else s

theorem State.fastUp_eq (s : State) : s.fastUp =
    (plls s.part).foldl State.fastOne ((s.clkPut R.CLK_STAT_FAST_STABLE 1).setClk { s.clk with tripAt := none }) := rfl

theorem ClocksOnly.fastOne (s : State) (p : Nat) : ClocksOnly s (s.fastOne p) :=
  .ite _ (.toFast s p) (.ite _ (.relockRun s p) (.refl s))

theorem State.fastOne_stable (s : State) (p : Nat) :
    (s.fastOne p).fastStable = s.fastStable ∧ (s.fastOne p).clk.tripAt = s.clk.tripAt := by
  unfold State.fastOne
  split
  · exact ⟨s.fastStable_toFast p, s.tripAt_toFast p⟩
  · split
    · exact ⟨congrArg (· == 1) (s.relockRun_other (by show (4 : Nat) ≠ _; omega)), s.tripAt_relockRun p⟩
    · exact ⟨rfl, rfl⟩

/-- Each PLL's share leaves the registers and the relock of every other. -/
theorem State.fastOne_other (s : State) {p q : Nat} (h : q ≠ p) :
    (∀ g : Fld, g.off = 0x100 + 4 * p → (s.fastOne q).clkF g = s.clkF g) ∧
      Tab.get? (s.fastOne q).clk.relockTo p = Tab.get? s.clk.relockTo p := by
  have hoff : ∀ g : Fld, g.off = 0x100 + 4 * p → g.off ≠ 0x100 + 4 * q ∧ g.off ≠ 4 := fun g hg => by omega
  unfold State.fastOne
  split
  · exact ⟨fun g hg => (s.clkF_toFast q (hoff g hg).2).trans (s.clkF_relock_ne true (hoff g hg).1),
      s.relock_relockTo_ne true (Ne.symm h)⟩
  · split
    · refine ⟨fun g hg => s.relockRun_other (hoff g hg).1, ?_⟩
      unfold State.relockRun
      split <;> rfl
    · exact ⟨fun _ _ => rfl, rfl⟩

theorem State.fastUp_spec (s : State) : s.fastUp.fastStable = true ∧ s.fastUp.clk.tripAt = none ∧
    (∀ p, pllOn s.part p = true → s.coasting p = true → OnFast s.fastUp p) ∧ ClocksOnly s s.fastUp := by
  rw [State.fastUp_eq]
  obtain ⟨u, hu⟩ : ∃ u, (s.clkPut R.CLK_STAT_FAST_STABLE 1).setClk { s.clk with tripAt := none } = u := ⟨_, rfl⟩
  have hstable : u.fastStable = true := by
    rw [← hu]
    exact State.flag_iff.2 (s.pll_put_self (f := R.CLK_STAT_FAST_STABLE) 1 (by decide))
  have htrip : u.clk.tripAt = none := by
    rw [← hu]
    rfl
  have hregs : ∀ g : Fld, g.off ≠ 4 → u.clkF g = s.clkF g := fun g hg => by
    rw [← hu]
    exact s.clkF_clkPut_off (f := R.CLK_STAT_FAST_STABLE) 1 hg
  rw [hu]
  refine ⟨foldl_keeps (P := fun v : State => v.fastStable = true) (fun v q hv => (v.fastOne_stable q).1.trans hv) _ hstable,
    foldl_keeps (P := fun v : State => v.clk.tripAt = none) (fun v q hv => (v.fastOne_stable q).2.trans hv) _ htrip,
    fun p hp hcoast => ?_, ?_⟩
  · refine foldl_turn (f := State.fastOne) (before := fun v => v.coasting p = true ∧ v.fastStable = true)
      (after := fun v => OnFast v p) ?_ ?_ ?_ _ u (plls_nodup _) (mem_plls hp) ⟨Eq.trans ?_ hcoast, hstable⟩
    · rintro v q hq ⟨hc, hs⟩
      obtain ⟨hother, -⟩ := v.fastOne_other hq
      refine ⟨Eq.trans ?_ hc, (v.fastOne_stable q).1.trans hs⟩
      show (!(State.clkF _ _ == 1) && !(State.clkF _ _ == 1)) = (!(State.clkF _ _ == 1) && !(State.clkF _ _ == 1))
      rw [hother _ rfl, hother _ rfl]
    · rintro v ⟨hc, hs⟩
      unfold State.fastOne
      rw [if_pos hc]
      exact v.toFast_onFast p hs
    · rintro v q hq ⟨hrun, hbusy, hdest⟩
      obtain ⟨hother, hto⟩ := v.fastOne_other hq
      exact ⟨(congrArg (· == 1) (hother _ rfl)).trans hrun, (congrArg (· == 1) (hother _ rfl)).trans hbusy, hto.trans hdest⟩
    · have hoff : 0x100 + 4 * p ≠ 4 := by omega
      show (!(State.clkF _ _ == 1) && !(State.clkF _ _ == 1)) = (!(State.clkF _ _ == 1) && !(State.clkF _ _ == 1))
      rw [hregs _ hoff, hregs _ hoff]
  · refine ClocksOnly.trans ?_ (.foldl .fastOne _ u)
    rw [← hu]
    rfl

/-! ### Coasting (R324) -/

/-- The registers of a PLL that coasts. -/
def State.coastRegs (s : State) (p : Nat) : State :=
  ((((s.clkPut (R.CLK_PLL_LOCKED p) 0).clkPut (R.CLK_PLL_RELOCK_BUSY p) 0).clkPut (R.CLK_PLL_ON_FAST p) 0).clkPut
    (R.CLK_PLL_COAST p) 1).bump locClk (R.CLK_PLL_COASTS p)

/-- A PLL that coasts, FAST_OSC started. -/
def State.coasted (s : State) (p : Nat) : State :=
  ((s.coastRegs p).setClk { (s.coastRegs p).clk with
    relockAt := Tab.del (s.coastRegs p).clk.relockAt p, relockTo := Tab.del (s.coastRegs p).clk.relockTo p }).fastStart

theorem State.coast_eq (s : State) (p : Nat) : s.coast p = if s.coasting p then s
    else if (s.coasted p).fastStable then (s.coasted p).toFast p
    else (s.coasted p).setClk { (s.coasted p).clk with tripAt := some ((s.coasted p).clk.tripAt.getD (s.coasted p).now) } := rfl

theorem ClocksOnly.coasted (s : State) (p : Nat) : ClocksOnly s (s.coasted p) :=
  ((((((ClocksOnly.put s _ _).trans (.put _ _ _)).trans (.put _ _ _)).trans (.put _ _ _)).trans (.put _ _ _)).trans
    (.setClk _ _)).trans (.setClk _ _)

theorem State.clkF_setClk (s : State) (c : Clk) (g : Fld) : (s.setClk c).clkF g = s.clkF g := rfl

theorem State.clkF_fastStart (s : State) (g : Fld) : s.fastStart.clkF g = s.clkF g := rfl

theorem State.clkF_coasted (s : State) (p : Nat) (g : Fld) : (s.coasted p).clkF g = (s.coastRegs p).clkF g := by
  rw [State.coasted, State.clkF_fastStart, State.clkF_setClk]

/-- The five writes of a PLL's register when it coasts (R324). -/
theorem State.coastRegs_eq (s : State) (p : Nat) : ∃ a b c d : State, s.clkPut (R.CLK_PLL_LOCKED p) 0 = a ∧
    a.clkPut (R.CLK_PLL_RELOCK_BUSY p) 0 = b ∧ b.clkPut (R.CLK_PLL_ON_FAST p) 0 = c ∧ c.clkPut (R.CLK_PLL_COAST p) 1 = d ∧
    s.coastRegs p = d.clkPut (R.CLK_PLL_COASTS p) (satNat (d.clkF (R.CLK_PLL_COASTS p) + 1) 16) :=
  ⟨_, _, _, _, rfl, rfl, rfl, rfl, rfl⟩

theorem State.coasted_spec (s : State) (p : Nat) : (s.coasted p).clkF (R.CLK_PLL_LOCKED p) = 0 ∧
    (s.coasted p).clkF (R.CLK_PLL_COAST p) = 1 ∧ (s.coasted p).clkF (R.CLK_PLL_RELOCK_BUSY p) = 0 ∧
    (s.coasted p).clkF (R.CLK_PLL_COASTS p) = satNat (s.clkF (R.CLK_PLL_COASTS p) + 1) (R.CLK_PLL_COASTS p).len := by
  obtain ⟨a, b, c, d, ha, hb, hc, hd, he⟩ := s.coastRegs_eq p
  have hA : ∀ {g : Fld}, g.off = 0x100 + 4 * p → 1 ≤ g.lo → a.clkF g = s.clkF g := fun {g} ho hl => by
    rw [← ha]
    exact s.clkF_put_field (f := R.CLK_PLL_LOCKED p) 0 (Nat.le_of_ble_eq_true rfl) ho (.inr hl)
  have hB : ∀ {g : Fld}, g.off = 0x100 + 4 * p → (g.lo + g.len ≤ 6 ∨ 7 ≤ g.lo) → b.clkF g = a.clkF g := fun {g} ho hl => by
    rw [← hb]
    exact a.clkF_put_field (f := R.CLK_PLL_RELOCK_BUSY p) 0 (Nat.le_of_ble_eq_true rfl) ho hl
  have hC : ∀ {g : Fld}, g.off = 0x100 + 4 * p → (g.lo + g.len ≤ 2 ∨ 3 ≤ g.lo) → c.clkF g = b.clkF g := fun {g} ho hl => by
    rw [← hc]
    exact b.clkF_put_field (f := R.CLK_PLL_ON_FAST p) 0 (Nat.le_of_ble_eq_true rfl) ho hl
  have hD : ∀ {g : Fld}, g.off = 0x100 + 4 * p → (g.lo + g.len ≤ 1 ∨ 2 ≤ g.lo) → d.clkF g = c.clkF g := fun {g} ho hl => by
    rw [← hd]
    exact c.clkF_put_field (f := R.CLK_PLL_COAST p) 1 (Nat.le_of_ble_eq_true rfl) ho hl
  have hE : ∀ {g : Fld}, g.off = 0x100 + 4 * p → g.lo + g.len ≤ 16 → (s.coasted p).clkF g = d.clkF g := fun {g} ho hl => by
    rw [State.clkF_coasted, he]
    exact d.clkF_put_field (f := R.CLK_PLL_COASTS p) _ (Nat.le_of_ble_eq_true rfl) ho (.inl hl)
  refine ⟨?_, ?_, ?_, ?_⟩
  · rw [hE rfl (Nat.le_of_ble_eq_true rfl), hD rfl (.inl (Nat.le_of_ble_eq_true rfl)),
      hC rfl (.inl (Nat.le_of_ble_eq_true rfl)), hB rfl (.inl (Nat.le_of_ble_eq_true rfl)), ← ha]
    exact s.pll_put_self (f := R.CLK_PLL_LOCKED p) 0 (Nat.le_of_ble_eq_true rfl)
  · rw [hE rfl (Nat.le_of_ble_eq_true rfl), ← hd]
    exact c.pll_put_self (f := R.CLK_PLL_COAST p) 1 (Nat.le_of_ble_eq_true rfl)
  · rw [hE rfl (Nat.le_of_ble_eq_true rfl), hD rfl (.inr (Nat.le_of_ble_eq_true rfl)),
      hC rfl (.inr (Nat.le_of_ble_eq_true rfl)), ← hb]
    exact a.pll_put_self (f := R.CLK_PLL_RELOCK_BUSY p) 0 (Nat.le_of_ble_eq_true rfl)
  · have hcount : d.clkF (R.CLK_PLL_COASTS p) = s.clkF (R.CLK_PLL_COASTS p) := by
      rw [hD rfl (.inr (Nat.le_of_ble_eq_true rfl)), hC rfl (.inr (Nat.le_of_ble_eq_true rfl)),
        hB rfl (.inr (Nat.le_of_ble_eq_true rfl)), hA rfl (Nat.le_of_ble_eq_true rfl)]
    rw [State.clkF_coasted, he, hcount]
    exact (d.pll_put_self (f := R.CLK_PLL_COASTS p) _ (Nat.le_of_ble_eq_true rfl)).trans (Nat.mod_eq_of_lt (satNat_lt _ _))

/-- Coasting writes no register but the PLL's own. -/
theorem State.clkF_coasted_ne (s : State) {p : Nat} {g : Fld} (h : g.off ≠ 0x100 + 4 * p) :
    (s.coasted p).clkF g = s.clkF g := by
  obtain ⟨a, b, c, d, ha, hb, hc, hd, he⟩ := s.coastRegs_eq p
  rw [State.clkF_coasted, he, d.clkF_clkPut_off (f := R.CLK_PLL_COASTS p) _ h, ← hd,
    c.clkF_clkPut_off (f := R.CLK_PLL_COAST p) 1 h, ← hc, b.clkF_clkPut_off (f := R.CLK_PLL_ON_FAST p) 0 h, ← hb,
    a.clkF_clkPut_off (f := R.CLK_PLL_RELOCK_BUSY p) 0 h, ← ha, s.clkF_clkPut_off (f := R.CLK_PLL_LOCKED p) 0 h]

theorem State.fastStable_coasted (s : State) (p : Nat) : (s.coasted p).fastStable = s.fastStable :=
  congrArg (· == 1) (s.clkF_coasted_ne (g := R.CLK_STAT_FAST_STABLE) (by show (4 : Nat) ≠ _; omega))

theorem ClocksOnly.coast (s : State) (p : Nat) : ClocksOnly s (s.coast p) := by
  rw [State.coast_eq]
  exact .ite _ (.refl s) (.ite _ ((ClocksOnly.coasted s p).trans (.toFast _ p)) ((ClocksOnly.coasted s p).trans (.setClk _ _)))

theorem State.fastStable_coast (s : State) (p : Nat) : (s.coast p).fastStable = s.fastStable := by
  rw [State.coast_eq]
  split
  · rfl
  · split
    · rw [State.fastStable_toFast, State.fastStable_coasted]
    · exact (congrArg (· == 1) (State.clkF_setClk _ _ R.CLK_STAT_FAST_STABLE)).trans (s.fastStable_coasted p)

theorem ClocksOnly.coastAll (s : State) (fast : Bool) : ClocksOnly s (s.coastAll fast) :=
  .foldl (fun v p => .ite _ (.coast v p) (.refl v)) _ s

theorem State.fastStable_coastAll (s : State) (fast : Bool) : (s.coastAll fast).fastStable = s.fastStable :=
  foldl_keeps (P := fun v : State => v.fastStable = s.fastStable) (fun v p hv => by
    split
    · exact (v.fastStable_coast p).trans hv
    · exact hv) _ rfl

/-! ### A crystal fails (R324) -/

/-- A crystal that has failed, before it is reported. -/
def State.crystalLost (s : State) (xb : Bool) : State :=
  ((s.clkPut (if xb then R.CLK_STAT_XB_STABLE else R.CLK_STAT_XA_STABLE) 0).clkPut
    (if xb then R.CLK_STAT_XB_FAIL else R.CLK_STAT_XA_FAIL) 1).bump locClk
    (if xb then R.CLK_EVT_XB_FAILS else R.CLK_EVT_XA_FAILS)

theorem State.crystalLost_spec (s : State) (xb : Bool) : (s.crystalLost xb).inStable xb = false ∧
    (s.crystalLost xb).flag locClk (if xb then R.CLK_STAT_XB_FAIL else R.CLK_STAT_XA_FAIL) = true ∧
    (s.crystalLost xb).clkF (if xb then R.CLK_EVT_XB_FAILS else R.CLK_EVT_XA_FAILS) =
      satNat (s.clkF (if xb then R.CLK_EVT_XB_FAILS else R.CLK_EVT_XA_FAILS) + 1) 8 ∧
    (∀ f ∈ [R.CLK_STAT_LREF_XB, R.CLK_STAT_LREF_LOST], (s.crystalLost xb).flag locClk f = s.flag locClk f) := by
  have hstore : ∀ v, satNat v 8 % 2 ^ 8 = satNat v 8 := fun v => Nat.mod_eq_of_lt (satNat_lt v 8)
  unfold State.crystalLost State.inStable
  cases xb
  all_goals
    simp only [Bool.false_eq_true, if_true, if_false, State.flag, State.clkF, State.clkPut, State.bump, State.bumpBy,
      List.forall_mem_cons]
    simp (disch := decide) only [State.fld_put_apart, State.fld_put_self]
    exact ⟨rfl, rfl, hstore _, trivial, trivial, fun _ h => nomatch h⟩

theorem crystalFail_spec (s : State) (xb : Bool) (h : s.inStable xb = true) : ∃ u : State,
    s.crystalFail xb = (if s.clk.lrefOn = true ∧ s.flag locClk R.CLK_STAT_LREF_XB = xb ∧
        s.flag locClk R.CLK_STAT_LREF_LOST = false then (u.raise (hubLoc 5) 0x01 (b2n xb)).lrefFail xb
      else u.raise (hubLoc 5) 0x01 (b2n xb)) ∧
    u.inStable xb = false ∧ u.flag locClk (if xb then R.CLK_STAT_XB_FAIL else R.CLK_STAT_XA_FAIL) = true ∧
    u.clkF (if xb then R.CLK_EVT_XB_FAILS else R.CLK_EVT_XA_FAILS) =
      satNat (s.clkF (if xb then R.CLK_EVT_XB_FAILS else R.CLK_EVT_XA_FAILS) + 1) 8 ∧ { u with regs := s.regs } = s := by
  obtain ⟨hstable, hbad, hcount, hkeep⟩ := s.crystalLost_spec xb
  obtain ⟨u, hu⟩ : ∃ u, s.crystalLost xb = u := ⟨_, rfl⟩
  rw [hu] at hstable hbad hcount hkeep
  have hrest : { u with regs := s.regs } = s := by
    rw [← hu]
    rfl
  refine ⟨u, ?_, hstable, hbad, hcount, hrest⟩
  have hraise := AlarmKept.raise u (loc := hubLoc 5) (kind := 0x01) (b2n xb) (by decide) (by decide)
  have hclk : (u.raise (hubLoc 5) 0x01 (b2n xb)).clk = s.clk :=
    (congrArg State.clk hraise.rest :).trans (congrArg State.clk hrest :)
  have hflag : ∀ f ∈ [R.CLK_STAT_LREF_XB, R.CLK_STAT_LREF_LOST],
      (u.raise (hubLoc 5) 0x01 (b2n xb)).flag locClk f = s.flag locClk f := fun f hf =>
    (hraise.flag (.inr rfl) (by
      rcases List.mem_cons.1 hf with rfl | hf
      · decide
      · rw [List.mem_singleton.1 hf]
        decide)).trans (hkeep f hf)
  have hfail : s.crystalFail xb = if (u.raise (hubLoc 5) 0x01 (b2n xb)).clk.lrefOn &&
      (u.raise (hubLoc 5) 0x01 (b2n xb)).flag locClk R.CLK_STAT_LREF_XB == xb &&
      !(u.raise (hubLoc 5) 0x01 (b2n xb)).flag locClk R.CLK_STAT_LREF_LOST
      then (u.raise (hubLoc 5) 0x01 (b2n xb)).lrefFail xb else u.raise (hubLoc 5) 0x01 (b2n xb) := by
    rw [← hu]
    unfold State.crystalFail
    rw [h]
    rfl
  rw [hfail, hclk, hflag _ List.mem_cons_self, hflag _ (List.mem_cons_of_mem _ List.mem_cons_self)]
  simp only [Bool.and_eq_true, beq_iff_eq, Bool.not_eq_true', and_assoc]

/-- Settles O45. -/
theorem clockSourcesComeAndGo : Obligations.ClockSourcesComeAndGo := by
  intro s
  refine ⟨fun hoff src => ?_, fun hon => ⟨?_, fun hxb => ?_, fun hxb => ?_, fun hrun hnot => ?_⟩,
    fun xb => ⟨fun h => ?_, fun h => ?_⟩, fun h => ?_, fun h => ?_, fun i => ⟨fun h => ?_, fun hi hlref => ?_⟩, fun h => ?_,
    fun h => ?_⟩
  · show execSourceStable src s = _
    unfold execSourceStable
    rw [hoff]
    rfl
  · refine ⟨s.clkPut R.CLK_STAT_XA_STABLE 1, ?_, State.flag_iff.2 (s.pll_put_self (f := R.CLK_STAT_XA_STABLE) 1 (by decide)), rfl⟩
    show execSourceStable .xa s = _
    unfold execSourceStable
    rw [hon]
    rfl
  · refine ⟨s.clkPut R.CLK_STAT_XB_STABLE 1, ?_, State.flag_iff.2 (s.pll_put_self (f := R.CLK_STAT_XB_STABLE) 1 (by decide)), rfl⟩
    show execSourceStable .xb s = _
    unfold execSourceStable
    rw [hon, hxb]
    rfl
  · show execSourceStable .xb s = _
    unfold execSourceStable
    rw [hon, hxb]
    rfl
  · obtain ⟨hstable, htrip, hall, hrest⟩ := s.fastUp_spec
    refine ⟨s.fastUp, ?_, hstable, htrip, fun p hp hcoast => ?_, hrest⟩
    · show execSourceStable .fast s = _
      unfold execSourceStable
      rw [hon, hrun, hnot]
      rfl
    · have h := hall p hp hcoast
      exact ⟨h.run, h.busy, h.onFast⟩
  · have hfail : s.crystalFail xb = s := by
      unfold State.crystalFail
      rw [h]
      rfl
    cases xb
    · exact congrArg Host.Outcome.next hfail
    · exact congrArg Host.Outcome.next hfail
  · obtain ⟨u, hexec, hstable, hbad, hcount, hrest⟩ := crystalFail_spec s xb h
    refine ⟨u, ?_, hstable, hbad, ?_, hrest⟩
    · cases xb
      · exact congrArg Host.Outcome.next hexec
      · exact congrArg Host.Outcome.next hexec
    · cases xb
      · exact hcount
      · exact hcount
  · show Host.Outcome.next (if s.fastStable then _ else s) = _
    rw [h]
    rfl
  · refine ⟨(s.clkPut R.CLK_STAT_FAST_STABLE 0).coastAll true, ?_, ?_, (ClocksOnly.put s _ _).trans (.coastAll _ true)⟩
    · show Host.Outcome.next (if s.fastStable then _ else s) = _
      rw [h, if_pos rfl]
    · rw [State.fastStable_coastAll]
      exact State.flag_false_of (s.pll_put_self (f := R.CLK_STAT_FAST_STABLE) 0 (by decide))
  · show Host.Outcome.next (if i < 6 ∧ s.clk.lrefOn = true then _ else s) = _
    rw [if_neg]
    rintro ⟨hi, hl⟩
    rcases h with h | h
    · omega
    · rw [h] at hl
      cases hl
  · refine ⟨s.setTail i { s.tail i with frozen := true }, ?_, State.tail_setTail_self _ _ _,
      fun j hj => State.tail_setTail_ne _ _ hj, rfl⟩
    show Host.Outcome.next (if i < 6 ∧ s.clk.lrefOn = true then _ else s) = _
    rw [if_pos ⟨hi, hlref⟩]
  · show execPhaseBuildOutDone s = _
    unfold execPhaseBuildOutDone
    rw [h]
    rfl
  · refine ⟨({ s with tails := (List.range 6).map (fun t => (t, { s.tail t with frozen := false })) }).setClk
      { s.clk with buildOut := false, xdiffDue := true }, ?_, fun i hi => ?_, rfl, rfl⟩
    · show execPhaseBuildOutDone s = _
      unfold execPhaseBuildOutDone
      rw [h]
      rfl
    · exact Tab.get_range6 _ _ hi

end Sys2Proof.Machine
end

section
/-! PROOFS. The system PLLs: coasting, relocks, the reduced safe state and the return (R323 to R328). -/

namespace Sys2Proof.Machine

theorem State.now_congr {s t : State} (h : t.tails = s.tails) : t.now = s.now :=
  congrArg Tailstock.m (State.tail_congr h 5)

/-! ### Coasting (R324, R325) -/

theorem pllCoast_spec {s : State} {p : Nat} (hcoast : s.coasting p = false) :
    (s.coast p).flag locClk (R.CLK_PLL_LOCKED p) = false ∧ (s.coast p).flag locClk (R.CLK_PLL_COAST p) = true ∧
    (s.coast p).clk.fastOn = true ∧
    (s.coast p).clkF (R.CLK_PLL_COASTS p) = satNat (s.clkF (R.CLK_PLL_COASTS p) + 1) (R.CLK_PLL_COASTS p).len ∧
    (s.fastStable = true → (s.coast p).flag locClk (R.CLK_PLL_RELOCK_BUSY p) = true ∧
      (s.coast p).flag locClk (R.CLK_PLL_ON_FAST p) = true ∧ (s.coast p).onFast p = true ∧
      (s.coast p).flag locClk R.CLK_STAT_SYS_ON_FAST = true) ∧
    (s.fastStable = false → (s.coast p).flag locClk (R.CLK_PLL_RELOCK_BUSY p) = false ∧
      (s.coast p).clk.tripAt = some (s.clk.tripAt.getD s.now)) := by
  obtain ⟨hlocked, hcoasts, hbusy, hcount⟩ := s.coasted_spec p
  have hstable := s.fastStable_coasted p
  have hoff : 0x100 + 4 * p ≠ 4 := by omega
  have hclk : (s.coasted p).clk.tripAt = s.clk.tripAt := rfl
  have hnow : (s.coasted p).now = s.now := State.now_congr (ClocksOnly.coasted s p).tails
  have hon : (s.coasted p).clk.fastOn = true := rfl
  rw [State.coast_eq, if_neg (by rw [hcoast]; exact Bool.false_ne_true), hstable]
  obtain ⟨u, hu⟩ : ∃ u, s.coasted p = u := ⟨_, rfl⟩
  rw [hu] at hlocked hcoasts hbusy hcount hstable hclk hnow hon ⊢
  by_cases hfast : s.fastStable = true
  · obtain ⟨-, hunlocked, -, -, hrun⟩ := u.relock_spec p true
    have hto := u.toFast_onFast p (hstable.trans hfast)
    have hkeep : ∀ g : Fld, g.off = 0x100 + 4 * p → g.lo = 1 ∧ g.len = 1 ∨ 16 ≤ g.lo → (u.toFast p).clkF g = u.clkF g :=
      fun g ho hl => (u.clkF_toFast p (ho ▸ hoff)).trans (u.relock_field true ho hl)
    rw [if_pos hfast]
    refine ⟨State.flag_false_of ((u.clkF_toFast p hoff).trans hunlocked),
      State.flag_iff.2 ((hkeep _ rfl (.inl ⟨rfl, rfl⟩)).trans hcoasts), hrun, (hkeep _ rfl (.inr (Nat.le_refl _))).trans hcount,
      fun _ => ⟨hto.busy, hto.run, hto.onFast, ?_⟩, fun h => ?_⟩
    · exact State.flag_iff.2 ((u.relock p true).pll_put_self (f := R.CLK_STAT_SYS_ON_FAST) 1 (by decide))
    · rw [hfast] at h
      cases h
  · have hkeep : ∀ g, (u.setClk { u.clk with tripAt := some (u.clk.tripAt.getD u.now) }).clkF g = u.clkF g :=
      u.clkF_setClk _
    rw [if_neg hfast]
    refine ⟨State.flag_false_of ((hkeep _).trans hlocked), State.flag_iff.2 ((hkeep _).trans hcoasts), hon,
      (hkeep _).trans hcount, fun h => absurd h hfast, fun _ => ⟨State.flag_false_of ((hkeep _).trans hbusy), ?_⟩⟩
    show some (u.clk.tripAt.getD u.now) = _
    rw [hclk, hnow]

/-! ### The end of a relock (R326 to R328) -/

/-- The registers of a PLL whose relock has ended. -/
def State.relocked (s : State) (p : Nat) (fast : Bool) : State :=
  (((s.clkPut (R.CLK_PLL_LOCKED p) 1).clkPut (R.CLK_PLL_RELOCK_BUSY p) 0).clkPut (R.CLK_PLL_ON_FAST p) 0).putB locClk
    (R.CLK_PLL_SRC_FAST p) fast

/-- SYS_ON_FAST, once no PLL is on FAST_OSC. -/
def State.sysShown (s : State) : State :=
  if (plls s.part).any (fun q => s.flag locClk (R.CLK_PLL_SRC_FAST q)) then s else s.clkPut R.CLK_STAT_SYS_ON_FAST 0

/-- What is kept of a relock that has ended. -/
def State.relockOver (s : State) (p : Nat) : State :=
  s.setClk { s.clk with
    relockAt := Tab.del s.clk.relockAt p, relockTo := Tab.del s.clk.relockTo p, num := Tab.del s.clk.num p }

/-- The clock at the end of a relock. -/
def State.relockEnd (s : State) (p : Nat) : State := match Tab.get? s.clk.relockAt p with
  | none => s
  | some t => s.advanceTo (t + s.relockTicks (s.onFast p))

/-- The end of a relock, before what waited for it completes. -/
def State.relockDone (s : State) (p : Nat) : State :=
  (((s.relockEnd p).relocked p (s.onFast p)).sysShown).relockOver p

theorem ClocksOnly.relockDone (s : State) (p : Nat) : ClocksOnly (s.relockEnd p) (s.relockDone p) :=
  (((((ClocksOnly.put _ _ _).trans (.put _ _ _)).trans (.put _ _ _)).trans (.put _ _ _)).trans (.ite _ (.refl _)
    (.put _ _ _))).trans (.setClk _ _)

theorem execPllRelockDone_eq {s : State} {p : Nat} (hbusy : s.flag locClk (R.CLK_PLL_RELOCK_BUSY p) = true)
    (hrun : s.flag locClk (R.CLK_PLL_ON_FAST p) = true) :
    execPllRelockDone p s = .next (match Tab.get? (((s.relockEnd p).relocked p (s.onFast p)).sysShown).clk.num p with
      | none => s.relockDone p
      | some x => (s.relockDone p).complete x.1 (okC x.2)).fastRest := by
  unfold execPllRelockDone
  rw [hbusy, hrun]
  rfl

theorem State.relocked_spec (s : State) (p : Nat) (fast : Bool) : (s.relocked p fast).clkF (R.CLK_PLL_LOCKED p) = 1 ∧
    (s.relocked p fast).clkF (R.CLK_PLL_RELOCK_BUSY p) = 0 ∧ (s.relocked p fast).clkF (R.CLK_PLL_ON_FAST p) = 0 ∧
    (s.relocked p fast).clkF (R.CLK_PLL_SRC_FAST p) = b2n fast := by
  obtain ⟨a, ha⟩ : ∃ a, s.clkPut (R.CLK_PLL_LOCKED p) 1 = a := ⟨_, rfl⟩
  obtain ⟨b, hb⟩ : ∃ b, a.clkPut (R.CLK_PLL_RELOCK_BUSY p) 0 = b := ⟨_, rfl⟩
  obtain ⟨c, hc⟩ : ∃ c, b.clkPut (R.CLK_PLL_ON_FAST p) 0 = c := ⟨_, rfl⟩
  have hd : s.relocked p fast = c.clkPut (R.CLK_PLL_SRC_FAST p) (b2n fast) := by
    rw [← hc, ← hb, ← ha]
    rfl
  have hD : ∀ {g : Fld}, g.off = 0x100 + 4 * p → (g.lo + g.len ≤ 3 ∨ 4 ≤ g.lo) →
      (c.clkPut (R.CLK_PLL_SRC_FAST p) (b2n fast)).clkF g = c.clkF g := fun {g} ho hl =>
    c.clkF_put_field (f := R.CLK_PLL_SRC_FAST p) _ (Nat.le_of_ble_eq_true rfl) ho hl
  have hC : ∀ {g : Fld}, g.off = 0x100 + 4 * p → (g.lo + g.len ≤ 2 ∨ 3 ≤ g.lo) → c.clkF g = b.clkF g := fun {g} ho hl => by
    rw [← hc]
    exact b.clkF_put_field (f := R.CLK_PLL_ON_FAST p) 0 (Nat.le_of_ble_eq_true rfl) ho hl
  have hB : ∀ {g : Fld}, g.off = 0x100 + 4 * p → (g.lo + g.len ≤ 6 ∨ 7 ≤ g.lo) → b.clkF g = a.clkF g := fun {g} ho hl => by
    rw [← hb]
    exact a.clkF_put_field (f := R.CLK_PLL_RELOCK_BUSY p) 0 (Nat.le_of_ble_eq_true rfl) ho hl
  rw [hd]
  refine ⟨?_, ?_, ?_, ?_⟩
  · rw [hD rfl (.inl (Nat.le_of_ble_eq_true rfl)), hC rfl (.inl (Nat.le_of_ble_eq_true rfl)),
      hB rfl (.inl (Nat.le_of_ble_eq_true rfl)), ← ha]
    exact s.pll_put_self (f := R.CLK_PLL_LOCKED p) 1 (Nat.le_of_ble_eq_true rfl)
  · rw [hD rfl (.inr (Nat.le_of_ble_eq_true rfl)), hC rfl (.inr (Nat.le_of_ble_eq_true rfl)), ← hb]
    exact a.pll_put_self (f := R.CLK_PLL_RELOCK_BUSY p) 0 (Nat.le_of_ble_eq_true rfl)
  · rw [hD rfl (.inl (Nat.le_of_ble_eq_true rfl)), ← hc]
    exact b.pll_put_self (f := R.CLK_PLL_ON_FAST p) 0 (Nat.le_of_ble_eq_true rfl)
  · refine (c.pll_put_self (f := R.CLK_PLL_SRC_FAST p) _ (Nat.le_of_ble_eq_true rfl)).trans ?_
    cases fast <;> rfl

theorem State.clkF_sysShown (s : State) {g : Fld} (h : g.off ≠ 4) : s.sysShown.clkF g = s.clkF g := by
  unfold State.sysShown
  split
  · rfl
  · exact s.clkF_clkPut_off (f := R.CLK_STAT_SYS_ON_FAST) 0 h

theorem State.clkF_relockDone (s : State) (p : Nat) {g : Fld} (h : g.off = 0x100 + 4 * p) :
    (s.relockDone p).clkF g = ((s.relockEnd p).relocked p (s.onFast p)).clkF g :=
  (State.clkF_setClk _ _ g).trans (State.clkF_sysShown _ (by omega))

theorem State.relockEnd_rest (s : State) (p : Nat) : { s.relockEnd p with tails := s.tails } = s := by
  unfold State.relockEnd
  split
  · rfl
  · rfl

theorem State.now_relockEnd {s : State} {p t0 : Nat} (h : Tab.get? s.clk.relockAt p = some t0) :
    t0 + s.relockTicks (s.onFast p) ≤ (s.relockEnd p).now := by
  unfold State.relockEnd
  rw [h]
  dsimp only
  rw [State.now_advanceTo]
  exact Nat.le_max_right _ _

theorem State.num_sysShown (s : State) (p : Nat) : (((s.relockEnd p).relocked p (s.onFast p)).sysShown).clk.num = s.clk.num := by
  have hclk : ∀ u : State, u.sysShown.clk = u.clk := fun u => by
    unfold State.sysShown
    split <;> rfl
  rw [hclk]
  exact congrArg Clk.num (congrArg State.clk (s.relockEnd_rest p) :)

theorem pllRelockDone_spec {s : State} {p : Nat} (hbusy : s.flag locClk (R.CLK_PLL_RELOCK_BUSY p) = true)
    (hrun : s.flag locClk (R.CLK_PLL_ON_FAST p) = true) : ∃ u : State,
      u.flag locClk (R.CLK_PLL_LOCKED p) = true ∧ u.flag locClk (R.CLK_PLL_RELOCK_BUSY p) = false ∧
      u.flag locClk (R.CLK_PLL_ON_FAST p) = false ∧ u.flag locClk (R.CLK_PLL_SRC_FAST p) = s.onFast p ∧
      (∀ t0, Tab.get? s.clk.relockAt p = some t0 → t0 + s.relockTicks (s.onFast p) ≤ u.now) ∧
      (Tab.get? s.clk.num p = none → execPllRelockDone p s = .next u.fastRest) ∧
      (∀ k r, Tab.get? s.clk.num p = some (k, r) →
        execPllRelockDone p s = .next ((u.complete k { status := stOk, result := r % 65536 }).fastRest)) ∧
      { u with tails := s.tails, regs := s.regs, clk := s.clk } = s := by
  obtain ⟨hlocked, hidle, hstill, hsrc⟩ := (s.relockEnd p).relocked_spec p (s.onFast p)
  have hexec := execPllRelockDone_eq hbusy hrun
  rw [s.num_sysShown] at hexec
  have hclk := ClocksOnly.relockDone s p
  refine ⟨s.relockDone p, State.flag_iff.2 ((s.clkF_relockDone p rfl).trans hlocked),
    State.flag_false_of ((s.clkF_relockDone p rfl).trans hidle), State.flag_false_of ((s.clkF_relockDone p rfl).trans hstill),
    ?_, fun t0 ht => ?_, fun hnum => ?_, fun k r hnum => ?_, ?_⟩
  · refine (congrArg (· == 1) ((s.clkF_relockDone p (g := R.CLK_PLL_SRC_FAST p) rfl).trans hsrc)).trans ?_
    cases s.onFast p <;> rfl
  · rw [State.now_congr hclk.tails]
    exact State.now_relockEnd ht
  · rw [hexec, hnum]
  · rw [hexec, hnum]
    rfl
  · conv => rhs; rw [← s.relockEnd_rest p, ← (show { s.relockDone p with
      regs := (s.relockEnd p).regs, clk := (s.relockEnd p).clk } = s.relockEnd p from hclk)]
    rw [show (s.relockEnd p).regs = s.regs from (congrArg State.regs (s.relockEnd_rest p) :),
      show (s.relockEnd p).clk = s.clk from (congrArg State.clk (s.relockEnd_rest p) :)]

/-! ### The reduced safe state (R325) -/

/-- Muting leaves the fault state. -/
theorem State.faults_safeMutes (s : State) (every : Bool) : (s.safeMutes every).faults = s.faults := by
  refine (foldl_keeps (P := fun u : State => u.faults = (allOuts.foldl _ s).faults) (fun u n hu => ?_) _ rfl).trans
    (foldl_keeps (P := fun u : State => u.faults = s.faults) (fun u x hu => ?_) _ rfl)
  · split
    · refine Eq.trans ?_ hu
      unfold State.muteTrig
      dsimp only
      split <;> rfl
    · exact hu
  · split
    · refine Eq.trans ?_ hu
      unfold State.muteOut
      dsimp only
      split <;> rfl
    · exact hu

/-- Muting leaves the faceplate's registers. -/
theorem State.fp_safeMutes (s : State) (every : Bool) {f : Fld} (hoff : f.off < 16777216) :
    (s.safeMutes every).fp f = s.fp f := by
  have hput : ∀ (u : State) {loc : Nat} {g : Fld} v, loc < locFp → g.off < 16777216 → (u.put loc g v).fp f = u.fp f :=
    fun u loc g v hloc hg => u.fld_put_loc v (Nat.ne_of_gt hloc) hg hoff
  have hout : ∀ (u : State), ∀ x ∈ allOuts, (u.muteOut x.1 x.2).fp f = u.fp f := fun u x hx => by
    have hall : ∀ y ∈ allOuts, mkLoc 6 0 0 (8 + y.1) y.2 < locFp := by decide
    have hloc := hall x hx
    unfold State.muteOut State.bump State.bumpBy
    dsimp only
    split
    · rfl
    · rw [hput _ _ hloc (by decide), hput _ _ hloc (by decide), hput _ _ hloc (by decide)]
  have htrig : ∀ (u : State), ∀ n ∈ List.range 8, (u.muteTrig n).fp f = u.fp f := fun u n hn => by
    have hall : ∀ m ∈ List.range 8, hubLoc (20 + m) < locFp := by decide
    unfold State.muteTrig
    dsimp only
    split
    · exact hput _ _ (hall n hn) (by decide)
    · rfl
  unfold State.safeMutes
  refine (List.foldlRecOn (motive := fun u : State => u.fp f = (allOuts.foldl _ s).fp f) _ _ rfl
    (fun u hu n hn => ?_)).trans (List.foldlRecOn (motive := fun u : State => u.fp f = s.fp f) _ _ rfl (fun u hu x hx => ?_))
  · split
    · exact (htrig u n hn).trans hu
    · exact hu
  · split
    · exact (hout u x hx).trans hu
    · exact hu

/-- The reduced safe state before outputs and triggers are muted. -/
def State.reduceMarked (s : State) : State :=
  let t := (s.warm.setReg locFp 4 (s.reg locFp 4)).fpPut R.FP_BOOT_RST_CAUSE 4
  ((t.setFaults { t.faults with reduced := true }).put locCol R.FLT_STAT_SAFE 1).bump locCol R.FLT_STAT_SAFE_ENTRIES

theorem State.reduce_eq (s : State) : s.reduce = (s.reduceMarked.safeMutes true).faultNSync := rfl

theorem State.reduceMarked_eq (s : State) : ∃ u c : State, ∃ k, u.fpPut R.FP_BOOT_RST_CAUSE 4 = c ∧
    s.reduceMarked = (((c.setFaults { c.faults with reduced := true }).put locCol R.FLT_STAT_SAFE 1).put locCol
      R.FLT_STAT_SAFE_ENTRIES k) := ⟨_, _, _, rfl, rfl⟩

/-- The reduced safe state is safe state, marked as reduced, with reset cause 4 (R325). -/
theorem State.reduce_spec (s : State) : s.reduce.safe = true ∧ s.reduce.faults.reduced = true ∧
    s.reduce.fp R.FP_BOOT_RST_CAUSE = 4 := by
  obtain ⟨u, c, k, hc, hmarked⟩ := s.reduceMarked_eq
  obtain ⟨v, hv⟩ : ∃ v, c.setFaults { c.faults with reduced := true } = v := ⟨_, rfl⟩
  obtain ⟨w, hw⟩ : ∃ w, v.put locCol R.FLT_STAT_SAFE 1 = w := ⟨_, rfl⟩
  rw [hv, hw] at hmarked
  rw [State.reduce_eq, hmarked]
  refine ⟨?_, ?_, ?_⟩
  · rw [State.safe_faultNSync, State.safe_safeMutes]
    refine State.flag_iff.2 ((State.fld_put_apart w locCol (g := R.FLT_STAT_SAFE) k (by decide)).trans ?_)
    rw [← hw]
    exact v.fld_put_self _ 1 (by decide)
  · have hfaults : (((w.put locCol R.FLT_STAT_SAFE_ENTRIES k).safeMutes true).faultNSync).faults =
        ((w.put locCol R.FLT_STAT_SAFE_ENTRIES k).safeMutes true).faults :=
      (congrArg State.faults (Reports.faultNSync ((w.put locCol R.FLT_STAT_SAFE_ENTRIES k).safeMutes true)).rest :)
    rw [hfaults, State.faults_safeMutes]
    show w.faults.reduced = true
    rw [← hw, ← hv]
    rfl
  · have hcol : ∀ (x : State) {g : Fld} n, g.off < 16777216 → (x.put locCol g n).fp R.FP_BOOT_RST_CAUSE =
        x.fp R.FP_BOOT_RST_CAUSE := fun x g n hg => x.fld_put_loc n (show locFp ≠ locCol by decide) hg (by decide)
    rw [State.fp_faultNSync _ (by decide), State.fp_safeMutes _ _ (by decide), hcol _ _ (by decide),
      ← hw, hcol _ _ (by decide), ← hv]
    show c.fp R.FP_BOOT_RST_CAUSE = 4
    rw [← hc]
    exact u.fld_put_self _ 4 (by decide)

/-! ### The obligation -/

theorem ClocksOnly.sysBack (s : State) : ClocksOnly s s.sysBack := .foldl .backOne _ s

theorem State.sysReturn_stays {s : State} (h : s.flag locClk R.CLK_CTRL_SYS_RETURN = false ∨ s.lrefStable = false ∨
    s.clk.lrefOn = false ∨ s.hostReady = false ∨ (∀ q, pllOn s.part q = true → s.flag locClk (R.CLK_PLL_SRC_FAST q) = false ∨
      s.flag locClk (R.CLK_PLL_RELOCK_BUSY q) = true)) : execSysReturn s = .next s := by
  unfold execSysReturn
  refine if_neg fun hall => ?_
  simp only [Bool.and_eq_true, Bool.not_eq_true', List.any_eq_true, and_assoc] at hall
  obtain ⟨hreturn, hstable, hlref, hready, q, hq, hsrc, hidle⟩ := hall
  rcases h with h | h | h | h | h
  · exact absurd hreturn (by rw [h]; decide)
  · exact absurd hstable (by rw [h]; decide)
  · exact absurd hlref (by rw [h]; decide)
  · exact absurd hready (by rw [h]; decide)
  · rcases h q (List.mem_filter.1 hq).2 with h | h
    · exact absurd hsrc (by rw [h]; decide)
    · exact absurd hidle (by rw [h]; decide)

theorem State.sysReturn_returns {s : State} {p : Nat} (hp : pllOn s.part p = true)
    (hreturn : s.flag locClk R.CLK_CTRL_SYS_RETURN = true) (hstable : s.lrefStable = true) (hlref : s.clk.lrefOn = true)
    (hready : s.hostReady = true) (hsrc : s.flag locClk (R.CLK_PLL_SRC_FAST p) = true)
    (hidle : s.flag locClk (R.CLK_PLL_RELOCK_BUSY p) = false) :
    execSysReturn s = .next (s.advanceTo (s.clk.lrefAt + 625000000)).sysBack := by
  unfold execSysReturn
  rw [if_pos]
  simp only [Bool.and_eq_true, List.any_eq_true]
  exact ⟨⟨⟨⟨hreturn, hstable⟩, hlref⟩, hready⟩, p, mem_plls hp, hsrc, by rw [hidle]; rfl⟩

/-- Settles O46. -/
theorem systemPllsCoastAndRelock : Obligations.SystemPllsCoastAndRelock := by
  intro s p hp
  dsimp only
  refine ⟨fun hon hred hcoast => ?_, fun hcoast => ?_, fun h => ?_, pllRelockDone_spec, fun h => ?_, fun t0 ht hbusy => ?_,
    fun h => ?_, fun t0 ht hnot => ?_, State.sysReturn_stays, fun hreturn hstable hlref hready hsrc hidle => ?_⟩
  · obtain ⟨hlocked, hshown, hrun, hcount, hfast, hslow⟩ := pllCoast_spec hcoast
    refine ⟨s.coast p, ?_, hlocked, hshown, hrun, hcount, hfast, hslow, ClocksOnly.coast s p⟩
    show Host.Outcome.next (if _ then _ else _) = _
    rw [hp, hon, hred]
    have hlock : (s.flag locClk (R.CLK_PLL_LOCKED p) || s.flag locClk (R.CLK_PLL_RELOCK_BUSY p)) = true := by
      rw [State.coasting, ← Bool.not_or, Bool.not_eq_false'] at hcoast
      exact hcoast
    rw [hlock]
    rfl
  · show Host.Outcome.next (if _ then _ else _) = _
    have hlock : (s.flag locClk (R.CLK_PLL_LOCKED p) || s.flag locClk (R.CLK_PLL_RELOCK_BUSY p)) = false := by
      rw [State.coasting, ← Bool.not_or, Bool.not_eq_true'] at hcoast
      exact hcoast
    rw [hlock, Bool.and_false, if_neg Bool.false_ne_true]
  · show execPllRelockDone p s = _
    unfold execPllRelockDone
    rw [if_pos]
    rcases h with h | h
    · rw [h]
      rfl
    · rw [h, Bool.and_false]
      rfl
  · show execPllRelockTimeout p s = _
    unfold execPllRelockTimeout
    split
    · rfl
    · next ht =>
      rw [if_pos]
      rw [h.resolve_left (by rw [ht]; exact Option.some_ne_none _)]
      rfl
  · refine ⟨(s.advanceTo (t0 + usTicks 100)).setClk
      { s.clk with relockAt := Tab.del s.clk.relockAt p }, ?_, ?_, hbusy, rfl⟩
    · show execPllRelockTimeout p s = _
      unfold execPllRelockTimeout
      rw [ht]
      dsimp only
      rw [if_neg (by rw [hbusy]; decide)]
      rfl
    · show _ ≤ (s.advanceTo (t0 + usTicks 100)).now
      rw [State.now_advanceTo]
      exact Nat.le_max_right _ _
  · show execFastOscTimeout s = _
    unfold execFastOscTimeout
    split
    · rfl
    · next ht => rw [if_pos (h.resolve_left (by rw [ht]; exact Option.some_ne_none _))]
  · obtain ⟨hsafe, hreduced, hcause⟩ := (s.advanceTo (t0 + usTicks 2000)).reduce_spec
    refine ⟨s.advanceTo (t0 + usTicks 2000), ?_, ?_, rfl, hsafe, hreduced, hcause⟩
    · show execFastOscTimeout s = _
      unfold execFastOscTimeout
      rw [ht]
      dsimp only
      rw [if_neg (by rw [hnot]; exact Bool.false_ne_true)]
    · rw [State.now_advanceTo]
      exact Nat.le_max_right _ _
  · obtain ⟨u, hu⟩ : ∃ u, s.advanceTo (s.clk.lrefAt + 625000000) = u := ⟨_, rfl⟩
    have hrest : { u with tails := s.tails } = s := by
      rw [← hu]
      rfl
    have hpart : u.part = s.part := (congrArg State.part hrest :)
    have hregs : ∀ f, u.flag locClk f = s.flag locClk f := fun f =>
      congrArg (· == 1) (State.fld_congr (congrArg State.regs hrest :) hpart locClk f)
    have hclk := ClocksOnly.sysBack u
    obtain ⟨-, hdest, hbusy, hlocked⟩ : Returning u.sysBack p := State.back_returning (plls u.part) u (plls_nodup _)
      (by rw [hpart]; exact mem_plls hp) ((hregs _).trans hsrc) ((hregs _).trans hidle)
    refine ⟨u.sysBack, ?_, ?_, hbusy, hlocked, ?_, ?_⟩
    · rw [← hu]
      exact State.sysReturn_returns hp hreturn hstable hlref hready hsrc hidle
    · unfold State.onFast
      rw [hdest]
      rfl
    · rw [State.now_congr hclk.tails, ← hu, State.now_advanceTo]
      exact Nat.le_max_right _ _
    · conv => rhs; rw [← hrest, ← (show { u.sysBack with regs := u.regs, clk := u.clk } = u from hclk)]
      rw [show u.regs = s.regs from (congrArg State.regs hrest :), show u.clk = s.clk from (congrArg State.clk hrest :)]

end Sys2Proof.Machine
end

section
/-! PROOFS. The inter-die bridges and the drain gap (R276, R278, R279, R282 to R284). -/

namespace Sys2Proof.Machine

/-! ### The bridges' records and registers -/

theorem State.brg_setBrg_self (s : State) (d far : Nat) (x : Bridge) : (s.setBrg d far x).brg d far = x := by
  unfold State.brg State.setBrg
  rw [State.die_setDie_self, Tab.get_set_self]

theorem State.brg_setBrg_die (s : State) {d a : Nat} (far b : Nat) (x : Bridge) (h : a ≠ d) :
    (s.setBrg d far x).brg a b = s.brg a b := by
  unfold State.brg State.setBrg
  rw [State.die_setDie_ne _ _ h]

/-- A bridge's record on the same die: the one written, where the other die has the same rank, or untouched. -/
theorem State.brg_setBrg_same (s : State) (d far b : Nat) (x : Bridge) :
    (s.setBrg d far x).brg d b = if rankOf d b = rankOf d far then x else s.brg d b := by
  unfold State.brg State.setBrg
  rw [State.die_setDie_self]
  split
  · next h => rw [h, Tab.get_set_self]
  · next h => rw [Tab.get_set_ne _ _ _ (by omega)]

theorem State.brg_congr {s t : State} (h : t.dies = s.dies) (d far : Nat) : t.brg d far = s.brg d far := by
  rw [State.brg, State.die, h]
  rfl

theorem State.die_congr' {s t : State} (h : t.dies = s.dies) (d : Nat) : t.die d = s.die d := by
  rw [State.die, h, State.die]

/-- The die that an endpoint faces is another die of the package (R17). -/
theorem facingDie_spec {d ep : Nat} (hd : d < 4) (hep : ep < 3) : facingDie d ep < 4 ∧ facingDie d ep ≠ d := by
  have h : ∀ a < 4, ∀ b < 3, facingDie a b < 4 ∧ facingDie a b ≠ a := by decide
  exact h d hd ep hep

theorem brgLoc_ne {d far : Nat} (hd : d < 4) (hfar : far < 4) (h : far ≠ d) : brgLoc far d ≠ brgLoc d far := by
  unfold brgLoc mkLoc rankOf
  split <;> split <;> omega

theorem fget_lt (w : Word) (lo len : Nat) : fget w lo len < 2 ^ len := Nat.mod_lt _ (Nat.two_pow_pos len)

theorem State.fld_lt (s : State) (loc : Nat) (f : Fld) : s.fld loc f < 2 ^ f.len := fget_lt _ _ _

/-! ### Flit errors and lane failures (R282, R283) -/

theorem State.laneFail_fails (s : State) (d far lane : Nat) : ((s.laneFail d far lane).brgFail d far).isSome = true := by
  unfold State.laneFail
  split
  · next h => exact h
  · unfold State.brgFail
    rw [State.brg_setBrg_self]
    rfl

theorem State.laneFail_rest (s : State) (d far lane : Nat) : { s.laneFail d far lane with dies := s.dies } = s := by
  unfold State.laneFail
  split <;> rfl

theorem State.laneFail_far (s : State) {d far : Nat} (lane : Nat) (h : far ≠ d) :
    (s.laneFail d far lane).brg far d = s.brg far d := by
  unfold State.laneFail
  split
  · rfl
  · exact s.brg_setBrg_die far d _ h

/-- A lane failure's tick. -/
theorem State.laneFail_new {s : State} {d far : Nat} (lane : Nat) (h : s.brgFail d far = none) :
    s.laneFail d far lane = s.setBrg d far { s.brg d far with badLane := lane, failAt := some s.now, errs := [] } := by
  unfold State.laneFail
  rw [h]
  rfl

/-- The counts of a flit error. -/
def State.flitCounted (s : State) (d from_ : Nat) : State :=
  (s.bump (brgLoc d from_) R.BRG_CNT_CRC_ERR).bump (brgLoc from_ d) R.BRG_STAT_REPLAYS

/-- The errors of the last microsecond with a new one. -/
def State.errsNow (s : State) (d from_ lane : Nat) : List (Nat × Nat) :=
  (lane, s.now) :: (s.brg d from_).errs.filter (fun e => decide (s.now ≤ e.2 + usTicks 1))

/-- A flit error, counted and kept. -/
def State.flitNoted (s : State) (d from_ lane : Nat) : State :=
  (s.flitCounted d from_).setBrg d from_ { s.brg d from_ with errs := s.errsNow d from_ lane }

theorem State.crcError_eq (s : State) (d from_ lane : Nat) : s.crcError d from_ lane =
    if 4 ≤ ((s.errsNow d from_ lane).filter (fun e => e.1 == lane)).length then
      (s.flitNoted d from_ lane).laneFail d from_ lane
    else s.flitNoted d from_ lane := rfl

theorem State.dies_flitCounted (s : State) (d far : Nat) : (s.flitCounted d far).dies = s.dies := rfl

theorem State.fld_setBrg (s : State) (d far : Nat) (x : Bridge) (l : Nat) (f : Fld) : (s.setBrg d far x).fld l f = s.fld l f := rfl

theorem State.fld_flitNoted (s : State) (d far lane l : Nat) (f : Fld) :
    (s.flitNoted d far lane).fld l f = (s.flitCounted d far).fld l f := by rw [State.flitNoted, State.fld_setBrg]

theorem State.flitNoted_rest (s : State) (d far lane : Nat) :
    { s.flitNoted d far lane with regs := s.regs, dies := s.dies } = s := rfl

theorem State.flitNoted_brg (s : State) {d far : Nat} (lane : Nat) (h : far ≠ d) :
    (s.flitNoted d far lane).brg far d = s.brg far d ∧
      ((s.flitNoted d far lane).brg d far).failAt = (s.brg d far).failAt := by
  rw [State.flitNoted, State.brg_setBrg_die _ _ _ _ h, State.brg_setBrg_self]
  exact ⟨State.brg_congr (s.dies_flitCounted d far) far d, rfl⟩

theorem State.flitCounted_spec (s : State) {d far : Nat} (hne : brgLoc far d ≠ brgLoc d far) :
    (s.flitCounted d far).fld (brgLoc d far) R.BRG_CNT_CRC_ERR =
      satNat (s.fld (brgLoc d far) R.BRG_CNT_CRC_ERR + 1) R.BRG_CNT_CRC_ERR.len ∧
    (s.flitCounted d far).fld (brgLoc far d) R.BRG_STAT_REPLAYS =
      satNat (s.fld (brgLoc far d) R.BRG_STAT_REPLAYS + 1) R.BRG_STAT_REPLAYS.len := by
  obtain ⟨u, hu⟩ : ∃ u, s.bump (brgLoc d far) R.BRG_CNT_CRC_ERR = u := ⟨_, rfl⟩
  have hcounted : s.flitCounted d far = u.bump (brgLoc far d) R.BRG_STAT_REPLAYS := by
    rw [← hu]
    rfl
  rw [hcounted]
  refine ⟨?_, ?_⟩
  · rw [State.bump, State.bumpBy, u.fld_put_loc _ (Ne.symm hne) (by decide) (by decide), ← hu]
    exact (s.fld_put_self _ _ (by decide)).trans (Nat.mod_eq_of_lt (satNat_lt _ _))
  · refine (u.fld_put_self _ _ (by decide)).trans ((Nat.mod_eq_of_lt (satNat_lt _ _)).trans ?_)
    rw [← hu, State.bump, State.bumpBy, s.fld_put_loc _ hne (by decide) (by decide)]

/-- A flit error counts on both sides, keeps the flit, and the fourth of a lane in 1 µs is its failure. -/
theorem crcError_spec (s : State) {d far : Nat} (lane : Nat) (hne : brgLoc far d ≠ brgLoc d far) (hfar : far ≠ d) :
    (s.crcError d far lane).fld (brgLoc d far) R.BRG_CNT_CRC_ERR =
      satNat (s.fld (brgLoc d far) R.BRG_CNT_CRC_ERR + 1) R.BRG_CNT_CRC_ERR.len ∧
    (s.crcError d far lane).fld (brgLoc far d) R.BRG_STAT_REPLAYS =
      satNat (s.fld (brgLoc far d) R.BRG_STAT_REPLAYS + 1) R.BRG_STAT_REPLAYS.len ∧
    ((s.crcError d far lane).brg far d) = s.brg far d ∧
    { s.crcError d far lane with regs := s.regs, dies := s.dies } = s ∧
    (let near := ((s.brg d far).errs.filter (fun e => e.1 == lane && decide (s.now ≤ e.2 + 625))).length
     (3 ≤ near → ((s.crcError d far lane).brgFail d far).isSome = true) ∧
       (near < 3 → ((s.crcError d far lane).brg d far).failAt = (s.brg d far).failAt)) := by
  have hcount : ((s.errsNow d far lane).filter (fun e => e.1 == lane)).length =
      ((s.brg d far).errs.filter (fun e => e.1 == lane && decide (s.now ≤ e.2 + 625))).length + 1 := by
    unfold State.errsNow
    rw [List.filter_cons_of_pos (by simp), List.filter_filter, List.length_cons]
    rfl
  obtain ⟨hcrc, hrep⟩ := s.flitCounted_spec hne
  have hnoted := s.fld_flitNoted d far lane
  have hbrg := (s.flitNoted_brg lane hfar).1
  have hfail := (s.flitNoted_brg lane hfar).2
  have hrest := s.flitNoted_rest d far lane
  rw [State.crcError_eq, hcount]
  obtain ⟨u, hu⟩ : ∃ u, s.flitNoted d far lane = u := ⟨_, rfl⟩
  rw [hu] at hnoted hbrg hrest hfail ⊢
  obtain ⟨near, hnear⟩ : ∃ n, ((s.brg d far).errs.filter (fun e => e.1 == lane && decide (s.now ≤ e.2 + 625))).length = n :=
    ⟨_, rfl⟩
  rw [hnear]
  dsimp only
  by_cases h : 4 ≤ near + 1
  · have hlane := u.laneFail_rest d far lane
    have hregs : (u.laneFail d far lane).regs = u.regs := (congrArg State.regs hlane :)
    have hpart : (u.laneFail d far lane).part = u.part := (congrArg State.part hlane :)
    rw [if_pos h]
    refine ⟨(State.fld_congr hregs hpart _ _).trans ((hnoted _ _).trans hcrc),
      (State.fld_congr hregs hpart _ _).trans ((hnoted _ _).trans hrep), (u.laneFail_far lane hfar).trans hbrg, ?_,
      fun _ => u.laneFail_fails d far lane, fun hlt => absurd hlt (by omega)⟩
    conv => rhs; rw [← hrest, ← hlane]
  · rw [if_neg h]
    exact ⟨(hnoted _ _).trans hcrc, (hnoted _ _).trans hrep, hbrg, hrest, fun hge => absurd hge (by omega), fun _ => hfail⟩

/-- The bridge halts new flits 0.5 µs after a lane failure, until 6.5 µs after it (R283). -/
theorem brgHalted_advance {t : State} {d far : Nat} (h : (t.brg d far).failAt = some t.now) (n : Nat) :
    (t.advance n).brgHalted d far = decide (313 ≤ n ∧ n < 4063) := by
  have hfail : (t.advance n).brgFail d far = some t.now := by
    unfold State.brgFail
    rw [State.brg_congr (t.advance_dies n), h]
  have hfor : ∀ ns, (t.advance n).failFor d far ns = decide (nsTicks ns ≤ n) := fun ns => by
    unfold State.failFor
    rw [hfail, State.now_advance]
    exact decide_eq_decide.2 (by omega)
  have h500 : nsTicks 500 = 313 := by decide
  have h6500 : nsTicks 6500 = 4063 := by decide
  unfold State.brgHalted
  rw [hfor, hfor, h500, h6500, ← decide_not, ← Bool.decide_and]
  exact decide_eq_decide.2 (by omega)

/-! ### A flit arrives (R276, R282, R293) -/

/-- A flit has been taken: it leaves the sender's replay buffer. -/
def State.ackFlit (s : State) (d far : Nat) (rest : List Flit) (seq : Nat) : State :=
  let s := s.setBrg far d { s.brg far d with replay := rest }
  s.setBrg d far { s.brg d far with rxSeq := seq }

theorem State.ackFlit_spec (s : State) {d far : Nat} (rest : List Flit) (seq : Nat) (h : far ≠ d) :
    ((s.ackFlit d far rest seq).brg far d).replay = rest ∧ ((s.ackFlit d far rest seq).brg d far).rxSeq = seq ∧
      (∀ b, ((s.ackFlit d far rest seq).brg d b).replay = (s.brg d b).replay ∧
        ((s.ackFlit d far rest seq).brg d b).txSeq = (s.brg d b).txSeq) ∧
      { s.ackFlit d far rest seq with dies := s.dies } = s := by
  unfold State.ackFlit
  dsimp only
  refine ⟨?_, ?_, fun b => ?_, rfl⟩
  · rw [State.brg_setBrg_die _ _ _ _ h, State.brg_setBrg_self]
  · rw [State.brg_setBrg_self]
  · rw [State.brg_setBrg_same, State.brg_setBrg_die _ _ _ _ (Ne.symm h), State.brg_setBrg_die _ _ _ _ (Ne.symm h)]
    split
    · next hrank =>
      have hb : s.brg d b = s.brg d far := by rw [State.brg, hrank, State.brg]
      rw [hb]
      exact ⟨rfl, rfl⟩
    · exact ⟨rfl, rfl⟩

/-- What an arriving flit comes to where no injection waits. -/
theorem execBridgeFlitReceive_eq {s : State} {d ep : Nat} {w : Flit} {rest : List Flit} (bad : Option Nat) (hd : d < 4)
    (hep : ep < 3) (hup : s.brgUp d (facingDie d ep) = true) (hrun : s.brgHalted d (facingDie d ep) = false)
    (htx : (s.brg (facingDie d ep) d).replay = w :: rest) (harmed : s.faults.armed = []) :
    execBridgeFlitReceive d ep bad s =
      if bad.isSome then .next (s.crcError d (facingDie d ep) (bad.getD 0))
      else if w.far = d then
        match s.takeCell d w with
        | none => .next (s.wakeSlice d 0)
        | some (t, lfid) => .next (((t.ackFlit d (facingDie d ep) rest ((s.brg d (facingDie d ep)).rxSeq + 1)).deliverCell d w
            lfid).serveWaits (facingDie d ep))
      else if !s.brgUp d w.far then .next (s.loseFrame (d, w.far) w)
      else if !s.takesFlits d w.far 1 then .next s
      else
        let u := s.ackFlit d (facingDie d ep) rest ((s.brg d (facingDie d ep)).rxSeq + 1)
        let b := u.brg d w.far
        .next ((u.setBrg d w.far { b with txSeq := b.txSeq + 1, replay := b.replay ++ [{ w with seq := b.txSeq }] }).serveWaits
          (facingDie d ep)) := by
  have hquiet : ∀ kind (here : Nat → Bool) off detail, s.checked kind here off detail = (s, false) := fun _ _ _ _ => by
    unfold State.checked
    rw [harmed]
    rfl
  unfold execBridgeFlitReceive
  dsimp only
  rw [if_neg (by rintro (h | h | h | h); exacts [absurd hd (by omega), absurd hep (by omega), by simp [hup] at h, by simp [hrun] at h]), htx]
  simp only [hquiet, Bool.or_false]
  rfl

/-- What a flit comes to at an endpoint that is up (R276, R282, R293). -/
theorem bridgeFlit_spec {s : State} {d ep : Nat} {w : Flit} {rest : List Flit} (hd : d < 4) (hep : ep < 3)
    (hup : s.brgUp d (facingDie d ep) = true) (hrun : s.brgHalted d (facingDie d ep) = false)
    (htx : (s.brg (facingDie d ep) d).replay = w :: rest) (harmed : s.faults.armed = []) :
    (w.far = d → (s.takeCell d w = none → execBridgeFlitReceive d ep none s = .next (s.wakeSlice d 0)) ∧
      ∀ t lfid, s.takeCell d w = some (t, lfid) → ∃ u : State,
        execBridgeFlitReceive d ep none s = .next ((u.deliverCell d w lfid).serveWaits (facingDie d ep)) ∧
        (u.brg (facingDie d ep) d).replay = rest ∧
        (u.brg d (facingDie d ep)).rxSeq = (s.brg d (facingDie d ep)).rxSeq + 1) ∧
    (w.far ≠ d →
      (s.brgUp d w.far = false → execBridgeFlitReceive d ep none s = .next (s.loseFrame (d, w.far) w)) ∧
      (s.brgUp d w.far = true → s.takesFlits d w.far 1 = false → execBridgeFlitReceive d ep none s = .next s) ∧
      (s.brgUp d w.far = true → s.takesFlits d w.far 1 = true → ∃ u : State,
        execBridgeFlitReceive d ep none s = .next (u.serveWaits (facingDie d ep)) ∧
        (u.brg (facingDie d ep) d).replay = rest ∧
        (u.brg d w.far).replay = (s.brg d w.far).replay ++ [{ w with seq := (s.brg d w.far).txSeq }] ∧
        { u with dies := s.dies } = s)) := by
  obtain ⟨hfar, hne⟩ := facingDie_spec hd hep
  have hexec := execBridgeFlitReceive_eq none hd hep hup hrun htx harmed
  rw [if_neg (by decide)] at hexec
  refine ⟨fun hhere => ⟨fun hnone => ?_, fun t lfid hsome => ?_⟩, fun haway => ⟨fun hdown => ?_, fun hon hfull => ?_,
    fun hon htakes => ?_⟩⟩
  · rw [hexec, if_pos hhere, hnone]
  · obtain ⟨hrest, hseq, -, -⟩ := t.ackFlit_spec rest ((s.brg d (facingDie d ep)).rxSeq + 1) hne
    refine ⟨_, ?_, hrest, hseq⟩
    rw [hexec, if_pos hhere, hsome]
  · rw [hexec, if_neg haway, hdown]
    rfl
  · rw [hexec, if_neg haway, hon, hfull]
    rfl
  · obtain ⟨hrest, -, hkeep, hdies⟩ := s.ackFlit_spec rest ((s.brg d (facingDie d ep)).rxSeq + 1) hne
    obtain ⟨v, hv⟩ : ∃ v, s.ackFlit d (facingDie d ep) rest ((s.brg d (facingDie d ep)).rxSeq + 1) = v := ⟨_, rfl⟩
    obtain ⟨hreplay, htxSeq⟩ := hkeep w.far
    rw [hv] at hrest hreplay htxSeq hdies hexec
    refine ⟨v.setBrg d w.far { v.brg d w.far with
      txSeq := (v.brg d w.far).txSeq + 1, replay := (v.brg d w.far).replay ++ [{ w with seq := (v.brg d w.far).txSeq }] },
      ?_, ?_, ?_, hdies⟩
    · rw [hexec, if_neg haway, hon, htakes]
      rfl
    · rw [State.brg_setBrg_die _ _ _ _ hne]
      exact hrest
    · rw [State.brg_setBrg_self, ← hreplay, ← htxSeq]

/-! ### Failover, loss and recovery of a bridge (R283, R284) -/

/-- A failover that is done, before what it found is stored. -/
def State.failedOver (s : State) (d far t0 : Nat) : State :=
  let s := s.advanceTo (t0 + nsTicks 6500)
  (s.bumpBy (brgLoc d far) R.BRG_STAT_REPLAYS (s.brg d far).replay.length).setBrg d far
    { s.brg d far with
      failAt := none, lanes := if s.fld (brgLoc d far) R.BRG_STAT_SPARES_LEFT = 0 then 8 else (s.brg d far).lanes }

theorem execBridgeFailoverDone_eq {s : State} {d ep t0 : Nat} (h : (s.brg d (facingDie d ep)).failAt = some t0) :
    execBridgeFailoverDone d ep s = .next (((
      if s.fld (brgLoc d (facingDie d ep)) R.BRG_STAT_SPARES_LEFT = 0 then
        ((s.failedOver d (facingDie d ep) t0).put (brgLoc d (facingDie d ep)) R.BRG_STAT_DEGRADED 1).raise
          (brgLoc d (facingDie d ep)) 0x42 8
      else ((s.failedOver d (facingDie d ep) t0).put (brgLoc d (facingDie d ep)) R.BRG_STAT_SPARES_LEFT
        (s.fld (brgLoc d (facingDie d ep)) R.BRG_STAT_SPARES_LEFT - 1)).raise (brgLoc d (facingDie d ep)) 0x41
          (s.brg d (facingDie d ep)).badLane).serveWaits d).serveWaits (facingDie d ep)) := by
  unfold execBridgeFailoverDone
  dsimp only
  rw [h]
  rfl

theorem bridgeFailover_spec {s : State} {d ep t0 : Nat} (h : (s.brg d (facingDie d ep)).failAt = some t0) :
    let far := facingDie d ep
    let l := brgLoc d far
    ∃ u : State, t0 + 4063 ≤ u.now ∧ (u.brg d far).failAt = none ∧
      (s.fld l R.BRG_STAT_SPARES_LEFT = 0 →
        execBridgeFailoverDone d ep s = .next (((u.raise l 0x42 8).serveWaits d).serveWaits far) ∧
        (u.brg d far).lanes = 8 ∧ u.flag l R.BRG_STAT_DEGRADED = true) ∧
      (s.fld l R.BRG_STAT_SPARES_LEFT ≠ 0 →
        execBridgeFailoverDone d ep s = .next (((u.raise l 0x41 (s.brg d far).badLane).serveWaits d).serveWaits far) ∧
        (u.brg d far).lanes = (s.brg d far).lanes ∧
        u.fld l R.BRG_STAT_SPARES_LEFT = s.fld l R.BRG_STAT_SPARES_LEFT - 1) := by
  have hexec := execBridgeFailoverDone_eq h
  obtain ⟨far, hfar⟩ : ∃ far, facingDie d ep = far := ⟨_, rfl⟩
  rw [hfar] at hexec ⊢
  dsimp only
  have hnow : t0 + 4063 ≤ (s.failedOver d far t0).now := by
    have h6500 : nsTicks 6500 = 4063 := by decide
    show _ ≤ (s.advanceTo (t0 + nsTicks 6500)).now
    rw [State.now_advanceTo, h6500]
    exact Nat.le_max_right _ _
  have hbrg : (s.failedOver d far t0).brg d far = { s.brg d far with
      failAt := none, lanes := if s.fld (brgLoc d far) R.BRG_STAT_SPARES_LEFT = 0 then 8 else (s.brg d far).lanes } :=
    State.brg_setBrg_self _ _ _ _
  obtain ⟨v, hv⟩ : ∃ v, s.failedOver d far t0 = v := ⟨_, rfl⟩
  rw [hv] at hexec hnow hbrg
  by_cases hspare : s.fld (brgLoc d far) R.BRG_STAT_SPARES_LEFT = 0
  · rw [if_pos hspare] at hexec hbrg
    refine ⟨v.put (brgLoc d far) R.BRG_STAT_DEGRADED 1, hnow, ?_, fun _ => ⟨hexec, ?_, ?_⟩, fun h => absurd hspare h⟩
    · exact congrArg Bridge.failAt hbrg
    · exact congrArg Bridge.lanes hbrg
    · exact State.flag_iff.2 (v.fld_put_self _ 1 (by decide))
  · rw [if_neg hspare] at hexec hbrg
    refine ⟨v.put (brgLoc d far) R.BRG_STAT_SPARES_LEFT (s.fld (brgLoc d far) R.BRG_STAT_SPARES_LEFT - 1), hnow, ?_,
      fun h => absurd h hspare, fun _ => ⟨hexec, ?_, ?_⟩⟩
    · exact congrArg Bridge.failAt hbrg
    · exact (congrArg Bridge.lanes hbrg).trans rfl
    · exact (v.fld_put_self _ _ (by decide)).trans
        (Nat.mod_eq_of_lt (Nat.lt_of_le_of_lt (Nat.sub_le _ _) (s.fld_lt _ R.BRG_STAT_SPARES_LEFT)))

/-- UP of both ends of a bridge. -/
def State.putUp (s : State) (d far v : Nat) : State :=
  (s.put (brgLoc d far) R.BRG_STAT_UP v).put (brgLoc far d) R.BRG_STAT_UP v

theorem State.putUp_spec (s : State) {d far : Nat} (v : Nat) (hne : brgLoc far d ≠ brgLoc d far) :
    (s.putUp d far v).fld (brgLoc d far) R.BRG_STAT_UP = v % 2 ∧ (s.putUp d far v).fld (brgLoc far d) R.BRG_STAT_UP = v % 2 :=
  ⟨(State.fld_put_loc (f := R.BRG_STAT_UP) (g := R.BRG_STAT_UP) _ v (Ne.symm hne) (by decide) (by decide)).trans
    (s.fld_put_self _ v (by decide)), State.fld_put_self _ _ v (by decide)⟩

/-- A bridge that has lost lock, before it is reported. -/
def State.brgDropped (s : State) (d far : Nat) : State :=
  let s := s.putUp d far 0
  let s := s.setBrg d far { s.brg d far with failAt := none }
  s.setBrg far d { s.brg far d with failAt := none }

theorem State.brgDropped_spec (s : State) {d far : Nat} (hne : brgLoc far d ≠ brgLoc d far) (h : far ≠ d) :
    (s.brgDropped d far).flag (brgLoc d far) R.BRG_STAT_UP = false ∧
    (s.brgDropped d far).flag (brgLoc far d) R.BRG_STAT_UP = false ∧ ((s.brgDropped d far).brg d far).failAt = none ∧
    ((s.brgDropped d far).brg far d).failAt = none ∧
    { s.brgDropped d far with regs := s.regs, dies := s.dies } = s := by
  obtain ⟨hl, hm⟩ := s.putUp_spec 0 hne
  refine ⟨State.flag_false_of hl, State.flag_false_of hm, ?_, ?_, rfl⟩
  all_goals unfold State.brgDropped
  · dsimp only
    rw [State.brg_setBrg_die _ _ _ _ (Ne.symm h), State.brg_setBrg_self]
  · dsimp only
    rw [State.brg_setBrg_self]

/-! ### The drain gap (R278, R279) -/

/-- A gap that has ended, before what waits is served. -/
def State.gapEnded (s : State) (d key : Nat) (g : Gap) : State :=
  s.setDie d { s.die d with gaps := Tab.del (s.die d).gaps key, waits := (s.die d).waits ++ g.held }

theorem State.endGap_eq {s : State} {d b e : Nat} {g : Gap} (h : Tab.get? (s.die d).gaps (4 * b + e) = some g) :
    s.endGap d b e = (s.gapEnded d (4 * b + e) g).serveWaits d := by
  unfold State.endGap
  dsimp only
  rw [h]
  rfl

theorem State.endGap_none {s : State} {d b e : Nat} (h : Tab.get? (s.die d).gaps (4 * b + e) = none) : s.endGap d b e = s := by
  unfold State.endGap
  dsimp only
  rw [h]

theorem State.waits_gapEnded (s : State) (d key : Nat) (g : Gap) :
    ((s.gapEnded d key g).die d).waits = (s.die d).waits ++ g.held := congrArg Die.waits (State.die_setDie_self _ _ _)

theorem drainGap_spec (s : State) (d b e : Nat) :
    let g := Tab.get? (s.die d).gaps (4 * b + e)
    let clear := s.gapClear d b e
    (clear = true ↔ s.unacked' d b e = 0 ∧ ∀ r ∈ (s.die d).waits, ¬(r.bucket = b ∧ r.far = e)) ∧
    (clear = false ∨ g = none → execDrainGapEnd d b e s = .next s) ∧
    (g = none → execDrainGapExpiry d b e s = .next s) ∧
    (∀ h, g = some h → ∃ u v : State,
      (clear = true → execDrainGapEnd d b e s = .next (u.serveWaits d) ∧
        execDrainGapExpiry d b e s = .next (u.serveWaits d)) ∧
      (clear = false → execDrainGapExpiry d b e s = .next (v.serveWaits d)) ∧
      (u.die d).waits = (s.die d).waits ++ h.held ∧ (v.die d).waits = (s.die d).waits ++ h.held ∧ h.until_ ≤ v.now ∧
      v.fld (clsLoc d) R.PIN_STAT_GAP_EXPIRED =
        satNat (s.fld (clsLoc d) R.PIN_STAT_GAP_EXPIRED + 1) R.PIN_STAT_GAP_EXPIRED.len) := by
  dsimp only
  refine ⟨?_, fun h => ?_, fun h => ?_, fun g hg => ?_⟩
  · simp only [State.gapClear, Bool.and_eq_true, beq_iff_eq, Bool.not_eq_true', List.any_eq_false]
  · unfold execDrainGapEnd
    rcases h with h | h
    · rw [h]
      rfl
    · rw [State.endGap_none h, ite_self]
  · unfold execDrainGapExpiry
    rw [h]
  · obtain ⟨v, hv⟩ : ∃ v, (s.advanceTo g.until_).bump (clsLoc d) R.PIN_STAT_GAP_EXPIRED = v := ⟨_, rfl⟩
    have hdies : v.dies = s.dies := by
      rw [← hv]
      rfl
    have hdie := State.die_congr' hdies d
    have hexpiry : execDrainGapExpiry d b e s = if s.gapClear d b e then .next (s.endGap d b e) else .next (v.endGap d b e) := by
      unfold execDrainGapExpiry
      rw [hg, ← hv]
    refine ⟨s.gapEnded d (4 * b + e) g, v.gapEnded d (4 * b + e) g, fun h => ⟨?_, ?_⟩, fun h => ?_, State.waits_gapEnded _ _ _ _,
      ?_, ?_, ?_⟩
    · unfold execDrainGapEnd
      rw [h, if_pos rfl, State.endGap_eq hg]
    · rw [hexpiry, h, if_pos rfl, State.endGap_eq hg]
    · rw [hexpiry, h, if_neg Bool.false_ne_true, State.endGap_eq (by rw [hdie]; exact hg)]
    · rw [State.waits_gapEnded, hdie]
    · show _ ≤ v.now
      rw [← hv]
      show _ ≤ (s.advanceTo g.until_).now
      rw [State.now_advanceTo]
      exact Nat.le_max_right _ _
    · show v.fld _ _ = _
      rw [← hv]
      exact (State.fld_put_self _ _ _ (by decide)).trans (Nat.mod_eq_of_lt (satNat_lt _ _))

/-- Settles O49. -/
theorem bridgesCarryFlits : Obligations.BridgesCarryFlits := by
  intro s d ep hd hep
  obtain ⟨hfar, hne⟩ := facingDie_spec hd hep
  have hloc := brgLoc_ne hd hfar hne
  have hin : ∀ {p : Prop}, ¬ (4 ≤ d ∨ 3 ≤ ep ∨ p) ↔ ¬ p := fun {p} => by
    constructor
    · exact fun h hp => h (.inr (.inr hp))
    · rintro h (hd' | hep' | hp)
      · omega
      · omega
      · exact h hp
  have hall : ∀ {b : Bool}, b = false → (!b) = true := fun {b} h => by rw [h]; rfl
  dsimp only
  refine ⟨fun bad h => ?_, fun w rest hup hrun htx harmed => ⟨fun lane => ?_, ?_⟩,
    fun lane => ⟨fun h => ?_, fun hup hfail => ?_⟩, fun h => ?_, fun t0 h => bridgeFailover_spec h, fun h => ?_,
    fun hon hfaron hup => ?_, fun hon hfaron => ?_, drainGap_spec s d⟩
  · show execBridgeFlitReceive d ep bad s = _
    unfold execBridgeFlitReceive
    dsimp only
    split
    · rfl
    · next hgo =>
      have hgo := hin.1 hgo
      rcases h with h | h | h
      · exact absurd (.inl (hall h)) hgo
      · exact absurd (.inr h) hgo
      · rw [h]
  · obtain ⟨hcrc, hrep, hbrg, hrest, hnear⟩ := crcError_spec s lane hloc hne
    refine ⟨s.crcError d (facingDie d ep) lane, ?_, hcrc, hrep, (congrArg Bridge.replay hbrg).trans htx, hrest, hnear⟩
    exact (execBridgeFlitReceive_eq (some lane) hd hep hup hrun htx harmed).trans (if_pos rfl)
  · exact bridgeFlit_spec hd hep hup hrun htx harmed
  · show execBridgeLaneFail d ep lane s = _
    unfold execBridgeLaneFail
    dsimp only
    split
    · rfl
    · next hgo =>
      have hgo := hin.1 hgo
      have hfailed := h.resolve_left fun h => hgo (hall h)
      unfold State.laneFail
      rw [if_pos hfailed]
  · have hnew := State.laneFail_new lane hfail
    have hbrg := State.brg_setBrg_self s d (facingDie d ep)
      { s.brg d (facingDie d ep) with badLane := lane, failAt := some s.now, errs := [] }
    refine ⟨s.laneFail d (facingDie d ep) lane, ?_, ?_, s.laneFail_rest _ _ lane, fun n => brgHalted_advance ?_ n⟩
    · show execBridgeLaneFail d ep lane s = _
      unfold execBridgeLaneFail
      dsimp only
      exact if_neg (hin.2 (by rw [hup]; decide))
    · rw [hnew]
      exact hbrg
    · have hnow : (s.laneFail d (facingDie d ep) lane).now = s.now :=
        State.now_congr (congrArg State.tails (s.laneFail_rest d (facingDie d ep) lane) :)
      rw [hnow, hnew]
      exact congrArg Bridge.failAt hbrg
  · show execBridgeFailoverDone d ep s = _
    unfold execBridgeFailoverDone
    dsimp only
    rw [h]
  · show execBridgeDown d ep s = _
    unfold execBridgeDown
    dsimp only
    exact if_pos (.inr (.inr (.inr (.inr (hall h)))))
  · obtain ⟨hl, hm, hfail, hfarfail, hrest⟩ := s.brgDropped_spec hloc hne
    refine ⟨s.brgDropped d (facingDie d ep), ?_, ⟨hl, hm⟩, hfail, hfarfail, hrest⟩
    show execBridgeDown d ep s = _
    unfold execBridgeDown
    dsimp only
    rw [if_neg (hin.2 (by rw [hon, hfaron, hup]; decide))]
    rfl
  · obtain ⟨hl, hm⟩ := s.putUp_spec 1 hloc
    refine ⟨s.putUp d (facingDie d ep) 1, ?_, ⟨State.flag_iff.2 hl, State.flag_iff.2 hm⟩, rfl⟩
    show execBridgeUp d ep s = _
    unfold execBridgeUp
    dsimp only
    rw [if_neg (hin.2 (by rw [hon, hfaron]; decide))]
    rfl

end Sys2Proof.Machine
end

section
/-! PROOFS. A frame of a service port on a die that is no S-die (R25, R261). -/

namespace Sys2Proof.Machine

/-- A frame that waits at port 64 of die 5. -/
def hubFrame : Frame := { bytes := [], die := 5, port := 64, stamp := 0, mono := 0, stepGen := 0, uncal := false }

/-- Safe state, with a frame at port 64 and one at port 0 of die 5, whose pipeline is awake and whose unit 0 has a mode with a
port. -/
def hubFrames : State :=
  ({ State.reset with ports := [(portKey 5 0, { landing := [hubFrame] }), (portKey 5 64, { landing := [hubFrame] })] }.put
    (unitLoc 5 0 16) R.PU_MODE_MODE 1).put (pipeLoc 5 0) R.FWD_STAT_AWAKE 1 |>.put locCol R.FLT_STAT_SAFE 1

/-- The same with the frame of port 64 taken. -/
def hubFrameTaken : State := hubFrames.setPort 5 64 { hubFrames.port 5 64 with landing := [] }

/-- The service port waits for port 0 (R261). -/
theorem pipelineFrame_hubFrames : exec (.pipelineFrame 5 64) hubFrames = .next hubFrames := by
  have hmains : (hubFrames.diePorts 5).any (fun q => decide (q < 64) && portClu q == portClu 64 &&
      (hubFrames.port 5 q).landing != []) = true := by decide +kernel
  show execPipelineFrame 5 64 hubFrames = _
  unfold execPipelineFrame
  exact if_pos (Or.inr ⟨by decide, hmains⟩)

/-- No port of die 5 is present (R17). -/
theorem not_present_hub (q : Nat) : hubFrames.present 5 q = false := by
  unfold State.present
  rw [show decide (5 < 4) = false from rfl, Bool.and_false, Bool.false_and, Bool.false_and]

/-- In safe state a frame that enters the pipeline leaves its landing share. -/
theorem landing_pipe_hubFrame : ((hubFrameTaken.pipe hubFrame).map (fun t => ((t.markPass 5 64).port 5 64).landing)) = some [] := by
  decide +kernel

/-- Refutes O48: only the ports of S-dies are present, but a service port of any die waits for the main ports of its cluster
that the modes of the die's units give. On die 5 a frame of port 64 stays though no present main port has one. -/
theorem not_framesPassAndLeave : ¬ Obligations.FramesPassAndLeave := by
  unfold Obligations.FramesPassAndLeave
  intro h
  obtain ⟨-, hpass, -⟩ := h hubFrames 5 64
  have hmains : ¬ (64 ≤ 64 ∧ ∃ q, q < 64 ∧ hubFrames.present 5 q = true ∧ portClu q = portClu 64 ∧
      (hubFrames.port 5 q).landing ≠ []) := by
    rintro ⟨-, q, -, hq, -⟩
    rw [not_present_hub] at hq
    cases hq
  obtain ⟨hsome, -⟩ := hpass hubFrame [] (by decide +kernel) (by decide +kernel) (by decide +kernel) (by decide +kernel)
    (by decide +kernel) hmains
  have hland := landing_pipe_hubFrame
  cases ht : hubFrameTaken.pipe hubFrame with
  | none =>
    rw [ht] at hland
    cases hland
  | some t =>
    rw [ht, Option.map_some, Option.some_inj] at hland
    have hexec := hsome t ht
    rw [pipelineFrame_hubFrames] at hexec
    injection hexec with hstate
    have hwaits : (hubFrames.port 5 64).landing = [hubFrame] := by decide +kernel
    rw [hstate, hland] at hwaits
    cases hwaits

end Sys2Proof.Machine
end

section
/-! PROOFS. Link bring-up: signal, negotiation, training, lock, measurement (R89 to R92, R239 to R247). -/

namespace Sys2Proof.Machine

/-! ### What the line's work leaves -/

/-- What the line's work leaves: everything but registers and the ports' records. -/
def LineOnly (s t : State) : Prop := { t with regs := s.regs, ports := s.ports } = s

theorem LineOnly.refl (s : State) : LineOnly s s := rfl

theorem LineOnly.trans {s t u : State} (h : LineOnly s t) (k : LineOnly t u) : LineOnly s u := by
  unfold LineOnly at *
  conv => rhs; rw [← h, ← k]

theorem LineOnly.ite {s t u : State} (p : Prop) [Decidable p] (h : LineOnly s t) (k : LineOnly s u) :
    LineOnly s (if p then t else u) := by
  split
  · exact h
  · exact k

theorem LineOnly.foldl {α : Type} {f : State → α → State} (h : ∀ s x, LineOnly s (f s x)) (l : List α) (s : State) :
    LineOnly s (l.foldl f s) := by
  induction l generalizing s with
  | nil => exact .refl s
  | cons x l ih => exact (h s x).trans (ih _)

theorem LineOnly.put (s : State) (loc : Nat) (f : Fld) (v : Nat) : LineOnly s (s.put loc f v) := rfl

theorem LineOnly.setPort (s : State) (d p : Nat) (x : Port) : LineOnly s (s.setPort d p x) := rfl

theorem LineOnly.tails {s t : State} (h : LineOnly s t) : t.tails = s.tails :=
  (congrArg State.tails (show { t with regs := s.regs, ports := s.ports } = s from h) :)

theorem LineOnly.part {s t : State} (h : LineOnly s t) : t.part = s.part :=
  (congrArg State.part (show { t with regs := s.regs, ports := s.ports } = s from h) :)

/-- Outside AUTONEG a port enters a state without a word on the line. -/
theorem LineOnly.setPState (s : State) (d p : Nat) {st : Nat} (h : st ≠ psAutoneg) : LineOnly s (s.setPState d p st) := by
  unfold State.setPState
  dsimp only
  rw [if_neg h]
  exact (LineOnly.setPort s _ _ _).trans (.put _ _ _ _)

/-- A port that enters a state: what it leaves where it may say so on the line. -/
theorem State.setPState_rest (s : State) (d p st : Nat) :
    { s.setPState d p st with regs := s.regs, ports := s.ports, sent := s.sent } = s := by
  unfold State.setPState
  dsimp only
  split <;> rfl

theorem LineOnly.setPState_rest {s u : State} (h : LineOnly s u) (d p st : Nat) :
    { u.setPState d p st with regs := s.regs, ports := s.ports, sent := s.sent } = s := by
  have h : { u with regs := s.regs, ports := s.ports } = s := h
  conv => rhs; rw [← h, ← u.setPState_rest d p st]
  rw [show u.sent = s.sent from (congrArg State.sent h :)]

theorem State.port_setPState (s : State) (d p st : Nat) :
    (s.setPState d p st).port d p = { s.port d p with enteredAt := s.now } := by
  have h : ∀ u : State, u.ports = (s.setPort d p { s.port d p with enteredAt := s.now }).ports →
      u.port d p = { s.port d p with enteredAt := s.now } := fun u hu =>
    (State.port_congr hu d p).trans (State.port_setPort_self _ _ _ _)
  unfold State.setPState
  dsimp only
  split
  · exact h _ rfl
  · exact h _ rfl

theorem LineOnly.cwSync (s : State) (d p : Nat) : LineOnly s (s.cwSync d p) := by
  unfold State.cwSync
  split
  · exact .refl s
  · exact (LineOnly.put s _ _ _).trans (.setPort _ _ _ _)

theorem LineOnly.cwStop (s : State) (d p : Nat) : LineOnly s (s.cwStop d p) := (LineOnly.cwSync s d p).trans (.setPort _ _ _ _)

theorem LineOnly.cwStart (s : State) (d p : Nat) : LineOnly s (s.cwStart d p) := .ite _ (.setPort s _ _ _) (.refl s)

theorem LineOnly.newLock (s : State) (d p : Nat) : LineOnly s (s.newLock d p) := (LineOnly.setPort s _ _ _).trans (.put _ _ _ _)

theorem LineOnly.lanesPut (s : State) (d p : Nat) (f : Fld) (v : Nat) : LineOnly s (s.lanesPut d p f v) :=
  .foldl (fun s _ => .put s _ _ _) _ s

theorem LineOnly.lanesUnlock (s : State) (d p : Nat) : LineOnly s (s.lanesUnlock d p) :=
  (LineOnly.cwStop s d p).trans (.foldl (fun s _ => (LineOnly.put s _ _ _).trans (.put _ _ _ _)) _ _)

theorem LineOnly.setCause (s : State) (d p c : Nat) : LineOnly s (s.setCause d p c) := rfl

/-! ### Registers of lanes and ports -/

/-- What holds once an element's turn has come. -/
theorem foldl_reach {α β : Type} {f : β → α → β} {P : β → Prop} {x : α} (hat : ∀ u, P (f u x)) (hkeep : ∀ u y, P u → P (f u y))
    (l : List α) (u : β) (hx : x ∈ l) : P (l.foldl f u) := by
  induction l generalizing u with
  | nil => cases hx
  | cons y l ih =>
    rcases List.mem_cons.1 hx with rfl | hmem
    · exact foldl_keeps (fun b z hb => hkeep b z hb) l (hat u)
    · exact ih _ hmem

/-- A field that lies apart, at whatever location. -/
theorem State.fld_put_any (s : State) (loc l : Nat) {f g : Fld} (v : Nat) (h : f.apart g = true) (hf : f.off < 16777216)
    (hg : g.off < 16777216) : (s.put loc f v).fld l g = s.fld l g := by
  by_cases hl : l = loc
  · subst hl
    exact State.fld_put_apart s l v h
  · exact s.fld_put_loc v hl hf hg

/-- The same field, at whatever location, set to 1. -/
theorem State.fld_put_one (s : State) (loc l : Nat) {f : Fld} (h : f.lo + f.len ≤ 32) (hlen : f.len = 1) (hf : f.off < 16777216)
    (hl : s.fld l f = 1) : (s.put loc f 1).fld l f = 1 := by
  by_cases hloc : l = loc
  · subst hloc
    rw [s.fld_put_self l 1 h, hlen]
    rfl
  · exact (s.fld_put_loc 1 hloc hf hf).trans hl

theorem laneKey_not_port {d p : Nat} (hd : d < 4) (hp : p < 72) {off : Nat} (hoff : off < 16777216) (h10 : off ≠ 0x10) :
    ¬ laneKey (regKey (portLoc d p) off) := by
  have hsub := portLoc_sub d hd p hp
  rintro ⟨loc, o, hk, hmask⟩
  obtain ⟨hl, rfl⟩ := regKey_inj hoff (by omega) hk
  omega

theorem not_flowKey {d p : Nat} (hd : d < 4) (hp : p < 72) {off : Nat} (h : off < 0x300) (h24 : off ≠ 0x24) :
    ¬ flowKey d p (regKey (portLoc d p) off) := by
  rintro (hk | hk | ⟨loc, o, hk, ho, hmask⟩)
  · exact not_hubKey (portLoc_lt hd hp) (by omega) hk
  · unfold regKey at hk
    omega
  · obtain ⟨hl, rfl⟩ := regKey_inj (by omega) ho hk
    simp only [R.RX_ERR_ERRORED] at hmask
    omega

theorem PortKept.lanesPut (s : State) (d p : Nat) (hp : p < 72) {f : Fld} (v : Nat) (hf : f.off = 4) :
    PortKept laneKey s (s.lanesPut d p f v) :=
  .foldl_mem (fun t l hl => .put t v ⟨_, _, rfl, .inl ⟨hf, laneLoc_sub _ _ _ (portLanes_lt s d hp l hl)⟩⟩) _

section
variable {d p : Nat} (hd : d < 4) (hp : p < 72)
include hd hp

/-- The lanes' registers are none of the port's. -/
theorem PortKept.pfld_lane {s t : State} (h : PortKept laneKey s t) {f : Fld} (hf : f.off < 16777216) (h10 : f.off ≠ 0x10) :
    t.pfld d p f = s.pfld d p f := h.fld (laneKey_not_port hd hp hf h10)

/-- The units' modes are none of a port's registers. -/
theorem State.unitMode_pput (s : State) (f : Fld) (v : Nat) (hf : f.off < 16777216) (e u : Nat) :
    (s.pput d p f v).unitMode e u = s.unitMode e u := by
  refine State.fld_put_loc _ v (fun heq => ?_) hf (by decide)
  have h1 := unitLoc_sub e u (show 16 < 64 by decide)
  have h2 := portLoc_sub d hd p hp
  rw [heq] at h1
  omega

/-- A port that enters AUTONEG advertises its mode (R240). -/
theorem State.sent_autoneg (s : State) : (s.setPState d p psAutoneg).sent =
    .autoneg d p (s.unitMode d (portUnit p)) (s.hasFec d p) :: s.sent := by
  have hmode := State.unitMode_pput hd hp (s.setPort d p { s.port d p with enteredAt := s.now }) R.PORT_STAT_STATE psAutoneg
    (by decide)
  unfold State.setPState
  dsimp only
  rw [if_pos rfl]
  unfold State.send State.hasFec
  dsimp only
  rw [hmode, hmode]
  rfl

/-- Leaving UP leaves the port's delay sums and their marks. -/
theorem State.pfld_portTo_dly (s : State) (st : Nat) {f : Fld} (hf : 0x200 ≤ f.off) (hf' : f.off < 0x300) :
    (s.portTo d p st).pfld d p f = s.pfld d p f := by
  have hset : ∀ u : State, (u.setPState d p st).pfld d p f = u.pfld d p f := fun u => by
    have hput : ((u.setPort d p { u.port d p with enteredAt := u.now }).pput d p R.PORT_STAT_STATE st).pfld d p f =
        u.pfld d p f := State.fld_put_off _ _ _ (by simp only [R.PORT_STAT_STATE]; omega)
    unfold State.setPState
    dsimp only
    split
    · exact hput
    · exact hput
  unfold State.portTo
  split
  · rw [State.leaveUp_eq, State.pfld, (RegsOnly.flowUpLost d p _ _).fld (not_flowKey hd hp hf' (by omega))]
    exact (State.fld_put_off _ _ _ (by simp only [R.PORT_STAT_LINK_DOWNS]; omega)).trans (hset s)
  · exact hset s

/-- A lock that is given up: LOCKING with cause 4, the sums no longer valid (R241, R247). -/
theorem State.abandonLock_spec (s : State) : (s.abandonLock d p).pstate d p = psLocking ∧
    (s.abandonLock d p).pfld d p R.PORT_STAT_DOWN_CAUSE = 4 ∧ (s.abandonLock d p).dlyValid d p = false := by
  obtain ⟨u, hu⟩ : ∃ u, (s.setCause d p 4).clearValid d p = u := ⟨_, rfl⟩
  have hlanes := PortKept.lanesUnlock u d p hp
  have habandon : s.abandonLock d p = (u.lanesUnlock d p).portTo d p psLocking := by
    rw [← hu]
    rfl
  rw [habandon]
  refine ⟨State.pstate_portTo hd hp _ _, ?_, ?_⟩
  · rw [State.pfld_portTo hd hp _ _ (by decide) (by decide) (by decide), hlanes.pfld_lane hd hp (by decide) (by decide), ← hu]
    exact (State.fld_put_off _ _ _ (by decide)).trans (s.fld_put_self _ 4 (by decide))
  · refine State.flag_false_of ?_
    show (State.pfld _ _ _ _) = 0
    rw [State.pfld_portTo_dly hd hp _ _ (by decide) (by decide), hlanes.pfld_lane hd hp (by decide) (by decide), ← hu]
    exact State.fld_put_self _ _ 0 (by decide)

end

/-! ### Measurement (R91, R92, R247) -/

/-- The sums of a lock, stored. -/
def State.sumsStored (s : State) (d p : Nat) (m : LockMeas) : State :=
  (((s.pput d p R.DLY_RX_MEAS_SUM (satBits (s.lockSums d p m).1 32)).pput d p R.DLY_TX_MEAS_SUM
    (satBits (s.lockSums d p m).2 32)).pput d p R.DLY_STAT_VALID 1).incr (portLoc d p) R.DLY_STAT_LOCKS

theorem State.writeSums_eq (s : State) (d p : Nat) (m : LockMeas) : ∃ (b : Bool) (x : State → Port), s.writeSums d p m =
    (if b then ((s.sumsStored d p m).pput d p R.DLY_STAT_CHANGED 1).pbump d p R.DLY_STAT_CHANGES
      else s.sumsStored d p m).setPort d p (x (if b then ((s.sumsStored d p m).pput d p R.DLY_STAT_CHANGED 1).pbump d p
        R.DLY_STAT_CHANGES else s.sumsStored d p m)) :=
  ⟨_, fun u => { u.port d p with sums := some (satBits (s.lockSums d p m).1 32, satBits (s.lockSums d p m).2 32) }, rfl⟩

theorem State.sumsStored_spec (s : State) (d p : Nat) (m : LockMeas) :
    (s.sumsStored d p m).pfld d p R.DLY_STAT_VALID = 1 ∧
    (s.sumsStored d p m).pfld d p R.DLY_STAT_LOCKS = (s.pfld d p R.DLY_STAT_LOCKS + 1) % 65536 ∧
    (s.sumsStored d p m).pfld d p R.DLY_RX_MEAS_SUM = satBits (s.lockSums d p m).1 32 ∧
    (s.sumsStored d p m).pfld d p R.DLY_TX_MEAS_SUM = satBits (s.lockSums d p m).2 32 := by
  obtain ⟨rx, hrx⟩ : ∃ x, satBits (s.lockSums d p m).1 32 = x := ⟨_, rfl⟩
  obtain ⟨tx, htx⟩ : ∃ x, satBits (s.lockSums d p m).2 32 = x := ⟨_, rfl⟩
  have hrxlt : rx < 2 ^ 32 := hrx ▸ satBits_lt _
  have htxlt : tx < 2 ^ 32 := htx ▸ satBits_lt _
  unfold State.sumsStored
  rw [hrx, htx]
  unfold State.incr State.pput State.pfld
  simp (disch := decide) only [State.fld_put_apart, State.fld_put_self]
  exact ⟨rfl, rfl, Nat.mod_eq_of_lt hrxlt, Nat.mod_eq_of_lt htxlt⟩

theorem LineOnly.sumsStored (s : State) (d p : Nat) (m : LockMeas) : LineOnly s (s.sumsStored d p m) :=
  (((LineOnly.put s _ _ _).trans (.put _ _ _ _)).trans (.put _ _ _ _)).trans (.put _ _ _ _)

/-- The sums of a lock are written and valid, and the lock counts (R91, R92, R247). -/
theorem State.writeSums_spec (s : State) (d p : Nat) (m : LockMeas) : (s.writeSums d p m).dlyValid d p = true ∧
    (s.writeSums d p m).pfld d p R.DLY_STAT_LOCKS = (s.pfld d p R.DLY_STAT_LOCKS + 1) % 65536 ∧
    (s.writeSums d p m).pfld d p R.DLY_RX_MEAS_SUM = satBits (s.lockSums d p m).1 32 ∧
    (s.writeSums d p m).pfld d p R.DLY_TX_MEAS_SUM = satBits (s.lockSums d p m).2 32 ∧
    (s.writeSums d p m).pstate d p = s.pstate d p ∧ LineOnly s (s.writeSums d p m) := by
  obtain ⟨b, x, heq⟩ := s.writeSums_eq d p m
  obtain ⟨hvalid, hlocks, hrx, htx⟩ := s.sumsStored_spec d p m
  have hstate : (s.sumsStored d p m).pstate d p = s.pstate d p := by
    unfold State.sumsStored State.incr State.pput State.pstate State.pfld
    simp (disch := decide) only [State.fld_put_apart]
  have hline := LineOnly.sumsStored s d p m
  obtain ⟨u, hu⟩ : ∃ u, s.sumsStored d p m = u := ⟨_, rfl⟩
  rw [hu] at heq hvalid hlocks hrx htx hstate hline
  have hkeep : ∀ f : Fld, R.DLY_STAT_CHANGED.apart f = true → R.DLY_STAT_CHANGES.apart f = true →
      (s.writeSums d p m).pfld d p f = u.pfld d p f := fun f h1 h2 => by
    rw [heq]
    show State.pfld (if b then _ else _) d p f = _
    split
    · exact (State.fld_put_apart _ _ _ h2).trans (State.fld_put_apart _ _ _ h1)
    · rfl
  refine ⟨State.flag_iff.2 ((hkeep _ (by decide) (by decide)).trans hvalid), (hkeep _ (by decide) (by decide)).trans hlocks,
    (hkeep _ (by decide) (by decide)).trans hrx, (hkeep _ (by decide) (by decide)).trans htx,
    (hkeep _ (by decide) (by decide)).trans hstate, ?_⟩
  rw [heq]
  exact (hline.trans (.ite _ ((LineOnly.put u _ _ _).trans (.put _ _ _ _)) (.refl u))).trans (.setPort _ _ _ _)

/-- What measuring comes to, by whether the samples are good (R241, R244, R247). -/
theorem exec_measuringDone {s : State} {d p : Nat} (m : LockMeas) (hlive : s.portLive d p = true) :
    exec (.measuringDone d p m) s = if s.pstate d p = psMeasuring then
        if lockGood m then .next (((s.advanceTo ((s.port d p).enteredAt + 4096)).writeSums d p m).enterUp d p)
        else .next ((s.advanceTo ((s.port d p).enteredAt + 4096)).abandonLock d p)
      else if (s.pstate d p = psUp ∨ s.pstate d p = psRemote) ∧ s.dlyValid d p = false ∧
          s.pfld d p R.PORT_STAT_LOOP ≠ 1 then
        if lockGood m then .next (s.writeSums d p m) else .next (s.abandonLock d p)
      else .next s := by
  show execMeasuringDone d p m s = _
  unfold execMeasuringDone
  dsimp only
  rw [hlive, if_neg (by decide)]
  simp only [Bool.not_eq_true']

theorem lockGood_iff {m : LockMeas} : lockGood m = true ↔ m.agree = true ∧ m.nDsk ≤ 191 := by
  simp only [lockGood, Bool.and_eq_true, decide_eq_true_eq]

theorem lockGood_not {m : LockMeas} (h : m.agree = false ∨ 191 < m.nDsk) : ¬ lockGood m = true := fun hgood => by
  obtain ⟨hagree, hdsk⟩ := lockGood_iff.1 hgood
  rcases h with h | h
  · rw [h] at hagree
    cases hagree
  · omega

/-! ### Lock (R90, R239, R241, R246) -/

/-- One lane's lock. -/
def State.laneLock (d u : Nat) (s : State) (l : Nat) : State :=
  ((s.put (laneLoc d u l) R.LANE_STAT_LOS 0).put (laneLoc d u l) R.LANE_STAT_CDR_LOCK 1).put (laneLoc d u l) R.LANE_STAT_LOCK 1

/-- What a lane shows of its line. -/
def State.laneSeen (d u : Nat) (s : State) (x : Nat × LaneLock) : State :=
  (s.putB (laneLoc d u x.1) R.LANE_STAT_RX_INV x.2.inv).put (laneLoc d u x.1) R.LANE_STAT_RX_LOGICAL x.2.logical

/-- The lanes' registers after their lock. -/
def State.lanesLocked (s : State) (d p : Nat) (seen : List LaneLock) : State :=
  ((s.portLanes d p).zip seen).foldl (State.laneSeen d (portUnit p)) ((s.portLanes d p).foldl (State.laneLock d (portUnit p)) s)

/-- Both marks of a lane's lock. -/
def State.laneHeld (s : State) (loc : Nat) : Prop := s.fld loc R.LANE_STAT_LOCK = 1 ∧ s.fld loc R.LANE_STAT_CDR_LOCK = 1

theorem State.laneHeld_laneLock_self (s : State) (d u l : Nat) : (s.laneLock d u l).laneHeld (laneLoc d u l) :=
  ⟨State.fld_put_self _ _ 1 (by decide), (State.fld_put_apart _ _ 1 (by decide)).trans (State.fld_put_self _ _ 1 (by decide))⟩

theorem State.laneHeld_laneLock {s : State} {loc : Nat} (d u l : Nat) (h : s.laneHeld loc) : (s.laneLock d u l).laneHeld loc := by
  obtain ⟨hlock, hcdr⟩ := h
  have hlos : ∀ f : Fld, R.LANE_STAT_LOS.apart f = true → f.off < 16777216 →
      (s.put (laneLoc d u l) R.LANE_STAT_LOS 0).fld loc f = s.fld loc f := fun f hf hoff =>
    s.fld_put_any _ _ 0 hf (by decide) hoff
  obtain ⟨v, hv⟩ : ∃ v, s.put (laneLoc d u l) R.LANE_STAT_LOS 0 = v := ⟨_, rfl⟩
  rw [hv] at hlos
  unfold State.laneLock
  rw [hv]
  refine ⟨State.fld_put_one _ _ _ (by decide) rfl (by decide) ?_, ?_⟩
  · rw [State.fld_put_any _ _ _ _ (by decide) (by decide) (by decide), hlos _ (by decide) (by decide)]
    exact hlock
  · rw [State.fld_put_any _ _ _ _ (by decide) (by decide) (by decide)]
    exact State.fld_put_one _ _ _ (by decide) rfl (by decide) ((hlos _ (by decide) (by decide)).trans hcdr)

theorem State.laneHeld_laneSeen {s : State} {loc : Nat} (d u : Nat) (x : Nat × LaneLock) (h : s.laneHeld loc) :
    (s.laneSeen d u x).laneHeld loc := by
  have hkeep : ∀ f : Fld, R.LANE_STAT_RX_INV.apart f = true → R.LANE_STAT_RX_LOGICAL.apart f = true → f.off < 16777216 →
      (s.laneSeen d u x).fld loc f = s.fld loc f := fun f h1 h2 hoff =>
    (State.fld_put_any _ _ _ _ h2 (by decide) hoff).trans (s.fld_put_any _ _ _ h1 (by decide) hoff)
  exact ⟨(hkeep _ (by decide) (by decide) (by decide)).trans h.1, (hkeep _ (by decide) (by decide) (by decide)).trans h.2⟩

/-- Every lane of the port holds its lock. -/
theorem State.laneHeld_lanesLocked (s : State) (d p : Nat) (seen : List LaneLock) {l : Nat} (hl : l ∈ s.portLanes d p) :
    (s.lanesLocked d p seen).laneHeld (laneLoc d (portUnit p) l) :=
  foldl_keeps (P := fun u : State => u.laneHeld (laneLoc d (portUnit p) l)) (fun _ x hu => State.laneHeld_laneSeen d _ x hu) _
    (foldl_reach (P := fun u : State => u.laneHeld (laneLoc d (portUnit p) l))
      (fun u => u.laneHeld_laneLock_self d _ l) (fun _ y hu => State.laneHeld_laneLock d _ y hu) _ s hl)

theorem LineOnly.lanesLocked (s : State) (d p : Nat) (seen : List LaneLock) : LineOnly s (s.lanesLocked d p seen) :=
  (LineOnly.foldl (fun s _ => ((LineOnly.put s _ _ _).trans (.put _ _ _ _)).trans (.put _ _ _ _)) _ s).trans
    (.foldl (fun s _ => (LineOnly.put s _ _ _).trans (.put _ _ _ _)) _ _)

/-- A port whose lanes lock, before it measures. -/
def State.portLocked (s : State) (d p : Nat) (seen : List LaneLock) : State :=
  (((s.lanesLocked d p seen).setPort d p { (s.lanesLocked d p seen).port d p with
    refLane := refLaneOf (s.portLanes d p) seen }).cwStart d p).newLock d p

theorem LineOnly.portLocked (s : State) (d p : Nat) (seen : List LaneLock) : LineOnly s (s.portLocked d p seen) :=
  (((LineOnly.lanesLocked s d p seen).trans (.setPort _ _ _ _)).trans (.cwStart _ _ _)).trans (.newLock _ _ _)

theorem State.refLane_newLock (s : State) (d p : Nat) : ((s.newLock d p).port d p).refLane = (s.port d p).refLane := by
  have hput : ∀ u : State, ((u.pput d p R.RLK_PHASE_PHASE_ACC 0).port d p) = u.port d p := fun _ => rfl
  unfold State.newLock State.setRelka
  rw [hput, State.port_setPort_self]

theorem State.refLane_cwStart (s : State) (d p : Nat) : ((s.cwStart d p).port d p).refLane = (s.port d p).refLane := by
  unfold State.cwStart
  split
  · rw [State.port_setPort_self]
  · rfl

theorem State.refLane_portLocked (s : State) (d p : Nat) (seen : List LaneLock) :
    ((s.portLocked d p seen).port d p).refLane = refLaneOf (s.portLanes d p) seen := by
  unfold State.portLocked
  rw [State.refLane_newLock, State.refLane_cwStart, State.port_setPort_self]

theorem State.fld_newLock (s : State) (d p l : Nat) {f : Fld} (hl : l ≠ portLoc d p) (hf : f.off < 16777216) :
    (s.newLock d p).fld l f = s.fld l f := State.fld_put_loc _ 0 hl (by decide) hf

theorem State.fld_cwStart (s : State) (d p l : Nat) (f : Fld) : (s.cwStart d p).fld l f = s.fld l f := by
  unfold State.cwStart
  split <;> rfl

theorem State.fld_setPState_loc (s : State) (d p st l : Nat) {f : Fld} (hl : l ≠ portLoc d p) (hf : f.off < 16777216) :
    (s.setPState d p st).fld l f = s.fld l f := by
  have hput : ((s.setPort d p { s.port d p with enteredAt := s.now }).pput d p R.PORT_STAT_STATE st).fld l f = s.fld l f :=
    State.fld_put_loc _ st hl (by decide) hf
  unfold State.setPState
  dsimp only
  split
  · exact hput
  · exact hput

theorem exec_lockComplete {s : State} {d p : Nat} (seen : List LaneLock) (skew : Nat) (hlive : s.portLive d p = true)
    (hst : s.pstate d p = psLocking) : exec (.lockComplete d p ⟨seen, skew⟩) s =
      if 1 < (s.portLanes d p).length ∧ maxSkew < skew then
        .next (((s.setCause d p 4).lanesUnlock d p).setPState d p (s.startState d p))
      else .next ((s.portLocked d p seen).setPState d p psMeasuring) := by
  show execLockComplete d p ⟨seen, skew⟩ s = _
  unfold execLockComplete
  rw [if_pos (by rw [hlive, hst]; rfl)]
  rfl

section
variable {d p : Nat} (hd : d < 4) (hp : p < 72)
include hd hp

theorem lane_ne_port {l : Nat} (hl : l < 56) : laneLoc d (portUnit p) l ≠ portLoc d p := fun h => by
  have h1 := laneLoc_sub d (portUnit p) l hl
  have h2 := portLoc_sub d hd p hp
  rw [h] at h1
  omega

/-- Lock on every lane leads to MEASURING (R241, R246). -/
theorem State.portLocked_spec (s : State) (seen : List LaneLock) :
    ((s.portLocked d p seen).setPState d p psMeasuring).pstate d p = psMeasuring ∧
    (((s.portLocked d p seen).setPState d p psMeasuring).port d p).refLane = refLaneOf (s.portLanes d p) seen ∧
    (∀ l ∈ s.portLanes d p,
      ((s.portLocked d p seen).setPState d p psMeasuring).flag (laneLoc d (portUnit p) l) R.LANE_STAT_LOCK = true ∧
      ((s.portLocked d p seen).setPState d p psMeasuring).flag (laneLoc d (portUnit p) l) R.LANE_STAT_CDR_LOCK = true) ∧
    LineOnly s ((s.portLocked d p seen).setPState d p psMeasuring) := by
  refine ⟨State.pstate_setPState _ _ _ _, ?_, fun l hl => ?_, (LineOnly.portLocked s d p seen).trans (.setPState _ _ _ (by decide))⟩
  · rw [State.port_setPState]
    exact s.refLane_portLocked d p seen
  · have hne := lane_ne_port hd hp (portLanes_lt s d hp l hl)
    obtain ⟨hlock, hcdr⟩ := s.laneHeld_lanesLocked d p seen hl
    have hkeep : ∀ f : Fld, f.off < 16777216 → ((s.portLocked d p seen).setPState d p psMeasuring).fld
        (laneLoc d (portUnit p) l) f = (s.lanesLocked d p seen).fld (laneLoc d (portUnit p) l) f := fun f hf => by
      rw [State.fld_setPState_loc _ _ _ _ _ hne hf, State.portLocked, State.fld_newLock _ _ _ _ hne hf, State.fld_cwStart]
      rfl
    exact ⟨State.flag_iff.2 ((hkeep _ (by decide)).trans hlock), State.flag_iff.2 ((hkeep _ (by decide)).trans hcdr)⟩

/-- A lock that fails, with its cause (R239, R241). -/
theorem State.lockFails (s : State) {c : Nat} (hc : c < 16) {st : Nat} (hst : st < 16) :
    (((s.setCause d p c).lanesUnlock d p).setPState d p st).pstate d p = st ∧
    (((s.setCause d p c).lanesUnlock d p).setPState d p st).pfld d p R.PORT_STAT_DOWN_CAUSE = c ∧
    { ((s.setCause d p c).lanesUnlock d p).setPState d p st with regs := s.regs, ports := s.ports, sent := s.sent } = s := by
  have hlanes := PortKept.lanesUnlock (s.setCause d p c) d p hp
  have hline : LineOnly s ((s.setCause d p c).lanesUnlock d p) := (LineOnly.setCause s d p c).trans (.lanesUnlock _ _ _)
  refine ⟨(State.pstate_setPState _ _ _ _).trans (Nat.mod_eq_of_lt hst), ?_, ?_⟩
  · rw [State.pfld_setPState _ _ _ _ (by decide), hlanes.pfld_lane hd hp (by decide) (by decide)]
    exact (s.fld_put_self _ c (by decide)).trans (Nat.mod_eq_of_lt hc)
  · exact hline.setPState_rest d p st

end

theorem startState_lt (s : State) (d p : Nat) : s.startState d p < 16 := by
  unfold State.startState
  dsimp only
  split
  · decide
  · decide

/-! ### The obligation -/

/-- Settles O50. -/
theorem linksComeUp : Obligations.LinksComeUp := by
  intro s d p hlive
  obtain ⟨hd, hp⟩ := State.present_lt ((Bool.and_eq_true_iff.1 hlive).1)
  have hgoes : ∀ {c : Instr} {u : State} {new : Nat}, exec c s = .next (u.setPState d p new) → new ≠ psAutoneg → new < 16 →
      LineOnly s u → ∃ t : State, exec c s = .next t ∧ t.pstate d p = new ∧ (t.port d p).enteredAt = s.now ∧
        { t with regs := s.regs, ports := s.ports } = s := fun {c u new} hexec hne hlt hline =>
    ⟨_, hexec, (State.pstate_setPState u d p new).trans (Nat.mod_eq_of_lt hlt),
      (congrArg Port.enteredAt (u.port_setPState d p new)).trans (State.now_congr hline.tails),
      hline.trans (.setPState u d p hne)⟩
  have hwait : ∀ {st : Nat}, s.pstate d p ≠ st → ¬ (s.portLive d p && s.pstate d p == st) = true := fun {st} hne h => by
    rw [hlive, Bool.true_and, beq_iff_eq] at h
    exact hne h
  have hact : ∀ {st : Nat}, s.pstate d p = st → (s.portLive d p && s.pstate d p == st) = true := fun {st} h => by
    rw [hlive, h, Bool.true_and]
    exact beq_self_eq_true st
  dsimp only
  refine ⟨fun h => if_neg (hwait h), fun h => hgoes (if_pos (hact h)) (by decide) (by decide) (.lanesPut _ _ _ _ _),
    fun h => ⟨fun ms => if_neg (hwait h), if_neg (hwait h)⟩, fun h => ⟨fun ms hmem => ?_, fun ms hmem => ?_, if_pos (hact h)⟩,
    fun h => ⟨if_neg (hwait h), if_neg (hwait h)⟩, fun h => ⟨hgoes (if_pos (hact h)) (by decide) (by decide) (.refl s), ?_⟩,
    fun h => ⟨fun seen skew => if_neg (hwait h), if_neg (hwait h)⟩, fun h => ⟨fun seen skew hlanes hskew => ?_,
      fun seen skew hfit => ?_, ?_⟩, fun hst hagain m => ?_, fun hagain m => ⟨fun hagree hdsk => ?_, fun hbad => ?_⟩,
    fun h m => ⟨fun hagree hdsk => ?_, fun hbad => ?_⟩, State.pstate_enterUp hd hp s⟩
  · refine hgoes (u := s.lanesPut d p R.LANE_STAT_LOS 0) ?_ (by split <;> decide) (by split <;> decide) (.lanesPut _ _ _ _ _)
    show execAutonegComplete d ⟨p, ms⟩ s = _
    unfold execAutonegComplete
    dsimp only
    rw [if_pos (hact (st := psAutoneg) h), if_neg (by rw [List.contains_iff_mem.2 hmem]; decide)]
    rfl
  · show execAutonegComplete d ⟨p, ms⟩ s = _
    unfold execAutonegComplete
    dsimp only
    rw [if_pos (hact (st := psAutoneg) h), if_pos (by rw [Bool.not_eq_true', ← Bool.not_eq_true, List.contains_iff_mem]; exact hmem)]
  · refine ⟨(s.setCause d p 8).setPState d p psAutoneg, if_pos (hact h), State.pstate_setPState _ _ _ _, ?_, ?_,
      (LineOnly.setCause s d p 8).setPState_rest d p psAutoneg⟩
    · rw [State.pfld_setPState _ _ _ _ (by decide)]
      exact s.fld_put_self _ 8 (by decide)
    · have hmode : ∀ e u, (s.setCause d p 8).unitMode e u = s.unitMode e u :=
        State.unitMode_pput hd hp s R.PORT_STAT_DOWN_CAUSE 8 (by decide)
      have hfec : (s.setCause d p 8).hasFec d p = s.hasFec d p := by
        unfold State.hasFec
        rw [hmode]
      rw [State.sent_autoneg hd hp, hmode, hfec]
      rfl
  · obtain ⟨hstate, hcause, hrest⟩ := s.lockFails hd hp (c := 4) (by decide) (startState_lt s d p)
    refine ⟨_, ?_, hstate, hcause, hrest⟩
    rw [exec_lockComplete seen skew hlive h, if_pos ⟨hlanes, hskew⟩]
  · obtain ⟨hstate, href, hmarks, hline⟩ := s.portLocked_spec hd hp seen
    refine ⟨_, ?_, hstate, href, hmarks, hline⟩
    rw [exec_lockComplete seen skew hlive h, if_neg (fun hboth => ?_)]
    obtain ⟨h1, h2⟩ := hboth
    unfold maxSkew at h2
    omega
  · obtain ⟨u, hu⟩ : ∃ u, s.advanceTo ((s.port d p).enteredAt + usTicks 10000) = u := ⟨_, rfl⟩
    have hrest : { u with tails := s.tails } = s := by
      rw [← hu]
      rfl
    have hstart : u.startState d p = s.startState d p := by
      rw [← hu]
      rfl
    have hnow : (s.port d p).enteredAt + 6250000 ≤ u.now := by
      have hticks : usTicks 10000 = 6250000 := rfl
      rw [← hu, State.now_advanceTo, hticks]
      exact Nat.le_max_right _ _
    obtain ⟨hstate, hcause, hkept⟩ := u.lockFails hd hp (c := 10) (by decide) (startState_lt u d p)
    refine ⟨_, ?_, hstate.trans hstart, hcause, ?_, ?_⟩
    · show execLockTimeout d p s = _
      unfold execLockTimeout
      rw [if_pos (hact (st := psLocking) h), ← hu]
    · exact hnow.trans_eq (State.now_congr (congrArg State.tails hkept :)).symm
    · conv => rhs; rw [← hrest, ← hkept]
      rw [show u.regs = s.regs from (congrArg State.regs hrest :), show u.ports = s.ports from (congrArg State.ports hrest :),
        show u.sent = s.sent from (congrArg State.sent hrest :)]
  · rw [exec_measuringDone m hlive, if_neg (show s.pstate d p ≠ psMeasuring from hst), if_neg hagain]
  · obtain ⟨hvalid, -, hrx, htx, hstate, hline⟩ := s.writeSums_spec d p m
    refine ⟨s.writeSums d p m, ?_, hvalid, hstate, hrx, htx, hline⟩
    have hst : s.pstate d p ≠ psMeasuring := fun h => by
      obtain ⟨hup, -⟩ := hagain
      rw [h] at hup
      exact absurd hup (by decide)
    rw [exec_measuringDone m hlive, if_neg hst, if_pos hagain, if_pos (lockGood_iff.2 ⟨hagree, hdsk⟩)]
  · obtain ⟨hstate, -, hvalid⟩ := s.abandonLock_spec hd hp
    refine ⟨s.abandonLock d p, ?_, hstate, hvalid⟩
    have hst : s.pstate d p ≠ psMeasuring := fun h => by
      obtain ⟨hup, -⟩ := hagain
      rw [h] at hup
      exact absurd hup (by decide)
    rw [exec_measuringDone m hlive, if_neg hst, if_pos hagain, if_neg (lockGood_not hbad)]
  · obtain ⟨u, hu⟩ : ∃ u, s.advanceTo ((s.port d p).enteredAt + 4096) = u := ⟨_, rfl⟩
    have hrest : { u with tails := s.tails } = s := by
      rw [← hu]
      rfl
    have hsums : u.lockSums d p m = s.lockSums d p m := by
      rw [← hu]
      rfl
    have hlocks : u.pfld d p R.DLY_STAT_LOCKS = s.pfld d p R.DLY_STAT_LOCKS := by
      rw [← hu]
      rfl
    obtain ⟨hvalid, hcount, hrx, htx, -, hline⟩ := u.writeSums_spec d p m
    rw [hsums] at hrx htx
    refine ⟨u.writeSums d p m, ?_, hvalid, hcount.trans (by rw [hlocks]), hrx, htx, ?_, ?_⟩
    · rw [exec_measuringDone m hlive, if_pos (show s.pstate d p = psMeasuring from h), if_pos (lockGood_iff.2 ⟨hagree, hdsk⟩), hu]
    · rw [State.now_congr hline.tails, ← hu, State.now_advanceTo]
      exact Nat.le_max_right _ _
    · conv => rhs; rw [← hrest, ← (show { u.writeSums d p m with regs := u.regs, ports := u.ports } = u from hline)]
      rw [show u.regs = s.regs from (congrArg State.regs hrest :), show u.ports = s.ports from (congrArg State.ports hrest :)]
  · obtain ⟨hstate, hcause, hvalid⟩ := (s.advanceTo ((s.port d p).enteredAt + 4096)).abandonLock_spec hd hp
    refine ⟨_, ?_, hstate, hcause, hvalid⟩
    rw [exec_measuringDone m hlive, if_pos (show s.pstate d p = psMeasuring from h), if_neg (lockGood_not hbad)]

end Sys2Proof.Machine
end

section
/-! PROOFS. What flow control leaves of dies and ports (R294 to R303). -/

namespace Sys2Proof.Machine

/-! ### What leaves the dies' records -/

/-- What a port holds of frames, its flap hold and its loss condition. -/
def Port.held (x : Port) : (List QEnt × List HostFrame) × List Frame × Option Nat × Option (Nat × Nat) :=
  ((x.queue, x.hostQ), x.landing, x.holdEnd, x.lossAt)

/-- What flow control leaves: the dies' records, and what the ports hold of frames. -/
structure FlowKept (s t : State) : Prop where
  dies : t.dies = s.dies
  held : ∀ d p, (t.port d p).held = (s.port d p).held

section
variable {s t u : State}

theorem FlowKept.refl (s : State) : FlowKept s s := ⟨rfl, fun _ _ => rfl⟩

theorem FlowKept.trans (h : FlowKept s t) (k : FlowKept t u) : FlowKept s u :=
  ⟨k.dies.trans h.dies, fun d p => (k.held d p).trans (h.held d p)⟩

theorem FlowKept.ite (p : Prop) [Decidable p] (h : FlowKept s t) (k : FlowKept s u) : FlowKept s (if p then t else u) := by
  split
  · exact h
  · exact k

theorem FlowKept.foldl {α : Type} {f : State → α → State} (h : ∀ s x, FlowKept s (f s x)) (l : List α) (s : State) :
    FlowKept s (l.foldl f s) := by
  induction l generalizing s with
  | nil => exact .refl s
  | cons x l ih => exact (h s x).trans (ih _)

theorem FlowKept.put (s : State) (loc : Nat) (f : Fld) (v : Nat) : FlowKept s (s.put loc f v) := ⟨rfl, fun _ _ => rfl⟩

theorem FlowKept.send (s : State) (x : Sent) : FlowKept s (s.send x) := ⟨rfl, fun _ _ => rfl⟩

end

theorem State.port_setPort_key (s : State) (d p e q : Nat) (x : Port) :
    (s.setPort d p x).port e q = if portKey e q = portKey d p then x else s.port e q := by
  unfold State.port State.setPort
  dsimp only
  split
  · next h => rw [h, Tab.get_set_self]
  · next h => rw [Tab.get_set_ne _ _ _ h]

/-- A write of a port's record that leaves the frames it holds. -/
theorem FlowKept.setPort (s : State) (d p : Nat) (x : Port) (h : x.held = (s.port d p).held) : FlowKept s (s.setPort d p x) := by
  refine ⟨rfl, fun e q => ?_⟩
  rw [State.port_setPort_key]
  split
  · next hk =>
    rw [h, State.port, State.port, hk]
  · rfl

theorem FlowKept.creditSync (s : State) (d p c : Nat) : FlowKept s (s.creditSync d p c) :=
  .ite _ (.setPort s d p _ (by rfl)) (.refl s)

theorem FlowKept.pfcOne (s : State) (d p i v : Nat) : FlowKept s (s.pfcOne d p i v) :=
  .ite _ ((FlowKept.setPort s d p _ (by rfl)).trans (.put _ _ _ _)) ((FlowKept.setPort s d p _ (by rfl)).trans (.put _ _ _ _))

theorem FlowKept.pfcRx (s : State) (d p enable : Nat) (quanta : List Nat) : FlowKept s (s.pfcRx d p enable quanta) :=
  (FlowKept.put s _ _ _).trans (.foldl (fun s i => .pfcOne s d p i _) _ _)

theorem FlowKept.emitCtl (s : State) (d p : Nat) (x : Ctl) : FlowKept s (s.emitCtl d p x) := by
  cases x with
  | pfc prio quanta => exact .ite _ (.pfcRx s _ _ _ _) (.send s _)
  | relka kind blocks => exact .send s _

theorem FlowKept.sendCtl (s : State) (d p : Nat) (x : Ctl) : FlowKept s (s.sendCtl d p x) :=
  .ite _ (.setPort s d p _ (by rfl)) (.emitCtl s d p x)

theorem FlowKept.sendPfc (s : State) (d p prio quanta : Nat) : FlowKept s (s.sendPfc d p prio quanta) :=
  (FlowKept.setPort s d p _ (by rfl)).trans (.sendCtl _ d p _)

theorem FlowKept.xonTest (s : State) (d p : Nat) : FlowKept s (s.xonTest d p) :=
  .foldl (fun s i => .ite _ ((FlowKept.put s _ _ _).trans (.sendPfc _ d p i 0)) (.refl s)) _ s

theorem FlowKept.ingressRelease (s : State) (d : Nat) (g : CellGrp) : FlowKept s (s.ingressRelease d g) := by
  unfold State.ingressRelease
  refine .ite _ (.refl s) ((FlowKept.setPort s d _ _ (by rfl)).trans (.ite _ ?_ (.xonTest _ d _)))
  exact (FlowKept.setPort _ d _ _ (by rfl)).trans (.creditSync _ d _ _)

/-! ### A loss condition that is kept (R243) -/

/-- The loss conditions of every port stay. -/
def LossKept (s t : State) : Prop := ∀ d p, (t.port d p).lossAt = (s.port d p).lossAt

section
variable {s t u : State}

theorem LossKept.refl (s : State) : LossKept s s := fun _ _ => rfl

theorem LossKept.trans (h : LossKept s t) (k : LossKept t u) : LossKept s u := fun d p => (k d p).trans (h d p)

theorem LossKept.ite (p : Prop) [Decidable p] (h : LossKept s t) (k : LossKept s u) : LossKept s (if p then t else u) := by
  split
  · exact h
  · exact k

theorem LossKept.foldl {α : Type} {f : State → α → State} (h : ∀ s x, LossKept s (f s x)) (l : List α) (s : State) :
    LossKept s (l.foldl f s) := by
  induction l generalizing s with
  | nil => exact .refl s
  | cons x l ih => exact (h s x).trans (ih _)

theorem LossKept.of_ports (h : t.ports = s.ports) : LossKept s t := fun d p => congrArg Port.lossAt (State.port_congr h d p)

theorem FlowKept.loss (h : FlowKept s t) : LossKept s t := fun d p => congrArg (fun x => x.2.2.2) (h.held d p)

end

/-- A write of a port's record that leaves its loss condition. -/
theorem LossKept.setPort (s : State) (d p : Nat) (x : Port) (h : x.lossAt = (s.port d p).lossAt) : LossKept s (s.setPort d p x) := by
  intro e q
  rw [State.port_setPort_key]
  split
  · next hk => rw [h, State.port, State.port, hk]
  · rfl

theorem LossKept.put (s : State) (loc : Nat) (f : Fld) (v : Nat) : LossKept s (s.put loc f v) := .of_ports rfl

theorem LossKept.setPState (s : State) (d p st : Nat) : LossKept s (s.setPState d p st) := by
  have h := (LossKept.setPort s d p { s.port d p with enteredAt := s.now } rfl).trans
    (.put _ (portLoc d p) R.PORT_STAT_STATE st)
  unfold State.setPState
  dsimp only
  split
  · exact h
  · exact h

theorem LossKept.releaseRef (s : State) (d fid : Nat) : LossKept s (s.releaseRef d fid) := by
  have hdie : ∀ (x : Die), LossKept s (s.setDie d x) := fun _ => .of_ports rfl
  unfold State.releaseRef
  split
  · exact .refl s
  · exact .ite _ (hdie _) ((hdie _).trans (FlowKept.ingressRelease _ d _).loss)

theorem LossKept.dropQueued (s : State) (d p : Nat) (test : QEnt → Bool) (ctr : Nat → Fld) :
    LossKept s (s.dropQueued d p test ctr).1 :=
  (LossKept.setPort s d p _ (by rfl)).trans (.foldl (fun s _ => (LossKept.releaseRef s d _).trans (.put _ _ _ _)) _ _)

theorem LossKept.flushPort (s : State) (d p : Nat) : LossKept s (s.flushPort d p) :=
  ((LossKept.dropQueued s d p _ _).trans (.setPort _ d p _ (by rfl))).trans
    (.foldl (fun s _ => (LossKept.releaseRef s d _).trans (.put _ _ _ _)) _ _)

theorem LossKept.voidCredits (s : State) (d p : Nat) : LossKept s (s.voidCredits d p) :=
  ((LossKept.setPort s d p _ (by rfl)).trans (.put _ _ _ _)).trans (.put _ _ _ _)

theorem LossKept.dropPartial (s : State) (d p : Nat) : LossKept s (s.dropPartial d p) := by
  unfold State.dropPartial
  exact (LossKept.ite _ (.refl s) (.put s _ _ _)).trans (.setPort _ d p _ (by rfl))

theorem LossKept.loseTx (s : State) (d p : Nat) : LossKept s (s.loseTx d p) := by
  unfold State.loseTx
  split
  · exact .refl s
  · exact ((LossKept.setPort s d p _ (by rfl)).trans (.releaseRef _ d _)).trans (.put _ _ _ _)

theorem LossKept.beginHold (s : State) (d p : Nat) : LossKept s (s.beginHold d p) := by
  unfold State.beginHold
  exact .ite _ (.flushPort s d p) ((LossKept.setPort s d p _ (by rfl)).trans (.put _ _ _ _))

theorem LossKept.sourceLost (s : State) (d p : Nat) (ok : Nat → Bool) : LossKept s (s.sourceLost d p ok) :=
  .of_ports (congrArg State.ports (SelKept.sourceLost s d p ok).rest :)

theorem LossKept.linkEvent (s : State) (d p val src : Nat) : LossKept s (s.linkEvent d p val src) :=
  .of_ports (congrArg State.ports (Reports.event' s 7 (p + d * 128 + val * 512 + src * 8192) (tx64 (s.nowU d))).rest :)

theorem LossKept.rlkMove (s : State) (d p st : Nat) : LossKept s (s.rlkMove d p st) := by
  unfold State.rlkMove
  have h : LossKept s ((s.setRelka d p { s.relka d p with answered := 0, misses := 0, silent := 0 }).pput d p
      R.RLK_STAT_STATE st) := (LossKept.setPort s d p _ (by rfl)).trans (.put _ _ _ _)
  have hmark : ∀ t : State, LossKept t (t.dropMark d p) := fun _ => .of_ports rfl
  exact (h.trans (.ite _ (.refl _) (hmark _))).trans (.ite _ (.refl _) (.sourceLost _ d p _))

theorem LossKept.rlkPortDown (s : State) (d p : Nat) : LossKept s (s.rlkPortDown d p) := by
  unfold State.rlkPortDown
  dsimp only
  have hclear : LossKept s (s.setRelka d p { s.relka d p with due := [], marks := [] }) := .setPort s d p _ (by rfl)
  have hmark : ∀ t : State, LossKept t (t.dropMark d p) := fun _ => .of_ports rfl
  exact (hclear.trans (.ite _ (.rlkMove _ d p _) (.refl _))).trans (hmark _)

theorem LossKept.upLost (s : State) (d p st : Nat) : LossKept s (s.upLost d p st) := by
  unfold State.upLost
  refine LossKept.trans ?_ ((LossKept.rlkPortDown _ d p).trans (.sourceLost _ d p _))
  exact ((((((LossKept.linkEvent s d p _ _).trans (.voidCredits _ d p)).trans (.dropPartial _ d p)).trans (.put _ _ _ _)).trans
    (.put _ _ _ _)).trans (.dropQueued _ d p _ _)).trans ((LossKept.loseTx _ d p).trans (.beginHold _ d p))

theorem LossKept.portTo (s : State) (d p st : Nat) : LossKept s (s.portTo d p st) := by
  unfold State.portTo
  split
  · rw [State.leaveUp_eq]
    exact ((LossKept.setPState s d p st).trans (.put _ _ _ _)).trans (.upLost _ d p st)
  · exact .setPState s d p st

end Sys2Proof.Machine
end

section
/-! PROOFS. Loss conditions, debounce and remote faults (R241, R243 to R245). -/

namespace Sys2Proof.Machine

/-! ### What a loss condition does at once (R243, R244) -/

theorem State.bumpLoss_lane (s : State) {loc : Nat} (h : 8 ≤ loc % 64) :
    PortKept laneKey s ((s.put loc R.LANE_STAT_LOCK 0).bump loc R.LANE_STAT_LOCK_LOSSES) :=
  (PortKept.put s _ ⟨_, _, rfl, .inl ⟨rfl, h⟩⟩).trans (.put _ _ ⟨_, _, rfl, .inl ⟨rfl, h⟩⟩)

theorem PortKept.laneCwStop (s : State) (d p : Nat) : PortKept laneKey s (s.cwStop d p) := by
  refine PortKept.trans ?_ (.setPort _ _ _ _)
  unfold State.cwSync
  split
  · exact .refl s
  · exact (PortKept.put s (f := R.FEC_CW_CW) _ ⟨_, _, rfl, .inr rfl⟩).trans (.setPort _ _ _ _)

theorem PortKept.lanesLose (s : State) (d p : Nat) (hp : p < 72) (c : Nat) : PortKept laneKey s (s.lanesLose d p c) := by
  unfold State.lanesLose
  split
  · exact .refl s
  · refine (PortKept.laneCwStop s d p).trans (.foldl_mem (fun t l hl => ?_) _)
    have hsub := laneLoc_sub d (portUnit p) l (portLanes_lt s d hp l hl)
    have hput : ∀ (u : State) {f : Fld} v, f.off = 4 → PortKept laneKey u (u.put (laneLoc d (portUnit p) l) f v) :=
      fun u f v hf => .put u v ⟨_, _, rfl, .inl ⟨hf, hsub⟩⟩
    dsimp only
    refine PortKept.trans (PortKept.ite (c = 1) (hput t (f := R.LANE_STAT_LOS) 1 rfl) (.refl t)) ?_
    refine PortKept.trans (PortKept.ite (c ≤ 2) (hput _ (f := R.LANE_STAT_CDR_LOCK) 0 rfl) (.refl _)) ?_
    exact .ite _ (State.bumpLoss_lane _ hsub) (.refl _)

theorem LossKept.cwStop (s : State) (d p : Nat) : LossKept s (s.cwStop d p) := by
  refine LossKept.trans ?_ (.setPort _ d p _ (by rfl))
  unfold State.cwSync
  split
  · exact .refl s
  · exact (LossKept.put s _ _ _).trans (.setPort _ d p _ (by rfl))

theorem LossKept.lanesLose (s : State) (d p c : Nat) : LossKept s (s.lanesLose d p c) := by
  unfold State.lanesLose
  refine .ite _ (.refl s) ((LossKept.cwStop s d p).trans (.foldl (fun t l => ?_) _ _))
  dsimp only
  exact ((LossKept.ite (c = 1) (.put t _ _ _) (.refl t)).trans (.ite (c ≤ 2) (.put _ _ _ _) (.refl _))).trans
    (.ite _ ((LossKept.put _ _ _ _).trans (.put _ _ _ _)) (.refl _))

/-- A loss condition, before the port's state is looked at: the lanes, the sums' mark and the references that the port
gives. -/
def State.lossHits (s : State) (d p c : Nat) : State := ((s.lanesLose d p c).clearValid d p).sourceLost d p (· == 4)

theorem exec_lossCondition {s : State} {d p : Nat} (c : Nat) (hlive : s.portLive d p = true)
    (hloop : s.pfld d p R.PORT_STAT_LOOP ≠ 1) {v : State}
    (hv : (if c = 9 then s.lanesLose d p c else s.lossHits d p c) = v) : exec (.lossCondition d p c) s =
      if s.pstate d p = psLocking then .next (((v.setCause d p c).lanesUnlock d p).setPState d p (v.startState d p))
      else if s.pstate d p = psMeasuring then .next (if c = 9 then v else v.abandonLock d p)
      else if s.pstate d p = psUp ∨ s.pstate d p = psRemote then
        if v.pfld d p R.PORT_DEBOUNCE_DEBOUNCE = 0 then .next (v.lossExit d p c)
        else if (v.port d p).lossAt.isSome then .next v
        else .next (v.setPort d p { v.port d p with lossAt := some (v.now, c) })
      else .next v := by
  show execLossCondition d p c s = _
  unfold execLossCondition
  dsimp only
  rw [hlive, if_neg (by
    rintro (h | h)
    · cases h
    · exact hloop h), ← hv]
  unfold State.lossHits
  split <;> rfl

section
variable {d p : Nat} (hd : d < 4) (hp : p < 72)
include hd hp

/-- What a loss condition leaves of the port at first. -/
theorem State.lossHits_spec (s : State) (c : Nat) : (s.lossHits d p c).dlyValid d p = false ∧
    (∀ f : Fld, f.off < 0x10 → (s.lossHits d p c).pfld d p f = s.pfld d p f) ∧
    ((s.lossHits d p c).port d p).lossAt = (s.port d p).lossAt ∧ (s.lossHits d p c).now = s.now := by
  have hlose := PortKept.lanesLose s d p hp c
  obtain ⟨u, hu⟩ : ∃ u, s.lanesLose d p c = u := ⟨_, rfl⟩
  have hsource := SelKept.sourceLost (u.clearValid d p) d p (· == 4)
  have hhits : s.lossHits d p c = (u.clearValid d p).sourceLost d p (· == 4) := by
    rw [← hu]
    rfl
  have hport : ∀ {f : Fld}, f.off < 16777216 → ((u.clearValid d p).sourceLost d p (· == 4)).pfld d p f =
      (u.clearValid d p).pfld d p f := fun {f} hf => hsource.regs.fld (not_hubKey (portLoc_lt hd hp) hf)
  rw [hu] at hlose
  rw [hhits]
  refine ⟨State.flag_false_of ((hport (f := R.DLY_STAT_VALID) (by decide)).trans (State.fld_put_self _ _ 0 (by decide))),
    fun f hf => ?_, ?_, ?_⟩
  · rw [hport (by omega)]
    exact (State.fld_put_off _ _ 0 (by simp only [R.DLY_STAT_VALID]; omega)).trans
      (hlose.pfld_lane hd hp (by omega) (by omega))
  · exact ((LossKept.sourceLost (u.clearValid d p) d p _) d p).trans ((hu ▸ LossKept.lanesLose s d p c) d p)
  · rw [show ((u.clearValid d p).sourceLost d p (· == 4)).now = (u.clearValid d p).now from
      State.now_congr (congrArg State.tails hsource.rest :)]
    exact State.now_congr hlose.tails

/-- A port that leaves its state for a loss condition (R241, R243). -/
theorem State.lossExit_spec (s : State) {c : Nat} (hc : c < 16) : (s.lossExit d p c).pstate d p = s.startState d p ∧
    (s.lossExit d p c).pfld d p R.PORT_STAT_DOWN_CAUSE = c ∧ ((s.lossExit d p c).port d p).lossAt = none := by
  obtain ⟨a, ha⟩ : ∃ a, (s.setCause d p c).clearValid d p = a := ⟨_, rfl⟩
  obtain ⟨u, hu⟩ : ∃ u, (a.setPort d p { a.port d p with lossAt := none }).pput d p R.PORT_STAT_RF_RX 0 = u := ⟨_, rfl⟩
  have hexit : s.lossExit d p c = (u.portTo d p (u.startState d p)).withdrawWakes d (portClu p) := by
    rw [← hu, ← ha]
    rfl
  have hfld : ∀ {f : Fld}, f.off < 0x10 → R.PORT_STAT_RF_RX.apart f = true → u.pfld d p f = (s.setCause d p c).pfld d p f :=
    fun {f} hf hrf => by
      rw [← hu, ← ha]
      exact (State.fld_put_apart _ _ 0 hrf).trans (State.fld_put_off _ _ 0 (by simp only [R.DLY_STAT_VALID]; omega))
  have hcause : u.pfld d p R.PORT_STAT_DOWN_CAUSE = c :=
    (hfld (by decide) (by decide)).trans ((s.fld_put_self _ c (by decide)).trans (Nat.mod_eq_of_lt hc))
  have hstart : u.startState d p = s.startState d p := State.startState_congr
    ((hfld (by decide) (by decide)).trans (State.fld_put_apart _ _ c (by decide)))
    ((hfld (by decide) (by decide)).trans (State.fld_put_apart _ _ c (by decide)))
  have hloss : (u.port d p).lossAt = none := by
    rw [← hu]
    exact congrArg Port.lossAt (a.port_setPort_self d p _)
  obtain ⟨v, hv⟩ : ∃ v, u.portTo d p (u.startState d p) = v := ⟨_, rfl⟩
  have hrest := v.withdrawWakes_rest d (portClu p)
  have hregs := State.fld_congr (congrArg State.regs hrest :) (congrArg State.part hrest :)
  rw [hexit, hv]
  refine ⟨(hregs _ _).trans ?_, (hregs _ _).trans ?_, ?_⟩
  · show v.pstate d p = _
    rw [← hv, State.pstate_portTo hd hp, hstart]
    exact Nat.mod_eq_of_lt (startState_lt s d p)
  · show v.pfld d p _ = _
    rw [← hv, State.pfld_portTo hd hp _ _ (by decide) (by decide) (by decide)]
    exact hcause
  · refine (congrArg Port.lossAt (State.port_congr (congrArg State.ports hrest :) d p)).trans ?_
    rw [← hv]
    exact (LossKept.portTo u d p _ d p).trans hloss

end

/-! ### Glitches (R243) -/

theorem LossKept.lanesPut (s : State) (d p : Nat) (f : Fld) (v : Nat) : LossKept s (s.lanesPut d p f v) :=
  .foldl (fun s _ => .put s _ _ _) _ s

theorem LossKept.lanesRelock (s : State) (d p : Nat) : LossKept s (s.lanesRelock d p) := by
  unfold State.lanesRelock State.cwStart State.newLock
  exact ((((LossKept.lanesPut s d p _ _).trans (.lanesPut _ d p _ _)).trans (.lanesPut _ d p _ _)).trans
    (.ite _ (.setPort _ d p _ (by rfl)) (.refl _))).trans ((LossKept.setPort _ d p _ (by rfl)).trans (.put _ _ _ _))

theorem LineOnly.lanesRelock (s : State) (d p : Nat) : LineOnly s (s.lanesRelock d p) :=
  ((((LineOnly.lanesPut s d p _ _).trans (.lanesPut _ _ _ _ _)).trans (.lanesPut _ _ _ _ _)).trans (.cwStart _ _ _)).trans
    (.newLock _ _ _)

theorem State.pfld_lanesRelock {d p : Nat} (hd : d < 4) (hp : p < 72) (s : State) {f : Fld} (hf : f.off < 0x10) :
    (s.lanesRelock d p).pfld d p f = s.pfld d p f := by
  have hlanes : PortKept laneKey s (((s.lanesPut d p R.LANE_STAT_LOS 0).lanesPut d p R.LANE_STAT_CDR_LOCK 1).lanesPut d p
      R.LANE_STAT_LOCK 1) :=
    ((PortKept.lanesPut s d p hp 0 rfl).trans (.lanesPut _ d p hp 1 rfl)).trans (.lanesPut _ d p hp 1 rfl)
  have hnew : ∀ u : State, (u.newLock d p).pfld d p f = u.pfld d p f := fun u =>
    State.fld_put_off _ _ 0 (by simp only [R.RLK_PHASE_PHASE_ACC]; omega)
  unfold State.lanesRelock
  rw [hnew]
  exact (State.fld_cwStart _ d p _ f).trans (hlanes.pfld_lane hd hp (by omega) (by omega))

/-- The end of a loss condition that is a glitch. -/
def State.glitch (s : State) (d p c : Nat) : State :=
  let u := s.updPort d p (fun x => { x with lossAt := none })
  (if c = 9 then u else u.lanesRelock d p).pbump d p R.PORT_GLITCH_GLITCHES

theorem State.glitch_spec {d p : Nat} (hd : d < 4) (hp : p < 72) (s : State) (c : Nat) :
    ((s.glitch d p c).port d p).lossAt = none ∧
    (s.glitch d p c).pfld d p R.PORT_GLITCH_GLITCHES =
      satNat (s.pfld d p R.PORT_GLITCH_GLITCHES + 1) R.PORT_GLITCH_GLITCHES.len ∧
    (s.glitch d p c).pstate d p = s.pstate d p ∧ LineOnly s (s.glitch d p c) := by
  obtain ⟨u, hu⟩ : ∃ u, s.updPort d p (fun x => { x with lossAt := none }) = u := ⟨_, rfl⟩
  obtain ⟨v, hv⟩ : ∃ v, (if c = 9 then u else u.lanesRelock d p) = v := ⟨_, rfl⟩
  have hglitch : s.glitch d p c = v.pbump d p R.PORT_GLITCH_GLITCHES := by
    rw [← hv, ← hu]
    rfl
  have huloss : (u.port d p).lossAt = none := by
    rw [← hu, State.updPort, State.port_setPort_self]
  have hloss : (v.port d p).lossAt = none := by
    rw [← hv]
    split
    · exact huloss
    · exact (LossKept.lanesRelock u d p d p).trans huloss
  have hfld : ∀ {f : Fld}, f.off < 0x10 → v.pfld d p f = s.pfld d p f := fun {f} hf => by
    have hufld : u.pfld d p f = s.pfld d p f := by
      rw [← hu]
      rfl
    rw [← hv]
    split
    · exact hufld
    · exact (u.pfld_lanesRelock hd hp hf).trans hufld
  have hline : LineOnly s v := by
    refine LineOnly.trans (t := u) (hu ▸ LineOnly.setPort s _ _ _) ?_
    rw [← hv]
    exact .ite _ (.refl u) (.lanesRelock u d p)
  rw [hglitch]
  refine ⟨hloss, ?_, ?_, hline.trans (.put _ _ _ _)⟩
  · refine (v.fld_put_self _ _ (by decide)).trans ((Nat.mod_eq_of_lt (satNat_lt _ _)).trans ?_)
    rw [show v.fld (portLoc d p) R.PORT_GLITCH_GLITCHES = s.pfld d p R.PORT_GLITCH_GLITCHES from hfld (by decide)]
  · exact (State.fld_put_off _ _ _ (by decide)).trans (hfld (by decide))

/-! ### The obligation -/

/-- Settles O51. -/
theorem linksGoDown : Obligations.LinksGoDown := by
  intro s d p hlive
  obtain ⟨hd, hp⟩ := State.present_lt ((Bool.and_eq_true_iff.1 hlive).1)
  have hup : ∀ {st : Nat}, st = psUp ∨ st = psRemote → st ≠ psLocking ∧ st ≠ psMeasuring := fun {st} h => by
    rcases h with rfl | rfl <;> decide
  have hquiet : s.lanesLose d p 9 = s := rfl
  dsimp only
  refine ⟨fun hloop c => ?_, fun c hloop hc h9 => ?_, fun hloop => ?_, fun c hc => s.lossExit_spec hd hp hc,
    fun h => ⟨?_, ?_⟩, fun t0 c h => ⟨fun hlt => ?_, fun hle => ?_, ?_⟩, fun h => ?_, fun h hloop => ?_, fun h => ?_, fun h => ?_⟩
  · show execLossCondition d p c s = _
    unfold execLossCondition
    dsimp only
    exact if_pos (.inr hloop)
  · obtain ⟨v, hv⟩ : ∃ v, s.lossHits d p c = v := ⟨_, rfl⟩
    obtain ⟨hvalid, hfld, hloss, hnow⟩ := s.lossHits_spec hd hp c
    have hexec := exec_lossCondition c hlive hloop (if_neg h9)
    rw [hv] at hvalid hfld hloss hnow hexec
    have hstate : v.pstate d p = s.pstate d p := hfld _ (by decide)
    refine ⟨fun hst hdeb hnone => ?_, fun hst hdeb => ?_, fun hst => ?_, fun hst => ?_⟩
    · refine ⟨v.setPort d p { v.port d p with lossAt := some (v.now, c) }, ?_, ?_, hvalid, hstate⟩
      · rw [hexec, if_neg (hup hst).1, if_neg (hup hst).2, if_pos hst, hfld _ (by decide), if_neg hdeb, hloss, hnone]
        rfl
      · rw [State.port_setPort_self, hnow]
    · refine ⟨v, ?_, hvalid, hstate⟩
      rw [hexec, if_neg (hup hst).1, if_neg (hup hst).2, if_pos hst, hfld _ (by decide), if_pos hdeb]
    · obtain ⟨hnew, hcause, -⟩ := v.lockFails hd hp hc (startState_lt v d p)
      refine ⟨_, ?_, hnew.trans (State.startState_congr (hfld _ (by decide)) (hfld _ (by decide))), hcause⟩
      rw [hexec, if_pos hst]
    · obtain ⟨hnew, hcause, -⟩ := v.abandonLock_spec hd hp
      refine ⟨_, ?_, hnew, hcause⟩
      rw [hexec, if_neg (by rw [hst]; decide), if_pos hst, if_neg h9]
  · have hexec := exec_lossCondition 9 hlive hloop ((if_pos rfl).trans hquiet)
    refine ⟨fun hst hdeb hnone => ?_, fun hst hdeb => ?_, fun hst => ?_⟩
    · rw [hexec, if_neg (hup hst).1, if_neg (hup hst).2, if_pos hst, if_neg hdeb, hnone]
      rfl
    · rw [hexec, if_neg (hup hst).1, if_neg (hup hst).2, if_pos hst, if_pos hdeb]
    · rw [hexec, if_neg (by rw [hst]; decide), if_pos hst, if_pos rfl]
  · show execLossConditionClear d p s = _
    unfold execLossConditionClear
    rw [h]
  · show execDebounceExpiry d p s = _
    unfold execDebounceExpiry
    rw [h]
  · obtain ⟨hloss, hcount, hstate, hline⟩ := s.glitch_spec hd hp c
    refine ⟨s.glitch d p c, ?_, hloss, hcount, hstate, hline⟩
    show execLossConditionClear d p s = _
    unfold execLossConditionClear
    rw [h]
    exact if_neg (by
      unfold State.lossEnd usTicks
      omega)
  · show execLossConditionClear d p s = _
    unfold execLossConditionClear
    rw [h]
    exact if_pos hle
  · refine ⟨s.advanceTo (s.lossEnd d p t0), ?_, ?_, rfl⟩
    · show execDebounceExpiry d p s = _
      unfold execDebounceExpiry
      rw [h]
    · rw [State.now_advanceTo]
      exact Nat.le_max_right _ _
  · show execRemoteFaultReceived d p s = _
    unfold execRemoteFaultReceived
    refine if_neg fun hgo => ?_
    simp only [Bool.and_eq_true, beq_iff_eq, bne_iff_ne] at hgo
    obtain ⟨⟨-, hst⟩, hloop⟩ := hgo
    rcases h with h | h
    · exact h hst
    · exact hloop h
  · obtain ⟨u, hu⟩ : ∃ u, (s.setCause d p 5).pput d p R.PORT_STAT_RF_RX 1 = u := ⟨_, rfl⟩
    obtain ⟨v, hv⟩ : ∃ v, u.portTo d p psRemote = v := ⟨_, rfl⟩
    have hrest := v.withdrawWakes_rest d (portClu p)
    have hregs := State.fld_congr (congrArg State.regs hrest :) (congrArg State.part hrest :)
    refine ⟨v.withdrawWakes d (portClu p), ?_, (hregs _ _).trans ?_, (hregs _ _).trans ?_,
      State.flag_iff.2 ((hregs _ _).trans ?_)⟩
    · show execRemoteFaultReceived d p s = _
      unfold execRemoteFaultReceived
      rw [if_pos (by
        simp only [Bool.and_eq_true, beq_iff_eq, bne_iff_ne]
        exact ⟨⟨hlive, h⟩, hloop⟩), ← hv, ← hu]
    · show v.pstate d p = _
      rw [← hv]
      exact State.pstate_portTo hd hp u psRemote
    · show v.pfld d p _ = _
      rw [← hv, State.pfld_portTo hd hp _ _ (by decide) (by decide) (by decide), ← hu]
      exact (State.fld_put_apart _ _ 1 (by decide)).trans (s.fld_put_self _ 5 (by decide))
    · show v.pfld d p _ = _
      rw [← hv, State.pfld_portTo hd hp _ _ (by decide) (by decide) (by decide), ← hu]
      exact State.fld_put_self _ _ 1 (by decide)
  · show execRemoteFaultCleared d p s = _
    unfold execRemoteFaultCleared
    refine if_neg fun hgo => ?_
    rw [Bool.and_eq_true, beq_iff_eq] at hgo
    exact h hgo.2
  · refine ⟨s.pput d p R.PORT_STAT_RF_RX 0, ?_, State.flag_false_of (s.fld_put_self _ 0 (by decide)), rfl⟩
    show execRemoteFaultCleared d p s = _
    unfold execRemoteFaultCleared
    rw [if_pos (by
      rw [Bool.and_eq_true, beq_iff_eq]
      exact ⟨hlive, h⟩)]

end Sys2Proof.Machine
end

section
/-! PROOFS. Phase, span, census and credit messages (R129, R130, R295 to R301). -/

namespace Sys2Proof.Machine

/-! ### Phase (R129) -/

theorem toBits_lt (i : Int) (len : Nat) : toBits i len < 2 ^ len := by
  unfold toBits
  have h0 : (0 : Int) < (2 ^ len : Nat) := by exact_mod_cast Nat.two_pow_pos len
  have h1 := Int.emod_lt_of_pos i h0
  have h2 := Int.emod_nonneg i (Int.ne_of_gt h0)
  omega

/-- What a reading of the phase leaves: registers other than the count of hits and the phase. -/
structure PhaseKept (s t : State) : Prop where
  rest : { t with ports := s.ports, regs := s.regs } = s
  fld : ∀ (l : Nat) (g : Fld), g.off ≠ 0x32C → g.off ≠ 0x330 → g.off < 16777216 → t.fld l g = s.fld l g

theorem State.rlkGives_congr {s t : State} {d p : Nat} (hraw : ∀ tb, t.hsRaw tb = s.hsRaw tb)
    (hst : t.rlkState d p = s.rlkState d p) : t.rlkGives d p = s.rlkGives d p := by
  have hactive : t.activeHs = s.activeHs := by
    unfold State.activeHs State.hsIn
    simp only [State.hs_eq_active, hraw]
  unfold State.rlkGives
  rw [hactive, hst]

theorem PhaseKept.rlkGives {s t : State} (h : PhaseKept s t) (d p : Nat) : t.rlkGives d p = s.rlkGives d p := by
  refine State.rlkGives_congr (fun tb => ?_) (h.fld _ _ (by decide) (by decide) (by decide))
  cases tb <;> exact h.fld _ _ (by decide) (by decide) (by decide)

/-- A reading of the phase: the first is kept, a step within 256 moves PHASE_ACC, a larger one is a hit. -/
theorem State.phaseOne_spec (s : State) (d p code : Nat) :
    let t := s.phaseOne d p code
    let x := s.relka d p
    let acc := R.RLK_PHASE_PHASE_ACC
    PhaseKept s t ∧ (∃ k, t.relka d p = { x with phase := some code, hits := k } ∧
      (x.phase = none → t.pfld d p acc = s.pfld d p acc ∧ k = x.hits) ∧
      (∀ old, x.phase = some old →
        let step := sx (toBits ((code : Int) - old) 12) 12
        (step.natAbs ≤ 256 → t.pfld d p acc = toBits (sx (s.pfld d p acc) 32 + step) 32 ∧ k = x.hits) ∧
        (256 < step.natAbs → t.pfld d p acc = s.pfld d p acc ∧ k = x.hits + 1))) := by
  intro t x acc
  have hset : ∀ y : Relka, (s.setRelka d p y).relka d p = y := fun y =>
    congrArg Port.relka (State.port_setPort_self s d p { s.port d p with relka := y })
  have hput : ∀ (y : Relka) (f : Fld) (v : Nat), f.off = 0x32C ∨ f.off = 0x330 →
      PhaseKept s ((s.setRelka d p y).pput d p f v) := fun y f v hf => by
    refine ⟨rfl, fun l g h h' hg => ?_⟩
    have hne : f.apart g = true := by
      rcases hf with hf | hf
      · simp [Fld.apart, hf, h]
      · simp [Fld.apart, hf, h']
    rw [State.pput, State.fld_put_any _ _ _ _ hne (by omega) hg]
    exact State.fld_congr (s := s) (t := s.setRelka d p y) rfl rfl l g
  obtain ⟨old, hold⟩ : ∃ old, x.phase = old := ⟨_, rfl⟩
  have ht : t = s.phaseOne d p code := rfl
  unfold State.phaseOne at ht
  dsimp only at ht
  rw [show (s.relka d p).phase = old from hold] at ht
  cases old with
  | none =>
    rw [ht]
    exact ⟨⟨rfl, fun _ _ _ _ _ => rfl⟩, x.hits, hset _, fun _ => ⟨rfl, rfl⟩, fun old ho => absurd (hold.symm.trans ho) (by simp)⟩
  | some old =>
    dsimp only at ht
    have hne : x.phase = none → False := fun h => absurd (hold.symm.trans h) (by simp)
    split at ht
    · next hbig =>
      rw [ht]
      refine ⟨hput _ _ _ (.inl rfl), x.hits + 1, hset _, fun h => (hne h).elim, fun o ho => ?_⟩
      obtain rfl : old = o := Option.some.inj (hold.symm.trans ho)
      exact ⟨fun h => absurd hbig (Nat.not_lt.2 h), fun _ => ⟨State.fld_put_off _ _ _ (by decide), rfl⟩⟩
    · next hsmall =>
      rw [ht]
      refine ⟨hput _ _ _ (.inr rfl), x.hits, hset _, fun h => (hne h).elim, fun o ho => ?_⟩
      obtain rfl : old = o := Option.some.inj (hold.symm.trans ho)
      refine ⟨fun _ => ⟨?_, rfl⟩, fun h => absurd h hsmall⟩
      exact (State.fld_put_self _ _ _ (by decide)).trans (Nat.mod_eq_of_lt (toBits_lt _ _))

section
variable {s : State} {d p : Nat}

theorem exec_phaseDelivery_off (codes : List Nat) (h : s.locked d p = false ∨ s.pflag d p R.RLK_CTRL_EN = false) :
    exec (.phaseDelivery d p codes) s = .next s :=
  if_neg (by rcases h with h | h <;> rw [h] <;> simp)

/-- The end of 16 word periods with one reading. -/
theorem exec_phaseDelivery (code : Nat) (hlock : s.locked d p = true) (hen : s.pflag d p R.RLK_CTRL_EN = true) : ∃ v : State,
    v = (s.advanceTo (s.nextPhase d p)).phaseOne d p code ∧ exec (.phaseDelivery d p [code]) s = .next (v.updRelka d p (fun x =>
      { x with phAt := v.now, phHs := if v.rlkGives d p then sx (v.pfld d p R.RLK_PHASE_PHASE_ACC) 32 else x.phHs })) :=
  ⟨_, rfl, if_pos (by rw [hlock, hen]; rfl)⟩

theorem phaseDelivery_spec (code : Nat) (hlock : s.locked d p = true) (hen : s.pflag d p R.RLK_CTRL_EN = true) :
    let x := s.relka d p
    let acc := R.RLK_PHASE_PHASE_ACC
    ∃ t : State,
      exec (.phaseDelivery d p [code]) s = .next t ∧ (t.relka d p).phase = some code ∧ s.nextPhase d p ≤ t.now ∧
      (t.relka d p).phAt = t.now ∧
      (t.relka d p).phHs = (if s.rlkGives d p = true then sx (t.pfld d p acc) 32 else x.phHs) ∧
      (x.phase = none → t.pfld d p acc = s.pfld d p acc ∧ (t.relka d p).hits = x.hits) ∧
      (∀ old, x.phase = some old →
        let step := sx (toBits ((code : Int) - old) 12) 12
        (step.natAbs ≤ 256 → t.pfld d p acc = toBits (sx (s.pfld d p acc) 32 + step) 32 ∧ (t.relka d p).hits = x.hits) ∧
        (256 < step.natAbs → t.pfld d p acc = s.pfld d p acc ∧ (t.relka d p).hits = x.hits + 1)) ∧
      { t with tails := s.tails, ports := s.ports, regs := s.regs } = s := by
  intro x acc
  obtain ⟨u, hu⟩ : ∃ u, s.advanceTo (s.nextPhase d p) = u := ⟨_, rfl⟩
  have hurest : { u with tails := s.tails } = s := hu ▸ rfl
  have hux : u.relka d p = x := hu ▸ rfl
  have huacc : u.pfld d p acc = s.pfld d p acc := hu ▸ rfl
  have hugives : u.rlkGives d p = s.rlkGives d p := State.rlkGives_congr (fun _ => hu ▸ rfl) (hu ▸ rfl)
  have hunow : s.nextPhase d p ≤ u.now := by
    rw [← hu, State.now_advanceTo]
    exact Nat.le_max_right _ _
  obtain ⟨v, hv, hrun⟩ := exec_phaseDelivery code hlock hen
  obtain ⟨hkept, k, hvx, hnone, hsome⟩ := u.phaseOne_spec d p code
  rw [hu] at hv
  rw [← hv] at hkept hvx hnone hsome
  rw [hux] at hvx hnone hsome
  rw [huacc] at hnone hsome
  have hvnow : v.now = u.now := State.now_congr (congrArg State.tails hkept.rest :)
  obtain ⟨t, ht⟩ : ∃ t, v.updRelka d p (fun x => { x with
      phAt := v.now, phHs := if v.rlkGives d p then sx (v.pfld d p R.RLK_PHASE_PHASE_ACC) 32 else x.phHs }) = t := ⟨_, rfl⟩
  have htx := v.relka_updRelka d p (fun x => { x with
      phAt := v.now, phHs := if v.rlkGives d p then sx (v.pfld d p R.RLK_PHASE_PHASE_ACC) 32 else x.phHs })
  rw [ht, hvx, hkept.rlkGives, hugives] at htx
  have htacc : t.pfld d p acc = v.pfld d p acc := ht ▸ rfl
  have htnow : t.now = v.now := ht ▸ rfl
  have htrest : { t with ports := v.ports } = v := ht ▸ rfl
  rw [ht] at hrun
  rw [← htacc] at hnone hsome
  have hhits : (t.relka d p).hits = k := congrArg Relka.hits htx
  refine ⟨t, hrun, congrArg Relka.phase htx, ?_, ?_, ?_, ?_, ?_, ?_⟩
  · rw [htnow, hvnow]
    exact hunow
  · rw [htnow]
    exact congrArg Relka.phAt htx
  · rw [htacc]
    exact congrArg Relka.phHs htx
  · rw [hhits]
    exact hnone
  · rw [hhits]
    exact hsome
  · have h1 : { t with ports := u.ports, regs := u.regs } = u :=
      (congrArg (fun x : State => { x with ports := u.ports, regs := u.regs }) htrest).trans hkept.rest
    exact (congrArg (fun x : State => { x with tails := s.tails, ports := s.ports, regs := s.regs }) h1).trans
      ((congrArg (fun x : State => { x with ports := s.ports, regs := s.regs }) hurest).trans rfl)

/-! ### Span (R130) -/

theorem exec_spanCheck_few (h : (s.relka d p).valid < 1024) : exec (.spanCheck d p) s = .next s := if_pos (.inr h)

theorem exec_spanCheck (hlive : s.portLive d p = true) (h : 1024 ≤ (s.relka d p).valid) : ∃ u : State,
    u.relka d p = { s.relka d p with valid := (s.relka d p).valid - 1024 } ∧ { u with ports := s.ports } = s ∧
      exec (.spanCheck d p) s = .next (if spanBad (s.pair (portLoc d p) R.RLK_PDELAY_LO_PDELAY R.RLK_PDELAY_HI_PDELAY)
        (s.port d p).span = true then u.linkEvent d p 0 2 else u) := by
  obtain ⟨u, hu⟩ : ∃ u, s.setRelka d p { s.relka d p with valid := (s.relka d p).valid - 1024 } = u := ⟨_, rfl⟩
  have hport : u.port d p = { s.port d p with relka := { s.relka d p with valid := (s.relka d p).valid - 1024 } } :=
    hu ▸ State.port_setPort_self s d p _
  have hpair : u.pair (portLoc d p) R.RLK_PDELAY_LO_PDELAY R.RLK_PDELAY_HI_PDELAY =
      s.pair (portLoc d p) R.RLK_PDELAY_LO_PDELAY R.RLK_PDELAY_HI_PDELAY := hu ▸ rfl
  have hspan : (u.port d p).span = (s.port d p).span := by rw [hport]
  refine ⟨u, by rw [State.relka, hport], by rw [← hu]; rfl, ?_⟩
  have hpres : s.present d p = true := (Bool.and_eq_true_iff.1 hlive).1
  show execSpanCheck d p s = _
  unfold execSpanCheck
  dsimp only
  rw [if_neg (by rw [hpres]; rintro (h' | h'); exact absurd h' (by decide); omega), hu, hpair, hspan]
  split <;> rfl

/-! ### Censuses (R300, R301) -/

theorem State.credit_setCredit (s : State) (d p c : Nat) (x : Credit) : (s.setCredit d p c x).credit d p c = x := by
  unfold State.credit State.setCredit
  rw [State.port_setPort_self]
  exact Tab.get_set_self _ _ _ _

theorem State.censusOne_zero {c n : Nat} (h : d20 n (s.credit d p c).recv = 0) : s.censusOne d p c n = s := if_pos h

theorem State.censusOne_lost {c n : Nat} (hpos : 0 < d20 n (s.credit d p c).recv) (hle : d20 n (s.credit d p c).recv ≤ 1152) :
    let y := s.credit d p c
    let lost := d20 n y.recv
    ∃ u : State, s.censusOne d p c n = u.raise (portLoc d p) 0x52 (p + c * 128 + lost.toNat * 2048) ∧
      (u.credit d p c).recv = m20 (y.recv + lost.toNat) ∧ (u.credit d p c).limOut = m20 (y.limOut + lost.toNat) ∧
      u.pfld d p R.CRD_STAT_RESYNC = satNat (s.pfld d p R.CRD_STAT_RESYNC + 1) R.CRD_STAT_RESYNC.len ∧
      { u with ports := s.ports, regs := s.regs } = s := by
  intro y lost
  obtain ⟨v, hv⟩ : ∃ v, s.setCredit d p c { y with recv := m20 (y.recv + lost.toNat) } = v := ⟨_, rfl⟩
  have hvy : v.credit d p c = { y with recv := m20 (y.recv + lost.toNat) } := hv ▸ s.credit_setCredit d p c _
  obtain ⟨w, hw⟩ : ∃ w, v.putLimit d p c (m20 (y.limOut + lost.toNat)) = w := ⟨_, rfl⟩
  have hwy := v.credit_setCredit d p c { v.credit d p c with
    limOut := m20 (y.limOut + lost.toNat), advAt := if (v.credit d p c).limOut = (v.credit d p c).lastTx then v.now else
      (v.credit d p c).advAt }
  have hwy' : w.credit d p c = { v.credit d p c with
    limOut := m20 (y.limOut + lost.toNat), advAt := if (v.credit d p c).limOut = (v.credit d p c).lastTx then v.now else
      (v.credit d p c).advAt } := hw ▸ hwy
  rw [hvy] at hwy'
  have hwfld : w.pfld d p R.CRD_STAT_RESYNC = s.pfld d p R.CRD_STAT_RESYNC := by
    rw [← hw, ← hv]
    rfl
  have hrest : { w with ports := s.ports } = s := by
    rw [← hw, ← hv]
    rfl
  obtain ⟨u, hu⟩ : ∃ u, w.pbump d p R.CRD_STAT_RESYNC = u := ⟨_, rfl⟩
  have huy : u.credit d p c = w.credit d p c := hu ▸ rfl
  refine ⟨u, ?_, ?_, ?_, ?_, ?_⟩
  · unfold State.censusOne
    dsimp only
    rw [if_neg (Int.ne_of_gt hpos), if_pos ⟨hpos, hle⟩, hv, hw, hu]
  · rw [huy, hwy']
  · rw [huy, hwy']
  · rw [← hu, ← hwfld]
    exact (State.fld_put_self _ _ _ (by decide)).trans (Nat.mod_eq_of_lt (satNat_lt _ _))
  · rw [← hu]
    exact (congrArg (fun t : State => { t with regs := s.regs }) hrest :)

theorem State.censusOne_bad {c n : Nat} (h : d20 n (s.credit d p c).recv < 0 ∨ 1152 < d20 n (s.credit d p c).recv) :
    s.censusOne d p c n = s.raise (portLoc d p) 0x53 3 := by
  unfold State.censusOne
  dsimp only
  rw [if_neg (by omega), if_neg (by omega)]

/-- Falling back leaves the checkers' faults. -/
theorem State.toFallback_faults (s : State) (d p reason : Nat) : (s.toFallback d p reason).faults = s.faults := by
  have hmove : ∀ u : State, (u.rlkMove d p rlkFallback).faults = u.faults := fun u =>
    (congrArg State.faults (SelKept.sourceLost _ d p _).rest :).trans rfl
  have hevent : ∀ u : State, (u.linkEvent d p rlkFallback 1).faults = u.faults := fun u =>
    (congrArg State.faults (Reports.event' u 7 _ _).rest :)
  exact (hevent _).trans (hmove _)

section
variable {msg : Nat}

theorem State.takeCensus_bad (h : ¬ (checkOk msg 368 = true ∧ msgVersion msg = 1)) :
    State.takeCensus d p msg s = s.badMsg d p := by
  refine if_pos ?_
  by_cases hc : checkOk msg 368 = true
  · exact .inr fun hv => h ⟨hc, hv⟩
  · exact .inl (by simpa using hc)

/-- A census that passes its check, with no checker fault armed. -/
theorem State.takeCensus_ok (harm : s.faults.armed = []) (h : checkOk msg 368 = true ∧ msgVersion msg = 1) :
    State.takeCensus d p msg s =
      let u := s.ownNumber d p msg
      if bits msg 24 8 ≠ u.pfld d p R.CRD_STAT_GEN ∨ bits msg 32 16 ≠ u.creditMask d p then u
      else (u.credited d p).foldl (fun s c => s.censusOne d p c (bits msg (48 + 20 * c) 20)) u := by
  have harm' : (s.ownNumber d p msg).faults.armed = [] := by
    unfold State.ownNumber
    split
    · rw [State.toFallback_faults]
      exact harm
    · exact harm
  unfold State.takeCensus
  rw [if_neg (by rw [h.1, h.2]; simp), State.touch_unarmed harm']

theorem State.takeCensus_own (harm : s.faults.armed = []) (h : checkOk msg 368 = true ∧ msgVersion msg = 1)
    (hown : msgPkg msg = s.ownPkg) (hgen : bits msg 24 8 ≠ (s.toFallback d p 2).pfld d p R.CRD_STAT_GEN) :
    State.takeCensus d p msg s = s.toFallback d p 2 := by
  have hu : s.ownNumber d p msg = s.toFallback d p 2 := if_pos hown
  rw [State.takeCensus_ok harm h, hu]
  exact if_pos (.inl hgen)

theorem State.takeCensus_other (harm : s.faults.armed = []) (h : checkOk msg 368 = true ∧ msgVersion msg = 1)
    (hown : msgPkg msg ≠ s.ownPkg) :
    State.takeCensus d p msg s = if bits msg 24 8 ≠ s.pfld d p R.CRD_STAT_GEN ∨ bits msg 32 16 ≠ s.creditMask d p then s
      else (s.credited d p).foldl (fun s c => s.censusOne d p c (bits msg (48 + 20 * c) 20)) s := by
  have hu : s.ownNumber d p msg = s := if_neg hown
  rw [State.takeCensus_ok harm h, hu]

/-- A census that finds no cell lost changes nothing. -/
theorem State.census_agrees {l : List Nat} (h : ∀ c ∈ l, d20 (bits msg (48 + 20 * c) 20) (s.credit d p c).recv = 0) :
    l.foldl (fun s c => s.censusOne d p c (bits msg (48 + 20 * c) 20)) s = s := by
  induction l with
  | nil => rfl
  | cons c l ih =>
    rw [List.foldl_cons, State.censusOne_zero (h c (.head _))]
    exact ih fun c hc => h c (.tail _ hc)

end

/-! ### Credits that are sent (R296, R297) -/

/-- A credited class in UP outside every loop. -/
def State.creditOpen (s : State) (d p c : Nat) : Bool :=
  s.portLive d p && s.pstate d p == psUp && s.pfld d p R.PORT_STAT_LOOP == 0 && (s.credited d p).contains c

theorem exec_creditSend_eq (s : State) (d p c : Nat) : exec (.creditSend d p c) s =
    if s.creditOpen d p c then .next ((((s.creditSync d p c).advanceTo ((s.creditSync d p c).creditDue d p c)).creditSync
      d p c).sendCredit d p c false) else .next s := rfl

theorem exec_creditSend_closed {c : Nat} (h : s.pstate d p ≠ psUp ∨ s.pfld d p R.PORT_STAT_LOOP ≠ 0 ∨ c ∉ s.credited d p) :
    exec (.creditSend d p c) s = .next s := by
  rw [exec_creditSend_eq, if_neg]
  simp only [State.creditOpen, Bool.and_eq_true, beq_iff_eq, List.contains_iff_mem]
  tauto

/-- What a synchronization of LIMIT leaves. -/
theorem State.creditSync_spec (s : State) (d p c : Nat) :
    { s.creditSync d p c with ports := s.ports } = s ∧
    0 ≤ d20 ((s.creditSync d p c).credit d p c).limOut (s.credit d p c).limOut ∧
    ((s.creditSync d p c).port d p).sending = (s.port d p).sending := by
  unfold State.creditSync
  dsimp only
  split
  · next h =>
    refine ⟨rfl, ?_, ?_⟩
    · rw [State.putLimit, State.credit_setCredit]
      exact Int.le_of_lt h
    · unfold State.putLimit State.setCredit
      rw [State.port_setPort_self]
  · refine ⟨rfl, ?_, rfl⟩
    simp [d20, sx, toBits]

/-- A CREDIT leaves at once with Relka enabled, outside a loop and with no frame in transmission. -/
theorem State.sendCredit_spec {u : State} {d p : Nat} (c : Nat) (hen : u.pflag d p R.RLK_CTRL_EN = true)
    (hloop : u.pfld d p R.PORT_STAT_LOOP = 0) (hidle : (u.port d p).sending = none) :
    let y := u.credit d p c
    let t := u.sendCredit d p c false
    t.sent = .relka d p 4 (relkaBlocks 4 (creditMsg c false (u.pfld d p R.CRD_STAT_GEN) y.limOut)) :: u.sent ∧
    t.credit d p c = { y with lastTx := y.limOut, txAt := u.now } ∧ { t with ports := u.ports, sent := u.sent } = u := by
  intro y t
  obtain ⟨v, hv⟩ : ∃ v, u.setCredit d p c { y with lastTx := y.limOut, txAt := u.now } = v := ⟨_, rfl⟩
  have hvloop : v.pfld d p R.PORT_STAT_LOOP = 0 := hv ▸ hloop
  have hvidle : (v.port d p).sending = none := by
    rw [← hv]
    exact (congrArg Port.sending (State.port_setPort_self u d p _)).trans hidle
  have ht : t = v.send (.relka d p 4 (relkaBlocks 4 (creditMsg c false (u.pfld d p R.CRD_STAT_GEN) y.limOut))) := by
    rw [← State.sendRelka_eq hvloop hvidle, ← hv]
    exact if_pos (by rw [hen, hloop]; rfl)
  rw [ht, ← hv]
  exact ⟨rfl, u.credit_setCredit d p c _, rfl⟩

theorem State.creditDue_spec (s : State) (d p c : Nat) :
    let x := s.credit d p c
    let adv := d20 x.limOut x.lastTx
    (16 ≤ adv → s.creditDue d p c = s.now) ∧
    (adv < 16 → x.txAt + 40000 ≤ s.creditDue d p c ∨ (0 < adv ∧ x.advAt + 625 ≤ s.creditDue d p c)) := by
  intro x adv
  have h1 : usTicks 1 = 625 := by decide
  have h64 : usTicks 64 = 40000 := by decide
  have hdue : s.creditDue d p c = if 16 ≤ adv then s.now else if 0 < adv then min (x.advAt + usTicks 1) (x.txAt + usTicks 64)
      else x.txAt + usTicks 64 := rfl
  rw [hdue, h1, h64]
  refine ⟨fun h => if_pos h, fun h => ?_⟩
  rw [if_neg (by omega)]
  by_cases hpos : 0 < adv
  · rw [if_pos hpos]
    omega
  · rw [if_neg hpos]
    exact .inl (Nat.le_refl _)

theorem exec_creditSend {c : Nat} (hlive : s.portLive d p = true) (hup : s.pstate d p = psUp)
    (hloop : s.pfld d p R.PORT_STAT_LOOP = 0) (hc : c ∈ s.credited d p) (hen : s.pflag d p R.RLK_CTRL_EN = true)
    (hidle : (s.port d p).sending = none) : ∃ t : State, exec (.creditSend d p c) s = .next t ∧
      let y := (s.creditSync d p c).credit d p c
      let adv := d20 y.limOut y.lastTx
      t.sent = .relka d p 4 (relkaBlocks 4 (creditMsg c false (s.pfld d p R.CRD_STAT_GEN) (t.credit d p c).limOut)) ::
        s.sent ∧
      0 ≤ d20 y.limOut (s.credit d p c).limOut ∧ (t.credit d p c).lastTx = (t.credit d p c).limOut ∧
      (t.credit d p c).txAt = t.now ∧ (16 ≤ adv → t.now = s.now) ∧
      (adv < 16 → y.txAt + 40000 ≤ t.now ∨ (0 < adv ∧ y.advAt + 625 ≤ t.now)) ∧
      { t with tails := s.tails, ports := s.ports, sent := s.sent } = s := by
  obtain ⟨u, hu⟩ : ∃ u, s.creditSync d p c = u := ⟨_, rfl⟩
  obtain ⟨v, hv⟩ : ∃ v, u.advanceTo (u.creditDue d p c) = v := ⟨_, rfl⟩
  obtain ⟨w, hw⟩ : ∃ w, v.creditSync d p c = w := ⟨_, rfl⟩
  obtain ⟨hurest, hgrow, husend⟩ := s.creditSync_spec d p c
  obtain ⟨hwrest, -, hwsend⟩ := v.creditSync_spec d p c
  obtain ⟨hsoon, hlate⟩ := u.creditDue_spec d p c
  rw [hu] at hurest hgrow husend
  rw [hw] at hwrest hwsend
  have hunow : u.now = s.now := State.now_congr (congrArg State.tails hurest :)
  have hvnow : v.now = max u.now (u.creditDue d p c) := hv ▸ u.now_advanceTo _
  have hwnow : w.now = v.now := State.now_congr (congrArg State.tails hwrest :)
  have hvports : v.ports = u.ports := hv ▸ rfl
  have hwfld : ∀ l f, w.fld l f = s.fld l f := fun l f =>
    (State.fld_congr (congrArg State.regs hwrest :) (congrArg State.part hwrest :) l f).trans
      ((show v.fld l f = u.fld l f from hv ▸ rfl).trans
        (State.fld_congr (congrArg State.regs hurest :) (congrArg State.part hurest :) l f))
  have hwidle : (w.port d p).sending = none :=
    hwsend.trans ((congrArg Port.sending (State.port_congr hvports d p)).trans (husend.trans hidle))
  have hwen : w.pflag d p R.RLK_CTRL_EN = true := by
    rw [← hen]
    exact congrArg (· == 1) (hwfld _ _)
  obtain ⟨hsent, hcr, htrest⟩ := State.sendCredit_spec c hwen ((hwfld _ _).trans hloop) hwidle
  obtain ⟨t, ht⟩ : ∃ t, w.sendCredit d p c false = t := ⟨_, rfl⟩
  rw [ht] at hsent hcr htrest
  have htnow : t.now = w.now := State.now_congr (congrArg State.tails htrest :)
  have hwsent : w.sent = s.sent :=
    (congrArg State.sent hwrest :).trans ((show v.sent = u.sent from hv ▸ rfl).trans (congrArg State.sent hurest :))
  have hvrest : { v with tails := u.tails } = u := hv ▸ rfl
  refine ⟨t, ?_, ?_⟩
  · rw [exec_creditSend_eq, hu, hv, hw, ht, if_pos]
    simp only [State.creditOpen, Bool.and_eq_true, beq_iff_eq, List.contains_iff_mem]
    exact ⟨⟨⟨hlive, hup⟩, hloop⟩, hc⟩
  · rw [hu]
    refine ⟨?_, hgrow, ?_, ?_, fun h => ?_, fun h => ?_, ?_⟩
    · rw [hsent, hcr, hwsent]
      exact congrArg (fun g => Sent.relka d p 4 (relkaBlocks 4 (creditMsg c false g _)) :: s.sent) (hwfld _ _)
    · rw [hcr]
    · rw [hcr, htnow]
    · rw [htnow, hwnow, hvnow, hsoon h, Nat.max_self, hunow]
    · have hle : u.creditDue d p c ≤ t.now := by
        rw [htnow, hwnow, hvnow]
        exact Nat.le_max_right _ _
      exact (hlate h).imp (fun h => h.trans hle) (fun h => ⟨h.1, h.2.trans hle⟩)
    · have h1 : { w with tails := u.tails, ports := u.ports } = u :=
        (congrArg (fun x : State => { x with tails := u.tails, ports := u.ports }) hwrest).trans
          (congrArg (fun x : State => { x with ports := u.ports }) hvrest)
      have h2 : { t with tails := u.tails, ports := u.ports, sent := u.sent } = u :=
        (congrArg (fun x : State => { x with tails := u.tails, ports := u.ports, sent := u.sent }) htrest).trans
          (congrArg (fun x : State => { x with sent := u.sent }) h1)
      exact (congrArg (fun x : State => { x with tails := s.tails, ports := s.ports, sent := s.sent }) h2).trans
        ((congrArg (fun x : State => { x with tails := s.tails, sent := s.sent }) hurest).trans rfl)

/-! ### Credits that arrive (R296, R297, R299) -/

section
variable {msg : Nat}

theorem State.takeCredit_bad (h : ¬ (checkOk msg 36 = true ∧ bits msg 5 3 = 1)) : State.takeCredit d p msg s = s.badMsg d p := by
  refine if_pos ?_
  by_cases hc : checkOk msg 36 = true
  · exact .inr fun hv => h ⟨hc, hv⟩
  · exact .inl (by simpa using hc)

theorem State.takeCredit_ok (h : checkOk msg 36 = true ∧ bits msg 5 3 = 1) : State.takeCredit d p msg s =
    let c := msg % 16
    if c ∉ s.credited d p then s
    else if bit msg 4 = true then
      let u := (s.creditGen d p (bits msg 8 8)).setCredit d p c
        { (s.creditGen d p (bits msg 8 8)).credit d p c with limIn := bits msg 16 20, init := true }
      if u.handshook d p = true then (u.pput d p R.CRD_STAT_READY 1).endHold d p else u
    else if (s.credit d p c).init = true ∧ (s.port d p).txGen = bits msg 8 8 then
      s.setCredit d p c { s.credit d p c with limIn := bits msg 16 20 }
    else s := by
  unfold State.takeCredit
  dsimp only
  rw [if_neg (by rw [h.1, h.2]; simp)]
  simp only [Bool.not_eq_true', List.contains_eq_mem, decide_eq_false_iff_not, Bool.and_eq_true, beq_iff_eq]

theorem State.creditGen_rest (s : State) (d p gen : Nat) : { s.creditGen d p gen with ports := s.ports } = s := by
  unfold State.creditGen
  split <;> rfl

/-- An INIT CREDIT opens its class; with the only one the port is ready. -/
theorem State.takeCredit_init (h : checkOk msg 36 = true ∧ bits msg 5 3 = 1) (hc : msg % 16 ∈ s.credited d p)
    (hinit : bit msg 4 = true) :
    let c := msg % 16
    let t := State.takeCredit d p msg s
    (t.credit d p c).limIn = bits msg 16 20 ∧ (t.credit d p c).init = true ∧
    (s.credited d p = [c] → t.pflag d p R.CRD_STAT_READY = true ∧ (t.port d p).holdEnd = none) := by
  intro c t
  obtain ⟨v, hv⟩ : ∃ v, s.creditGen d p (bits msg 8 8) = v := ⟨_, rfl⟩
  have hvrest : { v with ports := s.ports } = s := hv ▸ s.creditGen_rest d p _
  obtain ⟨u, hu⟩ : ∃ u, v.setCredit d p c { v.credit d p c with limIn := bits msg 16 20, init := true } = u := ⟨_, rfl⟩
  have huy : u.credit d p c = { v.credit d p c with limIn := bits msg 16 20, init := true } :=
    hu ▸ v.credit_setCredit d p c _
  have hucls : u.credited d p = s.credited d p := by
    have h1 : u.credited d p = v.credited d p := hu ▸ rfl
    have h2 : { v with ports := s.ports }.credited d p = v.credited d p := rfl
    rw [h1, ← h2, hvrest]
  have ht : t = if u.handshook d p = true then (u.pput d p R.CRD_STAT_READY 1).endHold d p else u := by
    show State.takeCredit d p msg s = _
    rw [State.takeCredit_ok h]
    dsimp only
    rw [if_neg (not_not_intro hc), if_pos hinit, hv, hu]
  have hcr : t.credit d p c = u.credit d p c := by
    rw [ht]
    split
    · exact congrArg (fun x : Port => Tab.get {} x.credit c) (State.port_setPort_self (u.pput d p R.CRD_STAT_READY 1) d p _)
    · rfl
  refine ⟨?_, ?_, fun hone => ?_⟩
  · rw [hcr, huy]
  · rw [hcr, huy]
  · have hshook : u.handshook d p = true := by
      unfold State.handshook
      rw [hucls, hone, List.all_cons, List.all_nil, Bool.and_true, huy]
    rw [ht, if_pos hshook]
    obtain ⟨w, hw⟩ : ∃ w, u.pput d p R.CRD_STAT_READY 1 = w := ⟨_, rfl⟩
    have hready : w.pfld d p R.CRD_STAT_READY = 1 := hw ▸ State.fld_put_self _ _ _ (by decide)
    rw [hw]
    refine ⟨?_, ?_⟩
    · refine congrArg (· == 1) ((State.fld_put_off _ _ _ (by decide)).trans hready :
        (w.endHold d p).pfld d p R.CRD_STAT_READY = 1)
    · exact congrArg Port.holdEnd (State.port_setPort_self w d p _)

theorem State.takeCredit_next (h : checkOk msg 36 = true ∧ bits msg 5 3 = 1) (hc : msg % 16 ∈ s.credited d p)
    (hinit : bit msg 4 = false) :
    let c := msg % 16
    let y := s.credit d p c
    (y.init = true → (s.port d p).txGen = bits msg 8 8 →
      (State.takeCredit d p msg s).credit d p c = { y with limIn := bits msg 16 20 } ∧
      { State.takeCredit d p msg s with ports := s.ports } = s) ∧
    (y.init = false ∨ (s.port d p).txGen ≠ bits msg 8 8 → State.takeCredit d p msg s = s) := by
  intro c y
  have ht := State.takeCredit_ok (s := s) (d := d) (p := p) h
  dsimp only at ht
  rw [if_neg (not_not_intro hc), if_neg (by rw [hinit]; decide)] at ht
  refine ⟨fun hi hg => ?_, fun hno => ?_⟩
  · rw [ht, if_pos ⟨hi, hg⟩]
    exact ⟨s.credit_setCredit d p c _, rfl⟩
  · rw [ht, if_neg]
    rintro ⟨hi, hg⟩
    rcases hno with hno | hno
    · exact absurd (hi.symm.trans hno) (by decide)
    · exact hno hg

end

end

/-- Settles O55: the phase, the span, the census and the credits, each by what its message or its time does. -/
theorem creditsAndCensusesKeepCount : Obligations.CreditsAndCensusesKeepCount := by
  unfold Obligations.CreditsAndCensusesKeepCount
  intro s d p _ _ hlive x st acc
  refine ⟨relkaTaken (by decide) fun _ => rfl, relkaTaken (by decide) fun _ => rfl, fun codes => exec_phaseDelivery_off codes,
    phaseDelivery_spec, exec_spanCheck_few, exec_spanCheck hlive, fun harm msg => ?_, fun c => ⟨exec_creditSend_closed,
    fun hup hloop hc hen hidle => exec_creditSend hlive hup hloop hc hen hidle⟩, fun msg => ⟨State.takeCredit_bad,
    fun hok hc => ?_, State.takeCredit_init, State.takeCredit_next⟩⟩
  · refine ⟨State.takeCensus_bad, State.takeCensus_own harm, fun hok hown hno => ?_, fun hok hown hagree => ?_⟩
    · rw [State.takeCensus_other harm hok hown]
      exact if_pos (by tauto)
    · have ht := State.takeCensus_other (d := d) (p := p) harm hok hown
      rw [if_neg (by tauto)] at ht
      rw [ht]
      refine ⟨State.census_agrees, fun c hone => ?_⟩
      rw [hone, List.foldl_cons, List.foldl_nil]
      exact ⟨State.censusOne_lost, State.censusOne_bad⟩
  · rw [State.takeCredit_ok hok]
    exact if_pos hc

end Sys2Proof.Machine
end

section
/-! PROOFS. Relka exchanges: requests, responses, misses and link states (R119 to R131, R136, R138, R142, R143). -/

namespace Sys2Proof.Machine

/-! ### What a link's reports leave -/

/-- A link's record and its port's registers stay. -/
structure LinkKept (d p : Nat) (s t : State) : Prop where
  relka : t.relka d p = s.relka d p
  fld : ∀ g : Fld, g.off < 16777216 → t.pfld d p g = s.pfld d p g

theorem State.relka_congr {s t : State} (h : t.ports = s.ports) (d p : Nat) : t.relka d p = s.relka d p :=
  congrArg Port.relka (State.port_congr h d p)

theorem State.relka_setRelka (s : State) (d p : Nat) (x : Relka) : (s.setRelka d p x).relka d p = x :=
  congrArg Port.relka (State.port_setPort_self s d p { s.port d p with relka := x })

section
variable {s t u : State} {d p : Nat}

theorem LinkKept.refl (s : State) : LinkKept d p s s := ⟨rfl, fun _ _ => rfl⟩

theorem LinkKept.trans (h : LinkKept d p s t) (k : LinkKept d p t u) : LinkKept d p s u :=
  ⟨k.relka.trans h.relka, fun g hg => (k.fld g hg).trans (h.fld g hg)⟩

theorem LinkKept.ite (c : Prop) [Decidable c] (h : LinkKept d p s t) (k : LinkKept d p s u) :
    LinkKept d p s (if c then t else u) := by
  split
  · exact h
  · exact k

theorem LinkKept.of_rest (hports : t.ports = s.ports) (hregs : t.regs = s.regs) (hpart : t.part = s.part) : LinkKept d p s t :=
  ⟨State.relka_congr hports d p, fun g _ => State.fld_congr hregs hpart _ g⟩

theorem LinkKept.dropMark (s : State) : LinkKept d p s (s.dropMark d p) := .of_rest rfl rfl rfl

theorem LinkKept.setServo (s : State) (x : Servo) : LinkKept d p s (s.setServo x) := .of_rest rfl rfl rfl

theorem State.rlkState_eq {v : Nat} (h : s.rlkState d p = v) (k : LinkKept d p s t) : t.rlkState d p = v :=
  (k.fld _ (by decide)).trans h

section
variable (hd : d < 4) (hp : p < 72)
include hd hp

theorem LinkKept.of_hub (hports : t.ports = s.ports) (hregs : HubRegs s t) : LinkKept d p s t :=
  ⟨State.relka_congr hports d p, fun _ hg => hregs.fld (not_hubKey (portLoc_lt hd hp) hg)⟩

theorem LinkKept.of_sel (h : SelKept s t) : LinkKept d p s t := .of_hub hd hp (congrArg State.ports h.rest :) h.regs

theorem LinkKept.linkEvent (s : State) (val src : Nat) : LinkKept d p s (s.linkEvent d p val src) :=
  .of_hub hd hp (congrArg State.ports (Reports.event' s 7 _ _).rest :) (.of_report (.event s 7 _ _ none))

/-! ### Link states (R126, R131) -/

theorem State.relka_rlkMove (s : State) (st : Nat) :
    (s.rlkMove d p st).relka d p = { s.relka d p with answered := 0, misses := 0, silent := 0 } := by
  obtain ⟨u, hu⟩ : ∃ u, (s.setRelka d p { s.relka d p with answered := 0, misses := 0, silent := 0 }).pput d p
    R.RLK_STAT_STATE st = u := ⟨_, rfl⟩
  have hux : u.relka d p = { s.relka d p with answered := 0, misses := 0, silent := 0 } :=
    hu ▸ s.relka_setRelka d p { s.relka d p with answered := 0, misses := 0, silent := 0 }
  unfold State.rlkMove
  dsimp only
  rw [hu, ← hux]
  have hmark : LinkKept d p u (if st = rlkLinked ∨ st = rlkDegraded then u else u.dropMark d p) := .ite _ (.refl u) (.dropMark u)
  exact (hmark.trans (.ite _ (.refl _) (.of_sel hd hp (.sourceLost _ d p _)))).relka

/-- A link that moves with its event. -/
theorem State.rlkMoveR_relka (s : State) (st reason : Nat) :
    (s.rlkMoveR d p st reason).relka d p = { s.relka d p with answered := 0, misses := 0, silent := 0 } :=
  s.relka_rlkMove hd hp st

theorem State.rlkMoveR_state (s : State) (st reason : Nat) : (s.rlkMoveR d p st reason).rlkState d p = st % 8 :=
  (State.fld_put_apart _ _ _ (by decide)).trans (s.rlkState_rlkMove hd hp st)

theorem State.pfld_rlkMove_apart (s : State) (st : Nat) {g : Fld} (h : R.RLK_STAT_STATE.apart g = true) (hoff : g.off < 16777216) :
    (s.rlkMove d p st).pfld d p g = s.pfld d p g :=
  (s.pfld_rlkMove hd hp st hoff).trans (State.fld_put_apart _ _ _ h)

theorem State.pfld_rlkMoveR_apart (s : State) (st reason : Nat) {g : Fld} (h : R.RLK_STAT_STATE.apart g = true)
    (h' : R.RLK_STAT_REASON.apart g = true) (hoff : g.off < 16777216) :
    (s.rlkMoveR d p st reason).pfld d p g = s.pfld d p g :=
  (State.fld_put_apart _ _ _ h').trans (s.pfld_rlkMove_apart hd hp st h hoff)

theorem State.toFallback_spec (s : State) (reason : Nat) : (s.toFallback d p reason).rlkState d p = rlkFallback ∧
    ((s.toFallback d p reason).relka d p).due = [] := by
  obtain ⟨u, hu⟩ : ∃ u, s.updRelka d p (fun x => { x with due := [] }) = u := ⟨_, rfl⟩
  have hux : u.relka d p = { s.relka d p with due := [] } := hu ▸ s.relka_updRelka d p _
  have hkept : LinkKept d p (u.rlkMoveR d p rlkFallback reason) (s.toFallback d p reason) :=
    hu ▸ .linkEvent hd hp _ rlkFallback 1
  refine ⟨State.rlkState_eq (u.rlkMoveR_state hd hp rlkFallback reason) hkept, ?_⟩
  rw [hkept.relka, u.rlkMoveR_relka hd hp, hux]

theorem State.silentTest_state (s : State) (h : 16 ≤ (s.relka d p).silent) :
    (s.silentTest d p).rlkState d p = if s.rlkState d p = rlkAcquire then rlkFallback
      else if s.rlkState d p = rlkDegraded then rlkAcquire else s.rlkState d p := by
  unfold State.silentTest
  rw [if_neg (Nat.not_lt.2 h)]
  split
  · exact (s.toFallback_spec hd hp 1).1
  · split
    · exact s.rlkMoveR_state hd hp rlkAcquire 4
    · rfl

/-- A missed response: no request is outstanding, the miss counts, and three take LINKED to DEGRADED. -/
theorem State.missed_spec (s : State) (heard : Bool) :
    let t := s.missed d p heard
    (t.relka d p).req = none ∧
    t.pfld d p R.RLK_CNT_MISS = satNat (s.pfld d p R.RLK_CNT_MISS + 1) R.RLK_CNT_MISS.len ∧
    t.rlkState d p = (if s.rlkState d p = rlkLinked ∧ 2 ≤ (s.relka d p).misses then rlkDegraded else s.rlkState d p) ∧
    t.now = s.now := by
  intro t
  obtain ⟨x, hx⟩ : ∃ x, s.relka d p = x := ⟨_, rfl⟩
  obtain ⟨u, hu⟩ : ∃ u, s.setRelka d p { x with
    req := none, answered := 0, misses := x.misses + 1, silent := if heard then 0 else x.silent + 1,
    snd := if x.snd.num.isSome then { x.snd with bad := x.snd.bad + 1 } else x.snd } = u := ⟨_, rfl⟩
  have hureq : (u.relka d p).req = none := by
    rw [← hu, State.relka_setRelka]
  have hufld : ∀ g, u.pfld d p g = s.pfld d p g := fun g => hu ▸ rfl
  obtain ⟨v, hv⟩ : ∃ v, (u.pbump d p R.RLK_CNT_MISS).pbump d p R.RLK_STAT_MISSED = v := ⟨_, rfl⟩
  have hvreq : (v.relka d p).req = none := hv ▸ hureq
  have hvcnt : v.pfld d p R.RLK_CNT_MISS = satNat (s.pfld d p R.RLK_CNT_MISS + 1) R.RLK_CNT_MISS.len := by
    rw [← hv, ← hufld]
    exact (State.fld_bump_apart _ _ (by decide)).trans
      ((State.fld_put_self _ _ _ (by decide)).trans (Nat.mod_eq_of_lt (satNat_lt _ _)))
  have hvst : v.rlkState d p = s.rlkState d p := by
    rw [← hv]
    exact (State.fld_bump_apart _ _ (by decide)).trans ((State.fld_bump_apart _ _ (by decide)).trans (hufld _))
  have hvnow : v.now = s.now := by
    rw [← hv, ← hu]
    rfl
  have ht : t = if v.rlkState d p = rlkLinked ∧ 3 ≤ x.misses + 1 then (v.rlkMoveR d p rlkDegraded 4).rlkEvent d p rlkDegraded
      else v := by
    show s.missed d p heard = _
    unfold State.missed
    dsimp only
    rw [hx, hu, hv]
  rw [ht, hvst, hx]
  by_cases hc : s.rlkState d p = rlkLinked ∧ 3 ≤ x.misses + 1
  · have hkept : LinkKept d p (v.rlkMoveR d p rlkDegraded 4) ((v.rlkMoveR d p rlkDegraded 4).rlkEvent d p rlkDegraded) :=
      .linkEvent hd hp _ rlkDegraded 1
    rw [if_pos hc, if_pos ⟨hc.1, by omega⟩]
    refine ⟨?_, ?_, State.rlkState_eq (v.rlkMoveR_state hd hp rlkDegraded 4) hkept, ?_⟩
    · rw [hkept.relka, v.rlkMoveR_relka hd hp]
      exact hvreq
    · rw [hkept.fld _ (by decide), v.pfld_rlkMoveR_apart hd hp _ _ (by decide) (by decide) (by decide)]
      exact hvcnt
    · refine (State.now_congr (Reports.event' (v.rlkMoveR d p rlkDegraded 4) 7 _ _).tails).trans ((State.now_congr ?_).trans hvnow)
      exact (congrArg State.tails (SelKept.sourceLost _ d p _).rest :).trans rfl
  · rw [if_neg hc, if_neg (by omega)]
    exact ⟨hvreq, hvcnt, hvst, hvnow⟩

/-- An answered exchange: what a link holds beside its counts of exchanges stays. -/
theorem State.answered_spec (s : State) (sentAt : Nat) :
    let t := s.answered d p sentAt
    (∃ a, t.relka d p = { s.relka d p with req := none, answered := a, misses := 0, silent := 0 }) ∧
    t.pfld d p R.RLK_STAT_MISSED = 0 ∧ t.pfld d p R.RLK_CNT_DISCARD = s.pfld d p R.RLK_CNT_DISCARD := by
  intro t
  obtain ⟨u, hu⟩ : ∃ u, (if (s.port d p).ackWait.any (fun t => decide (t ≤ sentAt)) then
    s.updPort d p (fun x => { x with ackWait := none }) else s) = u := ⟨_, rfl⟩
  have hux : u.relka d p = s.relka d p := by
    rw [← hu]
    split
    · unfold State.relka State.updPort
      rw [State.port_setPort_self]
    · rfl
  have hufld : ∀ g, u.pfld d p g = s.pfld d p g := fun g => by
    rw [← hu]
    split <;> rfl
  obtain ⟨x, hx⟩ : ∃ x, u.relka d p = x := ⟨_, rfl⟩
  obtain ⟨v, hv⟩ : ∃ v, u.setRelka d p { x with req := none, answered := x.answered + 1, misses := 0, silent := 0 } = v := ⟨_, rfl⟩
  have hvx : v.relka d p = { x with req := none, answered := x.answered + 1, misses := 0, silent := 0 } :=
    hv ▸ u.relka_setRelka d p _
  have hvfld : ∀ g, v.pfld d p g = s.pfld d p g := fun g => (show v.pfld d p g = u.pfld d p g from hv ▸ rfl).trans (hufld g)
  obtain ⟨w, hw⟩ : ∃ w, (v.pput d p R.RLK_STAT_MISSED 0).incr (portLoc d p) R.RLK_STAT_EXCHANGES = w := ⟨_, rfl⟩
  have hwx : w.relka d p = { x with req := none, answered := x.answered + 1, misses := 0, silent := 0 } := hw ▸ hvx
  have hwm : w.pfld d p R.RLK_STAT_MISSED = 0 := by
    rw [← hw]
    exact (State.fld_put_apart _ _ _ (by decide)).trans (State.fld_put_self _ _ _ (by decide))
  have hwd : w.pfld d p R.RLK_CNT_DISCARD = s.pfld d p R.RLK_CNT_DISCARD := by
    rw [← hw, ← hvfld]
    exact (State.fld_put_apart _ _ _ (by decide)).trans (State.fld_put_apart _ _ _ (by decide))
  have ht : t = if (w.rlkState d p = rlkAcquire ∧ 3 ≤ x.answered + 1) ∨ (w.rlkState d p = rlkDegraded ∧ 8 ≤ x.answered + 1) then
      (w.rlkMove d p rlkLinked).rlkEvent d p rlkLinked else w := by
    show s.answered d p sentAt = _
    unfold State.answered
    dsimp only
    rw [hu, hx, hv, hw]
  rw [ht, ← hux, hx]
  split
  · have hkept : LinkKept d p (w.rlkMove d p rlkLinked) ((w.rlkMove d p rlkLinked).rlkEvent d p rlkLinked) :=
      .linkEvent hd hp _ rlkLinked 1
    refine ⟨⟨0, ?_⟩, ?_, ?_⟩
    · rw [hkept.relka, w.relka_rlkMove hd hp, hwx]
    · rw [hkept.fld _ (by decide), w.pfld_rlkMove_apart hd hp _ (by decide) (by decide)]
      exact hwm
    · rw [hkept.fld _ (by decide), w.pfld_rlkMove_apart hd hp _ (by decide) (by decide)]
      exact hwd
  · exact ⟨⟨_, hwx⟩, hwm, hwd⟩

/-- What a valid RSP says of its sender. -/
theorem State.rlkNews_spec (s : State) (msg : Nat) :
    let t := s.rlkNews d p msg
    t.relka d p = { s.relka d p with epoch := bits msg 128 16, cc := bits msg 24 8, traced := bit msg 36, safe := bit msg 39 } ∧
    ∀ g : Fld, g.off < 16777216 → t.pfld d p g = s.pfld d p g := by
  intro t
  obtain ⟨u, hu⟩ : ∃ u, s.setRelka d p { s.relka d p with
    epoch := bits msg 128 16, cc := bits msg 24 8, traced := bit msg 36, safe := bit msg 39 } = u := ⟨_, rfl⟩
  have hux : u.relka d p = { s.relka d p with
      epoch := bits msg 128 16, cc := bits msg 24 8, traced := bit msg 36, safe := bit msg 39 } :=
    hu ▸ s.relka_setRelka d p _
  have hufld : ∀ g, u.pfld d p g = s.pfld d p g := fun g => hu ▸ rfl
  have hepoch : LinkKept d p u (u.rlkEpoch d p (bits msg 128 16)) :=
    .ite _ (.ite _ (.setServo u _) (.setServo u _)) (.refl u)
  have hkept : LinkKept d p u t := by
    show LinkKept d p u (s.rlkNews d p msg)
    unfold State.rlkNews
    dsimp only
    rw [hu]
    exact (hepoch.trans (.of_sel hd hp (.traceSync _))).trans (.ite _ (.of_sel hd hp (.sourceLost _ d p _)) (.refl _))
  exact ⟨hkept.relka.trans hux, fun g hg => (hkept.fld g hg).trans (hufld g)⟩

end

end

/-! ### A measurement (R127, R128) -/

section
variable {s : State} {d p : Nat}

theorem State.soundOne_idle (h : (s.relka d p).snd.num = none) (q : RlkReq) (b : Bool) (rtt : Option Int) :
    s.soundOne d p q b rtt = s := by
  unfold State.soundOne State.snd
  dsimp only
  rw [h]

theorem State.relka_rlkMeans (s : State) (d p : Nat) : (s.rlkMeans d p).relka d p = s.relka d p := by
  unfold State.rlkMeans
  dsimp only
  split <;> rfl

variable {q : RlkReq} {msg t4 : Nat} (hvalid : s.dlyValid d p = true) (hidle : (s.relka d p).snd.num = none)
include hvalid hidle

/-- An exchange that the stamps do not measure is discarded. -/
theorem State.measureOne_lost (h : (s.relka d p).mkGen ≠ q.gen ∨ bit msg 38 = true ∨ (s.relka d p).hits ≠ q.hit ∨
    s.activeHs = none) : s.measureOne d p q msg t4 = s.pbump d p R.RLK_CNT_DISCARD := by
  have hv : (s.pbump d p R.RLK_CNT_DISCARD).relka d p = s.relka d p := rfl
  unfold State.measureOne
  dsimp only
  rw [if_neg (by rw [hvalid]; decide), if_pos (by rwa [Option.isNone_iff_eq_none])]
  exact State.soundOne_idle (by rwa [hv]) _ _ _

theorem State.measureOne_kept (h : ¬ ((s.relka d p).mkGen ≠ q.gen ∨ bit msg 38 = true ∨ (s.relka d p).hits ≠ q.hit ∨
    s.activeHs = none)) :
    let t3 := bits msg 48 64 + bits msg 112 16 * 2 ^ 64
    let t2 := fromTx64 t3 (bits msg 144 64)
    ((s.measureOne d p q msg t4).relka d p).meas =
      ((d80 t4 t3 - d80 t2 q.t1 + q.a, d80 t4 q.t1 - d80 t3 t2) :: (s.relka d p).meas).take 1024 := by
  intro t3 t2
  obtain ⟨y, hy⟩ : ∃ y : Relka, { s.relka d p with
    meas := ((d80 t4 t3 - d80 t2 q.t1 + q.a, d80 t4 q.t1 - d80 t3 t2) :: (s.relka d p).meas).take 1024,
    valid := (s.relka d p).valid + 1,
    gate := if s.rlkGives d p then ((s.now, d80 t4 t3 - d80 t2 q.t1 + q.a) :: (s.relka d p).gate).take 2048
      else (s.relka d p).gate } = y := ⟨_, rfl⟩
  have hux : ((s.setRelka d p y).rlkMeans d p).relka d p = y := (State.relka_rlkMeans _ d p).trans (s.relka_setRelka d p y)
  have hrun : s.measureOne d p q msg t4 =
      ((s.setRelka d p y).rlkMeans d p).soundOne d p q (bit msg 37) (some (d80 t4 q.t1 - d80 t3 t2)) := by
    unfold State.measureOne
    dsimp only
    rw [if_neg (by rw [hvalid]; decide), if_neg (by rwa [Option.isNone_iff_eq_none]), hy]
  rw [hrun, State.soundOne_idle, hux, ← hy]
  rw [hux, ← hy]
  exact hidle

end

/-! ### A response (R126 to R128, R131) -/

section
variable {s : State} {d p msg : Nat}

theorem State.takeRsp_bad (h : checkOk msg 248 = false) : State.takeRsp d p msg s = s.badMsg d p := by
  unfold State.takeRsp
  rw [h]
  exact if_pos rfl

theorem State.takeRsp_version (h : checkOk msg 248 = true) (hv : msgVersion msg ≠ 1) :
    State.takeRsp d p msg s = (s.badMsg d p).toFallback d p 3 := by
  unfold State.takeRsp
  rw [if_neg (by rw [h]; decide), if_pos hv]

theorem State.takeRsp_other (h : checkOk msg 248 = true ∧ msgVersion msg = 1)
    (hother : ¬ ((checkOk msg 248 = true ∧ msgVersion msg = 1) ∧ msgPkg msg = s.pfld d p R.RLK_CTRL_PARTNER_PKG ∧
      msgPkg msg ≠ s.ownPkg)) :
    State.takeRsp d p msg s = (if (s.relka d p).req.isSome then s.missed d p true else s).toFallback d p 2 := by
  have hno : msgPkg msg ≠ s.pfld d p R.RLK_CTRL_PARTNER_PKG ∨ msgPkg msg = s.ownPkg :=
    Decidable.or_iff_not_not_and_not.2 fun hc => hother ⟨h, Decidable.of_not_not hc.1, hc.2⟩
  unfold State.takeRsp
  rw [if_neg (by rw [h.1]; decide), if_neg (not_not_intro h.2)]
  exact if_pos hno

section
variable (h : (checkOk msg 248 = true ∧ msgVersion msg = 1) ∧ msgPkg msg = s.pfld d p R.RLK_CTRL_PARTNER_PKG ∧
  msgPkg msg ≠ s.ownPkg)
include h

theorem State.takeRsp_none (hreq : (s.relka d p).req = none) : State.takeRsp d p msg s = s := by
  obtain ⟨⟨hcheck, hversion⟩, hpartner, hown⟩ := h
  unfold State.takeRsp
  rw [if_neg (by rw [hcheck]; decide), if_neg (not_not_intro hversion)]
  dsimp only
  rw [if_neg (fun hc => hc.elim (fun e => e hpartner) hown), hreq]

theorem State.takeRsp_mine {q : RlkReq} (hreq : (s.relka d p).req = some q) : State.takeRsp d p msg s =
    if q.exseq ≠ msg % 65536 then s
    else if q.tick + s.rspWait d p < s.now then s.missed d p false
    else if 131072000 < sdiff (bits msg 48 64) (bits msg 144 64) then (s.rlkNews d p msg).missed d p true
    else ((s.measureOne d p q msg (s.relka d p).mkStamp).rlkNews d p msg).answered d p q.tick := by
  obtain ⟨⟨hcheck, hversion⟩, hpartner, hown⟩ := h
  have hns : (2000 * 65536 : Int) = 131072000 := by decide
  unfold State.takeRsp
  rw [if_neg (by rw [hcheck]; decide), if_neg (not_not_intro hversion)]
  dsimp only
  rw [if_neg (fun hc => hc.elim (fun e => e hpartner) hown), hreq]
  dsimp only
  rw [hns]

end

/-- The RSP that answers a request in time. -/
theorem State.answers_spec (hd : d < 4) (hp : p < 72) (q : RlkReq) :
    let x := s.relka d p
    let t := ((s.measureOne d p q msg x.mkStamp).rlkNews d p msg).answered d p q.tick
    let t3 := bits msg 48 64 + bits msg 112 16 * 2 ^ 64
    let t2 := fromTx64 t3 (bits msg 144 64)
    let lost := x.mkGen ≠ q.gen ∨ bit msg 38 = true ∨ x.hits ≠ q.hit ∨ s.activeHs = none
    (t.relka d p).req = none ∧ (t.relka d p).epoch = bits msg 128 16 ∧ (t.relka d p).cc = bits msg 24 8 ∧
    (t.relka d p).traced = bit msg 36 ∧ t.pfld d p R.RLK_STAT_MISSED = 0 ∧
    (s.dlyValid d p = true → x.snd.num = none →
      (lost → (t.relka d p).meas = x.meas ∧
        t.pfld d p R.RLK_CNT_DISCARD = satNat (s.pfld d p R.RLK_CNT_DISCARD + 1) R.RLK_CNT_DISCARD.len) ∧
      (¬lost → (t.relka d p).meas = ((d80 x.mkStamp t3 - d80 t2 q.t1 + q.a,
        d80 x.mkStamp q.t1 - d80 t3 t2) :: x.meas).take 1024)) := by
  intro x t t3 t2 lost
  obtain ⟨u, hu⟩ : ∃ u, s.measureOne d p q msg x.mkStamp = u := ⟨_, rfl⟩
  obtain ⟨v, hv⟩ : ∃ v, u.rlkNews d p msg = v := ⟨_, rfl⟩
  have ht : t = v.answered d p q.tick := by rw [← hv, ← hu]
  obtain ⟨⟨a, hrelka⟩, hmissed, hdiscard⟩ := v.answered_spec hd hp q.tick
  obtain ⟨hnews, hfld⟩ := u.rlkNews_spec hd hp msg
  rw [hv] at hnews hfld
  rw [← ht] at hrelka hmissed hdiscard
  rw [hnews] at hrelka
  rw [hrelka]
  refine ⟨rfl, rfl, rfl, rfl, hmissed, fun hvalid hidle => ⟨fun hlost => ?_, fun hno => ?_⟩⟩
  · have hb : u = s.pbump d p R.RLK_CNT_DISCARD := hu ▸ State.measureOne_lost hvalid hidle hlost
    refine ⟨by rw [hb]; rfl, ?_⟩
    rw [hdiscard, hfld _ (by decide), hb]
    exact (State.fld_put_self _ _ _ (by decide)).trans (Nat.mod_eq_of_lt (satNat_lt _ _))
  · have hm := State.measureOne_kept (t4 := x.mkStamp) hvalid hidle hno
    rw [hu] at hm
    exact hm

end

/-! ### Requests (R122, R124, R125) -/

section
variable {s : State} {d p : Nat}

theorem State.takeReq_eq (msg : Nat) : State.takeReq d p msg s =
    if ¬ (checkOk msg 160 = true ∧ msgVersion msg = 1) then s.badMsg d p
    else if msgPkg msg = s.ownPkg then s.toFallback d p 2
    else if s.rlkMay d p = false then s
    else s.updRelka d p (fun x => { x with
      due := x.due ++ [{ exseq := msg % 65536, t2 := x.mkStamp, gen := x.mkGen, at_ := max s.now (s.txEnd d p) }] }) := by
  unfold State.takeReq
  simp only [Bool.not_eq_true', not_and_or, Bool.not_eq_true, ne_eq]

theorem State.takeReq_spec (msg : Nat) :
    let x := s.relka d p
    let ok := checkOk msg 160 = true ∧ msgVersion msg = 1
    (¬ok → State.takeReq d p msg s = s.badMsg d p) ∧
    (ok → msgPkg msg = s.ownPkg → State.takeReq d p msg s = s.toFallback d p 2) ∧
    (ok → msgPkg msg ≠ s.ownPkg → s.rlkMay d p = false → State.takeReq d p msg s = s) ∧
    (ok → msgPkg msg ≠ s.ownPkg → s.rlkMay d p = true →
      (State.takeReq d p msg s).relka d p = { x with
        due := x.due ++ [{ exseq := msg % 65536, t2 := x.mkStamp, gen := x.mkGen, at_ := max s.now (s.txEnd d p) }] } ∧
      { State.takeReq d p msg s with ports := s.ports } = s) := by
  intro x ok
  rw [State.takeReq_eq]
  refine ⟨fun h => if_pos h, fun h hown => ?_, fun h hown hmay => ?_, fun h hown hmay => ?_⟩
  · rw [if_neg (not_not_intro h), if_pos hown]
  · rw [if_neg (not_not_intro h), if_neg hown, if_pos hmay]
  · rw [if_neg (not_not_intro h), if_neg hown, if_neg (by rw [hmay]; decide)]
    exact ⟨s.relka_updRelka d p _, rfl⟩

theorem exec_relkaReqSend_not (h : s.rlkMay d p = false) : exec (.relkaReqSend d p) s = .next s := by
  show execRelkaReqSend d p s = _
  unfold execRelkaReqSend
  exact if_pos (by rw [h]; rfl)

/-- An exchange starts at its tick. -/
theorem exec_relkaReqSend_eq (hmay : s.rlkMay d p = true) (hidle : (s.port d p).sending = none)
    (hreq : (s.relka d p).req = none) (hsilent : (s.relka d p).silent < 16) :
    let k := s.nextStart d p
    let u := s.advance (ceilDiv (5 * k.2 - (s.tail d).fu) fuTick)
    let v := u.setRelka d p { u.relka d p with
      req := some { exseq := k.1 % 65536, t1 := u.stampTx d p, gen := (u.tail d).stepGen, tick := u.now,
                    sound := u.rlkState d p == rlkSounding, hit := (u.relka d p).hits,
                    a := sx (u.pfld d p R.RLK_ASYM_EFF_A) 32, meas := (u.relka d p).snd.num },
      last := some (k.1, (u.tail d).stepGen) }
    let w := v.sendRelka d p 1 (reqMsg (v.rlkHead d p (k.1 % 65536) (u.stampTx d p) false))
    exec (.relkaReqSend d p) s = .next (if k.1 % 1024 = 0 then w.sendRelka d p 3 (w.censusMsg d p (k.1 % 65536)) else w) := by
  intro k u v w
  have hfin : u.finishTx d p = u := if_pos (by rw [show (u.port d p).sending = none from hidle]; rfl)
  have humay : u.rlkMay d p = true := hmay
  have hureq : ¬ (u.relka d p).req.isSome = true := by
    rw [show (u.relka d p).req = none from hreq]
    decide
  have husil : u.silentTest d p = u := if_pos hsilent
  show execRelkaReqSend d p s = _
  unfold execRelkaReqSend
  rw [if_neg (by rw [hmay]; decide)]
  dsimp only
  rw [show s.advance (ceilDiv (5 * (s.nextStart d p).2 - (s.tail d).fu) fuTick) = u from rfl, hfin, if_neg hureq, husil,
    if_neg (by rw [humay]; decide)]

/-- What a REQ and a CENSUS say depends on the registers, the tailstock and the credits. -/
theorem State.rlkHead_congr {t : State} (hfld : ∀ l f, t.fld l f = s.fld l f) (hgen : (t.tail d).stepGen = (s.tail d).stepGen)
    (htraced : (t.tail d).traceable = (s.tail d).traceable) (e m : Nat) (b : Bool) :
    t.rlkHead d p e m b = s.rlkHead d p e m b := by
  have hpkg : t.ownPkg = s.ownPkg := hfld _ _
  have hcc : t.arb R.CC_NOW_CLOCK_CLASS = s.arb R.CC_NOW_CLOCK_CLASS := hfld _ _
  have hepoch : t.arb R.RLK_SYS_SYS_EPOCH = s.arb R.RLK_SYS_SYS_EPOCH := hfld _ _
  have hst : t.rlkState d p = s.rlkState d p := hfld _ _
  have hsafe : t.safe = s.safe := congrArg (· == 1) (hfld _ _)
  unfold State.rlkHead
  rw [hpkg, hcc, hepoch, hst, hsafe, hgen, htraced]

theorem State.censusMsg_congr {t : State} (hregs : t.regs = s.regs) (hpart : t.part = s.part)
    (hcredit : (t.port d p).credit = (s.port d p).credit) (htx : (t.port d p).txGen = (s.port d p).txGen) (e : Nat) :
    t.censusMsg d p e = s.censusMsg d p e := by
  have hfld := State.fld_congr hregs hpart
  have hpkg : t.ownPkg = s.ownPkg := hfld _ _
  have hlossless : t.lossless d = s.lossless d := by
    unfold State.lossless
    refine congrArg (fun f => (List.range 16).filter f) (funext fun c => ?_)
    exact congrArg (· == 1) (hfld _ _)
  have hcls : t.credited d p = s.credited d p := by
    unfold State.credited
    rw [hlossless, show t.creditOn d p = s.creditOn d p from congrArg (· == 1) (hfld _ _)]
  have hcr : ∀ c, t.credit d p c = s.credit d p c := fun c => by rw [State.credit, hcredit, State.credit]
  unfold State.censusMsg
  simp only [hpkg, hcls, hcr, htx]

theorem State.stampTx_congr {t : State} (htails : t.tails = s.tails) (hregs : t.regs = s.regs) (hpart : t.part = s.part) :
    t.stampTx d p = s.stampTx d p := by
  have hfld := State.fld_congr hregs hpart
  unfold State.stampTx State.stampAt State.compTx State.pfld
  rw [hfld, hfld, State.tail_congr htails]

theorem relkaReqSend_spec (hd : d < 4) (hmay : s.rlkMay d p = true) (hidle : (s.port d p).sending = none)
    (hreq : (s.relka d p).req = none) (hsilent : (s.relka d p).silent < 16) :
    let x := s.relka d p
    let k := s.nextStart d p
    ∃ (t : State) (q : RlkReq), exec (.relkaReqSend d p) s = .next t ∧
      t.relka d p = { x with req := some q, last := some (k.1, (s.tail d).stepGen) } ∧
      q = { exseq := k.1 % 65536, t1 := t.stampTx d p, gen := (s.tail d).stepGen, tick := t.now,
            sound := s.rlkState d p == rlkSounding, hit := x.hits, a := sx (s.pfld d p R.RLK_ASYM_EFF_A) 32,
            meas := x.snd.num } ∧ 5 * k.2 ≤ (t.tail d).fu ∧
      t.sent = (if k.1 % 1024 = 0 then [.relka d p 3 (relkaBlocks 3 (s.censusMsg d p (k.1 % 65536)))] else []) ++
        .relka d p 1 (relkaBlocks 1 (reqMsg (s.rlkHead d p (k.1 % 65536) q.t1 false))) :: s.sent ∧
      { t with tails := s.tails, ports := s.ports, sent := s.sent } = s := by
  intro x k
  have hloop : s.pfld d p R.PORT_STAT_LOOP = 0 := by
    simp only [State.rlkMay, Bool.and_eq_true, beq_iff_eq] at hmay
    exact hmay.1.2
  obtain ⟨u, hu⟩ : ∃ u, s.advance (ceilDiv (5 * k.2 - (s.tail d).fu) fuTick) = u := ⟨_, rfl⟩
  have hutail : u.tail d = { s.tail d with n := (u.tail d).n, m := (u.tail d).m } := by
    rw [← hu, s.tail_advance _ (by omega)]
  have hgen : (u.tail d).stepGen = (s.tail d).stepGen := by rw [hutail]
  have htraced : (u.tail d).traceable = (s.tail d).traceable := by rw [hutail]
  have hufu : 5 * k.2 ≤ (u.tail d).fu := by
    rw [← hu, s.fu_advance _ (by omega)]
    unfold ceilDiv fuTick
    omega
  have hux : u.relka d p = x := hu ▸ rfl
  have hufld : ∀ l f, u.fld l f = s.fld l f := fun l f => hu ▸ rfl
  have huport : u.port d p = s.port d p := hu ▸ rfl
  have hurest : { u with tails := s.tails } = s := hu ▸ rfl
  obtain ⟨q, hq⟩ : ∃ q, RlkReq.mk (k.1 % 65536) (u.stampTx d p) (s.tail d).stepGen u.now (s.rlkState d p == rlkSounding) x.hits
    (sx (s.pfld d p R.RLK_ASYM_EFF_A) 32) x.snd.num = q := ⟨_, rfl⟩
  obtain ⟨v, hv⟩ : ∃ v, u.setRelka d p { x with req := some q, last := some (k.1, (s.tail d).stepGen) } = v := ⟨_, rfl⟩
  have hvx : v.relka d p = { x with req := some q, last := some (k.1, (s.tail d).stepGen) } := hv ▸ u.relka_setRelka d p _
  have hvport : v.port d p = { u.port d p with relka := { x with req := some q, last := some (k.1, (s.tail d).stepGen) } } :=
    hv ▸ State.port_setPort_self u d p _
  have hvfld : ∀ l f, v.fld l f = s.fld l f := fun l f => (show v.fld l f = u.fld l f from hv ▸ rfl).trans (hufld l f)
  have hvtail : v.tail d = u.tail d := hv ▸ rfl
  have hvidle : (v.port d p).sending = none := by
    rw [hvport, huport]
    exact hidle
  have hhead := State.rlkHead_congr (p := p) hvfld ((congrArg Tailstock.stepGen hvtail).trans hgen)
    ((congrArg Tailstock.traceable hvtail).trans htraced) (k.1 % 65536) (u.stampTx d p) false
  obtain ⟨w, hw⟩ : ∃ w, v.send (.relka d p 1 (relkaBlocks 1 (reqMsg (s.rlkHead d p (k.1 % 65536) q.t1 false)))) = w := ⟨_, rfl⟩
  have hwidle : (w.port d p).sending = none := hw ▸ hvidle
  have hwloop : w.pfld d p R.PORT_STAT_LOOP = 0 := (show w.pfld d p _ = v.pfld d p _ from hw ▸ rfl).trans ((hvfld _ _).trans hloop)
  have hcensus : w.censusMsg d p (k.1 % 65536) = s.censusMsg d p (k.1 % 65536) := by
    refine State.censusMsg_congr ?_ ?_ ?_ ?_ _
    · rw [← hw, ← hv, ← hu]
      rfl
    · rw [← hw, ← hv, ← hu]
      rfl
    · rw [show w.port d p = v.port d p from hw ▸ rfl, hvport, huport]
    · rw [show w.port d p = v.port d p from hw ▸ rfl, hvport, huport]
  have hrun := exec_relkaReqSend_eq hmay hidle hreq hsilent
  dsimp only at hrun
  rw [show s.advance (ceilDiv (5 * (s.nextStart d p).2 - (s.tail d).fu) fuTick) = u from hu, hux, hgen,
    show u.rlkState d p = s.rlkState d p from hufld _ _, show u.pfld d p R.RLK_ASYM_EFF_A = s.pfld d p R.RLK_ASYM_EFF_A from
    hufld _ _, show s.nextStart d p = k from rfl, hq, hv, hhead, show u.stampTx d p = q.t1 from congrArg RlkReq.t1 hq,
    State.sendRelka_eq ((hvfld _ _).trans hloop) hvidle, hw, hcensus, State.sendRelka_eq hwloop hwidle] at hrun
  obtain ⟨t, ht⟩ : ∃ t, (if k.1 % 1024 = 0 then w.send (.relka d p 3 (relkaBlocks 3 (s.censusMsg d p (k.1 % 65536)))) else w) =
    t := ⟨_, rfl⟩
  rw [ht] at hrun
  have htw : { t with sent := w.sent } = w := by
    rw [← ht]
    split <;> rfl
  have htsent : t.sent = (if k.1 % 1024 = 0 then [.relka d p 3 (relkaBlocks 3 (s.censusMsg d p (k.1 % 65536)))] else []) ++
      w.sent := by
    rw [← ht]
    split <;> rfl
  have hwv : { w with sent := v.sent } = v := hw ▸ rfl
  have hvu : { v with ports := u.ports } = u := hv ▸ rfl
  have httails : t.tails = u.tails :=
    (congrArg State.tails htw :).trans ((congrArg State.tails hwv :).trans (congrArg State.tails hvu :))
  have htregs : t.regs = u.regs :=
    (congrArg State.regs htw :).trans ((congrArg State.regs hwv :).trans (congrArg State.regs hvu :))
  have htpart : t.part = u.part :=
    (congrArg State.part htw :).trans ((congrArg State.part hwv :).trans (congrArg State.part hvu :))
  have htx : t.relka d p = v.relka d p :=
    (State.relka_congr (congrArg State.ports htw :) d p).trans (State.relka_congr (congrArg State.ports hwv :) d p)
  have hwsent : w.sent = .relka d p 1 (relkaBlocks 1 (reqMsg (s.rlkHead d p (k.1 % 65536) q.t1 false))) :: s.sent := by
    rw [← hw, ← hv, ← hu]
    rfl
  refine ⟨t, q, hrun, htx.trans hvx, ?_, ?_, ?_, ?_⟩
  · rw [← hq, State.stampTx_congr httails htregs htpart, State.now_congr httails]
  · rw [State.tail_congr httails]
    exact hufu
  · rw [htsent, hwsent]
  · have h1 : { t with ports := u.ports, sent := u.sent } = u :=
      (congrArg (fun y : State => { y with ports := u.ports, sent := u.sent }) htw).trans
        ((congrArg (fun y : State => { y with ports := u.ports, sent := u.sent }) hwv).trans
          (congrArg (fun y : State => { y with sent := u.sent }) hvu))
    exact (congrArg (fun y : State => { y with tails := s.tails, ports := s.ports, sent := s.sent }) h1).trans
      ((congrArg (fun y : State => { y with ports := s.ports, sent := s.sent }) hurest).trans rfl)

/-! ### Responses that leave (R123, R125) -/

theorem exec_relkaRspSend_none (h : (s.relka d p).due = []) : exec (.relkaRspSend d p) s = .next s := by
  show execRelkaRspSend d p s = _
  unfold execRelkaRspSend
  rw [h]

/-- The oldest response that is due, with no frame in transmission. -/
theorem exec_relkaRspSend_eq {q : RlkDue} {rest : List RlkDue} (hdue : (s.relka d p).due = q :: rest)
    (hidle : (s.port d p).sending = none) :
    let v := s.advanceTo q.at_
    exec (.relkaRspSend d p) s = .next (if s.rlkMay d p = false then v else
      (v.updRelka d p (fun x => { x with due := rest })).sendRelka d p 2 (rspMsg (v.rlkHead d p q.exseq (v.stampTxAt d p q.at_)
        ((v.tail d).stepGen != q.gen)) q.t2)) := by
  intro v
  have hfin : v.finishTx d p = v := if_pos (by rw [show (v.port d p).sending = none from hidle]; rfl)
  have hvmay : v.rlkMay d p = s.rlkMay d p := rfl
  show execRelkaRspSend d p s = _
  unfold execRelkaRspSend
  rw [hdue]
  dsimp only
  rw [show s.advanceTo q.at_ = v from rfl, hfin, hvmay]
  cases s.rlkMay d p <;> rfl

theorem relkaRspSend_spec {q : RlkDue} {rest : List RlkDue} (hdue : (s.relka d p).due = q :: rest) (hmay : s.rlkMay d p = true)
    (hidle : (s.port d p).sending = none) :
    let v := s.advanceTo q.at_
    ∃ t : State, exec (.relkaRspSend d p) s = .next t ∧
      t.sent = .relka d p 2 (relkaBlocks 2 (rspMsg (v.rlkHead d p q.exseq (v.stampTxAt d p q.at_)
        ((v.tail d).stepGen != q.gen)) q.t2)) :: s.sent ∧
      t.relka d p = { s.relka d p with due := rest } ∧ { t with ports := s.ports, sent := s.sent } = v := by
  intro v
  have hloop : s.pfld d p R.PORT_STAT_LOOP = 0 := by
    simp only [State.rlkMay, Bool.and_eq_true, beq_iff_eq] at hmay
    exact hmay.1.2
  have hrun := exec_relkaRspSend_eq hdue hidle
  dsimp only at hrun
  rw [if_neg (by rw [hmay]; decide)] at hrun
  obtain ⟨m, hm⟩ : ∃ m, rspMsg (v.rlkHead d p q.exseq (v.stampTxAt d p q.at_) ((v.tail d).stepGen != q.gen)) q.t2 = m := ⟨_, rfl⟩
  obtain ⟨u, hu⟩ : ∃ u, v.updRelka d p (fun x => { x with due := rest }) = u := ⟨_, rfl⟩
  have hurelka : u.relka d p = { s.relka d p with due := rest } := hu ▸ v.relka_updRelka d p _
  have huidle : (u.port d p).sending = none := hu ▸ (v.sending_updRelka d p _).trans hidle
  have huloop : u.pfld d p R.PORT_STAT_LOOP = 0 := hu ▸ hloop
  have hurest : { u with ports := s.ports } = v := hu ▸ rfl
  have husent : u.sent = s.sent := hu ▸ rfl
  rw [show s.advanceTo q.at_ = v from rfl, hm, hu, State.sendRelka_eq huloop huidle] at hrun
  rw [hm]
  refine ⟨_, hrun, congrArg (Sent.relka d p 2 (relkaBlocks 2 m) :: ·) husent, hurelka, ?_⟩
  exact (congrArg (fun y : State => { y with sent := s.sent }) hurest).trans rfl

/-! ### Times that pass (R122, R126, R131) -/

theorem exec_relkaResponseMiss_none (h : (s.relka d p).req = none) : exec (.relkaResponseMiss d p) s = .next s := by
  show execRelkaResponseMiss d p s = _
  unfold execRelkaResponseMiss
  rw [h]

theorem relkaResponseMiss_spec (hd : d < 4) (hp : p < 72) {q : RlkReq} (h : (s.relka d p).req = some q) :
    ∃ t : State, exec (.relkaResponseMiss d p) s = .next t ∧ (t.relka d p).req = none ∧
      q.tick + s.rspWait d p ≤ t.now ∧
      t.pfld d p R.RLK_CNT_MISS = satNat (s.pfld d p R.RLK_CNT_MISS + 1) R.RLK_CNT_MISS.len ∧
      t.rlkState d p = (if s.rlkState d p = rlkLinked ∧ 2 ≤ (s.relka d p).misses then rlkDegraded else s.rlkState d p) := by
  obtain ⟨u, hu⟩ : ∃ u, s.advanceTo (q.tick + s.rspWait d p) = u := ⟨_, rfl⟩
  have hunow : q.tick + s.rspWait d p ≤ u.now := by
    rw [← hu, State.now_advanceTo]
    exact Nat.le_max_right _ _
  have hufld : ∀ g, u.pfld d p g = s.pfld d p g := fun g => hu ▸ rfl
  have hust : u.rlkState d p = s.rlkState d p := hufld _
  have hux : u.relka d p = s.relka d p := hu ▸ rfl
  obtain ⟨hreq, hcnt, hst, hnow⟩ := u.missed_spec hd hp false
  rw [hufld] at hcnt
  rw [hust, hux] at hst
  refine ⟨u.missed d p false, ?_, hreq, ?_, hcnt, hst⟩
  · show execRelkaResponseMiss d p s = _
    unfold execRelkaResponseMiss
    rw [h]
    exact congrArg (fun y : State => Host.Outcome.next (y.missed d p false)) hu
  · rw [hnow]
    exact hunow

theorem exec_relkaSilentPeriods_few (h : (s.relka d p).silent < 16) : exec (.relkaSilentPeriods d p) s = .next s :=
  congrArg Host.Outcome.next (if_pos h)

theorem exec_relkaMessageTimeout_none (h : (s.relka d p).part = []) : exec (.relkaMessageTimeout d p) s = .next s := if_pos h

theorem relkaMessageTimeout_spec (h : (s.relka d p).part ≠ []) : ∃ t : State,
    exec (.relkaMessageTimeout d p) s = .next t ∧
      t.relka d p = { s.relka d p with part := [], lost := true } ∧ (s.relka d p).begunAt + 1250 ≤ t.now ∧
      t.pfld d p R.RLK_CNT_BADMSG = satNat (s.pfld d p R.RLK_CNT_BADMSG + 1) R.RLK_CNT_BADMSG.len ∧
      { t with tails := s.tails, regs := s.regs, ports := s.ports } = s := by
  obtain ⟨u, hu⟩ : ∃ u, s.advanceTo ((s.relka d p).begunAt + msgTicks) = u := ⟨_, rfl⟩
  have hunow : (s.relka d p).begunAt + 1250 ≤ u.now := by
    rw [← hu, State.now_advanceTo]
    exact Nat.le_max_right _ _
  have hufld : u.pfld d p R.RLK_CNT_BADMSG = s.pfld d p R.RLK_CNT_BADMSG := hu ▸ rfl
  have hux : u.relka d p = s.relka d p := hu ▸ rfl
  have hurest : { u with tails := s.tails } = s := hu ▸ rfl
  obtain ⟨v, hv⟩ : ∃ v, u.updRelka d p (fun x => { x with part := [], lost := true }) = v := ⟨_, rfl⟩
  have hvx : v.relka d p = { s.relka d p with part := [], lost := true } := hux ▸ hv ▸ u.relka_updRelka d p _
  have hvfld : v.pfld d p R.RLK_CNT_BADMSG = s.pfld d p R.RLK_CNT_BADMSG :=
    (show v.pfld d p _ = u.pfld d p _ from hv ▸ rfl).trans hufld
  have hvrest : { v with ports := u.ports } = u := hv ▸ rfl
  have hvnow : v.now = u.now := hv ▸ rfl
  refine ⟨v.badMsg d p, ?_, hvx, ?_, ?_, ?_⟩
  · show execRelkaMessageTimeout d p s = _
    unfold execRelkaMessageTimeout
    rw [if_neg h, hu, State.dropMsg, hv]
  · rw [show (v.badMsg d p).now = v.now from rfl, hvnow]
    exact hunow
  · rw [← hvfld]
    exact (State.fld_put_self _ _ _ (by decide)).trans (Nat.mod_eq_of_lt (satNat_lt _ _))
  · have h1 : { v.badMsg d p with tails := s.tails, regs := s.regs, ports := s.ports } =
        { v with tails := s.tails, regs := s.regs, ports := s.ports } := rfl
    exact h1.trans ((congrArg (fun y : State => { y with tails := s.tails, regs := s.regs, ports := s.ports }) hvrest).trans
      ((congrArg (fun y : State => { y with regs := s.regs, ports := s.ports }) hurest).trans rfl))

end

/-- Settles O54: each message and each time of an exchange has the effect that its check, its sender and its stamps give. -/
theorem relkaExchanges : Obligations.RelkaExchanges := by
  unfold Obligations.RelkaExchanges
  intro s d p hd hp x may idle
  refine ⟨relkaTaken (by decide) fun _ => rfl, relkaTaken (by decide) fun _ => rfl, exec_relkaReqSend_not, relkaReqSend_spec hd,
    s.toFallback_spec hd hp, State.takeReq_spec, exec_relkaRspSend_none, fun q rest hdue => ⟨fun hmay hidle => ?_,
    relkaRspSend_spec hdue⟩, fun msg => ⟨State.takeRsp_bad, State.takeRsp_version, State.takeRsp_other, State.takeRsp_none,
    fun q hmine hreq => ?_⟩, exec_relkaResponseMiss_none, fun q => relkaResponseMiss_spec hd hp, exec_relkaSilentPeriods_few,
    fun h => ⟨_, rfl, s.silentTest_state hd hp h⟩, exec_relkaMessageTimeout_none, relkaMessageTimeout_spec⟩
  · exact (exec_relkaRspSend_eq hdue hidle).trans (congrArg Host.Outcome.next (if_pos hmay))
  · rw [State.takeRsp_mine hmine hreq]
    refine ⟨fun hno => if_pos hno, fun hmatch hlate => ?_, fun hmatch htime => ⟨fun hlong => ?_, fun hshort => ?_⟩⟩
    · rw [if_neg (not_not_intro hmatch), if_pos hlate]
    · rw [if_neg (not_not_intro hmatch), if_neg (Nat.not_lt.2 htime), if_pos hlong]
    · rw [if_neg (not_not_intro hmatch), if_neg (Nat.not_lt.2 htime), if_neg (Int.not_lt.2 hshort)]
      exact State.answers_spec hd hp q

end Sys2Proof.Machine
end

section
/-! PROOFS. Frames and PFC frames that are received, and the timers of frames (R25, R237, R243, R245, R254, R256, R273, R274,
R296, R302, R303, R310). -/

namespace Sys2Proof.Machine

/-! ### A frame at the PCS (R25, R236, R237) -/

/-- A port at which a whole frame ends: the codewords beyond correction are counted. -/
def State.heardLine (s : State) (d p badCw : Nat) : State :=
  (if s.hasFec d p then s.bumpBy (portLoc d p) R.FEC_UNCORR_UNCORR badCw else s).updPort d p (fun x => { x with rxPart := false })

/-- What the end of a frame leaves: but for its port all other ports, and every register but FEC_UNCORR. -/
structure HeardKept (d p : Nat) (s t : State) : Prop where
  rest : { t with freeCtr := s.freeCtr, ports := s.ports, regs := s.regs } = s
  fld : ∀ (l : Nat) (g : Fld), g.off ≠ 0x18 → g.off < 16777216 → t.fld l g = s.fld l g
  port : t.port d p = { s.port d p with rxPart := false }
  others : ∀ e q, portKey e q ≠ portKey d p → t.port e q = s.port e q

theorem HeardKept.heardLine (s : State) (d p badCw : Nat) : HeardKept d p s (s.heardLine d p badCw) := by
  obtain ⟨u, hu⟩ : ∃ u, (if s.hasFec d p then s.bumpBy (portLoc d p) R.FEC_UNCORR_UNCORR badCw else s) = u := ⟨_, rfl⟩
  have hports : u.ports = s.ports := by
    rw [← hu]
    split <;> rfl
  have hrest : { u with regs := s.regs } = s := by
    rw [← hu]
    split <;> rfl
  have hfld : ∀ (l : Nat) (g : Fld), g.off ≠ 0x18 → g.off < 16777216 → u.fld l g = s.fld l g := fun l g h hg => by
    have hapart : R.FEC_UNCORR_UNCORR.apart g = true := by simp [Fld.apart, R.FEC_UNCORR_UNCORR, h]
    rw [← hu]
    split
    · exact State.fld_put_any _ _ _ _ hapart (by decide) hg
    · rfl
  have hport : u.port d p = s.port d p := State.port_congr hports d p
  unfold State.heardLine
  rw [hu]
  refine ⟨?_, fun l g h hg => (State.fld_congr (s := u) rfl rfl l g).trans (hfld l g h hg), ?_, fun e q hne => ?_⟩
  · exact (congrArg (fun y : State => { y with freeCtr := s.freeCtr, ports := s.ports }) hrest).trans rfl
  · rw [State.updPort, State.port_setPort_self, hport]
  · exact (State.port_setPort_ne u _ hne).trans (State.port_congr hports e q)

section
variable {s u t : State} {d p : Nat}

theorem HeardKept.freeNat (h : HeardKept d p s u) : HeardKept d p s u.freeNat.2 :=
  ⟨(congrArg (fun y : State => { y with freeCtr := s.freeCtr }) h.rest :), h.fld, h.port, h.others⟩

/-- A counter of received frames that a port bumps. -/
theorem HeardKept.counted (h : HeardKept d p s u) {f : Fld} (hne : f.off ≠ 0x18) (hoff : f.off < 16777216) (hlen : f.lo + f.len ≤ 32) :
    (u.pbump d p f).pfld d p f = satNat (s.pfld d p f + 1) f.len := by
  have hu : u.fld (portLoc d p) f = s.pfld d p f := h.fld _ _ hne hoff
  show (u.put (portLoc d p) f (satNat (u.fld (portLoc d p) f + 1) f.len)).fld (portLoc d p) f = _
  rw [State.fld_put_self _ _ _ hlen, Nat.mod_eq_of_lt (satNat_lt _ _), hu]

theorem HeardKept.landing (h : HeardKept d p s u) : (u.port d p).landing = (s.port d p).landing := by rw [h.port]

theorem State.pfld_creditSync (s : State) (d p c : Nat) (f : Fld) : (s.creditSync d p c).pfld d p f = s.pfld d p f := by
  unfold State.creditSync
  dsimp only
  split <;> rfl

theorem State.landing_creditSync (s : State) (d p c : Nat) :
    ((s.creditSync d p c).port d p).landing = (s.port d p).landing := by
  have h := (FlowKept.creditSync s d p c).held d p
  simp only [Port.held, Prod.mk.injEq] at h
  exact h.2.1

/-! ### A frame in the landing share (R25, R36, R254, R256) -/

/-- An awake pipeline that no containment discards for takes a frame that comes with no wake and no sleep. -/
structure Hears (u : State) (d p : Nat) : Prop where
  contained : u.contained (pipeLoc d (portClu p)) = false
  attempt : u.attempt d (portClu p) false = none
  awake : u.awake d (portClu p) = true
  plain : u.creditOn d p = false

theorem State.credited_plain (h : u.creditOn d p = false) : u.credited d p = [] := if_neg (by rw [h]; decide)

theorem State.demandWake_awake (h : u.awake d (portClu p) = true) (prio : Nat) : u.demandWake d (portClu p) prio = u := by
  refine if_pos ?_
  unfold State.upOrWaking
  rw [h]
  rfl

theorem Hears.arrive (h : Hears u d p) (c : Nat) (f : Frame) (bad : Bool) (hlen : f.bytes.length ≤ u.maxFrame d p) :
    u.arrive d p c f bad =
      if bad = true then
        if (u.port d p).landing = [] ∧ u.safe = false then u.land d p c { f with bad := true }
        else (u.pbump d p R.RX_ERR_ERRORED).creditSync d p c
      else if u.landFits d p c f.bytes.length = true then (u.land d p c f).heardParent d p f.bytes
      else (u.pbump d p (R.LANDING_DISCARD_COUNT c)).creditSync d p c := by
  have hover : decide (u.maxFrame d p < f.bytes.length) = false := decide_eq_false (Nat.not_lt.2 hlen)
  unfold State.arrive
  dsimp only
  rw [h.contained, if_neg (by decide), State.cancelSleep_none h.attempt, State.demandWake_awake h.awake, hover, h.awake]
  cases bad
  · simp only [Bool.or_self, Bool.false_eq_true, if_false, Bool.not_eq_true']
    cases u.landFits d p c f.bytes.length <;> rfl
  · simp only [Bool.true_or, if_true, Bool.true_and, Bool.and_eq_true, beq_iff_eq, Bool.not_eq_true', Bool.false_eq_true, if_false]

theorem State.land_eq (h : u.creditOn d p = false) (c : Nat) (f : Frame) : ∃ v : Nat, u.land d p c f =
    (u.setPort d p { u.port d p with landing := (u.port d p).landing ++ [f] }).pput d p R.LANDING_OCC_HWM v := by
  unfold State.land
  dsimp only
  rw [State.credited_plain h]
  exact ⟨_, rfl⟩

/-- A frame that lands is the last of its port's landing share; no other port changes. -/
theorem State.land_spec (h : u.creditOn d p = false) (c : Nat) (f : Frame) :
    ((u.land d p c f).port d p).landing = (u.port d p).landing ++ [f] ∧
    (∀ e q, portKey e q ≠ portKey d p → (u.land d p c f).port e q = u.port e q) ∧
    { u.land d p c f with ports := u.ports, regs := u.regs } = u := by
  obtain ⟨v, hv⟩ := State.land_eq h c f
  rw [hv]
  exact ⟨congrArg Port.landing (State.port_setPort_self u d p { u.port d p with landing := (u.port d p).landing ++ [f] }),
    fun e q hne => State.port_setPort_ne u _ hne, rfl⟩

theorem State.heardParent_spec (u : State) (d p : Nat) (bs : List Byte) :
    ((u.heardParent d p bs).port d p).landing = (u.port d p).landing ∧
    (∀ e q, portKey e q ≠ portKey d p → (u.heardParent d p bs).port e q = u.port e q) ∧
    { u.heardParent d p bs with ports := u.ports } = u := by
  unfold State.heardParent
  split
  · exact ⟨rfl, fun _ _ _ => rfl, rfl⟩
  · dsimp only
    split
    · exact ⟨by rw [State.port_setPort_self], fun e q hne => State.port_setPort_ne u _ hne, rfl⟩
    · exact ⟨rfl, fun _ _ _ => rfl, rfl⟩

/-- While the pipeline is awake a landing share keeps no room (R36). -/
theorem State.landFits_awake (h : u.awake d (portClu p) = true) (c len : Nat) : u.landFits d p c len =
    decide (((u.port d p).landing.map (fun f => f.bytes.length)).sum + len ≤ u.landShare d p) := by
  unfold State.landFits
  dsimp only
  rw [h, Bool.true_or, if_pos rfl, Nat.add_zero]

theorem State.landFits_congr {c len : Nat} (hs : Hears s d p) (hu : Hears u d p)
    (hland : (u.port d p).landing = (s.port d p).landing) (hmode : u.unitMode d (p / 4) = s.unitMode d (p / 4)) :
    u.landFits d p c len = s.landFits d p c len := by
  have hshare : u.landShare d p = s.landShare d p := by
    unfold State.landShare
    rw [hmode]
  rw [State.landFits_awake hs.awake, State.landFits_awake hu.awake, hland, hshare]

theorem Hears.heard (hs : Hears s d p) (h : HeardKept d p s u) : Hears u d p := by
  obtain ⟨hcont, hatt, hawake, hplain⟩ := hs
  refine ⟨?_, ?_, ?_, ?_⟩
  · rw [← hcont]
    exact congrArg (fun x : List _ => x.any _) (congrArg (fun y : State => y.faults.conts) h.rest :)
  · rw [← hatt]
    exact congrArg (fun x => Tab.get? x _) (congrArg (fun y : State => y.ledger.sleep) h.rest :)
  · rw [← hawake]
    exact congrArg (· == 1) (h.fld _ _ (by decide) (by decide))
  · rw [← hplain]
    exact congrArg (· == 1) (h.fld _ _ (by decide) (by decide))

/-- The frame that the port has taken in, and the state in which it arrives. -/
def State.taken (s : State) (d p : Nat) (bs : List Byte) (badCw : Nat) : Frame × State :=
  (s.heardLine d p badCw).rxFrame d p bs false

theorem HeardKept.taken (s : State) (d p : Nat) (bs : List Byte) (badCw : Nat) : HeardKept d p s (s.taken d p bs badCw).2 :=
  (HeardKept.heardLine s d p badCw).freeNat

theorem State.taken_frame (s : State) (d p : Nat) (bs : List Byte) (badCw : Nat) :
    let f := (s.taken d p bs badCw).1
    f.bytes = bs ∧ f.die = d ∧ f.port = p ∧ f.bad = false ∧ f.stepGen = (s.tail d).stepGen := by
  refine ⟨rfl, rfl, rfl, rfl, ?_⟩
  exact congrArg Tailstock.stepGen (State.tail_congr (congrArg State.tails (HeardKept.heardLine s d p badCw).rest :) d)

theorem State.rxClass_heard (h : HeardKept d p s u) (bs : List Byte) : u.rxClass d p bs = s.rxClass d p bs := by
  unfold State.rxClass
  rw [h.port]

/-- A whole frame that is bad, or no PFC frame, in UP without an injection. -/
theorem exec_frameReceive_whole {bs : List Byte} {line : RxLine} (hlive : s.portLive d p = true) (hnear : s.nearLoop d p = false)
    (hup : s.pstate d p = psUp) (hpart : line.part = false) (hinj : (s.port d p).inj = none) (hplain : s.creditOn d p = false)
    {bad : Bool} (hbad : (s.lineErr d p bs.length line || false || !fcsOk bs || decide (bs.length < 64)) = bad)
    (hpfc : bad = true ∨ pfcOf bs = none) :
    let f := s.taken d p bs line.badCw
    exec (.frameReceive d p bs line) s = .next ((f.2.arrive d p (s.rxClass d p bs) f.1 bad).withdrawWakes d (portClu p)) := by
  intro f
  obtain ⟨u, hu⟩ : ∃ u, s.heardLine d p line.badCw = u := ⟨_, rfl⟩
  have hkept : HeardKept d p s u := hu ▸ .heardLine s d p _
  have hfkept : HeardKept d p s f.2 := .taken s d p bs line.badCw
  have hfeq : u.rxFrame d p bs false = f := by rw [← hu]; rfl
  have huinj : u.injectFcs d p false = (false, u) := by
    unfold State.injectFcs
    rw [show (u.port d p).inj = none by rw [hkept.port]; exact hinj]
  have hfplain : f.2.creditOn d p = false := by
    rw [← hplain]
    exact congrArg (· == 1) (hfkept.fld _ _ (by decide) (by decide))
  have hrecv : u.receive d p bs (s.lineErr d p bs.length line) =
      (f.2.arrive d p (s.rxClass d p bs) f.1 bad).withdrawWakes d (portClu p) := by
    unfold State.receive
    rw [huinj]
    dsimp only
    rw [hbad, hfeq, State.rxClass_heard hfkept, State.credited_plain hfplain]
    rcases hpfc with hb | hp
    · rw [hb]
      rfl
    · rw [hp]
      cases bad <;> rfl
  rw [← hrecv, ← hu]
  show execFrameReceive d p bs line s = _
  unfold execFrameReceive
  rw [if_neg (by rw [hlive, hnear]; simp), if_neg (fun hc => hc.1 hup), hpart, if_neg (by decide)]
  dsimp only
  rw [if_neg (by rw [hup]; decide)]
  rfl

theorem State.withdrawWakes_port (u : State) (d k e q : Nat) : (u.withdrawWakes d k).port e q = u.port e q :=
  State.port_congr (congrArg State.ports (u.withdrawWakes_rest d k) :) e q

theorem State.withdrawWakes_pfld (u : State) (d k e q : Nat) (g : Fld) : (u.withdrawWakes d k).pfld e q g = u.pfld e q g :=
  State.fld_congr (congrArg State.regs (u.withdrawWakes_rest d k) :) (congrArg State.part (u.withdrawWakes_rest d k) :) _ g

/-- A frame that only counts. -/
theorem HeardKept.dropped (h : HeardKept d p s u) (c k : Nat) {f : Fld} (hne : f.off ≠ 0x18) (hoff : f.off < 16777216)
    (hlen : f.lo + f.len ≤ 32) :
    let t := ((u.pbump d p f).creditSync d p c).withdrawWakes d k
    t.pfld d p f = satNat (s.pfld d p f + 1) f.len ∧ (t.port d p).landing = (s.port d p).landing := by
  intro t
  have hport : (u.pbump d p f).port d p = u.port d p := rfl
  rw [State.withdrawWakes_pfld, State.withdrawWakes_port, State.pfld_creditSync, State.landing_creditSync, hport]
  exact ⟨h.counted hne hoff hlen, h.landing⟩

/-- A frame that is taken in and lands. -/
theorem HeardKept.landed (h : HeardKept d p s u) (hplain : u.creditOn d p = false) (c k : Nat) (f : Frame) (bs : List Byte) :
    let t := ((u.land d p c f).heardParent d p bs).withdrawWakes d k
    (t.port d p).landing = (s.port d p).landing ++ [f] ∧ (∀ e q, portKey e q ≠ portKey d p → t.port e q = s.port e q) ∧
    { t with freeCtr := s.freeCtr, ports := s.ports, regs := s.regs, ledger := s.ledger } = s := by
  intro t
  obtain ⟨v, hv⟩ : ∃ v, u.land d p c f = v := ⟨_, rfl⟩
  obtain ⟨w, hw⟩ : ∃ w, v.heardParent d p bs = w := ⟨_, rfl⟩
  obtain ⟨hland, hlo, hlr⟩ := State.land_spec hplain c f
  obtain ⟨hheard, hho, hhr⟩ := v.heardParent_spec d p bs
  rw [hv] at hland hlo hlr
  rw [hw] at hheard hho hhr
  have ht : t = w.withdrawWakes d k := by rw [← hw, ← hv]
  have htr := w.withdrawWakes_rest d k
  rw [← ht] at htr
  have htp : ∀ e q, t.port e q = w.port e q := fun e q => State.port_congr (congrArg State.ports htr :) e q
  refine ⟨?_, fun e q hne => ?_, ?_⟩
  · rw [htp, hheard, hland, h.landing]
  · rw [htp, hho e q hne, hlo e q hne, h.others e q hne]
  · have h1 : { w with ports := u.ports, regs := u.regs } = u :=
      (congrArg (fun y : State => { y with ports := u.ports, regs := u.regs }) hhr).trans hlr
    have h2 : { t with ports := u.ports, regs := u.regs, ledger := u.ledger } = u :=
      (congrArg (fun y : State => { y with ports := u.ports, regs := u.regs, ledger := u.ledger }) htr).trans
        (congrArg (fun y : State => { y with ledger := u.ledger }) h1)
    exact (congrArg (fun y : State => { y with freeCtr := s.freeCtr, ports := s.ports, regs := s.regs, ledger := s.ledger }) h2).trans
      (congrArg (fun y : State => { y with ledger := s.ledger }) h.rest)

theorem State.lineErr_clean {line : RxLine} (len : Nat) (hinj : (s.port d p).inj = none)
    (hheads : ∀ h ∈ line.heads, h = 1 ∨ h = 2) (hcw : line.badCw = 0) (hloss : (s.port d p).lossAt = none) :
    s.lineErr d p len line = false := by
  have hany : line.heads.any (fun h => h != 1 && h != 2) = false := by
    rw [List.any_eq_false]
    intro h hh
    rcases hheads h hh with rfl | rfl <;> decide
  unfold State.lineErr State.injectHit
  rw [hany, hcw, hloss, hinj]
  simp

/-- Reception in UP, with the pipeline awake. -/
theorem frameReceive_up (hs : Hears s d p) (hlive : s.portLive d p = true) (hnear : s.nearLoop d p = false)
    (hup : s.pstate d p = psUp) (hinj : (s.port d p).inj = none) (bs : List Byte) (line : RxLine)
    (hlen : bs.length ≤ s.maxFrame d p) (hpart : line.part = false) :
    let x := s.port d p
    let c := s.rxClass d p bs
    let err := s.lineErr d p bs.length line
    (err = false → fcsOk bs = true → 64 ≤ bs.length → pfcOf bs = none →
      (s.landFits d p c bs.length = true → ∃ (t : State) (f : Frame), exec (.frameReceive d p bs line) s = .next t ∧
        (t.port d p).landing = x.landing ++ [f] ∧ f.bytes = bs ∧ f.die = d ∧ f.port = p ∧ f.bad = false ∧
        f.stepGen = (s.tail d).stepGen ∧ (∀ e q, portKey e q ≠ portKey d p → t.port e q = s.port e q) ∧
        { t with freeCtr := s.freeCtr, ports := s.ports, regs := s.regs, ledger := s.ledger } = s) ∧
      (s.landFits d p c bs.length = false → ∃ t : State, exec (.frameReceive d p bs line) s = .next t ∧
        t.pfld d p (R.LANDING_DISCARD_COUNT c) = satNat (s.pfld d p (R.LANDING_DISCARD_COUNT c) + 1)
          (R.LANDING_DISCARD_COUNT c).len ∧ (t.port d p).landing = x.landing)) ∧
    (err = true ∨ fcsOk bs = false ∨ bs.length < 64 →
      (x.landing ≠ [] ∨ s.safe = true → ∃ t : State, exec (.frameReceive d p bs line) s = .next t ∧
        t.pfld d p R.RX_ERR_ERRORED = satNat (s.pfld d p R.RX_ERR_ERRORED + 1) R.RX_ERR_ERRORED.len ∧
        (t.port d p).landing = x.landing) ∧
      (x.landing = [] → s.safe = false → ∃ (t : State) (f : Frame), exec (.frameReceive d p bs line) s = .next t ∧
        (t.port d p).landing = [f] ∧ f.bytes = bs ∧ f.bad = true)) := by
  intro x c err
  obtain ⟨f, hf⟩ : ∃ f, s.taken d p bs line.badCw = f := ⟨_, rfl⟩
  have hkept : HeardKept d p s f.2 := hf ▸ .taken s d p bs line.badCw
  obtain ⟨hbytes, hdie, hport, hgood, hgen⟩ := s.taken_frame d p bs line.badCw
  rw [hf] at hbytes hdie hport hgood hgen
  have hears := hs.heard hkept
  have hmax : f.1.bytes.length ≤ f.2.maxFrame d p := by
    rw [hbytes, show f.2.maxFrame d p = s.maxFrame d p from hkept.fld _ _ (by decide) (by decide)]
    exact hlen
  have hrun : ∀ bad, (err || false || !fcsOk bs || decide (bs.length < 64)) = bad → bad = true ∨ pfcOf bs = none →
      exec (.frameReceive d p bs line) s = .next ((f.2.arrive d p c f.1 bad).withdrawWakes d (portClu p)) := fun bad hb hp =>
    hf ▸ exec_frameReceive_whole hlive hnear hup hpart hinj hs.plain hb hp
  have hcls : c < 16 := by
    show (if _ then bits _ _ 4 else 0) < 16
    split
    · exact Nat.mod_lt _ (by decide)
    · decide
  have hfits : f.2.landFits d p c f.1.bytes.length = s.landFits d p c bs.length := by
    rw [hbytes]
    exact State.landFits_congr hs hears hkept.landing (hkept.fld _ _ (by decide) (by decide))
  have hsafe : f.2.safe = s.safe := congrArg (· == 1) (hkept.fld _ _ (by decide) (by decide))
  refine ⟨fun herr hfcs hmin hpfc => ?_, fun hbad => ?_⟩
  · have hr := hrun false (by rw [herr, hfcs, decide_eq_false (Nat.not_lt.2 hmin)]; rfl) (.inr hpfc)
    rw [hears.arrive c f.1 false hmax, if_neg (by decide), hfits] at hr
    refine ⟨fun hroom => ?_, fun hfull => ?_⟩
    · rw [if_pos hroom] at hr
      obtain ⟨hland, hothers, hrest⟩ := hkept.landed hears.plain c (portClu p) f.1 f.1.bytes
      exact ⟨_, f.1, hr, hland, hbytes, hdie, hport, hgood, hgen, hothers, hrest⟩
    · rw [if_neg (by rw [hfull]; decide)] at hr
      refine ⟨_, hr, hkept.dropped c (portClu p) ?_ ?_ (show 0 + 32 ≤ 32 by decide)⟩
      · show 0x40 + 4 * c ≠ 0x18
        omega
      · show 0x40 + 4 * c < 16777216
        omega
  · have hr := hrun true (by rcases hbad with h | h | h <;> simp [h]) (.inl rfl)
    rw [hears.arrive c f.1 true hmax, if_pos rfl, hkept.landing, hsafe] at hr
    refine ⟨fun hbehind => ?_, fun hfront hunsafe => ?_⟩
    · rw [if_neg (by rintro ⟨h1, h2⟩; rcases hbehind with h | h; exact h h1; rw [h2] at h; cases h)] at hr
      exact ⟨_, hr, hkept.dropped c (portClu p) (by decide) (by decide) (by decide)⟩
    · rw [if_pos ⟨hfront, hunsafe⟩] at hr
      obtain ⟨hland, -, -⟩ := State.land_spec hears.plain c { f.1 with bad := true }
      refine ⟨_, { f.1 with bad := true }, hr, ?_, hbytes, rfl⟩
      rw [State.withdrawWakes_port, hland, hkept.landing]
      exact congrArg (· ++ _) hfront

/-! ### A port that hears no frame, or only parts (R243, R245, R251, R254) -/

theorem exec_frameReceive_deaf {bs : List Byte} {line : RxLine} (h : s.portLive d p = false ∨ s.nearLoop d p = true ∨
    s.pstate d p ≠ psRemote ∧ s.pstate d p ≠ psUp) : exec (.frameReceive d p bs line) s = .next s := by
  show execFrameReceive d p bs line s = _
  unfold execFrameReceive
  by_cases hc : (!s.portLive d p) = true ∨ s.nearLoop d p = true
  · rw [if_pos hc]
  · rw [if_neg hc, if_pos]
    rcases h with h | h | h
    · exact absurd (.inl (by rw [h]; rfl)) hc
    · exact absurd (.inr h) hc
    · exact ⟨h.2, h.1⟩

section
variable {bs : List Byte} {line : RxLine} (hlive : s.portLive d p = true) (hnear : s.nearLoop d p = false)
include hlive hnear

theorem exec_frameReceive_part (hst : s.pstate d p = psRemote ∨ s.pstate d p = psUp) (hpart : line.part = true) :
    exec (.frameReceive d p bs line) s = .next (s.updPort d p (fun y => { y with rxPart := s.pstate d p == psUp })) := by
  show execFrameReceive d p bs line s = _
  unfold execFrameReceive
  rw [if_neg (by rw [hlive, hnear]; simp), if_neg (by tauto), hpart]
  exact if_pos rfl

theorem frameReceive_remote (hst : s.pstate d p = psRemote) (hpart : line.part = false) : ∃ t : State,
    exec (.frameReceive d p bs line) s = .next t ∧
      (t.pfld d p R.RX_ERR_ERRORED = satNat (s.pfld d p R.RX_ERR_ERRORED + 1) R.RX_ERR_ERRORED.len ∧
        (t.port d p).landing = (s.port d p).landing) ∧ { t with regs := s.regs, ports := s.ports } = s := by
  have hkept := HeardKept.heardLine s d p line.badCw
  have hfree : (s.heardLine d p line.badCw).freeCtr = s.freeCtr := by
    unfold State.heardLine
    split <;> rfl
  refine ⟨(s.heardLine d p line.badCw).pbump d p R.RX_ERR_ERRORED, ?_, ⟨hkept.counted (by decide) (by decide) (by decide),
    hkept.landing⟩, ?_⟩
  · show execFrameReceive d p bs line s = _
    unfold execFrameReceive
    rw [if_neg (by rw [hlive, hnear]; simp), if_neg (fun hc => hc.2 hst), hpart, if_neg (by decide)]
    dsimp only
    rw [if_pos hst]
    rfl
  · have h := hkept.rest
    rw [← hfree] at h
    exact h

end

end

end Sys2Proof.Machine
end

section
/-! PROOFS. PFC pauses, and the timers of frames (R273, R274, R302, R303, R310). -/

namespace Sys2Proof.Machine

/-! ### PFC frames (R302, R303) -/

section
variable {s u : State} {d p : Nat}

/-- A priority that a PFC frame names is paused, or runs again. -/
theorem State.pause_pfcOne (u : State) (d p i v : Nat) (h : Tab.wf (u.port d p).pause = true) :
    Tab.wf ((u.pfcOne d p i v).port d p).pause = true ∧ ∀ j, Tab.get? ((u.pfcOne d p i v).port d p).pause j =
      if j = i then if v = 0 then none else some (u.now + u.quantaTicks d p v) else Tab.get? (u.port d p).pause j := by
  have hput : ∀ (x : Port) (f : Fld) (b : Nat), ((u.setPort d p x).pput d p f b).port d p = x := fun x f b =>
    State.port_setPort_self u d p x
  unfold State.pfcOne
  dsimp only
  by_cases hv : v = 0
  · rw [if_pos hv, hput]
    refine ⟨Tab.del_wf i h, fun j => ?_⟩
    by_cases hj : j = i
    · rw [if_pos hj, if_pos hv, hj]
      exact Tab.get?_del_self i h
    · rw [if_neg hj]
      exact Tab.get?_del_ne _ hj
  · rw [if_neg hv, hput]
    refine ⟨Tab.set_wf i _ h, fun j => ?_⟩
    by_cases hj : j = i
    · rw [if_pos hj, if_neg hv, hj]
      exact Tab.get?_set_self _ _ _
    · rw [if_neg hj]
      exact Tab.get?_set_ne _ _ hj

/-- What a PFC frame leaves: the time, the rate of the ports, and its own count. -/
structure PfcKept (d p : Nat) (s t : State) : Prop where
  rest : { t with regs := s.regs, ports := s.ports } = s
  quanta : ∀ q, t.quantaTicks d p q = s.quantaTicks d p q
  count : t.pfld d p R.PFC_STAT_PFC_RX = s.pfld d p R.PFC_STAT_PFC_RX

theorem PfcKept.refl (s : State) : PfcKept d p s s := ⟨rfl, fun _ => rfl, rfl⟩

theorem PfcKept.trans {t : State} (h : PfcKept d p s t) (k : PfcKept d p t u) : PfcKept d p s u := by
  refine ⟨?_, fun q => (k.quanta q).trans (h.quanta q), k.count.trans h.count⟩
  exact (congrArg (fun y : State => { y with regs := s.regs, ports := s.ports }) k.rest).trans h.rest

/-- The rate of a port, and so the ticks of a quantum, stays under a write from offset 0x300 on. -/
theorem State.quantaTicks_put (u : State) (loc : Nat) {f : Fld} (v : Nat) (h : 0x300 ≤ f.off) (hoff : f.off < 16777216) (q : Nat) :
    (u.put loc f v).quantaTicks d p q = u.quantaTicks d p q := by
  have hmode : ∀ l (g : Fld), g.off = 0 → (u.put loc f v).fld l g = u.fld l g := fun l g hg => by
    refine State.fld_put_any _ _ _ _ ?_ hoff (by omega)
    have hne : g.off ≠ f.off := by omega
    simp [Fld.apart, hne]
  have hrate : (u.put loc f v).rate d p = u.rate d p := by
    unfold State.rate State.unitMode
    rw [hmode _ _ rfl, hmode _ _ rfl]
  unfold State.quantaTicks
  rw [hrate]

theorem PfcKept.pfcOne (u : State) (d p : Nat) {i : Nat} (hi : i < 8) (v : Nat) : PfcKept d p u (u.pfcOne d p i v) := by
  have hput : ∀ (x : Port) (b : Nat), PfcKept d p u ((u.setPort d p x).pput d p ⟨0x818, 8 + i, 1⟩ b) := fun x b => by
    have hcount : ((u.setPort d p x).pput d p ⟨0x818, 8 + i, 1⟩ b).pfld d p R.PFC_STAT_PFC_RX =
        (u.setPort d p x).pfld d p R.PFC_STAT_PFC_RX :=
      State.fld_put_field _ _ _ (show 8 + i + 1 ≤ 32 by omega) rfl (.inr (show 8 + i + 1 ≤ 16 by omega))
    exact ⟨rfl, fun q => (State.quantaTicks_put _ _ _ (show 0x300 ≤ 0x818 by decide) (show 0x818 < 16777216 by decide) q).trans rfl,
      hcount⟩
  unfold State.pfcOne
  dsimp only
  split
  · exact hput _ _
  · exact hput _ _

/-- The priorities that a PFC frame names, in their order. -/
theorem State.pauses_spec (qs : List Nat) : ∀ (l : List Nat) (u : State), (∀ i ∈ l, i < 8) → Tab.wf (u.port d p).pause = true →
    PfcKept d p u (l.foldl (fun s i => s.pfcOne d p i (qs.getD i 0)) u) ∧
    ∀ j, Tab.get? ((l.foldl (fun s i => s.pfcOne d p i (qs.getD i 0)) u).port d p).pause j =
      if j ∈ l then if qs.getD j 0 = 0 then none else some (u.now + u.quantaTicks d p (qs.getD j 0))
      else Tab.get? (u.port d p).pause j := by
  intro l
  induction l with
  | nil => exact fun u _ _ => ⟨.refl u, fun j => rfl⟩
  | cons i l ih =>
    intro u hl hwf
    obtain ⟨hwf', hone⟩ := u.pause_pfcOne d p i (qs.getD i 0) hwf
    have hkept := PfcKept.pfcOne u d p (hl i (.head _)) (qs.getD i 0)
    obtain ⟨hrest, hall⟩ := ih (u.pfcOne d p i (qs.getD i 0)) (fun j hj => hl j (.tail _ hj)) hwf'
    refine ⟨hkept.trans hrest, fun j => ?_⟩
    have hnow : (u.pfcOne d p i (qs.getD i 0)).now = u.now := State.now_congr (congrArg State.tails hkept.rest :)
    rw [List.foldl_cons, hall j, hnow, hkept.quanta, hone j]
    by_cases hj : j ∈ l
    · rw [if_pos hj, if_pos (List.mem_cons_of_mem _ hj)]
    · rw [if_neg hj]
      by_cases hji : j = i
      · rw [if_pos hji, if_pos (show j ∈ i :: l from hji ▸ List.mem_cons_self), hji]
      · rw [if_neg hji, if_neg (by simp [hj, hji])]

theorem exec_pfcFrameReceive_deaf {en : Nat} {qs : List Nat} (h : s.portLive d p = false ∨ s.pstate d p ≠ psUp ∨
    s.nearLoop d p = true ∨ (s.port d p).lossAt ≠ none) : exec (.pfcFrameReceive d p en qs) s = .next s := by
  refine congrArg Host.Outcome.next (if_neg ?_)
  simp only [Bool.and_eq_true, beq_iff_eq, Bool.not_eq_true', Option.isNone_iff_eq_none]
  rintro ⟨⟨⟨h1, h2⟩, h3⟩, h4⟩
  rcases h with h | h | h | h
  · exact absurd (h1.symm.trans h) (by decide)
  · exact h h2
  · exact absurd (h3.symm.trans h) (by decide)
  · exact h h4

theorem pfcFrameReceive_spec (en : Nat) (qs : List Nat) (hlive : s.portLive d p = true) (hup : s.pstate d p = psUp)
    (hnear : s.nearLoop d p = false) (hloss : (s.port d p).lossAt = none) (hwf : Tab.wf (s.port d p).pause = true) :
    let x := s.port d p
    ∃ t : State, exec (.pfcFrameReceive d p en qs) s = .next t ∧
      t.pfld d p R.PFC_STAT_PFC_RX = satNat (s.pfld d p R.PFC_STAT_PFC_RX + 1) R.PFC_STAT_PFC_RX.len ∧
      (∀ i, i < 8 → Tab.get? (t.port d p).pause i = (if bit en i = false then Tab.get? x.pause i
        else if qs.getD i 0 = 0 then none else some (s.now + s.quantaTicks d p (qs.getD i 0)))) ∧
      { t with regs := s.regs, ports := s.ports } = s := by
  intro x
  obtain ⟨u, hu⟩ : ∃ u, s.pbump d p R.PFC_STAT_PFC_RX = u := ⟨_, rfl⟩
  have hcount : u.pfld d p R.PFC_STAT_PFC_RX = satNat (s.pfld d p R.PFC_STAT_PFC_RX + 1) R.PFC_STAT_PFC_RX.len :=
    hu ▸ (State.fld_put_self _ _ _ (by decide)).trans (Nat.mod_eq_of_lt (satNat_lt _ _))
  have hquanta : ∀ q, u.quantaTicks d p q = s.quantaTicks d p q := fun q =>
    hu ▸ State.quantaTicks_put s _ _ (by decide) (by decide) q
  have hurest : { u with regs := s.regs } = s := hu ▸ rfl
  have huport : u.port d p = x := hu ▸ rfl
  have hunow : u.now = s.now := hu ▸ rfl
  obtain ⟨hkept, hpause⟩ := State.pauses_spec (d := d) (p := p) qs (bitList en 8) u
    (fun i hi => List.mem_range.1 (List.mem_filter.1 hi).1) (by rw [huport]; exact hwf)
  obtain ⟨t, ht⟩ : ∃ t, (bitList en 8).foldl (fun s i => s.pfcOne d p i (qs.getD i 0)) u = t := ⟨_, rfl⟩
  rw [ht] at hkept hpause
  refine ⟨t, ?_, hkept.count.trans hcount, fun i hi => ?_, ?_⟩
  · rw [← ht, ← hu]
    exact congrArg Host.Outcome.next (if_pos (by rw [hlive, hup, hnear, hloss]; rfl))
  · rw [hpause i, hunow, hquanta, huport]
    have hmem : i ∈ bitList en 8 ↔ bit en i = true := by simp [bitList, hi]
    cases hb : bit en i
    · rw [if_neg (by rw [hmem, hb]; decide), if_pos rfl]
    · rw [if_pos (hmem.2 hb), if_neg (show ¬ (true = false) by decide)]
  · exact (congrArg (fun y : State => { y with regs := s.regs, ports := s.ports }) hkept.rest).trans
      ((congrArg (fun y : State => { y with ports := s.ports }) hurest).trans rfl)

theorem exec_pfcPauseExpiry_none {i : Nat} (h : Tab.get? (s.port d p).pause i = none) :
    exec (.pfcPauseExpiry d p i) s = .next s := by
  show execPfcPauseExpiry d p i s = _
  unfold execPfcPauseExpiry
  rw [h]

theorem pfcPauseExpiry_spec {i : Nat} (hi : i < 8) (t0 : Nat) (h : Tab.get? (s.port d p).pause i = some t0)
    (hwf : Tab.wf (s.port d p).pause = true) : ∃ t : State, exec (.pfcPauseExpiry d p i) s = .next t ∧
      Tab.get? (t.port d p).pause i = none ∧ t.pfld d p ⟨0x818, 8 + i, 1⟩ = 0 ∧ t0 ≤ t.now ∧
      { t with tails := s.tails, regs := s.regs, ports := s.ports } = s := by
  obtain ⟨u, hu⟩ : ∃ u, s.advanceTo t0 = u := ⟨_, rfl⟩
  have huwf : Tab.wf (u.port d p).pause = true := hu ▸ hwf
  have hurest : { u with tails := s.tails } = s := hu ▸ rfl
  have hunow : t0 ≤ u.now := by
    rw [← hu, State.now_advanceTo]
    exact Nat.le_max_right _ _
  obtain ⟨-, hone⟩ := u.pause_pfcOne d p i 0 huwf
  have hkept := PfcKept.pfcOne u d p hi 0
  refine ⟨u.pfcOne d p i 0, ?_, ?_, ?_, ?_, ?_⟩
  · rw [← hu]
    show execPfcPauseExpiry d p i s = _
    unfold execPfcPauseExpiry
    rw [h]
  · rw [hone i, if_pos rfl, if_pos rfl]
  · exact State.fld_put_self _ _ _ (show 8 + i + 1 ≤ 32 by omega)
  · rw [State.now_congr (s := u) (t := u.pfcOne d p i 0) (congrArg State.tails hkept.rest :)]
    exact hunow
  · exact (congrArg (fun y : State => { y with tails := s.tails, regs := s.regs, ports := s.ports }) hkept.rest).trans
      ((congrArg (fun y : State => { y with regs := s.regs, ports := s.ports }) hurest).trans rfl)

theorem exec_pfcRefresh_none {i : Nat} (h : Tab.get? (s.port d p).xoffAt i = none) :
    exec (.pfcRefresh d p i) s = .next s := by
  show execPfcRefresh d p i s = _
  unfold execPfcRefresh
  rw [h]

/-- An XOFF that is sent, at once or behind the frame in transmission. -/
theorem State.sendXoff_spec (u : State) (d p i : Nat) (hnear : u.nearLoop d p = false) :
    let t := u.sendPfc d p i 0xFFFF
    ((u.port d p).sending = none → t.sent = .pfc d p i 0xFFFF :: u.sent) ∧
    ((u.port d p).sending ≠ none → t.sent = u.sent ∧ (t.port d p).ctl = (u.port d p).ctl ++ [.pfc i 0xFFFF]) ∧
    Tab.get? (t.port d p).xoffAt i = some u.now ∧ { t with ports := u.ports, sent := u.sent } = u := by
  intro t
  obtain ⟨v, hv⟩ : ∃ v, u.setPort d p { u.port d p with xoffAt := Tab.set (u.port d p).xoffAt i u.now } = v := ⟨_, rfl⟩
  have hvport : v.port d p = { u.port d p with xoffAt := Tab.set (u.port d p).xoffAt i u.now } :=
    hv ▸ State.port_setPort_self u d p _
  have hvsent : v.sent = u.sent := hv ▸ rfl
  have hvrest : { v with ports := u.ports } = u := hv ▸ rfl
  have hvnear : v.nearLoop d p = false := hv ▸ hnear
  have ht : t = if (u.port d p).sending.isSome then v.setPort d p { v.port d p with ctl := (v.port d p).ctl ++ [.pfc i 0xFFFF] }
      else v.send (.pfc d p i 0xFFFF) := by
    have h1 : t = v.sendCtl d p (.pfc i 0xFFFF) := hv ▸ rfl
    have h2 : (v.port d p).sending = (u.port d p).sending := by rw [hvport]
    rw [h1, State.sendCtl, h2]
    unfold State.emitCtl
    dsimp only
    rw [hvnear]
    rfl
  cases hs : (u.port d p).sending with
  | none =>
    rw [hs] at ht
    have ht' : t = v.send (.pfc d p i 0xFFFF) := ht
    rw [ht']
    refine ⟨fun _ => congrArg (_ :: ·) hvsent, fun hc => absurd rfl hc, ?_, ?_⟩
    · show Tab.get? (v.port d p).xoffAt i = _
      rw [hvport]
      exact Tab.get?_set_self _ _ _
    · exact (congrArg (fun y : State => { y with sent := u.sent }) hvrest).trans rfl
  | some e =>
    rw [hs] at ht
    have ht' : t = v.setPort d p { v.port d p with ctl := (v.port d p).ctl ++ [.pfc i 0xFFFF] } := ht
    rw [ht', State.port_setPort_self, hvport]
    refine ⟨fun hc => (by cases hc), fun _ => ⟨hvsent, rfl⟩, Tab.get?_set_self _ _ _, ?_⟩
    exact (congrArg (fun y : State => { y with sent := u.sent }) hvrest).trans rfl

theorem pfcRefresh_spec {i : Nat} (t0 : Nat) (h : Tab.get? (s.port d p).xoffAt i = some t0) (hnear : s.nearLoop d p = false) :
    let x := s.port d p
    ∃ t : State, exec (.pfcRefresh d p i) s = .next t ∧
      (x.sending = none → t.sent = .pfc d p i 0xFFFF :: s.sent) ∧
      (x.sending ≠ none → t.sent = s.sent ∧ (t.port d p).ctl = x.ctl ++ [.pfc i 0xFFFF]) ∧
      Tab.get? (t.port d p).xoffAt i = some t.now ∧
      t0 + s.quantaTicks d p 32768 ≤ t.now ∧ { t with tails := s.tails, ports := s.ports, sent := s.sent } = s := by
  intro x
  obtain ⟨u, hu⟩ : ∃ u, s.advanceTo (t0 + s.quantaTicks d p 32768) = u := ⟨_, rfl⟩
  have hunear : u.nearLoop d p = false := hu ▸ hnear
  have huport : u.port d p = x := hu ▸ rfl
  have husent : u.sent = s.sent := hu ▸ rfl
  have hurest : { u with tails := s.tails } = s := hu ▸ rfl
  have hunow : t0 + s.quantaTicks d p 32768 ≤ u.now := by
    rw [← hu, State.now_advanceTo]
    exact Nat.le_max_right _ _
  obtain ⟨hidle, hbusy, hxoff, hrest⟩ := u.sendXoff_spec d p i hunear
  obtain ⟨t, ht⟩ : ∃ t, u.sendPfc d p i 0xFFFF = t := ⟨_, rfl⟩
  rw [ht] at hidle hbusy hxoff hrest
  rw [huport, husent] at hidle hbusy
  have htnow : t.now = u.now := State.now_congr (congrArg State.tails hrest :)
  refine ⟨t, ?_, hidle, hbusy, ?_, ?_, ?_⟩
  · rw [← ht, ← hu]
    show execPfcRefresh d p i s = _
    unfold execPfcRefresh
    rw [h]
  · rw [htnow]
    exact hxoff
  · rw [htnow]
    exact hunow
  · exact (congrArg (fun y : State => { y with tails := s.tails, ports := s.ports, sent := s.sent }) hrest).trans
      ((congrArg (fun y : State => { y with ports := s.ports, sent := s.sent }) hurest).trans rfl)

/-! ### The end of a flap hold (R310) -/

theorem FlowKept.releaseCount (u : State) (d p fid : Nat) (f : Fld) :
    ∀ e q, (((u.releaseRef d fid).pbump d p f).port e q).held = (u.port e q).held := by
  intro e q
  show ((u.releaseRef d fid).port e q).held = _
  unfold State.releaseRef
  split
  · rfl
  · split
    · rfl
    · exact (FlowKept.ingressRelease _ d _).held e q

theorem State.held_foldl {α : Type} {f : State → α → State} {e q : Nat}
    (h : ∀ s x, ((f s x).port e q).held = (s.port e q).held) (l : List α) (s : State) :
    ((l.foldl f s).port e q).held = (s.port e q).held := by
  induction l generalizing s with
  | nil => rfl
  | cons x l ih => exact (ih _).trans (h s x)

theorem State.releaseCount_tails (u : State) (d p fid : Nat) (f : Fld) : ((u.releaseRef d fid).pbump d p f).tails = u.tails :=
  (PortKept.flowReleaseRef 0 0 u d fid).tails

/-- A flush leaves no frame queued, and no time passes. -/
theorem State.flushPort_spec (s : State) (d p : Nat) :
    ((s.flushPort d p).port d p).queue = [] ∧ ((s.flushPort d p).port d p).hostQ = [] ∧ (s.flushPort d p).tails = s.tails := by
  obtain ⟨u, hu⟩ : ∃ u, (s.dropQueued d p (fun _ => true) R.QUE_DISCARD_FLUSHED).1 = u := ⟨_, rfl⟩
  have htails : ∀ (l : List QEnt) (t : State), (l.foldl (fun s e => (s.releaseRef d e.fid).pbump d p (R.QUE_DISCARD_FLUSHED e.cls)) t).tails =
      t.tails := fun l t => foldl_keeps (P := fun v : State => v.tails = t.tails)
    (fun v e hv => (State.releaseCount_tails v d p e.fid _).trans hv) l rfl
  have huqueue : (u.port d p).queue = [] := by
    rw [← hu]
    have h := State.held_foldl (e := d) (q := p) (fun s (e : QEnt) => FlowKept.releaseCount s d p e.fid (R.QUE_DISCARD_FLUSHED e.cls) d p)
      ((s.port d p).queue.filter (fun _ => true)) (s.setPort d p { s.port d p with queue := (s.port d p).queue.filter (fun _ => !true) })
    have h1 := congrArg (fun x => x.1.1) h
    refine h1.trans ?_
    rw [State.port_setPort_self]
    simp [Port.held]
  have hutails : u.tails = s.tails := by
    rw [← hu]
    exact (htails _ _).trans rfl
  obtain ⟨v, hv⟩ : ∃ v, u.setPort d p { u.port d p with hostQ := [] } = v := ⟨_, rfl⟩
  have hvport : v.port d p = { u.port d p with hostQ := [] } := hv ▸ State.port_setPort_self u d p _
  have hvtails : v.tails = u.tails := hv ▸ rfl
  have hrun : s.flushPort d p =
      (s.port d p).hostQ.foldl (fun s h => (s.releaseRef d h.fid).pbump d p (R.QUE_DISCARD_FLUSHED h.cls)) v := by
    unfold State.flushPort
    dsimp only
    rw [hu, hv]
  have hheld := State.held_foldl (e := d) (q := p) (fun s (h : HostFrame) => FlowKept.releaseCount s d p h.fid
    (R.QUE_DISCARD_FLUSHED h.cls) d p) (s.port d p).hostQ v
  rw [← hrun, hvport] at hheld
  refine ⟨?_, ?_, ?_⟩
  · exact (congrArg (fun x => x.1.1) hheld).trans huqueue
  · exact congrArg (fun x => x.1.2) hheld
  · rw [hrun]
    exact (foldl_keeps (P := fun w : State => w.tails = v.tails)
      (fun w h hw => (State.releaseCount_tails w d p h.fid _).trans hw) _ rfl).trans (hvtails.trans hutails)

theorem exec_flapHoldExpiry_none (h : (s.port d p).holdEnd = none) : exec (.flapHoldExpiry d p) s = .next s := by
  show execFlapHoldExpiry d p s = _
  unfold execFlapHoldExpiry
  rw [h]

theorem flapHoldExpiry_spec (t0 : Nat) (h : (s.port d p).holdEnd = some t0) : ∃ u v : State,
    exec (.flapHoldExpiry d p) s = .next (u.afterRelease v d) ∧
      (u.port d p).queue = [] ∧ (u.port d p).hostQ = [] ∧ (u.port d p).holdEnd = none ∧ t0 ≤ u.now := by
  obtain ⟨v, hv⟩ : ∃ v, s.advanceTo t0 = v := ⟨_, rfl⟩
  have hvnow : t0 ≤ v.now := by
    rw [← hv, State.now_advanceTo]
    exact Nat.le_max_right _ _
  obtain ⟨hqueue, hhost, htails⟩ := v.flushPort_spec d p
  obtain ⟨w, hw⟩ : ∃ w, v.flushPort d p = w := ⟨_, rfl⟩
  rw [hw] at hqueue hhost htails
  have hport : (w.endHold d p).port d p = { w.port d p with holdEnd := none } := State.port_setPort_self w d p _
  refine ⟨w.endHold d p, v, ?_, ?_, ?_, ?_, ?_⟩
  · rw [← hw, ← hv]
    show execFlapHoldExpiry d p s = _
    unfold execFlapHoldExpiry
    rw [h]
  · rw [hport]
    exact hqueue
  · rw [hport]
    exact hhost
  · rw [hport]
  · rw [show (w.endHold d p).now = w.now from rfl, State.now_congr htails]
    exact hvnow

/-! ### Recovery streams and duplicate entries (R273, R274) -/

section
variable {st : Nat}

theorem exec_frerResetTimeout_none (h : (s.liveTbl d 4).find? (fun e => e.idx == st) = none) :
    exec (.frerResetTimeout d st) s = .next s := by
  show execFrerResetTimeout d st s = _
  unfold execFrerResetTimeout
  dsimp only
  rw [h]

theorem exec_frerResetTimeout {e : TEnt} (h : (s.liveTbl d 4).find? (fun e => e.idx == st) = some e) :
    exec (.frerResetTimeout d st) s =
      if byteAt e.res 0 1 ≠ 2 ∨ (s.stream d st).fresh = true ∨ (Tab.get? (s.die d).streams st).isNone = true then .next s
      else .next ((s.advanceTo ((s.stream d st).last + 625000 * byteAt e.res 2 2)).setStream d st
        { s.stream d st with fresh := true, seen := [], high := 0 }) := by
  show execFrerResetTimeout d st s = _
  unfold execFrerResetTimeout
  dsimp only
  rw [h]

theorem frerResetTimeout_spec {e : TEnt} (h : (s.liveTbl d 4).find? (fun e => e.idx == st) = some e)
    (hkind : byteAt e.res 0 1 = 2) (hfresh : (s.stream d st).fresh = false) (hmade : (Tab.get? (s.die d).streams st).isSome = true) :
    ∃ t : State, exec (.frerResetTimeout d st) s = .next t ∧
      t.stream d st = { s.stream d st with fresh := true, seen := [], high := 0 } ∧
      (s.stream d st).last + 625000 * byteAt e.res 2 2 ≤ t.now ∧ { t with tails := s.tails, dies := s.dies } = s := by
  have hno : ¬ (byteAt e.res 0 1 ≠ 2 ∨ (s.stream d st).fresh = true ∨ (Tab.get? (s.die d).streams st).isNone = true) := by
    rintro (hc | hc | hc)
    · exact hc hkind
    · exact absurd (hc.symm.trans hfresh) (by decide)
    · rw [Option.isNone_iff_eq_none] at hc
      rw [hc] at hmade
      cases hmade
  refine ⟨_, (exec_frerResetTimeout h).trans (if_neg hno), ?_, ?_, rfl⟩
  · unfold State.stream State.setStream
    rw [State.die_setDie_self]
    exact Tab.get_set_self _ _ _ _
  · exact (Nat.le_max_right _ _).trans (Nat.le_of_eq (s.now_advanceTo _).symm)

theorem exec_duplicateEntryForget_none {src seq : Nat}
    (h : (s.die d).dups.find? (fun u => u.stream == st && u.src == src && u.seq == seq) = none) :
    exec (.duplicateEntryForget d st src seq) s = .next s := by
  show execDuplicateEntryForget d st src seq s = _
  unfold execDuplicateEntryForget
  rw [h]

theorem duplicateEntryForget_spec {src seq : Nat} (u0 : Dup)
    (h : (s.die d).dups.find? (fun u => u.stream == st && u.src == src && u.seq == seq) = some u0) :
    ∃ t : State, exec (.duplicateEntryForget d st src seq) s = .next t ∧
      (t.die d).dups = (s.die d).dups.erase u0 ∧ u0.tick + 625000 * s.fld (clsLoc d) R.PRP_CFG_ENTRY_FORGET ≤ t.now ∧
      { t with tails := s.tails, dies := s.dies } = s := by
  obtain ⟨v, hv⟩ : ∃ v, s.advanceTo (u0.tick + 625000 * s.fld (clsLoc d) R.PRP_CFG_ENTRY_FORGET) = v := ⟨_, rfl⟩
  have hvdie : v.die d = s.die d := hv ▸ rfl
  have hvrest : { v with tails := s.tails } = s := hv ▸ rfl
  refine ⟨v.setDie d { v.die d with dups := (v.die d).dups.erase u0 }, ?_, ?_, ?_, ?_⟩
  · rw [← hv]
    show execDuplicateEntryForget d st src seq s = _
    unfold execDuplicateEntryForget
    rw [h]
  · rw [State.die_setDie_self, hvdie]
  · show _ ≤ v.now
    rw [← hv, State.now_advanceTo]
    exact Nat.le_max_right _ _
  · exact (congrArg (fun y : State => { y with dies := s.dies }) hvrest).trans rfl

end

end

/-- Settles O47: what a port takes in by its state, its line and its room, and what the timers of frames end. -/
theorem frameTimersAndReception : Obligations.FrameTimersAndReception := by
  unfold Obligations.FrameTimersAndReception
  refine ⟨fun s d p => ?_, fun s d p _ => ⟨exec_flapHoldExpiry_none, flapHoldExpiry_spec, fun st => ⟨exec_frerResetTimeout_none,
    fun e he => ⟨fun hfresh => (exec_frerResetTimeout he).trans (if_pos (.inr (.inl hfresh))), frerResetTimeout_spec he⟩⟩,
    fun st src seq => ⟨exec_duplicateEntryForget_none, duplicateEntryForget_spec⟩⟩⟩
  intro x st k errd
  refine ⟨fun bs line => ⟨exec_frameReceive_deaf, exec_frameReceive_part, frameReceive_remote⟩, ?_, fun en qs =>
    ⟨exec_pfcFrameReceive_deaf, pfcFrameReceive_spec en qs⟩, fun i hi => ⟨exec_pfcPauseExpiry_none, pfcPauseExpiry_spec hi,
    exec_pfcRefresh_none, pfcRefresh_spec⟩⟩
  intro hlive hnear hup hawake hattempt hinj hplain hcont bs line hlen hpart c err
  exact ⟨State.lineErr_clean bs.length hinj, frameReceive_up ⟨hcont, hattempt, hawake, hplain⟩ hlive hnear hup hinj bs line hlen hpart⟩

end Sys2Proof.Machine
end
